-- ==== Sys2Proof/Word.lean ====
section
/-! DEFINITION. The machine's words: a byte, a 32-bit register or bus word, and signed readings of a number. -/

namespace Sys2Proof

/-- Eight bits, the unit of memory and of every host-link frame. -/
abbrev Byte := BitVec 8

/-- A register or bus word of 32 bits (R16 to R18). -/
abbrev Word := BitVec 32

/-- A status code of R35, as one byte. -/
abbrev Status := BitVec 8

end Sys2Proof
end

