-- ==== Sys2Proof/Syntax.lean ====
section
/-! DEFINITION. The commands: one constructor for each row of spec/opcode_table.json, with the row's operands, and the types of
those operands. -/

namespace Sys2Proof

/-- Who sends a dictionary request: the five host links, the air and firmware (R21, R32). -/
inductive Src where
  | can0 | can1 | t1s | spi | uart | air | firmware
  deriving DecidableEq, Repr

/-- A Culvert consumer input that can remember a trigger (R399, R400). -/
inductive Consumer where
  | timer (n : Fin 8)
  | core (k : Fin 6) (line : Fin 64)
  | sequencer
  deriving DecidableEq, Repr

/-- A DTP protocol data unit (R27). `rsv` says that some reserved bit of the header is set; the data carry the U32 offset
first when `seg` is set. -/
structure Pdu where
  op     : BitVec 4
  fresh  : Bool := false
  last   : Bool := false
  seg    : Bool := false
  rsv    : Bool := false
  tid    : Byte
  index  : BitVec 16
  sub    : Byte
  node   : BitVec 18 := 0
  status : Byte := 0
  data   : List Byte := []
  deriving DecidableEq, Repr

/-- Who makes an access that is not a host request: a logical core, with the address its store was fetched from; the update
engine (R368); or the DMA of a block. -/
inductive Master where
  | core (c : Fin 6) (pc : BitVec 32)
  | engine
  | block
  deriving DecidableEq, Repr

/-- A general register of a KZ core (R324). -/
abbrev Gr := Fin 16

/-- A unit that a self-test finds failing, by logical number where its class has a map; `other` is a unit of a part that no class
covers (R491, R494). -/
inductive TestUnit where
  | rank (r : Fin 3) | sramRow (a : BitVec 32) | lane (l : Fin 32) | engine (e : Fin 4) | slice (l : Fin 32) | core (c : Fin 6)
  | other (part : Fin 9)
  deriving DecidableEq, Repr

/-- How a tunnelled request ends (R47): with its reply, without one, or with a reply whose tag fails. -/
inductive AirEnd where
  | reply | late | badTag
  deriving DecidableEq, Repr

/-- A kind of twin state that the active device journals (R504). -/
inductive MirrorKind where
  | roster | routes | schedule | keys | gearing | sluice
  deriving DecidableEq, Repr

/-- A command to the block: one constructor for each row of the command table. -/
inductive Instr where
  /-- ROLE_WRITE (R3): The host writes the role entry; the device checks the value, the current role and the needed power domains, then accepts or refuses the role. -/
  | roleWrite (src : Src) (tid : Byte) (v : Byte)
  /-- READ (R27): A DTP READ with SEG 0 reads a whole entry and is answered with a READ_RESP. -/
  | read (src : Src) (tid : Byte) (index : BitVec 16) (sub : Byte) (node : BitVec 18)
  /-- SEG_READ (R29): A DTP READ with SEG 1 reads one segment of a STR or DOMAIN entry from the offset given. -/
  | segRead (src : Src) (tid : Byte) (index : BitVec 16) (sub : Byte) (node : BitVec 18) (off : BitVec 32)
  /-- WRITE (R27): A DTP WRITE with SEG 0 writes a whole entry; it is checked for type and length, and for some entries it triggers an action. -/
  | write (src : Src) (tid : Byte) (index : BitVec 16) (sub : Byte) (node : BitVec 18) (data : List Byte)
  /-- SEG_WRITE (R29): A DTP WRITE with SEG 1 delivers one segment of a segmented transfer; the whole value is checked and applied at the LAST segment. -/
  | segWrite (src : Src) (tid : Byte) (index : BitVec 16) (sub : Byte) (node : BitVec 18) (off : BitVec 32) (last : Bool) (data : List Byte)
  /-- DTP_ABORT (R29): A host ABORT ends the segmented transfer it names and is answered with a WRITE_RESP. -/
  | dtpAbort (src : Src) (tid : Byte) (index : BitVec 16) (sub : Byte) (node : BitVec 18)
  /-- BAD_OP_REQUEST (R27): A PDU with an unknown OP is answered by a WRITE_RESP with status BAD_OP. -/
  | badOpRequest (src : Src) (op : BitVec 4) (tid : Byte) (index : BitVec 16) (sub : Byte) (node : BitVec 18)
  /-- SEGMENT_TIMEOUT (R29): A segmented transfer that receives no segment for 1 s is aborted, and the device sends an ABORT PDU with status ABORTED. -/
  | segmentTimeout (src : Src) (tid : Byte)
  /-- SAVE_SETTINGS (R23): A new request number in SAVE_SETTINGS starts a save of every retained entry in the two-copy form, or is answered BUSY when a save is already running. -/
  | saveSettings (src : Src) (tid : Byte) (v : BitVec 32)
  /-- SAVE_DONE (R379): A save of the retained settings completes: the copy's sequence word is programmed last and SAVE_STATUS is set. -/
  | saveDone
  /-- PROXY_READ (R45): A proxy READ is answered at once with the previous value and NOT_READY, and the request is queued over the air. -/
  | proxyRead (src : Src) (tid : Byte) (index : BitVec 16) (sub : Byte) (node : BitVec 18)
  /-- PROXY_WRITE (R45): A proxy WRITE is queued in Sluice and answered OK; the outcome comes later in a NOTIFY. -/
  | proxyWrite (src : Src) (tid : Byte) (index : BitVec 16) (sub : Byte) (node : BitVec 18) (data : List Byte)
  /-- PROXY_BROADCAST_WRITE (R45): A proxy WRITE with NODE 0x3FFFF queues one broadcast frame, and a NOTIFY follows when it leaves or is refused. -/
  | proxyBroadcastWrite (src : Src) (tid : Byte) (index : BitVec 16) (sub : Byte) (data : List Byte)
  /-- PROXY_REPLY (R45): A remote node's reply to a proxy request arrives; its value is stored as a result and a NOTIFY is sent. -/
  | proxyReply (bad : Option (BitVec 18))
  /-- PROXY_TIMEOUT (R46): A proxy request that gets no reply within PROXY_TIMEOUT ends with status LATE. -/
  | proxyTimeout
  /-- AIR_REQUEST (R47): A write of AIR_REQUEST to a tunnel slot sends the enclosed PDU to the named node, or the write is refused. -/
  | airRequest (src : Src) (tid : Byte) (slot : Fin 16) (v : List Byte)
  /-- AIR_RESULT (R47): The response to a tunnelled request, a timeout or a failed route is stored in AIR_RESULT, and a NOTIFY is sent. -/
  | airResult (slot : Fin 16) (how : AirEnd)
  /-- REMOTE_DTP_REQUEST (R21): A node serves a DTP PDU that arrived over the air on port 0x01 under remote-class access. -/
  | remoteDtpRequest
  /-- CAN_APPLY (R48): A new request number in a CAN FD apply entry brings that controller's settings into force 1 ms after the response. -/
  | canApply (src : Src) (tid : Byte) (can1 : Bool) (v : BitVec 32)
  /-- T1S_APPLY (R48): A new request number in T1S_APPLY brings the 10BASE-T1S settings into force 1 ms after the response. -/
  | t1sApply (src : Src) (tid : Byte) (v : BitVec 32)
  /-- SPI_QUAD_WRITE (R40): A write of SPI_QUAD switches the host SPI port between single-lane and quad mode after the response. -/
  | spiQuadWrite (src : Src) (tid : Byte) (v : Bool)
  /-- UART_RATE_WRITE (R42): A write of UART_RATE changes the UART bit rate after the response. -/
  | uartRateWrite (src : Src) (tid : Byte) (v : BitVec 32)
  /-- CAN_FRAME_RECEIVE (R37): A frame on a CAN FD request identifier is taken as one request PDU, or ignored and counted if it carries no PDU. -/
  | canFrameReceive (can1 : Bool) (ident : BitVec 11) (data : List Byte)
  /-- CAN_BUS_OFF_RECOVERY (R36): A CAN FD controller in bus-off recovers automatically after 128 occurrences of 11 recessive bits. -/
  | canBusOffRecovery (can1 : Bool)
  /-- T1S_FRAME_RECEIVE (R39): An Ethernet frame with EtherType 0x88B5 is checked and its PDUs are taken as requests, or the frame is discarded and counted. -/
  | t1sFrameReceive (frame : List Byte)
  /-- SPI_READ_STATUS (R40): SPI command 0x05 returns the SPI_STATUS byte for as long as SPI_CS_N stays low, clearing its RC bits. -/
  | spiReadStatus
  /-- SPI_WRITE_FRAME (R41): SPI command 0x02 delivers a write frame of PDUs, which is taken into the inbox or discarded and counted. -/
  | spiWriteFrame (bytes : List Byte)
  /-- SPI_READ_FRAME (R41): SPI command 0x03 clocks out a read frame of responses and NOTIFY PDUs, which are consumed only when the whole frame is read. -/
  | spiReadFrame (clocked : Nat)
  /-- SPI_UNKNOWN_COMMAND (R537): An unknown SPI command byte starts no transaction: SPI_IO1 is driven low until SPI_CS_N rises, and FMTERR is set. -/
  | spiUnknownCommand (c : Byte)
  /-- UART_FRAME_RECEIVE (R42): A UART frame between flags is unescaped and checked, and its PDUs are taken as requests or the frame is discarded and counted. -/
  | uartFrameReceive (bytes : List Byte)
  /-- HEARTBEAT_TICK (R49): The heartbeat entry counts up by one at the end of each heartbeat period while the server and the supervisor's checks pass. -/
  | heartbeatTick
  /-- FN_REINIT (R50): A new request number in FN_REINIT re-initialises the named function and ends its requests in flight with FUNCTION_RESET. -/
  | fnReinit (src : Src) (tid : Byte) (n : Fin 20) (v : BitVec 32)
  /-- DEVICE_RESET_WRITE (R451): A write to DEVICE_RESET of a new value with the key in its top bits resets the device without a response. -/
  | deviceResetWrite (src : Src) (tid : Byte) (v : BitVec 32)
  /-- PTB_TICK (R53): Each crystal tick, or each 32.768 kHz tick while the crystal is stopped, advances the phase domains. -/
  | ptbTick
  /-- PTB_CLOCK_SWITCH (R53): The PTB moves between the crystal clock and the 32.768 kHz clock on a 32.768 kHz edge, without a phase step. -/
  | ptbClockSwitch (lf : Bool)
  /-- LF_TRIM_MEASURE (R54): After the crystal has run continuously for 1 s, the PTB measures the 32.768 kHz clock and updates LF_TRIM. -/
  | lfTrimMeasure (ppb : Int)
  /-- QUAD_TRANSITION (R57): An accepted A or B transition of a quadrature source changes the count by one and sets the phase. -/
  | quadTransition (refB : Bool) (a b : Bool)
  /-- INDEX_EDGE (R58): A rising _Z edge while the count moves forward sets the phase to INDEX_PHASE and records INDEX_ERR. -/
  | indexEdge (refB : Bool)
  /-- REF_EDGE (R56): A _Z edge of a one-edge or two-edge source sets the phase of PD2 or PD3, or is rejected by the glitch filter. -/
  | refEdge (refB : Bool) (rising : Bool)
  /-- DOMAIN_STALL (R62): A domain whose source sends no edge for STALL_MS stalls: its phase holds and PTB_STALLn fires. -/
  | domainStall (refB : Bool)
  /-- NET_CYCLE_WRITE (R69): A write of NET_CYCLE or NET_CYCLE_AT arms or replaces the pending change of the network cycle, or is refused LATE. -/
  | netCycleWrite (src : Src) (tid : Byte) (at_ : Bool) (v : BitVec 32)
  /-- NET_CYCLE_CHANGE (R69): At phase 0 of the named cycle, the new nominal cycle takes effect and every PD1 rate is scaled. -/
  | netCycleChange
  /-- GEAR_UPDATE (R71): Once every 32,768 crystal ticks, gearing recomputes PD1's rate and state. -/
  | gearUpdate
  /-- PD_STEP_WRITE (R75): A write to PDn_STEP steps the phase by a signed amount and acts on the comparators crossed. -/
  | pdStepWrite (n : Fin 4) (step : BitVec 32)
  /-- COMPARATOR_ARM (R80): A write of EN = 1 arms a comparator from the present phase; an ABS target already past sets LATE. -/
  | comparatorArm (m : Fin 16) (cfg : BitVec 32)
  /-- PTB_SNAP (R85): A write to SNAP latches all four domains in one tick. -/
  | ptbSnap
  /-- PD_PHASE_READ (R85): A read of PDn_PHASE latches that domain's CYCLE and VEL into shadows. -/
  | pdPhaseRead (n : Fin 4)
  /-- REGION_PLAN_WRITE (R90): A write of REGION_PLAN in role 0 sets the plan, resets CHANNEL_MASK and loads the regulatory defaults. -/
  | regionPlanWrite (src : Src) (tid : Byte) (v : Byte)
  /-- NETWORK_ID_WRITE (R90): A write of NETWORK_ID is accepted only in role 0. -/
  | networkIdWrite (src : Src) (tid : Byte) (v : BitVec 16)
  /-- CHANNEL_MASK_WRITE (R90): A write of CHANNEL_MASK is checked against the plan and held until the next slot boundary. -/
  | channelMaskWrite (src : Src) (tid : Byte) (v : List Byte)
  /-- CHANNEL_MASK_APPLY (R90): At the next slot boundary the new mask takes effect, and scheduled transmissions on removed channels are dropped. -/
  | channelMaskApply
  /-- WAVEFORM_TEST_REQUEST (R116): A new TEST_REQUEST starts an encoder or chip-sequence test, or is refused BUSY or ends at once with OUT_OF_RANGE. -/
  | waveformTestRequest (src : Src) (tid : Byte) (v : BitVec 32)
  /-- WAVEFORM_TEST_DONE (R116): A waveform test completes and TEST_OUTPUT and TEST_STATUS are set. -/
  | waveformTestDone
  /-- RFS_ABORT (R128): An ABORT command ends RX or TX at once, drops the pending command and enters its auto-return state. -/
  | rfsAbort (lnk : Bool) (v : BitVec 32)
  /-- RFS_SLEEP (R124): A SLEEP command moves the sequencer to SLEEP when its trigger fires. -/
  | rfsSleep (lnk : Bool) (v : BitVec 32)
  /-- RFS_STANDBY (R124): A STANDBY command moves the sequencer to STANDBY when its trigger fires. -/
  | rfsStandby (lnk : Bool) (v : BitVec 32)
  /-- RFS_SYNTH_READY (R124): A SYNTH_READY command locks the synthesiser on the commanded LO when its trigger fires. -/
  | rfsSynthReady (lnk : Bool) (v : BitVec 32)
  /-- RFS_RX (R129): An RX command starts a listen window on a channel, or on the whole capture in wideband mode, or is refused. -/
  | rfsRx (lnk : Bool) (v : BitVec 32)
  /-- RFS_TX (R125): A TX command from the link controller transmits a frame or burst, and one from firmware is refused. -/
  | rfsTx (lnk : Bool) (v : BitVec 32)
  /-- RFS_BAD_COMMAND (R145): An RFS_CMD value of 6 or 7 sets BADCMD and does nothing. -/
  | rfsBadCommand (lnk : Bool) (v : BitVec 32)
  /-- RFS_TRIGGER (R126): An armed command's trigger fires, and the command starts its transition or becomes pending. -/
  | rfsTrigger (c : Fin 64)
  /-- PENDING_COMMAND_START (R127): A pending command starts once the synthesiser is ready and any frame has ended, or is dropped as LATE. -/
  | pendingCommandStart (delay : Nat)
  /-- RF_TRANSITION_DONE (R122): A sequencer transition completes and the new state is entered. -/
  | rfTransitionDone
  /-- TX_FRAME_END (R123): A transmitted frame's last chip leaves, the PA ramps down and the sequencer takes the auto-return. -/
  | txFrameEnd (gamma : BitVec 32) (fb : Byte)
  /-- RX_WINDOW_CLOSE (R123): An RX listen window closes with no frame found, and the sequencer takes the auto-return. -/
  | rxWindowClose
  /-- SYNTH_UNLOCK (R120): The synthesiser loses lock: the frame is ended or discarded, and the sequencer recalibrates. -/
  | synthUnlock
  /-- CAL_REQUEST (R133): A calibration request through RFS_CAL_REQ or CAL_REQUEST adds the selected calibrations to the set to run. -/
  | calRequest (src : Src) (tid : Byte) (v : BitVec 32)
  /-- CAL_STEP (R133): A calibration step of at most 25 µs runs at an idle moment. -/
  | calStep (finishes : Bool) (r : BitVec 32) (rej : BitVec 16) (gamma : BitVec 32)
  /-- CAL_AUTO_TRIGGER (R135): A change of temperature or supply beyond its limit starts the repeat of calibrations 0 to 3. -/
  | calAutoTrigger
  /-- IMAGE_REJ_UPDATE (R137): Every 1 s in wideband mode, image rejection is estimated from quiet mirror-channel pairs and the correction is updated. -/
  | imageRejUpdate (gain phase : Int)
  /-- ANT_FAULT_TRIP (R140): |Γ| above 0.8 during a transmission ends the frame, sets ANT_FAULT and blocks TX. -/
  | antFaultTrip (gamma : BitVec 32)
  /-- ANT_FAULT_CLEAR (R140): A write of 0 to ANT_FAULT clears the fault and re-enables TX. -/
  | antFaultClear (src : Src) (tid : Byte)
  /-- WIDEBAND_AGC_STEP (R150): At each slot boundary the wideband AGC may change the LNA gain by one step. -/
  | widebandAgcStep (loud quiet : Bool) (clipped : Nat) (hit : List (Fin 32))
  /-- RECORD_GAP (R153): When DRAM cannot take record writes for over 64 µs, the receiver skips samples and sets RECORD_GAP. -/
  | recordGap (a b : Nat)
  /-- PREAMBLE_DETECTION (R156): A slice detects a preamble; the detection is dropped as duplicate, attached as a shadow, or given a lane or queued. -/
  | preambleDetection (ch : BitVec 7) (m : Fin 6) (t0 : Nat) (freq power snr noise : Int) (gain : Fin 6) (under : Option Nat)
  /-- ALLOC_QUEUE_TIMEOUT (R161): A queued detection still without a lane when its first sync symbol begins goes to the spill list or is dropped. -/
  | allocQueueTimeout
  /-- LANE_ASSIGN (R162): A freed lane takes the first waiting item from the allocation queue, the replays or the spill list. -/
  | laneAssign (now : Nat)
  /-- SYNC_CHECK (R163): At the end of the second sync symbol the lane passes or fails the sync check. -/
  | syncCheck (l : Fin 32) (pass : Bool)
  /-- HEADER_DEMODULATED (R164): A lane passes the header codeword to the decoders once the last header symbol is demodulated. -/
  | headerDemodulated (l : Fin 32)
  /-- HEADER_RESULT (R164): A decoded header is checked under R104; the lane discards the frame or computes S and the payload seed. -/
  | headerResult (l : Fin 32) (est : BitVec 40)
  /-- PAYLOAD_DEMODULATED (R166): The lane's last soft bit leaves; the lane frees itself and keeps a regeneration descriptor. -/
  | payloadDemodulated (l : Fin 32) (rssi snr freq endErr : Int) (blanked : Bool)
  /-- REPLAY_LOST (R167): A replay whose read position falls more than REC_MS behind ends with outcome LOST. -/
  | replayLost (l : Fin 32)
  /-- DECODE_START (R168): A free decoder engine takes the first codeword of the queue. -/
  | decodeStart
  /-- DECODE_DONE (R169): An engine converges or reaches MAX_ITER, and returns the codeword or a failure. -/
  | decodeDone (e : Fin 4) (converged : Bool) (iter : Nat) (bytes : List Byte) (weak : Nat)
  /-- SYNDROME_CHECK_DONE (R170): The checker passes a converged codeword and releases its tag result, or retires the engine and decodes again. -/
  | syndromeCheckDone (e : Fin 4) (pass : Bool) (us : Int)
  /-- REGEN_CHECK_WINDOW (R172): After the check window is subtracted, regeneration continues or is undone with REGEN_POOR. -/
  | regenCheckWindow (l : Fin 32) (fall : Int)
  /-- REGEN_DONE (R172): The subtraction of a regenerated frame from the record completes. -/
  | regenDone (l : Fin 32)
  /-- RECEPTION_REPORT (R177): The receiver writes a frame's report and block, advances LANE_RING_WR and fires LANE_REPORT. -/
  | receptionReport
  /-- LANE_RETIRE (R187): A failed lane is retired and replaced by a spare, or leaves service at reduced capacity. -/
  | laneRetire (l : Fin 32) (residue regen : Bool) (now : Nat)
  /-- SLICE_RETIRE (R187): A failed slice is retired and replaced by a spare, or its bins go deaf. -/
  | sliceRetire (l : Fin 32)
  /-- ENGINE_RETIRE (R187): A failed decoder engine is retired and replaced, and its codewords are decoded again. -/
  | engineRetire (e : Fin 4)
  /-- SPARE_SEARCH_DONE (R187): A spare slice that has taken over finishes re-searching the last 20 ms of the record. -/
  | spareSearchDone (l : Fin 32)
  /-- GRANT_REQUEST (R199): A write of TXM_GRANT_REQ asks for a power grant, and the transmitter answers within 1 µs. -/
  | grantRequest (lnk : Bool) (v : BitVec 32)
  /-- CARRIER_END (R198): A carrier's last chip leaves; when the last carrier ends, TX → RX begins. -/
  | carrierEnd (c : Fin 8) (gamma : BitVec 32) (fb : Byte)
  /-- DPD_FEEDBACK_WINDOW (R206): The 4,096-sample feedback window of a pre-distorted transmission closes and the fit starts. -/
  | dpdFeedbackWindow
  /-- DPD_FIT_DONE (R206): The fit completes, the band's set is adapted and a verdict moves the band's ceiling. -/
  | dpdFitDone (fit : List (BitVec 32)) (aclr : BitVec 16) (levelOff : Bool)
  /-- DPD_SAVE (R211): A new DPD_SAVE copies the converged sets into DPD_COEF and starts a full save. -/
  | dpdSave (src : Src) (tid : Byte) (v : BitVec 32)
  /-- DPD_COEF_WRITE (R211): A write of DPD_COEF in role 0 loads the saved pre-distortion sets. -/
  | dpdCoefWrite (src : Src) (tid : Byte) (v : List Byte)
  /-- SCHED_APPLY (R214): A new SCHED_APPLY checks the shadow schedule and arms it for cycle SCHED_AT, or refuses it. -/
  | schedApply (src : Option Src) (tid : Byte) (v : BitVec 32)
  /-- SCHED_SWITCH (R214): At phase 0 of SCHED_AT the shadow schedule comes into force and the epoch changes. -/
  | schedSwitch
  /-- SEND_OCCURRENCE (R217): A SEND occurrence sends the eligible head frame of the queues so that its last chip ends at E. -/
  | sendOccurrence (i : Fin 64) (lbt : Int) (conflict : Bool)
  /-- SERVE_WINDOW_END (R213): The uplink window of a SERVE occurrence closes at E. -/
  | serveWindowEnd (i : Fin 64)
  /-- ACK_SEAL (R218): SEAL_US after E, the acknowledgement set is sealed, advice is copied in and downlinks are made PENDING. -/
  | ackSeal (lbt : List (Nat × Int))
  /-- GROUP_ACK_SEND (R219): 480 µs after E the acknowledgement or group acknowledgement leaves. -/
  | groupAckSend
  /-- DOWNLINK_BURST (R221): At the start of the downlink window the downlink burst to the PENDING nodes leaves. -/
  | downlinkBurst (lbt : List (Nat × Int))
  /-- ACK_RECEIVE (R228): A sender receives an acknowledgement with its node number and takes its frame as acknowledged. -/
  | ackReceive (err : Int)
  /-- ACK_MISSED (R229): A frame with ACK_REQ not acknowledged returns to the head of its queue or is given up after RETRY_MAX. -/
  | ackMissed
  /-- BEACON_TX (R231): A BEACON_TX occurrence sends a beacon whose first chip leaves at the start of slot START. -/
  | beaconTx (i : Fin 64) (lbt : Int) (conflict : Bool)
  /-- ANCHOR_BEACON_TX (R234): A device that sends beacons sends an anchor beacon whose last chip ends in the anchor slot. -/
  | anchorBeaconTx (lbt : Int)
  /-- BEACON_ACCEPT (R233): A node accepts a beacon from its parent as a sync point and steps and trims PD1. -/
  | beaconAccept (err : Int)
  /-- ENTER_CATCH (R236): A node whose guard window grows beyond a quarter slot suspends SEND and SERVE and seeks beacons. -/
  | enterCatch
  /-- BEACON_MISS (R236): A node in CATCH misses a beacon at a parent or ALT_CH instant. -/
  | beaconMiss
  /-- ENTER_LOST (R237): A node enters LOST, raises LOST_SYNC and listens for anchor beacons. -/
  | enterLost
  /-- ENTER_DORMANT (R236): After LOST_LIMIT anchor periods without an anchor, a node enters DORMANT. -/
  | enterDormant
  /-- ANCHOR_ACCEPT (R236): A node in LOST or DORMANT accepts an anchor beacon, becomes SYNCED and takes its sender as parent. -/
  | anchorAccept (err : Int)
  /-- DORMANT_LISTEN (R236): A DORMANT node listens for one anchor period in every DORMANT_GAP anchor periods. -/
  | dormantListen
  /-- BUCKET_REFILL_TICK (R273): Every 1.024 ms of PD0 travel, Sluice refills every regulatory and shaper bucket. -/
  | bucketRefillTick (n : Nat)
  /-- ROUTE_COMMIT (R251): A new ROUTE_COMMIT or a write of CWY_COMMIT copies the shadow and starts a build. -/
  | routeCommit (src : Option Src) (tid : Byte) (v : BitVec 32)
  /-- ROUTE_BUILD_DONE (R251): A table build completes with a pass or a failure. -/
  | routeBuildDone
  /-- ROUTE_TABLE_SWITCH (R251): At the next slot boundary after a passing build, the new table comes into force. -/
  | routeTableSwitch
  /-- ROSTER_LIVE_UPDATE (R255): Within 2 µs of a tag result, Causeway updates the live fields or the AUTH_FAIL_COUNT of the claimed node. -/
  | rosterLiveUpdate
  /-- RELAY_DECISION (R262): Causeway delivers, forwards, drops or holds a delivered frame addressed to this device. -/
  | relayDecision
  /-- PEER_FRAME_RECEIVE (R267): A PEER frame from the Peer Link is delivered and decided under the device's own table. -/
  | peerFrameReceive (hdr lh payload : List Byte) (slot : Nat) (m : Fin 6)
  /-- ROSTER_OP_REQUEST (R258): A new OP_REQUEST starts an ADD or REMOVE over a range of node numbers, or is refused. -/
  | rosterOpRequest (src : Src) (tid : Byte) (v : BitVec 32)
  /-- ROSTER_OP_DONE (R258): A roster operation completes or stops, and OP_STATUS and OP_DONE are set. -/
  | rosterOpDone
  /-- RESTORE_REQUEST (R259): A new RESTORE_REQUEST writes RESTORE_IMAGE as a node's record and clears POISONED. -/
  | restoreRequest (src : Src) (tid : Byte) (v : BitVec 32)
  /-- SLU_ALLOC_READ (R276): A read of SLU_ALLOC takes a free store slot. -/
  | sluAllocRead
  /-- SLU_ENQ (R276): A write of SLU_ENQ queues a frame and sets SLU_ENQ_RESULT. -/
  | sluEnq (v : BitVec 32)
  /-- KEY_WRITE (R284): A write of a network, node or firmware key is loaded by core 4 and stored in the key area. -/
  | keyWrite (src : Src) (tid : Byte) (sub : Fin 7) (v : List Byte)
  /-- KEY_CHANGE_REQUEST (R289): A new KEY_CHANGE_REQUEST is checked and arms a key-epoch change, or is refused. -/
  | keyChangeRequest (src : Src) (tid : Byte) (v : BitVec 32)
  /-- KEY_ROTATION (R289): At phase 0 of KEY_CHANGE_AT the next keys become current and the former previous epoch is erased. -/
  | keyRotation
  /-- PREVIOUS_EPOCH_ERASE (R290): At KEY_CHANGE_AT + KEY_GRACE the previous epoch is erased. -/
  | previousEpochErase
  /-- KEY_NEXT_WRITE (R295): A write of KEY_NEXT on a leaf removes the masks, loads the next keys and arms the change when complete. -/
  | keyNextWrite (src : Src) (tid : Byte) (v : List Byte)
  /-- NET_NEXT_WRITE (R297): A write of NET_NEXT on a relay removes the mask, loads the next network key and arms the change. -/
  | netNextWrite (src : Src) (tid : Byte) (v : List Byte)
  /-- WRAP_REQUEST (R298): A new WRAP_REQUEST makes the CMC compose KEY_NEXT or NET_NEXT for one node. -/
  | wrapRequest (src : Src) (tid : Byte) (v : BitVec 32)
  /-- KEY_ERASE (R322): A new KEY_ERASE in role 0 erases slots 0 to 14 and the key area. -/
  | keyErase (src : Src) (tid : Byte) (v : BitVec 32)
  /-- CMC_ABORT (R301): CMC command ABORT ends the page's job and clears its state. -/
  | cmcAbort (m : Master) (p : Fin 8)
  /-- CMC_GEN (R301): CMC command GEN starts a full CMAC of a message. -/
  | cmcGen (m : Master) (p : Fin 8)
  /-- CMC_VERIFY (R301): CMC command VERIFY starts a CMAC and a constant-time compare with CMC_CMP. -/
  | cmcVerify (m : Master) (p : Fin 8)
  /-- CMC_WRAP (R301): CMC command WRAP starts the composition of KEY_NEXT or NET_NEXT for a node. -/
  | cmcWrap (m : Master) (p : Fin 8)
  /-- CMC_TEST (R301): CMC command TEST starts a GEN or KDF under the page key. -/
  | cmcTest (m : Master) (p : Fin 8)
  /-- CMC_BLOCK_DONE (R302): An AES block ends and the engine gives the next block to an urgent or background job. -/
  | cmcBlockDone
  /-- CMC_JOB_DONE (R301): A CMC job completes and its page status is set. -/
  | cmcJobDone (p : Fin 8)
  /-- KS_LOAD (R283): A write of KS_LOAD by core 4 loads a key-store slot with its mask and flags. -/
  | ksLoad (m : Master) (v : BitVec 32)
  /-- KS_ERASE (R283): A write of KS_ERASE by core 4 erases the named key-store slots. -/
  | ksErase (m : Master) (v : BitVec 32)
  /-- PKE_HASH_START (R307): PKE command 1 starts a SHA-384 hash. -/
  | pkeHashStart (m : Master)
  /-- PKE_HASH_CONTINUE (R307): PKE command 2 continues a SHA-384 hash. -/
  | pkeHashContinue (m : Master)
  /-- PKE_HASH_FINAL (R307): PKE command 3 finishes a SHA-384 hash into the digest. -/
  | pkeHashFinal (m : Master)
  /-- PKE_VERIFY (R307): PKE command 4 starts an ECDSA verification. -/
  | pkeVerify (m : Master)
  /-- PKE_SIGN (R307): A sign command from core 4 starts an ECDSA signature with the identity key. -/
  | pkeSign (m : Master)
  /-- PKE_JOB_DONE (R307): A hash or point job of the PKE completes. -/
  | pkeJobDone (hash : Bool)
  /-- OTP_PROGRAM (R311): Core 4 programs an OTP word and compares the readback, or the request is refused for low supply. -/
  | otpProgram (i : Fin 1024) (v got : BitVec 32)
  /-- CUST_KEY_HASH_WRITE (R312): A write of CUST_KEY_HASH programs a customer key-hash slot in OTP. -/
  | custKeyHashWrite (src : Src) (tid : Byte) (k : Fin 4) (v : List Byte) (got : BitVec 32)
  /-- CUST_KEY_REVOKE (R313): A write of CUST_KEY_REVOKED burns revocation bits, unless it would revoke the last slot. -/
  | custKeyRevoke (src : Src) (tid : Byte) (v : Byte) (got : BitVec 32)
  /-- ROLLBACK_MIN_WRITE (R314): A write of ROLLBACK_MIN burns thermometer bits to raise a class's minimum level. -/
  | rollbackMinWrite (src : Src) (tid : Byte) (c : Fin 4) (v : Byte) (got : BitVec 32)
  /-- DEBUG_LOCK_WRITE (R315): A write of 1 to DEBUG_LOCK closes core debug access for good. -/
  | debugLockWrite (src : Src) (tid : Byte) (v : Bool) (got : BitVec 32)
  /-- ATT_REQUEST (R317): A new ATT_REQUEST copies the nonce and starts an attestation report. -/
  | attRequest (src : Src) (tid : Byte) (v : BitVec 32)
  /-- ATT_REPORT_DONE (R318): The signed attestation report is ready and stored in ATT_REPORT. -/
  | attReportDone
  /-- SECURITY_TEST_REQUEST (R322): A new security TEST_REQUEST starts a KDF or CMAC test, or is refused BUSY. -/
  | securityTestRequest (src : Src) (tid : Byte) (v : BitVec 32)
  /-- SECURITY_TEST_DONE (R322): A KDF or CMAC test completes into TEST_OUT and TEST_STATUS. -/
  | securityTestDone
  /-- ADD (R329): rd = ra + rb with flags Z N C V. -/
  | add (c : Fin 6) (rd ra rb : Gr)
  /-- SUB (R329): rd = ra − rb with flags Z N C V. -/
  | sub (c : Fin 6) (rd ra rb : Gr)
  /-- ADC (R329): rd = ra + rb + C. -/
  | adc (c : Fin 6) (rd ra rb : Gr)
  /-- SBC (R329): rd = ra − rb − (1 − C). -/
  | sbc (c : Fin 6) (rd ra rb : Gr)
  /-- AND (R329): Bitwise AND of ra and rb. -/
  | and (c : Fin 6) (rd ra rb : Gr)
  /-- OR (R329): Bitwise OR of ra and rb. -/
  | or (c : Fin 6) (rd ra rb : Gr)
  /-- XOR (R329): Bitwise XOR of ra and rb. -/
  | xor (c : Fin 6) (rd ra rb : Gr)
  /-- ANDN (R329): ra AND NOT rb. -/
  | andn (c : Fin 6) (rd ra rb : Gr)
  /-- SHL (R329): Left shift of ra by rb[7:0]. -/
  | shl (c : Fin 6) (rd ra rb : Gr)
  /-- SHR (R329): Logical right shift of ra by rb[7:0]. -/
  | shr (c : Fin 6) (rd ra rb : Gr)
  /-- SAR (R329): Arithmetic right shift of ra by rb[7:0]. -/
  | sar (c : Fin 6) (rd ra rb : Gr)
  /-- ROR (R329): Rotate right of ra by rb[7:0] mod 32. -/
  | ror (c : Fin 6) (rd ra rb : Gr)
  /-- SLT (R329): rd = 1 if ra < rb signed. -/
  | slt (c : Fin 6) (rd ra rb : Gr)
  /-- SLTU (R329): rd = 1 if ra < rb unsigned. -/
  | sltu (c : Fin 6) (rd ra rb : Gr)
  /-- MIN (R329): Signed minimum of ra and rb. -/
  | min (c : Fin 6) (rd ra rb : Gr)
  /-- MAX (R329): Signed maximum of ra and rb. -/
  | max (c : Fin 6) (rd ra rb : Gr)
  /-- MINU (R329): Unsigned minimum of ra and rb. -/
  | minu (c : Fin 6) (rd ra rb : Gr)
  /-- MAXU (R329): Unsigned maximum of ra and rb. -/
  | maxu (c : Fin 6) (rd ra rb : Gr)
  /-- MUL (R329): Low 32 bits of ra × rb, with V on signed overflow. -/
  | mul (c : Fin 6) (rd ra rb : Gr)
  /-- MULH (R329): High 32 bits of the signed 64-bit product. -/
  | mulh (c : Fin 6) (rd ra rb : Gr)
  /-- MULHU (R329): High 32 bits of the unsigned 64-bit product. -/
  | mulhu (c : Fin 6) (rd ra rb : Gr)
  /-- DIV (R331): Signed quotient rounded toward 0, with the edge cases of R331. -/
  | div (c : Fin 6) (rd ra rb : Gr)
  /-- DIVU (R331): Unsigned quotient, with division by zero giving 0xFFFF_FFFF. -/
  | divu (c : Fin 6) (rd ra rb : Gr)
  /-- REM (R331): Signed remainder with the sign of the dividend. -/
  | rem (c : Fin 6) (rd ra rb : Gr)
  /-- REMU (R331): Unsigned remainder. -/
  | remu (c : Fin 6) (rd ra rb : Gr)
  /-- NEG (R331): rd = 0 − ra. -/
  | neg (c : Fin 6) (rd ra : Gr)
  /-- ABS (R331): rd = |ra|. -/
  | abs (c : Fin 6) (rd ra : Gr)
  /-- CLZ (R329): Count of leading zeros of ra. -/
  | clz (c : Fin 6) (rd ra : Gr)
  /-- SEXB (R329): Sign-extend ra[7:0]. -/
  | sexb (c : Fin 6) (rd ra : Gr)
  /-- SEXH (R329): Sign-extend ra[15:0]. -/
  | sexh (c : Fin 6) (rd ra : Gr)
  /-- BREV (R329): Reverse the 32 bits of ra. -/
  | brev (c : Fin 6) (rd ra : Gr)
  /-- BSWAP (R329): Reverse the 4 bytes of ra. -/
  | bswap (c : Fin 6) (rd ra : Gr)
  /-- ADDI (R330): rd = ra + sext(imm18). -/
  | addi (c : Fin 6) (rd ra : Gr) (imm : BitVec 18)
  /-- ANDI (R330): AND with a zero-extended immediate. -/
  | andi (c : Fin 6) (rd ra : Gr) (imm : BitVec 18)
  /-- ORI (R330): OR with a zero-extended immediate. -/
  | ori (c : Fin 6) (rd ra : Gr) (imm : BitVec 18)
  /-- XORI (R330): XOR with a zero-extended immediate. -/
  | xori (c : Fin 6) (rd ra : Gr) (imm : BitVec 18)
  /-- SHLI (R330): Left shift by an immediate count. -/
  | shli (c : Fin 6) (rd ra : Gr) (n : Byte)
  /-- SHRI (R330): Logical right shift by an immediate count. -/
  | shri (c : Fin 6) (rd ra : Gr) (n : Byte)
  /-- SARI (R330): Arithmetic right shift by an immediate count. -/
  | sari (c : Fin 6) (rd ra : Gr) (n : Byte)
  /-- RORI (R330): Rotate right by an immediate count. -/
  | rori (c : Fin 6) (rd ra : Gr) (n : Byte)
  /-- SLTI (R330): Signed compare with an immediate. -/
  | slti (c : Fin 6) (rd ra : Gr) (imm : BitVec 18)
  /-- SLTIU (R330): Unsigned compare with a sign-extended immediate. -/
  | sltiu (c : Fin 6) (rd ra : Gr) (imm : BitVec 18)
  /-- LUI (R330): rd = imm22 << 10. -/
  | lui (c : Fin 6) (rd : Gr) (imm : BitVec 22)
  /-- AUIPC (R330): rd = PC + (imm22 << 10). -/
  | auipc (c : Fin 6) (rd : Gr) (imm : BitVec 22)
  /-- LDW (R332): Load a word. -/
  | ldw (c : Fin 6) (rd ra : Gr) (imm : BitVec 18)
  /-- LDH (R332): Load a sign-extended halfword. -/
  | ldh (c : Fin 6) (rd ra : Gr) (imm : BitVec 18)
  /-- LDHU (R332): Load a zero-extended halfword. -/
  | ldhu (c : Fin 6) (rd ra : Gr) (imm : BitVec 18)
  /-- LDB (R332): Load a sign-extended byte. -/
  | ldb (c : Fin 6) (rd ra : Gr) (imm : BitVec 18)
  /-- LDBU (R332): Load a zero-extended byte. -/
  | ldbu (c : Fin 6) (rd ra : Gr) (imm : BitVec 18)
  /-- STW (R332): Store a word. -/
  | stw (c : Fin 6) (rd ra : Gr) (imm : BitVec 18)
  /-- STH (R332): Store a halfword. -/
  | sth (c : Fin 6) (rd ra : Gr) (imm : BitVec 18)
  /-- STB (R332): Store a byte. -/
  | stb (c : Fin 6) (rd ra : Gr) (imm : BitVec 18)
  /-- LL (R333): Load a word and set a reservation on its 32-byte block. -/
  | ll (c : Fin 6) (rd ra : Gr) (imm : BitVec 18)
  /-- SC (R333): Store a word if the reservation holds, and report success in rd. -/
  | sc (c : Fin 6) (rd ra : Gr) (imm : BitVec 18)
  /-- BEQ (R335): Branch if ra equals rb. -/
  | beq (c : Fin 6) (ra rb : Gr) (off : BitVec 18)
  /-- BNE (R335): Branch if ra differs from rb. -/
  | bne (c : Fin 6) (ra rb : Gr) (off : BitVec 18)
  /-- BLT (R335): Branch if ra < rb signed. -/
  | blt (c : Fin 6) (ra rb : Gr) (off : BitVec 18)
  /-- BGE (R335): Branch if ra ≥ rb signed. -/
  | bge (c : Fin 6) (ra rb : Gr) (off : BitVec 18)
  /-- BLTU (R335): Branch if ra < rb unsigned. -/
  | bltu (c : Fin 6) (ra rb : Gr) (off : BitVec 18)
  /-- BGEU (R335): Branch if ra ≥ rb unsigned. -/
  | bgeu (c : Fin 6) (ra rb : Gr) (off : BitVec 18)
  /-- JAL (R335): Jump and link into g15. -/
  | jal (c : Fin 6) (off : BitVec 26)
  /-- J (R335): Jump PC-relative. -/
  | j (c : Fin 6) (off : BitVec 26)
  /-- JALR (R335): Jump to a register plus offset and link into rd. -/
  | jalr (c : Fin 6) (rd ra : Gr) (imm : BitVec 18)
  /-- LOOP (R339): Start a hardware loop over the next n instructions, run ra times. -/
  | loop (c : Fin 6) (ra : Gr) (n : BitVec 18)
  /-- LOOP_BACK (R339): The instruction at LE completes and the loop counts down and returns to LS. -/
  | loopBack (c : Fin 6)
  /-- NOP (R336): Do nothing. -/
  | nop (c : Fin 6)
  /-- TRAP (R336): Raise the TRAP exception with number n. -/
  | trap (c : Fin 6) (n : Byte)
  /-- RFT (R347): Return from a trap or NMI, restoring PC and SW. -/
  | rft (c : Fin 6)
  /-- WAIT (R350): Stop fetching until an NMI, a qualifying line or a swap arrives. -/
  | wait (c : Fin 6)
  /-- MFSR (R325): Read a system register. -/
  | mfsr (c : Fin 6) (rd : Gr) (sr : Byte)
  /-- MTSR (R337): Write a system register. -/
  | mtsr (c : Fin 6) (ra : Gr) (sr : Byte)
  /-- FENCE (R334): Wait until every earlier access of the core has completed. -/
  | fence (c : Fin 6)
  /-- IFENCE (R334): Empty the instruction cache and refetch. -/
  | ifence (c : Fin 6)
  /-- BRK (R336): Halt into the debugger, or raise BRK. -/
  | brk (c : Fin 6)
  /-- LADD (R340): Saturating lane addition. -/
  | ladd (c : Fin 6) (rd ra rb : Gr)
  /-- LSUB (R340): Saturating lane subtraction. -/
  | lsub (c : Fin 6) (rd ra rb : Gr)
  /-- LNEG (R340): Lane negation. -/
  | lneg (c : Fin 6) (rd ra : Gr)
  /-- LCONJ (R340): Lane conjugate. -/
  | lconj (c : Fin 6) (rd ra : Gr)
  /-- LMUL (R340): Complex lane multiply. -/
  | lmul (c : Fin 6) (rd ra rb : Gr)
  /-- LMULC (R340): Complex lane multiply by the conjugate of rb. -/
  | lmulc (c : Fin 6) (rd ra rb : Gr)
  /-- LSAR (R340): Arithmetic right shift of each lane. -/
  | lsar (c : Fin 6) (rd ra rb : Gr)
  /-- LSHL (R340): Saturating left shift of each lane. -/
  | lshl (c : Fin 6) (rd ra rb : Gr)
  /-- LPACK (R340): Pack I from ra and Q from rb into a sample word. -/
  | lpack (c : Fin 6) (rd ra rb : Gr)
  /-- LUNPI (R340): Unpack the I lane to 32 bits. -/
  | lunpi (c : Fin 6) (rd ra : Gr)
  /-- LUNPQ (R340): Unpack the Q lane to 32 bits. -/
  | lunpq (c : Fin 6) (rd ra : Gr)
  /-- LMAG2 (R340): Squared magnitude of a sample. -/
  | lmag2 (c : Fin 6) (rd ra : Gr)
  /-- LROT (R340): Rotate a sample by a multiple of 90°. -/
  | lrot (c : Fin 6) (rd ra rb : Gr)
  /-- MAC (R341): Accumulate a signed halfword product. -/
  | mac (c : Fin 6) (acc : Fin 4) (ra rb : Gr)
  /-- MSU (R341): Subtract a signed halfword product from an accumulator. -/
  | msu (c : Fin 6) (acc : Fin 4) (ra rb : Gr)
  /-- XMAC (R341): Accumulate a complex product into a pair. -/
  | xmac (c : Fin 6) (acc : Fin 4) (ra rb : Gr)
  /-- XMACC (R341): Accumulate a complex product with rb conjugated. -/
  | xmacc (c : Fin 6) (acc : Fin 4) (ra rb : Gr)
  /-- CLRA (R341): Clear an accumulator. -/
  | clra (c : Fin 6) (acc : Fin 4)
  /-- RACC (R341): Round, shift and saturate an accumulator into a register. -/
  | racc (c : Fin 6) (rd : Gr) (acc : Fin 4) (sh : Byte)
  /-- APACK (R341): Pack a pair into a sample word. -/
  | apack (c : Fin 6) (rd : Gr) (acc : Fin 4) (sh : Byte)
  /-- MFACL (R341): Read the low 32 bits of an accumulator. -/
  | mfacl (c : Fin 6) (rd : Gr) (acc : Fin 4)
  /-- MFACH (R341): Read the high 16 bits of an accumulator. -/
  | mfach (c : Fin 6) (rd : Gr) (acc : Fin 4)
  /-- MTACL (R341): Write the low 32 bits of an accumulator. -/
  | mtacl (c : Fin 6) (acc : Fin 4) (ra : Gr)
  /-- MTACH (R341): Write the high 16 bits of an accumulator. -/
  | mtach (c : Fin 6) (acc : Fin 4) (ra : Gr)
  /-- MTACC (R341): Write an accumulator from a sign-extended register. -/
  | mtacc (c : Fin 6) (acc : Fin 4) (ra : Gr)
  /-- MTAG (R342): Write an address-generator field. -/
  | mtag (c : Fin 6) (r : Gr) (ag : Fin 4) (sel : Fin 8)
  /-- MFAG (R342): Read an address-generator field. -/
  | mfag (c : Fin 6) (r : Gr) (ag : Fin 4) (sel : Fin 8)
  /-- LDAG (R343): Load through an address generator and update it. -/
  | ldag (c : Fin 6) (r : Gr) (ag : Fin 4) (size : Fin 4) (sx hold : Bool)
  /-- STAG (R343): Store through an address generator and update it. -/
  | stag (c : Fin 6) (r : Gr) (ag : Fin 4) (size : Fin 4) (hold : Bool)
  /-- XMAC_D (R344): Dual-fetch complex multiply-accumulate. -/
  | xmacD (c : Fin 6) (acc x y : Fin 4)
  /-- XMACC_D (R344): Dual-fetch conjugate complex multiply-accumulate. -/
  | xmaccD (c : Fin 6) (acc x y : Fin 4)
  /-- MAC_DH (R344): Dual-fetch halfword multiply-accumulate. -/
  | macDh (c : Fin 6) (acc x y : Fin 4)
  /-- MSU_DH (R344): Dual-fetch halfword multiply-subtract. -/
  | msuDh (c : Fin 6) (acc x y : Fin 4)
  /-- CUSTOM_OPCODE (R354): A C-format instruction runs its microcode sequence, or raises ILLEGAL. -/
  | customOpcode (c : Fin 6) (op : Fin 16) (rd ra rb : Gr) (imm : BitVec 10)
  /-- ILLEGAL_INSTRUCTION (R328): An unlisted opcode or function, or a non-zero reserved field, raises ILLEGAL. -/
  | illegalInstruction (c : Fin 6) (w : BitVec 32)
  /-- CORE_RESTART (R348): The supervisor restarts a core's image after a double fault or a second watchdog expiry. -/
  | coreRestart (c : Fin 6)
  /-- INTERRUPT_ENTRY (R349): A pending line that qualifies is taken and the core enters its priority's entry. -/
  | interruptEntry (c : Fin 6)
  /-- NMI_ENTRY (R350): An NMI saves NPC and NSW and enters the NMI entry. -/
  | nmiEntry (c : Fin 6)
  /-- CORE_RETIRE (R359): A physical core with a detected fault stops and is retired. -/
  | coreRetire (p : Fin 6) (detector : Fin 16)
  /-- KZC_SWAP_ARM (R362): A write of KZC_SWAP arms a swap of a logical core with the spare at a trigger. -/
  | kzcSwapArm (v : BitVec 32)
  /-- CORE_SWAP (R362): At the trigger, the physical cores of logical core c and logical core 5 are exchanged, or the swap is refused. -/
  | coreSwap
  /-- CORE_RUN_WRITE (R363): A write of RUN starts a logical core at CORE_BOOT or stops it at the next instruction boundary. -/
  | coreRunWrite (l : Fin 6) (run : Bool)
  /-- MICROCODE_WRITE (R358): A write to a core's microcode RAM is taken while the core has RUN = 0, and ignored otherwise. -/
  | microcodeWrite (l : Fin 6) (off : Fin 512) (v : BitVec 32)
  /-- SRAM_SCRUB_PASS (R365): The scrubber reads and corrects every SRAM word once in each SRAM_SCRUB_S seconds. -/
  | sramScrubPass (found : List (BitVec 32))
  /-- SRAM_ROW_REPAIR (R366): A row with an uncorrectable error or too many corrected errors is copied to a spare row. -/
  | sramRowRepair (a : BitVec 32) (bad : List (BitVec 32))
  /-- FLC_KEY_WRITE (R371): A write of FLC_KEY advances or breaks the unlock sequence. -/
  | flcKeyWrite (m : Master) (v : BitVec 32)
  /-- FLC_PROGRAM (R372): Flash command PROGRAM starts writing one 128-bit word. -/
  | flcProgram (m : Master) (a : BitVec 32) (v : BitVec 128)
  /-- FLC_ERASE (R372): Flash command ERASE starts erasing one sector. -/
  | flcErase (m : Master) (a : BitVec 32)
  /-- FLC_VERIFY_PROGRAM (R372): Flash command VERIFY_PROGRAM reads a sector at program margins. -/
  | flcVerifyProgram (m : Master) (a : BitVec 32)
  /-- FLC_VERIFY_ERASE (R372): Flash command VERIFY_ERASE reads a sector at the erase margin. -/
  | flcVerifyErase (m : Master) (a : BitVec 32)
  /-- FLC_REMAP (R374): Flash command REMAP moves a sector to a spare. -/
  | flcRemap (m : Master) (a : BitVec 32)
  /-- FLC_BAD_COMMAND (R372): Any other FLC_CMD value ends the sequence with OUT_OF_RANGE. -/
  | flcBadCommand (m : Master) (c : Fin 8)
  /-- FLC_OP_DONE (R372): A flash operation ends and FLC_RESULT is set. -/
  | flcOpDone (fails : Bool) (words : List (Fin 512))
  /-- FLC_INTR_WRITE (R375): A write of 0 to FLC_INTR clears the record of an interrupted operation. -/
  | flcIntrWrite
  /-- DRAM_SCRUB_PASS (R381): The scrubber reads and corrects every in-service DRAM block once every SCRUB_HOURS. -/
  | dramScrubPass (found : List (BitVec 32))
  /-- DRAM_UE (R382): An uncorrectable DRAM word poisons its block and retires its rank. -/
  | dramUe (a : BitVec 32)
  /-- DRAM_CAPAR (R383): A command or address parity error makes the DMC repeat the command once. -/
  | dramCapar (r : Fin 3) (within : Bool)
  /-- PATTERN_GEN_START (R385): A write of START in DMC_PG_CTRL runs the training pattern generator and comparator. -/
  | patternGenStart (v : BitVec 32) (pass : BitVec 16)
  /-- DMC_MRW (R385): A write of DMC_MRW writes a mode register of a DRAM rank. -/
  | dmcMrw (v : BitVec 32)
  /-- DRAM_REFRESH (R387): A per-bank refresh interval expires and a refresh is issued. -/
  | dramRefresh (window defer : Bool)
  /-- DRAM_TEMP_READ (R387): Every 16 ms the DMC reads each rank's temperature and scales the refresh interval. -/
  | dramTempRead (t0 t1 t2 : Int)
  /-- RH_NEIGHBOUR_REFRESH (R388): An activate count reaching RH_THRESHOLD refreshes the neighbouring rows. -/
  | rhNeighbourRefresh (bank : Fin 16) (row : BitVec 16)
  /-- SPARE_POWER_DOWN (R390): The spare rank or a cold slot idle for SPARE_IDLE_MS enters deep power-down. -/
  | sparePowerDown (slot1 : Bool)
  /-- DRAM_COLD_WRITE (R390): A write of DRAM_COLD marks slot 1 cold, or brings it back zeroed. -/
  | dramColdWrite (src : Src) (tid : Byte) (v : Bool)
  /-- RANK_RETIRE (R391): An in-service rank is retired and, with a spare left, a live migration begins. -/
  | rankRetire (r : Fin 3)
  /-- MIG_WAKE_DONE (R391): The spare rank is awake and checked, and dual writes begin. -/
  | migWakeDone (pass : Bool)
  /-- MIG_COPY_DONE (R391): The background copy ends and the map swaps in one step. -/
  | migCopyDone (bad : List (BitVec 32))
  /-- MIG_ABORT (R393): A migration ends without a swap because the spare failed. -/
  | migAbort
  /-- CHANNEL_FIRE (R397): A Culvert channel fires once in a cycle and reaches its consumers. -/
  | channelFire (c : Fin 64)
  /-- EVF_FIRE_WRITE (R397): A write of EVF_FIRE0 or EVF_FIRE1 fires the named channels at hop 0. -/
  | evfFireWrite (hi : Bool) (bits : BitVec 32)
  /-- BRIDGE_FORWARD (R401): One cycle after a bridged channel fires, its target channel fires with the hop count raised, or the event is dropped at hop 8. -/
  | bridgeForward (c : Fin 64)
  /-- PENDING_TRIGGER_ACT (R400): A consumer input acts on its remembered trigger once it is no longer busy. -/
  | pendingTriggerAct (c : Consumer)
  /-- TMR_START (R405): A write of START starts a timer unit from its reload value. -/
  | tmrStart (n : Fin 8)
  /-- TMR_STOP (R405): A write of STOP stops a timer unit with COUNT held. -/
  | tmrStop (n : Fin 8)
  /-- TMR_START_TRIGGER (R405): A START trigger from the fabric starts, restarts or pends on a timer unit. -/
  | tmrStartTrigger (n : Fin 8)
  /-- TMR_STOP_TRIGGER (R405): A STOP trigger from the fabric stops a timer unit. -/
  | tmrStopTrigger (n : Fin 8)
  /-- TIMER_TICK (R406): A prescaled tick counts COUNT down, or reloads it and fires WRAP. -/
  | timerTick (n : Fin 8)
  /-- TMR_CAP_TRIGGER (R409): A CAP trigger from the fabric captures COUNT. -/
  | tmrCapTrigger (n : Fin 8)
  /-- TIM_IN_EDGE (R409): A selected edge on TIMn_IN captures COUNT. -/
  | timInEdge (n : Fin 8) (rising : Bool)
  /-- TMR_CAPT_READ (R410): A read of TMRn_CAPT clears CAP and, in a chained pair, latches the high word. -/
  | tmrCaptRead (n : Fin 8) (sameCycle : Bool)
  /-- TMR_COUNT_LOW_READ (R413): A read of a chained pair's low COUNT word latches the high word. -/
  | tmrCountLowRead (n : Fin 8)
  /-- BACKUP_POR (R414): The backup supply falls below 1.35 V, resetting every backup register and setting BKP_POR and OSF. -/
  | backupPor
  /-- OSC_STOP (R415): The 32.768 kHz oscillator gives no edge for 4 ms, and OSF is set. -/
  | oscStop
  /-- BKP_WRITE_COMPLETE (R417): A write crossing to the backup domain completes and WPEND clears. -/
  | bkpWriteComplete
  /-- CALENDAR_SECOND (R418): The calendar steps to the next second, with its carries, calibration and weekday. -/
  | calendarSecond
  /-- BKP_SUBSEC_READ (R419): A read of BKP_SUBSEC latches every calendar field. -/
  | bkpSubsecRead (sub : BitVec 15)
  /-- BKP_TIME_WRITE (R420): A write of BKP_TIME or BKP_DATE while HALT is set sets the calendar, or sets WERR. -/
  | bkpTimeWrite (date : Bool) (v : BitVec 32)
  /-- HALT_RELEASE (R421): Clearing HALT applies the pending carry, and surplus seconds set HALTLOSS. -/
  | haltRelease
  /-- PWR_HOLD_CLEAR (R423): Clearing PWR_HOLD with no alarm pending drives PWR_ON low. -/
  | pwrHoldClear
  /-- RTC_SECONDS_WRITE (R424): A write of RTC_SECONDS sets the calendar by the HALT sequence. -/
  | rtcSecondsWrite (src : Src) (tid : Byte) (v : BitVec 32)
  /-- RTC_FLAGS_CLEAR (R424): A new RTC_FLAGS_CLEAR clears OSF, BKP_POR and HALTLOSS. -/
  | rtcFlagsClear (src : Src) (tid : Byte) (v : BitVec 32)
  /-- POWER_CYCLE (R423): A new POWER_CYCLE sets the alarm ahead with ALARM_PWR, then clears PWR_HOLD. -/
  | powerCycle (src : Src) (tid : Byte) (v : BitVec 32)
  /-- DOMAIN_REQ (R429): A request for a domain state is checked for dependencies and budget and is started or refused. -/
  | domainReq (src : Option Src) (tid : Byte) (d : Fin 24) (v : Byte)
  /-- DOMAIN_CHANGE_DONE (R429): A domain state change completes and PCC_DOM fires. -/
  | domainChangeDone (trained : BitVec 3)
  /-- REG_MODE_WRITE (R433): A write of PCC_REG.MODE starts a change between MAIN and LP, or is refused. -/
  | regModeWrite (lp : Bool)
  /-- REG_MODE_DONE (R433): A regulator mode change completes. -/
  | regModeDone
  /-- BOR_LP (R435): The core rail falls below 0.76 V for 2 µs in LP, and the device resets. -/
  | borLp
  /-- VMAIN_SAMPLE (R436): Every 100 µs the AON domain measures VMAIN and updates the band and ROLE_LOW. -/
  | vmainSample (v : BitVec 12) (above : Bool)
  /-- BOR_MAIN (R436): VMAIN below 1.70 V for 10 µs resets the device. -/
  | borMain
  /-- PLL_LOCK (R438): A PLL achieves lock, and CD3 may move to PLL_SYS. -/
  | pllLock (p : Fin 4)
  /-- XO_FAIL (R439): The crystal stops or strays, CD3 moves to SYS_RC and every PLL stops. -/
  | xoFail
  /-- XO_RESTART_ATTEMPT (R439): Every 10 ms after a crystal failure, the PCC restarts the crystal and relocks the PLLs if it runs. -/
  | xoRestartAttempt (runs : Bool)
  /-- SLEEP_ARM (R442): A write of PCC_ENTRY.ARM checks the sleep set and arms the entry, or refuses it. -/
  | sleepArm
  /-- WAKE (R444): An enabled wake source fires; the wake set turns ON and the producer's routes fire. -/
  | wake (fired : BitVec 28) (lat : BitVec 16)
  /-- POWER_ON (R451): VMAIN is applied and the device resets with cause POWER_ON. -/
  | powerOn
  /-- RESET_N_ASSERT (R450): RESET_N is held low for at least 10 µs and the device resets. -/
  | resetNAssert
  /-- BOOT_ROM_START (R452): After a reset, core 0 runs the boot ROM: repairs, self-test, image verification, boot record, and entry to class 0. -/
  | bootRomStart (cores : BitVec 6) (fails : List TestUnit) (ms : List (BitVec 16))
  /-- SECURITY_ENTRY (R454): Core 4 copies, hashes and verifies the class 3 image, and enters it or halts. -/
  | securityEntry
  /-- MAIN_FIRMWARE_START (R456): Main firmware loads microcode and images, starts the cores, loads the settings and writes START_ROLE. -/
  | mainFirmwareStart (trained : BitVec 3) (got : BitVec 32)
  /-- STAGE_BEGIN (R463): A new STAGE_BEGIN erases the staging slot. -/
  | stageBegin (src : Src) (tid : Byte) (v : BitVec 32)
  /-- STAGE_DATA (R463): A segment of STAGE_DATA is programmed into the staging slot. -/
  | stageData (src : Src) (tid : Byte) (off : BitVec 32) (last : Bool) (data : List Byte)
  /-- STAGE_VERIFY (R463): A new STAGE_VERIFY checks the staged set and sets STAGE_STATUS. -/
  | stageVerify (src : Src) (tid : Byte) (v : BitVec 32)
  /-- CONFIRM (R462): A new CONFIRM ends TRIAL, starts the copy to the active slot and raises rollback levels. -/
  | confirm (src : Src) (tid : Byte) (v got : BitVec 32)
  /-- AUTO_CONFIRM (R462): After AUTO_CONFIRM_S seconds of unbroken heartbeat, main firmware confirms the set itself. -/
  | autoConfirm (got : BitVec 32)
  /-- COPY_SECTOR (R462): One staging sector is copied into the active slot under the journal. -/
  | copySector
  /-- ACTIVATE_NOW (R465): A new ACTIVATE_NOW starts an activation restart at once, or is refused. -/
  | activateNow (src : Src) (tid : Byte) (v : BitVec 32)
  /-- ACTIVATION_RESTART (R465): At an armed slot, cores are halted and the device restarts onto the staged set while the radio runs on. -/
  | activationRestart
  /-- HO_REQUEST (R466): A new HO_REQUEST prepares the spare with the new image and arms a swap at HO_SLOT. -/
  | hoRequest (src : Src) (tid : Byte) (v : BitVec 32)
  /-- ACT_REQUEST (R468): A new ACT_REQUEST arms a mesh-wide activation, or a direct node activation, or is refused. -/
  | actRequest (src : Src) (tid : Byte) (v : BitVec 32)
  /-- ACT_CANCEL (R468): A new ACT_CANCEL announces ACT_ID 0 for the armed slot. -/
  | actCancel (src : Src) (tid : Byte) (v : BitVec 32)
  /-- ACT_DEFER (R470): A node that is LOST or DORMANT at the activation slot defers the activation to its next sync point. -/
  | actDefer
  /-- MONITOR_SAMPLE (R477): A health monitor updates its reading and compares it with its thresholds. -/
  | monitorSample (k : Fin 15) (v : BitVec 16)
  /-- LIFETIME_RECORD_SAVE (R478): Main firmware saves the lifetime temperature record at least once an hour. -/
  | lifetimeRecordSave
  /-- INJECT_REPORT (R480): An injection in REPORT mode produces everything a real event reports without altering anything. -/
  | injectReport (src : Option Src) (tid : Byte) (v : BitVec 32)
  /-- INJECT_ACT (R480): An injection in ACT mode makes the detector act exactly as on a real fault. -/
  | injectAct (src : Option Src) (tid : Byte) (v : BitVec 32) (now : Nat)
  /-- WATCHDOG_KICK (R486): A write of 0x6A to SUP_KICKc by its own core restarts its watchdog. -/
  | watchdogKick (m : Master) (c : Fin 6) (v : BitVec 32)
  /-- WATCHDOG_EXPIRY (R487): A core watchdog expires: the first expiry raises the NMI, a second one restarts the core or resets the device. -/
  | watchdogExpiry (c : Fin 6)
  /-- SUPERVISOR_MISMATCH (R489): A mismatch in the supervisor's copies, parity or clock check resets the device. -/
  | supervisorMismatch
  /-- SHUTDOWN (R492): A new SHUTDOWN stops the radio, saves settings, runs the self-test and takes SHUTDOWN_ACTION. -/
  | shutdown (src : Src) (tid : Byte) (v : BitVec 32)
  /-- BIST_DONE (R494): A self-test ends, and its result and BIST_VALID are recorded. -/
  | bistDone (fails : List TestUnit) (ms : List (BitVec 16))
  /-- ROLL_REQUEST (R495): A new ROLL_REQUEST, or an activation arming with ROLL_ON_ARM, starts a rolling self-test. -/
  | rollRequest (src : Option Src) (tid : Byte) (v : BitVec 32) (now : Nat)
  /-- ROLL_UNIT_DONE (R495): The test of one unit in the rolling self-test ends and the unit returns to service. -/
  | rollUnitDone (fails : Bool)
  /-- ROLL_GAP_EXPIRY (R495): ROLL_GAP_MS after a unit, the rolling test moves to the next unit. -/
  | rollGapExpiry (now : Nat)
  /-- BIST_ABORT (R493): A write of ABORT, or a band change, crystal failure or brown-out, ends a self-test with ABORTED. -/
  | bistAbort
  /-- PLK_LOSS_OF_SIGNAL (R498): A Peer Link port reports loss of signal within 2 µs. -/
  | plkLossOfSignal (b : Bool)
  /-- PLK_LINK_UP (R498): A port reports the link up after 10 µs of clean idle. -/
  | plkLinkUp (b : Bool)
  /-- PLK_FRAME_RECEIVE (R500): A Peer Link frame is checked for CRC and tag, forwarded, delivered or dropped. -/
  | plkFrameReceive (b : Bool) (bytes : List Byte)
  /-- PLK_HEARTBEAT_SEND (R502): Every 100 µs a member sends a heartbeat in both directions. -/
  | plkHeartbeatSend
  /-- PARTNER_LOST (R502): No heartbeat from a member for HB_TIMEOUT_US marks it lost. -/
  | partnerLost (x : Fin 8)
  /-- PHASE_FRAME_SEND (R503): Every 1.024 ms the phase master sends PD1 phase and cycle count. -/
  | phaseFrameSend
  /-- LINK_DELAY_MEASURE (R503): Every 100 ms neighbours measure their link delay by a two-way exchange. -/
  | linkDelayMeasure (b : Bool) (ns : BitVec 16)
  /-- PHASE_LOSS (R503): Phase frames absent for 10 ms set PHASE_LOST and PD1 runs on at its last rate. -/
  | phaseLoss
  /-- MIRROR_RECORD (R504): The active twin journals a state change and sends it as class 1. -/
  | mirrorRecord (kind : MirrorKind) (data : List Byte)
  /-- JOURNAL_OVERFLOW (R504): The mirror journal overflows and the mirror state becomes STALE. -/
  | journalOverflow
  /-- BEACON_WAIT_EXPIRY (R505): At a BEACON_TX instant with the partner lost, the standby waits BEACON_WAIT_US for a preamble. -/
  | beaconWaitExpiry (i : Fin 64) (heard : Bool)
  /-- DEMOTION_LISTEN (R508): A device that took over listens in cycles with count mod 16 equal to 15 and gives the role back on hearing the root. -/
  | demotionListen (heard : Bool)
  /-- DUAL_ROOT_RESOLVE (R509): Of two twin members in role 3 that see each other, the one without TOOK_OVER goes to role 4. -/
  | dualRootResolve
  /-- TWIN_SWITCH (R510): A new TWIN_SWITCH arms a hand-over of the root role to the partner at TWIN_SWITCH_SLOT, or is refused. -/
  | twinSwitch (src : Src) (tid : Byte) (v : BitVec 32)
  /-- TWIN_SWITCH_EXECUTE (R510): At TWIN_SWITCH_SLOT the active device goes to role 4 and its partner to role 3. -/
  | twinSwitchExecute
  /-- ARB_GRANT (R512): The manager awards contested channels and returns grants by seal + 8 µs. -/
  | arbGrant
  /-- LOCK_SET (R84): A write of 1 to a block's LOCK bit locks every RWL register of that block until reset. -/
  | lockSet (m : Master) (a : BitVec 32)
  /-- REGISTER_WRITE (R16): A write to a register with no row of its own acts under its access code. -/
  | registerWrite (m : Master) (a v : BitVec 32)
  /-- VIO_LOSS (R522): VIO falls away while VMAIN stays: every VIO ball goes high-impedance, the host links stop, and WAKE_N and the REF inputs read inactive while the device runs on. -/
  | vioLoss
  /-- VIO_RETURN (R522): VIO returns, and the host-link, REF and WAKE_N balls resume their function. -/
  | vioReturn
  /-- PLL_UNLOCK (R437): PLL_SYS loses lock, and CD3 falls back at once to SYS_RC with SYS_AUTO set. -/
  | pllUnlock
  /-- RTC_OSCILLATOR_RESUME (R415): The 32.768 kHz oscillator starts giving edges again, so the calendar and subsecond counter resume and OSF becomes clearable. -/
  | rtcOscillatorResume
  /-- BOUNDARY_SCAN_INSTRUCTION (R527): Loading EXTEST, CLAMP, HIGHZ, EXTEST_PULSE or EXTEST_TRAIN into the JTAG instruction register holds the device in reset at once, with cause RESET_N and FLC_INTR lost. -/
  | boundaryScanInstruction (i : Fin 5)
  /-- TEST_LOGIC_RESET (R527): The TAP returns to Test-Logic-Reset, by TMS or TRST_N, and releases the reset that a boundary-scan instruction held. -/
  | testLogicReset
  /-- ANCHOR_PERIOD_END (R236): In LOST, the end of each anchor period without an accepted anchor switches the listen between the parent's channel and ALT_CH. -/
  | anchorPeriodEnd
  /-- TWIN_START_LISTEN_END (R509): A twin-configured device with START_ROLE 3 and no partner on the ring ends its start-up beacon listen of one nominal cycle, and starts as root if it heard no beacon or as standby if it did. -/
  | twinStartListenEnd (heard : Bool)
  deriving DecidableEq, Repr

end Sys2Proof
end

