-- ==== Sys2Proof/Decode.lean ====
section
/-! DEFINITION. The command table gives none of its rows any bits: the block takes commands, and no word spells one. What a frame on a host
link spells is read where the port takes it (Machine/Ports.lean). -/

namespace Sys2Proof

/-- The command that a word spells by the bits of the command table: none, since the table gives no row bits. -/
def decodeTableWord (_nbits _w : Nat) : Option Instr := none

end Sys2Proof
end

