-- ==== Sys2Proof/Machine/Bits.lean ====
section
/-! DEFINITION. Bit fields, little-endian byte strings (R18), signed readings, fixed vectors, and key-ordered
association lists in one canonical form. -/

namespace Sys2Proof.Machine

/-- The number a little-endian byte string spells (R18). -/
def leNat : List Byte → Nat
  | [] => 0
  | b :: bs => b.toNat + 256 * leNat bs

/-- The `n` low bytes of a number, least significant first (R18). -/
def leBytes : Nat → Nat → List Byte
  | 0, _ => []
  | n + 1, v => BitVec.ofNat 8 v :: leBytes n (v / 256)

/-- The number a big-endian byte string spells. -/
def beNat (bs : List Byte) : Nat := leNat bs.reverse

/-- The `n` low bytes of a number, most significant first. -/
def beBytes (n v : Nat) : List Byte := (leBytes n v).reverse

/-- Bits [hi:lo] of a number. -/
def field (v hi lo : Nat) : Nat := v / 2 ^ lo % 2 ^ (hi + 1 - lo)

/-- Bit `i` of a number. -/
def bit (v i : Nat) : Bool := v.testBit i

/-- 1 for true, 0 for false. -/
def b2n (b : Bool) : Nat := if b then 1 else 0

/-- The number with bits [hi:lo] replaced by `x`. -/
def putField (v hi lo x : Nat) : Nat :=
  v - field v hi lo * 2 ^ lo + x % 2 ^ (hi + 1 - lo) * 2 ^ lo

/-- The two's complement reading of the low `n` bits of a number. -/
def signed (n v : Nat) : Int :=
  let r := v % 2 ^ n
  if 2 * r < 2 ^ n then (r : Int) else (r : Int) - (2 ^ n : Nat)

/-- The `n`-bit two's complement pattern of an integer. -/
def unsigned (n : Nat) (i : Int) : Nat := (i % ((2 ^ n : Nat) : Int)).toNat

/-- An integer held between two bounds. -/
def clampI (lo hi x : Int) : Int := if x < lo then lo else if hi < x then hi else x

/-- A counter that stops at `top` instead of wrapping. -/
def satAdd (top a b : Nat) : Nat := if top < a + b then top else a + b

/-- A 32-bit saturating count up by one (R424, R448). -/
def sat32 (a : Nat) : Nat := satAdd 0xFFFFFFFF a 1

/-- Rounding to the nearest integer of a ratio of integers with a positive divisor; halves go up. -/
def roundDiv (a : Int) (b : Nat) : Int := if b = 0 then 0 else (2 * a + b) / (2 * b)

/-- Element `i` of a vector. -/
def vget {α : Type} {n : Nat} (v : Vector α n) (i : Fin n) : α := v[i.1]

/-- The vector with element `i` replaced. -/
def vset {α : Type} {n : Nat} (v : Vector α n) (i : Fin n) (x : α) : Vector α n := v.set i.1 x

/-- The vector with element `i` passed through `f`. -/
def vmod {α : Type} {n : Nat} (v : Vector α n) (i : Fin n) (f : α → α) : Vector α n := vset v i (f (vget v i))

/-- Every index below `n`, in rising order. -/
def fins (n : Nat) : List (Fin n) := List.finRange n

/-- What an association list holds under a key. -/
def alGet {α : Type} : List (Nat × α) → Nat → Option α
  | [], _ => none
  | (k, v) :: r, x => if k = x then some v else alGet r x

/-- The list without a key. -/
def alDel {α : Type} : List (Nat × α) → Nat → List (Nat × α)
  | [], _ => []
  | (k, v) :: r, x => if k = x then alDel r x else (k, v) :: alDel r x

/-- The list with a key's value put in its place; keys rise strictly. -/
def alPut {α : Type} : List (Nat × α) → Nat → α → List (Nat × α)
  | [], x, y => [(x, y)]
  | (k, v) :: r, x, y =>
    if x < k then (x, y) :: (k, v) :: r else if x = k then (x, y) :: r else (k, v) :: alPut r x y

/-- Keys rise strictly: the canonical form of an association list. -/
def alSorted {α : Type} : List (Nat × α) → Bool
  | [] => true
  | [_] => true
  | (k, _) :: (k', v') :: r => decide (k < k') && alSorted ((k', v') :: r)

/-- The first element that meets a test, and the list without it. -/
def takeFirst {α : Type} (p : α → Bool) : List α → Option (α × List α)
  | [] => none
  | x :: r => if p x then some (x, r) else match takeFirst p r with
    | none => none
    | some (y, r') => some (y, x :: r')

/-- Applies `f` for each element in turn. -/
def foldS {α σ : Type} (f : α → σ → σ) : List α → σ → σ
  | [], s => s
  | x :: r, s => foldS f r (f x s)

/-- `f` applied `n` times. -/
def iter {σ : Type} (f : σ → σ) : Nat → σ → σ
  | 0, s => s
  | n + 1, s => iter f n (f s)

/-- One bit step of the reflected CRC with polynomial `p`. -/
def crcBit (p r : Nat) : Nat := if r % 2 = 1 then (r / 2) ^^^ p else r / 2

/-- One byte through a reflected CRC. -/
def crcByte (p r : Nat) (b : Byte) : Nat := iter (crcBit p) 8 (r ^^^ b.toNat)

/-- CRC-32 of R41: polynomial 0x04C1_1DB7 reflected, initial value and final XOR all ones. -/
def crc32 (bs : List Byte) : Nat := bs.foldl (crcByte 0xEDB88320) 0xFFFFFFFF ^^^ 0xFFFFFFFF

end Sys2Proof.Machine
end

