-- ==== Sys2Proof/Machine/DictTable.lean ====
section
/-! DEFINITION. The object dictionary's tables (R19 to R22): one row for each line of the dictionary tables of the spec's
chapters, with its type, access for the three classes, default, range and marks. -/

namespace Sys2Proof.Machine

/-- The entry types of R20. -/
inductive Ty where
  | u8 | u16 | u32 | u64 | i8 | i16 | i32 | i64 | bool | s12 | c24 | str | domain
  deriving DecidableEq, Repr

/-- The access codes of R21. -/
inductive Acc where
  | rw | ro | wo | no
  deriving DecidableEq, Repr

/-- The range column of a table: which values (or lengths) are legal (R20). -/
inductive Range where
  | any
  | between (lo hi : Int)
  | zeroOr (lo hi : Int)
  | oneOf (vs : List Nat)
  | len (lo hi : Nat)
  | lens (a b : Nat)
  deriving DecidableEq, Repr

/-- One row of a dictionary table, for subindices lo to hi. -/
structure DictRow where
  lo      : Nat
  hi      : Nat
  ty      : Ty
  host    : Acc
  remote  : Acc
  fw      : Acc
  dflt    : Nat
  range   : Range
  /-- Kept through a device reset at its saved value (R22). -/
  ret     : Bool := false
  /-- A result entry with FRESH flags (R25). -/
  result  : Bool := false
  /-- A request number (R24). -/
  request : Bool := false
  /-- Written only in role 0. -/
  role0   : Bool := false
  /-- The default is this many zero bytes. -/
  zeros   : Nat := 0
  deriving DecidableEq, Repr

/-- The entries of index 0x1000. -/
def dict1000 : List DictRow := [
  { lo := 0x01, hi := 0x01, ty := .domain, host := .ro, remote := .ro, fw := .ro, dflt := 0, range := (.len 16 16) } /- SERIAL -/,
  { lo := 0x02, hi := 0x02, ty := .u8, host := .ro, remote := .ro, fw := .ro, dflt := 0, range := .any } /- REVISION -/,
  { lo := 0x03, hi := 0x03, ty := .str, host := .ro, remote := .ro, fw := .ro, dflt := 0, range := .any } /- PART -/,
  { lo := 0x04, hi := 0x04, ty := .domain, host := .ro, remote := .ro, fw := .ro, dflt := 0, range := (.len 0 2048) } /- DEVICE_CERT -/,
  { lo := 0x05, hi := 0x05, ty := .domain, host := .ro, remote := .ro, fw := .ro, dflt := 0, range := (.len 0 4096) } /- CERT_CHAIN -/]

/-- The entries of index 0x1001. -/
def dict1001 : List DictRow := [
  { lo := 0x01, hi := 0x01, ty := .domain, host := .rw, remote := .rw, fw := .rw, dflt := 0, range := (.len 32 32), zeros := 32 } /- ATT_NONCE -/,
  { lo := 0x02, hi := 0x02, ty := .u32, host := .rw, remote := .rw, fw := .rw, dflt := 0, range := .any, request := true } /- ATT_REQUEST -/,
  { lo := 0x03, hi := 0x03, ty := .domain, host := .ro, remote := .ro, fw := .ro, dflt := 0, range := (.len 376 376), result := true } /- ATT_REPORT -/,
  { lo := 0x04, hi := 0x04, ty := .u8, host := .ro, remote := .ro, fw := .ro, dflt := 2, range := .any, result := true } /- ATT_STATUS -/]

/-- The entries of index 0x1010. -/
def dict1010 : List DictRow := [
  { lo := 0x01, hi := 0x01, ty := .domain, host := .wo, remote := .wo, fw := .no, dflt := 0, range := (.len 103 103) } /- KEY_NEXT -/,
  { lo := 0x02, hi := 0x02, ty := .domain, host := .wo, remote := .wo, fw := .no, dflt := 0, range := (.len 39 39) } /- NET_NEXT -/]

/-- The entries of index 0x1100. -/
def dict1100 : List DictRow := [
  { lo := 0x01, hi := 0x01, ty := .u8, host := .rw, remote := .no, fw := .rw, dflt := 15, range := (.between 0 15) } /- NOTIFY_LINKS -/,
  { lo := 0x02, hi := 0x02, ty := .bool, host := .rw, remote := .no, fw := .rw, dflt := 0, range := .any } /- HEARTBEAT_NOTIFY -/,
  { lo := 0x03, hi := 0x03, ty := .u32, host := .rw, remote := .no, fw := .rw, dflt := 0, range := .any, ret := true, request := true } /- SAVE_SETTINGS -/,
  { lo := 0x04, hi := 0x04, ty := .u8, host := .ro, remote := .no, fw := .ro, dflt := 0, range := .any, result := true } /- SAVE_STATUS -/,
  { lo := 0x05, hi := 0x05, ty := .u32, host := .rw, remote := .no, fw := .rw, dflt := 1800, range := (.between 1 86400) } /- PROXY_TIMEOUT -/,
  { lo := 0x10, hi := 0x10, ty := .bool, host := .rw, remote := .no, fw := .ro, dflt := 1, range := .any, ret := true } /- CAN0_ENABLE -/,
  { lo := 0x11, hi := 0x11, ty := .u8, host := .rw, remote := .no, fw := .ro, dflt := 1, range := (.between 1 63), ret := true } /- CAN0_ADDRESS -/,
  { lo := 0x12, hi := 0x12, ty := .u16, host := .rw, remote := .no, fw := .ro, dflt := 500, range := (.oneOf [125, 250, 500, 1000]), ret := true } /- CAN0_NOMINAL -/,
  { lo := 0x13, hi := 0x13, ty := .u16, host := .rw, remote := .no, fw := .ro, dflt := 2000, range := (.oneOf [1000, 2000, 4000, 5000, 8000]), ret := true } /- CAN0_DATA -/,
  { lo := 0x14, hi := 0x14, ty := .u8, host := .rw, remote := .no, fw := .ro, dflt := 80, range := (.between 60 90) } /- CAN0_SAMPLE -/,
  { lo := 0x15, hi := 0x15, ty := .u32, host := .rw, remote := .no, fw := .ro, dflt := 0, range := .any, request := true } /- CAN0_APPLY -/,
  { lo := 0x18, hi := 0x18, ty := .u32, host := .ro, remote := .no, fw := .ro, dflt := 0, range := .any } /- CAN_IGNORED -/,
  { lo := 0x1A, hi := 0x1A, ty := .bool, host := .rw, remote := .no, fw := .ro, dflt := 0, range := .any, ret := true } /- CAN1_ENABLE -/,
  { lo := 0x1B, hi := 0x1B, ty := .u8, host := .rw, remote := .no, fw := .ro, dflt := 1, range := (.between 1 63), ret := true } /- CAN1_ADDRESS -/,
  { lo := 0x1C, hi := 0x1C, ty := .u16, host := .rw, remote := .no, fw := .ro, dflt := 500, range := (.oneOf [125, 250, 500, 1000]), ret := true } /- CAN1_NOMINAL -/,
  { lo := 0x1D, hi := 0x1D, ty := .u16, host := .rw, remote := .no, fw := .ro, dflt := 2000, range := (.oneOf [1000, 2000, 4000, 5000, 8000]), ret := true } /- CAN1_DATA -/,
  { lo := 0x1E, hi := 0x1E, ty := .u8, host := .rw, remote := .no, fw := .ro, dflt := 80, range := (.between 60 90) } /- CAN1_SAMPLE -/,
  { lo := 0x1F, hi := 0x1F, ty := .u32, host := .rw, remote := .no, fw := .ro, dflt := 0, range := .any, request := true } /- CAN1_APPLY -/,
  { lo := 0x20, hi := 0x20, ty := .bool, host := .rw, remote := .no, fw := .ro, dflt := 1, range := .any, ret := true } /- T1S_ENABLE -/,
  { lo := 0x21, hi := 0x21, ty := .u8, host := .rw, remote := .no, fw := .ro, dflt := 255, range := .any, ret := true } /- T1S_PLCA_ID -/,
  { lo := 0x22, hi := 0x22, ty := .u64, host := .rw, remote := .no, fw := .ro, dflt := 0, range := (.between 0 281474976710655), ret := true } /- T1S_MAC -/,
  { lo := 0x23, hi := 0x23, ty := .u8, host := .rw, remote := .no, fw := .ro, dflt := 8, range := (.between 1 32) } /- T1S_NODE_COUNT -/,
  { lo := 0x24, hi := 0x24, ty := .u8, host := .rw, remote := .no, fw := .ro, dflt := 32, range := (.between 20 255), ret := true } /- T1S_TO_TIMER -/,
  { lo := 0x25, hi := 0x25, ty := .u32, host := .rw, remote := .no, fw := .ro, dflt := 0, range := .any, request := true } /- T1S_APPLY -/,
  { lo := 0x26, hi := 0x26, ty := .u32, host := .ro, remote := .no, fw := .ro, dflt := 0, range := .any } /- T1S_BAD_FRAMES -/,
  { lo := 0x27, hi := 0x27, ty := .u64, host := .rw, remote := .no, fw := .ro, dflt := 281474976710655, range := (.between 0 281474976710655), ret := true } /- T1S_NOTIFY_DEST -/,
  { lo := 0x31, hi := 0x31, ty := .bool, host := .rw, remote := .no, fw := .ro, dflt := 0, range := .any } /- SPI_QUAD -/,
  { lo := 0x32, hi := 0x32, ty := .u32, host := .ro, remote := .no, fw := .ro, dflt := 0, range := .any } /- SPI_BAD_FRAMES -/,
  { lo := 0x41, hi := 0x41, ty := .u32, host := .rw, remote := .no, fw := .ro, dflt := 115200, range := (.between 9600 921600) } /- UART_RATE -/,
  { lo := 0x42, hi := 0x42, ty := .u32, host := .ro, remote := .no, fw := .ro, dflt := 0, range := .any } /- UART_BAD_FRAMES -/]

/-- The entries of index 0x1101. -/
def dict1101 : List DictRow := [
  { lo := 0x01, hi := 0x10, ty := .domain, host := .wo, remote := .no, fw := .wo, dflt := 0, range := (.len 16 244) } /- AIR_REQUEST -/]

/-- The entries of index 0x1102. -/
def dict1102 : List DictRow := [
  { lo := 0x01, hi := 0x10, ty := .domain, host := .ro, remote := .no, fw := .ro, dflt := 0, range := (.len 16 244), result := true } /- AIR_RESULT -/]

/-- The entries of index 0x1200. -/
def dict1200 : List DictRow := [
  { lo := 0x01, hi := 0x01, ty := .u8, host := .rw, remote := .ro, fw := .ro, dflt := 0, range := (.between 0 5) } /- ROLE -/,
  { lo := 0x02, hi := 0x02, ty := .u8, host := .ro, remote := .no, fw := .ro, dflt := 0, range := .any } /- MISSING_DOMAIN -/,
  { lo := 0x03, hi := 0x03, ty := .u32, host := .ro, remote := .ro, fw := .ro, dflt := 0, range := .any } /- HEARTBEAT -/,
  { lo := 0x04, hi := 0x04, ty := .u16, host := .rw, remote := .no, fw := .rw, dflt := 100, range := (.between 10 10000) } /- HEARTBEAT_PERIOD -/,
  { lo := 0x05, hi := 0x05, ty := .u8, host := .ro, remote := .ro, fw := .ro, dflt := 0, range := .any } /- RESET_CAUSE -/]

/-- The entries of index 0x1201. -/
def dict1201 : List DictRow := [
  { lo := 0x01, hi := 0x14, ty := .u8, host := .ro, remote := .ro, fw := .ro, dflt := 0, range := (.oneOf [0, 1, 2, 3, 4]) } /- FN_STATUS -/]

/-- The entries of index 0x1202. -/
def dict1202 : List DictRow := [
  { lo := 0x01, hi := 0x14, ty := .u32, host := .rw, remote := .rw, fw := .rw, dflt := 0, range := .any, request := true } /- FN_REINIT -/]

/-- The entries of index 0x1203. -/
def dict1203 : List DictRow := [
  { lo := 0x01, hi := 0x01, ty := .u32, host := .rw, remote := .no, fw := .wo, dflt := 0, range := .any, request := true } /- DEVICE_RESET -/]

/-- The entries of index 0x1204. -/
def dict1204 : List DictRow := [
  { lo := 0x01, hi := 0x04, ty := .u32, host := .rw, remote := .no, fw := .ro, dflt := 0, range := .any, ret := true } /- LADDER_COUNT -/]

/-- The entries of index 0x2000. -/
def dict2000 : List DictRow := [
  { lo := 0x01, hi := 0x01, ty := .u32, host := .rw, remote := .no, fw := .rw, dflt := 1000000, range := (.between 600000 4294967295) } /- PD0_PERIOD -/,
  { lo := 0x02, hi := 0x02, ty := .u32, host := .rw, remote := .no, fw := .ro, dflt := 10240000, range := (.between 1024000 655360000) } /- NET_CYCLE -/,
  { lo := 0x03, hi := 0x03, ty := .u32, host := .rw, remote := .no, fw := .ro, dflt := 0, range := (.between 0 268435455) } /- NET_CYCLE_AT -/,
  { lo := 0x04, hi := 0x04, ty := .u8, host := .rw, remote := .no, fw := .ro, dflt := 0, range := (.oneOf [0, 1]), ret := true } /- ROOT_MODE -/,
  { lo := 0x05, hi := 0x05, ty := .u16, host := .rw, remote := .no, fw := .ro, dflt := 1, range := (.between 1 65535), ret := true } /- GEAR_RATIO -/,
  { lo := 0x06, hi := 0x06, ty := .u32, host := .rw, remote := .no, fw := .ro, dflt := 0, range := .any } /- GEAR_OFFSET -/,
  { lo := 0x07, hi := 0x07, ty := .u16, host := .rw, remote := .ro, fw := .ro, dflt := 5000, range := (.between 0 5000), ret := true } /- NET_SLEW -/,
  { lo := 0x08, hi := 0x08, ty := .u8, host := .rw, remote := .no, fw := .ro, dflt := 4, range := (.between 1 64) } /- GEAR_TAU -/,
  { lo := 0x09, hi := 0x09, ty := .u8, host := .rw, remote := .no, fw := .ro, dflt := 0, range := (.oneOf [0, 1]) } /- GEAR_REENGAGE -/,
  { lo := 0x0A, hi := 0x0A, ty := .u8, host := .ro, remote := .ro, fw := .ro, dflt := 0, range := .any } /- GEAR_STATE -/,
  { lo := 0x0B, hi := 0x0B, ty := .u32, host := .rw, remote := .no, fw := .ro, dflt := 0, range := (.between 0 268435455), ret := true } /- START_CYCLE -/,
  { lo := 0x0C, hi := 0x0C, ty := .u32, host := .ro, remote := .no, fw := .ro, dflt := 0, range := .any } /- STARTED_CYCLE -/,
  { lo := 0x10, hi := 0x10, ty := .u8, host := .rw, remote := .no, fw := .rw, dflt := 0, range := (.between 0 3) } /- PD2_SOURCE -/,
  { lo := 0x11, hi := 0x11, ty := .u32, host := .rw, remote := .no, fw := .rw, dflt := 4096, range := (.between 4 1048576) } /- PD2_CPR -/,
  { lo := 0x12, hi := 0x12, ty := .u32, host := .rw, remote := .no, fw := .rw, dflt := 0, range := .any } /- PD2_INDEX_PHASE -/,
  { lo := 0x13, hi := 0x13, ty := .u16, host := .rw, remote := .no, fw := .rw, dflt := 2000, range := (.between 1 65535) } /- PD2_STALL_MS -/,
  { lo := 0x14, hi := 0x14, ty := .u8, host := .rw, remote := .no, fw := .rw, dflt := 4, range := (.between 1 15) } /- PD2_VEL_EDGES -/,
  { lo := 0x15, hi := 0x15, ty := .bool, host := .rw, remote := .no, fw := .rw, dflt := 0, range := .any } /- PD2_GLITCH -/,
  { lo := 0x18, hi := 0x18, ty := .u8, host := .rw, remote := .no, fw := .rw, dflt := 0, range := (.between 0 3) } /- PD3_SOURCE -/,
  { lo := 0x19, hi := 0x19, ty := .u32, host := .rw, remote := .no, fw := .rw, dflt := 4096, range := (.between 4 1048576) } /- PD3_CPR -/,
  { lo := 0x1A, hi := 0x1A, ty := .u32, host := .rw, remote := .no, fw := .rw, dflt := 0, range := .any } /- PD3_INDEX_PHASE -/,
  { lo := 0x1B, hi := 0x1B, ty := .u16, host := .rw, remote := .no, fw := .rw, dflt := 2000, range := (.between 1 65535) } /- PD3_STALL_MS -/,
  { lo := 0x1C, hi := 0x1C, ty := .u8, host := .rw, remote := .no, fw := .rw, dflt := 4, range := (.between 1 15) } /- PD3_VEL_EDGES -/,
  { lo := 0x1D, hi := 0x1D, ty := .bool, host := .rw, remote := .no, fw := .rw, dflt := 0, range := .any } /- PD3_GLITCH -/,
  { lo := 0x20, hi := 0x20, ty := .u16, host := .rw, remote := .ro, fw := .ro, dflt := 200, range := .any } /- XO_PPM -/,
  { lo := 0x21, hi := 0x21, ty := .u16, host := .rw, remote := .ro, fw := .ro, dflt := 200, range := .any } /- LF_PPM -/,
  { lo := 0x22, hi := 0x22, ty := .i32, host := .ro, remote := .no, fw := .ro, dflt := 0, range := .any } /- LF_TRIM -/,
  { lo := 0x30, hi := 0x30, ty := .u64, host := .ro, remote := .ro, fw := .ro, dflt := 0, range := .any } /- ABS_SLOT -/,
  { lo := 0x31, hi := 0x31, ty := .u32, host := .ro, remote := .ro, fw := .ro, dflt := 0, range := .any } /- PD1_PHASE -/,
  { lo := 0x32, hi := 0x32, ty := .u32, host := .ro, remote := .no, fw := .ro, dflt := 0, range := .any } /- PD2_PHASE -/,
  { lo := 0x33, hi := 0x33, ty := .u32, host := .ro, remote := .no, fw := .ro, dflt := 0, range := .any } /- PD3_PHASE -/,
  { lo := 0x34, hi := 0x34, ty := .u32, host := .ro, remote := .ro, fw := .ro, dflt := 0, range := .any } /- PD1_RATE_NOW -/]

/-- The entries of index 0x2100. -/
def dict2100 : List DictRow := [
  { lo := 0x01, hi := 0x01, ty := .u8, host := .ro, remote := .ro, fw := .ro, dflt := 0, range := .any } /- RF_STATE -/,
  { lo := 0x02, hi := 0x02, ty := .u32, host := .ro, remote := .no, fw := .ro, dflt := 0, range := .any } /- LO_FREQ -/,
  { lo := 0x03, hi := 0x03, ty := .u32, host := .ro, remote := .ro, fw := .ro, dflt := 0, range := .any } /- LATE_COUNT -/,
  { lo := 0x04, hi := 0x04, ty := .u8, host := .rw, remote := .no, fw := .ro, dflt := 64, range := (.between 0 127), ret := true } /- XO_TRIM -/,
  { lo := 0x10, hi := 0x10, ty := .u8, host := .rw, remote := .no, fw := .rw, dflt := 63, range := .any } /- CAL_SELECT -/,
  { lo := 0x11, hi := 0x11, ty := .u32, host := .rw, remote := .rw, fw := .rw, dflt := 0, range := .any, request := true } /- CAL_REQUEST -/,
  { lo := 0x12, hi := 0x12, ty := .u8, host := .ro, remote := .ro, fw := .ro, dflt := 2, range := .any, result := true } /- CAL_STATUS -/,
  { lo := 0x13, hi := 0x13, ty := .i16, host := .ro, remote := .ro, fw := .ro, dflt := 0, range := .any } /- IMAGE_REJ -/,
  { lo := 0x14, hi := 0x14, ty := .c24, host := .ro, remote := .no, fw := .ro, dflt := 0, range := .any } /- IQ_CORR -/,
  { lo := 0x15, hi := 0x15, ty := .c24, host := .ro, remote := .no, fw := .ro, dflt := 0, range := .any } /- DC_CORR -/,
  { lo := 0x16, hi := 0x16, ty := .i16, host := .ro, remote := .no, fw := .ro, dflt := 0, range := .any } /- CAL_TEMP -/,
  { lo := 0x20, hi := 0x20, ty := .c24, host := .ro, remote := .ro, fw := .ro, dflt := 0, range := .any } /- ANT_GAMMA -/,
  { lo := 0x21, hi := 0x21, ty := .bool, host := .rw, remote := .no, fw := .rw, dflt := 1, range := .any, ret := true } /- ANT_AUTO -/,
  { lo := 0x22, hi := 0x22, ty := .u16, host := .rw, remote := .no, fw := .rw, dflt := 8224, range := .any, ret := true } /- ANT_TUNE -/,
  { lo := 0x23, hi := 0x23, ty := .u16, host := .rw, remote := .no, fw := .rw, dflt := 600, range := (.between 200 800) } /- ANT_LIMIT -/,
  { lo := 0x24, hi := 0x24, ty := .bool, host := .rw, remote := .ro, fw := .rw, dflt := 0, range := .any } /- ANT_FAULT -/,
  { lo := 0x25, hi := 0x25, ty := .u16, host := .rw, remote := .no, fw := .rw, dflt := 200, range := (.between 50 400) } /- ANT_TARGET -/,
  { lo := 0x26, hi := 0x26, ty := .u8, host := .rw, remote := .no, fw := .rw, dflt := 8, range := (.between 1 15) } /- ANT_COUNT -/,
  { lo := 0x30, hi := 0x30, ty := .bool, host := .rw, remote := .no, fw := .ro, dflt := 0, range := .any, ret := true, role0 := true } /- EPA_PRESENT -/,
  { lo := 0x31, hi := 0x31, ty := .i16, host := .rw, remote := .no, fw := .ro, dflt := 0, range := .any, ret := true } /- EPA_GAIN -/,
  { lo := 0x32, hi := 0x32, ty := .i16, host := .rw, remote := .no, fw := .ro, dflt := 0, range := .any, ret := true } /- EPA_FB_ATT -/,
  { lo := 0x33, hi := 0x33, ty := .u8, host := .rw, remote := .no, fw := .ro, dflt := 4, range := (.between 2 12), ret := true } /- EPA_LEAD -/,
  { lo := 0x34, hi := 0x34, ty := .u8, host := .rw, remote := .no, fw := .ro, dflt := 0, range := .any, ret := true } /- EPA_BIAS -/]

/-- The entries of index 0x2200. -/
def dict2200 : List DictRow := [
  { lo := 0x01, hi := 0x01, ty := .u8, host := .rw, remote := .ro, fw := .ro, dflt := 0, range := (.between 0 5), role0 := true } /- REGION_PLAN -/,
  { lo := 0x02, hi := 0x02, ty := .domain, host := .rw, remote := .ro, fw := .ro, dflt := 0, range := (.len 16 16) } /- CHANNEL_MASK -/,
  { lo := 0x03, hi := 0x03, ty := .u16, host := .rw, remote := .ro, fw := .ro, dflt := 0, range := (.between 1 65535), role0 := true } /- NETWORK_ID -/,
  { lo := 0x04, hi := 0x04, ty := .u8, host := .ro, remote := .ro, fw := .ro, dflt := 0, range := .any } /- PLAN_CHANNELS -/,
  { lo := 0x05, hi := 0x05, ty := .u32, host := .ro, remote := .ro, fw := .ro, dflt := 0, range := .any } /- PLAN_F0 -/,
  { lo := 0x10, hi := 0x10, ty := .u8, host := .rw, remote := .no, fw := .rw, dflt := 0, range := (.between 0 2) } /- TEST_MODE -/,
  { lo := 0x11, hi := 0x11, ty := .u8, host := .rw, remote := .no, fw := .rw, dflt := 1, range := (.between 0 2) } /- TEST_Z -/,
  { lo := 0x12, hi := 0x12, ty := .u8, host := .rw, remote := .no, fw := .rw, dflt := 1, range := (.between 0 2) } /- TEST_RATE -/,
  { lo := 0x13, hi := 0x13, ty := .u16, host := .rw, remote := .no, fw := .rw, dflt := 1, range := (.between 1 32767) } /- TEST_SEED -/,
  { lo := 0x14, hi := 0x14, ty := .domain, host := .rw, remote := .no, fw := .rw, dflt := 0, range := (.len 0 256) } /- TEST_INPUT -/,
  { lo := 0x15, hi := 0x15, ty := .u32, host := .rw, remote := .no, fw := .rw, dflt := 0, range := .any, request := true } /- TEST_REQUEST -/,
  { lo := 0x16, hi := 0x16, ty := .domain, host := .ro, remote := .no, fw := .ro, dflt := 0, range := (.len 0 768), result := true } /- TEST_OUTPUT -/,
  { lo := 0x17, hi := 0x17, ty := .u8, host := .ro, remote := .no, fw := .ro, dflt := 0, range := .any, result := true } /- TEST_STATUS -/,
  { lo := 0x20, hi := 0x20, ty := .u8, host := .rw, remote := .no, fw := .ro, dflt := 48, range := .any } /- ACQ_THRESH -/,
  { lo := 0x21, hi := 0x21, ty := .u8, host := .rw, remote := .no, fw := .ro, dflt := 24, range := (.between 4 40) } /- ACQ_FREQ_RANGE -/,
  { lo := 0x22, hi := 0x22, ty := .u8, host := .rw, remote := .no, fw := .ro, dflt := 6, range := (.between 0 30) } /- SHADOW_DB -/,
  { lo := 0x23, hi := 0x23, ty := .bool, host := .rw, remote := .no, fw := .ro, dflt := 1, range := .any } /- RESEARCH -/,
  { lo := 0x24, hi := 0x24, ty := .u8, host := .rw, remote := .no, fw := .ro, dflt := 40, range := .any } /- RESEARCH_SNR -/,
  { lo := 0x25, hi := 0x25, ty := .u8, host := .rw, remote := .no, fw := .ro, dflt := 6, range := (.between 1 20) } /- REGEN_MIN_DB -/,
  { lo := 0x26, hi := 0x26, ty := .bool, host := .rw, remote := .no, fw := .ro, dflt := 1, range := .any } /- SPILL -/,
  { lo := 0x27, hi := 0x27, ty := .u16, host := .rw, remote := .no, fw := .ro, dflt := 256, range := (.zeroOr 64 256), role0 := true } /- RECORD_MS -/,
  { lo := 0x28, hi := 0x28, ty := .u8, host := .rw, remote := .no, fw := .ro, dflt := 16, range := (.between 1 32) } /- MAX_ITER -/,
  { lo := 0x29, hi := 0x29, ty := .u8, host := .rw, remote := .no, fw := .ro, dflt := 8, range := .any } /- MISCORR_WEAK -/,
  { lo := 0x30, hi := 0x30, ty := .u32, host := .ro, remote := .ro, fw := .ro, dflt := 0, range := .any } /- DETECT_COUNT -/,
  { lo := 0x31, hi := 0x31, ty := .u32, host := .ro, remote := .ro, fw := .ro, dflt := 0, range := .any } /- HDR_ERR_COUNT -/,
  { lo := 0x32, hi := 0x32, ty := .u32, host := .ro, remote := .ro, fw := .ro, dflt := 0, range := .any } /- LANE_FULL_COUNT -/,
  { lo := 0x33, hi := 0x33, ty := .u32, host := .ro, remote := .no, fw := .ro, dflt := 0, range := .any } /- SPILL_REPLAYED -/,
  { lo := 0x34, hi := 0x34, ty := .u32, host := .ro, remote := .no, fw := .ro, dflt := 0, range := .any } /- DEPTH_OVER -/,
  { lo := 0x35, hi := 0x35, ty := .u32, host := .ro, remote := .ro, fw := .ro, dflt := 0, range := .any } /- DECODE_FAIL_COUNT -/,
  { lo := 0x36, hi := 0x36, ty := .u32, host := .ro, remote := .no, fw := .ro, dflt := 0, range := .any } /- REGEN_POOR_COUNT -/,
  { lo := 0x37, hi := 0x37, ty := .u32, host := .ro, remote := .no, fw := .ro, dflt := 0, range := .any } /- LATE_COUNT -/,
  { lo := 0x38, hi := 0x38, ty := .u32, host := .ro, remote := .no, fw := .ro, dflt := 0, range := .any } /- RING_OVR_COUNT -/,
  { lo := 0x39, hi := 0x39, ty := .u32, host := .ro, remote := .no, fw := .ro, dflt := 0, range := .any } /- CLIP_COUNT -/,
  { lo := 0x3A, hi := 0x3A, ty := .u8, host := .ro, remote := .ro, fw := .ro, dflt := 32, range := (.between 0 32) } /- LANES_IN_SERVICE -/,
  { lo := 0x3B, hi := 0x3B, ty := .u8, host := .ro, remote := .ro, fw := .ro, dflt := 32, range := (.between 0 32) } /- SLICES_IN_SERVICE -/,
  { lo := 0x3C, hi := 0x3C, ty := .u8, host := .ro, remote := .ro, fw := .ro, dflt := 4, range := (.between 0 4) } /- ENGINES_IN_SERVICE -/,
  { lo := 0x3D, hi := 0x3D, ty := .domain, host := .ro, remote := .no, fw := .ro, dflt := 0, range := (.len 256 256), zeros := 256 } /- CH_NOISE -/,
  { lo := 0x3E, hi := 0x3E, ty := .domain, host := .ro, remote := .ro, fw := .ro, dflt := 0, range := (.len 16 16), zeros := 16 } /- DEAF_MASK -/,
  { lo := 0x3F, hi := 0x3F, ty := .u8, host := .ro, remote := .no, fw := .ro, dflt := 0, range := (.between 0 5) } /- GAIN_STEP -/,
  { lo := 0x40, hi := 0x40, ty := .i8, host := .rw, remote := .ro, fw := .ro, dflt := 28, range := (.between (-40) 60), ret := true } /- TX_MAX_POWER -/,
  { lo := 0x41, hi := 0x41, ty := .u8, host := .rw, remote := .no, fw := .ro, dflt := 80, range := (.between 60 120) } /- CFR_PAPR -/,
  { lo := 0x42, hi := 0x42, ty := .u8, host := .rw, remote := .no, fw := .ro, dflt := 40, range := (.between 32 50) } /- DPD_TARGET -/,
  { lo := 0x43, hi := 0x43, ty := .u8, host := .rw, remote := .no, fw := .ro, dflt := 0, range := (.between 0 2) } /- DPD_MU -/,
  { lo := 0x44, hi := 0x44, ty := .bool, host := .rw, remote := .no, fw := .ro, dflt := 0, range := .any } /- DPD_NB -/,
  { lo := 0x45, hi := 0x45, ty := .domain, host := .rw, remote := .no, fw := .ro, dflt := 0, range := (.len 256 256), ret := true, role0 := true } /- DPD_COEF -/,
  { lo := 0x46, hi := 0x46, ty := .u32, host := .rw, remote := .no, fw := .rw, dflt := 0, range := .any, request := true } /- DPD_SAVE -/,
  { lo := 0x47, hi := 0x47, ty := .bool, host := .rw, remote := .no, fw := .ro, dflt := 1, range := .any } /- DPD_ADAPT -/,
  { lo := 0x48, hi := 0x48, ty := .u8, host := .ro, remote := .ro, fw := .ro, dflt := 0, range := .any } /- DPD_CONVERGED -/,
  { lo := 0x49, hi := 0x49, ty := .u32, host := .ro, remote := .no, fw := .ro, dflt := 0, range := .any } /- DPD_CEIL -/,
  { lo := 0x4A, hi := 0x4A, ty := .i16, host := .ro, remote := .ro, fw := .ro, dflt := 0, range := .any } /- ACLR_LAST -/,
  { lo := 0x4B, hi := 0x4B, ty := .u32, host := .ro, remote := .ro, fw := .ro, dflt := 0, range := .any } /- BURST_COUNT -/,
  { lo := 0x4C, hi := 0x4C, ty := .u32, host := .ro, remote := .ro, fw := .ro, dflt := 0, range := .any } /- CARRIER_LATE_COUNT -/,
  { lo := 0x4D, hi := 0x4D, ty := .u32, host := .ro, remote := .ro, fw := .ro, dflt := 0, range := .any } /- DPD_ALARM_COUNT -/]

/-- The entries of index 0x2300. -/
def dict2300 : List DictRow := [
  { lo := 0x01, hi := 0x01, ty := .u8, host := .ro, remote := .ro, fw := .ro, dflt := 0, range := .any } /- LINK_STATE -/,
  { lo := 0x02, hi := 0x02, ty := .u32, host := .ro, remote := .ro, fw := .ro, dflt := 0, range := .any } /- GUARD_US -/,
  { lo := 0x03, hi := 0x03, ty := .u16, host := .rw, remote := .no, fw := .ro, dflt := 400, range := (.between 200 410) } /- SEAL_US -/,
  { lo := 0x04, hi := 0x04, ty := .u8, host := .rw, remote := .rw, fw := .ro, dflt := 3, range := (.between 1 15), ret := true } /- SEEK_BEACONS -/,
  { lo := 0x05, hi := 0x05, ty := .u8, host := .rw, remote := .rw, fw := .ro, dflt := 4, range := (.between 1 15), ret := true } /- LOST_LIMIT -/,
  { lo := 0x06, hi := 0x06, ty := .u8, host := .rw, remote := .rw, fw := .ro, dflt := 16, range := (.between 1 255), ret := true } /- DORMANT_GAP -/,
  { lo := 0x07, hi := 0x07, ty := .u8, host := .rw, remote := .rw, fw := .ro, dflt := 255, range := .any, ret := true } /- ALT_CH -/,
  { lo := 0x08, hi := 0x08, ty := .u8, host := .rw, remote := .rw, fw := .ro, dflt := 3, range := (.between 0 15), ret := true } /- RETRY_MAX -/,
  { lo := 0x09, hi := 0x09, ty := .u32, host := .ro, remote := .ro, fw := .ro, dflt := 0, range := .any } /- LOST_SYNC_COUNT -/,
  { lo := 0x0A, hi := 0x0A, ty := .u64, host := .ro, remote := .ro, fw := .ro, dflt := 0, range := .any } /- LAST_LOST_SLOT -/,
  { lo := 0x0B, hi := 0x0B, ty := .u32, host := .rw, remote := .ro, fw := .ro, dflt := 0, range := (.between 0 262142), ret := true } /- PARENT -/,
  { lo := 0x0C, hi := 0x0C, ty := .bool, host := .ro, remote := .ro, fw := .ro, dflt := 0, range := .any } /- EPOCH_MISMATCH -/,
  { lo := 0x0D, hi := 0x0D, ty := .u8, host := .ro, remote := .ro, fw := .ro, dflt := 0, range := .any } /- LINK_STATUS -/,
  { lo := 0x10, hi := 0x10, ty := .bool, host := .rw, remote := .ro, fw := .ro, dflt := 0, range := .any } /- LBT_EN -/,
  { lo := 0x11, hi := 0x11, ty := .i8, host := .rw, remote := .ro, fw := .ro, dflt := 166, range := (.between (-120) (-60)) } /- LBT_DBM -/,
  { lo := 0x12, hi := 0x12, ty := .u16, host := .rw, remote := .ro, fw := .ro, dflt := 160, range := (.between 160 4000) } /- LBT_US -/,
  { lo := 0x13, hi := 0x13, ty := .bool, host := .rw, remote := .ro, fw := .ro, dflt := 0, range := .any } /- LBT_ACK -/,
  { lo := 0x20, hi := 0x25, ty := .u16, host := .rw, remote := .ro, fw := .ro, dflt := 0, range := (.between 0 10000) } /- DUTY_E1–E6 -/,
  { lo := 0x28, hi := 0x28, ty := .u32, host := .rw, remote := .ro, fw := .ro, dflt := 3600, range := (.between 60 86400) } /- DUTY_WINDOW -/,
  { lo := 0x29, hi := 0x29, ty := .u16, host := .rw, remote := .ro, fw := .ro, dflt := 0, range := (.between 0 60000) } /- DWELL_MS -/,
  { lo := 0x2A, hi := 0x2A, ty := .u32, host := .rw, remote := .ro, fw := .ro, dflt := 20000, range := (.between 100 3600000) } /- DWELL_WINDOW_MS -/,
  { lo := 0x30, hi := 0x30, ty := .u32, host := .ro, remote := .ro, fw := .ro, dflt := 0, range := .any } /- ACKED_COUNT -/,
  { lo := 0x31, hi := 0x31, ty := .u32, host := .ro, remote := .ro, fw := .ro, dflt := 0, range := .any } /- TAG_LATE_COUNT -/,
  { lo := 0x32, hi := 0x32, ty := .u32, host := .ro, remote := .ro, fw := .ro, dflt := 0, range := .any } /- RETRY_COUNT -/,
  { lo := 0x33, hi := 0x33, ty := .u32, host := .ro, remote := .ro, fw := .ro, dflt := 0, range := .any } /- GIVEUP_COUNT -/,
  { lo := 0x34, hi := 0x34, ty := .u32, host := .ro, remote := .ro, fw := .ro, dflt := 0, range := .any } /- REG_REFUSED_COUNT -/,
  { lo := 0x35, hi := 0x35, ty := .u32, host := .ro, remote := .ro, fw := .ro, dflt := 0, range := .any } /- ACK_OVERFLOW_COUNT -/,
  { lo := 0x36, hi := 0x36, ty := .u32, host := .ro, remote := .ro, fw := .ro, dflt := 0, range := .any } /- LBT_BUSY_COUNT -/,
  { lo := 0x37, hi := 0x37, ty := .u32, host := .ro, remote := .ro, fw := .ro, dflt := 0, range := .any } /- BEACON_MISS_COUNT -/]

/-- The entries of index 0x2310. -/
def dict2310 : List DictRow := [
  { lo := 0x01, hi := 0x40, ty := .u64, host := .rw, remote := .rw, fw := .ro, dflt := 0, range := .any, ret := true } /- SG_TIME -/]

/-- The entries of index 0x2311. -/
def dict2311 : List DictRow := [
  { lo := 0x01, hi := 0x40, ty := .u32, host := .rw, remote := .rw, fw := .ro, dflt := 0, range := .any, ret := true } /- SG_KIND -/]

/-- The entries of index 0x2312. -/
def dict2312 : List DictRow := [
  { lo := 0x01, hi := 0x01, ty := .u16, host := .rw, remote := .rw, fw := .ro, dflt := 0, range := .any } /- SCHED_EPOCH -/,
  { lo := 0x02, hi := 0x02, ty := .u32, host := .rw, remote := .rw, fw := .ro, dflt := 0, range := (.between 0 268435455) } /- SCHED_AT -/,
  { lo := 0x03, hi := 0x03, ty := .u32, host := .rw, remote := .rw, fw := .ro, dflt := 0, range := .any, request := true } /- SCHED_APPLY -/,
  { lo := 0x04, hi := 0x04, ty := .u8, host := .ro, remote := .ro, fw := .ro, dflt := 0, range := .any, result := true } /- SCHED_STATUS -/]

/-- The entries of index 0x2400. -/
def dict2400 : List DictRow := [
  { lo := 0x01, hi := 0x01, ty := .u32, host := .rw, remote := .ro, fw := .ro, dflt := 0, range := (.between 0 262142), ret := true, role0 := true } /- OWN_NODE -/,
  { lo := 0x02, hi := 0x02, ty := .u32, host := .rw, remote := .rw, fw := .rw, dflt := 0, range := .any, request := true } /- ROUTE_COMMIT -/,
  { lo := 0x03, hi := 0x03, ty := .u8, host := .ro, remote := .ro, fw := .ro, dflt := 0, range := .any, result := true } /- ROUTE_STATUS -/,
  { lo := 0x04, hi := 0x04, ty := .u16, host := .ro, remote := .no, fw := .ro, dflt := 0, range := .any } /- ROUTE_FAIL_ENTRY -/,
  { lo := 0x05, hi := 0x05, ty := .u16, host := .ro, remote := .ro, fw := .ro, dflt := 0, range := .any } /- ROUTE_ENTRIES -/,
  { lo := 0x06, hi := 0x06, ty := .bool, host := .rw, remote := .no, fw := .ro, dflt := 0, range := .any, ret := true } /- STRANGER_FWD -/,
  { lo := 0x07, hi := 0x07, ty := .bool, host := .rw, remote := .rw, fw := .ro, dflt := 1, range := .any, ret := true } /- BCAST_FWD -/,
  { lo := 0x08, hi := 0x08, ty := .u8, host := .rw, remote := .rw, fw := .ro, dflt := 2, range := (.between 0 19), ret := true } /- BCAST_QUEUE -/,
  { lo := 0x09, hi := 0x09, ty := .u32, host := .rw, remote := .no, fw := .ro, dflt := 0, range := (.between 16 65536), ret := true, role0 := true } /- STORE_SLOTS -/,
  { lo := 0x0A, hi := 0x0A, ty := .u16, host := .rw, remote := .rw, fw := .ro, dflt := 6, range := .any, ret := true } /- TC_LIFETIME -/,
  { lo := 0x10, hi := 0x10, ty := .u32, host := .ro, remote := .ro, fw := .ro, dflt := 0, range := .any } /- FORWARD_COUNT -/,
  { lo := 0x11, hi := 0x11, ty := .u32, host := .ro, remote := .ro, fw := .ro, dflt := 0, range := .any } /- NO_ROUTE_COUNT -/,
  { lo := 0x12, hi := 0x12, ty := .u32, host := .ro, remote := .ro, fw := .ro, dflt := 0, range := .any } /- HOPS_OUT_COUNT -/,
  { lo := 0x13, hi := 0x13, ty := .u32, host := .ro, remote := .ro, fw := .ro, dflt := 0, range := .any } /- HELD_COUNT -/,
  { lo := 0x14, hi := 0x14, ty := .u32, host := .ro, remote := .no, fw := .ro, dflt := 0, range := .any } /- RETAG_COUNT -/,
  { lo := 0x15, hi := 0x15, ty := .u32, host := .ro, remote := .ro, fw := .ro, dflt := 0, range := .any } /- DROP_COUNT -/,
  { lo := 0x16, hi := 0x16, ty := .u32, host := .ro, remote := .ro, fw := .ro, dflt := 0, range := .any } /- RENEWED_COUNT -/,
  { lo := 0x17, hi := 0x17, ty := .u32, host := .ro, remote := .ro, fw := .ro, dflt := 0, range := .any } /- SHAPER_DROP_COUNT -/]

/-- The entries of index 0x2401. -/
def dict2401 : List DictRow := [
  { lo := 0x01, hi := 0x01, ty := .domain, host := .rw, remote := .no, fw := .rw, dflt := 0, range := (.len 0 192000), ret := true } /- ROUTE_TABLE -/,
  { lo := 0x02, hi := 0x02, ty := .domain, host := .ro, remote := .no, fw := .ro, dflt := 0, range := (.len 0 192000) } /- ROUTE_ACTIVE -/]

/-- The entries of index 0x2402. -/
def dict2402 : List DictRow := [
  { lo := 0x01, hi := 0x14, ty := .u8, host := .rw, remote := .rw, fw := .ro, dflt := 16, range := (.between 1 255), ret := true } /- Q_WEIGHT -/]

/-- The entries of index 0x2403. -/
def dict2403 : List DictRow := [
  { lo := 0x01, hi := 0x14, ty := .u32, host := .rw, remote := .rw, fw := .ro, dflt := 10000, range := (.between 1 1000000), ret := true } /- Q_RATE -/]

/-- The entries of index 0x2404. -/
def dict2404 : List DictRow := [
  { lo := 0x01, hi := 0x14, ty := .u32, host := .rw, remote := .rw, fw := .ro, dflt := 500000, range := (.between 1 4294967295), ret := true } /- Q_BURST -/]

/-- The entries of index 0x2405. -/
def dict2405 : List DictRow := [
  { lo := 0x01, hi := 0x14, ty := .bool, host := .rw, remote := .rw, fw := .ro, dflt := 0, range := .any, ret := true } /- Q_SHAPE -/]

/-- The entries of index 0x2406. -/
def dict2406 : List DictRow := [
  { lo := 0x01, hi := 0x14, ty := .u16, host := .rw, remote := .no, fw := .ro, dflt := 1024, range := (.between 1 65535), ret := true } /- Q_LIMIT -/]

/-- The entries of index 0x2407. -/
def dict2407 : List DictRow := [
  { lo := 0x01, hi := 0x14, ty := .u16, host := .ro, remote := .ro, fw := .ro, dflt := 0, range := .any } /- Q_DEPTH -/]

/-- The entries of index 0x2408. -/
def dict2408 : List DictRow := [
  { lo := 0x01, hi := 0x06, ty := .u32, host := .ro, remote := .ro, fw := .ro, dflt := 0, range := .any } /- DUTY_TOKENS -/,
  { lo := 0x07, hi := 0x07, ty := .domain, host := .ro, remote := .no, fw := .ro, dflt := 0, range := (.len 512 512), zeros := 512 } /- DWELL_TOKENS -/]

/-- The entries of index 0x2500. -/
def dict2500 : List DictRow := [
  { lo := 0x01, hi := 0x01, ty := .u32, host := .rw, remote := .no, fw := .ro, dflt := 250000, range := (.between 1 250000), ret := true, role0 := true } /- ROSTER_CAPACITY -/,
  { lo := 0x02, hi := 0x02, ty := .u32, host := .rw, remote := .no, fw := .ro, dflt := 1, range := (.between 1 262142), ret := true, role0 := true } /- ROSTER_LO -/,
  { lo := 0x03, hi := 0x03, ty := .u32, host := .rw, remote := .no, fw := .ro, dflt := 262142, range := (.between 1 262142), ret := true, role0 := true } /- ROSTER_HI -/,
  { lo := 0x04, hi := 0x04, ty := .u32, host := .ro, remote := .ro, fw := .ro, dflt := 0, range := .any } /- ROSTER_COUNT -/,
  { lo := 0x05, hi := 0x05, ty := .u8, host := .rw, remote := .no, fw := .rw, dflt := 1, range := (.oneOf [1, 2]) } /- ROSTER_OP -/,
  { lo := 0x06, hi := 0x06, ty := .u32, host := .rw, remote := .no, fw := .rw, dflt := 0, range := (.between 0 262143) } /- OP_LO -/,
  { lo := 0x07, hi := 0x07, ty := .u32, host := .rw, remote := .no, fw := .rw, dflt := 0, range := (.between 0 262143) } /- OP_HI -/,
  { lo := 0x08, hi := 0x08, ty := .u32, host := .rw, remote := .no, fw := .rw, dflt := 0, range := .any, request := true } /- OP_REQUEST -/,
  { lo := 0x09, hi := 0x09, ty := .u8, host := .ro, remote := .no, fw := .ro, dflt := 0, range := .any, result := true } /- OP_STATUS -/,
  { lo := 0x0A, hi := 0x0A, ty := .u32, host := .ro, remote := .no, fw := .ro, dflt := 0, range := .any } /- OP_DONE -/,
  { lo := 0x10, hi := 0x10, ty := .u32, host := .rw, remote := .no, fw := .rw, dflt := 0, range := (.between 0 262143) } /- RESTORE_NODE -/,
  { lo := 0x11, hi := 0x11, ty := .domain, host := .rw, remote := .no, fw := .rw, dflt := 0, range := (.len 192 192) } /- RESTORE_IMAGE -/,
  { lo := 0x12, hi := 0x12, ty := .u32, host := .rw, remote := .no, fw := .rw, dflt := 0, range := .any, request := true } /- RESTORE_REQUEST -/,
  { lo := 0x13, hi := 0x13, ty := .u8, host := .ro, remote := .no, fw := .ro, dflt := 0, range := .any, result := true } /- RESTORE_STATUS -/,
  { lo := 0x18, hi := 0x18, ty := .u32, host := .ro, remote := .ro, fw := .ro, dflt := 0, range := .any } /- POISONED_COUNT -/,
  { lo := 0x19, hi := 0x19, ty := .u32, host := .ro, remote := .no, fw := .ro, dflt := 0, range := .any } /- FIRST_POISONED -/,
  { lo := 0x1A, hi := 0x1A, ty := .u32, host := .ro, remote := .no, fw := .ro, dflt := 0, range := .any } /- LAST_STRANGER -/,
  { lo := 0x1B, hi := 0x1B, ty := .bool, host := .rw, remote := .no, fw := .ro, dflt := 1, range := .any, ret := true } /- ADVICE_AUTO -/,
  { lo := 0x1C, hi := 0x1C, ty := .i16, host := .rw, remote := .no, fw := .ro, dflt := 32, range := .any, ret := true } /- ADVICE_SNR -/]

/-- The entries of index 0x3000. -/
def dict3000 : List DictRow := [
  { lo := 0x01, hi := 0x01, ty := .u16, host := .rw, remote := .ro, fw := .ro, dflt := 128, range := (.oneOf [128, 256]), ret := true, role0 := true } /- KEY_SIZE -/,
  { lo := 0x02, hi := 0x02, ty := .u16, host := .ro, remote := .ro, fw := .ro, dflt := 0, range := .any } /- KEY_EPOCH -/,
  { lo := 0x03, hi := 0x03, ty := .u8, host := .ro, remote := .ro, fw := .ro, dflt := 0, range := .any } /- EPOCHS_HELD -/,
  { lo := 0x04, hi := 0x04, ty := .u16, host := .rw, remote := .no, fw := .ro, dflt := 0, range := .any } /- NEXT_EPOCH -/,
  { lo := 0x05, hi := 0x05, ty := .u32, host := .rw, remote := .no, fw := .ro, dflt := 0, range := (.between 0 268435455) } /- KEY_CHANGE_AT -/,
  { lo := 0x06, hi := 0x06, ty := .u32, host := .rw, remote := .no, fw := .ro, dflt := 0, range := .any, request := true } /- KEY_CHANGE_REQUEST -/,
  { lo := 0x07, hi := 0x07, ty := .u8, host := .ro, remote := .ro, fw := .ro, dflt := 2, range := .any, result := true } /- KEY_STATUS -/,
  { lo := 0x08, hi := 0x08, ty := .u16, host := .rw, remote := .no, fw := .ro, dflt := 360, range := .any, ret := true } /- KEY_GRACE -/,
  { lo := 0x09, hi := 0x09, ty := .u32, host := .wo, remote := .no, fw := .no, dflt := 0, range := .any, request := true, role0 := true } /- KEY_ERASE -/,
  { lo := 0x0A, hi := 0x0A, ty := .bool, host := .ro, remote := .ro, fw := .ro, dflt := 0, range := .any } /- KEY_STALE -/,
  { lo := 0x10, hi := 0x10, ty := .domain, host := .wo, remote := .no, fw := .no, dflt := 0, range := (.lens 16 32) } /- NET_KEY_NEXT -/,
  { lo := 0x11, hi := 0x13, ty := .domain, host := .wo, remote := .no, fw := .no, dflt := 0, range := (.lens 16 32) } /- OWN_, BCAST_, PARENT_KEY_NEXT -/,
  { lo := 0x14, hi := 0x16, ty := .domain, host := .wo, remote := .no, fw := .wo, dflt := 0, range := (.lens 16 32) } /- FW_KEY_12–14 -/,
  { lo := 0x17, hi := 0x17, ty := .u32, host := .rw, remote := .no, fw := .ro, dflt := 0, range := .any, ret := true } /- FW_KEY_MASK -/,
  { lo := 0x20, hi := 0x20, ty := .u32, host := .rw, remote := .no, fw := .rw, dflt := 0, range := (.between 1 262142) } /- WRAP_NODE -/,
  { lo := 0x21, hi := 0x21, ty := .u32, host := .rw, remote := .no, fw := .rw, dflt := 0, range := .any, request := true } /- WRAP_REQUEST -/,
  { lo := 0x22, hi := 0x22, ty := .domain, host := .ro, remote := .no, fw := .ro, dflt := 0, range := .any, result := true } /- WRAP_OUT -/,
  { lo := 0x23, hi := 0x23, ty := .u8, host := .ro, remote := .no, fw := .ro, dflt := 2, range := .any, result := true } /- WRAP_STATUS -/,
  { lo := 0x24, hi := 0x24, ty := .u8, host := .rw, remote := .no, fw := .rw, dflt := 0, range := (.oneOf [0, 1]) } /- WRAP_FORM -/,
  { lo := 0x30, hi := 0x30, ty := .u8, host := .rw, remote := .no, fw := .rw, dflt := 0, range := (.oneOf [0, 1]) } /- TEST_MODE -/,
  { lo := 0x31, hi := 0x31, ty := .domain, host := .rw, remote := .no, fw := .rw, dflt := 0, range := (.lens 16 32) } /- TEST_KEY -/,
  { lo := 0x32, hi := 0x32, ty := .u64, host := .rw, remote := .no, fw := .rw, dflt := 0, range := .any } /- TEST_PARAM -/,
  { lo := 0x33, hi := 0x33, ty := .domain, host := .rw, remote := .no, fw := .rw, dflt := 0, range := (.len 0 256) } /- TEST_MSG -/,
  { lo := 0x34, hi := 0x34, ty := .u32, host := .rw, remote := .no, fw := .rw, dflt := 0, range := .any, request := true } /- TEST_REQUEST -/,
  { lo := 0x35, hi := 0x35, ty := .domain, host := .ro, remote := .no, fw := .ro, dflt := 0, range := .any, result := true } /- TEST_OUT -/,
  { lo := 0x36, hi := 0x36, ty := .u8, host := .ro, remote := .no, fw := .ro, dflt := 2, range := .any, result := true } /- TEST_STATUS -/,
  { lo := 0x40, hi := 0x40, ty := .u32, host := .ro, remote := .ro, fw := .ro, dflt := 0, range := .any } /- VIOLATION_COUNT -/]

/-- The entries of index 0x3001. -/
def dict3001 : List DictRow := [
  { lo := 0x01, hi := 0x04, ty := .domain, host := .rw, remote := .no, fw := .ro, dflt := 0, range := (.len 48 48) } /- CUST_KEY_HASH -/,
  { lo := 0x05, hi := 0x05, ty := .u8, host := .rw, remote := .no, fw := .ro, dflt := 0, range := (.between 0 15) } /- CUST_KEY_REVOKED -/]

/-- The entries of index 0x3002. -/
def dict3002 : List DictRow := [
  { lo := 0x01, hi := 0x04, ty := .u8, host := .rw, remote := .ro, fw := .ro, dflt := 0, range := (.between 0 64) } /- ROLLBACK_MIN -/]

/-- The entries of index 0x3003. -/
def dict3003 : List DictRow := [
  { lo := 0x01, hi := 0x01, ty := .bool, host := .rw, remote := .ro, fw := .ro, dflt := 0, range := .any } /- DEBUG_LOCK -/]

/-- The entries of index 0x3100. -/
def dict3100 : List DictRow := [
  { lo := 0x01, hi := 0x01, ty := .u16, host := .ro, remote := .ro, fw := .ro, dflt := 0, range := .any } /- RUN_SET_ID -/,
  { lo := 0x02, hi := 0x02, ty := .u8, host := .ro, remote := .ro, fw := .ro, dflt := 0, range := .any } /- IMAGE_STATE -/,
  { lo := 0x03, hi := 0x03, ty := .u8, host := .ro, remote := .ro, fw := .ro, dflt := 0, range := (.oneOf [0, 1, 2, 3, 4, 5]) } /- START_OUTCOME -/,
  { lo := 0x04, hi := 0x04, ty := .u16, host := .ro, remote := .no, fw := .ro, dflt := 0, range := .any } /- START_MS -/,
  { lo := 0x05, hi := 0x05, ty := .u8, host := .rw, remote := .no, fw := .ro, dflt := 0, range := (.between 0 5), ret := true } /- START_ROLE -/,
  { lo := 0x06, hi := 0x06, ty := .u32, host := .ro, remote := .ro, fw := .ro, dflt := 0, range := .any } /- START_COUNT -/,
  { lo := 0x07, hi := 0x07, ty := .bool, host := .ro, remote := .ro, fw := .ro, dflt := 0, range := .any } /- SELFTEST_RAN -/,
  { lo := 0x10, hi := 0x13, ty := .u16, host := .ro, remote := .ro, fw := .ro, dflt := 0, range := .any } /- RUN_VERSION -/,
  { lo := 0x18, hi := 0x1D, ty := .u8, host := .ro, remote := .ro, fw := .ro, dflt := 0, range := (.oneOf [0, 1, 2, 3]) } /- CORE_STATE -/]

/-- The entries of index 0x3200. -/
def dict3200 : List DictRow := [
  { lo := 0x01, hi := 0x01, ty := .u8, host := .ro, remote := .ro, fw := .ro, dflt := 64, range := .any } /- FLASH_SPARE_A -/,
  { lo := 0x02, hi := 0x02, ty := .u8, host := .ro, remote := .ro, fw := .ro, dflt := 64, range := .any } /- FLASH_SPARE_B -/,
  { lo := 0x03, hi := 0x03, ty := .u16, host := .ro, remote := .ro, fw := .ro, dflt := 0, range := .any } /- FLASH_GROWN -/,
  { lo := 0x04, hi := 0x04, ty := .u32, host := .ro, remote := .no, fw := .ro, dflt := 0, range := .any } /- FLASH_CE_COUNT -/,
  { lo := 0x05, hi := 0x05, ty := .u32, host := .ro, remote := .no, fw := .ro, dflt := 0, range := .any } /- FLASH_INTERRUPTED -/,
  { lo := 0x06, hi := 0x06, ty := .u32, host := .ro, remote := .no, fw := .ro, dflt := 0, range := .any } /- RING_SEQ -/,
  { lo := 0x07, hi := 0x07, ty := .u8, host := .ro, remote := .no, fw := .ro, dflt := 7, range := (.between 0 7) } /- FLASH_WS -/,
  { lo := 0x08, hi := 0x08, ty := .u8, host := .rw, remote := .no, fw := .ro, dflt := 16, range := (.between 1 255), ret := true } /- CE_REFRESH -/,
  { lo := 0x10, hi := 0x10, ty := .u16, host := .ro, remote := .ro, fw := .ro, dflt := 0, range := .any } /- SRAM_ROWS_USED -/,
  { lo := 0x11, hi := 0x11, ty := .u16, host := .ro, remote := .ro, fw := .ro, dflt := 0, range := .any } /- SRAM_MACROS_FULL -/,
  { lo := 0x12, hi := 0x12, ty := .u32, host := .ro, remote := .no, fw := .ro, dflt := 0, range := .any } /- SRAM_CE_COUNT -/,
  { lo := 0x13, hi := 0x13, ty := .u8, host := .rw, remote := .no, fw := .ro, dflt := 4, range := (.between 1 255), ret := true } /- ROW_CE_LIMIT -/,
  { lo := 0x14, hi := 0x14, ty := .u16, host := .rw, remote := .no, fw := .ro, dflt := 60, range := (.between 1 3600), ret := true } /- SRAM_SCRUB_S -/,
  { lo := 0x20, hi := 0x20, ty := .u16, host := .ro, remote := .ro, fw := .ro, dflt := 548, range := .any } /- DRAM_MAP -/,
  { lo := 0x21, hi := 0x21, ty := .u8, host := .ro, remote := .ro, fw := .ro, dflt := 0, range := .any } /- DRAM_MIG_STATE -/,
  { lo := 0x22, hi := 0x22, ty := .u32, host := .ro, remote := .no, fw := .ro, dflt := 0, range := .any } /- DRAM_CE_COUNT -/,
  { lo := 0x23, hi := 0x23, ty := .u32, host := .ro, remote := .ro, fw := .ro, dflt := 0, range := .any } /- DRAM_UE_COUNT -/,
  { lo := 0x24, hi := 0x24, ty := .u32, host := .ro, remote := .no, fw := .ro, dflt := 0, range := .any } /- DRAM_CAPAR_COUNT -/,
  { lo := 0x25, hi := 0x25, ty := .u32, host := .ro, remote := .ro, fw := .ro, dflt := 0, range := .any } /- DRAM_POISONED -/,
  { lo := 0x26, hi := 0x26, ty := .u16, host := .rw, remote := .no, fw := .ro, dflt := 8192, range := (.between 1024 32768), ret := true } /- RH_THRESHOLD -/,
  { lo := 0x27, hi := 0x27, ty := .u32, host := .ro, remote := .no, fw := .ro, dflt := 0, range := .any } /- RH_REFRESH_COUNT -/,
  { lo := 0x28, hi := 0x28, ty := .u8, host := .rw, remote := .no, fw := .ro, dflt := 24, range := (.between 1 168), ret := true } /- SCRUB_HOURS -/,
  { lo := 0x29, hi := 0x29, ty := .u8, host := .rw, remote := .no, fw := .ro, dflt := 25, range := (.between 10 50), ret := true } /- COPY_SHARE -/,
  { lo := 0x2A, hi := 0x2A, ty := .bool, host := .rw, remote := .no, fw := .ro, dflt := 0, range := .any } /- DRAM_COLD -/,
  { lo := 0x2B, hi := 0x2B, ty := .u16, host := .rw, remote := .no, fw := .rw, dflt := 0, range := .any } /- PASR_MASK -/,
  { lo := 0x2C, hi := 0x2C, ty := .u16, host := .rw, remote := .no, fw := .ro, dflt := 1000, range := (.between 100 60000), ret := true } /- SPARE_IDLE_MS -/,
  { lo := 0x2D, hi := 0x2D, ty := .u8, host := .ro, remote := .no, fw := .ro, dflt := 2, range := .any } /- TRAIN_STATUS -/,
  { lo := 0x2E, hi := 0x2E, ty := .bool, host := .rw, remote := .no, fw := .rw, dflt := 0, range := .any } /- TRAIN_FULL_NEXT -/,
  { lo := 0x2F, hi := 0x2F, ty := .u8, host := .ro, remote := .ro, fw := .ro, dflt := 0, range := .any } /- DRAM_DERATE -/]

/-- The entries of index 0x3300. -/
def dict3300 : List DictRow := [
  { lo := 0x01, hi := 0x01, ty := .u32, host := .rw, remote := .ro, fw := .rw, dflt := 0, range := (.between 0 3155759999) } /- RTC_SECONDS -/,
  { lo := 0x02, hi := 0x02, ty := .u16, host := .ro, remote := .no, fw := .ro, dflt := 0, range := .any } /- RTC_SUBSEC -/,
  { lo := 0x03, hi := 0x03, ty := .u8, host := .ro, remote := .ro, fw := .ro, dflt := 0, range := .any } /- RTC_FLAGS -/,
  { lo := 0x04, hi := 0x04, ty := .u32, host := .rw, remote := .no, fw := .rw, dflt := 0, range := .any, request := true } /- RTC_FLAGS_CLEAR -/,
  { lo := 0x05, hi := 0x05, ty := .i16, host := .rw, remote := .no, fw := .rw, dflt := 0, range := (.between (-511) 511) } /- RTC_CAL -/,
  { lo := 0x06, hi := 0x06, ty := .u32, host := .rw, remote := .no, fw := .rw, dflt := 0, range := (.between 0 3155759999) } /- ALARM_SECONDS -/,
  { lo := 0x07, hi := 0x07, ty := .bool, host := .rw, remote := .no, fw := .rw, dflt := 0, range := .any } /- ALARM_POWER -/,
  { lo := 0x08, hi := 0x08, ty := .u32, host := .rw, remote := .no, fw := .rw, dflt := 0, range := .any, request := true } /- POWER_CYCLE -/,
  { lo := 0x09, hi := 0x09, ty := .u16, host := .rw, remote := .no, fw := .rw, dflt := 10, range := (.between 2 65535) } /- POWER_CYCLE_S -/,
  { lo := 0x0A, hi := 0x0A, ty := .domain, host := .ro, remote := .no, fw := .rw, dflt := 0, range := (.len 64 64), zeros := 64 } /- BKP_SCRATCH -/,
  { lo := 0x10, hi := 0x10, ty := .u32, host := .ro, remote := .ro, fw := .ro, dflt := 0, range := .any } /- EVF_LOOP_COUNT -/,
  { lo := 0x11, hi := 0x11, ty := .u32, host := .ro, remote := .ro, fw := .ro, dflt := 0, range := .any } /- EVF_MERGED_COUNT -/]

/-- The entries of index 0x3400. -/
def dict3400 : List DictRow := [
  { lo := 0x01, hi := 0x01, ty := .u8, host := .ro, remote := .ro, fw := .ro, dflt := 0, range := (.oneOf [0, 1]) } /- REG_MODE -/,
  { lo := 0x02, hi := 0x02, ty := .u16, host := .ro, remote := .ro, fw := .ro, dflt := 0, range := .any } /- VMAIN_MV -/,
  { lo := 0x03, hi := 0x03, ty := .u16, host := .rw, remote := .no, fw := .ro, dflt := 2000, range := (.between 100 2000), ret := true } /- LP_BUDGET -/,
  { lo := 0x04, hi := 0x04, ty := .u16, host := .ro, remote := .no, fw := .ro, dflt := 0, range := .any } /- EST_SUM -/,
  { lo := 0x05, hi := 0x05, ty := .u32, host := .ro, remote := .ro, fw := .ro, dflt := 0, range := .any } /- REFUSED_COUNT -/,
  { lo := 0x06, hi := 0x06, ty := .u8, host := .ro, remote := .ro, fw := .ro, dflt := 255, range := .any } /- WAKE_CAUSE -/,
  { lo := 0x07, hi := 0x07, ty := .u64, host := .ro, remote := .no, fw := .ro, dflt := 0, range := .any } /- WAKE_TIME -/,
  { lo := 0x08, hi := 0x08, ty := .u16, host := .ro, remote := .no, fw := .ro, dflt := 0, range := .any } /- WAKE_LATENCY -/,
  { lo := 0x09, hi := 0x09, ty := .u32, host := .ro, remote := .ro, fw := .ro, dflt := 0, range := .any } /- WAKE_COUNT -/,
  { lo := 0x0A, hi := 0x0A, ty := .bool, host := .ro, remote := .ro, fw := .ro, dflt := 0, range := .any } /- ROLE_LOW -/,
  { lo := 0x10, hi := 0x10, ty := .u8, host := .rw, remote := .no, fw := .rw, dflt := 0, range := (.between 0 3) } /- SYS_DIV -/,
  { lo := 0x11, hi := 0x11, ty := .bool, host := .rw, remote := .no, fw := .ro, dflt := 0, range := .any, ret := true, role0 := true } /- XO_BYPASS -/,
  { lo := 0x12, hi := 0x12, ty := .u32, host := .ro, remote := .ro, fw := .ro, dflt := 0, range := .any } /- XO_FAIL_COUNT -/,
  { lo := 0x13, hi := 0x13, ty := .u8, host := .ro, remote := .no, fw := .ro, dflt := 0, range := .any } /- PLL_LOCKED -/]

/-- The entries of index 0x3401. -/
def dict3401 : List DictRow := [
  { lo := 0x01, hi := 0x18, ty := .u8, host := .rw, remote := .no, fw := .rw, dflt := 0, range := (.oneOf [0, 1, 2]) } /- DOMAIN_REQ -/]

/-- The entries of index 0x3402. -/
def dict3402 : List DictRow := [
  { lo := 0x01, hi := 0x18, ty := .u8, host := .ro, remote := .ro, fw := .ro, dflt := 0, range := .any } /- DOMAIN_STATE -/]

/-- The entries of index 0x3403. -/
def dict3403 : List DictRow := [
  { lo := 0x01, hi := 0x18, ty := .u32, host := .rw, remote := .no, fw := .ro, dflt := 0, range := .any, ret := true } /- DOMAIN_EST -/]

/-- The entries of index 0x3404. -/
def dict3404 : List DictRow := [
  { lo := 0x01, hi := 0x01, ty := .u8, host := .rw, remote := .no, fw := .rw, dflt := 1, range := .any } /- SRAM0_RET_MASK -/]

/-- The entries of index 0x3500. -/
def dict3500 : List DictRow := [
  { lo := 0x01, hi := 0x01, ty := .u32, host := .rw, remote := .no, fw := .rw, dflt := 0, range := .any, request := true } /- STAGE_BEGIN -/,
  { lo := 0x02, hi := 0x02, ty := .domain, host := .wo, remote := .no, fw := .wo, dflt := 0, range := (.len 0 3145728) } /- STAGE_DATA -/,
  { lo := 0x03, hi := 0x03, ty := .u32, host := .rw, remote := .no, fw := .rw, dflt := 0, range := .any, request := true } /- STAGE_VERIFY -/,
  { lo := 0x04, hi := 0x04, ty := .u8, host := .ro, remote := .ro, fw := .ro, dflt := 2, range := .any, result := true } /- STAGE_STATUS -/,
  { lo := 0x05, hi := 0x05, ty := .u16, host := .ro, remote := .ro, fw := .ro, dflt := 0, range := .any } /- STAGED_SET_ID -/,
  { lo := 0x06, hi := 0x06, ty := .u64, host := .ro, remote := .ro, fw := .ro, dflt := 0, range := .any } /- STAGED_VERSIONS -/,
  { lo := 0x10, hi := 0x10, ty := .u32, host := .rw, remote := .no, fw := .rw, dflt := 0, range := .any, request := true } /- CONFIRM -/,
  { lo := 0x11, hi := 0x11, ty := .u32, host := .rw, remote := .no, fw := .ro, dflt := 600, range := (.between 0 86400), ret := true } /- AUTO_CONFIRM_S -/,
  { lo := 0x12, hi := 0x12, ty := .bool, host := .rw, remote := .no, fw := .ro, dflt := 1, range := .any, ret := true } /- AUTO_RAISE -/,
  { lo := 0x13, hi := 0x13, ty := .u8, host := .rw, remote := .no, fw := .ro, dflt := 3, range := (.between 1 15), ret := true } /- TRIAL_LIMIT -/,
  { lo := 0x14, hi := 0x14, ty := .bool, host := .ro, remote := .ro, fw := .ro, dflt := 0, range := .any } /- ROLLBACK_PENDING -/,
  { lo := 0x15, hi := 0x15, ty := .u16, host := .ro, remote := .no, fw := .ro, dflt := 0, range := .any } /- COPY_REMAINING -/,
  { lo := 0x16, hi := 0x16, ty := .u32, host := .rw, remote := .no, fw := .rw, dflt := 0, range := .any, request := true } /- ACTIVATE_NOW -/,
  { lo := 0x20, hi := 0x20, ty := .u8, host := .rw, remote := .no, fw := .rw, dflt := 1, range := (.between 1 2) } /- HO_CLASS -/,
  { lo := 0x21, hi := 0x21, ty := .u64, host := .rw, remote := .no, fw := .rw, dflt := 0, range := (.between 0 1099511627775) } /- HO_SLOT -/,
  { lo := 0x22, hi := 0x22, ty := .bool, host := .rw, remote := .no, fw := .rw, dflt := 1, range := .any, ret := true } /- HO_FALLBACK -/,
  { lo := 0x23, hi := 0x23, ty := .u32, host := .rw, remote := .no, fw := .rw, dflt := 0, range := .any, request := true } /- HO_REQUEST -/,
  { lo := 0x24, hi := 0x24, ty := .u8, host := .ro, remote := .ro, fw := .ro, dflt := 2, range := .any, result := true } /- HO_STATUS -/,
  { lo := 0x30, hi := 0x30, ty := .u16, host := .rw, remote := .no, fw := .rw, dflt := 0, range := .any } /- ACT_ID -/,
  { lo := 0x31, hi := 0x31, ty := .u64, host := .rw, remote := .no, fw := .rw, dflt := 0, range := (.between 0 1099511627775) } /- ACT_SLOT -/,
  { lo := 0x32, hi := 0x32, ty := .u32, host := .rw, remote := .no, fw := .rw, dflt := 0, range := .any, request := true } /- ACT_REQUEST -/,
  { lo := 0x33, hi := 0x33, ty := .u8, host := .ro, remote := .ro, fw := .ro, dflt := 2, range := .any, result := true } /- ACT_STATUS -/,
  { lo := 0x34, hi := 0x34, ty := .u16, host := .rw, remote := .no, fw := .ro, dflt := 360, range := (.between 1 65535), ret := true } /- ACT_MIN_LEAD -/,
  { lo := 0x35, hi := 0x35, ty := .u32, host := .rw, remote := .no, fw := .rw, dflt := 0, range := .any, request := true } /- ACT_CANCEL -/,
  { lo := 0x36, hi := 0x36, ty := .u64, host := .ro, remote := .ro, fw := .ro, dflt := 0, range := .any } /- ACT_ARMED -/]

/-- The entries of index 0x3600. -/
def dict3600 : List DictRow := [
  { lo := 0x01, hi := 0x09, ty := .u8, host := .ro, remote := .ro, fw := .ro, dflt := 0, range := (.between 0 4) } /- HEALTH_GRADE -/,
  { lo := 0x11, hi := 0x19, ty := .u16, host := .ro, remote := .ro, fw := .ro, dflt := 0, range := .any } /- SPARES_LEFT -/,
  { lo := 0x21, hi := 0x29, ty := .u16, host := .ro, remote := .ro, fw := .ro, dflt := 0, range := .any } /- SPARES_USED -/,
  { lo := 0x30, hi := 0x35, ty := .i16, host := .ro, remote := .ro, fw := .ro, dflt := 0, range := .any } /- TEMP -/,
  { lo := 0x36, hi := 0x3B, ty := .i16, host := .ro, remote := .ro, fw := .ro, dflt := 0, range := .any } /- TEMP_MAX_LIFE -/,
  { lo := 0x3C, hi := 0x3C, ty := .u32, host := .ro, remote := .ro, fw := .ro, dflt := 0, range := .any } /- HOT_MINUTES -/,
  { lo := 0x40, hi := 0x44, ty := .u16, host := .ro, remote := .ro, fw := .ro, dflt := 0, range := .any } /- VOLT -/,
  { lo := 0x45, hi := 0x48, ty := .i16, host := .ro, remote := .ro, fw := .ro, dflt := 0, range := .any } /- PROC -/,
  { lo := 0x4A, hi := 0x4A, ty := .i16, host := .rw, remote := .no, fw := .ro, dflt := 1150, range := .any, ret := true } /- TEMP_WARN -/,
  { lo := 0x4B, hi := 0x4B, ty := .i16, host := .rw, remote := .no, fw := .ro, dflt := 1250, range := .any, ret := true } /- TEMP_CRIT -/,
  { lo := 0x4C, hi := 0x4C, ty := .u8, host := .rw, remote := .no, fw := .ro, dflt := 5, range := (.between 1 20), ret := true } /- VOLT_BAND -/,
  { lo := 0x50, hi := 0x50, ty := .u32, host := .rw, remote := .no, fw := .rw, dflt := 0, range := .any, request := true } /- SHUTDOWN -/,
  { lo := 0x51, hi := 0x51, ty := .u8, host := .rw, remote := .no, fw := .rw, dflt := 0, range := (.between 0 2) } /- SHUTDOWN_ACTION -/,
  { lo := 0x52, hi := 0x52, ty := .u32, host := .rw, remote := .rw, fw := .rw, dflt := 0, range := .any, request := true } /- ROLL_REQUEST -/,
  { lo := 0x53, hi := 0x53, ty := .bool, host := .rw, remote := .no, fw := .ro, dflt := 1, range := .any, ret := true } /- ROLL_ON_ARM -/,
  { lo := 0x54, hi := 0x54, ty := .u16, host := .rw, remote := .no, fw := .ro, dflt := 100, range := (.between 10 10000), ret := true } /- ROLL_GAP_MS -/,
  { lo := 0x55, hi := 0x55, ty := .u8, host := .ro, remote := .ro, fw := .ro, dflt := 2, range := .any, result := true } /- BIST_STATUS -/,
  { lo := 0x56, hi := 0x56, ty := .domain, host := .ro, remote := .ro, fw := .ro, dflt := 0, range := (.len 36 36), result := true } /- BIST_REPORT -/,
  { lo := 0x57, hi := 0x57, ty := .u16, host := .ro, remote := .ro, fw := .ro, dflt := 0, range := .any } /- BIST_COVERAGE -/,
  { lo := 0x58, hi := 0x58, ty := .u16, host := .ro, remote := .ro, fw := .ro, dflt := 0, range := .any } /- BIST_MS -/,
  { lo := 0x60, hi := 0x60, ty := .u8, host := .rw, remote := .no, fw := .rw, dflt := 0, range := .any } /- INJ_DETECTOR -/,
  { lo := 0x61, hi := 0x61, ty := .u8, host := .rw, remote := .no, fw := .rw, dflt := 0, range := .any } /- INJ_UNIT -/,
  { lo := 0x62, hi := 0x62, ty := .u8, host := .rw, remote := .no, fw := .rw, dflt := 0, range := (.oneOf [0, 1]) } /- INJ_MODE -/,
  { lo := 0x63, hi := 0x63, ty := .bool, host := .rw, remote := .no, fw := .rw, dflt := 0, range := .any } /- INJ_UE -/,
  { lo := 0x64, hi := 0x64, ty := .u32, host := .rw, remote := .no, fw := .rw, dflt := 0, range := .any, request := true } /- INJ_REQUEST -/,
  { lo := 0x65, hi := 0x65, ty := .u8, host := .ro, remote := .no, fw := .ro, dflt := 0, range := .any, result := true } /- INJ_STATUS -/,
  { lo := 0x66, hi := 0x66, ty := .u16, host := .rw, remote := .no, fw := .rw, dflt := 100, range := (.between 100 60000) } /- INJ_HOLD_MS -/,
  { lo := 0x70, hi := 0x75, ty := .u16, host := .ro, remote := .no, fw := .rw, dflt := 0, range := .any } /- WDT_MS -/,
  { lo := 0x78, hi := 0x78, ty := .u32, host := .ro, remote := .ro, fw := .ro, dflt := 0, range := .any } /- WDT_EXPIRY_COUNT -/,
  { lo := 0x79, hi := 0x79, ty := .u32, host := .ro, remote := .ro, fw := .ro, dflt := 0, range := .any } /- CORE_RESTART_COUNT -/,
  { lo := 0x80, hi := 0x80, ty := .domain, host := .ro, remote := .ro, fw := .ro, dflt := 0, range := (.len 256 256) } /- HEALTH_EVENTS -/]

/-- The entries of index 0x3700. -/
def dict3700 : List DictRow := [
  { lo := 0x01, hi := 0x01, ty := .bool, host := .rw, remote := .no, fw := .ro, dflt := 0, range := .any, ret := true, role0 := true } /- PLK_ENABLE -/,
  { lo := 0x02, hi := 0x02, ty := .u8, host := .rw, remote := .no, fw := .ro, dflt := 0, range := (.between 0 7), ret := true, role0 := true } /- PLK_POSITION -/,
  { lo := 0x03, hi := 0x03, ty := .u8, host := .rw, remote := .no, fw := .ro, dflt := 255, range := (.oneOf [12, 13, 14, 255]), ret := true } /- PLK_KEY_SLOT -/,
  { lo := 0x04, hi := 0x04, ty := .u32, host := .rw, remote := .no, fw := .ro, dflt := 1000, range := (.between 200 100000), ret := true } /- HB_TIMEOUT_US -/,
  { lo := 0x05, hi := 0x05, ty := .u8, host := .ro, remote := .ro, fw := .ro, dflt := 0, range := .any } /- RING_MEMBERS -/,
  { lo := 0x06, hi := 0x06, ty := .u8, host := .ro, remote := .ro, fw := .ro, dflt := 0, range := .any } /- PORT_STATE -/,
  { lo := 0x07, hi := 0x07, ty := .i32, host := .ro, remote := .no, fw := .ro, dflt := 0, range := .any } /- PHASE_ERR_NS -/,
  { lo := 0x08, hi := 0x08, ty := .bool, host := .ro, remote := .ro, fw := .ro, dflt := 0, range := .any } /- PHASE_LOST -/,
  { lo := 0x10, hi := 0x10, ty := .bool, host := .rw, remote := .no, fw := .ro, dflt := 0, range := .any, ret := true, role0 := true } /- TWIN_ENABLE -/,
  { lo := 0x11, hi := 0x11, ty := .u8, host := .rw, remote := .no, fw := .ro, dflt := 0, range := (.between 0 7), ret := true, role0 := true } /- TWIN_PARTNER -/,
  { lo := 0x12, hi := 0x12, ty := .u16, host := .rw, remote := .no, fw := .ro, dflt := 1000, range := (.between 200 10000), ret := true } /- BEACON_WAIT_US -/,
  { lo := 0x13, hi := 0x13, ty := .u8, host := .ro, remote := .ro, fw := .ro, dflt := 0, range := (.oneOf [0, 1, 2, 3, 4]) } /- TWIN_STATE -/,
  { lo := 0x14, hi := 0x14, ty := .u8, host := .ro, remote := .ro, fw := .ro, dflt := 0, range := .any } /- MIRROR_STATE -/,
  { lo := 0x15, hi := 0x15, ty := .u32, host := .ro, remote := .no, fw := .ro, dflt := 0, range := .any } /- JOURNAL_BYTES -/,
  { lo := 0x16, hi := 0x16, ty := .u32, host := .ro, remote := .ro, fw := .ro, dflt := 0, range := .any } /- TAKEOVER_COUNT -/,
  { lo := 0x17, hi := 0x17, ty := .u64, host := .ro, remote := .ro, fw := .ro, dflt := 0, range := .any } /- LAST_TAKEOVER_SLOT -/,
  { lo := 0x18, hi := 0x18, ty := .u64, host := .rw, remote := .no, fw := .rw, dflt := 0, range := (.between 0 1099511627775) } /- TWIN_SWITCH_SLOT -/,
  { lo := 0x19, hi := 0x19, ty := .u32, host := .rw, remote := .no, fw := .rw, dflt := 0, range := .any, request := true } /- TWIN_SWITCH -/,
  { lo := 0x1A, hi := 0x1A, ty := .u8, host := .ro, remote := .no, fw := .ro, dflt := 0, range := .any, result := true } /- TWIN_SWITCH_STATUS -/,
  { lo := 0x1B, hi := 0x1B, ty := .u32, host := .ro, remote := .ro, fw := .ro, dflt := 0, range := .any } /- DEMOTED_COUNT -/,
  { lo := 0x20, hi := 0x20, ty := .bool, host := .rw, remote := .no, fw := .ro, dflt := 0, range := .any, ret := true } /- ARB_ENABLE -/,
  { lo := 0x21, hi := 0x21, ty := .u32, host := .ro, remote := .ro, fw := .ro, dflt := 0, range := .any } /- ARB_LOST_COUNT -/,
  { lo := 0x22, hi := 0x22, ty := .u32, host := .ro, remote := .ro, fw := .ro, dflt := 0, range := .any } /- PEER_DROP_COUNT -/,
  { lo := 0x23, hi := 0x23, ty := .u32, host := .ro, remote := .no, fw := .ro, dflt := 0, range := .any } /- PLK_CRC_COUNT -/,
  { lo := 0x24, hi := 0x24, ty := .u32, host := .ro, remote := .ro, fw := .ro, dflt := 0, range := .any } /- PLK_AUTH_COUNT -/]

/-- The rows of an index; none where the index is unassigned (R43). -/
def dictIndex (idx : Nat) : List DictRow :=
  if idx = 0x1000 then dict1000 else
  if idx = 0x1001 then dict1001 else
  if idx = 0x1010 then dict1010 else
  if idx = 0x1100 then dict1100 else
  if idx = 0x1101 then dict1101 else
  if idx = 0x1102 then dict1102 else
  if idx = 0x1200 then dict1200 else
  if idx = 0x1201 then dict1201 else
  if idx = 0x1202 then dict1202 else
  if idx = 0x1203 then dict1203 else
  if idx = 0x1204 then dict1204 else
  if idx = 0x2000 then dict2000 else
  if idx = 0x2100 then dict2100 else
  if idx = 0x2200 then dict2200 else
  if idx = 0x2300 then dict2300 else
  if idx = 0x2310 then dict2310 else
  if idx = 0x2311 then dict2311 else
  if idx = 0x2312 then dict2312 else
  if idx = 0x2400 then dict2400 else
  if idx = 0x2401 then dict2401 else
  if idx = 0x2402 then dict2402 else
  if idx = 0x2403 then dict2403 else
  if idx = 0x2404 then dict2404 else
  if idx = 0x2405 then dict2405 else
  if idx = 0x2406 then dict2406 else
  if idx = 0x2407 then dict2407 else
  if idx = 0x2408 then dict2408 else
  if idx = 0x2500 then dict2500 else
  if idx = 0x3000 then dict3000 else
  if idx = 0x3001 then dict3001 else
  if idx = 0x3002 then dict3002 else
  if idx = 0x3003 then dict3003 else
  if idx = 0x3100 then dict3100 else
  if idx = 0x3200 then dict3200 else
  if idx = 0x3300 then dict3300 else
  if idx = 0x3400 then dict3400 else
  if idx = 0x3401 then dict3401 else
  if idx = 0x3402 then dict3402 else
  if idx = 0x3403 then dict3403 else
  if idx = 0x3404 then dict3404 else
  if idx = 0x3500 then dict3500 else
  if idx = 0x3600 then dict3600 else
  if idx = 0x3700 then dict3700 else
  []

/-- Every assigned index below the windows, in rising order. -/
def dictIndices : List Nat :=
  [0x1000, 0x1001, 0x1010, 0x1100, 0x1101, 0x1102, 0x1200, 0x1201, 0x1202, 0x1203, 0x1204, 0x2000, 0x2100, 0x2200, 0x2300, 0x2310, 0x2311, 0x2312, 0x2400, 0x2401, 0x2402, 0x2403, 0x2404, 0x2405, 0x2406, 0x2407, 0x2408, 0x2500, 0x3000, 0x3001, 0x3002, 0x3003, 0x3100, 0x3200, 0x3300, 0x3400, 0x3401, 0x3402, 0x3403, 0x3404, 0x3500, 0x3600, 0x3700]

end Sys2Proof.Machine
end

