-- ==== Sys2Proof/Machine/RegTable.lean ====
section
/-! DEFINITION. The register tables (R16): one row for each register of the blocks whose registers the state holds by address,
with its reset value and the bits each access code covers. Bits that no code covers are read only. -/

namespace Sys2Proof.Machine

/-- One register, or `n` of them `stride` bytes apart. -/
structure RegRow where
  addr   : Nat
  n      : Nat := 1
  stride : Nat := 4
  reset  : Nat := 0
  /-- Bits read and written freely. -/
  rw     : Nat := 0
  /-- Bits written until the block's lock is set. -/
  rwl    : Nat := 0
  /-- Bits cleared by writing 1. -/
  w1c    : Nat := 0
  /-- Bits set by writing 1. -/
  w1s    : Nat := 0
  /-- Bits cleared by a read. -/
  rc     : Nat := 0
  deriving DecidableEq, Repr

/-- The registers at 0x4010_0000. -/
def regsRfs : List RegRow := [
  { addr := 0x40100000, reset := 0x4, w1s := 0x1 } /- RFS_CTRL -/,
  { addr := 0x40100004 } /- RFS_STATE -/,
  { addr := 0x40100010 } /- RFS_CMD -/,
  { addr := 0x40100014, reset := 0xFFFF, rw := 0xFFFF } /- RFS_CMD_LATEST -/,
  { addr := 0x40100018, rw := 0xFF } /- RFS_CMD_POWER -/,
  { addr := 0x4010001C, rw := 0xFFFFFFFF } /- RFS_CMD_WINDOW -/,
  { addr := 0x40100020, w1c := 0x7FF } /- RFS_STAT -/,
  { addr := 0x40100024, rc := 0xFFFFFFFF } /- RFS_LATE_CNT -/,
  { addr := 0x40100030 } /- RFS_LO_FREQ -/,
  { addr := 0x40100040 } /- RFS_CAL_REQ -/,
  { addr := 0x40100044 } /- RFS_CAL_STAT -/,
  { addr := 0x40100050 } /- RFS_IQ_CORR -/,
  { addr := 0x40100054 } /- RFS_DC -/,
  { addr := 0x40100058, reset := 0x20 } /- RFS_RC_CODE -/,
  { addr := 0x4010005C, reset := 0x40, rwl := 0x7F } /- RFS_XO_TRIM -/,
  { addr := 0x40100060 } /- RFS_ANT_GAMMA -/,
  { addr := 0x40100064, reset := 0x2020, rw := 0x3F3F } /- RFS_TUNE -/,
  { addr := 0x40100068, reset := 0x84CC333, rwl := 0xFFFFFFF } /- RFS_ANT_CFG -/,
  { addr := 0x40100070, reset := 0x40, rwl := 0xFFF1 } /- RFS_EPA_CFG -/,
  { addr := 0x40100074, rwl := 0xFFFF } /- RFS_EPA_GAIN -/,
  { addr := 0x40100078 } /- RFS_FB_LEVEL -/]

/-- The registers at 0x4011_0000. -/
def regsAcq : List RegRow := [
  { addr := 0x40110000, reset := 0x60C, rwl := 0xFF0E, w1s := 0x1 } /- ACQ_CTRL -/,
  { addr := 0x40110004, reset := 0x30, rwl := 0xFF } /- ACQ_THRESH -/,
  { addr := 0x40110008, reset := 0x18, rwl := 0x3F } /- ACQ_FREQ -/,
  { addr := 0x4011000C } /- ACQ_GAIN -/,
  { addr := 0x40110020, w1c := 0x3F } /- ACQ_STAT -/,
  { addr := 0x40110030, rc := 0xFFFFFFFF } /- ACQ_DET_CNT -/,
  { addr := 0x40110034, rc := 0xFFFFFFFF } /- ACQ_FALSE_CNT -/,
  { addr := 0x40110038, rc := 0xFFFFFFFF } /- ACQ_DEPTH_CNT -/,
  { addr := 0x4011003C, rc := 0xFFFFFFFF } /- ACQ_SHADOW_CNT -/,
  { addr := 0x40110040, n := 8 } /- ACQ_SLICE_MAPi -/,
  { addr := 0x40110060, reset := 0x2 } /- ACQ_SPARE -/,
  { addr := 0x40110064 } /- ACQ_RETIRED -/,
  { addr := 0x40110068 } /- ACQ_RETIRED_HI -/,
  { addr := 0x40110070, rc := 0xFFFFFFFF } /- ACQ_CLIP_CNT -/,
  { addr := 0x40110090, rwl := 0xFFFFF000 } /- ACQ_REC_BASE -/,
  { addr := 0x40110094, reset := 0x100, rwl := 0x1FF } /- ACQ_REC_MS -/,
  { addr := 0x40110100, n := 64 } /- ACQ_NOISEb -/]

/-- The registers at 0x4012_0000. -/
def regsLane : List RegRow := [
  { addr := 0x40120000, n := 36, stride := 0x400 } /- LANE_STATE -/,
  { addr := 0x40120004, n := 36, stride := 0x400 } /- LANE_FRAME -/,
  { addr := 0x40120008, n := 36, stride := 0x400 } /- LANE_FREQ -/,
  { addr := 0x4012000C, n := 36, stride := 0x400 } /- LANE_SNR -/,
  { addr := 0x40120010, n := 36, stride := 0x400, w1c := 0x7 } /- LANE_ERR -/,
  { addr := 0x4012A000, reset := 0x100, w1s := 0x1 } /- LANE_CTRL -/,
  { addr := 0x4012A004, reset := 0x1, rw := 0x3F } /- LANE_NB_SF -/,
  { addr := 0x4012A010, n := 8 } /- LANE_MAPi -/,
  { addr := 0x4012A030, reset := 0x4 } /- LANE_SPARE -/,
  { addr := 0x4012A034 } /- LANE_RETIRED -/,
  { addr := 0x4012A038 } /- LANE_RETIRED_HI -/,
  { addr := 0x4012A040, reset := 0x82806, rwl := 0xFFFFFF } /- LANE_REGEN -/,
  { addr := 0x4012A050, rwl := 0xFFFFFFC0 } /- LANE_RING_BASE -/,
  { addr := 0x4012A054, rwl := 0xFFFFFF00 } /- LANE_POOL_BASE -/,
  { addr := 0x4012A058, reset := 0x4, rwl := 0x1F } /- LANE_RING_SIZE -/,
  { addr := 0x4012A05C } /- LANE_RING_WR -/,
  { addr := 0x4012A060, rw := 0xFFFFFFFF } /- LANE_RING_RD -/,
  { addr := 0x4012A070, rc := 0xFFFFFFFF } /- LANE_HDR_ERR_CNT -/,
  { addr := 0x4012A074, rc := 0xFFFFFFFF } /- LANE_FULL_CNT -/,
  { addr := 0x4012A078, rc := 0xFFFFFFFF } /- LANE_SPILL_CNT -/,
  { addr := 0x4012A07C, rc := 0xFFFFFFFF } /- LANE_REGEN_CNT -/,
  { addr := 0x4012A080, rc := 0xFFFFFFFF } /- LANE_POOR_CNT -/,
  { addr := 0x4012A084, rc := 0xFFFFFFFF } /- LANE_RING_OVR_CNT -/]

/-- The registers at 0x4013_0000. -/
def regsLdc : List RegRow := [
  { addr := 0x40130000, reset := 0x1000, rwl := 0x3F00, w1s := 0x1 } /- LDC_CTRL -/,
  { addr := 0x40130010 } /- LDC_MAP -/,
  { addr := 0x40130014, reset := 0x1 } /- LDC_SPARE -/,
  { addr := 0x40130020, w1c := 0x7 } /- LDC_STAT -/,
  { addr := 0x40130030, rc := 0xFFFFFFFF } /- LDC_DEC_CNT -/,
  { addr := 0x40130034, rc := 0xFFFFFFFF } /- LDC_FAIL_CNT -/,
  { addr := 0x40130038, rc := 0xFFFFFFFF } /- LDC_ITER_SUM -/,
  { addr := 0x4013003C, rc := 0xFFFFFFFF } /- LDC_LATE_CNT -/]

/-- The registers at 0x4014_0000. -/
def regsTxm : List RegRow := [
  { addr := 0x40140000, reset := 0x6, rwl := 0x2, w1s := 0x1 } /- TXM_CTRL -/,
  { addr := 0x40140004 } /- TXM_STATE -/,
  { addr := 0x40140008, rw := 0x7FF } /- TXM_GRANT_REQ -/,
  { addr := 0x4014000C } /- TXM_GRANT -/,
  { addr := 0x40140010, reset := 0x50, rwl := 0xFF } /- TXM_CFR -/,
  { addr := 0x40140014, reset := 0x1C, rwl := 0xFF } /- TXM_MAX -/,
  { addr := 0x40140020, w1c := 0x1F } /- TXM_STAT -/,
  { addr := 0x40140024, rc := 0xFFFFFFFF } /- TXM_BURST_CNT -/,
  { addr := 0x40140028, rc := 0xFFFFFFFF } /- TXM_LATE_CNT -/,
  { addr := 0x4014002C, rc := 0xFFFFFFFF } /- TXM_ALARM_CNT -/,
  { addr := 0x40140030 } /- TXM_ACLR -/,
  { addr := 0x40140040, reset := 0x2801, rwl := 0x3F35 } /- TXM_DPD_CTRL -/,
  { addr := 0x40140050, n := 4 } /- TXM_BANDb -/,
  { addr := 0x40140100, n := 8, stride := 0x20, rw := 0xFFFFFFFF } /- CARc_CFG -/,
  { addr := 0x40140104, n := 8, stride := 0x20, rw := 0xFFFFFFFF } /- CARc_HDR0–3[0] -/,
  { addr := 0x40140108, n := 8, stride := 0x20, rw := 0xFFFFFFFF } /- CARc_HDR0–3[1] -/,
  { addr := 0x4014010C, n := 8, stride := 0x20, rw := 0xFFFFFFFF } /- CARc_HDR0–3[2] -/,
  { addr := 0x40140110, n := 8, stride := 0x20, rw := 0xFFFFFFFF } /- CARc_HDR0–3[3] -/,
  { addr := 0x40140114, n := 8, stride := 0x20, rw := 0xFFFFFFF0 } /- CARc_BLOCK -/,
  { addr := 0x40140118, n := 8, stride := 0x20, rw := 0xFFFFFFFF } /- CARc_SLOT -/,
  { addr := 0x4014011C, n := 8, stride := 0x20, rw := 0xFF } /- CARc_STAT -/,
  { addr := 0x40140800, n := 64, rw := 0xFFFFFFFF } /- TXM_COEFb -/]

/-- The registers at 0x4015_0000. -/
def regsLnk : List RegRow := [
  { addr := 0x40150000, rwl := 0x2, w1s := 0x1 } /- LNK_CTRL -/,
  { addr := 0x40150004 } /- LNK_SYNC -/,
  { addr := 0x40150008 } /- LNK_GUARD -/,
  { addr := 0x4015000C } /- LNK_SYNC_SLOT -/,
  { addr := 0x40150010 } /- LNK_SYNC_SLOT_HI -/,
  { addr := 0x40150014, reset := 0x190, rwl := 0x1FF } /- LNK_SEAL -/,
  { addr := 0x40150018, reset := 0xFF100403, rwl := 0xFFFF0F0F } /- LNK_SEEK -/,
  { addr := 0x4015001C, reset := 0x3, rwl := 0xF } /- LNK_RETRY -/,
  { addr := 0x40150020, w1c := 0x3FF } /- LNK_STAT -/,
  { addr := 0x40150030, reset := 0xA000A6, rwl := 0x3FFFFF } /- LNK_LBT -/,
  { addr := 0x40150040, rc := 0xFFFFFFFF } /- LNK_ACKED_CNT -/,
  { addr := 0x40150044, rc := 0xFFFFFFFF } /- LNK_TAGLATE_CNT -/,
  { addr := 0x40150048, rc := 0xFFFFFFFF } /- LNK_REGDROP_CNT -/,
  { addr := 0x4015004C, rc := 0xFFFFFFFF } /- LNK_RETRY_CNT -/,
  { addr := 0x40150050, rc := 0xFFFFFFFF } /- LNK_GIVEUP_CNT -/,
  { addr := 0x40150054, rc := 0xFFFFFFFF } /- LNK_BMISS_CNT -/,
  { addr := 0x40150058, rc := 0xFFFFFFFF } /- LNK_OVERFLOW_CNT -/,
  { addr := 0x4015005C, rc := 0xFFFFFFFF } /- LNK_LBTBUSY_CNT -/,
  { addr := 0x40150080 } /- LNK_EPOCH -/,
  { addr := 0x40150084, rwl := 0xFFFFFFF } /- LNK_SCHED_AT -/,
  { addr := 0x40150088 } /- LNK_SCHED_APPLY -/,
  { addr := 0x40150400, n := 64, stride := 0x10, rwl := 0xFFFFFFFF } /- SGi_TIME_LO -/,
  { addr := 0x40150404, n := 64, stride := 0x10, rwl := 0xFFFFFFFF } /- SGi_TIME_HI -/,
  { addr := 0x40150408, n := 64, stride := 0x10, rwl := 0xFFFFFFFF } /- SGi_KIND -/,
  { addr := 0x4015040C, n := 64, stride := 0x10 } /- SGi_STAT -/]

/-- The registers at 0x4016_0000. -/
def regsCwy : List RegRow := [
  { addr := 0x40160000, reset := 0x8, rwl := 0xE, w1s := 0x1 } /- CWY_CTRL -/,
  { addr := 0x40160004, rwl := 0x3FFFF } /- CWY_OWN -/,
  { addr := 0x40160008 } /- CWY_ENTRIES -/,
  { addr := 0x4016000C } /- CWY_COMMIT -/,
  { addr := 0x40160010 } /- CWY_BUILD -/,
  { addr := 0x40160020, w1c := 0x1FF } /- CWY_STAT -/,
  { addr := 0x40160030, rwl := 0xFFFFF000 } /- CWY_ROSTER_BASE -/,
  { addr := 0x40160034, rwl := 0xFFF00000 } /- CWY_INDEX_BASE -/,
  { addr := 0x40160038, reset := 0x3D090, rwl := 0x3FFFF } /- CWY_ROSTER_CAP -/,
  { addr := 0x4016003C, reset := 0x1, rwl := 0x3FFFF } /- CWY_ROSTER_LO -/,
  { addr := 0x40160040, reset := 0x3FFFE, rwl := 0x3FFFF } /- CWY_ROSTER_HI -/,
  { addr := 0x40160044 } /- CWY_ROSTER_CNT -/,
  { addr := 0x40160048, rwl := 0xFFFFFFE0 } /- CWY_STORE_BASE -/,
  { addr := 0x4016004C, reset := 0x100, rwl := 0x1FFFF } /- CWY_STORE_SLOTS -/,
  { addr := 0x40160050 } /- CWY_STORE_FREE -/,
  { addr := 0x40160060, rc := 0xFFFFFFFF } /- CWY_FWD_CNT -/,
  { addr := 0x40160064, rc := 0xFFFFFFFF } /- CWY_NOROUTE_CNT -/,
  { addr := 0x40160068, rc := 0xFFFFFFFF } /- CWY_HOPSOUT_CNT -/,
  { addr := 0x4016006C, rc := 0xFFFFFFFF } /- CWY_HELD_CNT -/,
  { addr := 0x40160070, rc := 0xFFFFFFFF } /- CWY_STRANGER_CNT -/,
  { addr := 0x40160074, rc := 0xFFFFFFFF } /- CWY_RETAG_CNT -/,
  { addr := 0x40160078, rc := 0xFFFFFFFF } /- CWY_DROP_CNT -/,
  { addr := 0x4016007C, rc := 0xFFFFFFFF } /- CWY_POISON_CNT -/]

/-- The registers at 0x4017_0000. -/
def regsSlu : List RegRow := [
  { addr := 0x40170000, rwl := 0x2, w1s := 0x1 } /- SLU_CTRL -/,
  { addr := 0x40170008 } /- SLU_V_LO -/,
  { addr := 0x4017000C } /- SLU_V_HI -/,
  { addr := 0x40170010, reset := 0x6, rwl := 0xFFFF } /- SLU_TC_LIFE -/,
  { addr := 0x40170020, w1c := 0x1F } /- SLU_STAT -/,
  { addr := 0x40170030 } /- SLU_ALLOC -/,
  { addr := 0x40170034, rw := 0xFFFFFFFF } /- SLU_ENQ_SLOT -/,
  { addr := 0x40170038, rw := 0x3FFFF } /- SLU_ENQ_NODE -/,
  { addr := 0x4017003C } /- SLU_ENQ -/,
  { addr := 0x40170040 } /- SLU_ENQ_RESULT -/,
  { addr := 0x40170050, rwl := 0xFFFFFFF8 } /- SLU_DONE_BASE -/,
  { addr := 0x40170054, reset := 0x8, rwl := 0x1F } /- SLU_DONE_SIZE -/,
  { addr := 0x40170058 } /- SLU_DONE_WR -/,
  { addr := 0x4017005C, rw := 0xFFFFFFFF } /- SLU_DONE_RD -/,
  { addr := 0x40170060, rc := 0xFFFFFFFF } /- SLU_RENEW_CNT -/,
  { addr := 0x40170064, rc := 0xFFFFFFFF } /- SLU_SHDROP_CNT -/,
  { addr := 0x40170068, rc := 0xFFFFFFFF } /- SLU_QFULL_CNT -/,
  { addr := 0x40170100, n := 24, stride := 0x10, reset := 0x4000010, rwl := 0xFFFF01FF } /- SLU_Qi_CFG -/,
  { addr := 0x40170104, n := 24, stride := 0x10, reset := 0x2710, rwl := 0xFFFFFFFF } /- SLU_Qi_RATE -/,
  { addr := 0x40170108, n := 24, stride := 0x10, reset := 0x7A120, rwl := 0xFFFFFFFF } /- SLU_Qi_BURST -/,
  { addr := 0x4017010C, n := 24, stride := 0x10 } /- SLU_Qi_STAT -/,
  { addr := 0x40170400, n := 6 } /- SLU_DUTYk -/,
  { addr := 0x40170500, n := 128 } /- SLU_DWELLn -/]

/-- The registers at 0x4008_0000. -/
def regsCmc : List RegRow := [
  { addr := 0x40080000, rw := 0x7F } /- CMC_PCTRL page 0 -/,
  { addr := 0x40081000, rw := 0x7F } /- CMC_PCTRL page 1 -/,
  { addr := 0x40082000, rw := 0x7F } /- CMC_PCTRL page 2 -/,
  { addr := 0x40083000, rw := 0x7F } /- CMC_PCTRL page 3 -/,
  { addr := 0x40084000, rw := 0x7F } /- CMC_PCTRL page 4 -/,
  { addr := 0x40085000, rw := 0x7F } /- CMC_PCTRL page 5 -/,
  { addr := 0x40086000, rw := 0x7F } /- CMC_PCTRL page 6 -/,
  { addr := 0x40087000, rw := 0x7F } /- CMC_PCTRL page 7 -/,
  { addr := 0x40080004 } /- CMC_PSTAT page 0 -/,
  { addr := 0x40081004 } /- CMC_PSTAT page 1 -/,
  { addr := 0x40082004 } /- CMC_PSTAT page 2 -/,
  { addr := 0x40083004 } /- CMC_PSTAT page 3 -/,
  { addr := 0x40084004 } /- CMC_PSTAT page 4 -/,
  { addr := 0x40085004 } /- CMC_PSTAT page 5 -/,
  { addr := 0x40086004 } /- CMC_PSTAT page 6 -/,
  { addr := 0x40087004 } /- CMC_PSTAT page 7 -/,
  { addr := 0x40080008, rw := 0x3FFFF } /- CMC_NODE page 0 -/,
  { addr := 0x40081008, rw := 0x3FFFF } /- CMC_NODE page 1 -/,
  { addr := 0x40082008, rw := 0x3FFFF } /- CMC_NODE page 2 -/,
  { addr := 0x40083008, rw := 0x3FFFF } /- CMC_NODE page 3 -/,
  { addr := 0x40084008, rw := 0x3FFFF } /- CMC_NODE page 4 -/,
  { addr := 0x40085008, rw := 0x3FFFF } /- CMC_NODE page 5 -/,
  { addr := 0x40086008, rw := 0x3FFFF } /- CMC_NODE page 6 -/,
  { addr := 0x40087008, rw := 0x3FFFF } /- CMC_NODE page 7 -/,
  { addr := 0x4008000C, rw := 0xFFFF } /- CMC_EPOCH page 0 -/,
  { addr := 0x4008100C, rw := 0xFFFF } /- CMC_EPOCH page 1 -/,
  { addr := 0x4008200C, rw := 0xFFFF } /- CMC_EPOCH page 2 -/,
  { addr := 0x4008300C, rw := 0xFFFF } /- CMC_EPOCH page 3 -/,
  { addr := 0x4008400C, rw := 0xFFFF } /- CMC_EPOCH page 4 -/,
  { addr := 0x4008500C, rw := 0xFFFF } /- CMC_EPOCH page 5 -/,
  { addr := 0x4008600C, rw := 0xFFFF } /- CMC_EPOCH page 6 -/,
  { addr := 0x4008700C, rw := 0xFFFF } /- CMC_EPOCH page 7 -/,
  { addr := 0x40080010, rw := 0xFFFFFFFF } /- CMC_MSG_ADDR page 0 -/,
  { addr := 0x40081010, rw := 0xFFFFFFFF } /- CMC_MSG_ADDR page 1 -/,
  { addr := 0x40082010, rw := 0xFFFFFFFF } /- CMC_MSG_ADDR page 2 -/,
  { addr := 0x40083010, rw := 0xFFFFFFFF } /- CMC_MSG_ADDR page 3 -/,
  { addr := 0x40084010, rw := 0xFFFFFFFF } /- CMC_MSG_ADDR page 4 -/,
  { addr := 0x40085010, rw := 0xFFFFFFFF } /- CMC_MSG_ADDR page 5 -/,
  { addr := 0x40086010, rw := 0xFFFFFFFF } /- CMC_MSG_ADDR page 6 -/,
  { addr := 0x40087010, rw := 0xFFFFFFFF } /- CMC_MSG_ADDR page 7 -/,
  { addr := 0x40080014, rw := 0xFFFFFF } /- CMC_MSG_LEN page 0 -/,
  { addr := 0x40081014, rw := 0xFFFFFF } /- CMC_MSG_LEN page 1 -/,
  { addr := 0x40082014, rw := 0xFFFFFF } /- CMC_MSG_LEN page 2 -/,
  { addr := 0x40083014, rw := 0xFFFFFF } /- CMC_MSG_LEN page 3 -/,
  { addr := 0x40084014, rw := 0xFFFFFF } /- CMC_MSG_LEN page 4 -/,
  { addr := 0x40085014, rw := 0xFFFFFF } /- CMC_MSG_LEN page 5 -/,
  { addr := 0x40086014, rw := 0xFFFFFF } /- CMC_MSG_LEN page 6 -/,
  { addr := 0x40087014, rw := 0xFFFFFF } /- CMC_MSG_LEN page 7 -/,
  { addr := 0x40080020, n := 4 } /- CMC_MAC0–3 page 0 -/,
  { addr := 0x40081020, n := 4 } /- CMC_MAC0–3 page 1 -/,
  { addr := 0x40082020, n := 4 } /- CMC_MAC0–3 page 2 -/,
  { addr := 0x40083020, n := 4 } /- CMC_MAC0–3 page 3 -/,
  { addr := 0x40084020, n := 4 } /- CMC_MAC0–3 page 4 -/,
  { addr := 0x40085020, n := 4 } /- CMC_MAC0–3 page 5 -/,
  { addr := 0x40086020, n := 4 } /- CMC_MAC0–3 page 6 -/,
  { addr := 0x40087020, n := 4 } /- CMC_MAC0–3 page 7 -/,
  { addr := 0x40080030, n := 2, rw := 0xFFFFFFFF } /- CMC_CMP_LO, HI page 0 -/,
  { addr := 0x40081030, n := 2, rw := 0xFFFFFFFF } /- CMC_CMP_LO, HI page 1 -/,
  { addr := 0x40082030, n := 2, rw := 0xFFFFFFFF } /- CMC_CMP_LO, HI page 2 -/,
  { addr := 0x40083030, n := 2, rw := 0xFFFFFFFF } /- CMC_CMP_LO, HI page 3 -/,
  { addr := 0x40084030, n := 2, rw := 0xFFFFFFFF } /- CMC_CMP_LO, HI page 4 -/,
  { addr := 0x40085030, n := 2, rw := 0xFFFFFFFF } /- CMC_CMP_LO, HI page 5 -/,
  { addr := 0x40086030, n := 2, rw := 0xFFFFFFFF } /- CMC_CMP_LO, HI page 6 -/,
  { addr := 0x40087030, n := 2, rw := 0xFFFFFFFF } /- CMC_CMP_LO, HI page 7 -/,
  { addr := 0x40080040, n := 8 } /- CMC_PKEY0–7 page 0 -/,
  { addr := 0x40081040, n := 8 } /- CMC_PKEY0–7 page 1 -/,
  { addr := 0x40082040, n := 8 } /- CMC_PKEY0–7 page 2 -/,
  { addr := 0x40083040, n := 8 } /- CMC_PKEY0–7 page 3 -/,
  { addr := 0x40084040, n := 8 } /- CMC_PKEY0–7 page 4 -/,
  { addr := 0x40085040, n := 8 } /- CMC_PKEY0–7 page 5 -/,
  { addr := 0x40086040, n := 8 } /- CMC_PKEY0–7 page 6 -/,
  { addr := 0x40087040, n := 8 } /- CMC_PKEY0–7 page 7 -/,
  { addr := 0x40080060 } /- CMC_CMD page 0 -/,
  { addr := 0x40081060 } /- CMC_CMD page 1 -/,
  { addr := 0x40082060 } /- CMC_CMD page 2 -/,
  { addr := 0x40083060 } /- CMC_CMD page 3 -/,
  { addr := 0x40084060 } /- CMC_CMD page 4 -/,
  { addr := 0x40085060 } /- CMC_CMD page 5 -/,
  { addr := 0x40086060 } /- CMC_CMD page 6 -/,
  { addr := 0x40087060 } /- CMC_CMD page 7 -/,
  { addr := 0x40080064 } /- CMC_BLOCKS page 0 -/,
  { addr := 0x40081064 } /- CMC_BLOCKS page 1 -/,
  { addr := 0x40082064 } /- CMC_BLOCKS page 2 -/,
  { addr := 0x40083064 } /- CMC_BLOCKS page 3 -/,
  { addr := 0x40084064 } /- CMC_BLOCKS page 4 -/,
  { addr := 0x40085064 } /- CMC_BLOCKS page 5 -/,
  { addr := 0x40086064 } /- CMC_BLOCKS page 6 -/,
  { addr := 0x40087064 } /- CMC_BLOCKS page 7 -/,
  { addr := 0x40084800, n := 8 } /- KS_STAGE0–7 -/,
  { addr := 0x40084820 } /- KS_LOAD -/,
  { addr := 0x40084824 } /- KS_ERASE -/,
  { addr := 0x40084840, n := 15 } /- KS_SLOTs -/,
  { addr := 0x40084880 } /- CMC_EPOCHS -/,
  { addr := 0x40084884 } /- CMC_EPOCH_NEXT -/,
  { addr := 0x40084890, rc := 0xFFFFFFFF } /- CMC_VIOL -/,
  { addr := 0x400848A0, rc := 0xFFFFFFFF } /- CMC_URG_CNT -/,
  { addr := 0x400848A4, rc := 0xFFFFFFFF } /- CMC_SUSP_CNT -/]

/-- The registers at 0x4009_0000. -/
def regsPke : List RegRow := [
  { addr := 0x40090000 } /- PKE_V_CMD -/,
  { addr := 0x40090004 } /- PKE_V_STAT -/,
  { addr := 0x40090008, rw := 0xFFFFFFFF } /- PKE_V_ADDR -/,
  { addr := 0x4009000C, rw := 0xFFFFFFFF } /- PKE_V_LEN -/,
  { addr := 0x40090010, n := 12, rw := 0xFFFFFFFF } /- PKE_V_DIGEST -/,
  { addr := 0x40090040, n := 24, rw := 0xFFFFFFFF } /- PKE_V_PUB -/,
  { addr := 0x400900A0, n := 24, rw := 0xFFFFFFFF } /- PKE_V_SIG -/,
  { addr := 0x40090200, rc := 0xFFFFFFFF } /- PKE_VIOL -/,
  { addr := 0x40090800 } /- PKE_S_CMD -/,
  { addr := 0x40090804 } /- PKE_S_STAT -/,
  { addr := 0x40090810, n := 12, rw := 0xFFFFFFFF } /- PKE_S_DIGEST -/,
  { addr := 0x40090840, n := 24 } /- PKE_S_SIG -/]

/-- The registers at 0x2118_0000. -/
def regsKzc : List RegRow := [
  { addr := 0x21180000, reset := 0x543210 } /- KZC_MAP -/,
  { addr := 0x21180004, reset := 0x1 } /- KZC_SPARE -/,
  { addr := 0x21180008, w1c := 0x3F } /- KZC_STAT -/,
  { addr := 0x2118000C, rw := 0x80003F07 } /- KZC_SWAP -/,
  { addr := 0x21180010 } /- KZC_SWAP_RESULT -/,
  { addr := 0x21180014, rc := 0xFFFFFFFF } /- KZC_VIOL -/,
  { addr := 0x21180018 } /- KZC_FAULT_INFO -/,
  { addr := 0x21180100, n := 6, stride := 0x20, rw := 0x1 } /- CORE_CTRL -/,
  { addr := 0x21180104, n := 6, stride := 0x20, rw := 0xFFFFFFFC } /- CORE_BOOT -/,
  { addr := 0x21180108, n := 6, stride := 0x20, rw := 0xFFFF } /- CORE_UCVALID -/,
  { addr := 0x2118010C, n := 6, stride := 0x20 } /- CORE_CAUSE -/,
  { addr := 0x21180110, n := 6, stride := 0x20 } /- CORE_PC -/]

/-- The registers at 0x4006_0000. -/
def regsFlc : List RegRow := [
  { addr := 0x40060000, reset := 0x27, rw := 0x37 } /- FLC_CTRL -/,
  { addr := 0x40060004, reset := 0x7 } /- FLC_WS_EFF -/,
  { addr := 0x40060008 } /- FLC_KEY -/,
  { addr := 0x4006000C } /- FLC_CMD -/,
  { addr := 0x40060010, rw := 0xFFFFFFF0 } /- FLC_ADDR -/,
  { addr := 0x40060014, n := 4, reset := 0xFFFFFFFF, rw := 0xFFFFFFFF } /- FLC_DATA0–3 -/,
  { addr := 0x40060024, w1c := 0x1FD } /- FLC_STAT -/,
  { addr := 0x40060028 } /- FLC_RESULT -/,
  { addr := 0x40060030 } /- FLC_VFY_CNT -/,
  { addr := 0x40060034 } /- FLC_VFY_ADDR -/,
  { addr := 0x40060038, rc := 0xFFFFFFFF } /- FLC_CE_CNT -/,
  { addr := 0x4006003C } /- FLC_ECC_ADDR -/,
  { addr := 0x40060040, reset := 0x4040 } /- FLC_SPARE -/,
  { addr := 0x40060044 } /- FLC_GROWN -/,
  { addr := 0x40060050, rw := 0xF07FFFF0 } /- FLC_INTR -/,
  { addr := 0x40060054 } /- FLC_RING -/,
  { addr := 0x40060100, n := 128 } /- FLC_GDTi -/]

/-- The registers at 0x4007_0000. -/
def regsDmc : List RegRow := [
  { addr := 0x40070000, reset := 0x1904, rw := 0x8, rwl := 0xFF06, w1s := 0x1 } /- DMC_CTRL -/,
  { addr := 0x40070004, reset := 0x224 } /- DMC_MAP -/,
  { addr := 0x40070008, w1c := 0xFF } /- DMC_STAT -/,
  { addr := 0x40070010 } /- DMC_MIG -/,
  { addr := 0x40070014 } /- DMC_ERR_ADDR -/,
  { addr := 0x40070018, rc := 0xFFFFFFFF } /- DMC_CE_CNT -/,
  { addr := 0x4007001C, rc := 0xFFFFFFFF } /- DMC_UE_CNT -/,
  { addr := 0x40070020, rc := 0xFFFFFFFF } /- DMC_CAPAR_CNT -/,
  { addr := 0x40070024 } /- DMC_POISON_CNT -/,
  { addr := 0x40070030, reset := 0x100, rwl := 0x100 } /- DMC_REF -/,
  { addr := 0x40070034, reset := 0x2000, rwl := 0xFFFF } /- DMC_RH -/,
  { addr := 0x40070038, rc := 0xFFFFFFFF } /- DMC_RH_CNT -/,
  { addr := 0x4007003C, reset := 0x3, rwl := 0xF } /- DMC_CAPAR_LIMIT -/,
  { addr := 0x40070040, rwl := 0xFFFF } /- DMC_PASR -/,
  { addr := 0x40070044, reset := 0x3E8, rwl := 0xFFFF } /- DMC_IDLE -/,
  { addr := 0x40070048, reset := 0x18, rwl := 0xFF } /- DMC_SCRUB -/,
  { addr := 0x40070100, rw := 0x7 } /- DMC_TR_CTRL -/,
  { addr := 0x40070104, rw := 0xFFFF000F } /- DMC_PG_CTRL -/,
  { addr := 0x40070108, rw := 0xFFFFFFFF } /- DMC_PG_ADDR -/,
  { addr := 0x4007010C, rw := 0xFFFFFFFF } /- DMC_PG_USER -/,
  { addr := 0x40070110 } /- DMC_CMP_PASS -/,
  { addr := 0x40070114 } /- DMC_WL_FB -/,
  { addr := 0x40070120, n := 16, reset := 0x40, rw := 0x7F } /- DMC_DLY_RDb -/,
  { addr := 0x40070160, n := 16, reset := 0x40, rw := 0x7F } /- DMC_DLY_WRb -/,
  { addr := 0x400701A0, rw := 0x7F7F } /- DMC_DLY_WL -/,
  { addr := 0x400701A4, rw := 0xFFFF } /- DMC_GATE -/,
  { addr := 0x400701A8, reset := 0x20, rw := 0x3F } /- DMC_VREF -/,
  { addr := 0x400701AC } /- DMC_MRW -/,
  { addr := 0x40071120, n := 32, reset := 0x40 } /- the delays of rank 1, kept here -/,
  { addr := 0x400711A8, reset := 0x20 } /- the reference voltage of rank 1, kept here -/,
  { addr := 0x40072120, n := 32, reset := 0x40 } /- the delays of rank 2, kept here -/,
  { addr := 0x400721A8, reset := 0x20 } /- the reference voltage of rank 2, kept here -/]

/-- The registers at 0x4004_0000. -/
def regsEvf : List RegRow := [
  { addr := 0x40040400, n := 256, rw := 0x7F7F } /- EVF_PRODp -/]

/-- The registers at 0x4005_0000 that the timebase keeps by address: the settings of PD0 and PD1 that act on nothing. -/
def regsPtb : List RegRow := [
  { addr := 0x40050110, n := 2, stride := 0x40, reset := 0x7D00040 } /- PD0_CFG, PD1_CFG -/]

/-- The registers at 0x4001_0000. -/
def regsSup : List RegRow := [
  { addr := 0x40010000, w1c := 0x13F3F } /- SUP_STAT -/,
  { addr := 0x40010010, n := 6, stride := 0x8, rw := 0xFFFF } /- SUP_WDTc -/,
  { addr := 0x40010014, n := 6, stride := 0x8 } /- SUP_KICKc -/,
  { addr := 0x40010040, rc := 0xFFFFFFFF } /- SUP_RESTART_CNT -/]

/-- The registers at 0x400A_0000. -/
def regsHmon : List RegRow := [
  { addr := 0x400A0000, reset := 0x2, rwl := 0x2, w1s := 0x1 } /- HMON_CTRL -/,
  { addr := 0x400A0004, w1c := 0x7FFFF } /- HMON_STAT -/,
  { addr := 0x400A0010, n := 6 } /- HMON_TEMPs -/,
  { addr := 0x400A0030, n := 5 } /- HMON_VOLTv -/,
  { addr := 0x400A0050, n := 4 } /- HMON_PROCp -/,
  { addr := 0x400A0060, reset := 0x4E2047E, rwl := 0xFFFFFFFF } /- HMON_TLIM -/,
  { addr := 0x400A0064, reset := 0x5, rwl := 0xFF } /- HMON_VBAND -/,
  { addr := 0x400A0070, rw := 0x5FFFF } /- HMON_INJ -/,
  { addr := 0x400A0074 } /- HMON_INJ_RESULT -/,
  { addr := 0x400A0078, reset := 0x64, rw := 0xFFFF } /- HMON_INJ_HOLD -/,
  { addr := 0x400A0084, n := 9 } /- HMON_GRADEk -/,
  { addr := 0x400A00C0, rc := 0xFFFFFFFF } /- HMON_EVT_CNT -/]

/-- The registers at 0x400B_0000. -/
def regsBist : List RegRow := [
  { addr := 0x400B0000 } /- BIST_CTRL -/,
  { addr := 0x400B0004 } /- BIST_STAT -/,
  { addr := 0x400B0008 } /- BIST_TIME -/,
  { addr := 0x400B0010, n := 9 } /- BIST_PARTi -/,
  { addr := 0x400B0040, reset := 0x64, rwl := 0xFFFF } /- BIST_ROLL_GAP -/]

/-- The registers at 0x4024_0000. -/
def regsPlk : List RegRow := [
  { addr := 0x40240000, rwl := 0xF1E, w1s := 0x1 } /- PLK_CTRL -/,
  { addr := 0x40240004, w1c := 0x3CC } /- PLK_STAT -/,
  { addr := 0x40240008 } /- PLK_MEMBERS -/,
  { addr := 0x4024000C, reset := 0x3E8, rwl := 0x1FFFF } /- PLK_HB_TIMEOUT -/,
  { addr := 0x40240010 } /- PLK_PHASE_ERR -/,
  { addr := 0x40240014, n := 2 } /- PLK_DELAY_A, _B -/,
  { addr := 0x40240020, rc := 0xFFFFFFFF } /- PLK_CRC_CNT -/,
  { addr := 0x40240024, rc := 0xFFFFFFFF } /- PLK_AUTH_CNT -/,
  { addr := 0x40240028, rc := 0xFFFFFFFF } /- PLK_DROP_CNT -/,
  { addr := 0x40240030, reset := 0x3E80000, rwl := 0xFFFF000F } /- PLK_TWIN -/,
  { addr := 0x40240034 } /- PLK_TWIN_STAT -/,
  { addr := 0x40240038, rwl := 0x1 } /- PLK_ARB -/,
  { addr := 0x4024003C, rc := 0xFFFFFFFF } /- PLK_ARB_LOST_CNT -/]

/-- The rows of the block at 64 KiB page `p` of the address space. -/
def regBlock (p : Nat) : List RegRow :=
  if p = 0x4010 then regsRfs else
  if p = 0x4011 then regsAcq else
  if p = 0x4012 then regsLane else
  if p = 0x4013 then regsLdc else
  if p = 0x4014 then regsTxm else
  if p = 0x4015 then regsLnk else
  if p = 0x4016 then regsCwy else
  if p = 0x4017 then regsSlu else
  if p = 0x4008 then regsCmc else
  if p = 0x4009 then regsPke else
  if p = 0x2118 then regsKzc else
  if p = 0x4006 then regsFlc else
  if p = 0x4007 then regsDmc else
  if p = 0x4004 then regsEvf else
  if p = 0x4005 then regsPtb else
  if p = 0x4001 then regsSup else
  if p = 0x400A then regsHmon else
  if p = 0x400B then regsBist else
  if p = 0x4024 then regsPlk else
  []

/-- The row that covers an address. -/
def regFind : List RegRow → Nat → Option RegRow
  | [], _ => none
  | r :: rs, a =>
    if r.addr ≤ a ∧ a < r.addr + r.n * r.stride ∧ (a - r.addr) % r.stride = 0 then some r else regFind rs a

/-- The row of the register at an address, if the address holds one. -/
def regRow (a : Nat) : Option RegRow := regFind (regBlock (a / 0x10000)) a

/-- Reset values that vary along an array of registers: the identity maps of slices and lanes, the identity coefficient
sets, the ceilings of R207 (band maximum less 3 dB), and the two reset states of CORE_CTRL. -/
def regResetSpecial (a : Nat) : Option Nat :=
  if 0x40110040 ≤ a ∧ a < 0x40110060 then
    let i := (a - 0x40110040) / 4; some (4 * i + (4 * i + 1) * 0x100 + (4 * i + 2) * 0x10000 + (4 * i + 3) * 0x1000000)
  else if 0x4012A010 ≤ a ∧ a < 0x4012A030 then
    let i := (a - 0x4012A010) / 4; some (4 * i + (4 * i + 1) * 0x100 + (4 * i + 2) * 0x10000 + (4 * i + 3) * 0x1000000)
  else if a = 0x40130010 then some 0x03020100
  else if 0x40140800 ≤ a ∧ a < 0x40140900 then some (if (a - 0x40140800) % 0x40 = 0 then 4096 * 0x10000 else 0)
  else if a = 0x40140054 then some 21
  else if a = 0x40140058 then some 34
  else if a = 0x4014005C then some 14
  else if a = 0x21180100 then some 1
  else if 0x21180120 ≤ a ∧ a < 0x211801C0 ∧ (a - 0x21180120) % 0x20 = 0 then some 2
  else if a = 0x40010010 then some 1000
  else none

/-- A register's reset value. -/
def regReset (a : Nat) : BitVec 32 :=
  match regResetSpecial a with
  | some v => BitVec.ofNat 32 v
  | none => match regRow a with
    | some r => BitVec.ofNat 32 r.reset
    | none => 0

end Sys2Proof.Machine
end

