-- ==== Sys2Proof/Config.lean ====
section
/-! DEFINITION. What an implementation fixes and the spec leaves open: the free values. None has a body, so no proof can
see what it is. -/

namespace Sys2Proof.Config

/-- The free values: the n-th value, of width w, that the spec leaves open (log entry 1). -/
opaque freeValue (w : Nat) (n : Nat) : BitVec w

/-- Entries of the boot ROM that the spec names without an address: 0 the security entry (R454), 1 the substitution entry
(R488), 2 the warm path's entry for core 0 (R444). -/
opaque romEntry (n : Nat) : BitVec 32

/-- The OTP bytes of the factory, by offset: SERIAL, REVISION, ROOT_HASH, IDENTITY_PRIV, MAC, SEAL_KEY and the trims (R310). -/
opaque factoryOtp (o : Nat) : BitVec 8

/-- The device certificate, and the chain, in the flash information block (R316). -/
opaque factoryCert (chain : Bool) : List (BitVec 8)

/-- The nominal voltage of VBAK in mV: the spec gives a range and no nominal value (log entry 45). -/
opaque vbakNominal : BitVec 13

end Sys2Proof.Config
end

