-- ==== Sys2Proof/Machine/State.lean ====
section
/-! DEFINITION. The machine's state as plain data, block by block, the reasons a step can stop, and the state right after
reset. -/

namespace Sys2Proof.Machine

/-- Why the machine stops with a fault. No command of this block does: every error of the spec is a status, a flag or an
exception that the state holds. -/
inductive Fault where
  /-- Raised by nobody; safe. -/
  | stuck
  deriving DecidableEq, Repr

/-- Why a command is refused. -/
inductive Refusal where
  /-- The command has no meaning in the model; raised by the dispatch; safe. -/
  | notModelled (mnemonic : String)
  deriving DecidableEq, Repr

/-- A result entry's standing (R25): a result has been produced, one is asked for, and a FRESH flag for each reader (bits 0
to 4 the host links CAN FD 0, CAN FD 1, T1S, SPI, UART; bit 5 the remote class; bit 6 firmware). -/
structure ResultRec where
  produced : Bool := false
  pending  : Bool := false
  fresh    : BitVec 7 := 0
  deriving DecidableEq, Repr

/-- Who serves the dictionary (R537, R42): nobody, the boot ROM's recovery subset, or main firmware. -/
inductive Serving where
  | none | rom | main
  deriving DecidableEq, Repr

/-- A request taken by the dictionary server and not yet executed (R31, R32); `mac` is the requester on T1S, or the node that asks over the
air; `short` says that LEN claims more than the frame carries (R37). -/
structure Req where
  src : Src
  pdu : Pdu
  mac : BitVec 48 := 0
  short : Bool := false
  deriving DecidableEq, Repr

/-- A segmented write in progress (R29, R30). -/
structure Xfer where
  src   : Src
  tid   : Byte
  index : BitVec 16
  sub   : Byte
  node  : BitVec 18
  buf   : List Byte
  mac   : BitVec 48 := 0
  deriving DecidableEq, Repr

/-- A PDU that the device has produced for a link, with the CAN identifier or the MAC address it goes to; `quad` is the mode that the SPI
port takes once it has left (R40). -/
structure Sent where
  addr : Nat := 0
  pdu  : Pdu
  quad : Option Bool := none
  deriving DecidableEq, Repr

/-- The settings of a CAN FD controller in force (R48). -/
structure CanSet where
  enable  : Bool := false
  address : Nat := 1
  nominal : Nat := 500
  data    : Nat := 2000
  sample  : Nat := 80
  deriving DecidableEq, Repr

/-- The settings of the 10BASE-T1S port in force (R48). -/
structure T1sSet where
  enable    : Bool := true
  plcaId    : Nat := 255
  mac       : BitVec 48 := 0
  nodeCount : Nat := 8
  toTimer   : Nat := 32
  notifyDest : BitVec 48 := 0xFFFFFFFFFFFF
  deriving DecidableEq, Repr

/-- A pending proxy or tunnel request (R45 to R47); `slot` is the tunnel slot, 0 for a proxy entry. -/
structure ProxyReq where
  node   : BitVec 18
  index  : BitVec 16
  sub    : Byte
  write  : Bool
  data   : List Byte := []
  slot   : Nat := 0
  /-- The frame has left (R46: a queued WRITE is replaced only before). -/
  left   : Bool := false
  tid    : Byte := 0
  /-- A tunnelled request that carries a segment (R47). -/
  seg    : Bool := false
  last   : Bool := false
  /-- Sluice's numbers of its frames that still wait. -/
  frames : List Nat := []
  deriving DecidableEq, Repr

/-- A proxied value (R45, R46): the last value read, whether the last read timed out, and the FRESH flags. -/
structure ProxyVal where
  node  : BitVec 18
  index : BitVec 16
  sub   : Byte
  data  : List Byte := []
  late  : Bool := false
  fresh : BitVec 7 := 0
  /-- The readers that have had the value a second time, with FRESH 0. -/
  seen  : BitVec 7 := 0
  deriving DecidableEq, Repr

/-- The host links and the dictionary server (R19 to R51). -/
structure Links where
  serving   : Serving := .none
  /-- Requests taken and not yet executed, in order of arrival (R31, R32). -/
  waiting   : List Req := []
  xfers     : List Xfer := []
  /-- What the device has produced for CAN FD 0, CAN FD 1, T1S, SPI and UART and not yet sent, oldest first. -/
  outbox    : Vector (List Sent) 5 := .replicate 5 []
  can       : Vector CanSet 2 := #v[{ enable := true }, {}]
  canBusOff : Vector Bool 2 := .replicate 2 false
  t1s       : T1sSet := {}
  /-- Ethernet frames with another EtherType, for firmware (R39). -/
  t1sRx     : List (List Byte) := []
  quad      : Bool := false
  crcErr    : Bool := false
  ovr       : Bool := false
  fmtErr    : Bool := false
  /-- What the port drove on SPI_IO1 in the last transaction. -/
  miso      : List Byte := []
  uartRate  : Nat := 115200
  /-- The 0x1201 status of functions 1 to 20 while their domains are ON (R50, R535). -/
  fn        : Vector Byte 20 := .replicate 20 0
  /-- The supervisor's and the server's own checks pass (R49). -/
  checksOk  : Bool := true
  saving    : Bool := false
  proxies   : List ProxyReq := []
  proxyVals : List ProxyVal := []
  /-- Tunnel slots that wait for a result (R47). -/
  airWait   : BitVec 16 := 0
  /-- The answer to firmware's last local dictionary call (R21). -/
  fwAnswer  : Option Pdu := none
  deriving DecidableEq, Repr

/-- Where a domain of the phase timebase takes its travel from (R56, R64). -/
inductive Pd1Source where
  | free | geared | air | peer
  deriving DecidableEq, Repr

/-- The state of gearing (R72). -/
inductive GearState where
  | notGeared | locked | limited | flywheel
  deriving DecidableEq, Repr

/-- One phase domain: phase, hidden fraction, revolution count (R52), its status, and for PD2 and PD3 the measurement of its
reference (R57 to R63). Times of the measurement count sixteenths of a crystal tick, so that both clocks count exactly. -/
structure PhaseDom where
  phase    : BitVec 32 := 0
  frac     : BitVec 24 := 0
  rev      : BitVec 28 := 0
  /-- What is left of an advance below the hidden fraction while on the 32.768 kHz clock (R53 says exactly). -/
  lfRem    : Nat := 0
  /-- The position at the last accepted edge: revolution, phase and fraction as one number modulo 2^84 (R59). -/
  edgePos  : Nat := 0
  sinceEdge : Nat := 0
  /-- The last edge intervals in the present direction, newest first (R59). -/
  intervals : List Nat := []
  /-- Edges accepted since the measurement began (R61, R62). -/
  edges    : Nat := 0
  /-- The last levels of _A and _B (R57). -/
  a        : Bool := false
  b        : Bool := false
  backward : Bool := false
  stalled  : Bool := false
  indexErr : BitVec 16 := 0
  qerr     : Bool := false
  stepped  : Bool := false
  glitch   : Bool := false
  indexEv  : Bool := false
  resumeEv : Bool := false
  stallEv  : Bool := false
  /-- The shadows of R85: revolution count and velocity latched by a read of the phase. -/
  cycleShadow : BitVec 28 := 0
  velShadow   : BitVec 32 := 0
  /-- A read of PDn_CYCLE, and one of PDn_VEL, that a shadow still answers. -/
  shadowed : Bool := false
  velHeld  : Bool := false
  /-- The phase, count and velocity latched by SNAP, until the next read (R85). -/
  snap     : Option (BitVec 32 × BitVec 28 × BitVec 32) := none
  deriving DecidableEq, Repr

/-- One of the sixteen phase comparators (R77 to R83). -/
structure Comparator where
  en       : Bool := false
  mode     : Fin 4 := 0
  dir      : Fin 4 := 0
  abs      : Bool := false
  skipDrop : Bool := false
  domain   : Fin 4 := 0
  target   : BitVec 32 := 0
  cycle    : BitVec 28 := 0
  step     : BitVec 32 := 0
  /-- Forward travel, in phase units, from the present phase to the next target. -/
  dist     : Nat := 0
  fired    : Bool := false
  skipped  : Bool := false
  late     : Bool := false
  ovr      : Bool := false
  skipCount : Nat := 0
  index    : BitVec 16 := 0
  deriving DecidableEq, Repr

/-- The phase timebase. -/
structure Ptb where
  pd       : Vector PhaseDom 4 := .replicate 4 {}
  cmp      : Vector Comparator 16 := .replicate 16 {}
  /-- PTB_CTRL.CLK: advancing on the 32.768 kHz clock (R53). -/
  lf       : Bool := false
  /-- The crystal has run continuously for at least 1 s (R54). -/
  lfTrim   : Int := 0
  lock     : Bool := false
  /-- PD1's rate in force, 8.24 units a tick (R55, R71). -/
  rate1    : Nat := 219902326
  /-- The nominal rate in force; a pending change of NET_CYCLE does not touch it (R69). -/
  nominal1 : Nat := 219902326
  /-- The nominal cycle in force, in microseconds. -/
  cycleUs  : Nat := 10240000
  /-- A change of the network cycle waits for its cycle (R69). -/
  cyclePending : Bool := false
  gear     : GearState := .notGeared
  gearOffset : BitVec 32 := 0
  gearErr  : Int := 0
  /-- PD1's rate at the last PD2 edge, which FLYWHEEL holds (R72). -/
  rateAtEdge : Nat := 219902326
  /-- PD2 edge intervals in a row inside the band (R72). -/
  inBand   : Nat := 0
  /-- C of R67. -/
  startedCycle : BitVec 28 := 0
  deriving DecidableEq, Repr

/-- A waveform test that waits for the shared encoder: its settings as the request found them (R116). -/
structure WaveTest where
  mode  : Nat
  z     : Nat
  rate  : Nat
  seed  : Nat
  input : List Byte
  deriving DecidableEq, Repr

/-- The air interface's own state: the channel mask in force and the one that waits for a slot boundary (R90), and the running
test (R116). -/
structure Wave where
  mask     : List Byte := List.replicate 16 0
  maskNext : Option (List Byte) := none
  test     : Option WaveTest := none
  deriving DecidableEq, Repr

/-- The token buckets, in 2^-16 µs (R239, R240, R272, R273), with the limits as the last refill tick took them (R274). -/
structure Buckets where
  duty   : Vector Nat 6 := .replicate 6 0
  dwell  : Vector Nat 128 := .replicate 128 0
  shape  : Vector Nat 20 := .replicate 20 32768000000
  /-- Limits in force: 0 means no limit. -/
  dutyLim  : Vector Nat 6 := .replicate 6 0
  dwellLim : Nat := 0
  deriving DecidableEq, Repr

/-- A command of the radio sequencer: 1 SLEEP, 2 STANDBY, 3 SYNTH_READY, 4 RX, 5 TX (R124, R145). -/
structure RfCmd where
  kind   : Fin 6
  chan   : Nat
  /-- Auto-return: 0 SLEEP, 1 STANDBY, 2 SYNTH_READY, 3 RX. -/
  ret    : Fin 4
  trig   : Fin 64 := 0
  latest : Nat := 0xFFFF
  power  : Int := 0
  window : Nat := 0
  deriving DecidableEq, Repr

/-- The radio sequencer, its calibrations, and the antenna tuner (R117 to R147). -/
structure Rf where
  /-- 0 OFF, 1 SLEEP, 2 STANDBY, 3 SYNTH_READY, 4 RX, 5 TX (R121). -/
  st      : Fin 6 := 0
  chan    : Nat := 0
  armed   : List RfCmd := []
  pend    : Option RfCmd := none
  /-- The state a running transition leads to. -/
  moving  : Option (Fin 6) := none
  /-- The command that has started and not completed. -/
  cur     : Option RfCmd := none
  /-- A frame is in progress: being sent, or in narrowband RX being received (R126). -/
  frame   : Bool := false
  locked  : Bool := false
  /-- Calibration bits still to run, the one begun, and how often in a row one was abandoned (R133, R134). -/
  calPend  : BitVec 6 := 0
  calBegun : Bool := false
  calAband : Nat := 0
  /-- Die temperature (0.1 °C) and supply (10 mV) at the last run of bits 0 to 3 (R135). -/
  calTemp   : Int := 0
  calSupply : Nat := 0
  /-- Transmissions in a row above ANT_LIMIT; the 6 dB reduction is on (R140). -/
  antRun   : Nat := 0
  mismatch : Bool := false
  /-- The bank stepped last (false A, true B), each bank's direction (true up), the last |Γ|² and whether the last action was a
  step (R139). -/
  bankB    : Bool := true
  upA      : Bool := true
  upB      : Bool := true
  gamma2   : Nat := 0
  stepped  : Bool := false
  deriving DecidableEq, Repr

/-- A grant of the transmitter, frozen for the burst that uses it (R199, R200). Powers in 0.5 dBm. -/
structure Grant where
  power  : Int
  band   : Fin 4
  n      : Nat
  ceiling : Int
  coefs  : List (BitVec 32)
  shares : List Int
  deriving DecidableEq, Repr

/-- A carrier of the present burst, with the header and block the transmitter copied (R197). -/
structure Carrier where
  num   : Fin 8
  chan  : Nat
  m     : Nat
  zsel  : Nat
  rate  : Nat
  slot  : Nat
  hdr   : List Byte
  block : List Byte
  deriving DecidableEq, Repr

/-- The transmit modulator (R192 to R211). -/
structure Txm where
  grant    : Option Grant := none
  burst    : List Carrier := []
  burstGrant : Option Grant := none
  /-- First chips have left (R209). -/
  onAir    : Bool := false
  /-- Carriers the burst began with. -/
  count    : Nat := 0
  /-- A fit runs on this band, of a burst of more than one carrier when true (R206). -/
  fit      : Option (Fin 4 × Bool) := none
  lastGood : Vector (List (BitVec 32)) 4 := .replicate 4 (0x10000000#32 :: List.replicate 14 0)
  deriving DecidableEq, Repr

/-- Where a frame stands in the receiver (R158 to R177). -/
inductive RxStage where
  | shadow | queued | replayWait | spilled | sync | header | headerSent | headerBack | payload | decode | checked | done | reported
  deriving DecidableEq, Repr

/-- The regeneration of a frame (R172). -/
inductive Regen where
  | none | window | subtract | over
  deriving DecidableEq, Repr

/-- A frame that the receiver holds, from its detection to its report (R156 to R180). -/
structure RxFrame where
  /-- The receiver's own number of the detection. -/
  id      : Nat
  chan    : Nat
  m       : Nat
  /-- The instant of the first chip, in 1/8 chip. -/
  t0      : Nat
  freq    : Int := 0
  power   : Int := 0
  snr     : Int := 0
  noise   : Int := 0
  stage   : RxStage
  /-- Logical lane, when one holds it or demodulated it. -/
  lane    : Fin 32 := 0
  level   : Nat := 0
  /-- The frame this one is a shadow candidate of (R158). -/
  under   : Option Nat := none
  /-- The frames subtracted above it, level 0 first (R176). -/
  beneath : List Nat := []
  replay  : Bool := false
  regen   : Regen := .none
  /-- The frame has been regenerated and its span searched again (R173). -/
  research : Bool := false
  cancelled : Bool := false
  poor    : Bool := false
  clip    : Bool := false
  blanked : Bool := false
  /-- FRAME_NO has been given. -/
  numbered : Bool := false
  endErr  : Int := 0
  hdr     : List Byte := []
  /-- FRAME_NO, taken when the header is accepted (R164, R178). -/
  number  : BitVec 32 := 0
  slot    : Nat := 0
  block   : List Byte := []
  engine  : Fin 4 := 0
  iter    : Nat := 0
  weak    : Nat := 0
  outcome : Nat := 0
  inAck   : Bool := false
  late    : Bool := false
  /-- µs from the end of slot S to the tag result. -/
  doneUs  : Int := 0
  deriving DecidableEq, Repr

/-- A codeword in the decoders' queue or in an engine (R168): its frame, whether it is a header, and its order of arrival. -/
structure Codeword where
  frame   : Nat
  header  : Bool
  slot    : Nat
  arrival : Nat
  deriving DecidableEq, Repr

/-- A converged codeword that waits for the checker (R170). -/
structure Check where
  engine : Fin 4
  cw     : Codeword
  bytes  : List Byte
  iter   : Nat
  weak   : Nat
  deriving DecidableEq, Repr

/-- A slice that a spare has just replaced and whose record is searched again (R187). -/
structure SliceSearch where
  slice : Fin 32
  phys  : Nat
  deriving DecidableEq, Repr

/-- The receiver (R148 to R191). -/
structure Rx where
  frames   : List RxFrame := []
  nextId   : Nat := 1
  frameNo  : BitVec 32 := 0
  /-- The frame each logical lane holds. -/
  lanes    : Vector (Option Nat) 32 := .replicate 32 none
  laneMap  : Vector (Option (Fin 36)) 32 := Vector.ofFn (fun i => some (Fin.ofNat 36 i.1))
  laneSpare : List (Fin 36) := [32, 33, 34, 35]
  laneRetired : List (Fin 36) := []
  sliceMap : Vector (Option (Fin 34)) 32 := Vector.ofFn (fun i => some (Fin.ofNat 34 i.1))
  sliceSpare : List (Fin 34) := [32, 33]
  sliceRetired : List (Fin 34) := []
  searching : List SliceSearch := []
  engMap   : Vector (Option (Fin 5)) 4 := Vector.ofFn (fun i => some (Fin.ofNat 5 i.1))
  engSpare : List (Fin 5) := [4]
  engRetired : List (Fin 5) := []
  engines  : Vector (Option Codeword) 4 := .replicate 4 none
  queue    : List Codeword := []
  arrivals : Nat := 0
  checking : List Check := []
  /-- Subtractions in the order in which they started (R174). -/
  regens   : List Nat := []
  /-- Spans of instants whose samples the record skipped (R153). -/
  gaps     : List (Nat × Nat) := []
  /-- Completed frames that wait for their report, in order of completion (R177). -/
  ready    : List Nat := []
  deriving DecidableEq, Repr

/-- The synchronisation states of R236. -/
inductive Sync where
  | ref | synced | catch | lost | dormant
  deriving DecidableEq, Repr

/-- The words of a schedule entry in force (R212). -/
structure SgWord where
  time : BitVec 64 := 0
  kind : BitVec 32 := 0
  deriving DecidableEq, Repr

/-- An accepted schedule apply that waits for its cycle (R214). -/
structure SgApply where
  cycle : BitVec 28
  epoch : BitVec 16
  table : Vector SgWord 64
  deriving DecidableEq, Repr

/-- A frame whose tag result has reached the link controller (R218). -/
structure Tagged where
  id   : Nat
  tx   : Nat
  rx   : Nat
  ack  : Bool
  slot : Nat
  chan : Nat
  m    : Nat
  t0   : Nat
  snr  : Int
  /-- Held by Causeway: left out of the acknowledgement set (R264). -/
  held : Bool := false
  deriving DecidableEq, Repr

/-- An entry of an acknowledgement (R226). -/
structure AckEntry where
  node    : Nat
  pending : Bool := false
  nextM   : Nat := 7
  adj     : Int := 0
  deriving DecidableEq, Repr

/-- An acknowledgement carrier of a sealed group (R219, R225). -/
structure AckCarrier where
  chan    : Nat
  entries : List AckEntry
  snr     : Int := 0
  sent    : Bool := false
  deriving DecidableEq, Repr

/-- The slot group that a server is in (R213, R218). -/
structure Group where
  entry    : Fin 64
  /-- Absolute number of the last uplink slot. -/
  slot     : Nat
  sealed   : Bool := false
  carriers : List AckCarrier := []
  deriving DecidableEq, Repr

/-- A frame sent in a SEND occurrence that waits for its acknowledgement (R228, R229). -/
structure Outstanding where
  slot  : Nat
  queue : Fin 20
  frame : Nat
  ackM  : Nat
  chan  : Nat
  deriving DecidableEq, Repr

/-- What a transmission of the link controller carries, by descriptor: the queued frame, the airtime taken, and for an
acknowledgement its entries (R239, R256). -/
structure LnkCarrier where
  num     : Fin 8
  chan    : Nat
  air     : Nat
  queue   : Option (Fin 20) := none
  frame   : Nat := 0
  ack     : Bool := false
  /-- Some chip of it has left. -/
  left    : Bool := false
  shaper  : Nat := 0
  entries : List AckEntry := []
  slot    : Nat := 0
  deriving DecidableEq, Repr

/-- The fields that a node takes from an accepted beacon and a relay hands on (R231, R232). -/
structure BeaconInfo where
  depth    : Nat := 0
  chg      : Bool := false
  act      : Bool := false
  epoch    : BitVec 16 := 0
  slew     : BitVec 16 := 5000
  cycleUs  : BitVec 32 := 10240000
  nextCycle : BitVec 32 := 0
  nextAt   : BitVec 28 := 0
  actSlot  : BitVec 40 := 0
  actId    : BitVec 16 := 0
  altCh    : Byte := 0xFF
  keyEpoch : BitVec 16 := 0
  deriving DecidableEq, Repr

/-- A received frame as Causeway takes it (R255, R262, R267). -/
structure MeshFrame where
  /-- The receiver's number of it; 0 for a frame of the Peer Link. -/
  id      : Nat := 0
  hdr     : List Byte
  lh      : List Byte
  payload : List Byte
  slot    : Nat
  chan    : Nat := 0
  m       : Nat := 0
  outcome : Nat := 0
  rssi    : Int := 0
  snr     : Int := 0
  freq    : Int := 0
  endErr  : Int := 0
  deriving DecidableEq, Repr

/-- The link controller (R212 to R245). -/
structure Lnk where
  table    : Vector SgWord 64 := .replicate 64 {}
  apply    : Option SgApply := none
  epoch    : BitVec 16 := 0
  sync     : Sync := .ref
  alt      : Bool := false
  missed   : Nat := 0
  /-- Absolute slot and µs within it of the last sync point; none before the first. -/
  syncSlot : Option Nat := none
  /-- The PTB has run on the 32.768 kHz clock since then (R235). -/
  lfSince  : Bool := false
  /-- PD1's rate trim by sync points, in parts per 10^9 of nominal (R233). -/
  trim     : Int := 0
  beacon   : BeaconInfo := {}
  /-- The slot of the last entry to LOST and the anchor periods since (R237). -/
  lostSlot : Nat := 0
  lostPeriods : Nat := 0
  /-- The first uplink after LOST is owed its link-management message (R237). -/
  lostOwed : Bool := false
  group    : Option Group := none
  /-- Tag results of the open group, in order of arrival (R218). -/
  tagged   : List Tagged := []
  /-- Beacons and acknowledgements whose tag holds, for the controller to take (R228, R233). -/
  heard    : List MeshFrame := []
  /-- S of the groups sealed last, newest first (R223). -/
  sealedS  : List Nat := []
  wait     : Option Outstanding := none
  /-- What the present transmission carries, and the blocks handed to the transmitter by descriptor. -/
  sending  : List LnkCarrier := []
  blocks   : Vector (List Byte) 8 := .replicate 8 []
  /-- SF and power correction from acknowledgements (R226): none keeps the entry's SF; power in 0.5 dB. -/
  advM     : Option Nat := none
  advPwr   : Int := 0
  /-- SNR (0.25 dB) of the last frame decoded from each node (R102). -/
  fbSnr    : List (Nat × Int) := []
  /-- SEQ of the last frame originated (R109). -/
  seq      : BitVec 16 := 0
  deriving DecidableEq, Repr

/-- A frame that waits in Sluice (R268 to R276). -/
structure QFrame where
  /-- Sluice's own number of it. -/
  id      : Nat
  /-- Store slot. -/
  slot    : Nat
  /-- RX_NODE. -/
  node    : Nat
  ack     : Bool
  m       : Nat
  zsel    : Nat
  rate    : Nat
  lh      : List Byte
  payload : List Byte
  retry   : Bool := false
  /-- Forwarded by Causeway: no completion, never renewed. -/
  fwd     : Bool := false
  /-- S of the planned opportunity of a forwarded frame; 0 none (R265). -/
  plan    : Nat := 0
  finish  : Nat := 0
  sends   : Nat := 0
  /-- Cycle and absolute slot at which it was first queued (R253, R275). -/
  born    : Nat := 0
  bornSlot : Nat := 0
  deriving DecidableEq, Repr

/-- A roster operation that runs (R258). -/
structure RosterOp where
  remove : Bool
  lo     : Nat
  hi     : Nat
  deriving DecidableEq, Repr

/-- Causeway (R246 to R267). -/
structure Cwy where
  /-- The shadow that a build has copied: entry index and its 16 bytes (R251). -/
  build   : Option (List (Nat × List Byte)) := none
  /-- A table that has passed and waits for a slot boundary. -/
  built   : Option (List (Nat × List Byte)) := none
  /-- Tag results whose roster update is due (R255). -/
  live    : List MeshFrame := []
  /-- Frames that wait for a relay decision (R262). -/
  todo    : List MeshFrame := []
  /-- Frames delivered to firmware whose port the server takes: DTP over the air. -/
  inbox   : List MeshFrame := []
  /-- Frames handed to the Peer Link, with the ring position (R267). -/
  peerOut : List (Nat × MeshFrame) := []
  op      : Option RosterOp := none
  deriving DecidableEq, Repr

/-- Sluice's queue engine (R268 to R276). -/
structure Slu where
  queues : Vector (List QFrame) 20 := .replicate 20 []
  last   : Vector Nat 20 := .replicate 20 0
  v      : Nat := 0
  /-- Store slots taken. -/
  used   : List Nat := []
  nextId : Nat := 1
  deriving DecidableEq, Repr

/-- A slot of the key store (R283). -/
structure KeySlot where
  key    : List Byte := []
  mask   : Byte := 0
  valid  : Bool := false
  aes256 : Bool := false
  deriveOnly : Bool := false
  deriving DecidableEq, Repr

/-- The epochs held, which third of each key group is current, and what is armed (R283, R288 to R290). -/
structure Epochs where
  /-- Slot of the current key within its group of three; previous and next follow it. -/
  rot    : Fin 3 := 0
  cur    : Option (BitVec 16) := none
  prev   : Option (BitVec 16) := none
  next   : Option (BitVec 16) := none
  /-- The armed change: its cycle (R289). -/
  at_    : Option (BitVec 28) := none
  /-- The cycle at which the previous epoch is erased (R290). -/
  eraseAt : Option (BitVec 28) := none
  deriving DecidableEq, Repr

/-- What the key area of the information block holds under its CMAC (R284). -/
structure KeyArea where
  slots  : Vector KeySlot 15
  epochs : Epochs
  deriving DecidableEq, Repr

/-- A job of a background page of the CMC (R301, R302). -/
structure CmcJob where
  cmd   : Fin 8
  key   : List Byte
  chain : List Byte := List.replicate 16 0
  addr  : Nat := 0
  len   : Nat := 0
  /-- AES blocks of the job, and how many are done. -/
  total : Nat
  done  : Nat := 0
  /-- The image of a WRAP, or the output of a KDF test. -/
  out   : List Byte := []
  susp  : Bool := false
  deriving DecidableEq, Repr

/-- An urgent job of page 0 or 1: the lane it serves, 32 for none, and its blocks left (R302). -/
structure Urgent where
  page : Fin 2
  lane : Fin 33
  left : Nat
  deriving DecidableEq, Repr

/-- Who the point unit of the PKE works for (R307): a verify, a signature of core 4, or an attestation report. -/
inductive PointJob where
  | verify | sign | attest
  deriving DecidableEq, Repr

/-- A KDF or CMAC test of the dictionary that runs (R322). -/
structure SecTest where
  cmac  : Bool
  key   : List Byte
  param : Nat
  msg   : List Byte
  deriving DecidableEq, Repr

/-- A measurement of a class at the last start (R318, R458). -/
structure Measure where
  keySlot : Byte := 0xFF
  version : BitVec 16 := 0
  hash    : List Byte := []
  deriving DecidableEq, Repr

/-- Keys, the CMC, the PKE, OTP and attestation (R282 to R322). -/
structure Sec where
  slots   : Vector KeySlot 16 := .replicate 16 {}
  ep      : Epochs := {}
  /-- The key area as stored, when its CMAC holds (R284). -/
  area    : Option KeyArea := none
  /-- An armed change or erase restored at a start waits for the network time (R538). -/
  asleep  : Bool := false
  /-- The last KEY_NEXT and NET_NEXT taken (R295, R297). -/
  keyTaken : List Byte := []
  netTaken : List Byte := []
  /-- The key that KS_STAGE0 to 7 hold, and the page keys. -/
  stage   : Vector (BitVec 32) 8 := .replicate 8 0
  pkey    : Vector (Vector (BitVec 32) 8) 8 := .replicate 8 (.replicate 8 0)
  jobs    : Vector (Option CmcJob) 8 := .replicate 8 none
  urgent  : List Urgent := []
  /-- The background page that the datapath works for, and its blocks in this turn (R302). -/
  turn    : Fin 8 := 2
  turnCnt : Nat := 0
  /-- What the hash unit has taken, while a hash runs; whether a job of it runs and finishes the hash. -/
  hashMsg : List Byte := []
  hashRun : Option Bool := none
  /-- The point unit's jobs, the running one first (R307). -/
  points  : List PointJob := []
  test    : Option SecTest := none
  /-- The nonce of the report in production (R317). -/
  att     : Option (List Byte) := none
  /-- OTP words programmed since the factory, by word index (R310, R311). -/
  otp     : List (Nat × BitVec 32) := []
  measures : Vector Measure 4 := .replicate 4 {}
  deriving DecidableEq, Repr

/-- The fields of an address generator (R342). -/
structure Ag where
  base  : BitVec 32 := 0
  index : BitVec 32 := 0
  step  : BitVec 32 := 0
  len   : BitVec 32 := 0
  cfg   : BitVec 32 := 0
  deriving DecidableEq, Repr

/-- One region of the firewall (R351). -/
structure Rgn where
  base  : BitVec 32 := 0
  limit : BitVec 32 := 0
  attr  : BitVec 32 := 0
  deriving DecidableEq, Repr

/-- A physical KZ core: the architectural state of R324 and R325, and its microcode RAM (R354). -/
structure Core where
  g        : Vector (BitVec 32) 16 := .replicate 16 0
  pc       : BitVec 32 := 0
  acc      : Vector (BitVec 48) 4 := .replicate 4 0
  ag       : Vector Ag 4 := .replicate 4 {}
  lc       : BitVec 32 := 0
  ls       : BitVec 32 := 0
  le       : BitVec 32 := 0
  sw       : BitVec 32 := 0x400
  tpc      : BitVec 32 := 0
  tsw      : BitVec 32 := 0
  tcause   : BitVec 32 := 0
  taddr    : BitVec 32 := 0
  tbase    : BitVec 32 := 0
  cycle    : BitVec 64 := 0
  cycleHi  : BitVec 32 := 0
  npc      : BitVec 32 := 0
  nsw      : BitVec 32 := 0
  scratch  : BitVec 32 := 0
  ipri     : Vector (BitVec 32) 8 := .replicate 8 0
  fwctrl   : BitVec 32 := 0
  rgn      : Vector Rgn 16 := .replicate 16 {}
  /-- The aligned 32-byte block of the reservation (R333). -/
  resv     : Option Nat := none
  waiting  : Bool := false
  halted   : Bool := true
  /-- An NMI that waits for RFT (R350). -/
  nmiPend  : Bool := false
  ucvalid  : BitVec 16 := 0
  /-- The microcode RAM: words that are not 0, by word index 0 to 511 (R354). -/
  ucode    : List (Nat × BitVec 32) := []
  /-- Microcode words with a parity error (R358). -/
  ucodeBad : List Nat := []
  deriving DecidableEq, Repr

/-- The Kwazadin processor complex (R323 to R363). -/
structure Kz where
  /-- The physical cores. Core 0 runs from reset (R363). -/
  phys    : Vector Core 6 := (Vector.replicate 6 {}).set 0 { halted := false }
  /-- The physical core of each logical core; none when it has none (R359, R361). -/
  map     : Vector (Option (Fin 6)) 6 := #v[some 0, some 1, some 2, some 3, some 4, some 5]
  retired : BitVec 6 := 0
  /-- Pending interrupt lines, by logical core (R349, R362). -/
  ipend   : Vector (BitVec 64) 6 := .replicate 6 0
  run     : Vector Bool 6 := #v[true, false, false, false, false, false]
  boot    : Vector (BitVec 32) 6 := .replicate 6 0
  cause   : Vector (Fin 4) 6 := .replicate 6 0
  stopPc  : Vector (BitVec 32) 6 := .replicate 6 0
  /-- The armed swap: logical core and trigger channel (R362). -/
  swapCore : BitVec 3 := 0
  swapChan : Fin 64 := 0
  swapArm  : Bool := false
  swapResult : Status := 0
  /-- A debugger is attached (R336). -/
  debugger : Bool := false
  deriving DecidableEq, Repr

/-- Where an FLC unlock sequence stands (R371). -/
inductive FlcSeq where
  | locked | key1 | unlocked | cmd (c : Fin 8) | data (a : Nat) (n : Fin 4)
  deriving DecidableEq, Repr

/-- A running flash operation (R372, R373). -/
structure FlashOp where
  cmd  : Fin 8
  addr : Nat
  data : List Byte := []
  deriving DecidableEq, Repr

/-- A migration of a DRAM slot to the spare rank (R391). -/
inductive MigState where
  | idle | waking | copying | swapping
  deriving DecidableEq, Repr

/-- Storage: the bytes of the address space and what the controllers keep about them (R364 to R396). -/
structure Mem where
  /-- Every byte that differs from what its unlisted address reads as. -/
  cells    : List Host.Cell := []
  /-- Words of SRAM and flash that hold an uncorrectable error (R365, R369). -/
  bad      : List Nat := []
  /-- Words that hold a single-bit error not yet corrected (R365, R369, R381). -/
  soft     : List Nat := []
  /-- Poisoned 64-byte DRAM blocks, by address (R382). -/
  poison   : List Nat := []
  /-- Corrected errors since start, by SRAM row address (R366). -/
  rowCe    : List (Nat × Nat) := []
  /-- Spare rows taken, by macro: shared 0 to 127, core-local 128 to 151 (R366). -/
  rowSpare : List (Nat × Nat) := []
  /-- Rows that a spare row replaces (R366). -/
  repaired : List Nat := []
  flcSeq   : FlcSeq := .locked
  /-- The master that owns an open sequence: logical core 0 to 5, 6 the update engine, 7 a block. -/
  flcOwner : Fin 8 := 0
  flcOp    : Option FlashOp := none
  /-- Erase and corrected-read counts by sector base address (R369). -/
  sectorCe : List (Nat × Nat) := []
  /-- Sectors moved to a spare: address and spare index (R374). -/
  remaps   : List (Nat × Nat) := []
  /-- Logical rank slots: the physical rank of each (R380). -/
  slotRank : Vector (Fin 3) 2 := #v[0, 1]
  spareRank : Fin 3 := 2
  spareOk  : Bool := true
  rankRetired : BitVec 3 := 0
  mig      : MigState := .idle
  migSlot  : Fin 2 := 0
  /-- The rank to be retired at the end of a migration. -/
  migOld   : Fin 3 := 0
  /-- The spare, or a cold slot, is powered down (R390). -/
  spareDown : Bool := false
  slot1Down : Bool := false
  trained  : BitVec 3 := 0
  /-- Command and address parity errors of each rank counted toward the limit (R391). -/
  caparRun : Vector Nat 3 := .replicate 3 0
  /-- Mode registers written to the ranks, by 256 × rank + register (R385). -/
  modeRegs : List (Nat × Byte) := []
  /-- Refreshes postponed behind record writes (R387). -/
  postponed : Nat := 0
  /-- Activate counts of rows, by 65536 × bank + row of a rank (R388). -/
  rhTable  : List (Nat × Nat) := []
  deriving DecidableEq, Repr

/-- An event on its way to a channel, with its hop count (R399, R402). -/
structure Evt where
  ch  : Fin 64
  hop : Nat
  deriving DecidableEq, Repr

/-- One of the 64 Culvert channels: EVF_CHc_CFG and EVF_CHc_STAT (R397, R401, R402). -/
structure Channel where
  fwdEn  : Bool := false
  fwd    : Fin 64 := 0
  count  : BitVec 16 := 0
  hop    : Nat := 0
  loop   : Bool := false
  merged : Bool := false
  fired  : Bool := false
  deriving DecidableEq, Repr

/-- What a timer input asks for (R399). -/
inductive TrigKind where
  | start | stop | cap
  deriving DecidableEq, Repr

/-- A trigger on its way from a channel to a timer unit. -/
structure TmrTrig where
  unit : Fin 8
  kind : TrigKind
  hop  : Nat
  deriving DecidableEq, Repr

/-- The Culvert event fabric. -/
structure Evf where
  chans     : Vector Channel 64 := .replicate 64 {}
  /-- Events that reach their channel in the next cycle (R399). -/
  due       : List Evt := []
  /-- Bridged firings that reach their target in the next cycle (R401). -/
  bridges   : List Evt := []
  /-- Triggers that reach a timer unit in the next cycle (R399). -/
  tmrTrigs  : List TmrTrig := []
  /-- Triggers that reach the radio sequencer in the next cycle (R126). -/
  rfsTrigs  : List Evt := []
  /-- Per core and line, a remembered trigger (R400). -/
  corePend  : Vector (BitVec 64) 6 := .replicate 6 0
  loop      : Bool := false
  merged    : Bool := false
  loopCnt   : Nat := 0
  mergedCnt : Nat := 0
  /-- EVF_LOOP_CNT and EVF_MERGED_CNT, which a read clears. -/
  loopRc    : Nat := 0
  mergedRc  : Nat := 0
  deriving DecidableEq, Repr

/-- One of the eight timer units (R404 to R413). -/
structure Timer where
  outMode   : Fin 4 := 0
  pend      : Option Nat := none
  run       : Bool := false
  retrig    : Bool := false
  chain     : Bool := false
  psc       : Fin 16 := 0
  /-- The prescaler in use: a written PSC takes effect at the next reload (R406). -/
  pscAct    : Fin 16 := 0
  oneShot   : Bool := false
  trig      : BitVec 32 := 0
  count     : BitVec 32 := 0
  reload    : BitVec 32 := 0xFFFFFFFF
  cmpa      : BitVec 32 := 0
  cmpaAct   : BitVec 32 := 0
  cmpb      : BitVec 32 := 0
  cmpbAct   : BitVec 32 := 0
  capt      : BitVec 32 := 0
  stOvr     : Bool := false
  stCap     : Bool := false
  stCmpb    : Bool := false
  stCmpa    : Bool := false
  stWrap    : Bool := false
  /-- The high words latched by a read of the low word of a chained pair (R413). -/
  countShadow : BitVec 32 := 0
  captShadow  : BitVec 32 := 0
  /-- The hop count its events carry until the first WRAP after a triggered start (R402). -/
  startHop  : Nat := 0
  /-- The ball TIMn_OUT (R408). -/
  out       : Bool := false
  deriving DecidableEq, Repr

/-- A calendar instant (R418). -/
structure Cal where
  sec   : Nat := 0
  min   : Nat := 0
  hour  : Nat := 0
  wday  : Nat := 6
  day   : Nat := 1
  month : Nat := 1
  year  : Nat := 0
  deriving DecidableEq, Repr

/-- The backup domain (R414 to R423). -/
structure Bkp where
  cal       : Cal := {}
  subsec    : Nat := 0
  /-- The calendar fields as the last read of BKP_SUBSEC latched them (R419). -/
  latch     : Cal := {}
  secEv     : Bool := false
  alarmPwr  : Bool := false
  alarmEn   : Bool := false
  pwrHold   : Bool := false
  halt      : Bool := false
  onVbak    : Bool := false
  vbakLow   : Bool := false
  werr      : Bool := false
  alarm     : Bool := false
  haltLoss  : Bool := false
  por       : Bool := true
  osf       : Bool := true
  oscRun    : Bool := true
  carryPend : Bool := false
  alarmTime : BitVec 32 := 0
  alarmDate : BitVec 32 := 0
  alarmMask : BitVec 32 := 0x3F
  calTrim   : BitVec 32 := 0
  cycle     : BitVec 28 := 0
  cycleValid : Bool := false
  data      : Vector (BitVec 32) 16 := .replicate 16 0
  /-- Writes on their way across the clock boundary, oldest first (R417): offset and value. -/
  writes    : List (Nat × BitVec 32) := []
  deriving DecidableEq, Repr

/-- The state of a power domain (R425). -/
inductive DomState where
  | off | retained | on
  deriving DecidableEq, Repr

/-- Why the device last reset (R451). -/
abbrev ResetCause := Byte

/-- The power and clock controller (R425 to R449). -/
structure Pcc where
  dom       : Vector DomState 24 := .replicate 24 .off
  req       : Vector (Fin 4) 24 := .replicate 24 0
  result    : Vector Status 24 := .replicate 24 0
  /-- Accepted changes of state, oldest first; the PCC carries out one at a time (R429). -/
  changes   : List (Fin 24 × DomState) := []
  lock      : Bool := false
  lp        : Bool := false
  /-- A regulator change is running, to LP when true (R433). -/
  modeChange : Option Bool := none
  roleLow   : Bool := false
  band      : Bool := false
  xoFail    : Bool := false
  clkErr    : Bool := false
  skip      : Bool := false
  woke      : Bool := false
  refused   : Bool := false
  domDone   : Bool := false
  refusedCnt : Nat := 0
  xoFailCnt : Nat := 0
  refusedRc : Nat := 0
  xoFailRc  : Nat := 0
  /-- VMAIN in units of 10 mV as last measured (R436). -/
  vmain     : Nat := 0
  lowBand   : Bool := false
  /-- Balls' supply VIO is present (R522). -/
  vio       : Bool := true
  xoRun     : Bool := false
  xoEn      : Bool := false
  xoWake    : Bool := false
  sysAuto   : Bool := true
  /-- CD3 runs on PLL_SYS; else on SYS_RC (R437). -/
  sysPll    : Bool := false
  /-- PLL_SYS, PLL_MDM, PLL_DRAM, PLL_PEER in lock (R438). -/
  locked    : Vector Bool 4 := .replicate 4 false
  armed     : Bool := false
  sleepLp   : Bool := false
  sleepSet  : Vector (Fin 4) 24 := .replicate 24 0
  wakeSet   : BitVec 24 := 0
  wakeEn    : BitVec 28 := 0x0C000000
  /-- Sleep has been entered and no wake has ended it (R442). -/
  asleep    : Bool := false
  /-- Sources that fired since the entry was armed (R443). -/
  armedFired : BitVec 28 := 0
  wakeCause : Byte := 0xFF
  wakeMask  : BitVec 28 := 0
  wakePhase : BitVec 32 := 0
  wakeRev   : BitVec 28 := 0
  wakeLat   : Nat := 0
  wakeCount : Nat := 0
  deriving DecidableEq, Repr

/-- Where the start of the device stands (R452, R453, R456): the boot ROM has still to run, it serves the recovery subset, it has
entered the class 0 image, or main firmware runs. -/
inductive StartStage where
  | rom | recovery | entered | main
  deriving DecidableEq, Repr

/-- An accepted hand-over (R466): its class, the core that it replaces, and its slot. -/
structure HandOver where
  cls  : Fin 4
  core : Fin 6
  slot : Nat
  deriving DecidableEq, Repr

/-- Start-up and update (R450 to R475). The boot record itself is in the flash ring (R461). -/
structure Boot where
  stage    : StartStage := .rom
  /-- The device holds itself in reset: no core passes (R490). -/
  dead     : Bool := false
  /-- A boundary-scan instruction holds the device in reset (R527). -/
  scan     : Bool := false
  /-- The images run from the RAM window or an X memory, so that no core fetches from bank A (R460, R462). -/
  window   : Bool := false
  /-- The address at which each running class's header lies in flash. -/
  hdrAt    : Vector Nat 4 := .replicate 4 0
  /-- The address of the body's first byte of classes 0 to 2. -/
  bodyAt   : Vector Nat 4 := .replicate 4 0
  /-- States of CORE1 to CORE5 and HOSTIO, and the role, before an activation restart (R451, R465). -/
  before   : Option (Vector DomState 6 × Nat) := none
  /-- DRAM was RETAINED through the reset, so its contents wait for R464. -/
  kept     : Bool := false
  /-- The next byte of the staging slot that STAGE_DATA fills (R463). -/
  staged   : Nat := 0
  handOver : Option HandOver := none
  deriving DecidableEq, Repr

/-- A rolling self-test that runs (R495, R496): the units still to test, the one under test with the physical unit that a spare stands in
for, what has failed, and whether an arming began it. -/
structure Roll where
  left   : List TestUnit
  cur    : Option (TestUnit × Nat) := none
  failed : List TestUnit := []
  tested : Nat := 0
  armed  : Bool := false
  ms     : Nat := 0
  deriving DecidableEq, Repr

/-- Health (R476 to R497). -/
structure Hlt where
  /-- Watchdogs that have expired once since their last kick (R487). -/
  expired : BitVec 6 := 0
  /-- The self-test of a shutdown that runs, with its action (R491, R492). -/
  bist    : Option (Fin 3) := none
  roll    : Option Roll := none
  /-- Units that a self-test has found failing, for the next start to retire (R494). -/
  toRetire : List TestUnit := []
  /-- A shutdown that waits for the hand-over of the root role to the partner (R510). -/
  closing : Option (Fin 3) := none
  /-- The lifetime record as last saved, T0 to T5 and minutes, which a start loads again (R478). -/
  lifeMax : Vector (BitVec 16) 6 := .replicate 6 0x8000
  lifeHot : BitVec 32 := 0
  /-- Ports of the Peer Link that an injection holds down (R480). -/
  hold    : BitVec 2 := 0
  /-- Temperatures above TEMP_WARN and TEMP_CRIT, and voltages out of their band, by number (R477). -/
  warm    : BitVec 6 := 0
  crit    : BitVec 6 := 0
  volt    : BitVec 5 := 0
  /-- One of T1 to T4 has exceeded 110 °C in the present minute (R478). -/
  hot     : Bool := false
  deriving DecidableEq, Repr

/-- A member of the ring, as its last heartbeat showed it (R502). -/
structure Member where
  role     : Nat := 0
  master   : Bool := false
  tookOver : Bool := false
  count    : BitVec 32 := 0
  deriving DecidableEq, Repr

/-- A frame of the Peer Link (R500): `ports` says on which ports it leaves, bit 0 A and bit 1 B. -/
structure PlkFrame where
  cls     : Fin 4
  type    : Fin 64
  bcast   : Bool := false
  src     : Fin 8
  dst     : Fin 8
  seq     : BitVec 16 := 0
  payload : List Byte := []
  ports   : BitVec 2 := 3
  deriving DecidableEq, Repr

/-- The Peer Link and the twin pair (R498 to R512). -/
structure Plk where
  up       : BitVec 2 := 0
  /-- Members whose heartbeat is present, by position. -/
  members  : Vector (Option Member) 8 := .replicate 8 none
  duplicate : Bool := false
  phaseLost : Bool := false
  /-- SEQ of the next frame of each class. -/
  seq      : Vector (BitVec 16) 4 := .replicate 4 0
  /-- Frames sent, oldest first, as the neighbours still have to take them. -/
  out      : List PlkFrame := []
  tookOver : Bool := false
  alone    : Bool := false
  /-- MIRROR_STATE (R504). -/
  mirror   : Fin 4 := 0
  /-- Journal records that the standby has not acknowledged, oldest first: the SEQ of their frame and their bytes. -/
  journal  : List (BitVec 16 × List Byte) := []
  /-- Slot of an armed TWIN_SWITCH (R510). -/
  switchAt : Option Nat := none
  /-- Claims of the present seal, by position: channel and number of entries (R512). -/
  claims   : List (Fin 8 × List (Nat × Nat)) := []
  /-- Channels granted to this site in the present group, when a grant has come (R512). -/
  grants   : Option (List Nat) := none
  /-- The start-up listen of R509 runs. -/
  listen   : Bool := false
  deriving DecidableEq, Repr

/-- The whole machine. -/
structure State where
  /-- Dictionary values that differ from their defaults, by 256 × index + subindex (R19 to R22). -/
  dict    : List (Nat × List Byte) := []
  /-- The standing of the result entries (R25), by the same key. -/
  results : List (Nat × ResultRec) := []
  /-- The retained entries as the last save holds them (R22, R23). -/
  saved   : List (Nat × List Byte) := []
  /-- Registers that differ from their reset values, by address (R16). -/
  regs    : List (Nat × BitVec 32) := []
  links   : Links := {}
  ptb     : Ptb := {}
  evf     : Evf := {}
  tmr     : Vector Timer 8 := .replicate 8 {}
  bkp     : Bkp := {}
  pcc     : Pcc := {}
  wave    : Wave := {}
  bkt     : Buckets := {}
  rf      : Rf := {}
  txm     : Txm := {}
  rx      : Rx := {}
  lnk     : Lnk := {}
  cwy     : Cwy := {}
  slu     : Slu := {}
  sec     : Sec := {}
  kz      : Kz := {}
  mem     : Mem := {}
  boot    : Boot := {}
  hlt     : Hlt := {}
  plk     : Plk := {}
  /-- How many free values the model has drawn (the model's own field, log entry 1). -/
  drawn   : Nat := 0
  /-- The commands that wait, first in, first out. -/
  pending : List Instr := []
  deriving DecidableEq, Repr

/-- The machine right after its first reset, VMAIN just applied (R22, R448, R451): every field at its reset value; AON, BKP, CORE0, SRAM0
and FLASH are ON; the seal key of OTP stands in key-store slot 15 (R283, R310). -/
def State.reset : State :=
  let on : Vector DomState 24 := Vector.ofFn (fun d => if d.1 = 0 ∨ d.1 = 1 ∨ d.1 = 2 ∨ d.1 = 8 ∨ d.1 = 11 then .on else .off)
  { pcc := { dom := on, req := on.map (fun d => if d = .on then 2 else 0) }
    sec := { slots := (Vector.replicate 16 {}).set 15 {
      key := (List.range 32).map (fun i => Config.factoryOtp (0x180 + i)), mask := 0x10, valid := true, aes256 := true } } }

end Sys2Proof.Machine
end

