-- ==== Sys2Proof/Machine/Ops.lean ====
section
/-! DEFINITION. The named operations over the state that every block shares: free values, dictionary values and results,
registers by address, status codes, and what the device sends on its host links. -/

namespace Sys2Proof.Machine

/-- The answer of a command. -/
abbrev Out := Host.Outcome State Fault Refusal

/-! ### Status codes (R35) -/

/-- The status codes of R35. -/
def stOk : Status := 0x00
def stBusy : Status := 0x01
def stNotReady : Status := 0x02
def stLate : Status := 0x03
def stBudget : Status := 0x04
def stRegulatory : Status := 0x05
def stAuthFail : Status := 0x06
def stNoRoute : Status := 0x07
def stSameBank : Status := 0x08
def stVersionLow : Status := 0x09
def stSigBad : Status := 0x0A
def stExhausted : Status := 0x0B
def stLostSync : Status := 0x0C
def stPoisoned : Status := 0x0D
def stRange : Status := 0x0E
def stFnReset : Status := 0x0F
def stNoEntry : Status := 0x10
def stDenied : Status := 0x11
def stBadLength : Status := 0x12
def stBadOp : Status := 0x13
def stAborted : Status := 0x14

/-! ### Free values -/

/-- A free value of `w` bits: the next one of the sequence no proof can see (log entry 1). -/
def State.fresh (s : State) (w : Nat) : BitVec w := Config.freeValue w s.drawn

/-- The state after a free value has been drawn. -/
def State.draw (s : State) : State := { s with drawn := s.drawn + 1 }

/-! ### The dictionary (R19 to R26) -/

/-- The key of an entry: 256 × index + subindex. -/
def key (idx sub : Nat) : Nat := 256 * idx + sub

/-- Bytes of a scalar type on DTP (R20). -/
def Ty.width : Ty → Nat
  | .u8 => 1 | .i8 => 1 | .bool => 1 | .u16 => 2 | .i16 => 2 | .s12 => 2
  | .u32 => 4 | .i32 => 4 | .c24 => 4 | .u64 => 8 | .i64 => 8 | .str => 0 | .domain => 0

/-- Whether a type is carried in segments (R20, R29). -/
def Ty.segmented : Ty → Bool
  | .str => true
  | .domain => true
  | _ => false

def Ty.isSigned : Ty → Bool
  | .i8 => true | .i16 => true | .i32 => true | .i64 => true | .s12 => true
  | _ => false

def rowFind : List DictRow → Nat → Option DictRow
  | [], _ => none
  | r :: rs, sub => if r.lo ≤ sub ∧ sub ≤ r.hi then some r else rowFind rs sub

/-- The table row of an entry (R43). -/
def dictRow (idx sub : Nat) : Option DictRow := rowFind (dictIndex idx) sub

/-- The highest subindex in use in an index (R19). -/
def topSub (idx : Nat) : Nat := (dictIndex idx).foldl (fun m r => if m < r.hi then r.hi else m) 0

/-- Defaults that one number cannot give: the part name (R321), the RETAINED and ON estimates of R425 under R434, the spares
of R482, the watchdog limits of R486, the identity sets and the ceilings of R207. -/
def specialDefault (idx sub : Nat) : Option (List Byte) :=
  if idx = 0x1000 ∧ sub = 3 then some [0x4F, 0x4D, 0x44, 0x2D, 0x39, 0x36, 0x34, 0x30]
  else if idx = 0x3403 then
    let on := [30, 5, 900, 900, 900, 900, 900, 900, 60, 250, 800, 1200, 0xFFFF, 0xFFFF, 0xFFFF, 0xFFFF, 0xFFFF, 0xFFFF, 0xFFFF,
      0xFFFF, 0xFFFF, 150, 150, 0xFFFF]
    let kept := [0xFFFF, 0xFFFF, 9, 9, 33, 33, 9, 9, 1, 120, 384, 1, 3000, 3, 20, 1, 30, 1, 5, 25, 3, 2, 3, 1]
    some (leBytes 4 (on.getD (sub - 1) 0 + 0x10000 * kept.getD (sub - 1) 0))
  else if idx = 0x3401 ∨ idx = 0x3402 then
    some [if sub = 1 ∨ sub = 2 ∨ sub = 3 ∨ sub = 9 ∨ sub = 12 then 2 else 0]
  else if idx = 0x3600 ∧ 0x11 ≤ sub ∧ sub ≤ 0x19 then
    some (leBytes 2 ([1, 64, 64, 256, 48, 4, 1, 2, 1].getD (sub - 0x11) 0))
  else if idx = 0x3600 ∧ 0x36 ≤ sub ∧ sub ≤ 0x3B then some [0x00, 0x80]
  else if idx = 0x3600 ∧ sub = 0x70 then some (leBytes 2 1000)
  else if idx = 0x2200 ∧ sub = 0x49 then some (leBytes 4 0x0E221500)
  else if idx = 0x2200 ∧ sub = 0x45 then
    some ((List.range 4).flatMap (fun _ => leBytes 4 0x10000000 ++ List.replicate 60 0))
  else none

/-- The bytes a row gives its entry before any write (R22). -/
def DictRow.bytes (r : DictRow) : List Byte :=
  if r.ty.segmented then List.replicate r.zeros 0 else leBytes r.ty.width r.dflt

/-- An entry's default (R22). -/
def dictDefault (idx sub : Nat) : List Byte :=
  match specialDefault idx sub with
  | some v => v
  | none => match dictRow idx sub with
    | some r => r.bytes
    | none => []

/-- The bytes an entry holds. -/
def State.dGet (s : State) (idx sub : Nat) : List Byte :=
  match alGet s.dict (key idx sub) with
  | some v => v
  | none => dictDefault idx sub

/-- The state with an entry's bytes replaced. -/
def State.dSet (s : State) (idx sub : Nat) (v : List Byte) : State :=
  { s with dict := if v = dictDefault idx sub then alDel s.dict (key idx sub) else alPut s.dict (key idx sub) v }

/-- A scalar entry as an unsigned number. -/
def State.dU (s : State) (idx sub : Nat) : Nat := leNat (s.dGet idx sub)

/-- A scalar entry as a signed number of its own width. -/
def State.dI (s : State) (idx sub : Nat) : Int :=
  let v := s.dGet idx sub
  signed (8 * v.length) (leNat v)

/-- The width in bytes of a scalar entry. -/
def entryWidth (idx sub : Nat) : Nat :=
  match dictRow idx sub with
  | some r => r.ty.width
  | none => 0

/-- A scalar entry given a number. -/
def State.dPut (s : State) (idx sub v : Nat) : State := s.dSet idx sub (leBytes (entryWidth idx sub) v)

/-- A U32 counter entry counted up by one; counters saturate (R424, R449). -/
def State.dBump (s : State) (idx sub : Nat) : State := s.dPut idx sub (sat32 (s.dU idx sub))

/-- The role entry (R2). -/
def State.role (s : State) : Nat := s.dU 0x1200 1

/-- Whether the device holds a root's role or serves like one (R2: roles 3 to 5). -/
def State.bigRole (s : State) : Bool := 3 ≤ s.role

/-- The standing of a result entry (R25). -/
def State.resOf (s : State) (idx sub : Nat) : ResultRec := (alGet s.results (key idx sub)).getD {}

/-- A result is asked for and not yet produced (R25). -/
def State.resPend (s : State) (idx sub : Nat) : State :=
  { s with results := alPut s.results (key idx sub) { s.resOf idx sub with pending := true } }

/-- A new result: its value stands, every reader's FRESH flag is set and nothing is pending (R25, R26). -/
def State.produce (s : State) (idx sub : Nat) (v : List Byte) : State :=
  { (s.dSet idx sub v) with results := alPut s.results (key idx sub) { produced := true, pending := false, fresh := 0x7F } }

/-- A new status in a result entry (R25). -/
def State.produceSt (s : State) (idx sub : Nat) (st : Status) : State := s.produce idx sub [st]

/-! ### Registers by address (R16) -/

/-- A register's value. -/
def State.reg (s : State) (a : Nat) : BitVec 32 := (alGet s.regs a).getD (regReset a)

/-- The state with a register given a value by the hardware. -/
def State.setReg (s : State) (a : Nat) (v : BitVec 32) : State :=
  { s with regs := if v = regReset a then alDel s.regs a else alPut s.regs a v }

/-- A register as a number. -/
def State.regN (s : State) (a : Nat) : Nat := (s.reg a).toNat

/-- A register given a number. -/
def State.setRegN (s : State) (a v : Nat) : State := s.setReg a (BitVec.ofNat 32 v)

/-- A field [hi:lo] of a register. -/
def State.regF (s : State) (a hi lo : Nat) : Nat := field (s.regN a) hi lo

/-- A register with its field [hi:lo] given a value by the hardware. -/
def State.setRegF (s : State) (a hi lo v : Nat) : State := s.setRegN a (putField (s.regN a) hi lo v)

/-- One bit of a register. -/
def State.regB (s : State) (a i : Nat) : Bool := bit (s.regN a) i

/-- A flag of a status register set by the hardware. -/
def State.flag (s : State) (a i : Nat) : State := s.setRegF a i i 1

/-- A flag cleared by the hardware. -/
def State.unflag (s : State) (a i : Nat) : State := s.setRegF a i i 0

/-- A counting register counted up by one, saturating. -/
def State.bump (s : State) (a : Nat) : State := s.setRegN a (sat32 (s.regN a))

/-! ### Power domains (R425) -/

/-- Domain numbers of R425. -/
def dAON : Fin 24 := 0
def dBKP : Fin 24 := 1
def dCORE0 : Fin 24 := 2
def dSRAM0 : Fin 24 := 8
def dFLASH : Fin 24 := 11
def dDRAM : Fin 24 := 12
def dRADIO : Fin 24 := 13
def dCAPTURE : Fin 24 := 14
def dLANE0 : Fin 24 := 15
def dMODEM : Fin 24 := 16
def dLDC0 : Fin 24 := 17
def dTXM : Fin 24 := 18
def dCWY : Fin 24 := 19
def dSLU : Fin 24 := 20
def dSEC : Fin 24 := 21
def dHOSTIO : Fin 24 := 22
def dPLK : Fin 24 := 23

/-- The domain is ON (R3, R535: only ON counts). -/
def State.isOn (s : State) (d : Fin 24) : Bool := vget s.pcc.dom d == .on

/-- The domain is ON or RETAINED: what counts for the ownership of registers (R427). -/
def State.owns (s : State) (d : Fin 24) : Bool := vget s.pcc.dom d != .off

/-! ### What the device sends on its host links (R27, R31, R37, R39) -/

/-- The number of a host link in the outboxes; 5 for the air and 6 for firmware. -/
def srcNum : Src → Nat
  | .can0 => 0 | .can1 => 1 | .t1s => 2 | .spi => 3 | .uart => 4 | .air => 5 | .firmware => 6

/-- A PDU put behind what a link still has to send. -/
def State.push (s : State) (l : Fin 5) (p : Sent) : State :=
  { s with links := { s.links with outbox := vmod s.links.outbox l (fun q => q ++ [p]) } }

/-- Whether a link may send: HOSTIO is ON, VIO is there, and for CAN FD and T1S the ENABLE value in force is 1 and the
controller is not in bus-off (R48, R36, R425, R522). -/
def State.linkUp (s : State) (l : Fin 5) : Bool :=
  s.isOn dHOSTIO && s.pcc.vio &&
  match l.1 with
  | 0 => (vget s.links.can 0).enable && !(vget s.links.canBusOff 0)
  | 1 => (vget s.links.can 1).enable && !(vget s.links.canBusOff 1)
  | 2 => s.links.t1s.enable
  | _ => true

/-- A response or ABORT PDU sent to the requester, on a CAN FD link under 0x340 + A and on T1S unicast (R37, R39). Firmware has its
answer from the call; a request over the air is answered by a frame (R47). -/
def State.respond (s : State) (src : Src) (mac : BitVec 48) (p : Pdu) : State :=
  match src with
  | .can0 => if s.linkUp 0 then s.push 0 { addr := 0x340 + (vget s.links.can 0).address, pdu := p } else s
  | .can1 => if s.linkUp 1 then s.push 1 { addr := 0x340 + (vget s.links.can 1).address, pdu := p } else s
  | .t1s => if s.linkUp 2 then s.push 2 { addr := mac.toNat, pdu := p } else s
  | .spi => if s.linkUp 3 then s.push 3 { pdu := p } else s
  | .uart => if s.linkUp 4 then s.push 4 { pdu := p } else s
  | .air => s
  | .firmware => { s with links := { s.links with fwAnswer := some p } }

/-- A NOTIFY PDU put on every enabled link that NOTIFY_LINKS selects (R27, R48). -/
def State.notifyAt (s : State) (idx sub : Nat) (node : BitVec 18) (st : Status) (data : List Byte) : State :=
  let m := s.dU 0x1100 1
  let p : Pdu := { op := 7, tid := 0, index := BitVec.ofNat 16 idx, sub := BitVec.ofNat 8 sub, node := node, status := st, data := data }
  if s.links.serving ≠ .main then s else
  let s := if bit m 0 && s.linkUp 0 then s.push 0 { addr := 0x380 + (vget s.links.can 0).address, pdu := p } else s
  let s := if bit m 1 && s.linkUp 1 then s.push 1 { addr := 0x380 + (vget s.links.can 1).address, pdu := p } else s
  let s := if bit m 2 && s.linkUp 2 then s.push 2 { addr := s.links.t1s.notifyDest.toNat, pdu := p } else s
  if bit m 3 && s.linkUp 3 then s.push 3 { pdu := p } else s

/-- A NOTIFY for an entry of the device itself. -/
def State.notify (s : State) (idx sub : Nat) (st : Status) (data : List Byte) : State := s.notifyAt idx sub 0 st data

/-- The power domains a function's status needs (R535), by function number 1 to 20. -/
def fnDomains (n : Nat) : List (Fin 24) :=
  match n with
  | 1 => [dRADIO] | 2 => [dCAPTURE] | 3 => [dLANE0] | 4 => [dLDC0] | 5 => [dRADIO] | 6 => [dRADIO] | 7 => [dCWY]
  | 8 => [dRADIO] | 9 => [dCWY, dDRAM] | 10 => [dSEC] | 11 => [dSEC] | 12 => [] | 13 => [dFLASH] | 14 => [dDRAM]
  | 15 => [dPLK] | _ => [dHOSTIO]

/-- The 0x1201 status of function `n` (1 to 20): 4 while a domain it needs is not ON, and for the roster also in roles 0 to
2; else the function's own (R50, R535). -/
def State.fnStatus (s : State) (n : Fin 20) : Byte :=
  if (fnDomains (n.1 + 1)).all s.isOn && (n.1 + 1 != 9 || s.bigRole) then vget s.links.fn n else 4

/-- A function's own status set; a change of the entry sends a NOTIFY (R50). -/
def State.setFn (s : State) (n : Fin 20) (v : Byte) : State :=
  let before := s.fnStatus n
  let s := { s with links := { s.links with fn := vset s.links.fn n v } }
  if s.fnStatus n = before then s else s.notify 0x1201 (n.1 + 1) stOk [s.fnStatus n]

end Sys2Proof.Machine
end

