-- ==== Sys2Proof/Machine/Evf.lean ====
section
/-! DEFINITION. The Culvert event fabric (R397 to R403): producers, channels, bridges, and the consumers' remembered triggers. -/

namespace Sys2Proof.Machine

/-- EVF_PRODp (R398). -/
def prodReg (p : Nat) : Nat := 0x40040400 + 4 * p

/-- Producer numbers that some block drives (R398, R448, R477 and the producers of the links). -/
def prodAssigned (p : Nat) : Bool :=
  p < 0x14 || (0x14 ≤ p && p < 0x1B) || (0x20 ≤ p && p < 0x43) || p == 0x48 || p == 0x50 || p == 0x58 || p == 0x60 ||
  p == 0x68 || p == 0x69 || (0xA0 ≤ p && p < 0xA5) || (0xB0 ≤ p && p < 0xB4) || (0xC0 ≤ p && p < 0xC4)

/-- The fabric's clock CD3 runs while a core, SRAM, FLASH, SEC, CWY, SLU or HOSTIO domain is ON (R437); while it is stopped, producers
reach no channel (R399). -/
def State.fabricOn (s : State) : Bool :=
  (fins 24).any (fun d => ((decide (2 ≤ d.1) && decide (d.1 ≤ 11)) || (decide (19 ≤ d.1) && decide (d.1 ≤ 22))) && s.isOn d)

/-- An event dropped at hop 8 (R402). -/
def evfDrop (c : Fin 64) (s : State) : State :=
  { s with evf := { s.evf with
      chans := vmod s.evf.chans c (fun x => { x with loop := true }), loop := true, loopCnt := sat32 s.evf.loopCnt
      loopRc := sat32 s.evf.loopRc } }

/-- An event sent toward a channel, unless its hop count has reached 8 (R399, R402). -/
def evfSend (c : Fin 64) (hop : Nat) (s : State) : State :=
  if 8 ≤ hop then evfDrop c s else { s with evf := { s.evf with due := s.evf.due ++ [{ ch := c, hop := hop }] } }

/-- A firing lost at a busy input that already remembers one, or merged (R397, R400). -/
def evfMerge (c : Fin 64) (s : State) : State :=
  { s with evf := { s.evf with
      chans := vmod s.evf.chans c (fun x => { x with merged := true }), merged := true, mergedCnt := sat32 s.evf.mergedCnt
      mergedRc := sat32 s.evf.mergedRc } }

/-- A route of a producer that firmware may not use: channels 56 to 63 belong to the link controller while its domain is on,
for every producer but its own comparators 12 to 15 (R403). -/
def routeBarred (p : Nat) (c : Fin 64) (s : State) : Bool :=
  s.owns dRADIO && decide (56 ≤ c.1) && !(decide (0x0C ≤ p) && decide (p ≤ 0x0F))

/-- A channel number from a register field. -/
def chan (n : Nat) : Fin 64 := Fin.ofNat 64 n

/-- A producer fires: its enabled routes send one event to each channel they name, the same channel once (R397 to R399). -/
def fireHop (p hop : Nat) (s : State) : State :=
  if !s.fabricOn then s else
  let r := s.regN (prodReg p)
  let a := chan (field r 5 0)
  let b := chan (field r 13 8)
  let useA := bit r 6 && !routeBarred p a s
  let useB := bit r 14 && !routeBarred p b s && !(useA && a == b)
  let s := if useA then evfSend a hop s else s
  if useB then evfSend b hop s else s

/-- A producer fires at hop 0 (R402). -/
def fire (p : Nat) (s : State) : State := fireHop p 0 s

/-- The triggers a firing of channel `c` sends to timer unit `n` (R399, R405, R409). -/
def timerTriggers (c : Fin 64) (hop : Nat) (s : State) (n : Fin 8) : List TmrTrig :=
  let t := (vget s.tmr n).trig.toNat
  (if bit t 6 && field t 5 0 == c.1 then [{ unit := n, kind := .start, hop := hop }] else []) ++
  (if bit t 14 && field t 13 8 == c.1 then [{ unit := n, kind := .stop, hop := hop }] else []) ++
  (if bit t 22 && field t 21 16 == c.1 then [{ unit := n, kind := .cap, hop := hop }] else [])

/-- The line of one core: its IPEND bit is set, or the firing is remembered, or lost (R349, R399, R400). -/
def fireCore (c : Fin 64) (k : Fin 6) (s : State) : State :=
  let p := vget s.kz.ipend k
  let m : BitVec 64 := 1#64 <<< c.1
  if p &&& m = 0 then { s with kz := { s.kz with ipend := vset s.kz.ipend k (p ||| m) } }
  else if vget s.evf.corePend k &&& m = 0 then
    { s with evf := { s.evf with corePend := vmod s.evf.corePend k (fun q => q ||| m) } }
  else evfMerge c s

/-- A channel fires once with a hop count (R397): its flags and count, and what it sends to every consumer (R399). -/
def fireChannel (c : Fin 64) (hop : Nat) (merged : Bool) (s : State) : State :=
  let s := { s with evf := { s.evf with
    chans := vmod s.evf.chans c (fun x => { x with fired := true, count := x.count + 1, hop := hop }) } }
  let s := if merged then evfMerge c s else s
  let s := foldS (fireCore c) (fins 6) s
  let ch := vget s.evf.chans c
  { s with evf := { s.evf with
      tmrTrigs := s.evf.tmrTrigs ++ (fins 8).flatMap (timerTriggers c hop s),
      rfsTrigs := s.evf.rfsTrigs ++ [{ ch := c, hop := hop }],
      bridges := if ch.fwdEn then s.evf.bridges ++ [{ ch := c, hop := hop }] else s.evf.bridges } }

/-- The highest hop count among events. -/
def maxHop : List Evt → Nat
  | [] => 0
  | e :: r => if e.hop < maxHop r then maxHop r else e.hop

/-- CHANNEL_FIRE: in the cycle in which events reach a channel, it fires once, merged when there are two or more, with the highest hop
count among them (R397). -/
def channelFire (c : Fin 64) (s : State) : State :=
  let here := s.evf.due.filter (fun e => e.ch == c)
  if here.isEmpty then s else
  let s := { s with evf := { s.evf with due := s.evf.due.filter (fun e => e.ch != c) } }
  fireChannel c (maxHop here) (decide (1 < here.length)) s

def execChannelFire (c : Fin 64) (s : State) : Out := .next (channelFire c s)

/-- The channels a write of EVF_FIRE0 or EVF_FIRE1 names. -/
def fireBits (hi : Bool) (bits : BitVec 32) : List (Fin 64) :=
  (List.range 32).filterMap (fun i => if bits.getLsbD i then some (chan (i + if hi then 32 else 0)) else none)

/-- A write of EVF_FIRE0 or EVF_FIRE1 fires the named channels at hop 0, in the cycle after the write (R397, R399). -/
def evfFireWrite (hi : Bool) (bits : BitVec 32) (s : State) : State :=
  if !s.fabricOn then s else foldS (fun c s => evfSend c 0 s) (fireBits hi bits) s

def execEvfFireWrite (hi : Bool) (bits : BitVec 32) (s : State) : Out := .next (evfFireWrite hi bits s)

/-- BRIDGE_FORWARD: a firing of a bridged channel goes on to its target one hop higher, or is dropped at hop 8 (R401, R402). -/
def bridgeForward (c : Fin 64) (s : State) : State :=
  match takeFirst (fun e : Evt => e.ch == c) s.evf.bridges with
  | none => s
  | some (e, rest) =>
    let s := { s with evf := { s.evf with bridges := rest } }
    let ch := vget s.evf.chans c
    if ch.fwdEn then evfSend ch.fwd (e.hop + 1) s else s

def execBridgeForward (c : Fin 64) (s : State) : Out := .next (bridgeForward c s)

end Sys2Proof.Machine
end

