-- ==== Sys2Proof/Machine/Backup.lean ====
section
/-! DEFINITION. The backup domain: calendar, alarm, PWR_ON, the cycle count and the scratch words (R414 to R424). -/

namespace Sys2Proof.Machine

/-- Years from 2000 to 2099 divisible by 4 are leap years (R418). -/
def leap (y : Nat) : Bool := y % 4 == 0

/-- Days of a month. -/
def monthDays (y m : Nat) : Nat :=
  match m with
  | 2 => if leap y then 29 else 28
  | 4 => 30 | 6 => 30 | 9 => 30 | 11 => 30
  | _ => 31

/-- The calendar one second on: carries, the weekday at midnight, and the wrap from 2099 to 2000 (R418). -/
def Cal.next (c : Cal) : Cal :=
  if c.sec + 1 < 60 then { c with sec := c.sec + 1 }
  else if c.min + 1 < 60 then { c with sec := 0, min := c.min + 1 }
  else if c.hour + 1 < 24 then { c with sec := 0, min := 0, hour := c.hour + 1 }
  else
    let c := { c with sec := 0, min := 0, hour := 0, wday := if c.wday = 7 then 1 else c.wday + 1 }
    if c.day + 1 ≤ monthDays c.year c.month then { c with day := c.day + 1 }
    else if c.month + 1 ≤ 12 then { c with day := 1, month := c.month + 1 }
    else { c with day := 1, month := 1, year := if c.year = 99 then 0 else c.year + 1 }

/-- BKP_TIME as a word. -/
def Cal.timeWord (c : Cal) : BitVec 32 := BitVec.ofNat 32 (c.sec + c.min * 2 ^ 8 + c.hour * 2 ^ 16 + c.wday * 2 ^ 24)

/-- BKP_DATE as a word. -/
def Cal.dateWord (c : Cal) : BitVec 32 := BitVec.ofNat 32 (c.day + c.month * 2 ^ 8 + c.year * 2 ^ 16)

/-- The calendar with the time of a BKP_TIME word. -/
def Cal.withTime (c : Cal) (w : BitVec 32) : Cal :=
  let v := w.toNat
  { c with sec := field v 5 0, min := field v 13 8, hour := field v 20 16, wday := field v 26 24 }

/-- The calendar with the date of a BKP_DATE word. -/
def Cal.withDate (c : Cal) (w : BitVec 32) : Cal :=
  let v := w.toNat
  { c with day := field v 4 0, month := field v 11 8, year := field v 22 16 }

/-- A time that exists (R420). -/
def Cal.timeOk (c : Cal) : Bool := c.sec < 60 && c.min < 60 && c.hour < 24 && 1 ≤ c.wday && c.wday ≤ 7

/-- A date that exists (R420). -/
def Cal.dateOk (c : Cal) : Bool :=
  1 ≤ c.month && c.month ≤ 12 && 1 ≤ c.day && c.day ≤ monthDays c.year c.month && c.year < 100

/-- Days from 2000-01-01 to the first day of a month. -/
def daysBefore (y : Nat) : Nat → Nat
  | 0 => 0
  | 1 => 0
  | m + 2 => daysBefore y (m + 1) + monthDays y (m + 1)

/-- Seconds since 2000-01-01 00:00:00 (0x3300.01). -/
def Cal.seconds (c : Cal) : Nat :=
  let days := 365 * c.year + (c.year + 3) / 4 + daysBefore c.year c.month + (c.day - 1)
  ((days * 24 + c.hour) * 60 + c.min) * 60 + c.sec

/-- The month and day that lie `d` days into a year, searching `fuel` months on from `m`. -/
def monthOf (y : Nat) : Nat → Nat → Nat → Nat × Nat
  | 0, m, d => (m, d + 1)
  | fuel + 1, m, d => if d < monthDays y m then (m, d + 1) else monthOf y fuel (m + 1) (d - monthDays y m)

/-- The calendar at a number of seconds since 2000-01-01, with the weekday that matches the date (R418). -/
def Cal.ofSeconds (t : Nat) : Cal :=
  let days := t / 86400
  let q := days / 1461
  let r := days % 1461
  let yr := if r < 366 then 0 else 1 + (r - 366) / 365
  let dy := if r < 366 then r else (r - 366) % 365
  let y := 4 * q + yr
  let (m, d) := monthOf y 11 1 dy
  { sec := t % 60, min := t / 60 % 60, hour := t / 3600 % 24, wday := (days + 5) % 7 + 1, day := d, month := m, year := y }

/-- The backup domain changed. -/
def bmod (f : Bkp → Bkp) (s : State) : State := { s with bkp := f s.bkp }

/-- PWR_ON (R423). -/
def State.pwrOn (s : State) : Bool := s.bkp.pwrHold || (s.bkp.alarm && s.bkp.alarmPwr)

/-- The calendar matches the alarm in every field the mask does not ignore (R422). -/
def alarmMatch (b : Bkp) : Bool :=
  let m := b.alarmMask.toNat
  let t := b.alarmTime.toNat
  let d := b.alarmDate.toNat
  (bit m 0 || field t 5 0 == b.cal.sec) && (bit m 1 || field t 13 8 == b.cal.min) && (bit m 2 || field t 20 16 == b.cal.hour) &&
  (bit m 3 || field d 4 0 == b.cal.day) && (bit m 4 || field d 11 8 == b.cal.month) && (bit m 5 || field d 22 16 == b.cal.year)

/-- ALARM_FIRE: the calendar has stepped into a matching second (R422). -/
def alarmFire (s : State) : State :=
  if alarmMatch s.bkp then
    let s := bmod (fun b => { b with alarm := true }) s
    if s.bkp.alarmEn then fire 0x68 s else s
  else s

/-- One of T1 to T4 reads more than 110 °C. -/
def State.hotNow (s : State) : Bool := [1, 2, 3, 4].any (fun i => decide (1100 < signed 16 (s.regN (0x400A0010 + 4 * i))))

/-- At the end of a minute, HOT_MINUTES counts it when a sensor was hot in it (R478). -/
def hotMinute (s : State) : State :=
  if s.bkp.cal.sec ≠ 0 then s
  else
    let s' := if s.hlt.hot then s.dBump 0x3600 0x3C else s
    { s' with hlt := { s'.hlt with hot := s.hotNow } }

/-- The calendar steps to the next second: BKP_SECOND when SEC_EV is set, and the alarm (R398, R418, R422). -/
def stepSecond (s : State) : State :=
  let s := hotMinute (bmod (fun b => { b with cal := b.cal.next, subsec := 0 }) s)
  let s := if s.bkp.secEv then fire 0x69 s else s
  alarmFire s

/-- CALENDAR_SECOND: a second carry is due. With HALT set it is held, one at most, and a further one is lost with HALTLOSS
(R421); while the oscillator is stopped the calendar holds (R415). -/
def calendarSecond (s : State) : State :=
  if !s.bkp.oscRun then s
  else if s.bkp.halt then
    if s.bkp.carryPend then bmod (fun b => { b with haltLoss := true }) s
    else bmod (fun b => { b with carryPend := true }) s
  else stepSecond s

def execCalendarSecond (s : State) : Out := .next (calendarSecond s)

/-- BACKUP_POR: every backup register returns to its reset value; BKP_POR and OSF are set (R414). -/
def backupPor (s : State) : State :=
  { s with bkp := { onVbak := s.bkp.onVbak, vbakLow := s.bkp.vbakLow, oscRun := s.bkp.oscRun } }

def execBackupPor (s : State) : Out := .next (backupPor s)

/-- OSC_STOP: no edge for 4 ms sets OSF, and the calendar holds (R415). -/
def execOscStop (s : State) : Out := .next (bmod (fun b => { b with osf := true, oscRun := false }) s)

/-- The oscillator gives edges again, and OSF becomes clearable (R415). -/
def execRtcOscillatorResume (s : State) : Out := .next (bmod (fun b => { b with oscRun := true }) s)

/-- A write of BKP_TIME or BKP_DATE as it reaches the domain: refused with WERR while HALT is clear or when the instant does not
exist; a time clears the subsecond counter and discards a pending carry (R420). -/
def calendarWrite (date : Bool) (v : BitVec 32) (s : State) : State :=
  let c := if date then s.bkp.cal.withDate v else s.bkp.cal.withTime v
  if !s.bkp.halt || !(if date then c.dateOk else c.timeOk) then bmod (fun b => { b with werr := true }) s
  else if date then bmod (fun b => { b with cal := c }) s
  else bmod (fun b => { b with cal := c, subsec := 0, carryPend := false }) s

def execBkpTimeWrite (date : Bool) (v : BitVec 32) (s : State) : Out := .next (calendarWrite date v s)

/-- HALT_RELEASE: clearing HALT applies the pending carry at once, which may fire the alarm (R421, R422). -/
def haltRelease (s : State) : State :=
  if !s.bkp.halt then s else
  let p := s.bkp.carryPend
  let s := bmod (fun b => { b with halt := false, carryPend := false }) s
  if p then stepSecond s else s

def execHaltRelease (s : State) : Out := .next (haltRelease s)

/-- PWR_HOLD_CLEAR: with no alarm pending, PWR_ON goes low (R423). -/
def pwrHoldClear (s : State) : State := bmod (fun b => { b with pwrHold := false }) s

def execPwrHoldClear (s : State) : Out := .next (pwrHoldClear s)

/-- A write of BKP_CTRL as it reaches the domain. -/
def bkpCtrlWrite (v : BitVec 32) (s : State) : State :=
  let n := v.toNat
  let s := bmod (fun b => { b with secEv := bit n 4, alarmPwr := bit n 3, alarmEn := bit n 2, pwrHold := bit n 1 }) s
  if bit n 0 then bmod (fun b => { b with halt := true }) s else haltRelease s

/-- A write of BKP_STAT as it reaches the domain: 1 clears a flag, OSF only while the oscillator runs (R411, R415). -/
def bkpStatWrite (v : BitVec 32) (s : State) : State :=
  let n := v.toNat
  bmod (fun b => { b with
    werr := b.werr && !(bit n 4), alarm := b.alarm && !(bit n 3), haltLoss := b.haltLoss && !(bit n 2),
    por := b.por && !(bit n 1), osf := b.osf && !(bit n 0 && b.oscRun) }) s

/-- A write that has reached the domain, by register offset. -/
def bkpApply (off : Nat) (v : BitVec 32) (s : State) : State :=
  if off = 0x04 then calendarWrite false v s
  else if off = 0x08 then calendarWrite true v s
  else if off = 0x0C then bkpCtrlWrite v s
  else if off = 0x10 then bkpStatWrite v s
  else if off = 0x14 then bmod (fun b => { b with alarmTime := v }) s
  else if off = 0x18 then bmod (fun b => { b with alarmDate := v }) s
  else if off = 0x1C then bmod (fun b => { b with alarmMask := v &&& 0x3F }) s
  else if off = 0x20 then bmod (fun b => { b with calTrim := v &&& 0x3FF }) s
  else if off = 0x28 then bmod (fun b => { b with cycle := v.truncate 28, cycleValid := v.getLsbD 31 }) s
  else if 0x40 ≤ off ∧ off < 0x80 ∧ off % 4 = 0 then
    bmod (fun b => { b with data := vset b.data (Fin.ofNat 16 ((off - 0x40) / 4)) v }) s
  else s

/-- A register write starts across the clock boundary: WPEND is set until it completes (R417). -/
def bkpWrite (off : Nat) (v : BitVec 32) (s : State) : State :=
  bmod (fun b => { b with writes := b.writes ++ [(off, v)] }) s

/-- BKP_WRITE_COMPLETE: the oldest write crossing reaches the domain (R417). -/
def bkpWriteComplete (s : State) : State :=
  match s.bkp.writes with
  | [] => s
  | (off, v) :: rest => bkpApply off v (bmod (fun b => { b with writes := rest }) s)

def execBkpWriteComplete (s : State) : Out := .next (bkpWriteComplete s)

/-- BKP_SUBSEC_READ: every calendar field is latched in one cycle; the subsecond counter stood at `sub` (R419). -/
def bkpSubsecRead (sub : BitVec 15) (s : State) : State :=
  bmod (fun b => { b with subsec := sub.toNat, latch := b.cal }) s

def execBkpSubsecRead (sub : BitVec 15) (s : State) : Out := .next (bkpSubsecRead sub s)

/-- BKP_CTRL as a word. -/
def Bkp.ctrlWord (b : Bkp) : BitVec 32 :=
  BitVec.ofNat 32 (b2n b.halt + 2 * b2n b.pwrHold + 4 * b2n b.alarmEn + 8 * b2n b.alarmPwr + 16 * b2n b.secEv)

/-- BKP_STAT as a word. -/
def Bkp.statWord (b : Bkp) : BitVec 32 :=
  BitVec.ofNat 32 (b2n b.osf + 2 * b2n b.por + 4 * b2n b.haltLoss + 8 * b2n b.alarm + 16 * b2n b.werr + 32 * b2n b.vbakLow +
    64 * b2n b.onVbak + 128 * b2n (!b.writes.isEmpty))

/-- The RTC flags as the entry 0x3300.03 gives them (R424). -/
def Bkp.flags (b : Bkp) : Byte :=
  BitVec.ofNat 8 (b2n b.osf + 2 * b2n b.por + 4 * b2n b.haltLoss + 8 * b2n b.vbakLow)

/-! ### What writes of the 0x3300 entries do (R424) -/

/-- RTC_SECONDS: the calendar is set by the HALT sequence, with the subsecond 0. -/
def rtcSet (t : Nat) (s : State) : State := bmod (fun b => { b with cal := Cal.ofSeconds t, subsec := 0, carryPend := false }) s

/-- RTC_FLAGS_CLEAR: OSF (while the oscillator runs), BKP_POR and HALTLOSS are cleared. -/
def rtcFlagsClear (s : State) : State := bkpStatWrite 7 s

/-- A full-date alarm at an instant, or none (0x3300.06). -/
def alarmSet (t : Nat) (s : State) : State :=
  if t = 0 then bmod (fun b => { b with alarmEn := false, alarmMask := 0x3F }) s
  else let c := Cal.ofSeconds t
    bmod (fun b => { b with alarmTime := c.timeWord, alarmDate := c.dateWord, alarmMask := 0, alarmEn := true }) s

/-- POWER_CYCLE: the alarm POWER_CYCLE_S ahead with ALARM_PWR, then PWR_HOLD cleared. -/
def powerCycle (s : State) : State :=
  let t := s.bkp.cal.seconds + s.dU 0x3300 9
  pwrHoldClear (bmod (fun b => { b with alarmPwr := true }) (alarmSet t s))

end Sys2Proof.Machine
end

