-- ==== Sys2Proof/Machine/Crypto.lean ====
section
/-! DEFINITION. The published algorithms that the spec names: AES (FIPS 197) and AES-CMAC (SP 800-38B) of R299, the KDF of R286, SHA-384
(FIPS 180-4) and ECDSA over brainpoolP384r1 (RFC 5639) with the secret of RFC 6979 of R306. Their inner tables are PRESUMED
from those standards (log entry 24). -/

namespace Sys2Proof.Machine

/-! ### AES -/

/-- Multiplication by x in GF(2^8) modulo x^8 + x^4 + x^3 + x + 1. -/
def xtime (a : Nat) : Nat := if a < 128 then a * 2 else (a * 2 % 256) ^^^ 0x1B

/-- Multiplication in GF(2^8), over the low `n` bits of `b`. -/
def gmul : Nat → Nat → Nat → Nat
  | 0, _, _ => 0
  | n + 1, a, b => (if b % 2 = 1 then a else 0) ^^^ gmul n (xtime a) (b / 2)

/-- The inverse in GF(2^8): the 254th power. -/
def ginv (a : Nat) : Nat :=
  let m := gmul 8
  let a2 := m a a
  let a3 := m a2 a
  let a6 := m a3 a3
  let a12 := m a6 a6
  let a15 := m a12 a3
  let a30 := m a15 a15
  let a60 := m a30 a30
  let a63 := m a60 a3
  let a126 := m a63 a63
  let a127 := m a126 a
  m a127 a127

def rotl8 (a k : Nat) : Nat := (a * 2 ^ k + a / 2 ^ (8 - k)) % 256

/-- The S-box. -/
def sbox (a : Nat) : Nat :=
  let b := ginv a
  b ^^^ rotl8 b 1 ^^^ rotl8 b 2 ^^^ rotl8 b 3 ^^^ rotl8 b 4 ^^^ 0x63

/-- The S-box as a table, so that a block evaluates it by lookup. -/
def sboxTable : List Nat := (List.range 256).map sbox

def xorL (a b : List Nat) : List Nat := List.zipWith (· ^^^ ·) a b

/-- The key schedule: words of four bytes, newest first, `nk` words in the key (FIPS 197). -/
def keyWords (t : List Nat) (nk : Nat) : Nat → Nat → Nat → List (List Nat) → List (List Nat)
  | 0, _, _, ws => ws
  | n + 1, i, rcon, ws =>
    let prev := ws.getD 0 []
    let back := ws.getD (nk - 1) []
    let sub := fun (w : List Nat) => w.map (fun x => t.getD x 0)
    let w := if i % nk = 0 then xorL (sub (prev.drop 1 ++ prev.take 1)) [rcon, 0, 0, 0] else if 6 < nk ∧ i % nk = 4 then sub prev else prev
    keyWords t nk n (i + 1) (if i % nk = 0 then xtime rcon else rcon) (xorL back w :: ws)

/-- A list cut into pieces of four. -/
def fours : Nat → List Nat → List (List Nat)
  | 0, _ => []
  | n + 1, l => l.take 4 :: fours n (l.drop 4)

/-- The round keys of a 16-byte or 32-byte key, in order. -/
def roundKeys (t : List Nat) (k : List Nat) : List (List Nat) :=
  let nk := k.length / 4
  (keyWords t nk (4 * (nk + 7) - nk) nk 1 (fours nk k).reverse).reverse

/-- Rows of the state shifted; bytes lie by columns. -/
def shiftRows (s : List Nat) : List Nat := [0, 5, 10, 15, 4, 9, 14, 3, 8, 13, 2, 7, 12, 1, 6, 11].map (fun i => s.getD i 0)

def mixColumn (c : List Nat) : List Nat :=
  let g := fun i => c.getD i 0
  let m := gmul 2
  [m (g 0) 2 ^^^ m (g 1) 3 ^^^ g 2 ^^^ g 3, g 0 ^^^ m (g 1) 2 ^^^ m (g 2) 3 ^^^ g 3, g 0 ^^^ g 1 ^^^ m (g 2) 2 ^^^ m (g 3) 3,
    m (g 0) 3 ^^^ g 1 ^^^ g 2 ^^^ m (g 3) 2]

/-- The rounds left, with the round keys still to use. -/
def aesRounds (t : List Nat) : Nat → List (List Nat) → List Nat → List Nat
  | 0, _, s => s
  | n + 1, ks, s =>
    let k := (ks.take 4).flatten
    let s := shiftRows (s.map (fun x => t.getD x 0))
    let s := if n = 0 then s else (fours 4 s).flatMap mixColumn
    aesRounds t n (ks.drop 4) (xorL s k)

/-- One AES block under a key of 16 or 32 bytes. -/
def aesBlock (key block : List Byte) : List Byte :=
  let t := sboxTable
  let ks := roundKeys t (key.map (·.toNat))
  (aesRounds t (key.length / 4 + 6) (ks.drop 4) (xorL (block.map (·.toNat)) (ks.take 4).flatten)).map (BitVec.ofNat 8)

/-! ### CMAC and the KDF -/

/-- Doubling in GF(2^128). -/
def dbl128 (x : Nat) : Nat := if x < 2 ^ 127 then 2 * x else (2 * x % 2 ^ 128) ^^^ 0x87

def xorBytes (a b : List Byte) : List Byte := List.zipWith (· ^^^ ·) a b

/-- The last block with its subkey (SP 800-38B). -/
def cmacLast (l : Nat) (m : List Byte) : List Byte :=
  if m.length = 16 then xorBytes m (beBytes 16 (dbl128 l))
  else xorBytes (m ++ 0x80#8 :: List.replicate (15 - m.length) 0) (beBytes 16 (dbl128 (dbl128 l)))

/-- The chain over `n` blocks, the last of them short or whole. -/
def cmacChain (key : List Byte) (l : Nat) : Nat → List Byte → List Byte → List Byte
  | 0, _, x => x
  | n + 1, m, x =>
    if n = 0 then aesBlock key (xorBytes x (cmacLast l m))
    else cmacChain key l n (m.drop 16) (aesBlock key (xorBytes x (m.take 16)))

/-- AES-CMAC of a message. -/
def cmac (key msg : List Byte) : List Byte :=
  cmacChain key (beNat (aesBlock key (List.replicate 16 0))) (max 1 ((msg.length + 15) / 16)) msg (List.replicate 16 0)

/-- The 14-byte PRF input of R286. -/
def kdfInput (i : Nat) (wrap : Bool) (n e idx len : Nat) : List Byte :=
  BitVec.ofNat 8 i :: (if wrap then [0x57, 0x52, 0x41, 0x50] else [0x4E, 0x4F, 0x44, 0x45]) ++ [0] ++ beBytes 3 (n % 2 ^ 18) ++ beBytes 2 e ++
  [BitVec.ofNat 8 idx] ++ beBytes 2 len

/-- The KDF: one PRF output for a 128-bit key, two for a 256-bit key (R286). -/
def kdf (key : List Byte) (wrap : Bool) (n e idx : Nat) : List Byte :=
  if key.length = 32 then cmac key (kdfInput 1 wrap n e idx 256) ++ cmac key (kdfInput 2 wrap n e idx 256)
  else cmac key (kdfInput 1 wrap n e idx 128)

/-- The tag: the most significant 64 bits of the CMAC (R107). -/
def tag8 (key msg : List Byte) : List Byte := (cmac key msg).take 8

/-! ### SHA-384 -/

/-- The greatest r below 2^n with p(r) at most x, for a rising p. -/
def rootBits (p : Nat → Nat) (x : Nat) : Nat → Nat → Nat
  | 0, r => r
  | n + 1, r => rootBits p x n (if p (r + 2 ^ n) ≤ x then r + 2 ^ n else r)

/-- The first 80 primes. -/
def primes80 : List Nat :=
  ((List.range 410).filter (fun n => decide (2 ≤ n) && (List.range 21).all (fun d => decide (d < 2) || decide (n ≤ d) || n % d != 0))).take 80

/-- The constants: fractional parts of cube roots, and of square roots of the ninth to the sixteenth prime. -/
def shaK : List (BitVec 64) := primes80.map (fun p => BitVec.ofNat 64 (rootBits (fun r => r * r * r) (p * 2 ^ 192) 68 0))
def shaH : List (BitVec 64) := ((primes80.drop 8).take 8).map (fun p => BitVec.ofNat 64 (rootBits (fun r => r * r) (p * 2 ^ 128) 68 0))

def ror64 (x : BitVec 64) (k : Nat) : BitVec 64 := x.rotateRight k

/-- The message schedule, newest first. -/
def shaSchedule : Nat → List (BitVec 64) → List (BitVec 64)
  | 0, ws => ws
  | n + 1, ws =>
    let g := fun i => ws.getD i 0
    let s0 := ror64 (g 14) 1 ^^^ ror64 (g 14) 8 ^^^ (g 14 >>> 7)
    let s1 := ror64 (g 1) 19 ^^^ ror64 (g 1) 61 ^^^ (g 1 >>> 6)
    shaSchedule n ((s1 + g 6 + s0 + g 15) :: ws)

/-- One round on the eight working variables. -/
def shaRound (v : List (BitVec 64)) (kw : BitVec 64) : List (BitVec 64) :=
  let a := v.getD 0 0
  let b := v.getD 1 0
  let c := v.getD 2 0
  let e := v.getD 4 0
  let f := v.getD 5 0
  let g := v.getD 6 0
  let t1 := v.getD 7 0 + (ror64 e 14 ^^^ ror64 e 18 ^^^ ror64 e 41) + ((e &&& f) ^^^ (~~~e &&& g)) + kw
  let t2 := (ror64 a 28 ^^^ ror64 a 34 ^^^ ror64 a 39) + ((a &&& b) ^^^ (a &&& c) ^^^ (b &&& c))
  [t1 + t2, a, b, c, v.getD 3 0 + t1, e, f, g]

/-- One 128-byte block. -/
def shaBlock (ks h : List (BitVec 64)) (m : List Byte) : List (BitVec 64) :=
  let w0 := (List.range 16).map (fun i => BitVec.ofNat 64 (beNat ((m.drop (8 * i)).take 8)))
  let ws := (shaSchedule 64 w0.reverse).reverse
  List.zipWith (· + ·) h ((List.zipWith (· + ·) ks ws).foldl shaRound h)

def shaBlocks (ks : List (BitVec 64)) : Nat → List (BitVec 64) → List Byte → List (BitVec 64)
  | 0, h, _ => h
  | n + 1, h, m => shaBlocks ks n (shaBlock ks h (m.take 128)) (m.drop 128)

/-- SHA-384 of a message. -/
def sha384 (msg : List Byte) : List Byte :=
  let pad := msg ++ 0x80#8 :: List.replicate ((239 - msg.length % 128) % 128) 0 ++ beBytes 16 (8 * msg.length)
  ((shaBlocks shaK (pad.length / 128) shaH pad).take 6).flatMap (fun w => beBytes 8 w.toNat)

/-- HMAC-SHA-384. -/
def hmac384 (key msg : List Byte) : List Byte :=
  let k := (if 128 < key.length then sha384 key else key)
  let k := k ++ List.replicate (128 - k.length) 0
  sha384 (k.map (· ^^^ 0x5C) ++ sha384 (k.map (· ^^^ 0x36) ++ msg))

/-! ### ECDSA over brainpoolP384r1 -/

def bpP : Nat := 0x8CB91E82A3386D280F5D6F7E50E641DF152F7109ED5456B412B1DA197FB71123ACD3A729901D1A71874700133107EC53
def bpA : Nat := 0x7BC382C63D8C150C3C72080ACE05AFA0C2BEA28E4FB22787139165EFBA91F90F8AA5814A503AD4EB04A8C7DD22CE2826
def bpB : Nat := 0x04A8C7DD22CE28268B39B55416F0447C2FB77DE107DCD2A62E880EA53EEB62D57CB4390295DBC9943AB78696FA504C11
def bpGx : Nat := 0x1D1C64F068CF45FFA2A63A81B7C13F6B8847A3E77EF14FE3DB7FCAFE0CBD10E8E826E03436D646AAEF87B2E247D4AF1E
def bpGy : Nat := 0x8ABE1D7520F9C2A45CB1EB8E95CFD55262B70B29FEEC5864E19C054FF99129280E4646217791811142820341263C5315
def bpQ : Nat := 0x8CB91E82A3386D280F5D6F7E50E641DF152F7109ED5456B31F166E6CAC0425A7CF3AB6AF6B7FC3103B883202E9046565

/-- Powers modulo m, over the low `n` bits of the exponent. -/
def powMod (m : Nat) : Nat → Nat → Nat → Nat → Nat
  | 0, _, _, acc => acc
  | n + 1, b, e, acc => powMod m n (b * b % m) (e / 2) (if e % 2 = 1 then acc * b % m else acc)

/-- The inverse modulo a prime below 2^384. -/
def invMod (m a : Nat) : Nat := powMod m 384 (a % m) (m - 2) 1

/-- A point of the curve in Jacobian coordinates, so that a multiple takes one inverse: x is X/Z², y is Y/Z³; none is the point at
infinity. -/
abbrev Point := Option (Nat × Nat × Nat)

def subP (a b : Nat) : Nat := (a + bpP - b % bpP) % bpP

def ptDouble (x y z : Nat) : Point :=
  if y = 0 then none
  else
    let yy := y * y % bpP
    let s := 4 * x * yy % bpP
    let zz := z * z % bpP
    let m := (3 * x * x + bpA * (zz * zz % bpP)) % bpP
    let x3 := subP (m * m) (2 * s)
    some (x3, subP (m * subP s x3) (8 * yy * yy), 2 * y * z % bpP)

def ptAdd : Point → Point → Point
  | none, q => q
  | some p, none => some p
  | some (x1, y1, z1), some (x2, y2, z2) =>
    let a := z1 * z1 % bpP
    let b := z2 * z2 % bpP
    let u1 := x1 * b % bpP
    let u2 := x2 * a % bpP
    let s1 := y1 * z2 % bpP * b % bpP
    let s2 := y2 * z1 % bpP * a % bpP
    if u1 = u2 then (if s1 = s2 then ptDouble x1 y1 z1 else none)
    else
      let h := subP u2 u1
      let r := subP s2 s1
      let hh := h * h % bpP
      let v := u1 * hh % bpP
      let x3 := subP (r * r) (h * hh % bpP + 2 * v)
      some (x3, subP (r * subP v x3) (s1 * (h * hh % bpP)), h * z1 % bpP * z2 % bpP)

/-- A multiple of a point, over the low `n` bits of the scalar. -/
def ptMul : Nat → Nat → Point → Point
  | 0, _, _ => none
  | n + 1, k, p => if k % 2 = 1 then ptAdd p (ptMul n (k / 2) (ptAdd p p)) else ptMul n (k / 2) (ptAdd p p)

/-- The affine x of a point. -/
def ptX : Point → Option Nat
  | none => none
  | some (x, _, z) => some (x * invMod bpP (z * z) % bpP)

def bpG : Point := some (bpGx, bpGy, 1)

def onCurve (x y : Nat) : Bool := decide (x < bpP) && decide (y < bpP) && (y * y % bpP == (x * x % bpP * x + bpA * x + bpB) % bpP)

/-- ECDSA verification of a 48-byte digest: public key x, y and signature r, s, 48 bytes each (R306). -/
def ecdsaVerify (digest pub sig : List Byte) : Bool :=
  let x := beNat (pub.take 48)
  let y := beNat ((pub.drop 48).take 48)
  let r := beNat (sig.take 48)
  let s := beNat ((sig.drop 48).take 48)
  if !onCurve x y || r == 0 || s == 0 || decide (bpQ ≤ r) || decide (bpQ ≤ s) then false
  else
    let w := invMod bpQ s
    let z := beNat digest
    match ptX (ptAdd (ptMul 384 (z * w % bpQ) bpG) (ptMul 384 (r * w % bpQ) (some (x, y, 1)))) with
    | none => false
    | some x' => x' % bpQ == r

/-- The per-message secret of RFC 6979: candidates until one gives a signature; `n` bounds the retries. -/
def rfcSecret (k v : List Byte) : Nat → Nat
  | 0 => 1
  | n + 1 =>
    let v := hmac384 k v
    let c := beNat v
    if 0 < c ∧ c < bpQ then c
    else
      let k := hmac384 k (v ++ [0])
      rfcSecret k (hmac384 k v) n

/-- ECDSA signature of a 48-byte digest with a private scalar (R306). -/
def ecdsaSign (digest priv : List Byte) : List Byte :=
  let d := beNat priv
  let z := beNat digest % bpQ
  let seed := beBytes 48 d ++ beBytes 48 z
  let v0 := List.replicate 48 1#8
  let k0 := List.replicate 48 0#8
  let k1 := hmac384 k0 (v0 ++ [0] ++ seed)
  let v1 := hmac384 k1 v0
  let k2 := hmac384 k1 (v1 ++ [1] ++ seed)
  let k := rfcSecret k2 (hmac384 k2 v1) 64
  match ptX (ptMul 384 k bpG) with
  | none => []
  | some x =>
    let r := x % bpQ
    beBytes 48 r ++ beBytes 48 (invMod bpQ k * (z + r * d) % bpQ)

end Sys2Proof.Machine
end

