-- ==== Sys2Proof/Machine/Ptb.lean ====
section
/-! DEFINITION. The phase timebase: domains, references, gearing, steps and comparators (R52 to R86, R534). -/

namespace Sys2Proof.Machine

/-- One revolution in phase units (R52). -/
def revUnits : Nat := 2 ^ 32

/-- The position of a domain as one number: revolution count, phase, fraction (R52). -/
def PhaseDom.pos (d : PhaseDom) : Nat := d.rev.toNat * 2 ^ 56 + d.phase.toNat * 2 ^ 24 + d.frac.toNat

/-- The position in whole phase units. -/
def PhaseDom.units (d : PhaseDom) : Nat := d.rev.toNat * 2 ^ 32 + d.phase.toNat

/-- The domain at a position, taken modulo the 2^84 that revolution count, phase and fraction can hold. -/
def PhaseDom.at_ (d : PhaseDom) (p : Int) : PhaseDom :=
  let q := unsigned 84 p
  { d with rev := BitVec.ofNat 28 (q / 2 ^ 56), phase := BitVec.ofNat 32 (q / 2 ^ 24), frac := BitVec.ofNat 24 q }

/-- RATE = round(2^51 / L) for a revolution of L microseconds (R55). -/
def rateFor (us : Nat) : Nat := (2 ^ 52 + us) / (2 * us)

/-- The absolute slot number: cycle count and slot index (R66). -/
def State.absSlot (s : State) : Nat :=
  let d := vget s.ptb.pd 1
  d.rev.toNat * 4096 + d.phase.toNat / 2 ^ 20

/-- The cycle count (R66). -/
def State.cycle (s : State) : Nat := (vget s.ptb.pd 1).rev.toNat

/-- PD1's source (R64): the root's own mode in role 3, the air in roles 1 and 2, the Peer Link in roles 4 and 5, free otherwise. -/
def State.pd1Source (s : State) : Pd1Source :=
  match s.role with
  | 1 => .air | 2 => .air
  | 3 => if s.dU 0x2000 4 = 1 then .geared else .free
  | 4 => .peer | 5 => .peer
  | _ => .free

def ptbMod (f : Ptb → Ptb) (s : State) : State := { s with ptb := f s.ptb }

/-- One domain changed. -/
def pdMod (n : Fin 4) (f : PhaseDom → PhaseDom) (s : State) : State := ptbMod (fun p => { p with pd := vmod p.pd n f }) s

/-- One comparator changed. -/
def cmpMod (m : Fin 16) (f : Comparator → Comparator) (s : State) : State := ptbMod (fun p => { p with cmp := vmod p.cmp m f }) s

/-! ### Comparators (R77 to R82) -/

/-- How far apart a comparator's targets lie: STEP in PERIODIC, else one revolution, or the whole cycle count with ABS on PD1
(R78, R81). -/
def Comparator.period (c : Comparator) : Nat :=
  if c.mode = 1 then c.step.toNat else if c.abs && c.domain == 1 then 2 ^ 60 else 2 ^ 32

/-- Targets of DIVIDE at or below an unwrapped position, counted from TARGET: floor(k 2^32 / DIV) (R78). -/
def divideCount (div : Nat) (u : Int) : Int :=
  let r := (u % (2 ^ 32 : Int)).toNat
  u / (2 ^ 32 : Int) * div + ((r + 1) * div + 2 ^ 32 - 1) / 2 ^ 32

/-- What a travel does to a comparator: how many targets it passed, the comparator watching its next targets, and for
DIVIDE the k of the last target passed. -/
structure Crossing where
  passed : Nat
  cmp    : Comparator
  index  : Nat := 0

/-- The targets that lie in the span of a travel of `d` units from an unwrapped position `p`, the start excluded and the end
included, in the direction of travel (R77, R78). -/
def crossing (c : Comparator) (p d : Int) : Crossing :=
  if c.mode = 2 then
    let div := c.step.toNat % 65536
    let n := fun x : Int => divideCount div (x - c.target.toNat)
    if 0 ≤ d then { passed := (n (p + d) - n p).toNat, cmp := c, index := ((n (p + d) - 1) % (div : Int)).toNat }
    else { passed := (n (p - 1) - n (p + d - 1)).toNat, cmp := c, index := (n (p + d - 1) % (div : Int)).toNat }
  else
    let t := c.period
    if 0 ≤ d then
      let v := d.toNat
      if v < c.dist then { passed := 0, cmp := { c with dist := c.dist - v } }
      else { passed := 1 + (v - c.dist) / t, cmp := { c with dist := t - (v - c.dist) % t } }
    else
      let b := (-d).toNat
      if t < c.dist then { passed := 0, cmp := { c with dist := c.dist + b } }
      else
        let q := t - c.dist
        let x := c.dist + b
        { passed := if b < q then 0 else (b - q) / t + 1 - (if q = 0 then 1 else 0), cmp := { c with dist := (x - 1) % t + 1 } }

/-- DIR admits crossings in the direction of travel; 3 acts as forward (R79). -/
def Comparator.admits (c : Comparator) (forward : Bool) : Bool :=
  if c.dir = 2 then true else if c.dir = 1 then !forward else forward

/-- COMPARATOR_FIRE: FIRED, OVR when it was still set, EN cleared in ONESHOT, INDEX in DIVIDE, and the producer PTB_CMPm (R77, R78,
R82). -/
def comparatorFire (m : Fin 16) (index : Nat) (s : State) : State :=
  fire m.1 (cmpMod m (fun c => { c with
    ovr := c.ovr || c.fired, fired := true, en := if c.mode = 0 then false else c.en,
    index := if c.mode = 2 then BitVec.ofNat 16 index else c.index }) s)

/-- Ordinary travel of a domain past one comparator (R77, R79). -/
def travelCmp (n : Fin 4) (p d : Int) (m : Fin 16) (s : State) : State :=
  let c := vget s.ptb.cmp m
  if !c.en || c.domain != n || d == 0 then s else
  let x := crossing c p d
  let s := cmpMod m (fun _ => x.cmp) s
  if 0 < x.passed ∧ c.admits (decide (0 ≤ d)) then comparatorFire m x.index s else s

/-- A step of a domain past one comparator: forward it sets SKIPPED, fires once unless SKIPDROP is set, and counts the
targets passed in PERIODIC and DIVIDE; backward it fires nothing (R76). -/
def stepCmp (n : Fin 4) (p d : Int) (m : Fin 16) (s : State) : State :=
  let c := vget s.ptb.cmp m
  if !c.en || c.domain != n || d == 0 then s else
  let x := crossing c p d
  let s := cmpMod m (fun _ => x.cmp) s
  if d < 0 ∨ x.passed = 0 then s else
  let s := cmpMod m (fun c => { c with
    skipped := true, skipCount := if c.mode = 0 then c.skipCount else satAdd 255 c.skipCount x.passed }) s
  if c.skipDrop || !c.admits true then s else comparatorFire m x.index s

/-- Forward travel to the first target when a comparator is armed: the present phase counts as behind it (R78, R80). -/
def armDist (c : Comparator) (phase : BitVec 32) : Nat :=
  let d := (c.target.toNat + 2 ^ 32 - phase.toNat - 1) % 2 ^ 32 + 1
  if c.mode = 1 ∧ 0 < c.step.toNat then (d - 1) % c.step.toNat + 1 else d

/-- How far the pair (CYCLE, TARGET) lies ahead of a position, modulo the cycle count (R81). -/
def absAhead (c : Comparator) (d : PhaseDom) : Nat := (c.cycle.toNat * 2 ^ 32 + c.target.toNat + 2 ^ 60 - d.units) % 2 ^ 60

/-- Arming: a reserved MODE, a PERIODIC STEP of 0 or a DIV below 2 does not arm; an ABS target that is not ahead by less than
2^27 cycles sets LATE and clears EN (R78, R80, R81). -/
def armed (c : Comparator) (d : PhaseDom) : Comparator :=
  if c.mode = 3 ∨ (c.mode = 1 ∧ c.step.toNat = 0) ∨ (c.mode = 2 ∧ c.step.toNat % 65536 < 2) then { c with en := false }
  else if c.abs && c.domain == 1 then
    let a := absAhead c d
    if 0 < a ∧ a < 2 ^ 59 then { c with en := true, dist := a } else { c with en := false, late := true }
  else { c with en := true, dist := armDist c d.phase }

/-- CMPm_CFG's fields from a word. -/
def Comparator.withCfg (c : Comparator) (w : BitVec 32) : Comparator :=
  let v := w.toNat
  { c with mode := Fin.ofNat 4 (field v 30 29), dir := Fin.ofNat 4 (field v 28 27), abs := bit v 26, skipDrop := bit v 25,
           domain := Fin.ofNat 4 (field v 1 0) }

/-- A comparator held by the link controller (R83, R427). -/
def State.cmpOwned (s : State) (m : Fin 16) : Bool := decide (12 ≤ m.1) && s.owns dRADIO

/-- A write of CMPm_CFG by whoever may: with EN it arms, without it disarms. -/
def cmpCfg (m : Fin 16) (w : BitVec 32) (s : State) : State :=
  let c := (vget s.ptb.cmp m).withCfg w
  let c := if bit w.toNat 31 then armed c (vget s.ptb.pd c.domain) else { c with en := false }
  cmpMod m (fun _ => c) s

/-- COMPARATOR_ARM: a core's write of CMPm_CFG with EN = 1; ignored for a comparator the link controller holds (R80, R81, R83). -/
def comparatorArm (m : Fin 16) (w : BitVec 32) (s : State) : State := if s.cmpOwned m then s else cmpCfg m (w ||| 0x80000000) s

def execComparatorArm (m : Fin 16) (cfg : BitVec 32) (s : State) : Out := .next (comparatorArm m cfg s)

/-! ### Travel and steps -/

/-- BKP_CYCLE_STORE: at a cycle boundary in the root role the cycle count is stored with VALID (R67). -/
def bkpCycleStore (s : State) : State :=
  if s.role = 3 then { s with bkp := { s.bkp with cycle := (vget s.ptb.pd 1).rev, cycleValid := true } } else s

/-- A domain moved by `d` units of 2^-24 as ordinary travel: comparators fire, and PD1 stores its cycle count at each
boundary (R52, R67, R77). -/
def travel (n : Fin 4) (d : Int) (s : State) : State :=
  let old := vget s.ptb.pd n
  let p := (old.pos : Int) + d
  let u := p / 2 ^ 24 - (old.units : Int)
  let s := pdMod n (fun x => x.at_ p) s
  let s := foldS (travelCmp n old.units u) (fins 16) s
  if n = 1 ∧ (vget s.ptb.pd 1).rev ≠ old.rev then bkpCycleStore s else s

/-- One step of less than 2^31 units: the phase and the revolution count change in one tick, STEPPED is set, and the
comparators passed act under R76 (R75). -/
def stepOnce (n : Fin 4) (d : Int) (s : State) : State :=
  let old := vget s.ptb.pd n
  let s := pdMod n (fun x => { x.at_ ((old.pos : Int) + d * 2 ^ 24) with stepped := true }) s
  let s := foldS (stepCmp n old.units d) (fins 16) s
  if n = 1 ∧ (vget s.ptb.pd 1).rev ≠ old.rev then bkpCycleStore s else s

/-- A correction of any size as a series of steps of at most 2^31 - 1 units in its direction (R75). -/
def stepSeries (n : Fin 4) : Nat → Int → State → State
  | 0, _, s => s
  | fuel + 1, d, s =>
    let part := clampI (-(2 ^ 31 - 1)) (2 ^ 31 - 1) d
    let s := stepOnce n part s
    if d = part then s else stepSeries n fuel (d - part) s

/-- The whole of a correction: as many steps as its size needs. -/
def stepBy (n : Fin 4) (d : Int) (s : State) : State := stepSeries n (d.natAbs / (2 ^ 31 - 1) + 1) d s

/-- PD_STEP_WRITE: PD1 ignores it unless its source is the air or the Peer Link; -2^31 is no step of less than 2^31 units and does
nothing (R75). -/
def pdStepWrite (n : Fin 4) (v : BitVec 32) (s : State) : State :=
  let d := v.toInt
  if (n = 1 ∧ s.pd1Source ≠ .air ∧ s.pd1Source ≠ .peer) ∨ d = -(2 ^ 31) ∨ d = 0 then s else stepOnce n d s

def execPdStepWrite (n : Fin 4) (step : BitVec 32) (s : State) : Out := .next (pdStepWrite n step s)

/-! ### External references (R56 to R63) -/

/-- The entry of a reference: PD2's at 0x2000.10, PD3's at 0x2000.18. -/
def refEntry (n : Fin 4) (k : Nat) : Nat := (if n = 3 then 0x18 else 0x10) + k

/-- PDn_CFG.SRC (R56). -/
def State.refSrc (s : State) (n : Fin 4) : Nat := s.dU 0x2000 (refEntry n 0)

/-- INDEX_PHASE. -/
def State.refIndexPhase (s : State) (n : Fin 4) : Nat := s.dU 0x2000 (refEntry n 2)

/-- How many edge intervals the velocity is measured over; 0 acts as 1 (R59). -/
def State.velEdges (s : State) (n : Fin 4) : Nat := max 1 (s.dU 0x2000 (refEntry n 4))

/-- The travel between edges, in units of 2^-24: 2^32 / CPR for a quadrature count, a whole or half revolution for the
others (R56, R57). -/
def State.refIncr (s : State) (n : Fin 4) : Nat :=
  match s.refSrc n with
  | 1 => 2 ^ 56 / max 1 (s.dU 0x2000 (refEntry n 1))
  | 2 => 2 ^ 56
  | 3 => 2 ^ 55
  | _ => 0

/-- The measured speed, in 8.24 units a crystal tick: the travel of the last VEL_EDGES intervals over their time, which
counts sixteenths of a tick (R59). -/
def State.measured (s : State) (n : Fin 4) : Nat :=
  let d := vget s.ptb.pd n
  let is := d.intervals.take (s.velEdges n)
  if is.sum = 0 then 0 else is.length * s.refIncr n * 16 / is.sum

/-- The velocity a reference reports: 0 when stalled or unmeasured, the falling bound once the wait exceeds the last interval
(R60, R62), signed by the direction. -/
def State.refVel (s : State) (n : Fin 4) : Int :=
  let d := vget s.ptb.pd n
  let v :=
    if d.stalled then 0
    else match d.intervals with
      | [] => 0
      | i :: _ => if i < d.sinceEdge then min (s.measured n) (s.refIncr n * 16 / d.sinceEdge) else s.measured n
  if d.backward then -(v : Int) else v

/-- Where interpolation puts a reference `t` sixteenths of a tick after its last edge: at the measured speed, stopping one
unit short of the next edge (R59). -/
def State.interpolated (s : State) (n : Fin 4) : Int :=
  let d := vget s.ptb.pd n
  let far := min (s.measured n * d.sinceEdge / 16) (s.refIncr n - 2 ^ 24)
  if d.backward then (d.edgePos : Int) - far else (d.edgePos : Int) + far

/-- The signed distance from one position to another, the shorter way round. -/
def shortWay (a b : Nat) : Int := signed 84 (unsigned 84 ((b : Int) - a))

/-- One tick of a reference, of `w` sixteenths of a crystal tick: the wait grows and the phase interpolates, but not before the
second edge, nor after a reversal, nor when stalled (R59, R61, R62). A source that is off holds its phase (R56). -/
def refTick (n : Fin 4) (w : Nat) (s : State) : State :=
  if s.refSrc n = 0 then s else
  let s := pdMod n (fun d => { d with sinceEdge := d.sinceEdge + w }) s
  let d := vget s.ptb.pd n
  if d.stalled || d.intervals.isEmpty then s else travel n (shortWay d.pos (unsigned 84 (s.interpolated n))) s

/-- An accepted edge: the phase takes the edge's own value as ordinary travel, and the interval joins the measurement; the
first edge after a stall restarts it, clears STALLED, sets RESUME_EV and fires PTB_RESUMEn (R59, R62). -/
def acceptEdge (n : Fin 4) (target : Int) (s : State) : State :=
  let d := vget s.ptb.pd n
  let p := unsigned 84 target
  let s := travel n (shortWay d.pos p) s
  let s := pdMod n (fun x => { x with
    edgePos := p, sinceEdge := 0, edges := if d.stalled then 1 else d.edges + 1,
    intervals := if d.stalled ∨ d.edges = 0 then [] else (d.sinceEdge :: d.intervals).take 15,
    stalled := false, resumeEv := x.resumeEv || d.stalled }) s
  let s := if d.stalled then fire (0x14 + n.1) s else s
  if n = 2 then
    let ok := match (vget s.ptb.pd 2).intervals with
      | [] => false
      | i :: _ =>
        let r : Int := (s.dU 0x2000 5 * s.refIncr 2 * 16 / max 1 i : Nat)
        let nom : Int := s.ptb.nominal1
        let sl : Int := s.dU 0x2000 7
        decide (roundDiv (nom * (1000000 - sl)) 1000000 ≤ r) && decide (r ≤ roundDiv (nom * (1000000 + sl)) 1000000) &&
          !(vget s.ptb.pd 2).backward
    ptbMod (fun q => { q with rateAtEdge := if q.gear = .flywheel then q.rateAtEdge else q.rate1, inBand := if ok then q.inBand + 1 else 0 }) s
  else s

/-- The two-bit Gray position of the levels of _A and _B. -/
def gray (a b : Bool) : Nat := if a then (if b then 2 else 1) else (if b then 3 else 0)

/-- PD2 for reference A, PD3 for reference B. -/
def refDom (refB : Bool) : Fin 4 := if refB then 3 else 2

/-- QUAD_TRANSITION, with the levels after it: both changed at once is dropped with QERR; else the count moves by one and the phase
goes to it; a transition the other way reverses the domain and stops interpolation until two edges have arrived (R57,
R61). -/
def quadTransition (refB a b : Bool) (s : State) : State :=
  let n := refDom refB
  let d := vget s.ptb.pd n
  if s.refSrc n ≠ 1 ∨ !s.pcc.vio ∨ (d.a = a ∧ d.b = b) then s
  else if d.a ≠ a ∧ d.b ≠ b then pdMod n (fun x => { x with qerr := true, a := a, b := b }) s
  else
    let back := (gray a b + 4 - gray d.a d.b) % 4 == 3
    let step : Int := if back then -(s.refIncr n : Int) else s.refIncr n
    let s := pdMod n (fun x => { x with a := a, b := b }) s
    if back != d.backward then
      let s := pdMod n (fun x => { x with backward := back, intervals := [], edges := 0 }) s
      acceptEdge n ((d.edgePos : Int) + step) s
    else acceptEdge n ((d.edgePos : Int) + step) s

def execQuadTransition (refB a b : Bool) (s : State) : Out := .next (quadTransition refB a b s)

/-- INDEX_EDGE: a rising _Z edge while the count moves forward: INDEX_ERR holds the difference in counts, and a non-zero difference is
applied as a step to INDEX_PHASE (R58). -/
def indexEdge (refB : Bool) (s : State) : State :=
  let n := refDom refB
  let d := vget s.ptb.pd n
  if s.refSrc n ≠ 1 ∨ !s.pcc.vio ∨ d.backward then s else
  let err := signed 56 (unsigned 56 ((d.edgePos : Int) - (s.refIndexPhase n * 2 ^ 24 : Nat)))
  let s := pdMod n (fun x => { x with indexEv := true, indexErr := BitVec.ofInt 16 (roundDiv err (max 1 (s.refIncr n))) }) s
  if err = 0 then s else
  let goal := unsigned 84 ((d.edgePos : Int) - err)
  let s := pdMod n (fun x => { x with edgePos := goal, sinceEdge := 0 }) s
  pdMod n (fun x => x.at_ goal) (stepBy n (shortWay (d.pos / 2 ^ 24 * 2 ^ 24) (goal / 2 ^ 24 * 2 ^ 24) / 2 ^ 24) s)

def execIndexEdge (refB : Bool) (s : State) : Out := .next (indexEdge refB s)

/-- REF_EDGE: a _Z edge of a one-edge or two-edge source sets the phase to INDEX_PHASE, half a revolution on for a falling edge of
SRC 3; with GLITCH set, an edge within a quarter of the last period, or a first edge within STALL_MS of a stall, is
rejected (R56, R63). -/
def refEdge (refB rising : Bool) (s : State) : State :=
  let n := refDom refB
  let d := vget s.ptb.pd n
  let src := s.refSrc n
  if !s.pcc.vio ∨ (src ≠ 2 ∧ src ≠ 3) ∨ (src = 2 ∧ !rising) then s else
  let early := match d.intervals with
    | [] => false
    | i :: _ => decide (4 * d.sinceEdge < (if src = 3 then 2 * i else i))
  let soon := d.stalled && decide (d.sinceEdge < s.dU 0x2000 (refEntry n 3) * 32000 * 16)
  if s.dU 0x2000 (refEntry n 5) = 1 && ((!d.stalled && early) || soon) then pdMod n (fun x => { x with glitch := true }) s else
  let want : Nat := (s.refIndexPhase n + (if rising then 0 else 2 ^ 31)) % 2 ^ 32 * 2 ^ 24
  let ahead : Nat := (want + 2 ^ 56 - d.edgePos % 2 ^ 56 - 1) % 2 ^ 56 + 1
  acceptEdge n ((d.edgePos : Int) + (if d.edges = 0 then (want : Int) - (d.edgePos % 2 ^ 56 : Nat) else (ahead : Int))) s

def execRefEdge (refB rising : Bool) (s : State) : Out := .next (refEdge refB rising s)

/-- DOMAIN_STALL: no edge for STALL_MS: the phase holds, the velocity reads 0, STALLED and STALL_EV are set and PTB_STALLn fires; the
wait is counted anew for the glitch filter (R62, R63). -/
def domainStall (refB : Bool) (s : State) : State :=
  let n := refDom refB
  let d := vget s.ptb.pd n
  if s.refSrc n = 0 ∨ d.stalled then s else
  fire (0x10 + n.1) (pdMod n (fun x => { x with
    stalled := true, stallEv := true, intervals := [], edges := 0, sinceEdge := 0 }) s)

def execDomainStall (refB : Bool) (s : State) : Out := .next (domainStall refB s)

/-! ### The tick (R53) -/

/-- PD1's rate in force: the source's own (R64, R69, R72). -/
def State.rate1 (s : State) : Nat := s.ptb.rate1

/-- What one tick of the clock in use adds to PD0 or PD1 at a rate: the rate itself on the crystal; on the 32.768 kHz clock
exactly 976.5625 times it, corrected by LF_TRIM, with what is left below the fraction carried on (R53). -/
def lfAdvance (rate : Nat) (trim : Int) (rem : Nat) : Nat × Nat :=
  let num := rate * 15625 * (1000000000 + trim).toNat + rem
  (num / 16000000000, num % 16000000000)

/-- A self-driven domain moved by one tick. -/
def driveTick (n : Fin 4) (rate : Nat) (s : State) : State :=
  if s.ptb.lf then
    let (q, r) := lfAdvance rate s.ptb.lfTrim (vget s.ptb.pd n).lfRem
    travel n q (pdMod n (fun d => { d with lfRem := r }) s)
  else travel n rate s

/-- PTB_TICK: each tick of the crystal, or of the 32.768 kHz clock while the crystal is stopped, advances PD0 and PD1 and lets PD2 and
PD3 interpolate (R53, R59). -/
def ptbTick (s : State) : State :=
  let w := if s.ptb.lf then 15625 else 16
  let s := driveTick 0 (rateFor (s.dU 0x2000 1)) s
  let s := driveTick 1 s.rate1 s
  refTick 3 w (refTick 2 w s)

def execPtbTick (s : State) : Out := .next (ptbTick s)

/-- PTB_CLOCK_SWITCH: only the clock changes; no phase steps (R53). -/
def execPtbClockSwitch (lf : Bool) (s : State) : Out :=
  .next (ptbMod (fun p => { p with lf := lf }) { s with lnk := { s.lnk with lfSince := s.lnk.lfSince || lf } })

/-- LF_TRIM_MEASURE: after the crystal has run for 1 s the measurement is kept, within 500,000 ppb either way (R54). -/
def execLfTrimMeasure (ppb : Int) (s : State) : Out :=
  .next (if s.ptb.lf || !s.pcc.xoRun then s else ptbMod (fun p => { p with lfTrim := clampI (-500000) 500000 ppb }) s)

/-! ### The network cycle (R69) -/

/-- A position of the cycle count is still ahead of the present one, modulo 2^28 (R81). -/
def cycleAhead (now at_ : Nat) : Bool := decide (0 < (at_ + 2 ^ 28 - now) % 2 ^ 28) && decide ((at_ + 2 ^ 28 - now) % 2 ^ 28 < 2 ^ 27)

/-- A write of NET_CYCLE or NET_CYCLE_AT: refused with LATE when the cycle it names, or the one held, has begun; else the pair
held is the pending change (R69). -/
def netCycleWrite (at_ : Bool) (v : Nat) (s : State) : Status × State :=
  let named := if at_ then v else s.dU 0x2000 3
  if !cycleAhead s.cycle named then (stLate, s) else (stOk, ptbMod (fun p => { p with cyclePending := true }) s)

/-- A rate that keeps its ratio to nominal over a change of the nominal rate (R69). -/
def scaleRate (r newNom oldNom : Nat) : Nat := if oldNom = 0 then newNom else (2 * r * newNom + oldNom) / (2 * oldNom)

/-- NET_CYCLE_CHANGE: at phase 0 of the named cycle the new nominal takes effect and every rate of PD1 is scaled; the phase does not step
(R69). -/
def netCycleChange (s : State) : State :=
  if !s.ptb.cyclePending || cycleAhead s.cycle (s.dU 0x2000 3) then s else
  let us := s.dU 0x2000 2
  let n := rateFor us
  ptbMod (fun p => { p with
    cyclePending := false, cycleUs := us, nominal1 := n, rate1 := scaleRate p.rate1 n p.nominal1,
    rateAtEdge := scaleRate p.rateAtEdge n p.nominal1 }) s

def execNetCycleChange (s : State) : Out := .next (netCycleChange s)

/-! ### Gearing (R70 to R73) -/

/-- The producers of a change of gearing state (R72, R398). -/
def gearProducer (g : GearState) : Option Nat :=
  match g with
  | .notGeared => none
  | .locked => some 0x18
  | .limited => some 0x19
  | .flywheel => some 0x1A

/-- Gearing enters a state; every change fires its producer (R72). -/
def gearEnter (g : GearState) (s : State) : State :=
  if s.ptb.gear = g then s else
  let s := ptbMod (fun p => { p with gear := g }) s
  match gearProducer g with
  | none => s
  | some p => fire p s

/-- An R72 condition for FLYWHEEL holds: PD2 too slow, reversed, stalled or off. -/
def flywheelDue (s : State) : Bool :=
  let d := vget s.ptb.pd 2
  s.refSrc 2 == 0 || d.stalled || d.backward ||
    decide (2 * (s.dU 0x2000 5 : Int) * s.refVel 2 < (s.ptb.nominal1 : Int))

/-- The band edges of R71. -/
def bandLo (s : State) : Int := roundDiv ((s.ptb.nominal1 : Int) * (1000000 - s.dU 0x2000 7)) 1000000
def bandHi (s : State) : Int := roundDiv ((s.ptb.nominal1 : Int) * (1000000 + s.dU 0x2000 7)) 1000000

/-- The recomputation of PD1's rate (R71). -/
def gearRate (s : State) : State :=
  let p := s.ptb
  let n := s.dU 0x2000 5
  let pd2 := (vget p.pd 2).phase.toNat
  let pd1 := (vget p.pd 1).phase.toNat
  let err := signed 32 (unsigned 32 ((n : Int) * pd2 + p.gearOffset.toNat - pd1))
  let ticks := p.cycleUs * 32
  let tau := max 1 (s.dU 0x2000 8)
  let want := (n : Int) * s.refVel 2 + roundDiv (err * 2 ^ 24) (tau * ticks)
  let stepMax := roundDiv ((s.dU 0x2000 7 : Int) * p.nominal1 * 32768) (1000000 * ticks)
  let want := clampI ((p.rate1 : Int) - stepMax) ((p.rate1 : Int) + stepMax) want
  let rate := clampI (bandLo s) (bandHi s) want
  let s := ptbMod (fun q => { q with rate1 := rate.toNat, gearErr := err }) s
  gearEnter (if rate = bandLo s ∨ rate = bandHi s then .limited else .locked) s

/-- GEAR_ENGAGE: by REBASE the offset makes the error zero and the state is LOCKED; by PULL the offset is kept and the rate
follows R71 (R73). -/
def gearEngage (s : State) : State :=
  let n := s.dU 0x2000 5
  let pd2 := (vget s.ptb.pd 2).phase.toNat
  let pd1 := (vget s.ptb.pd 1).phase.toNat
  if s.dU 0x2000 9 = 0 then
    gearEnter .locked (ptbMod (fun p => { p with gearOffset := BitVec.ofInt 32 ((pd1 : Int) - n * pd2), gearErr := 0 }) s)
  else gearRate (gearEnter .limited s)

/-- GEAR_UPDATE, once every 32,768 crystal ticks: not geared, FLYWHEEL while its conditions hold and until four intervals in a row lie in
the band, else the rate of R71 (R71 to R73). -/
def gearUpdate (s : State) : State :=
  if s.pd1Source ≠ .geared then gearEnter .notGeared s
  else if flywheelDue s then
    gearEnter .flywheel (ptbMod (fun p => { p with rate1 := if p.gear = .flywheel then p.rate1 else p.rateAtEdge, inBand := 0 }) s)
  else if s.ptb.gear = .flywheel ∨ s.ptb.gear = .notGeared then
    if 4 ≤ s.ptb.inBand then gearEngage s else gearEnter .flywheel s
  else gearRate s

def execGearUpdate (s : State) : Out := .next (gearUpdate s)

/-! ### Snapshots (R85) -/

/-- PDn_VEL: the signed velocity of a domain, in 8.24. -/
def State.velWord (s : State) (n : Fin 4) : BitVec 32 :=
  match n.1 with
  | 0 => BitVec.ofNat 32 (rateFor (s.dU 0x2000 1))
  | 1 => BitVec.ofNat 32 s.rate1
  | _ => BitVec.ofInt 32 (s.refVel n)

/-- PTB_SNAP: all four domains latched in one tick. -/
def ptbSnap (s : State) : State :=
  foldS (fun n t => pdMod n (fun d => { d with snap := some (d.phase, d.rev, s.velWord n) }) t) (fins 4) s

def execPtbSnap (s : State) : Out := .next (ptbSnap s)

/-- The phase that the next read of PDn_PHASE returns. -/
def State.phaseRead (s : State) (n : Fin 4) : BitVec 32 :=
  match (vget s.ptb.pd n).snap with
  | some (p, _, _) => p
  | none => (vget s.ptb.pd n).phase

/-- PD_PHASE_READ: the domain's count and velocity go into the shadows, from the snap if one waits (R85). -/
def pdPhaseRead (n : Fin 4) (s : State) : State :=
  let v := s.velWord n
  pdMod n (fun d => match d.snap with
    | some (_, c, v') => { d with snap := none, cycleShadow := c, velShadow := v', shadowed := true, velHeld := true }
    | none => { d with cycleShadow := d.rev, velShadow := v, shadowed := true, velHeld := true }) s

def execPdPhaseRead (n : Fin 4) (s : State) : Out := .next (pdPhaseRead n s)

/-! ### Root start and source changes (R64 to R67) -/

/-- C of R67. -/
def startCycle (s : State) : Nat :=
  let want := s.dU 0x2000 0x0B
  let p := (s.bkp.cycle.toNat + 2) % 2 ^ 28
  if !s.bkp.cycleValid then want else if (want + 2 ^ 28 - p) % 2 ^ 28 < 2 ^ 27 then want else p

/-- ROOT_ROLE_START: PD1 starts at phase 0 with cycle count C, which 0x2000.0C reports and BKP_CYCLE takes (R65, R67). -/
def rootRoleStart (s : State) : State :=
  let c := startCycle s
  let s := pdMod 1 (fun d => { d with phase := 0, frac := 0, rev := BitVec.ofNat 28 c }) s
  bkpCycleStore (ptbMod (fun p => { p with startedCycle := BitVec.ofNat 28 c }) s)

/-- A change of PD1's source starts the new source from the present phase and rate; FREE runs at the nominal rate, and GEARED
begins in FLYWHEEL (R64, R65). -/
def pd1SourceChanged (s : State) : State :=
  match s.pd1Source with
  | .free => gearEnter .notGeared (ptbMod (fun p => { p with rate1 := p.nominal1 }) s)
  | .geared => gearEnter .flywheel (ptbMod (fun p => { p with
      rateAtEdge := p.rate1, inBand := 0, gearOffset := if s.dU 0x2000 9 = 1 then BitVec.ofNat 32 (s.dU 0x2000 6) else p.gearOffset }) s)
  | _ => gearEnter .notGeared s

end Sys2Proof.Machine
end

