-- ==== Sys2Proof/Machine/Spares.lean ====
section
/-! DEFINITION. The spare classes, their grades, and the record of health events (R9, R479, R482, R483). -/

namespace Sys2Proof.Machine

/-- Spares a class has from the factory (R482), by class number 1 to 9. -/
def classSpares (k : Nat) : Nat := ([1, 64, 64, 256, 48, 4, 1, 2, 1] : List Nat).getD (k - 1) 0

/-- Spares left in a class: SPARES_LEFT. -/
def State.sparesLeft (s : State) (k : Nat) : Nat := s.dU 0x3600 (0x10 + k)

/-- The grade of a class (R483). -/
def State.grade (s : State) (k : Nat) : Nat := s.dU 0x3600 k

/-- HMON_GRADEk follows the entries. -/
def syncGrade (k : Nat) (s : State) : State :=
  s.setRegN (0x400A0080 + 4 * k) (s.grade k + 256 * s.sparesLeft k)

/-- A class's grade raised to `g`: it never falls, and a change sends a NOTIFY (R483). -/
def raiseGrade (k g : Nat) (s : State) : State :=
  if g ≤ s.grade k then syncGrade k s
  else ((syncGrade k (s.dPut 0x3600 k g)).notify 0x3600 k stOk [BitVec.ofNat 8 g])

/-- In classes 4 and 5, some macro has no spare row left. -/
def State.someMacroFull (s : State) (k : Nat) : Bool :=
  s.mem.rowSpare.any (fun (m, n) => decide (2 ≤ n) && (if k = 4 then decide (m < 128) else decide (128 ≤ m)))

/-- The grade the consumption of a class calls for (R483). -/
def State.usedGrade (s : State) (k : Nat) : Nat :=
  let left := s.sparesLeft k
  if k = 4 ∨ k = 5 then (if s.someMacroFull k || decide (4 * left < classSpares k) then 2 else 1)
  else if left = 0 then 3 else if 4 * left < classSpares k then 2 else 1

/-- One spare of a class is consumed (R9, R482). -/
def spareTaken (k : Nat) (s : State) : State :=
  let s := s.dPut 0x3600 (0x10 + k) (s.sparesLeft k - 1)
  let s := s.dPut 0x3600 (0x20 + k) (satAdd 0xFFFF (s.dU 0x3600 (0x20 + k)) 1)
  raiseGrade k (s.usedGrade k) s

/-- A failure in a class with no spare left: reported with SPARE_EXHAUSTED (R9); `g` is the grade it calls for. -/
def spareMissing (k g : Nat) (s : State) : State := raiseGrade k g s

/-- A 5-byte slot number (R479). -/
def slotBytes (s : State) : List Byte := leBytes 5 s.absSlot

/-- A detector's event is logged: 16 bytes at the head of HEALTH_EVENTS, the last 16 kept; the count and HMON_EVENT (R479,
R513). -/
def healthEvent (id unit act : Nat) (injected : Bool) (s : State) : State :=
  let r := slotBytes s ++ [BitVec.ofNat 8 id, BitVec.ofNat 8 unit, BitVec.ofNat 8 act, BitVec.ofNat 8 (b2n injected)] ++ List.replicate 7 0
  let s := s.dSet 0x3600 0x80 ((r ++ s.dGet 0x3600 0x80).take 256)
  fire 0xB1 (s.bump 0x400A00C0)

end Sys2Proof.Machine
end

