-- ==== Sys2Proof/Machine/Mem.lean ====
section
/-! DEFINITION. Storage: the address map (R364), the bytes, and the errors they may hold (R365 to R369, R381, R382). -/

namespace Sys2Proof.Machine

/-- What an address that nothing has written reads as: erased flash reads all ones (R369); cleared SRAM reads 0 (R366, R431);
the rest reads 0 (log entry 4). -/
def memDefault (a : Nat) : Byte :=
  if (0x10000000 ≤ a ∧ a < 0x10800000) ∨ (0x18000000 ≤ a ∧ a < 0x18010000) ∨ (0x18040000 ≤ a ∧ a < 0x180C0000) then 0xFF else 0

/-- One byte. -/
def Memory.read (m : List Host.Cell) (a : Nat) : Byte := (alGet m a).getD (memDefault a)

/-- One byte written; the canonical form stays: keys rise, and no entry equals what its address reads as unlisted. -/
def Memory.write (m : List Host.Cell) (a : Nat) (b : Byte) : List Host.Cell :=
  if b = memDefault a then alDel m a else alPut m a b

/-- The canonical form. -/
def Memory.wf (m : List Host.Cell) : Bool := alSorted m && m.all (fun c => decide (c.2 ≠ memDefault c.1))

/-- `n` bytes from an address. -/
def Memory.readN (m : List Host.Cell) (a : Nat) : Nat → List Byte
  | 0 => []
  | n + 1 => Memory.read m a :: Memory.readN m (a + 1) n

/-- A byte string written from an address. -/
def Memory.writeN (m : List Host.Cell) (a : Nat) : List Byte → List Host.Cell
  | [] => m
  | b :: bs => Memory.writeN (Memory.write m a b) (a + 1) bs

/-- Every byte of a range put back to what an unlisted address reads as, or to a given value. -/
def Memory.clear (m : List Host.Cell) (lo hi : Nat) : List Host.Cell := m.filter (fun c => !(decide (lo ≤ c.1) && decide (c.1 < hi)))

def State.rd8 (s : State) (a : Nat) : Byte := Memory.read s.mem.cells a

/-- `n` bytes as a little-endian number (R18). -/
def State.rdN (s : State) (a n : Nat) : Nat := leNat (Memory.readN s.mem.cells a n)

def State.setCells (s : State) (m : List Host.Cell) : State := { s with mem := { s.mem with cells := m } }

/-- A number written as `n` little-endian bytes (R18). -/
def State.wrN (s : State) (a n v : Nat) : State := s.setCells (Memory.writeN s.mem.cells a (leBytes n v))

/-- Bytes written from an address. -/
def State.wrBytes (s : State) (a : Nat) (bs : List Byte) : State := s.setCells (Memory.writeN s.mem.cells a bs)

/-- Bytes read from an address. -/
def State.rdBytes (s : State) (a n : Nat) : List Byte := Memory.readN s.mem.cells a n

/-- The areas of the address map (R364, R367). -/
inductive Region where
  | rom | flash (bankB : Bool) | info | keyArea | otp | record | settings | sram | xmem (c : Fin 6) | ymem (c : Fin 6)
  | kzc | ucode (l : Fin 6) | shadow | force | periph | dram (slot : Fin 2) | unmapped
  deriving DecidableEq, Repr

/-- X and Y memories hold 128 KiB in cores 2 and 3 and 32 KiB in the others (R323, R352). -/
def xySize (c : Fin 6) : Nat := if c = 2 ∨ c = 3 then 0x20000 else 0x8000

/-- The area an address lies in, whatever is powered (R364). -/
def regionOf (a : Nat) : Region :=
  if a < 0x18000 then .rom
  else if 0x10000000 ≤ a ∧ a < 0x10400000 then .flash false
  else if 0x10400000 ≤ a ∧ a < 0x10770000 then .flash true
  else if 0x18000000 ≤ a ∧ a < 0x18010000 then (if 0x18004000 ≤ a ∧ a < 0x18008000 then .keyArea else .info)
  else if 0x18010000 ≤ a ∧ a < 0x18011000 then .otp
  else if 0x18018000 ≤ a ∧ a < 0x1801A000 then .record
  else if 0x18040000 ≤ a ∧ a < 0x180C0000 then .settings
  else if 0x20000000 ≤ a ∧ a < 0x20400000 then .sram
  else if 0x21000000 ≤ a ∧ a < 0x21180000 then
    let c : Fin 6 := Fin.ofNat 6 ((a - 0x21000000) / 0x40000)
    let o := (a - 0x21000000) % 0x40000
    if o < xySize c then .xmem c
    else if 0x20000 ≤ o ∧ o < 0x20000 + xySize c then .ymem c else .unmapped
  else if 0x21180000 ≤ a ∧ a < 0x211A0000 then
    (if 0x21190000 ≤ a ∧ a < 0x21193000 then .ucode (Fin.ofNat 6 ((a - 0x21190000) / 0x800)) else .kzc)
  else if 0x30000000 ≤ a ∧ a < 0x3002EE00 then .shadow
  else if 0x30040000 ≤ a ∧ a < 0x3006EE00 then .force
  else if 0x40000000 ≤ a ∧ a < 0x40250000 then .periph
  else if 0x80000000 ≤ a ∧ a < 0x83800000 then .dram 0
  else if 0x83800000 ≤ a ∧ a < 0x87000000 then .dram 1
  else .unmapped

/-- The SRAM domain of a shared-SRAM address (R425): macros 0 and 1, 2 to 31, and the rest. -/
def sramDomain (a : Nat) : Fin 24 :=
  let m := (a - 0x20000000) / 0x8000
  if m < 2 then 8 else if m < 32 then 9 else 10

/-- The area an access reaches: a block whose power domain is not ON, or a powered-down slot, answers nothing (R390, R425, log entry
5). -/
def State.region (s : State) (a : Nat) : Region :=
  match regionOf a with
  | .flash b => if s.isOn dFLASH then .flash b else .unmapped
  | .info => if s.isOn dFLASH then .info else .unmapped
  | .keyArea => if s.isOn dFLASH then .keyArea else .unmapped
  | .record => if s.isOn dFLASH then .record else .unmapped
  | .settings => if s.isOn dFLASH then .settings else .unmapped
  | .sram => if s.isOn (sramDomain a) then .sram else .unmapped
  | .shadow => if s.isOn dCWY then .shadow else .unmapped
  | .force => if s.isOn dCWY then .force else .unmapped
  | .dram k => if s.isOn dDRAM && !(k == 1 && s.mem.slot1Down) then .dram k else .unmapped
  | r => r

/-- Flash banks: ring, image and data in A; staging, data and the information block in B (R367). -/
def bankOf (a : Nat) : Option Bool :=
  match regionOf a with
  | .flash b => some b
  | .info => some true
  | .keyArea => some true
  | .settings => some true
  | _ => none

/-- An operation runs on the flash bank an address lies in: every read of that bank stalls until it ends (R373). -/
def State.flashBusy (s : State) (a : Nat) : Bool :=
  match s.mem.flcOp, bankOf a with
  | some op, some b => bankOf op.addr == some b
  | _, _ => false

/-- The base address of the 8 KiB sector that holds an address. -/
def sectorOf (a : Nat) : Nat := a / 0x2000 * 0x2000

/-- The 32-byte row that holds an SRAM address (R365). -/
def rowOf (a : Nat) : Nat := a / 32 * 32

/-- The macro of an SRAM or core-local row: shared 0 to 127; core-local 128 on, 32 KiB each (R9, R365). -/
def macroOf (a : Nat) : Nat :=
  match regionOf a with
  | .sram => (a - 0x20000000) / 0x8000
  | .xmem c => 128 + (if c.1 < 2 then 2 * c.1 else if c.1 < 4 then 4 + 8 * (c.1 - 2) else 20 + 2 * (c.1 - 4)) +
      (a - 0x21000000) % 0x40000 / 0x8000
  | .ymem c => 128 + (if c.1 < 2 then 2 * c.1 + 1 else if c.1 < 4 then 8 + 8 * (c.1 - 2) else 21 + 2 * (c.1 - 4)) +
      ((a - 0x21000000) % 0x40000 - 0x20000) / 0x8000
  | _ => 0

/-- The 64-byte DRAM block that holds an address (R381). -/
def blockOf (a : Nat) : Nat := a / 64 * 64

/-- A DRAM block is poisoned (R382). -/
def State.poisoned (s : State) (a : Nat) : Bool := s.mem.poison.contains (blockOf a)

def mmod (f : Mem → Mem) (s : State) : State := { s with mem := f s.mem }

/-- Where a byte of the record window is read from: the newest ring sector (R378). -/
def State.recordSrc (s : State) (a : Nat) : Nat := 0x10000000 + 0x2000 * field (s.regN 0x40060054) 3 0 + (a - 0x18018000)

/-- A word holds an uncorrectable error: SRAM by 32-bit word, flash by 128-bit word (R365, R369). -/
def State.wordBad (s : State) (a : Nat) : Bool :=
  match regionOf a with
  | .sram => s.mem.bad.contains (a / 4 * 4)
  | .xmem _ => s.mem.bad.contains (a / 4 * 4)
  | .ymem _ => s.mem.bad.contains (a / 4 * 4)
  | .flash _ => s.mem.bad.contains (a / 16 * 16)
  | .info => s.mem.bad.contains (a / 16 * 16)
  | .settings => s.mem.bad.contains (a / 16 * 16)
  | _ => false

/-- The word unit in which an area is corrected. -/
def eccUnit (a : Nat) : Nat :=
  match regionOf a with
  | .sram => a / 4 * 4 | .xmem _ => a / 4 * 4 | .ymem _ => a / 4 * 4
  | .dram _ => a / 8 * 8
  | _ => a / 16 * 16

/-- The event of an ECC detector for the place of an address: SRAM macro, logical core, bank or rank (R479). -/
def eccEvent (a act : Nat) (s : State) : State :=
  match regionOf a with
  | .sram => healthEvent 5 (macroOf a) act false s
  | .xmem c => healthEvent 6 c.1 act false s
  | .ymem c => healthEvent 6 c.1 act false s
  | .dram k => healthEvent 9 (vget s.mem.slotRank k).1 act false s
  | _ => healthEvent 7 (match bankOf a with | some b => b2n b | none => 1) act false s

/-- A read meets an uncorrectable error: in flash FLC_STAT.UE and the event; a row of SRAM is repaired by SRAM_ROW_REPAIR (R366, R369). -/
def uncorrectable (a : Nat) (s : State) : State :=
  match regionOf a with
  | .flash _ => eccEvent a 0 (s.flag 0x40060024 7)
  | .info => eccEvent a 0 (s.flag 0x40060024 7)
  | .settings => eccEvent a 0 (s.flag 0x40060024 7)
  | _ => s

/-- A single-bit error corrected on a read and counted: against its row in SRAM (R365), in FLC_CE_CNT with REFRESH_DUE at the
limit in flash (R369), in DMC_CE_CNT in DRAM (R381). -/
def countCorrected (a : Nat) (s : State) : State :=
  let s := eccEvent a 1 (mmod (fun m => { m with soft := m.soft.filter (fun x => x != eccUnit a) }) s)
  match regionOf a with
  | .sram => (mmod (fun m => { m with rowCe := alPut m.rowCe (rowOf a) ((alGet m.rowCe (rowOf a)).getD 0 + 1) }) s).dBump 0x3200 0x12
  | .xmem _ => (mmod (fun m => { m with rowCe := alPut m.rowCe (rowOf a) ((alGet m.rowCe (rowOf a)).getD 0 + 1) }) s).dBump 0x3200 0x12
  | .ymem _ => (mmod (fun m => { m with rowCe := alPut m.rowCe (rowOf a) ((alGet m.rowCe (rowOf a)).getD 0 + 1) }) s).dBump 0x3200 0x12
  | .dram _ => (((s.bump 0x40070018).flag 0x40070008 0).dBump 0x3200 0x22).setRegN 0x40070014 a
  | _ =>
    let n := (alGet s.mem.sectorCe (sectorOf a)).getD 0 + 1
    let s := mmod (fun m => { m with sectorCe := alPut m.sectorCe (sectorOf a) n }) s
    let s := (((s.bump 0x40060038).flag 0x40060024 6).dBump 0x3200 4).setRegN 0x4006003C a
    if s.dU 0x3200 8 ≤ n then s.flag 0x40060024 8 else s

/-- A read corrects a single-bit error it meets. -/
def correctOnRead (a : Nat) (s : State) : State := if s.mem.soft.contains (eccUnit a) then countCorrected a s else s

/-- A write mends the word it covers whole: an SRAM word by 4 bytes (R366), a DRAM block only by its 64 bytes (R382). -/
def mendOnWrite (a n : Nat) (s : State) : State :=
  let s := if 4 ≤ n then mmod (fun m => { m with bad := m.bad.filter (fun x => !(decide (a ≤ x) && decide (x + 4 ≤ a + n) && decide (0x20000000 ≤ x))) }) s else s
  if 64 ≤ n then mmod (fun m => { m with poison := m.poison.filter (fun x => !(decide (a ≤ x) && decide (x + 64 ≤ a + n))) }) s else s

/-- DMC_POISON_CNT and its entry follow the poisoned blocks (R382). -/
def syncPoison (s : State) : State := (s.setRegN 0x40070024 s.mem.poison.length).dPut 0x3200 0x25 s.mem.poison.length

/-- Any reservation on a block that another master writes ends (R333). `by` is the writing physical core, 6 for any other
master. -/
def breakReservations (by_ a n : Nat) (s : State) : State :=
  foldS (fun (i : Fin 6) s =>
    match (vget s.kz.phys i).resv with
    | some b =>
      if i.1 ≠ by_ ∧ b < a + n ∧ a < b + 32 then
        { s with kz := { s.kz with phys := vmod s.kz.phys i (fun k => { k with resv := none }) } }
      else s
    | none => s) (fins 6) s

/-- A master that is not a core writes bytes. -/
def State.dmaWrite (s : State) (a : Nat) (bs : List Byte) : State :=
  breakReservations 6 a bs.length (mendOnWrite a bs.length (s.wrBytes a bs))

end Sys2Proof.Machine
end

