-- ==== Sys2Proof/Machine/Wave.lean ====
section
/-! DEFINITION. The air interface: plans, headers, seeds, chips, the channel code and the interleaver (R87 to R114), the channel mask
(R90), the waveform tests (R116), and the regulatory buckets' check (R239, R240, R273, R274). -/

namespace Sys2Proof.Machine

/-! ### Plans (R87, R88) -/

/-- PLAN_CHANNELS of a plan. -/
def planK (p : Nat) : Nat := ([0, 128, 35, 8, 10, 65] : List Nat).getD p 0

/-- F0 of a plan in kHz. -/
def planF0 (p : Nat) : Nat := ([0, 902100, 863100, 433200, 865100, 915100] : List Nat).getD p 0

/-- A channel that a plan lets the device use: in the plan, and not 28, 31 or 33 of plan 2 (R88). -/
def usable (p n : Nat) : Bool := decide (n < planK p) && !(p == 2 && (n == 28 || n == 31 || n == 33))

/-- The sub-band of a channel, 0 to 5 (R88). -/
def subBand (p n : Nat) : Fin 6 :=
  if p ≠ 2 then 0 else if n < 10 then 0 else if n < 25 then 1 else if n < 28 then 2 else if n < 31 then 3 else if n < 33 then 4 else 5

def State.plan (s : State) : Nat := s.dU 0x2200 1

/-- Bit n of a channel mask: byte n / 8, bit n mod 8 (R115). -/
def maskBit (m : List Byte) (n : Nat) : Bool := (m.getD (n / 8) 0).getLsbD (n % 8)

/-- The mask of all usable channels of a plan. -/
def planMask (p : Nat) : List Byte :=
  (List.range 16).map (fun i => (List.range 8).foldl (fun (b : Byte) j => if usable p (8 * i + j) then b ||| (1#8 <<< j) else b) 0)

/-- A channel that the mask in force and the plan let the device use (R90). -/
def State.channelOpen (s : State) (n : Nat) : Bool := usable s.plan n && maskBit s.wave.mask n

def waveMod (f : Wave → Wave) (s : State) : State := { s with wave := f s.wave }

/-! ### The PHY header (R102, R103) -/

/-- The fields of a PHY header. -/
structure Hdr where
  type  : Nat
  ack   : Bool := false
  retry : Bool := false
  net   : Nat
  tx    : Nat
  rx    : Nat
  slotLow : Nat
  len   : Nat := 0
  zsel  : Nat := 0
  rate  : Nat := 0
  epochLow : Nat := 0
  power : Nat := 0
  fb    : Nat := 0x80
  deriving DecidableEq, Repr

/-- A field appended, most significant bit first (R101). -/
def packF (acc : Nat) (w v : Nat) : Nat := acc * 2 ^ w + v % 2 ^ w

/-- The 112 header bits as a number, bit 0 first sent the most significant (R102). -/
def Hdr.word (h : Hdr) : Nat :=
  [(2, 0), (4, h.type), (1, b2n h.ack), (1, b2n h.retry), (16, h.net), (18, h.tx), (18, h.rx), (8, h.slotLow), (8, h.len),
    (2, h.zsel), (2, h.rate), (4, h.epochLow), (6, h.power), (8, h.fb), (14, 0)].foldl (fun a (p : Nat × Nat) => packF a p.1 p.2) 0

/-- The 14 header bytes as sent. -/
def Hdr.bytes (h : Hdr) : List Byte := beBytes 14 h.word

/-- Header bits i to i + w − 1, in sending order. -/
def hdrField (b : List Byte) (i w : Nat) : Nat := beNat (b.take 14) / 2 ^ (112 - i - w) % 2 ^ w

/-- The fields of fourteen received header bytes. -/
def Hdr.ofBytes (b : List Byte) : Hdr :=
  { type := hdrField b 2 4, ack := hdrField b 6 1 == 1, retry := hdrField b 7 1 == 1, net := hdrField b 8 16, tx := hdrField b 24 18,
    rx := hdrField b 42 18, slotLow := hdrField b 60 8, len := hdrField b 68 8, zsel := hdrField b 76 2, rate := hdrField b 78 2,
    epochLow := hdrField b 80 4, power := hdrField b 84 6, fb := hdrField b 90 8 }

/-- CRC-16 of R103: 0x1021, initial value all ones, no reflection, no final XOR. -/
def crc16Bit (r : Nat) : Nat := if r < 0x8000 then r * 2 else (r * 2 % 0x10000) ^^^ 0x1021
def crc16 (bs : List Byte) : Nat := bs.foldl (fun r b => iter crc16Bit 8 (r ^^^ (b.toNat * 256))) 0xFFFF

/-- LEN allowed for a ZSEL (R105). -/
def lenLimit (zsel : Nat) : Nat := if zsel = 0 then 0 else if zsel = 1 then 48 else 240

/-- Z of a ZSEL (R102). -/
def zOf (zsel : Nat) : Nat := if zsel = 0 then 16 else if zsel = 1 then 64 else 256

/-- The smallest ZSEL that holds a payload (R105). -/
def zFor (len : Nat) : Nat := if len = 0 then 0 else if len ≤ 48 then 1 else 2

/-- A received header is discarded before any payload is despread (R104). -/
def headerBad (net : Nat) (b : List Byte) (crc : Nat) : Bool :=
  let h := Hdr.ofBytes b
  crc != crc16 (b.take 14) || hdrField b 0 2 != 0 || decide (3 < h.type) || h.zsel == 3 || h.rate == 3 || h.net != net || h.tx == h.rx ||
  h.tx == 0x3FFFF || decide (lenLimit h.zsel < h.len)

/-- The link header (R106) as eight bytes. -/
def linkHeader (seq source dest hops port : Nat) : List Byte :=
  beBytes 8 ([(16, seq), (18, source), (18, dest), (4, hops), (8, port)].foldl (fun a (p : Nat × Nat) => packF a p.1 p.2) 0)

/-! ### Seeds and chips (R95, R96) -/

/-- Spreading factor of M. -/
def sfOf (m : Nat) : Nat := 8 * 2 ^ m

/-- Seed of a segment: T is 0 in the head and S mod 32,767 in the payload (R96). -/
def seed (net ch m t : Nat) : Nat := (net + 693 * ch + 467 * m + t) % 32767 + 1

/-- One step of the recurrence a(i+15) = a(i+1) XOR a(i), on the next fifteen bits held with a_i in bit 0 (R95). -/
def chipStep (r : Nat) : Nat := r / 2 + (r % 2 + r / 2 % 2) % 2 * 2 ^ 14

/-- The first `n` chip bits of a seed (R95). -/
def chips : Nat → Nat → List Bool
  | 0, _ => []
  | n + 1, r => (r % 2 == 1) :: chips n (chipStep r)

/-! ### The channel code (R110 to R114) -/

/-- The shift table of R111 without its parity columns; none for no edge. -/
def shiftTable : List (List (Option Nat)) :=
  let n : Option Nat := none
  [[some 0, some 87, some 193, some 41, some 150, some 12, some 226, some 109],
   [some 174, some 33, some 58, n, some 201, some 97, n, some 140],
   [some 66, n, some 245, some 19, n, some 183, some 71, some 8],
   [n, some 122, n, some 230, some 55, n, some 164, some 199],
   [some 211, n, n, some 90, n, n, some 37, n],
   [n, some 16, n, n, some 132, n, n, some 247],
   [n, n, some 103, n, n, some 219, n, some 62],
   [n, some 188, n, some 141, n, some 29, n, n],
   [some 7, n, n, n, some 96, n, n, n],
   [n, some 235, n, n, n, some 154, n, n],
   [n, n, some 170, n, n, n, some 213, n],
   [n, n, n, some 49, n, n, n, some 117],
   [some 128, n, n, n, n, some 61, n, n],
   [n, some 94, n, n, n, n, some 9, n],
   [n, n, some 23, n, n, n, n, some 178],
   [n, n, n, some 252, some 84, n, n, n]]

def xorBits (a b : List Bool) : List Bool := List.zipWith xor a b

/-- A block read from bit k on, cyclically. -/
def rotBits (k : Nat) (l : List Bool) : List Bool := l.drop k ++ l.take k

/-- The XOR of the information blocks of one row, each rotated by its shift modulo Z (R111). -/
def rowSum (z : Nat) : List (Option Nat) → List Bool → List Bool
  | [], _ => List.replicate z false
  | none :: r, u => rowSum z r (u.drop z)
  | some k :: r, u => xorBits (rotBits (k % z) (u.take z)) (rowSum z r (u.drop z))

/-- The parity blocks p_0 on, from the block before (R111). -/
def parity (z : Nat) (u : List Bool) : List (List (Option Nat)) → List Bool → List Bool
  | [], _ => []
  | row :: rows, prev =>
    let p := xorBits (rowSum z row u) prev
    p ++ parity z u rows p

/-- Parity blocks sent at a RATE (R112). -/
def parityBlocks (rate : Nat) : Nat := if rate = 0 then 16 else if rate = 1 then 8 else 4

/-- The codeword of an information block of 8Z bits (R110 to R112). -/
def codeword (z rate : Nat) (u : List Bool) : List Bool :=
  u ++ parity z u (shiftTable.take (parityBlocks rate)) (List.replicate z false)

/-- The columns of the interleaver in reading order (R113). -/
def columns : List Nat := [0, 8, 4, 12, 2, 10, 6, 14, 1, 9, 5, 13, 3, 11, 7, 15]

/-- Every sixteenth bit from the first. -/
def every16 : Nat → List Bool → List Bool
  | 0, _ => []
  | n + 1, l => match l with
    | [] => []
    | b :: _ => b :: every16 n (l.drop 16)

/-- The interleaver: written in rows of 16, read by columns (R113). -/
def interleave (c : List Bool) : List Bool := columns.flatMap (fun k => every16 (c.length / 16) (c.drop k))

/-- Bits of a byte string, most significant first (R101). -/
def bitsOf (bs : List Byte) : List Bool := bs.flatMap (fun b => (List.range 8).map (fun i => b.getLsbD (7 - i)))

/-- Bytes of a bit string, the first bit the most significant; whole bytes (R116). -/
def bytesOfBits : Nat → List Bool → List Byte
  | 0, _ => []
  | n + 1, l => BitVec.ofNat 8 ((l.take 8).foldl (fun a b => a * 2 + b2n b) 0) :: bytesOfBits n (l.drop 8)

/-- The interleaved header codeword of fourteen header bytes (R103, R113). -/
def headerCode (h : List Byte) : List Bool := interleave (codeword 16 0 (bitsOf (h ++ beBytes 2 (crc16 h))))

/-- The interleaved payload codeword of an information block (R110 to R113). -/
def payloadCode (zsel rate : Nat) (block : List Byte) : List Bool := interleave (codeword (zOf zsel) rate (bitsOf block))

/-- The phase step of two bits (R93). -/
def dqpsk (a b : Bool) : Nat := if a then (if b then 2 else 3) else (if b then 1 else 0)

/-- Phase indices of a bit string after a previous index (R93, R114). -/
def phases : Nat → List Bool → List Nat
  | q, a :: b :: r => (q + dqpsk a b) % 4 :: phases ((q + dqpsk a b) % 4) r
  | _, _ => []

/-- Preamble and sync phase indices of M (R100). -/
def preamble (m : Nat) : List Nat :=
  ([[0, 0, 0, 0, 0, 0, 0, 0, 1, 3], [0, 2, 0, 2, 0, 2, 0, 2, 3, 1], [0, 0, 2, 2, 0, 0, 2, 2, 1, 1], [0, 0, 0, 0, 2, 2, 2, 2, 3, 3],
    [0, 2, 2, 0, 0, 2, 2, 0, 1, 3], [0, 0, 2, 0, 0, 2, 0, 0, 3, 1]] : List (List Nat)).getD m []

/-- The phase indices of every symbol of a frame (R99, R100, R114). -/
def frameSymbols (m zsel rate : Nat) (hdr block : List Byte) : List Nat :=
  let p := preamble m
  p ++ phases (p.getD 9 0) (headerCode hdr ++ payloadCode zsel rate block)

/-- Symbols of a frame: 10, 192 and the payload's (R100). -/
def frameLen (zsel rate : Nat) : Nat := 202 + (8 + parityBlocks rate) * zOf zsel / 2

/-- Airtime in quarters of a µs: first chip to last chip (R100). -/
def airQuarter (m zsel rate : Nat) : Nat := frameLen zsel rate * sfOf m * 25

/-- Airtime charged to the buckets, in 2^-16 µs: the frame and 16 µs for the ramps (R239). -/
def airCharge (m zsel rate : Nat) : Nat := airQuarter m zsel rate * 16384 + 16 * 65536

/-! ### The buckets (R239, R240, R273, R274) -/

def bktMod (f : Buckets → Buckets) (s : State) : State := { s with bkt := f s.bkt }

/-- Capacity of a duty bucket: half the limit (R240, R273). -/
def dutyCap (s : State) (k : Fin 6) : Nat := s.dU 0x2300 (0x20 + k.1) * s.dU 0x2300 0x28 * 50 * 65536

/-- Capacity of a dwell bucket. -/
def dwellCap (s : State) : Nat := s.dU 0x2300 0x29 * 500 * 65536

/-- Refill of a bucket of capacity `c` in 1.024 ms for a window of `w` ms. -/
def refillTick (c w : Nat) : Nat := c * 1024 / (1000 * max 1 w)

/-- SHAPE settings of queue i: BURST µs and RATE µs per second (R272). -/
def shapeBurst (s : State) (i : Fin 20) : Nat := s.dU 0x2404 (i.1 + 1)
def shapeRate (s : State) (i : Fin 20) : Nat := s.dU 0x2403 (i.1 + 1)

/-- BUCKET_REFILL_TICK: `n` ticks of 1.024 ms of PD0 travel have passed since the last refill, more than one only after the bank was
unclocked (R273). Parameters changed since then take effect now: tokens are clamped to the new capacity (R274). -/
def bucketRefill (n : Nat) (s : State) : State :=
  if !s.isOn dRADIO then s else
  let dw := dwellCap s
  bktMod (fun b => { b with
    duty := Vector.ofFn (fun k => min (dutyCap s k) (vget b.duty k + n * refillTick (dutyCap s k) (s.dU 0x2300 0x28 * 1000)))
    dwell := b.dwell.map (fun t => min dw (t + n * refillTick dw (s.dU 0x2300 0x2A)))
    shape := Vector.ofFn (fun i => min (shapeBurst s i * 65536) (vget b.shape i + n * (shapeRate s i * 65536 * 1024 / 1000000)))
    dutyLim := Vector.ofFn (fun k => s.dU 0x2300 (0x20 + k.1))
    dwellLim := s.dU 0x2300 0x29 }) s

def execBucketRefillTick (n : Nat) (s : State) : Out := .next (bucketRefill n s)

/-- A transmission of `air` (2^-16 µs) on a channel is within its buckets (R239). -/
def bucketsAllow (ch air : Nat) (s : State) : Bool :=
  let k := subBand s.plan ch
  (vget s.bkt.dutyLim k == 0 || decide (air ≤ vget s.bkt.duty k)) &&
  (s.bkt.dwellLim == 0 || decide (air ≤ vget s.bkt.dwell (Fin.ofNat 128 ch)))

/-- Tokens taken at commitment (R239). -/
def bucketsTake (ch air : Nat) (s : State) : State :=
  bktMod (fun b => { b with
    duty := vmod b.duty (subBand s.plan ch) (fun t => t - (if vget b.dutyLim (subBand s.plan ch) = 0 then 0 else air))
    dwell := vmod b.dwell (Fin.ofNat 128 ch) (fun t => t - (if b.dwellLim = 0 then 0 else air)) }) s

/-- Tokens returned when no chip of a transmission leaves (R239). -/
def bucketsReturn (ch air : Nat) (s : State) : State :=
  bktMod (fun b => { b with
    duty := vmod b.duty (subBand s.plan ch) (fun t => if vget b.dutyLim (subBand s.plan ch) = 0 then t else min (dutyCap s (subBand s.plan ch)) (t + air))
    dwell := vmod b.dwell (Fin.ofNat 128 ch) (fun t => if b.dwellLim = 0 then t else min (dwellCap s) (t + air)) }) s

/-- The regulatory buckets empty: the RADIO domain is reset or turned ON from OFF, or a plan is written (R240). -/
def bucketsEmpty (s : State) : State :=
  bktMod (fun b => { b with duty := .replicate 6 0, dwell := .replicate 128 0 }) s

/-! ### Region, network and mask (R90, R243) -/

/-- DUTY defaults of a plan, 0.01 % (R243). -/
def dutyDefaults (p : Nat) : List Nat :=
  if p = 2 then [10, 100, 100, 10, 100, 100] else if p = 3 then List.replicate 6 1000 else if p = 4 then List.replicate 6 100
  else List.replicate 6 0

/-- The regulatory defaults of a plan are loaded (R243). -/
def loadRegulatory (p : Nat) (s : State) : State :=
  let s := foldS (fun k s => s.dPut 0x2300 (0x20 + k) ((dutyDefaults p).getD k 0)) (List.range 6) s
  (((s.dPut 0x2300 0x29 0).dPut 0x2300 0x2A 20000).dPut 0x2300 0x10 0).dPut 0x2300 0x13 0

/-- A write of REGION_PLAN that the dictionary has accepted in role 0: the plan, its mask, the regulatory defaults, and empty
buckets (R90, R240, R243). -/
def regionPlanSet (p : Nat) (s : State) : State :=
  let s := ((s.dPut 0x2200 1 p).dPut 0x2200 4 (planK p)).dPut 0x2200 5 (planF0 p)
  let s := s.dSet 0x2200 2 (planMask p)
  let s := waveMod (fun w => { w with mask := planMask p, maskNext := none }) s
  bucketsEmpty (loadRegulatory p s)

/-- A write of CHANNEL_MASK: refused whole with OUT_OF_RANGE when it enables a channel that the plan does not let it use; else held
until the next slot boundary (R90). -/
def channelMaskSet (v : List Byte) (s : State) : Status × State :=
  if v.length ≠ 16 then (stBadLength, s)
  else if (List.range 128).any (fun n => maskBit v n && !usable s.plan n) then (stRange, s)
  else (stOk, waveMod (fun w => { w with maskNext := some v }) (s.dSet 0x2200 2 v))

/-! ### Waveform tests (R116) -/

/-- The length that TEST_INPUT must have for a mode. -/
def testInputOk (s : State) : Bool :=
  let n := (s.dGet 0x2200 0x14).length
  if s.dU 0x2200 0x10 = 0 then n == zOf (s.dU 0x2200 0x11) else if s.dU 0x2200 0x10 = 1 then n == 14 else true

/-- A new TEST_REQUEST: BUSY while a test runs; with input of a wrong length it ends at once with OUT_OF_RANGE and an empty output;
else the test starts (R116). -/
def waveTestSet (v : Nat) (s : State) : Status × State :=
  if s.wave.test.isSome then (stBusy, s)
  else
    let s := s.dPut 0x2200 0x15 v
    if !testInputOk s then (stOk, (s.produceSt 0x2200 0x17 stRange).produce 0x2200 0x16 [])
    else
      let t : WaveTest := {
        mode := s.dU 0x2200 0x10, z := s.dU 0x2200 0x11, rate := s.dU 0x2200 0x12, seed := s.dU 0x2200 0x13, input := s.dGet 0x2200 0x14 }
      (stOk, (waveMod (fun w => { w with test := some t }) (s.resPend 0x2200 0x16)).resPend 0x2200 0x17)

/-- The output of a test (R116). -/
def WaveTest.output (t : WaveTest) : List Byte :=
  if t.mode = 0 then
    let c := payloadCode t.z t.rate t.input
    bytesOfBits (c.length / 8) c
  else if t.mode = 1 then bytesOfBits 48 (headerCode t.input)
  else bytesOfBits 128 (chips 1024 t.seed)

/-- WAVEFORM_TEST_DONE: the running test completes into TEST_OUTPUT and TEST_STATUS (R116). -/
def waveTestDone (s : State) : State :=
  match s.wave.test with
  | none => s
  | some t => ((waveMod (fun w => { w with test := none }) s).produce 0x2200 0x16 t.output).produceSt 0x2200 0x17 stOk

def execWaveformTestDone (s : State) : Out := .next (waveTestDone s)

/-- A re-initialise of function 4 ends the running test with FUNCTION_RESET (R116). -/
def waveTestReset (s : State) : State :=
  match s.wave.test with
  | none => s
  | some _ => (waveMod (fun w => { w with test := none }) s).produceSt 0x2200 0x17 stFnReset

end Sys2Proof.Machine
end

