-- ==== Sys2Proof/Machine/Roster.lean ====
section
/-! DEFINITION. The roster's records in DRAM: where they lie, their fields, and which are poisoned (R252, R253, R257). -/

namespace Sys2Proof.Machine

/-- CWY_ROSTER_BASE and CWY_INDEX_BASE (R252, R279). -/
def State.rosterBase (s : State) : Nat := s.regN 0x40160030
def State.indexBase (s : State) : Nat := s.regN 0x40160034

/-- A node number that a record may have. -/
def nodeNumber (n : Nat) : Bool := decide (1 ≤ n) && decide (n ≤ 0x3FFFE)

/-- The roster is held: roles 3 to 5 with Causeway and DRAM ON (R252, R535). -/
def State.rosterOn (s : State) : Bool := s.bigRole && s.isOn dCWY && s.isOn dDRAM

/-- The record slot of a node, if the index marks one present (R252). -/
def State.recordOf (s : State) (n : Nat) : Option Nat :=
  if !s.rosterOn || !nodeNumber n then none
  else
    let w := s.rdN (s.indexBase + 4 * n) 4
    if bit w 31 then some (field w 17 0) else none

/-- The address of record slot `k`. -/
def State.recAddr (s : State) (k : Nat) : Nat := s.rosterBase + 192 * k

/-- A record with an uncorrectable error in one of its three blocks: POISONED (R257). -/
def State.recPoisoned (s : State) (k : Nat) : Bool :=
  s.poisoned (s.recAddr k) || s.poisoned (s.recAddr k + 64) || s.poisoned (s.recAddr k + 128)

/-- A field of a record: offset and width in bytes. -/
def State.recGet (s : State) (k off n : Nat) : Nat := s.rdN (s.recAddr k + off) n

/-- A field of a record written. -/
def recPut (k off n v : Nat) (s : State) : State := s.dmaWrite (s.recAddr k + off) (leBytes n v)

/-- The record of a node that can be read: present and not poisoned. -/
def State.goodRecord (s : State) (n : Nat) : Option Nat :=
  match s.recordOf n with
  | some k => if s.recPoisoned k then none else some k
  | none => none

/-- A node that the roster holds no record of, on a device that holds one (R260). -/
def State.stranger (s : State) (n : Nat) : Bool := s.rosterOn && (s.recordOf n).isNone

/-- The node whose record lies in slot `k`. -/
def State.nodeOfSlot (s : State) (k : Nat) : Option Nat :=
  let n := field (s.recGet k 0 4) 17 0
  if s.recordOf n = some k then some n else none

/-- Node numbers of the poisoned records. -/
def State.poisonNodes (s : State) : List Nat :=
  let b := s.rosterBase
  ((s.mem.poison.filterMap (fun a => if b ≤ a ∧ a < b + 192 * s.dU 0x2500 1 then s.nodeOfSlot ((a - b) / 192) else none))).dedup

/-- POISONED_COUNT, FIRST_POISONED and the controller's count follow the poisoned blocks (R257, R382). -/
def syncRecords (s : State) : State :=
  let s := syncPoison s
  let l := s.poisonNodes
  (s.dPut 0x2500 0x18 l.length).dPut 0x2500 0x19 (l.foldl (fun a n => if a = 0 ∨ n < a then n else a) 0)

/-- A frame that needs a poisoned record is counted (R257). -/
def poisonHit (s : State) : State := (s.flag 0x40160020 6).bump 0x4016007C

/-- Record slots in use, from the index words that are marked present. -/
def State.slotsUsed (s : State) : List Nat :=
  let b := s.indexBase
  s.mem.cells.filterMap (fun c =>
    if b ≤ c.1 ∧ c.1 < b + 0x100000 ∧ (c.1 - b) % 4 = 3 ∧ 128 ≤ c.2.toNat then some (field (s.rdN (c.1 - 3) 4) 17 0) else none)

/-- The least number below `cap` that a list lacks, looking from `k` on. -/
def leastFree (l : List Nat) : Nat → Nat → Option Nat
  | 0, _ => none
  | n + 1, k => if l.contains k then leastFree l n (k + 1) else some k

/-- A new record's 192 bytes: VALID, provision defaults, zeroed live fields, neutral advice, no downlinks (R258). -/
def newRecord (n : Nat) : List Byte :=
  leBytes 4 (n + 2 ^ 18) ++ List.replicate 8 0 ++ [0, 0, 4, 4] ++ List.replicate 80 0 ++ [7] ++ List.replicate 19 0 ++ List.replicate 4 0xFF ++
  List.replicate 72 0

/-- ROSTER_COUNT and CWY_ROSTER_CNT. -/
def setRosterCount (n : Nat) (s : State) : State := (s.setRegN 0x40160044 n).dPut 0x2500 4 n

/-- A record made for node `n`, if a slot is free below the capacity. -/
def addRecord (n : Nat) (s : State) : Option State :=
  let cap := s.dU 0x2500 1
  let used := s.slotsUsed
  if cap ≤ used.length then none
  else match leastFree used (used.length + 1) 0 with
    | none => none
    | some k =>
      let s := s.dmaWrite (s.recAddr k) (newRecord n)
      let s := s.dmaWrite (s.indexBase + 4 * n) (leBytes 4 (2 ^ 31 + k))
      some (setRosterCount (used.length + 1) s)

/-- The record of node `n` deleted. -/
def removeRecord (n : Nat) (s : State) : State :=
  setRosterCount (s.dU 0x2500 4 - 1) (s.dmaWrite (s.indexBase + 4 * n) (leBytes 4 0))

/-- Headers carry powers and SNRs in two's complement (R102). -/
def Hdr.powerDbm (h : Hdr) : Int := signed 6 h.power

/-- Live fields of a TX_NODE's record after outcome DELIVERED or PORT_RESERVED (R253, R255). -/
def liveUpdate (k : Nat) (f : MeshFrame) (s : State) : State :=
  let h := Hdr.ofBytes f.hdr
  s.dmaWrite (s.recAddr k + 0x20) (leBytes 8 f.slot ++ leBytes 4 ((s.recGet k 0x28 4 + 1) % 2 ^ 32) ++ leBytes 4 (s.recGet k 0x2C 4) ++
    leBytes 2 (unsigned 16 f.rssi) ++ leBytes 2 (unsigned 16 f.snr) ++ leBytes 4 (unsigned 32 f.freq) ++ leBytes 2 (unsigned 16 f.endErr) ++
    [BitVec.ofNat 8 f.chan, BitVec.ofNat 8 f.m, BitVec.ofNat 8 (unsigned 8 h.powerDbm), BitVec.ofNat 8 h.fb, BitVec.ofNat 8 h.epochLow])

/-- ROSTER_LIVE_UPDATE: after a tag result, the record of the claimed TX_NODE takes the live fields, or counts a failed tag; a poisoned
record is neither read nor written (R255, R257). A node without a record is not updated. -/
def rosterLiveUpdate (s : State) : State :=
  match s.cwy.live with
  | [] => s
  | f :: rest =>
    let s := { s with cwy := { s.cwy with live := rest } }
    match s.recordOf (Hdr.ofBytes f.hdr).tx with
    | none => s
    | some k =>
      if s.recPoisoned k then poisonHit s
      else if f.outcome = 0 ∨ f.outcome = 4 then liveUpdate k f s
      else if f.outcome = 2 ∨ f.outcome = 3 ∨ f.outcome = 7 then recPut k 0x2C 4 ((s.recGet k 0x2C 4 + 1) % 2 ^ 32) s
      else s

def execRosterLiveUpdate (s : State) : Out := .next (rosterLiveUpdate s)

end Sys2Proof.Machine
end

