-- ==== Sys2Proof/Machine/Keys.lean ====
section
/-! DEFINITION. OTP (R310 to R315), the key store, node keys, epochs and their change, and the key transports (R282 to R298). -/

namespace Sys2Proof.Machine

def secMod (f : Sec → Sec) (s : State) : State := { s with sec := f s.sec }

/-! ### OTP (R310) -/

/-- Bytes of the OTP that the factory has programmed; every other byte leaves it 0. -/
def factoryByte (o : Nat) : Byte :=
  if o < 0x14 ∨ (0x20 ≤ o ∧ o < 0x80) ∨ (0x174 ≤ o ∧ o < 0x1A0) ∨ (0x200 ≤ o ∧ o < 0x1000) then Config.factoryOtp o else 0

/-- An OTP word: the factory's bits and the bits burnt since. -/
def State.otpWord (s : State) (i : Nat) : BitVec 32 :=
  BitVec.ofNat 32 (leNat ((List.range 4).map (fun j => factoryByte (4 * i + j)))) ||| (alGet s.sec.otp i).getD 0

/-- Bytes of the OTP. -/
def State.otpBytes (s : State) (o n : Nat) : List Byte :=
  (List.range n).map (fun j => BitVec.ofNat 8 ((s.otpWord ((o + j) / 4)).toNat / 2 ^ (8 * ((o + j) % 4))))

/-- A word as a master reads it: IDENTITY_PRIV and SEAL_KEY read 0 (R310). -/
def State.otpRead (s : State) (i : Nat) : BitVec 32 :=
  if (0x14 ≤ i ∧ i < 0x20) ∨ (0x60 ≤ i ∧ i < 0x68) then 0 else s.otpWord i

/-- Core 4 is there to do its work (R308). -/
def State.core4 (s : State) : Bool := (vget s.kz.map 4).isSome

/-- The supply allows OTP programming: VMAIN of at least 3.0 V (R311). -/
def State.otpSupply (s : State) : Bool := decide (300 ≤ s.pcc.vmain)

/-- Core 4 programs one OTP word and compares the readback, in which the bits of `got` have taken: NOT_READY with the supply low, BUSY
on a mismatch (R311). A bit never goes back to 0 (R310). -/
def otpBurn (i : Nat) (v got : BitVec 32) (s : State) : Status × State :=
  if !s.otpSupply || !s.core4 then (stNotReady, s)
  else
    let w := (alGet s.sec.otp i).getD 0 ||| (v &&& got)
    let s := secMod (fun x => { x with otp := alPut x.otp i w }) s
    (if s.otpWord i &&& v = v then stOk else stBusy, s)

/-- Words burnt in order until one does not end OK. -/
def otpBurnList (got : BitVec 32) : List (Nat × BitVec 32) → State → Status × State
  | [], s => (stOk, s)
  | (i, v) :: r, s =>
    match otpBurn i v got s with
    | (st, s) => if st = stOk then otpBurnList got r s else (st, s)

/-- OTP_PROGRAM: a word programmed by core 4 (R311). -/
def execOtpProgram (i : Fin 1024) (v got : BitVec 32) (s : State) : Out := .next (otpBurn i.1 v got s).2

/-- Customer key slot k: programmed, revoked (R310). -/
def State.custProgrammed (s : State) (k : Nat) : Bool := (s.otpWord 0x50).getLsbD (2 * k)
def State.custRevoked (s : State) (k : Nat) : Bool := (s.otpWord 0x50).getLsbD (2 * k + 1)

/-- CUST_KEY_HASHk. -/
def State.custHash (s : State) (k : Nat) : List Byte := s.otpBytes (0x80 + 0x30 * k) 48

/-- A word of four bytes. -/
def wordOf (bs : List Byte) : BitVec 32 := BitVec.ofNat 32 (leNat (bs.take 4))

/-- A write of CUST_KEY_HASH: the same value is OK, another OUT_OF_RANGE once the slot is programmed; else the hash is burnt and
then the slot's programmed bit (R312, R322). -/
def custHashSet (k : Nat) (v : List Byte) (got : BitVec 32) (s : State) : Status × State :=
  if s.custProgrammed k then (if v = s.custHash k then stOk else stRange, s)
  else otpBurnList got (((List.range 12).map (fun j => (0x20 + 12 * k + j, wordOf (v.drop (4 * j))))) ++ [(0x50, 1#32 <<< (2 * k))]) s

/-- CUST_KEY_REVOKED as bits 0 to 3. -/
def State.revokedBits (s : State) : Nat := (List.range 4).foldl (fun a k => a + b2n (s.custRevoked k) * 2 ^ k) 0

/-- A write of CUST_KEY_REVOKED: clearing a bit, or revoking the last programmed slot not yet revoked, is OUT_OF_RANGE (R313,
R322). -/
def revokeSet (v : Nat) (got : BitVec 32) (s : State) : Status × State :=
  let new := fun k => bit v k && !s.custRevoked k
  if (List.range 4).any (fun k => s.custRevoked k && !bit v k) then (stRange, s)
  else if (List.range 4).any (fun k => s.custProgrammed k && new k) &&
      !(List.range 4).any (fun k => s.custProgrammed k && !s.custRevoked k && !new k) then (stRange, s)
  else if !(List.range 4).any new then (stOk, s)
  else otpBurn 0x50 (BitVec.ofNat 32 ((List.range 4).foldl (fun a k => a + b2n (new k) * 2 ^ (2 * k + 1)) 0)) got s

/-- The set bits from bit 0 up to the first clear one (R314). -/
def thermo : Nat → Nat → Nat
  | 0, _ => 0
  | n + 1, v => if v % 2 = 1 then thermo n (v / 2) + 1 else 0

/-- The minimum rollback level of a class (R314). -/
def State.rollbackMin (s : State) (c : Nat) : Nat := thermo 64 (leNat (s.otpBytes (0x150 + 8 * c) 8))

/-- A write of ROLLBACK_MIN: a lower level is VERSION_LOW, a higher one burns bits in ascending order (R314, R322). -/
def rollbackSet (c level : Nat) (got : BitVec 32) (s : State) : Status × State :=
  if level < s.rollbackMin c then (stVersionLow, s)
  else if level = s.rollbackMin c then (stOk, s)
  else
    let m := 2 ^ min 64 level - 1
    otpBurnList got [(0x54 + 2 * c, BitVec.ofNat 32 m), (0x55 + 2 * c, BitVec.ofNat 32 (m / 2 ^ 32))] s

/-- DEBUG_LOCK (R315). -/
def State.debugLock (s : State) : Bool := (s.otpWord 0x5C).getLsbD 0

/-- A write of DEBUG_LOCK: 1 burns it, 0 once set is OUT_OF_RANGE (R315, R322). -/
def debugLockSet (v : Bool) (got : BitVec 32) (s : State) : Status × State :=
  if v then (if s.debugLock then (stOk, s) else otpBurn 0x5C 1 got s) else (if s.debugLock then stRange else stOk, s)

/-! ### The key store (R283) -/

/-- The key groups: 0 network, 1 own, 2 broadcast, 3 parent; `w` is 0 for current, 1 previous, 2 next. -/
def keyIdx (s : State) (g : Fin 4) (w : Nat) : Fin 16 := Fin.ofNat 16 (3 * g.1 + (s.sec.ep.rot.1 + w) % 3)

/-- A key of a group, for a page that its mask lets use it. -/
def State.keyOf (s : State) (page : Nat) (g : Fin 4) (w : Nat) : Option (List Byte) :=
  let k := vget s.sec.slots (keyIdx s g w)
  if k.valid && k.mask.getLsbD page then some k.key else none

/-- Whether a group's slot holds a key. -/
def State.hasKey (s : State) (g : Fin 4) (w : Nat) : Bool := (vget s.sec.slots (keyIdx s g w)).valid

/-- KS_SLOTs, CMC_EPOCHS, CMC_EPOCH_NEXT, KEY_EPOCH and EPOCHS_HELD follow the store (R319, R322). -/
def syncKeys (s : State) : State :=
  let e := s.sec.ep
  let s := foldS (fun (i : Fin 15) s =>
    let k := vget s.sec.slots (Fin.ofNat 16 i.1)
    s.setRegN (0x40084840 + 4 * i.1) (k.mask.toNat + 0x100 * b2n k.valid + 0x200 * b2n k.aes256 + 0x400 * b2n k.deriveOnly)) (fins 15) s
  let c := (e.cur.getD 0).toNat
  let s := s.setRegN 0x40084880 (c + (e.prev.getD 0).toNat * 0x10000)
  let s := s.setRegN 0x40084884 ((e.next.getD 0).toNat + 2 ^ 16 * b2n e.next.isSome + 2 ^ 17 * b2n e.prev.isSome + 2 ^ 18 * b2n e.cur.isSome +
    2 ^ 20 * e.rot.1 + 2 ^ 22 * ((e.rot.1 + 1) % 3) + 2 ^ 24 * ((e.rot.1 + 2) % 3))
  (s.dPut 0x3000 2 c).dPut 0x3000 3 (b2n e.cur.isSome + 2 * b2n e.prev.isSome + 4 * b2n e.next.isSome)

/-- Core 4 rewrites the key area with everything it holds (R284). -/
def storeArea (s : State) : State :=
  syncKeys (secMod (fun x => { x with area := some { slots := Vector.ofFn (fun i => vget x.slots (Fin.ofNat 16 i.1)), epochs := x.ep } }) s)

/-- A slot loaded. -/
def loadSlot (i : Fin 16) (k : KeySlot) (s : State) : State := secMod (fun x => { x with slots := vset x.slots i k }) s

/-- A key loaded into the next slot of its group; a network key is DERIVE_ONLY (R283). Every page may use it (log entry 30). -/
def loadNext (g : Fin 4) (v : List Byte) (s : State) : State :=
  loadSlot (keyIdx s g 2) { key := v, mask := 0xFF, valid := true, aes256 := v.length == 32, deriveOnly := g == 0 } s

/-- A whole third of the groups erased. -/
def eraseThird (w : Nat) (s : State) : State := foldS (fun g s => loadSlot (keyIdx s g w) {} s) (fins 4) s

/-- KEY_SIZE in bytes. -/
def State.keyBytes (s : State) : Nat := s.dU 0x3000 1 / 8

/-- OWN_NODE, read as 0 in roles 3 to 5 (R262, R280). -/
def State.ownNode (s : State) : Nat := if s.bigRole then 0 else s.dU 0x2400 1

/-- PARENT (R245). -/
def State.parent (s : State) : Nat := s.dU 0x2300 0x0B

/-! ### Node keys (R282, R286) -/

/-- The epoch of a third. -/
def State.epochOf (s : State) (w : Nat) : Option (BitVec 16) := if w = 0 then s.sec.ep.cur else if w = 1 then s.sec.ep.prev else s.sec.ep.next

/-- The network key of a third; for the next epoch a change that loads none carries the current one (R288). -/
def State.netKey (s : State) (page w : Nat) : Option (List Byte) :=
  match s.keyOf page 0 w with
  | some k => some k
  | none => if w = 2 then s.keyOf page 0 0 else none

/-- The node key of `n` in a third: derived in roles 2 to 5, held in role 1 (R282, R286). Node 0 has none. -/
def State.nodeKey (s : State) (page n w : Nat) : Option (List Byte) :=
  if n = 0 then none
  else if s.role = 1 then
    (if n = 0x3FFFF then s.keyOf page 2 w else if n = s.ownNode then s.keyOf page 1 w
      else if n = s.parent ∧ s.parent ≠ 0 then s.keyOf page 3 w else none)
  else match s.netKey page w, s.epochOf w with
    | some k, some e => some (kdf k false n e.toNat 0)
    | _, _ => none

/-- Which epoch a received EPOCH_LOW names: the current one, else the one before (R108). -/
def State.epochFor (s : State) (low : Nat) : Option Nat :=
  let hit := fun (e : Option (BitVec 16)) => match e with | some x => x.toNat % 16 == low % 16 | none => false
  if hit s.sec.ep.cur then some 0 else if hit s.sec.ep.prev then some 1 else none

/-- H_k of R108. -/
def hopNode (tx rx : Nat) : Nat := if tx ≠ 0 then tx else rx

/-- What R108 finds for a received frame. -/
inductive HopKey where
  | noEpoch | noKey | key (k : List Byte)
  deriving DecidableEq, Repr

def State.hopKey (s : State) (page : Nat) (h : Hdr) : HopKey :=
  match s.epochFor h.epochLow with
  | none => .noEpoch
  | some w => match s.nodeKey page (hopNode h.tx h.rx) w with
    | none => .noKey
    | some k => .key k

/-- The message of R107. -/
def tagMessage (hdr lh payload : List Byte) (slot : Nat) : List Byte := hdr ++ lh ++ payload ++ beBytes 5 slot

/-- A previous epoch is held and is the one under which a sender reaches node `n` (R291). -/
def State.usePrev (s : State) (n : Nat) : Bool :=
  match s.sec.ep.prev, s.goodRecord n with
  | some p, some k =>
    let low := s.recGet k 0x3E 1
    s.bigRole && low == p.toNat % 16 && (match s.sec.ep.cur with | some c => c.toNat % 16 != low | none => true)
  | _, _ => false

/-! ### Epochs (R288 to R290, R538) -/

/-- A new epoch that R288 allows. -/
def epochOk (e : BitVec 16) (newNet : Bool) (s : State) : Bool :=
  match s.sec.ep.cur with
  | none => true
  | some c => e.toNat % 16 != c.toNat % 16 && (newNet || decide (c.toNat < e.toNat))

/-- The next keys that R289 requires are present. -/
def keysReady (s : State) : Bool :=
  let net := s.hasKey 0 2 || s.hasKey 0 0
  let node := s.hasKey 1 2 && s.hasKey 2 2 && (s.parent == 0 || s.hasKey 3 2)
  if s.role = 1 then node else if s.role = 0 then net || node else net

def epMod (f : Epochs → Epochs) (s : State) : State := secMod (fun x => { x with ep := f x.ep }) s

/-- The previous epoch erased (R290). -/
def erasePrev (s : State) : State := storeArea (epMod (fun e => { e with prev := none, eraseAt := none }) (eraseThird 1 s))

/-- The cycle of an instant has begun. -/
def begun (s : State) (c : BitVec 28) : Bool := !cycleAhead s.cycle c.toNat

/-- The rotation: next becomes current, current previous, the former previous is erased; a change without a network key carries the
current one; the previous epoch is to be erased KEY_GRACE cycles after KEY_CHANGE_AT (R288 to R290). -/
def rotate (s : State) : State :=
  match s.sec.ep.next with
  | none => s
  | some e =>
    let at_ := s.sec.ep.at_.getD (BitVec.ofNat 28 s.cycle)
    let s := if s.hasKey 0 2 || !s.hasKey 0 0 then s else loadSlot (keyIdx s 0 2) (vget s.sec.slots (keyIdx s 0 0)) s
    let s := eraseThird 1 s
    let was := s.sec.ep.cur
    let s := epMod (fun x => { x with
      rot := Fin.ofNat 3 (x.rot.1 + 2), cur := some e, prev := was, next := none, at_ := none,
      eraseAt := if was.isSome then some (at_ + BitVec.ofNat 28 (s.dU 0x3000 8)) else none }) s
    let s := storeArea (s.dPut 0x3000 0x0A 0)
    match s.sec.ep.eraseAt with
    | some c => if begun s c then erasePrev s else s
    | none => s

/-- A change armed for a cycle; with no epoch in force it takes effect at once (R289). -/
def armChange (e : BitVec 16) (c : BitVec 28) (s : State) : State :=
  let s := epMod (fun x => { x with next := some e, at_ := some c }) s
  if s.sec.ep.cur.isNone then rotate s else storeArea s

/-- KEY_CHANGE_REQUEST: the epoch, the keys and the cycle are checked in this order; the change is armed (R289). The status is the
result KEY_STATUS and the answer. -/
def keyChangeRequest (s : State) : Status × State :=
  let e := BitVec.ofNat 16 (s.dU 0x3000 4)
  let c := BitVec.ofNat 28 (s.dU 0x3000 5)
  let st := if !epochOk e (s.role != 1 && s.hasKey 0 2) s then stRange else if !keysReady s then stNotReady
    else if s.sec.ep.cur.isSome && begun s c then stLate else stOk
  (st, if st = stOk then (armChange e c s).produceSt 0x3000 7 stOk else s.produceSt 0x3000 7 st)

/-- KEY_ROTATION: phase 0 of KEY_CHANGE_AT has come (R289), with the network time known (R538). -/
def keyRotation (s : State) : State :=
  match s.sec.ep.at_ with
  | some c => if begun s c && !s.sec.asleep then rotate s else s
  | none => s

def execKeyRotation (s : State) : Out := .next (keyRotation s)

/-- PREVIOUS_EPOCH_ERASE: phase 0 of KEY_CHANGE_AT + KEY_GRACE has come (R290). -/
def previousEpochErase (s : State) : State :=
  match s.sec.ep.eraseAt with
  | some c => if begun s c && !s.sec.asleep then erasePrev s else s
  | none => s

def execPreviousEpochErase (s : State) : Out := .next (previousEpochErase s)

/-- KEY_REARM: the network time is known; a restored change and erase stand again, and act at once when their cycle has begun, the
rotation first (R538). -/
def keyRearm (s : State) : State :=
  if s.sec.asleep then previousEpochErase (keyRotation (secMod (fun x => { x with asleep := false }) s)) else s

/-- A beacon whose KEY_EPOCH differs from the current epoch sets KEY_STALE, with a NOTIFY when it was 0 (R292). -/
def beaconEpoch (e : BitVec 16) (s : State) : State :=
  if s.sec.ep.cur = some e ∨ s.dU 0x3000 0x0A = 1 then s else (s.dPut 0x3000 0x0A 1).notify 0x3000 0x0A stOk [1]

/-! ### Key writes and transports (R284, R294 to R298) -/

/-- The third group of the key entries 0x3000.10 to .13 that a role may write (R322). -/
def keyEntryRole (sub : Nat) (s : State) : Bool :=
  if sub = 0x10 then s.role == 0 || decide (2 ≤ s.role) else if sub ≤ 0x13 then decide (s.role ≤ 1) else true

/-- KEY_WRITE: a key entry 0x3000.10 to .16 written: its role, then its length; core 4 loads the key and stores it (R284, R322). -/
def keyWrite (sub : Nat) (v : List Byte) (s : State) : Status × State :=
  if !keyEntryRole sub s then (stDenied, s)
  else if sub ≤ 0x13 ∧ v.length ≠ s.keyBytes then (stRange, s)
  else if v.length ≠ 16 ∧ v.length ≠ 32 then (stRange, s)
  else if !s.core4 then (stNotReady, s)
  else if sub ≤ 0x13 then (stOk, storeArea (loadNext (Fin.ofNat 4 (sub - 0x10)) v s))
  else
    let mask := BitVec.ofNat 8 (s.dU 0x3000 0x17 / 2 ^ (8 * (sub - 0x14)))
    (stOk, storeArea (loadSlot (Fin.ofNat 16 (sub - 8)) { key := v, mask := mask, valid := true, aes256 := v.length == 32 } s))

/-- FW_KEY_MASK: the page masks of slots 12 to 14 (R322). -/
def fwKeyMask (v : Nat) (s : State) : State :=
  storeArea (foldS (fun j s => secMod (fun x => { x with
    slots := vmod x.slots (Fin.ofNat 16 (12 + j)) (fun k => { k with mask := BitVec.ofNat 8 (v / 2 ^ (8 * j)) }) }) s) (List.range 3) s)

/-- KEY_ERASE: slots 0 to 14 and the key area are erased, and no epoch is in force (R322). -/
def keyErase (s : State) : State :=
  syncKeys (secMod (fun x => { x with
    slots := Vector.ofFn (fun i => if i.1 = 15 then vget x.slots i else {}), ep := {}, area := none, keyTaken := [], netTaken := [],
    asleep := false }) s)

/-- KEY_AREA_CHECK: at a start core 4 checks the key area and puts slots and epochs back in force; an armed change and erase wait for
the network time. With a wrong CMAC the area is erased and KEY_STATUS reads AUTH_FAIL (R284, R538). -/
def keyAreaCheck (good : Bool) (s : State) : State :=
  match s.sec.area with
  | none => s
  | some a =>
    if good then
      syncKeys (secMod (fun x => { x with
        slots := Vector.ofFn (fun i => if h : i.1 < 15 then a.slots[i.1] else vget x.slots i), ep := a.epochs,
        asleep := a.epochs.at_.isSome || a.epochs.eraseAt.isSome }) s)
    else (keyErase s).produceSt 0x3000 7 stAuthFail

/-- KDF masks of a transport (R294, R296). -/
def wrapMask (own : List Byte) (n : Nat) (e : BitVec 16) (idx : Nat) : List Byte := kdf own true n e.toNat idx

/-- The change a transport arms: a cycle that has begun stands for the next boundary (R295, R297). -/
def transportCycle (c : BitVec 28) (s : State) : BitVec 28 := if begun s c then BitVec.ofNat 28 (s.cycle + 1) else c

/-- One key of KEY_NEXT, when its bit is set. -/
def keyNextLoad (own : List Byte) (e : BitVec 16) (flags : Nat) (v : List Byte) (i : Nat) (s : State) : State :=
  if bit flags i then loadNext (Fin.ofNat 4 (i + 1)) (xorBytes ((v.drop (7 + 32 * i)).take s.keyBytes) (wrapMask own s.ownNode e i)) s else s

/-- KEY_NEXT_WRITE (R294, R295). -/
def keyNextWrite (v : List Byte) (s : State) : Status × State :=
  let e := BitVec.ofNat 16 (leNat (v.take 2))
  let c := BitVec.ofNat 28 (leNat ((v.drop 2).take 4))
  let flags := (v.getD 6 0).toNat
  if s.role ≠ 1 then (stDenied, s)
  else if v = s.sec.keyTaken then (stOk, s)
  else if v.length ≠ 103 ∨ field flags 6 3 ≠ 0 ∨ bit flags 7 ≠ (s.keyBytes == 32) ∨ !epochOk e false s then (stRange, s)
  else match s.keyOf 2 1 0 with
    | none => (stNotReady, s)
    | some own =>
      let s := if s.sec.ep.next = some e then s else epMod (fun x => { x with at_ := none }) (eraseThird 2 s)
      let s := epMod (fun x => { x with next := some e }) s
      let s := foldS (keyNextLoad own e flags v) (List.range 3) s
      let s := secMod (fun x => { x with keyTaken := v }) s
      if keysReady s then (stOk, (armChange e (transportCycle c s) s).produceSt 0x3000 7 stOk)
      else (stOk, (storeArea s).produceSt 0x3000 7 stNotReady)

/-- NET_NEXT_WRITE (R296, R297). -/
def netNextWrite (v : List Byte) (s : State) : Status × State :=
  let e := BitVec.ofNat 16 (leNat (v.take 2))
  let c := BitVec.ofNat 28 (leNat ((v.drop 2).take 4))
  let flags := (v.getD 6 0).toNat
  if s.role ≠ 2 then (stDenied, s)
  else if v = s.sec.netTaken then (stOk, s)
  else if v.length ≠ 39 ∨ field flags 6 1 ≠ 0 ∨ bit flags 7 ≠ (s.keyBytes == 32) ∨ !epochOk e (bit flags 0) s then (stRange, s)
  else match s.nodeKey 2 s.ownNode 0 with
    | none => (stNotReady, s)
    | some own =>
      let s := eraseThird 2 s
      let s := if bit flags 0 then loadNext 0 (xorBytes ((v.drop 7).take s.keyBytes) (wrapMask own s.ownNode e 3)) s else s
      let s := secMod (fun x => { x with netTaken := v }) s
      (stOk, (armChange e (transportCycle c s) s).produceSt 0x3000 7 stOk)

/-- 32 bytes of a mask field. -/
def field32 (v : List Byte) : List Byte := v ++ List.replicate (32 - v.length) 0

/-- The epoch that a transport brings: the next one, or for a node that missed its change the current one (R288, R298; log entry 31). -/
def State.wrapThird (s : State) : Nat := if s.sec.ep.next.isSome then 2 else 0

/-- The image of KEY_NEXT for node `n`, or of NET_NEXT for a relay (R294, R296, R298). -/
def wrapImage (page : Nat) (relay : Bool) (n : Nat) (s : State) : Status × List Byte :=
  match s.recordOf n with
  | none => (stNoEntry, [])
  | some k =>
    if s.recPoisoned k then (stPoisoned, [])
    else
      let w := s.wrapThird
      let old := if s.usePrev n then 1 else 0
      match s.nodeKey page n old, s.epochOf w, s.netKey page w with
      | some own, some e, some net =>
        let big := if s.keyBytes = 32 then 0x80 else 0
        let head := leBytes 2 e.toNat ++ leBytes 4 (s.dU 0x3000 5)
        if relay then
          let fresh := w == 0 || s.hasKey 0 2
          (stOk, head ++ [BitVec.ofNat 8 (big + b2n fresh)] ++ (if fresh then field32 (xorBytes net (wrapMask own n e 3)) else List.replicate 32 0))
        else
          let p := field (s.recGet k 4 4) 17 0
          let one := fun (m i : Nat) => field32 (xorBytes (kdf net false m e.toNat 0) (wrapMask own n e i))
          (stOk, head ++ [BitVec.ofNat 8 (big + 3 + (if p = 0 then 0 else 4))] ++ one n 0 ++ one 0x3FFFF 1 ++
            (if p = 0 then List.replicate 32 0 else one p 2))
      | _, _, _ => (stNotReady, [])

/-- WRAP_REQUEST: the image for WRAP_NODE in the form WRAP_FORM into WRAP_OUT, in roles 3 to 5 (R298). -/
def wrapRequest (s : State) : Status × State :=
  match (if s.bigRole then wrapImage 2 (s.dU 0x3000 0x24 == 1) (s.dU 0x3000 0x20) s else (stNotReady, [])) with
  | (st, out) => (stOk, (s.produce 0x3000 0x22 out).produceSt 0x3000 0x23 st)

end Sys2Proof.Machine
end

