-- ==== Sys2Proof/Machine/Flags.lean ====
section
/-! DEFINITION. The status word of a KZ core and every flag computation of the instruction set (R325, R329 to R331, R340,
R341). -/

namespace Sys2Proof.Machine

/-- Bits of SW (R325). -/
def swZ : Nat := 0
def swN : Nat := 1
def swC : Nat := 2
def swV : Nat := 3
def swVS : Nat := 4
def swDZ : Nat := 5
def swLSAT : Nat := 6
def swASAT : Nat := 7
def swDZE : Nat := 8
def swIE : Nat := 9
def swSYS : Nat := 10
def swTRP : Nat := 11
def swNMIL : Nat := 16

/-- SW with one bit given a value. -/
def swSet (sw : BitVec 32) (i : Nat) (b : Bool) : BitVec 32 :=
  if b then sw ||| (1#32 <<< i) else sw &&& ~~~(1#32 <<< i)

/-- SW with a sticky bit set when a condition holds: the hardware never clears one (R325). -/
def swSticky (sw : BitVec 32) (i : Nat) (b : Bool) : BitVec 32 := if b then swSet sw i true else sw

/-- Z and N follow a result (R329). -/
def swZN (sw r : BitVec 32) : BitVec 32 := swSet (swSet sw swZ (r == 0)) swN r.msb

/-- V takes a value; setting it also sets VS (R329). -/
def swPutV (sw : BitVec 32) (v : Bool) : BitVec 32 := swSticky (swSet sw swV v) swVS v

/-- Z, N and V. -/
def swZNV (sw r : BitVec 32) (v : Bool) : BitVec 32 := swPutV (swZN sw r) v

/-- Z, N, C and V. -/
def swZNCV (sw r : BitVec 32) (c v : Bool) : BitVec 32 := swPutV (swSet (swZN sw r) swC c) v

/-- The carry out of a + b + k. -/
def carryOut (a b : BitVec 32) (k : Bool) : Bool := decide (2 ^ 32 ≤ a.toNat + b.toNat + b2n k)

/-- No borrow out of a - b - k. -/
def noBorrow (a b : BitVec 32) (k : Bool) : Bool := decide (b.toNat + b2n k ≤ a.toNat)

/-- A signed result that 32 bits do not hold. -/
def overflows (x : Int) : Bool := decide (x < -(2 ^ 31)) || decide (2 ^ 31 ≤ x)

/-! ### Lanes and accumulators -/

/-- The signed value of a lane: I in [27:16], Q in [11:0]; guard bits are ignored (R340). -/
def laneI (w : BitVec 32) : Int := (w.extractLsb' 16 12).toInt
def laneQ (w : BitVec 32) : Int := (w.extractLsb' 0 12).toInt

/-- A lane result saturated to 12 bits (R340). -/
def satLane (x : Int) : Int := clampI (-2048) 2047 x

/-- Whether a lane saturates. -/
def laneSat (x : Int) : Bool := decide (x < -2048) || decide (2047 < x)

/-- A sample word with both lanes saturated and the guard bits copies of the signs (R340). -/
def sample (i q : Int) : BitVec 32 :=
  ((BitVec.ofInt 12 (satLane i)).signExtend 16 ++ (BitVec.ofInt 12 (satLane q)).signExtend 16 : BitVec (16 + 16))

/-- SW after a lane result: LSAT when a lane saturated (R340). -/
def swLane (sw : BitVec 32) (i q : Int) : BitVec 32 := swSticky sw swLSAT (laneSat i || laneSat q)

/-- An accumulator result saturated to 48 bits (R341). -/
def satAcc (x : Int) : BitVec 48 := BitVec.ofInt 48 (clampI (-(2 ^ 47)) (2 ^ 47 - 1) x)

/-- Whether an accumulator result saturates. -/
def accSat (x : Int) : Bool := decide (x < -(2 ^ 47)) || decide (2 ^ 47 - 1 < x)

/-- An accumulator rounded and shifted as RACC does (R341). -/
def roundShift (acc : BitVec 48) (sh : Nat) : Int :=
  (acc.toInt + (if sh = 0 then 0 else 2 ^ (sh - 1))) / 2 ^ sh

/-- A value saturated to 32 bits signed. -/
def sat32s (x : Int) : Int := clampI (-(2 ^ 31)) (2 ^ 31 - 1) x

end Sys2Proof.Machine
end

