-- ==== Sys2Proof/Machine/Operands.lean ====
section
/-! DEFINITION. The operand forms of the KZ instruction set: registers with g0 hard-wired, immediates, addresses, address
generators, accumulators (R324, R327, R330, R332, R341 to R343). -/

namespace Sys2Proof.Machine

/-- A general register; g0 reads 0 (R324). -/
def Core.gr (k : Core) (r : Fin 16) : BitVec 32 := if r = 0 then 0 else vget k.g r

/-- A general register written; writes to g0 are discarded (R324). -/
def Core.setGr (k : Core) (r : Fin 16) (v : BitVec 32) : Core := if r = 0 then k else { k with g := vset k.g r v }

/-- One bit of SW. -/
def Core.swBit (k : Core) (i : Nat) : Bool := k.sw.getLsbD i

/-- System mode (R325). -/
def Core.sys (k : Core) : Bool := k.swBit swSYS

/-- imm18, sign-extended (R330). -/
def imm18s (i : BitVec 18) : BitVec 32 := i.signExtend 32

/-- imm18, zero-extended (R330). -/
def imm18z (i : BitVec 18) : BitVec 32 := i.zeroExtend 32

/-- imm22 << 10 (R330). -/
def imm22h (i : BitVec 22) : BitVec 32 := i.zeroExtend 32 <<< 10

/-- The address of a load or store: ra + sext(imm18) modulo 2^32 (R332). -/
def Core.ea (k : Core) (ra : Fin 16) (imm : BitVec 18) : BitVec 32 := k.gr ra + imm18s imm

/-- A branch target: PC + 4 x off (R335). -/
def target (pc : BitVec 32) (off : BitVec 32) : BitVec 32 := pc + off * 4

/-- The shift operations of R329 to R331, by a count of 0 to 255. -/
def shl8 (a : BitVec 32) (n : Nat) : BitVec 32 := if 32 ≤ n then 0 else a <<< n
def shr8 (a : BitVec 32) (n : Nat) : BitVec 32 := if 32 ≤ n then 0 else a >>> n
def sar8 (a : BitVec 32) (n : Nat) : BitVec 32 := a.sshiftRight (min n 31)
def ror8 (a : BitVec 32) (n : Nat) : BitVec 32 := a.rotateRight (n % 32)

/-- The low 8 bits of a count operand (R331). -/
def count8 (b : BitVec 32) : Nat := b.toNat % 256

/-- Leading zeros, 0 to 32 (R329). -/
def clz (a : BitVec 32) : Nat := if a = 0 then 32 else 31 - a.toNat.log2

/-- The 32 bits reversed (R329). -/
def brev (a : BitVec 32) : BitVec 32 := a.reverse

/-- The four bytes reversed (R329). -/
def bswap (a : BitVec 32) : BitVec 32 := BitVec.ofNat 32 (beNat (leBytes 4 a.toNat))

/-- The element size of a generator, as a power of two (R342). -/
def Ag.es (x : Ag) : Nat := field x.cfg.toNat 3 2

/-- The mode of a generator: 0 linear, 1 modulo, 2 bit-reversed; 3 acts as 0 (R342). -/
def Ag.mode (x : Ag) : Nat := if field x.cfg.toNat 1 0 = 3 then 0 else field x.cfg.toNat 1 0

/-- The address a generator gives (R342). -/
def Ag.addr (x : Ag) : BitVec 32 := x.base + (x.index <<< x.es)

/-- The low `k` bits of a number in reverse order. -/
def revBits : Nat → Nat → Nat
  | 0, _ => 0
  | k + 1, n => n % 2 * 2 ^ k + revBits k (n / 2)

/-- The generator after an access (R342). -/
def Ag.update (x : Ag) : Ag :=
  if x.mode = 1 ∧ x.len ≠ 0 then
    { x with index := BitVec.ofInt 32 (((x.index.toNat : Int) + x.step.toInt) % (x.len.toNat : Int)) }
  else if x.mode = 2 ∧ 2 ≤ x.len.toNat then
    let k := min 31 x.len.toNat.log2
    let low := x.index.toNat % 2 ^ k
    let r := (revBits k low + revBits k (unsigned k x.step.toInt)) % 2 ^ k
    { x with index := BitVec.ofNat 32 (x.index.toNat - low + revBits k r) }
  else { x with index := x.index + x.step }

/-- A generator's field by its selector; CFG keeps [3:0] (R342). -/
def Ag.get (x : Ag) (sel : Nat) : BitVec 32 :=
  match sel with
  | 0 => x.base | 1 => x.index | 2 => x.step | 3 => x.len | _ => x.cfg

def Ag.put (x : Ag) (sel : Nat) (v : BitVec 32) : Ag :=
  match sel with
  | 0 => { x with base := v } | 1 => { x with index := v } | 2 => { x with step := v } | 3 => { x with len := v }
  | _ => { x with cfg := v &&& 0xF }

/-- The even accumulator of a pair and its partner (R341). -/
def pairOdd (a : Fin 4) : Fin 4 := Fin.ofNat 4 (a.1 + 1)

/-- The accumulator that a number names is the even one of a pair (R341). -/
def isPair (a : Fin 4) : Bool := a.1 % 2 == 0

/-- The signed product of two low halfwords (R341). -/
def halfProduct (a b : BitVec 32) : Int := (a.truncate 16).toInt * (b.truncate 16).toInt

/-- An accumulator given a result, saturated, with ASAT (R341). -/
def Core.accPut (k : Core) (a : Fin 4) (x : Int) : Core :=
  { k with acc := vset k.acc a (satAcc x), sw := swSticky k.sw swASAT (accSat x) }

/-- acc += x. -/
def Core.accAdd (k : Core) (a : Fin 4) (x : Int) : Core := k.accPut a ((vget k.acc a).toInt + x)

/-- A complex product added to a pair; `conj` conjugates the second operand (R341). -/
def Core.pairAdd (k : Core) (a : Fin 4) (x y : BitVec 32) (conj : Bool) : Core :=
  let i1 := laneI x
  let q1 := laneQ x
  let i2 := laneI y
  let q2 := if conj then -laneQ y else laneQ y
  (k.accAdd a (i1 * i2 - q1 * q2)).accAdd (pairOdd a) (i1 * q2 + q1 * i2)

end Sys2Proof.Machine
end

