-- ==== Sys2Proof/Machine/KzCore.lean ====
section
/-! DEFINITION. The frame of every KZ instruction: which physical core runs it, the fetch checks, exceptions, the return from
them, the hardware loop, and the cycle count (R333, R339, R345 to R351, R353). -/

namespace Sys2Proof.Machine

/-- The physical core of a logical core. -/
def State.physOf (s : State) (c : Fin 6) : Option (Fin 6) := vget s.kz.map c

/-- A physical core changed. -/
def kmod (p : Fin 6) (f : Core → Core) (s : State) : State := { s with kz := { s.kz with phys := vmod s.kz.phys p f } }

/-- The power domain of a logical core (R425). -/
def coreDomain (c : Fin 6) : Fin 24 := Fin.ofNat 24 (2 + c.1)

/-- The kinds of access that the firewall tells apart (R351). -/
inductive AccKind where
  | exec | load | store
  deriving DecidableEq, Repr

/-- An exception: its code (R346), the TRAP number, the micro-op index when it arose in a customer opcode, and the data
address for the causes of the data access. -/
structure Exc where
  code  : Nat
  trap  : Nat := 0
  uop   : Option Nat := none
  addr  : Option (BitVec 32) := none
  deriving DecidableEq, Repr

/-- The codes of R346. -/
def excIllegal : Exc := { code := 0x01 }
def excPriv : Exc := { code := 0x02 }
def excFetchDenied : Exc := { code := 0x04 }
def excFetchBus : Exc := { code := 0x07 }
def excFetchEcc : Exc := { code := 0x08 }
def excAlign : Exc := { code := 0x03 }
def excDz : Exc := { code := 0x09 }
def excBrk : Exc := { code := 0x0B }
def excTrap (n : Byte) : Exc := { code := 0x0A, trap := n.toNat }
def excData (code : Nat) (a : BitVec 32) : Exc := { code := code, addr := some a }

/-- A region of the firewall is enabled and holds an address: from BASE to LIMIT + 31 (R351). -/
def Rgn.holds (r : Rgn) (a : Nat) : Bool :=
  r.attr.getLsbD 0 && decide (r.base.toNat / 32 * 32 ≤ a) && decide (a ≤ r.limit.toNat / 32 * 32 + 31)

/-- What a region permits: [6:4] system and [3:1] task, each execute, write, read from the top (R351). -/
def Rgn.permits (r : Rgn) (sys : Bool) (k : AccKind) : Bool :=
  r.attr.getLsbD ((if sys then 4 else 1) + (match k with | .load => 0 | .store => 1 | .exec => 2))

/-- The highest-numbered enabled region that holds an address. -/
def Core.regionFor (k : Core) (a : Nat) : Option Rgn :=
  (fins 16).foldl (fun best i => if (vget k.rgn i).holds a then some (vget k.rgn i) else best) none

/-- The region firewall's verdict (R351). -/
def Core.allowed (k : Core) (a : Nat) (kind : AccKind) : Bool :=
  if !k.fwctrl.getLsbD 0 then true
  else match k.regionFor a with
    | some r => r.permits k.sys kind
    | none => k.sys && !k.fwctrl.getLsbD 1

/-- A core may fetch from an area (R353): boot ROM, flash, shared SRAM and its own X memory; core 4 only from the boot ROM and
its own X memory. -/
def mayFetch (c : Fin 6) (r : Region) : Bool :=
  match r with
  | .rom => true
  | .xmem d => d == c
  | .flash _ => c != 4
  | .sram => c != 4
  | _ => false

/-- The causes met in fetching, in the order of R346. -/
def fetchFault (c : Fin 6) (k : Core) (s : State) : Option Exc :=
  let a := k.pc.toNat
  if !k.allowed a .exec then some excFetchDenied
  else if !mayFetch c (s.region a) then some excFetchBus
  else if s.wordBad a then some excFetchEcc
  else none

/-- TCAUSE of an exception (R347). -/
def Exc.tcause (e : Exc) : BitVec 32 :=
  BitVec.ofNat 32 (e.code + e.trap * 2 ^ 8 + (match e.uop with | some u => u * 2 ^ 16 + 2 ^ 21 | none => 0))

/-- SW at entry to a handler: SYS and TRP set, IE cleared (R347). -/
def swEntry (sw : BitVec 32) : BitVec 32 := swSet (swSet (swSet sw swSYS true) swTRP true) swIE false

/-- Entry to an exception: TPC, TSW, TCAUSE and for data faults TADDR; the reservation ends; execution goes on at TBASE. TRAP
and BRK save the address after their own (R333, R347). -/
def Core.enter (k : Core) (e : Exc) : Core :=
  { k with
    tpc := if e.code = 0x0A ∨ e.code = 0x0B then k.pc + 4 else k.pc, tsw := k.sw, tcause := e.tcause,
    taddr := e.addr.getD k.taddr, sw := swEntry k.sw, pc := k.tbase, resv := none }

/-- A core stops: halted, its PC reported in CORE_PC. -/
def coreStop (c p : Fin 6) (s : State) : State :=
  let s := { s with kz := { s.kz with stopPc := vset s.kz.stopPc c (vget s.kz.phys p).pc } }
  kmod p (fun k => { k with halted := true, waiting := false, resv := none }) s

/-- KZC_STAT and KZC_FAULT_INFO. -/
def kzcStat : Nat := 0x21180008
def kzcFaultInfo : Nat := 0x21180018

/-- A double fault: the core stops and KZC_STAT.DOUBLE is set; the supervisor restarts it with CORE_RESTART (R348). -/
def doubleFault (c p : Fin 6) (s : State) : State :=
  let s := (coreStop c p s).flag kzcStat 1
  s.setRegN kzcFaultInfo (p.1 + c.1 * 16 + 5 * 256)

/-- An exception raised by a core: entry, or a double fault while TRP or NMIL is set (R347, R348). -/
def raiseExc (c p : Fin 6) (e : Exc) (s : State) : State :=
  let k := vget s.kz.phys p
  if k.swBit swTRP || k.swBit swNMIL then doubleFault c p s else kmod p (·.enter e) s

/-- How an instruction ends: it completes in sequence, transfers control, or raises an exception. -/
inductive KzRes where
  | next (s : State)
  | jump (s : State) (pc : BitVec 32)
  | exc (s : State) (e : Exc)

/-- The hardware loop after an instruction that completed without a transfer (R339). -/
def Core.advance (k : Core) : Core :=
  if k.pc = k.le ∧ k.lc ≠ 0 then
    if k.lc = 1 then { k with lc := 0, pc := k.pc + 4 } else { k with lc := k.lc - 1, pc := k.ls }
  else { k with pc := k.pc + 4 }

/-- Cycles run (R325, R345). -/
def Core.tick (k : Core) (n : Nat) : Core := { k with cycle := k.cycle + BitVec.ofNat 64 n }

/-- A core that fetches: mapped, running, not in WAIT, and its domain ON (R350, R359, R430). -/
def State.fetching (s : State) (c : Fin 6) : Bool :=
  match s.physOf c with
  | none => false
  | some p => !(vget s.kz.phys p).halted && !(vget s.kz.phys p).waiting && s.isOn (coreDomain c)

/-- An access to core 4's window by a core that may not make it, counted in KZC_VIOL with the core's number (R353). -/
def windowViol (c : Fin 6) (a : Nat) (s : State) : State :=
  if c ≠ 4 ∧ (regionOf a = .xmem 4 ∨ regionOf a = .ymem 4) then
    s.setRegN 0x21180014 (256 * c.1 + 0x10000 * satAdd 0xFFFF (s.regF 0x21180014 31 16) 1)
  else s

/-- What a fetch that fails leaves beside its exception (R353, R369). -/
def fetchNote (c : Fin 6) (e : Exc) (a : Nat) (s : State) : State :=
  if e = excFetchEcc then uncorrectable a s else if e = excFetchBus then windowViol c a s else s

/-- One instruction on logical core `c` that takes `cost` cycles: the fetch checks, its effect, then the loop or the next
address; a transfer to an address that is no multiple of 4 raises ALIGN and does not happen (R335, R339, R346). -/
def kzRun (c : Fin 6) (cost : Nat) (f : Fin 6 → State → KzRes) (s : State) : State :=
  match s.physOf c with
  | none => s
  | some p =>
    if !s.fetching c || s.flashBusy (vget s.kz.phys p).pc.toNat then s
    else match fetchFault c (vget s.kz.phys p) s with
      | some e => raiseExc c p e (fetchNote c e (vget s.kz.phys p).pc.toNat s)
      | none => match f p (correctOnRead (vget s.kz.phys p).pc.toNat s) with
        | .next t => kmod p (fun k => (k.tick cost).advance) t
        | .jump t a => if a.toNat % 4 ≠ 0 then raiseExc c p excAlign s else kmod p (fun k => { k.tick cost with pc := a }) t
        | .exc t e => raiseExc c p e t

/-- An instruction whose whole effect is on its own core. -/
def kzCore (c : Fin 6) (cost : Nat) (f : Core → Core) (s : State) : State := kzRun c cost (fun p s => .next (kmod p f s)) s

/-- Registers of a core started anew (R326), at a boot address. -/
def Core.started (k : Core) (pc : BitVec 32) : Core :=
  { k with
    g := .replicate 16 0, acc := .replicate 4 0, ag := .replicate 4 {}, lc := 0, ls := 0, le := 0, sw := 0x400, tpc := 0, tsw := 0,
    tcause := 0, taddr := 0, tbase := 0, scratch := 0, ipri := .replicate 8 0, fwctrl := 0, rgn := .replicate 16 {}, resv := none,
    waiting := false, nmiPend := false, halted := false, pc := pc }

/-- The boot ROM's security entry, where core 4 starts, and its substitution entry, where core 0 restarts (R348, R454, R488).
The spec names both and gives neither an address (log entry 6). -/
def securityEntry : BitVec 32 := Config.romEntry 0 &&& ~~~3#32
def substitutionEntry : BitVec 32 := Config.romEntry 1 &&& ~~~3#32

/-- Where a logical core starts: core 4 at the security entry, whatever CORE_BOOT holds (R363). -/
def State.bootPc (s : State) (c : Fin 6) : BitVec 32 := if c = 4 then securityEntry else vget s.kz.boot c &&& ~~~3#32

/-- A logical core starts on its physical core with the registers of R326 and a cause; its IPEND clears. -/
def coreStart (c : Fin 6) (cause : Fin 4) (pc : BitVec 32) (s : State) : State :=
  match s.physOf c with
  | none => s
  | some p =>
    let s := { s with kz := { s.kz with cause := vset s.kz.cause c cause, ipend := vset s.kz.ipend c 0, run := vset s.kz.run c true } }
    kmod p (·.started pc) s

/-- After a double fault or a second watchdog expiry the core's image starts again with CORE_CAUSE 2: core 4 at its
security entry, core 0 at the substitution entry (R348). -/
def coreRestart (c : Fin 6) (s : State) : State := coreStart c 2 (if c = 0 then substitutionEntry else s.bootPc c) s

/-- CORE_RUN_WRITE: 1 starts the core at CORE_BOOT under R326, 0 stops it at the next instruction boundary; core 0's RUN ignores writes
(R363). -/
def coreRunWrite (l : Fin 6) (run : Bool) (s : State) : State :=
  if l = 0 then s
  else match s.physOf l with
    | none => s
    | some p =>
      if run then (if (vget s.kz.phys p).halted then coreStart l 0 (s.bootPc l) s else s)
      else coreStop l p { s with kz := { s.kz with run := vset s.kz.run l false } }

def execCoreRunWrite (l : Fin 6) (run : Bool) (s : State) : Out := .next (coreRunWrite l run s)

/-- A write to a core's microcode RAM: taken while the logical core it holds has RUN = 0, else ignored with KZC_STAT.VIOL
(R358). -/
def microcodeWrite (l : Fin 6) (off : Fin 512) (v : BitVec 32) (s : State) : State :=
  if vget s.kz.run l then s.flag kzcStat 4
  else match s.physOf l with
    | none => s
    | some p => kmod p (fun k => { k with
        ucode := if v = 0 then alDel k.ucode off.1 else alPut k.ucode off.1 v, ucodeBad := k.ucodeBad.filter (· != off.1) }) s

def execMicrocodeWrite (l : Fin 6) (off : Fin 512) (v : BitVec 32) (s : State) : Out := .next (microcodeWrite l off v s)

/-! ### Interrupts and the NMI (R349, R350) -/

/-- The priority of a line, in IPRI (R325). -/
def Core.linePri (k : Core) (n : Fin 64) : Nat :=
  field (vget k.ipri (Fin.ofNat 8 (n.1 / 8))).toNat (4 * (n.1 % 8) + 2) (4 * (n.1 % 8))

/-- SW.PRI. -/
def Core.pri (k : Core) : Nat := field k.sw.toNat 14 12

/-- The line that would be taken: pending, with a priority above SW.PRI, the highest priority first and between equals the lowest
number (R349). -/
def bestLine (k : Core) (ipend : BitVec 64) : Option (Fin 64) :=
  (fins 64).foldl (fun best n =>
    if ipend.getLsbD n.1 && decide (k.pri < k.linePri n) then
      match best with
      | none => some n
      | some m => if k.linePri m < k.linePri n then some n else some m
    else best) none

/-- Entry to the interrupt of a line (R347, R349). -/
def Core.interrupt (k : Core) (n : Fin 64) : Core :=
  let p := k.linePri n
  { k with
    tpc := k.pc, tsw := k.sw, tcause := BitVec.ofNat 32 (n.1 + 2 ^ 31),
    sw := BitVec.ofNat 32 (putField (swEntry k.sw).toNat 14 12 p), pc := k.tbase + BitVec.ofNat 32 (0x40 + 0x20 * (p - 1)),
    resv := none, waiting := false }

/-- INTERRUPT_ENTRY: a qualifying line is taken with IE = 1 and TRP = 0, and clears its IPEND bit; otherwise a line that qualifies apart
from IE and TRP only ends a WAIT (R349, R350). -/
def interruptEntry (c : Fin 6) (s : State) : State :=
  match s.physOf c with
  | none => s
  | some p =>
    let k := vget s.kz.phys p
    if k.halted || !s.isOn (coreDomain c) then s
    else match bestLine k (vget s.kz.ipend c) with
      | none => s
      | some n =>
        if k.swBit swIE && !k.swBit swTRP then
          let s := kmod p (·.interrupt n) s
          { s with kz := { s.kz with ipend := vmod s.kz.ipend c (fun q => q &&& ~~~(1#64 <<< n.1)) } }
        else kmod p (fun k => { k with waiting := false }) s

def execInterruptEntry (c : Fin 6) (s : State) : Out := .next (interruptEntry c s)

/-- NMI entry (R347, R350). -/
def Core.nmi (k : Core) : Core :=
  { k with
    npc := k.pc, nsw := k.sw, sw := swSet (swEntry k.sw) swNMIL true, pc := k.tbase + 0x120, resv := none, waiting := false,
    nmiPend := false }

/-- NMI_ENTRY: taken whatever IE, TRP and PRI hold; while NMIL is set it waits for RFT (R350). -/
def nmiEntry (c : Fin 6) (s : State) : State :=
  match s.physOf c with
  | none => s
  | some p =>
    let k := vget s.kz.phys p
    if k.halted || !s.isOn (coreDomain c) then s
    else if k.swBit swNMIL then kmod p (fun k => { k with nmiPend := true }) s
    else kmod p (·.nmi) s

def execNmiEntry (c : Fin 6) (s : State) : Out := .next (nmiEntry c s)

/-- Return from a trap or NMI; an NMI that waited is then taken (R347, R350). -/
def Core.rft (k : Core) : Core :=
  let k := if k.swBit swNMIL then { k with pc := k.npc, sw := k.nsw, resv := none } else { k with pc := k.tpc, sw := k.tsw, resv := none }
  if k.nmiPend && !k.swBit swNMIL then k.nmi else k

/-- RFT: PRIV in task mode (R336, R347). -/
def rft (c : Fin 6) (s : State) : State :=
  kzRun c 3 (fun p s =>
    let k := vget s.kz.phys p
    if !k.sys then .exc s excPriv
    else let k' := k.rft
      .jump (kmod p (fun _ => k') s) k'.pc) s

def execRft (c : Fin 6) (s : State) : Out := .next (rft c s)

end Sys2Proof.Machine
end

