-- ==== Sys2Proof/Machine/Cmc.lean ====
section
/-! DEFINITION. The CMAC engine (R299 to R305), the public-key and hash engine (R306, R307, R320), attestation (R317, R318), and the
security tests (R322). -/

namespace Sys2Proof.Machine

/-- The registers of CMC page `p`. -/
def page (p : Fin 8) : Nat := 0x40080000 + 0x1000 * p.1

/-- The number of a master in the violation records: logical cores 0 to 5, 6 the update engine, 7 a block (log entry 32). -/
def masterId : Master → Nat
  | .core c _ => c.1
  | .engine => 6
  | .block => 7

/-- The master that owns a page; pages 0 and 1 are driven by their blocks through ports of their own (R299, R300). -/
def pageOwner (p : Fin 8) : Option Nat := match p.1 with
  | 2 => some 0 | 3 => some 1 | 4 => some 4 | 5 => some 6 | 6 => some 7 | 7 => some 5 | _ => none

def ownsPage (m : Master) (p : Fin 8) : Bool := pageOwner p == some (masterId m)

/-- A violation recorded: the count, the master, and what else the register tells; both counts make VIOLATION_COUNT (R300, R307,
R322). -/
def violation (reg info : Nat) (s : State) : State :=
  (s.setRegN reg (info % 0x10000 + 0x10000 * satAdd 0xFFFF (s.regF reg 31 16) 1)).dBump 0x3000 0x40

def cmcViol (m : Master) (p : Fin 8) (s : State) : State := violation 0x40084890 (p.1 + 256 * masterId m) s
def pkeViol (m : Master) (s : State) : State := violation 0x40090200 (256 * masterId m) s

/-! ### Pages -/

/-- The bytes of a page key (R301); AES-128 or AES-256 by KEY_SIZE (log entry 33). -/
def State.pageKey (s : State) (p : Fin 8) : List Byte := ((vget s.sec.pkey p).toList.flatMap (fun w => leBytes 4 w.toNat)).take s.keyBytes

/-- The third of the network keys that holds an epoch. -/
def State.thirdOf (s : State) (e : BitVec 16) : Option Nat := (List.range 3).find? (fun w => s.epochOf w == some e)

/-- The key of a page's command, or why it is refused: DERIVE takes the node key of NODE and EPOCH; a slot outside its mask, or a
DERIVE_ONLY slot, is DENIED (R283, R301). -/
def pageJobKey (p : Fin 8) (s : State) : Except Status (List Byte) :=
  let sel := s.regF (page p) 4 0
  if s.regB (page p) 5 then
    match s.thirdOf (BitVec.ofNat 16 (s.regN (page p + 0xC))) with
    | none => .error stNotReady
    | some w => match s.keyOf p.1 0 w with
      | none => .error (if s.hasKey 0 w then stDenied else stNotReady)
      | some k => .ok (kdf k false (s.regN (page p + 8)) (s.regN (page p + 0xC)) 0)
  else if sel = 16 then .ok (s.pageKey p)
  else if 15 ≤ sel then .error stDenied
  else
    let k := vget s.sec.slots (Fin.ofNat 16 sel)
    if !k.valid then .error stNotReady else if !k.mask.getLsbD p.1 || k.deriveOnly then .error stDenied else .ok k.key

def jobSet (p : Fin 8) (j : Option CmcJob) (s : State) : State := secMod (fun x => { x with jobs := vset x.jobs p j }) s

/-- CMC_PSTAT: a job runs. -/
def pstatBusy (p : Fin 8) (s : State) : State := (s.setRegN (page p + 4) 0x100).setRegN (page p + 0x64) 0

/-- CMC_PSTAT: the job has ended with a status. -/
def pstatEnd (p : Fin 8) (st : Status) (s : State) : State := jobSet p none (s.setRegN (page p + 4) (0x400 + st.toNat))

/-- A page of the background class works: some job has blocks left and is not suspended. -/
def Sec.running (x : Sec) (p : Fin 8) : Bool := match vget x.jobs p with | some j => !j.susp && decide (j.done < j.total) | none => false

/-- A job begins; the idle datapath turns to it (R301, R302). -/
def jobStart (p : Fin 8) (j : CmcJob) (s : State) : State :=
  let s := pstatBusy p s
  let s := if s.sec.running s.sec.turn || !s.sec.urgent.isEmpty then s else secMod (fun x => { x with turn := p, turnCnt := 0 }) s
  jobSet p (some j) s

/-- AES blocks of a CMAC over `n` bytes (R303). -/
def cmacBlocks (n : Nat) : Nat := max 1 ((n + 15) / 16)

/-- A message of SRAM or DRAM that can be read (R301). -/
def messageOk (a n : Nat) (s : State) : Bool :=
  n == 0 || (let f := fun x => match s.region x with | .sram => true | .dram _ => true | _ => false
    f a && f (a + n - 1))

/-- A command of a background page (R301): refused with BUSY while its job runs; ABORT ends the job. -/
def cmcCommand (p : Fin 8) (cmd : Fin 8) (s : State) : State :=
  let b := page p
  let addr := s.regN (b + 0x10)
  let len := s.regF (b + 0x14) 23 0
  if cmd = 0 then (if (vget s.sec.jobs p).isSome then pstatEnd p stAborted s else s)
  else if (vget s.sec.jobs p).isSome then s.setRegF (b + 4) 7 0 stBusy.toNat
  else if cmd = 1 ∨ cmd = 2 then
    match pageJobKey p s with
    | .error st => pstatEnd p st s
    | .ok k =>
      if !messageOk addr len s then pstatEnd p stRange s
      else jobStart p { cmd := cmd, key := k, addr := addr, len := len, total := cmacBlocks len } s
  else if cmd = 3 then
    if p.1 < 2 ∨ 4 < p.1 then pstatEnd p stDenied s
    else
      let relay := s.regB b 6
      match wrapImage p.1 relay (s.regN (b + 8)) s with
      | (st, out) =>
        if st ≠ stOk then pstatEnd p st s
        else jobStart p { cmd := cmd, key := [], addr := addr, total := (if relay then (if s.keyBytes = 32 then 10 else 8)
          else if s.keyBytes = 32 then 30 else 22), out := out } s
  else if cmd = 4 then
    let k := s.pageKey p
    if s.regB b 5 then
      jobStart p { cmd := cmd, key := k, total := k.length / 16, out := kdf k false (s.regN (b + 8)) (s.regN (b + 0xC)) 0 } s
    else if !messageOk addr len s then pstatEnd p stRange s
    else jobStart p { cmd := cmd, key := k, addr := addr, len := len, total := cmacBlocks len } s
  else s

/-- A write of CMC_CMD by a master: by another than the page's owner it is ignored and recorded (R300). -/
def cmcWrite (m : Master) (p : Fin 8) (cmd : Fin 8) (s : State) : State :=
  if !s.isOn dSEC then s else if ownsPage m p then cmcCommand p cmd s else cmcViol m p s

def execCmcAbort (m : Master) (p : Fin 8) (s : State) : Out := .next (cmcWrite m p 0 s)
def execCmcGen (m : Master) (p : Fin 8) (s : State) : Out := .next (cmcWrite m p 1 s)
def execCmcVerify (m : Master) (p : Fin 8) (s : State) : Out := .next (cmcWrite m p 2 s)
def execCmcWrap (m : Master) (p : Fin 8) (s : State) : Out := .next (cmcWrite m p 3 s)
def execCmcTest (m : Master) (p : Fin 8) (s : State) : Out := .next (cmcWrite m p 4 s)

/-- An urgent job of page 0 or 1 asked for: the count of urgent jobs, and the queue in order of arrival (R302). -/
def urgentAsk (pg : Fin 2) (lane : Fin 33) (blocks : Nat) (s : State) : State :=
  (secMod (fun x => { x with urgent := x.urgent ++ [{ page := pg, lane := lane, left := blocks }] }) s).bump 0x400848A0

/-- One block of a background job: its chaining value and position (R302). -/
def CmcJob.step (j : CmcJob) (s : State) : CmcJob :=
  let m := s.rdBytes (j.addr + 16 * j.done) (min 16 (j.len - 16 * j.done))
  let chain := if j.cmd = 3 ∨ j.out ≠ [] then j.chain
    else if j.done + 1 = j.total then aesBlock j.key (xorBytes j.chain (cmacLast (beNat (aesBlock j.key (List.replicate 16 0))) m))
    else aesBlock j.key (xorBytes j.chain m)
  { j with chain := chain, done := j.done + 1 }

/-- The next page in round-robin order after `p` whose job has blocks left. -/
def nextPage (x : Sec) (p : Fin 8) : Option (Fin 8) :=
  ((List.range 8).map (fun i => Fin.ofNat 8 (p.1 + 1 + i))).find? (fun q =>
    match vget x.jobs q with | some j => decide (j.done < j.total) | none => false)

/-- PSTAT.SUSP follows the job. -/
def suspend (v : Bool) (p : Fin 8) (s : State) : State :=
  match vget s.sec.jobs p with
  | some j => (jobSet p (some { j with susp := v }) s).setRegF (page p + 4) 9 9 (b2n v)
  | none => s

/-- Urgent jobs waiting: page 0 before page 1, in order of arrival, and within an instant by lane (R302). -/
def urgentOrder (l : List Urgent) : List Urgent := l.filter (fun u => u.page == 0) ++ l.filter (fun u => u.page == 1)

/-- The block that ends is a background one when a page's job runs, and else the first urgent job's. -/
def blockEnds (s : State) : State :=
  let p := s.sec.turn
  if s.sec.running p then
    match vget s.sec.jobs p with
    | some j => (secMod (fun x => { x with turnCnt := x.turnCnt + 1 }) (jobSet p (some (j.step s)) s)).setRegN (page p + 0x64) (j.done + 1)
    | none => s
  else match s.sec.urgent with
    | [] => s
    | u :: r => secMod (fun x => { x with urgent := if u.left ≤ 1 then urgentOrder r else { u with left := u.left - 1 } :: r }) s

/-- CMC_BLOCK_DONE: a block ends and the engine gives the next one: an urgent job first, which suspends the background job at this
boundary; else the background pages in round robin, 64 blocks at a time (R302). -/
def cmcBlockDone (s : State) : State :=
  let s := blockEnds s
  let p := s.sec.turn
  if !s.sec.urgent.isEmpty then
    if s.sec.running p then (suspend true p s).bump 0x400848A4 else s
  else
    let keep := s.sec.turnCnt < 64 && (match vget s.sec.jobs p with | some j => decide (j.done < j.total) | none => false)
    match (if keep then some p else nextPage s.sec p) with
    | none => s
    | some q => suspend false q (secMod (fun x => { x with turn := q, turnCnt := if keep then x.turnCnt else 0 }) s)

def execCmcBlockDone (s : State) : Out := .next (cmcBlockDone s)

/-- CMC_MAC0 to 3, MAC0 the least significant word. -/
def putMac (p : Fin 8) (mac : List Byte) (s : State) : State :=
  foldS (fun i s => s.setRegN (page p + 0x20 + 4 * i) (beNat (mac.take 16) / 2 ^ (32 * i) % 2 ^ 32)) (List.range 4) s

/-- CMC_JOB_DONE: a job whose blocks are all done completes (R301). -/
def cmcJobDone (p : Fin 8) (s : State) : State :=
  match vget s.sec.jobs p with
  | none => s
  | some j =>
    if j.done < j.total then s
    else if j.cmd = 2 then
      let want := s.regN (page p + 0x30) + s.regN (page p + 0x34) * 2 ^ 32
      pstatEnd p (if beNat (j.chain.take 8) = want then stOk else stAuthFail) (putMac p (List.replicate 16 0) s)
    else if j.cmd = 3 then pstatEnd p stOk (if messageOk j.addr j.out.length s then s.dmaWrite j.addr j.out else s)
    else pstatEnd p stOk (putMac p (if j.out = [] then j.chain else j.out) s)

def execCmcJobDone (p : Fin 8) (s : State) : Out := .next (cmcJobDone p s)

/-- KS_LOAD and KS_ERASE act for core 4 alone, the owner of page 4 (R283). -/
def forCore4 (m : Master) (f : State → State) (s : State) : State :=
  if !s.isOn dSEC then s else if ownsPage m 4 then f s else cmcViol m 4 s

/-- KS_LOAD: slot 0 to 14 takes the staged key with its mask and flags (R283, R319). -/
def ksLoad (v : BitVec 32) (s : State) : State :=
  let n := field v.toNat 3 0
  if n = 15 then s
  else
    let big := bit v.toNat 4
    let k := (s.sec.stage.toList.flatMap (fun w => leBytes 4 w.toNat)).take (if big then 32 else 16)
    storeArea (loadSlot (Fin.ofNat 16 n) {
      key := k, mask := BitVec.ofNat 8 (field v.toNat 15 8), valid := true, aes256 := big, deriveOnly := bit v.toNat 5 } s)

def execKsLoad (m : Master) (v : BitVec 32) (s : State) : Out := .next (forCore4 m (ksLoad v) s)

/-- KS_ERASE: the named slots (R283, R319). -/
def ksErase (v : BitVec 32) (s : State) : State :=
  storeArea (foldS (fun i s => if v.getLsbD i then loadSlot (Fin.ofNat 16 i) {} s else s) (List.range 15) s)

def execKsErase (m : Master) (v : BitVec 32) (s : State) : Out := .next (forCore4 m (ksErase v) s)

/-! ### The PKE -/

def pke : Nat := 0x40090000

/-- Bytes held in registers, byte 4i + j in bits [8j+7:8j] of register i (R18). -/
def State.regBytes (s : State) (a n : Nat) : List Byte := ((List.range (n / 4)).flatMap (fun i => leBytes 4 (s.regN (a + 4 * i))))

def putRegBytes (a : Nat) (bs : List Byte) (s : State) : State :=
  foldS (fun i s => s.setReg (a + 4 * i) (wordOf (bs.drop (4 * i)))) (List.range (bs.length / 4)) s

/-- A user of the hash unit and of verification: core 0, core 4, the update engine (R307). -/
def pkeUser (m : Master) : Bool := masterId m == 0 || masterId m == 4 || masterId m == 6

/-- PKE_V_STAT or PKE_S_STAT: BUSY, QUEUED, or DONE with a status. -/
def pkeStat (a st : Nat) (s : State) : State := s.setRegN a st

/-- A hash job: start takes a new message, continue adds to it, final finishes it (R307, R320). One runs at a time. -/
def hashJob (cmd : Nat) (s : State) : State :=
  if s.sec.hashRun.isSome then s.setRegF (pke + 4) 7 0 stBusy.toNat
  else
    let bs := s.rdBytes (s.regN (pke + 8)) (s.regN (pke + 0xC))
    let msg := if cmd = 1 then bs else if cmd = 2 then s.sec.hashMsg ++ bs else s.sec.hashMsg
    pkeStat (pke + 4) 0x100 (secMod (fun x => { x with hashMsg := msg, hashRun := some (cmd == 3) }) s)

/-- A job of the point unit, in order of arrival (R307). -/
def pointJob (j : PointJob) (s : State) : State :=
  let q := !s.sec.points.isEmpty
  let a := if j = .sign then pke + 0x804 else pke + 4
  let s := secMod (fun x => { x with points := x.points ++ [j] }) s
  if j = .attest then s else pkeStat a (0x100 + 0x400 * b2n q) s

/-- A write of PKE_V_CMD or PKE_S_CMD (R307, R320). -/
def pkeCommand (m : Master) (sign : Bool) (cmd : Nat) (s : State) : State :=
  if !s.isOn dSEC then s
  else if sign then (if masterId m = 4 then (if cmd = 1 then pointJob .sign s else s) else pkeViol m s)
  else if !pkeUser m then pkeViol m s
  else if 1 ≤ cmd ∧ cmd ≤ 3 then hashJob cmd s
  else if cmd = 4 then pointJob .verify s
  else s

def execPkeHashStart (m : Master) (s : State) : Out := .next (pkeCommand m false 1 s)
def execPkeHashContinue (m : Master) (s : State) : Out := .next (pkeCommand m false 2 s)
def execPkeHashFinal (m : Master) (s : State) : Out := .next (pkeCommand m false 3 s)
def execPkeVerify (m : Master) (s : State) : Out := .next (pkeCommand m false 4 s)
def execPkeSign (m : Master) (s : State) : Out := .next (pkeCommand m true 1 s)

/-- The identity key (R282, R310). -/
def State.identityKey (s : State) : List Byte := s.otpBytes 0x50 48

/-- A hash job completes; a final one writes the digest (R307, R320). -/
def hashDone (s : State) : State :=
  match s.sec.hashRun with
  | none => s
  | some fin =>
    let s := if fin then putRegBytes (pke + 0x10) (sha384 s.sec.hashMsg) s else s
    pkeStat (pke + 4) (0x200 + stOk.toNat) (secMod (fun x => { x with hashRun := none }) s)

/-- The point unit's first job completes (R306, R307). -/
def pointDone (s : State) : State :=
  match s.sec.points with
  | [] => s
  | j :: r =>
    let s := secMod (fun x => { x with points := r }) s
    match j with
    | .verify =>
      let ok := ecdsaVerify (s.regBytes (pke + 0x10) 48) (s.regBytes (pke + 0x40) 96) (s.regBytes (pke + 0xA0) 96)
      pkeStat (pke + 4) (0x200 + (if ok then stOk else stSigBad).toNat) s
    | .sign =>
      pkeStat (pke + 0x804) (0x200 + stOk.toNat) (putRegBytes (pke + 0x840) (ecdsaSign (s.regBytes (pke + 0x810) 48) s.identityKey) s)
    | .attest => s

/-- PKE_JOB_DONE: a job of the hash unit, or of the point unit, completes (R307). -/
def execPkeJobDone (hash : Bool) (s : State) : Out := .next (if hash then hashDone s else pointDone s)

/-! ### Attestation -/

/-- ATT_REQUEST: the nonce is copied and a report begins; BUSY while one is produced (R317). Without core 4 nothing is signed (R308). -/
def attRequest (s : State) : Status × State :=
  if s.sec.att.isSome then (stBusy, s)
  else if !s.core4 then (stOk, s.produceSt 0x1001 4 stNotReady)
  else (stOk, pointJob .attest ((secMod (fun x => { x with att := some (s.dGet 0x1001 1) }) (s.resPend 0x1001 3)).resPend 0x1001 4))

/-- A measurement's 52 bytes (R318). -/
def measureBytes (c : Nat) (m : Measure) : List Byte :=
  [BitVec.ofNat 8 c, m.keySlot] ++ leBytes 2 m.version.toNat ++ (m.hash ++ List.replicate (48 - m.hash.length) 0)

/-- Bytes 0 to 279 of a report (R318). -/
def attBody (nonce : List Byte) (s : State) : List Byte :=
  [0x4F, 0x4D, 0x44, 0x41] ++ leBytes 2 1 ++ leBytes 2 280 ++ s.otpBytes 0 16 ++ nonce ++ leBytes 5 s.absSlot ++
  [BitVec.ofNat 8 s.role, (s.otpBytes 0x10 1).getD 0 0, 4] ++ (List.range 4).map (fun c => BitVec.ofNat 8 (s.rollbackMin c)) ++
  List.replicate 4 0 ++ (fins 4).flatMap (fun c => measureBytes c.1 (vget s.sec.measures c))

/-- ATT_REPORT_DONE: the signed report is ready (R318). -/
def attReportDone (s : State) : State :=
  match s.sec.att with
  | none => s
  | some nonce =>
    let body := attBody nonce s
    let s := secMod (fun x => { x with att := none, points := x.points.filter (fun j => j != .attest) }) s
    (s.produce 0x1001 3 (body ++ ecdsaSign (sha384 body) s.identityKey)).produceSt 0x1001 4 stOk

def execAttReportDone (s : State) : Out := .next (attReportDone s)

/-! ### Tests and re-initialising -/

/-- A new security TEST_REQUEST: BUSY while one runs; else the test starts with the settings as they stand (R322). Without a test key it
ends with NOT_READY (log entry 34). -/
def secTestSet (s : State) : Status × State :=
  if s.sec.test.isSome then (stBusy, s)
  else if s.dGet 0x3000 0x31 = [] then (stOk, (s.produce 0x3000 0x35 []).produceSt 0x3000 0x36 stNotReady)
  else
    let t : SecTest := { cmac := s.dU 0x3000 0x30 == 1, key := s.dGet 0x3000 0x31, param := s.dU 0x3000 0x32, msg := s.dGet 0x3000 0x33 }
    (stOk, (secMod (fun x => { x with test := some t }) (s.resPend 0x3000 0x35)).resPend 0x3000 0x36)

/-- The output of a test (R322). -/
def SecTest.output (t : SecTest) : List Byte :=
  if t.cmac then Sys2Proof.Machine.cmac t.key t.msg else kdf t.key (bit t.param 42) (field t.param 17 0) (field t.param 33 18) (field t.param 41 34)

/-- SECURITY_TEST_DONE: the test completes into TEST_OUT and TEST_STATUS (R322). -/
def secTestDone (s : State) : State :=
  match s.sec.test with
  | none => s
  | some t => ((secMod (fun x => { x with test := none }) s).produce 0x3000 0x35 t.output).produceSt 0x3000 0x36 stOk

def execSecurityTestDone (s : State) : Out := .next (secTestDone s)

/-- Function 10 re-initialised: every job ends, a background one with FUNCTION_RESET; the key store stays (R305). -/
def cmcReinit (s : State) : State :=
  let s := foldS (fun p s => if (vget s.sec.jobs p).isSome then pstatEnd p stFnReset s else s) (fins 8) s
  let s := secMod (fun x => { x with urgent := [] }) s
  match s.sec.test with
  | some _ => (secMod (fun x => { x with test := none }) s).produceSt 0x3000 0x36 stFnReset
  | none => s

/-- Function 11 re-initialised: both jobs of the PKE end with FUNCTION_RESET, and a report in production with them (R307). -/
def pkeReinit (s : State) : State :=
  let s := if s.sec.hashRun.isSome || s.sec.points.contains .verify then pkeStat (pke + 4) (0x200 + stFnReset.toNat) s else s
  let s := if s.sec.points.contains .sign then pkeStat (pke + 0x804) (0x200 + stFnReset.toNat) s else s
  let s := if s.sec.att.isSome then s.produceSt 0x1001 4 stFnReset else s
  secMod (fun x => { x with hashRun := none, hashMsg := [], points := [], att := none }) s

end Sys2Proof.Machine
end

