-- ==== Sys2Proof/Machine/Txm.lean ====
section
/-! DEFINITION. The transmit modulator: grants (R199 to R201), the fixing and the end of a burst (R196 to R198, R209), and
pre-distortion (R203 to R207, R211). -/

namespace Sys2Proof.Machine

def txmMod (f : Txm → Txm) (s : State) : State := { s with txm := f s.txm }

def txmStat : Nat := 0x40140020

/-- CARc_CFG. -/
def carCfg (c : Fin 8) : Nat := 0x40140100 + 0x20 * c.1

/-- CARc_STAT. -/
def carStat (c : Fin 8) : Nat := carCfg c + 0x1C

/-- TXM_BANDb. -/
def bandReg (b : Fin 4) : Nat := 0x40140050 + 4 * b.1

/-- TXM_COEFb word i. -/
def coefReg (b : Fin 4) (i : Nat) : Nat := 0x40140800 + 0x40 * b.1 + 4 * i

/-- Wideband mode: the roles of a root, a standby and a worker (R118). -/
def State.wide (s : State) : Bool := s.bigRole

/-- EPA_GAIN in 0.5 dB, and whether an external PA is declared (R141, R143). -/
def State.epa (s : State) : Bool := s.dU 0x2100 0x30 == 1
def State.epaGain (s : State) : Int := s.dI 0x2100 0x31

/-- The fifteen coefficients of a band's set as held now. -/
def State.coefSet (s : State) (b : Fin 4) : List (BitVec 32) := (List.range 15).map (fun i => s.reg (coefReg b i))

/-- A band's set replaced. -/
def putCoefs (b : Fin 4) (l : List (BitVec 32)) (s : State) : State :=
  foldS (fun i s => s.setReg (coefReg b i) (l.getD i 0)) (List.range 15) s

/-- The identity set: a(0, 0) = 1 (R203). -/
def identitySet : List (BitVec 32) := 0x10000000#32 :: List.replicate 14 0

/-- The band maximum and the ceiling floor, in 0.5 dBm (R203). -/
def bandMax (s : State) (b : Fin 4) : Int := match b with
  | 0 => 0 | 1 => 27 | 2 => 40 | 3 => min 60 (s.epaGain + 20)
def bandFloor (s : State) (b : Fin 4) : Int := match b with
  | 0 => 0 | 1 => 16 | 2 => 28 | 3 => s.epaGain - 20

/-- The ceiling of a band. -/
def State.ceiling (s : State) (b : Fin 4) : Int := signed 8 (s.regN (bandReg b))

def setCeiling (b : Fin 4) (v : Int) (s : State) : State := s.setRegF (bandReg b) 7 0 (unsigned 8 v)

/-- DPD_CONVERGED and DPD_CEIL follow the bands (R211). -/
def syncBands (s : State) : State :=
  let conv := (fins 4).foldl (fun a b => a + (if s.regB (bandReg b) 31 then 2 ^ b.1 else 0)) 0
  let ceil := (fins 4).foldl (fun a b => a + s.regF (bandReg b) 7 0 * 256 ^ b.1) 0
  (s.dPut 0x2200 0x48 conv).dPut 0x2200 0x49 ceil

/-- The band of a power (R199, R203). -/
def bandOf (s : State) (p : Int) : Fin 4 := if s.epa then 3 else if p < 16 then 0 else if p < 28 then 1 else 2

/-- The range a command's power is clamped to (R130, R143). -/
def powerRange (s : State) : Int × Int := if s.epa then (s.epaGain - 20, min 60 (s.epaGain + 20)) else (-40, 40)

/-- 10^(-k / 20) in units of 10^-12, for an offset of k half-decibels (R199). -/
def offsetScale (k : Nat) : Nat :=
  ([1000000000000, 944060876286, 891250938134, 841395141645, 794328234724, 749894209332, 707945784384, 668343917569, 630957344480,
    595662143529, 562341325190, 530884444231, 501187233627, 473151258961, 446683592151, 421696503429, 398107170553, 375837404288,
    354813389234, 334965439158, 316227766017, 298538261892, 281838293126, 266072505980, 251188643151] : List Nat).getD k 1000000000000

/-- Half-decibels of 20 log10 X rounded to the nearest, X in units of 10^-12 between 1 and 8: the greatest n with
10^((2n − 1) / 40) at most X. -/
def halfDecibels (x : Nat) : Nat :=
  (List.range 20).foldl (fun best n => if 10 ^ (2 * n + 1) * (10 ^ 12) ^ 40 ≤ x ^ 40 then n + 1 else best) 0

/-- The offset of a carrier in half-decibels below, 0 to 24; other values act as 0 (R210). -/
def carOffset (c : Fin 8) (s : State) : Nat :=
  let o := signed 8 (s.regF (carCfg c) 23 16)
  if -24 ≤ o ∧ o ≤ 0 then (-o).toNat else 0

/-- Band 3's ceiling is clamped into the range that EPA_GAIN gives now (R203). -/
def clampBand3 (s : State) : State :=
  syncBands (setCeiling 3 (clampI (bandFloor s 3) (bandMax s 3) (s.ceiling 3)) s)

/-- A grant for P (0.5 dBm) and N carriers (R199, R201). During a transmission it is answered from the frozen state (R209). -/
def grantFor (p : Int) (n : Nat) (s : State) : State :=
  let s := if s.epa then clampBand3 s else s
  let cap := s.dI 0x2200 0x40
  let p1 := min p cap
  let p2 := if s.rf.mismatch then p1 - 12 else p1
  let b := bandOf s p2
  let frozen := if s.txm.onAir then s.txm.burstGrant else none
  let ceil := match frozen with | some g => if g.band = b then g.ceiling else s.ceiling b | none => s.ceiling b
  let coefs := match frozen with | some g => if g.band = b then g.coefs else s.coefSet b | none => s.coefSet b
  let capped := decide (2 ≤ n) && decide (b ≠ 0) && decide (ceil < p2)
  let p3 := if capped then ceil else p2
  let p4 := clampI (powerRange s).1 (powerRange s).2 p3
  let cars := (fins 8).take n
  let sum := cars.foldl (fun a c => a + offsetScale (carOffset c s)) 0
  let shares := cars.map (fun c => p4 - (halfDecibels sum : Int) - (carOffset c s : Int))
  let g : Grant := { power := p4, band := b, n := n, ceiling := ceil, coefs := if b = 0 then identitySet else coefs, shares := shares }
  let s := txmMod (fun t => { t with grant := some g }) s
  let s := s.setRegN 0x4014000C (unsigned 8 p4 + 256 * b.1 + 0x10000 * b2n capped + 0x20000 * b2n (decide (cap < p)) + 0x40000 * b2n s.rf.mismatch)
  let s := foldS (fun c s => s.setRegF (carStat c) 31 24 (unsigned 8 (shares.getD c.1 0))) cars s
  if p4 ≠ p3 then s.flag 0x40100020 9 else s

/-- GRANT_REQUEST: a write of TXM_GRANT_REQ, by the link controller or by firmware; while the link controller's domain is on, core
writes to it are ignored (R199, R210). -/
def grantRequest (lnk : Bool) (v : BitVec 32) (s : State) : State :=
  if !lnk && s.owns dRADIO then s
  else grantFor (signed 8 v.toNat) (field v.toNat 10 8 + 1) (s.setReg 0x40140008 (v &&& 0x7FF))

def execGrantRequest (lnk : Bool) (v : BitVec 32) (s : State) : Out := .next (grantRequest lnk v s)

/-! ### The burst -/

/-- The status of a carrier in CARc_STAT. -/
def carStatus (c : Fin 8) (st : Status) (s : State) : State := s.setRegF (carStat c) 23 16 st.toNat

/-- Header bytes 0 to 13 of a descriptor (R210). -/
def carHeader (c : Fin 8) (s : State) : List Byte :=
  (leBytes 4 (s.regN (carCfg c + 4)) ++ leBytes 4 (s.regN (carCfg c + 8)) ++ leBytes 4 (s.regN (carCfg c + 12)) ++
    leBytes 4 (s.regN (carCfg c + 16))).take 14

/-- S of a descriptor. -/
def carSlot (c : Fin 8) (s : State) : Nat := s.regN (carCfg c + 0x18) + s.regF (carStat c) 7 0 * 2 ^ 32

/-- The carrier a descriptor describes, with its block copied from memory (R197). -/
def carrierOf (c : Fin 8) (s : State) : Carrier :=
  let w := s.regN (carCfg c)
  { num := c, chan := field w 7 0, m := field w 10 8, zsel := field w 12 11, rate := field w 14 13, slot := carSlot c s, hdr := carHeader c s,
    block := if (vget s.lnk.blocks c).isEmpty then s.rdBytes (s.regN (carCfg c + 0x14)) (zOf (field w 12 11)) else vget s.lnk.blocks c }

/-- Why a carrier is left out of a burst of `n` whose lower carriers keep the channels `kept` (R196). -/
def carrierFault (c : Fin 8) (n : Nat) (kept : List Carrier) (s : State) : Option Status :=
  let w := s.regN (carCfg c)
  let h := Hdr.ofBytes (carHeader c s)
  if !bit w 31 then some stLate
  else if !s.regB 0x40140000 1 then some stRegulatory
  else if !s.channelOpen (field w 7 0) then some stRegulatory
  else if kept.any (fun k => k.chan == field w 7 0) then some stRange
  else if n ≤ c.1 || (!s.wide && c != 0) then some stRange
  else if field w 12 11 = 3 ∨ field w 14 13 = 3 ∨ lenLimit (field w 12 11) < h.len then some stRange
  else none

/-- A carrier left out: its status, and for LATE the flag and the counts (R196, R211). -/
def leaveOut (c : Fin 8) (st : Status) (s : State) : State :=
  let s := carStatus c st s
  if st = stLate then ((s.flag txmStat 1).bump 0x40140028).dBump 0x2200 0x4C else s

/-- One carrier judged in ascending number. -/
def judgeCarrier (n : Nat) (c : Fin 8) (s : State) : State :=
  if !s.regB (carCfg c) 31 && decide (n ≤ c.1) then s
  else match carrierFault c n s.txm.burst s with
    | some st => leaveOut c st s
    | none => carStatus c stOk (txmMod (fun t => { t with burst := t.burst ++ [carrierOf c s] }) s)

/-- BURST_FIX: the TX trigger fires; the set of carriers is fixed and their blocks are copied (R197). -/
def burstFix (s : State) : State :=
  let n := match s.txm.grant with | some g => g.n | none => 0
  let s := txmMod (fun t => { t with burst := [], burstGrant := t.grant, onAir := false }) s
  let s := foldS (judgeCarrier n) (fins 8) s
  let s := txmMod (fun t => { t with count := t.burst.length }) s
  if s.txm.burst.isEmpty then s.flag txmStat 4 else s

/-- VALID of every descriptor clears when the burst ends (R210). -/
def clearValid (s : State) : State := foldS (fun c s => s.setRegF (carCfg c) 31 31 0) (fins 8) s

/-- First chips leave (R122, R211). -/
def burstOnAir (s : State) : State :=
  if s.txm.burst.isEmpty then s
  else
    let s := txmMod (fun t => { t with onAir := true }) s
    ((s.setRegF 0x40140004 3 0 s.txm.burst.length).bump 0x40140024).dBump 0x2200 0x4B

/-- The burst has ended: nothing is on air. -/
def burstOver (s : State) : State :=
  clearValid ((txmMod (fun t => { t with burst := [], onAir := false, burstGrant := none }) s).setRegF 0x40140004 3 0 0)

/-- The burst is ended early: each carrier takes LATE when no chip has left, else the event's status; no adaptation (R209). -/
def burstCut (st : Status) (s : State) : State :=
  if s.txm.burst.isEmpty then burstOver s
  else
    let st' := if s.txm.onAir then st else stLate
    let s := s.txm.burst.foldl (fun s k => carStatus k.num st' s) s
    burstOver ((txmMod (fun t => { t with fit := none }) s).flag txmStat 3)

/-- The sequencer drops the TX command as LATE: descriptors are discarded, no chip is sent (R209). -/
def burstLate (s : State) : State := burstOver (s.txm.burst.foldl (fun s k => leaveOut k.num stLate s) s)

/-- A carrier removed by a mask change while the command waits (R129). -/
def burstMask (s : State) : State :=
  let gone := s.txm.burst.filter (fun k => !s.channelOpen k.chan)
  let s := gone.foldl (fun s k => carStatus k.num stRegulatory s) s
  txmMod (fun t => { t with burst := t.burst.filter (fun k => !gone.contains k) }) s

/-! ### Pre-distortion -/

/-- Pre-distortion is applied to the present burst (R204). -/
def predistorted (s : State) : Option (Fin 4) :=
  match s.txm.burstGrant with
  | some g => if g.band ≠ 0 ∧ (s.wide || s.dU 0x2200 0x44 == 1) then some g.band else none
  | none => none

/-- DPD_FEEDBACK_WINDOW: the window closes on a pre-distorted transmission and the fit starts (R206), unless ADAPT is 0 (R210). -/
def dpdWindow (s : State) : State :=
  match predistorted s with
  | some b =>
    if s.txm.onAir && s.dU 0x2200 0x47 == 1 then
      (txmMod (fun t => { t with fit := some (b, decide (2 ≤ t.count)) }) s).setRegF 0x40140004 5 5 1
    else s
  | none => s

def execDpdFeedbackWindow (s : State) : Out := .next (dpdWindow s)

/-- One half of a coefficient moved from `o` toward `f` by mu = 1 / `m`, rounded to the nearest (log entry 22). -/
def adaptHalf (m : Nat) (o f : Int) : Int := o + roundDiv (f - o) m

def adaptWord (m : Nat) (o f : BitVec 32) : BitVec 32 :=
  let re := adaptHalf m (signed 16 (o.toNat / 65536)) (signed 16 (f.toNat / 65536))
  let im := adaptHalf m (signed 16 o.toNat) (signed 16 f.toNat)
  BitVec.ofNat 32 (unsigned 16 re * 65536 + unsigned 16 im)

/-- The divisor of DPD_MU: half, quarter, eighth; 3 acts as half (R206, R210). -/
def muDiv (s : State) : Nat := match s.dU 0x2200 0x43 with
  | 1 => 4 | 2 => 8 | _ => 2

/-- A pass: the ceiling rises by 0.5 dB up to the band maximum, the set is the last good, and three passes in a row converge (R207). -/
def dpdPass (b : Fin 4) (new : List (BitVec 32)) (s : State) : State :=
  let s := setCeiling b (min (bandMax s b) (s.ceiling b + 1)) s
  let run := min 3 (s.regF (bandReg b) 9 8 + 1)
  let s := s.setRegF (bandReg b) 9 8 run
  let s := if run = 3 then s.setRegF (bandReg b) 31 31 1 else s
  putCoefs b new (txmMod (fun t => { t with lastGood := vset t.lastGood b new }) s)

/-- A fail: the ceiling falls by 1 dB down to the floor, the set reverts, CONVERGED clears, and the alarm counts (R207). -/
def dpdFail (b : Fin 4) (s : State) : State :=
  let s := setCeiling b (max (bandFloor s b) (s.ceiling b - 2)) s
  let s := (s.setRegF (bandReg b) 9 8 0).setRegF (bandReg b) 31 31 0
  putCoefs b (vget s.txm.lastGood b) (((s.flag txmStat 2).bump 0x4014002C).dBump 0x2200 0x4D)

/-- DPD_FIT_DONE: the band's set adapts, and on a multi-carrier transmission the verdict moves its ceiling (R206, R207). `fit` is the
fitted set, `aclr` the measured emission in 0.25 dB, `levelOff` that the feedback level is off by 10 dB or more. -/
def dpdFitDone (fit : List (BitVec 32)) (aclr : BitVec 16) (levelOff : Bool) (s : State) : State :=
  match s.txm.fit with
  | none => s
  | some (b, multi) =>
    let s := (txmMod (fun t => { t with fit := none }) s).setRegF 0x40140004 5 5 0
    if levelOff then s
    else
      let new := (List.range 15).map (fun i => adaptWord (muDiv s) (s.reg (coefReg b i)) (fit.getD i 0))
      let a := aclr.toInt
      let s := (s.setRegN 0x40140030 aclr.toNat).dPut 0x2200 0x4A aclr.toNat
      if !multi then putCoefs b new s
      else if a ≤ -4 * (s.dU 0x2200 0x42 : Int) then syncBands (dpdPass b new s)
      else if -120 < a then syncBands (dpdFail b s)
      else putCoefs b new (s.setRegF (bandReg b) 9 8 0)

def execDpdFitDone (fit : List (BitVec 32)) (aclr : BitVec 16) (levelOff : Bool) (s : State) : Out := .next (dpdFitDone fit aclr levelOff s)

/-- A band's 64 bytes of DPD_COEF: fifteen words, then the ceiling (R211, log entry 23). -/
def bandBytes (b : Fin 4) (s : State) : List Byte := (s.coefSet b).flatMap (fun w => leBytes 4 w.toNat) ++ leBytes 4 (s.regF (bandReg b) 7 0)

/-- The sets of every CONVERGED band are copied into DPD_COEF; the others keep what it held (R211). -/
def dpdCopy (s : State) : State :=
  let old := s.dGet 0x2200 0x45
  let old := if old.length = 256 then old else (fins 4).flatMap (fun _ => identitySet.flatMap (fun w => leBytes 4 w.toNat) ++ leBytes 4 0)
  s.dSet 0x2200 0x45 ((fins 4).flatMap (fun b => if s.regB (bandReg b) 31 then bandBytes b s else (old.drop (64 * b.1)).take 64))

/-- DPD_COEF loaded into the sets of bands 1 to 3; their ceilings start at the band maximum (R207). -/
def dpdLoad (v : List Byte) (s : State) : State :=
  let s := s.dSet 0x2200 0x45 v
  syncBands (foldS (fun (b : Fin 4) s =>
    if b = 0 then s else setCeiling b (bandMax s b) (putCoefs b ((List.range 15).map (fun i =>
      BitVec.ofNat 32 (leNat ((v.drop (64 * b.1 + 4 * i)).take 4)))) s)) (fins 4) s)

end Sys2Proof.Machine
end

