-- ==== Sys2Proof/Machine/RxBase.lean ====
section
/-! DEFINITION. The receiver's frames and lanes: how they are found, freed and discarded (R156 to R166, R177). -/

namespace Sys2Proof.Machine

def rxMod (f : Rx → Rx) (s : State) : State := { s with rx := f s.rx }

/-- A frame by the receiver's number. -/
def State.frame (s : State) (id : Nat) : Option RxFrame := s.rx.frames.find? (fun f => f.id == id)

/-- The frame on a logical lane. -/
def State.laneFrame (s : State) (l : Fin 32) : Option RxFrame :=
  match vget s.rx.lanes l with
  | some id => s.frame id
  | none => none

/-- One frame changed. -/
def frameMod (id : Nat) (g : RxFrame → RxFrame) (s : State) : State :=
  rxMod (fun r => { r with frames := r.frames.map (fun f => if f.id = id then g f else f) }) s

/-- The lane that a frame holds becomes free. -/
def laneFree (id : Nat) (s : State) : State :=
  rxMod (fun r => { r with lanes := r.lanes.map (fun x => if x = some id then none else x) }) s

/-- A frame leaves the receiver with no report. -/
def frameGone (id : Nat) (s : State) : State :=
  laneFree id (rxMod (fun r => { r with
    frames := r.frames.filter (fun f => f.id != id)
    queue := r.queue.filter (fun c => c.frame != id)
    checking := r.checking.filter (fun c => c.cw.frame != id)
    regens := r.regens.filter (fun x => x != id) }) s)

/-- The counters of R191 that a register and an entry share. -/
def countBoth (reg sub : Nat) (s : State) : State := (s.bump reg).dBump 0x2200 sub

/-- The shadow candidates of a frame that is not regenerated are discarded and counted (R158). -/
def shadowsLost (id : Nat) (s : State) : State :=
  (s.rx.frames.filter (fun f => f.stage == .shadow && f.under == some id)).foldl (fun s f => (frameGone f.id s).bump 0x4011003C) s

/-- Stages in which a frame holds a lane. -/
def RxStage.onLane : RxStage → Bool
  | .sync => true | .header => true | .headerSent => true | .headerBack => true | .payload => true
  | _ => false

/-- A frame is complete with an outcome: its lane is free and it waits for its report (R177). A frame whose header was not accepted
has none. -/
def frameEnd (id outcome : Nat) (s : State) : State :=
  match s.frame id with
  | none => s
  | some f =>
    let s := laneFree id s
    if !f.numbered then shadowsLost id (frameGone id s)
    else
      let s := if f.regen = .window ∨ f.regen = .subtract then s else shadowsLost id s
      rxMod (fun r => { r with ready := r.ready ++ [id] }) (frameMod id (fun f => { f with stage := .done, outcome := outcome }) s)

/-- Reception ends at once: the receiver discards every frame it was receiving from the live stream (R120, R128). -/
def rxDiscard (s : State) : State :=
  (s.rx.frames.filter (fun f => (f.stage.onLane && !f.replay) || f.stage == .queued)).foldl (fun s f => shadowsLost f.id (frameGone f.id s)) s

end Sys2Proof.Machine
end

