-- ==== Sys2Proof/Machine/Rf.lean ====
section
/-! DEFINITION. The radio sequencer (R117 to R129, R536), calibration (R131 to R137), and the antenna sensor and tuner (R138 to R144). -/

namespace Sys2Proof.Machine

def rfMod (f : Rf → Rf) (s : State) : State := { s with rf := f s.rf }

def rfsStat : Nat := 0x40100020

/-- LO_W in kHz (R118). -/
def loWide (p : Nat) : Nat := planF0 p - 100 + 200 * (planK p / 2)

/-- LO_N in kHz (R118). -/
def loNarrow (p n : Nat) : Nat := planF0 p + 200 * n - 250

/-- The LO placed for a channel, in Hz (R117, R118). -/
def State.loFor (s : State) (ch : Nat) : Nat :=
  if s.plan = 0 then 0 else 1000 * (if s.wide then loWide s.plan else loNarrow s.plan ch)

/-- The synthesiser locks on the commanded LO: RFS_LO_FREQ and LO_FREQ (R121, R145). -/
def placeLo (ch : Nat) (s : State) : State :=
  ((rfMod (fun r => { r with locked := true, chan := ch }) s).setRegN 0x40100030 (s.loFor ch)).dPut 0x2100 2 (s.loFor ch)

/-- A command has completed: DONE and its producer (R145, R398). -/
def rfDone (s : State) : State := fire 0x40 ((rfMod (fun r => { r with cur := none }) s).flag rfsStat 0)

/-- The state that an auto-return leads to: RX in wideband mode, whatever the command names (R123). -/
def returnState (s : State) (ret : Fin 4) : Fin 6 := if s.wide then 4 else Fin.ofNat 6 (ret.1 + 1)

/-- The sequencer begins its auto-return (R123). -/
def autoReturn (ret : Fin 4) (s : State) : State := rfMod (fun r => { r with moving := some (returnState s ret), frame := false }) s

/-- A running calibration is abandoned by a command; three times in a row end the set with BUSY (R134). -/
def calAbandon (s : State) : State :=
  if !s.rf.calBegun then s
  else if s.rf.calAband + 1 < 3 then rfMod (fun r => { r with calBegun := false, calAband := r.calAband + 1 }) s
  else
    let s := rfMod (fun r => { r with calBegun := false, calAband := 0, calPend := 0 }) s
    (s.setRegF 0x40100044 13 0 stBusy.toNat).produceSt 0x2100 0x12 stBusy

/-- A command starts its transition (R124). -/
def rfStart (c : RfCmd) (s : State) : State :=
  rfMod (fun r => { r with cur := some c, chan := if s.wide && c.kind != 5 then r.chan else c.chan, moving := some c.kind, frame := false })
    (calAbandon s)

/-- TX is blocked by ANT_FAULT (R140). -/
def State.antFault (s : State) : Bool := s.dU 0x2100 0x24 == 1

/-- A TX command that may not run: plan 0, a masked channel in narrowband mode, or ANT_FAULT (R129, R140). -/
def txRefused (c : RfCmd) (s : State) : Bool := s.plan == 0 || s.antFault || (!s.wide && !s.channelOpen c.chan)

/-- An RX command that may not run (R129). -/
def rxRefused (c : RfCmd) (s : State) : Bool := s.plan == 0 || (!s.wide && !s.channelOpen c.chan)

/-- Whether a command is refused, with its flag set (R129, R140). -/
def rfRefuse (c : RfCmd) (s : State) : Option State :=
  if c.kind = 5 ∧ txRefused c s then some (s.flag rfsStat 6)
  else if c.kind = 4 ∧ rxRefused c s then some (s.flag rfsStat 10)
  else none

/-- The sequencer can start a command now: nothing is in transition and no frame is in progress (R126). -/
def State.rfIdle (s : State) : Bool := s.rf.moving.isNone && !s.rf.frame

/-- A command's trigger has fired. A TX burst is fixed at this instant (R197); an empty burst takes the auto-return. A command
that cannot start becomes pending, or is refused with BUSY when one is pending (R126). -/
def rfAct (c : RfCmd) (s : State) : State :=
  match rfRefuse c s with
  | some t => t
  | none =>
    if s.rfIdle && s.rf.pend.isNone then
      if c.kind = 5 then
        let s := burstFix s
        if s.txm.burst.isEmpty then autoReturn c.ret s else rfStart c s
      else rfStart c s
    else if s.rf.pend.isSome then s.flag rfsStat 1
    else if c.kind = 5 ∧ s.txm.burst.isEmpty then
      let s := burstFix s
      if s.txm.burst.isEmpty then s else rfMod (fun r => { r with pend := some c }) s
    else rfMod (fun r => { r with pend := some c }) s

/-- The command that a word of RFS_CMD spells, with LATEST, POWER and WINDOW copied (R145). -/
def rfWord (v : Nat) (s : State) : RfCmd :=
  { kind := Fin.ofNat 6 (field v 2 0), chan := field v 15 8, ret := Fin.ofNat 4 (field v 5 4), trig := Fin.ofNat 64 (field v 21 16),
    latest := s.regF 0x40100014 15 0, power := signed 8 (s.regN 0x40100018), window := s.regN 0x4010001C }

/-- ABORT: RX or TX ends at once, the pending command is dropped, and the auto-return state of the ABORT is entered (R128, R209). -/
def rfAbort (ret : Fin 4) (s : State) : State :=
  let s := if s.txm.burst.isEmpty then s else burstCut stFnReset s
  let s := if s.rf.st = 4 then rxDiscard s else s
  autoReturn ret (rfMod (fun r => { r with pend := none, cur := none, frame := false }) s)

/-- A command of RFS_CMD accepted for the sequencer: refused, acted on at once, or armed (R125, R126, R145). -/
def rfTake (v : Nat) (s : State) : State :=
  let k := field v 2 0
  let c := rfWord v s
  if 6 ≤ k then s.flag rfsStat 8
  else if k = 0 then rfAbort c.ret s
  else match rfRefuse c s with
    | some t => t
    | none =>
      if bit v 23 then rfAct c s
      else if 4 ≤ s.rf.armed.length then s.flag rfsStat 1
      else rfMod (fun r => { r with armed := r.armed ++ [c] }) s

/-- A write of RFS_CMD, by the link controller (`lnk`) or by a core: a TX command from firmware is always refused; while RADIO is not
ON the write changes nothing; while the link controller's domain is on a core's write sets DENIED (R125, R536). -/
def rfCommand (lnk : Bool) (v : Nat) (s : State) : State :=
  if !lnk && field v 2 0 == 5 then s.flag rfsStat 6
  else if !s.isOn dRADIO then s
  else if !lnk then s.flag rfsStat 7
  else rfTake v s

/-- A command word with its CMD field set. -/
def withCmd (k : Nat) (v : BitVec 32) : Nat := putField v.toNat 2 0 k

/-- RFS_TRIGGER: a firing of channel `c` reaches the sequencer, and the armed commands on it act in order of arming (R126). -/
def rfTrigger (c : Fin 64) (s : State) : State :=
  match takeFirst (fun e : Evt => e.ch == c) s.evf.rfsTrigs with
  | none => s
  | some (_, rest) =>
    let s := { s with evf := { s.evf with rfsTrigs := rest } }
    if !s.isOn dRADIO then s else
    let hit := s.rf.armed.filter (fun a => a.trig == c)
    let s := rfMod (fun r => { r with armed := r.armed.filter (fun a => a.trig != c) }) s
    hit.foldl (fun s a => rfAct a s) s

/-- Whether a pending command that starts `delay` crystal ticks after its trigger-based nominal start is late (R127). -/
def RfCmd.late (c : RfCmd) (delay : Nat) : Bool :=
  if c.kind = 4 then c.window != 0 && decide (c.window ≤ delay) else c.latest != 0xFFFF && decide (c.latest < delay)

/-- A command dropped as LATE: flag, counts, RFS_LATE, and its auto-return; the burst's carriers take LATE (R127, R209). -/
def rfLate (c : RfCmd) (s : State) : State :=
  let s := if c.kind = 5 then burstLate s else s
  let s := fire 0x41 (((s.flag rfsStat 2).bump 0x40100024).dBump 0x2100 3)
  autoReturn c.ret s

/-- PENDING_COMMAND_START: the synthesiser is ready and no frame is in progress; the pending command starts, or is dropped as LATE
(R127). -/
def pendingStart (delay : Nat) (s : State) : State :=
  match s.rf.pend with
  | none => s
  | some c =>
    if !s.rfIdle || !s.isOn dRADIO then s else
    let s := rfMod (fun r => { r with pend := none }) s
    if c.late delay then rfLate c s
    else match rfRefuse c s with
      | some t => autoReturn c.ret t
      | none => rfStart c s

/-- RF_TRANSITION_DONE: the state that a transition leads to is entered (R121, R122). A state-change command completes; a TX's first
chips leave. -/
def transitionDone (s : State) : State :=
  match s.rf.moving with
  | none => s
  | some t =>
    let s := rfMod (fun r => { r with st := t, moving := none, locked := decide (3 ≤ t.1) }) s
    let s := if 3 ≤ t.1 then placeLo s.rf.chan s else s
    if t = 5 then burstOnAir (rfMod (fun r => { r with frame := true }) s)
    else match s.rf.cur with
      | some c => if t.1 ≤ 3 ∧ c.kind = t then rfDone s else s
      | none => s

/-! ### The antenna (R138 to R144) -/

/-- The C24 form of R20: I in [27:16], Q in [11:0], with the guard bits filled by sign extension. -/
def c24 (i q : Int) : Nat := unsigned 16 i * 0x10000 + unsigned 16 q

/-- The C24 form of the 12-bit fields of a word. -/
def c24Of (v : Nat) : Nat := c24 (signed 12 (field v 27 16)) (signed 12 (field v 11 0))

/-- |Γ|² in units of 1 / 2,047², from the C24 form. -/
def gammaSq (g : BitVec 32) : Nat :=
  let i := signed 12 (field g.toNat 27 16)
  let q := signed 12 (field g.toNat 11 0)
  (i * i + q * q).toNat

/-- |Γ| exceeds t thousandths. -/
def gammaOver (g t : Nat) : Bool := decide (t * t * 2047 * 2047 < g * 1000000)

/-- The sensor's report: RFS_ANT_GAMMA and ANT_GAMMA (R138). -/
def gammaReport (g : BitVec 32) (s : State) : State := (s.setRegN 0x40100060 (c24Of g.toNat)).dPut 0x2100 0x20 (c24Of g.toNat)

/-- The tuner codes: RFS_TUNE and ANT_TUNE. -/
def setTune (a b : Nat) (s : State) : State :=
  (s.setRegN 0x40100064 (a % 64 + b % 64 * 256)).dPut 0x2100 0x22 (a % 64 + b % 64 * 256)

/-- One code up or down, within 0 to 63. -/
def codeStep (up : Bool) (c : Nat) : Nat := if up then min 63 (c + 1) else c - 1

/-- One bank moved by a code. -/
def bankStep (b up : Bool) (s : State) : State :=
  let ca := s.regF 0x40100064 5 0
  let cb := s.regF 0x40100064 13 8
  if b then setTune ca (codeStep up cb) s else setTune (codeStep up ca) cb s

/-- ANT_TUNE_STEP: after a measured transmission the tuner holds, undoes the last step and reverses its bank, or steps the other
bank (R139). -/
def antTune (g : Nat) (s : State) : State :=
  if s.dU 0x2100 0x21 ≠ 1 ∨ s.epa then rfMod (fun r => { r with gamma2 := g, stepped := false }) s
  else if !gammaOver g (s.dU 0x2100 0x25) then rfMod (fun r => { r with gamma2 := g, stepped := false }) s
  else if s.rf.stepped && decide (s.rf.gamma2 < g) then
    let b := s.rf.bankB
    let s := bankStep b (if b then !s.rf.upB else !s.rf.upA) s
    rfMod (fun r => { r with gamma2 := g, stepped := false, upA := if b then r.upA else !r.upA, upB := if b then !r.upB else r.upB }) s
  else
    let b := !s.rf.bankB
    rfMod (fun r => { r with gamma2 := g, stepped := true, bankB := b }) (bankStep b (if b then s.rf.upB else s.rf.upA) s)

/-- ANT_MISMATCH: |Γ| above ANT_LIMIT on ANT_COUNT transmissions in a row sets MISMATCH, fires its producer and lowers later power by
6 dB until |Γ| falls below the limit (R140). -/
def antMismatch (g : Nat) (s : State) : State :=
  if s.epa then s
  else if gammaOver g (s.dU 0x2100 0x23) then
    let n := s.rf.antRun + 1
    let s := rfMod (fun r => { r with antRun := n }) s
    if max 1 (s.dU 0x2100 0x26) ≤ n ∧ !s.rf.mismatch then fire 0x42 ((rfMod (fun r => { r with mismatch := true }) s).flag rfsStat 4) else s
  else rfMod (fun r => { r with antRun := 0, mismatch := false }) s

/-- ANT_FAULT set: later TX commands are refused (R140, R143). -/
def antFaultSet (s : State) : State := healthEvent 0x11 0 0 false ((s.flag rfsStat 5).dPut 0x2100 0x24 1)

/-- EPA_FEEDBACK_CHECK: a level 10 dB or more below the expected one sets ANT_FAULT; the level in 0.5 dB (R143, R145). -/
def epaFeedback (fb : Byte) (s : State) : State :=
  let s := s.setRegN 0x40100078 fb.toNat
  if s.epa && decide (fb.toInt ≤ -20) then antFaultSet s else s

/-- A transmission has been measured (R138 to R143). -/
def txMeasured (gamma : BitVec 32) (fb : Byte) (s : State) : State :=
  epaFeedback fb (antTune (gammaSq gamma) (antMismatch (gammaSq gamma) (gammaReport gamma s)))

/-- The last carrier has ended: the burst is done, the transmission measured, and the auto-return begins; a pending command makes the
sequencer skip it (R123, R127, R198). -/
def txEnded (gamma : BitVec 32) (fb : Byte) (s : State) : State :=
  let ret := match s.rf.cur with | some c => c.ret | none => 3
  let s := txMeasured gamma fb (rfDone ((burstOver s).flag txmStat 0))
  if s.rf.pend.isSome then rfMod (fun r => { r with frame := false }) s else autoReturn ret s

/-- CARRIER_END: a carrier's last chip leaves; with the last of them TX → RX begins (R198). -/
def carrierEnd (c : Fin 8) (gamma : BitVec 32) (fb : Byte) (s : State) : State :=
  if !s.txm.onAir || !s.txm.burst.any (fun k => k.num == c) then s else
  let s := txmMod (fun t => { t with burst := t.burst.filter (fun k => k.num != c) }) s
  let s := (carStatus c stOk s).setRegF 0x40140004 3 0 s.txm.burst.length
  if s.txm.burst.isEmpty then txEnded gamma fb s else s

/-- TX_FRAME_END: the transmitted frame's last chip leaves (R123). -/
def txFrameEnd (gamma : BitVec 32) (fb : Byte) (s : State) : State :=
  if s.rf.st ≠ 5 ∨ !s.rf.frame then s
  else txEnded gamma fb (s.txm.burst.foldl (fun s k => carStatus k.num stOk s) s)

/-- RX_WINDOW_CLOSE: a narrowband listen window closes with no frame found (R123). -/
def rxWindowClose (s : State) : State :=
  match s.rf.cur with
  | some c =>
    if s.rf.st = 4 ∧ c.kind = 4 ∧ c.window ≠ 0 ∧ !s.rf.frame ∧ !s.wide then
      if s.rf.pend.isSome then rfDone s else autoReturn c.ret (rfDone s)
    else s
  | none => s

def execRxWindowClose (s : State) : Out := .next (rxWindowClose s)

/-- A frame found in a listen window has ended: the RX command's auto-return (R123, R182). -/
def rxFrameEnd (s : State) : State :=
  if s.wide || !s.rf.frame || s.rf.st ≠ 4 then s
  else match s.rf.cur with
    | some c =>
      let s := rfDone (rfMod (fun r => { r with frame := false }) s)
      if s.rf.pend.isSome then s else autoReturn c.ret s
    | none => rfMod (fun r => { r with frame := false }) s

/-- ANT_FAULT_TRIP: |Γ| above 0.8 during a transmission ends the frame and blocks TX (R140, R209). -/
def antFaultTrip (gamma : BitVec 32) (s : State) : State :=
  if s.rf.st ≠ 5 ∨ s.epa ∨ !gammaOver (gammaSq gamma) 800 then s
  else
    let ret := match s.rf.cur with | some c => c.ret | none => 3
    let s := rfMod (fun r => { r with cur := none, frame := false }) (burstCut stRegulatory (antFaultSet (gammaReport gamma s)))
    if s.rf.pend.isSome then s else autoReturn ret s

/-- ANT_FAULT cleared: by a write of 0, or by a probe with |Γ| of 0.8 or less (R140). -/
def antFaultClear (s : State) : State := s.dPut 0x2100 0x24 0

/-! ### Calibration -/

/-- CAL_STATUS of a set that has ended: the result entry and RFS_CAL_STAT [7:0]. -/
def calEnd (st : Status) (s : State) : State := (s.setRegF 0x40100044 7 0 st.toNat).produceSt 0x2100 0x12 st

/-- Bits done and pending in RFS_CAL_STAT (R145). -/
def calBits (done : Nat) (s : State) : State := (s.setRegF 0x40100044 21 16 done).setRegF 0x40100044 13 8 s.rf.calPend.toNat

/-- The antenna-match probe may not run: no region, or its budget forbids it (R117, R132, R239); 0.5 ms and the ramps. -/
def probeBarred (s : State) : Bool := s.plan == 0 || !bucketsAllow s.rf.chan (500 * 65536 + 16 * 65536) s

/-- A calibration set asked for (R133). In wideband RX, bits 2 and 3 run in the background and answer at once. With an external PA,
bit 5 reports NOT_READY (R144); while RADIO is not ON the request ends with NOT_READY (R536). -/
def calAsk (set : Nat) (s : State) : State :=
  if !s.isOn dRADIO then calEnd stNotReady s
  else
    let s := s.resPend 0x2100 0x12
    let live := s.wide && s.rf.st == 4
    let now := if live then set % 64 &&& 0x0C else 0
    let want := set % 64 - now
    let s := rfMod (fun r => { r with calPend := r.calPend ||| BitVec.ofNat 6 want }) s
    let s := calBits now s
    if s.rf.calPend = 0 then calEnd stOk s else s

/-- The lowest calibration still to run: the order of R132. -/
def State.calNext (s : State) : Option Nat := (List.range 6).find? (fun i => s.rf.calPend.getLsbD i)

/-- The sequencer may run a calibration step: in STANDBY or SYNTH_READY with no command pending (R133), or in wideband mode, for bits
0 and 1, after a transmission on the way back to RX (R135). -/
def State.calIdle (s : State) (i : Nat) : Bool :=
  s.isOn dRADIO && s.rf.pend.isNone &&
  ((s.rf.moving.isNone && (s.rf.st == 2 || s.rf.st == 3)) || (s.wide && decide (i < 2) && s.rf.st == 5 && s.rf.moving == some 4))

/-- The results a finished calibration brings into force (R131, R145, R147): a physical outcome `r`, the image rejection and Γ. -/
def calResult (i : Nat) (r : BitVec 32) (rej : BitVec 16) (gamma : BitVec 32) (s : State) : State :=
  let s := if i < 4 then (s.dPut 0x2100 0x16 (s.dU 0x3600 0x33)) else s
  let s := if i < 4 then rfMod (fun q => { q with calTemp := s.dI 0x3600 0x33, calSupply := s.pcc.vmain }) s else s
  match i with
  | 1 => s.setRegN 0x40100058 (field r.toNat 5 0)
  | 2 => (s.setRegN 0x40100054 (c24Of r.toNat)).dPut 0x2100 0x15 (c24Of r.toNat)
  | 3 =>
    let v := field r.toNat 11 0 + field r.toNat 27 16 * 0x10000
    ((s.setRegN 0x40100050 v).dPut 0x2100 0x14 (c24Of v)).dPut 0x2100 0x13 rej.toNat
  | 5 =>
    let s := bucketsTake s.rf.chan (500 * 65536 + 16 * 65536) (gammaReport gamma (setTune (field r.toNat 5 0) (field r.toNat 13 8) s))
    if gammaOver (gammaSq gamma) 800 then s else antFaultClear s
  | _ => s

/-- A wideband sequencer at rest with no calibration to run enters RX (R123). -/
def wideRest (s : State) : State :=
  if s.wide && s.rf.calPend == 0 && s.rf.moving.isNone && (s.rf.st == 2 || s.rf.st == 3) then rfMod (fun r => { r with moving := some 4 }) s
  else s

/-- A calibration leaves the set; with none left the set ends. `skip` is the status of a bit that was skipped. -/
def calLeave (i : Nat) (skip : Option Status) (s : State) : State :=
  let done := s.regF 0x40100044 21 16
  let s := rfMod (fun r => { r with calPend := r.calPend &&& ~~~(1#6 <<< i), calBegun := false, calAband := 0 }) s
  let s := calBits (if skip.isNone then done ||| 2 ^ i else done) s
  if s.rf.calPend = 0 then wideRest (calEnd (skip.getD stOk) s) else s

/-- CAL_STEP: a step of at most 25 µs runs at an idle moment (R133); `finishes` says that it completes the calibration. Bit 5 is
skipped with no region, with its budget used up, or with an external PA (R132, R144). -/
def calStep (finishes : Bool) (r : BitVec 32) (rej : BitVec 16) (gamma : BitVec 32) (s : State) : State :=
  match s.calNext with
  | none => s
  | some i =>
    if !s.calIdle i then s
    else if i = 5 ∧ s.epa then calLeave 5 (some stNotReady) s
    else if i = 5 ∧ probeBarred s then calLeave 5 (some stRegulatory) s
    else if finishes then calLeave i none (calResult i r rej gamma s)
    else rfMod (fun q => { q with calBegun := true }) s

def execCalStep (finishes : Bool) (r : BitVec 32) (rej : BitVec 16) (gamma : BitVec 32) (s : State) : Out :=
  .next (calStep finishes r rej gamma s)

/-- CAL_AUTO_TRIGGER: the die temperature has moved by more than 10 °C, or the supply by more than 300 mV, since the last run of bits
0 to 3; they run again (R135). -/
def calAuto (s : State) : State :=
  let dt := (s.dI 0x3600 0x33 - s.rf.calTemp).natAbs
  let dv := ((s.pcc.vmain : Int) - s.rf.calSupply).natAbs
  if (100 < dt ∨ 30 < dv) ∧ s.isOn dRADIO then
    calBits (s.regF 0x40100044 21 16) (rfMod (fun r => { r with calPend := r.calPend ||| (if s.wide then 3#6 else 15#6) }) s)
  else s

def execCalAutoTrigger (s : State) : Out := .next (calAuto s)

/-- IMAGE_REJ_UPDATE: the correction moves toward the estimate by at most 0.05 dB and 0.3°, in wideband mode (R137). It holds its last
value while core 2 or core 3 is stopped for want of a spare (R485). -/
def imageRejUpdate (gain phase : Int) (s : State) : State :=
  if !s.wide || s.rf.st ≠ 4 || (vget s.kz.map 2).isNone || (vget s.kz.map 3).isNone then s
  else
    let g := signed 12 (s.regF 0x40100050 27 16)
    let p := signed 12 (s.regF 0x40100050 11 0)
    let g' := unsigned 12 (g + clampI (-5) 5 (gain - g))
    let p' := unsigned 12 (p + clampI (-30) 30 (phase - p))
    (s.setRegN 0x40100050 (p' + g' * 0x10000)).dPut 0x2100 0x14 (c24Of (p' + g' * 0x10000))

def execImageRejUpdate (gain phase : Int) (s : State) : Out := .next (imageRejUpdate gain phase s)

/-- CHANNEL_MASK_APPLY: at a slot boundary the waiting mask takes effect. A TX command not yet started loses its carriers on removed
channels with REFUSED_REGULATORY, and is dropped when none is left (R90, R129). -/
def channelMaskApply (s : State) : State :=
  match s.wave.maskNext with
  | none => s
  | some m =>
    let s := waveMod (fun w => { w with mask := m, maskNext := none }) s
    match s.rf.pend with
    | some c =>
      if c.kind ≠ 5 then s
      else
        let s := burstMask s
        if s.txm.burst.isEmpty then (rfMod (fun r => { r with pend := none }) s).flag rfsStat 6 else s
    | none => s

/-- RFS_STATE as it reads now (R145, R536). -/
def State.rfsState (s : State) : Nat :=
  let st := if s.isOn dRADIO then s.rf.st.1 else if s.owns dRADIO then 1 else 0
  st + 16 * b2n s.rf.pend.isSome + 32 * b2n s.rf.calBegun + 64 * b2n s.rf.locked + 256 * (s.rf.chan % 256) + 0x10000 * s.rf.armed.length

end Sys2Proof.Machine
end

