-- ==== Sys2Proof/Machine/SgBase.lean ====
section
/-! DEFINITION. The fields of a schedule entry, and the slot groups that the table in force makes (R212, R213). -/

namespace Sys2Proof.Machine

/-- Fields of SG_TIME (R212). -/
def SgWord.start (w : SgWord) : Nat := field w.time.toNat 11 0
def SgWord.w (w : SgWord) : Nat := field w.time.toNat 19 12
def SgWord.a (w : SgWord) : Nat := field w.time.toNat 25 20
def SgWord.d (w : SgWord) : Nat := field w.time.toNat 31 26
def SgWord.every (w : SgWord) : Nat := max 1 (field w.time.toNat 47 32)
def SgWord.offset (w : SgWord) : Nat := field w.time.toNat 63 48

/-- Fields of SG_KIND (R212). -/
def SgWord.type (w : SgWord) : Nat := field w.kind.toNat 2 0
def SgWord.m (w : SgWord) : Nat := field w.kind.toNat 5 3
def SgWord.ackM (w : SgWord) : Nat := field w.kind.toNat 8 6
def SgWord.ackRate (w : SgWord) : Nat := field w.kind.toNat 10 9
def SgWord.retryOnly (w : SgWord) : Bool := bit w.kind.toNat 11
def SgWord.chan (w : SgWord) : Nat := field w.kind.toNat 19 12

/-- An occurrence of an entry begins at absolute slot `t` (R212). -/
def SgWord.begins (w : SgWord) (t : Nat) : Bool := t % 4096 == w.start && t / 4096 % w.every == w.offset

/-- The SERVE entry that has an uplink window whose last slot is `t` (R213). -/
def State.serveEnding (s : State) (t : Nat) : Option (Fin 64) :=
  (fins 64).find? (fun i =>
    let w := vget s.lnk.table i
    w.type == 2 && decide (w.w ≤ t + 1) && w.begins (t + 1 - w.w))

end Sys2Proof.Machine
end

