-- ==== Sys2Proof/Machine/Rx.lean ====
section
/-! DEFINITION. The receiver: capture, acquisition, lanes, decoding, cancellation, reports and spares (R148 to R191). -/

namespace Sys2Proof.Machine

/-! ### Settings -/

/-- REC_MS as it acts: 0 or 64 to 256 (R152, R190). -/
def State.recMs (s : State) : Nat := let v := s.dU 0x2200 0x27; if 64 ≤ v ∧ v ≤ 256 then v else 0

/-- The channel record is on (R152, R181). -/
def State.recordOn (s : State) : Bool := s.wide && s.recMs != 0 && s.isOn dDRAM

/-- The record still holds the sample of an instant (1/8 chip), seen from the present write position (R153). -/
def State.recHolds (s : State) (t now : Nat) : Bool := s.recordOn && decide (now ≤ t + s.recMs * 1280)

/-- The capture runs in wideband mode (R148, R190). -/
def State.captureOn (s : State) : Bool := s.wide && s.isOn dRADIO && s.isOn dCAPTURE && s.regB 0x40110000 1 && s.plan != 0

/-- A channel that no slice searches (R188). -/
def State.deaf (s : State) (ch : Nat) : Bool := maskBit (s.dGet 0x2200 0x3E) ch

/-- A logical lane that may take a frame: in service and powered; lane 0 alone in narrowband mode (R181, R425). -/
def State.laneServes (s : State) (l : Fin 32) : Bool :=
  (vget s.rx.laneMap l).isSome && s.isOn (if l = 0 then dLANE0 else dMODEM) && (l == 0 || s.wide)

/-- The free logical lane with the lowest number (R161). -/
def State.freeLane (s : State) : Option (Fin 32) := (fins 32).find? (fun l => s.laneServes l && (vget s.rx.lanes l).isNone)

/-- A logical engine that may take a codeword. -/
def State.engineServes (s : State) (e : Fin 4) : Bool :=
  (vget s.rx.engMap e).isSome && s.isOn (if e = 0 then dLDC0 else dMODEM) && (e == 0 || s.wide)

/-- MAX_ITER (R169, R190). -/
def State.maxIter (s : State) : Nat := max 1 (min 32 (s.dU 0x2200 0x28))

/-! ### Capture -/

/-- WIDEBAND_AGC_STEP: at a slot boundary the gain falls by a step after a sample above −3 dBFS, or rises by one when all stayed below
−21 dBFS; `clipped` samples stood at full scale, in the spans of the frames on the lanes `hit` (R150). -/
def agcStep (loud quiet : Bool) (clipped : Nat) (hit : List (Fin 32)) (s : State) : State :=
  if !s.captureOn then s else
  let g := s.regN 0x4011000C
  let g' := if loud then min 5 (g + 1) else if quiet then g - 1 else g
  let s := (s.setRegN 0x4011000C g').dPut 0x2200 0x3F g'
  if clipped = 0 then s
  else
    let s := (s.flag 0x40110020 0).setRegN 0x40110070 (satAdd 0xFFFFFFFF (s.regN 0x40110070) clipped)
    let s := s.dPut 0x2200 0x39 (satAdd 0xFFFFFFFF (s.dU 0x2200 0x39) clipped)
    hit.foldl (fun s l => match vget s.rx.lanes l with | some id => frameMod id (fun f => { f with clip := true }) s | none => s) s

def execWidebandAgcStep (loud quiet : Bool) (clipped : Nat) (hit : List (Fin 32)) (s : State) : Out := .next (agcStep loud quiet clipped hit s)

/-- The last instant of a frame's span; before its header is known, that of the longest frame (R100). -/
def RxFrame.last (f : RxFrame) : Nat :=
  let h := Hdr.ofBytes f.hdr
  f.t0 + 8 * sfOf f.m * (if f.numbered then frameLen h.zsel h.rate else frameLen 2 0)

/-- Spans that overlap. -/
def spansMeet (a b c d : Nat) : Bool := decide (a ≤ d) && decide (c ≤ b)

/-- RECORD_GAP: the samples from instant `a` to `b` are skipped; every running replay whose span includes them ends with outcome LOST
(R153). -/
def recordGap (a b : Nat) (s : State) : State :=
  if !s.recordOn || !s.captureOn then s else
  let s := rxMod (fun r => { r with gaps := r.gaps ++ [(a, b)] }) (s.flag 0x40110020 5)
  (s.rx.frames.filter (fun f => f.stage.onLane && f.replay && spansMeet f.t0 f.last a b)).foldl (fun s f => frameEnd f.id 5 s) s

def execRecordGap (a b : Nat) (s : State) : Out := .next (recordGap a b s)

/-! ### Acquisition -/

/-- A frame that counts as held for duplicates (R157). -/
def RxFrame.held (f : RxFrame) : Bool := f.stage.onLane || f.stage == .shadow || f.stage == .spilled || f.stage == .replayWait

/-- A detection repeats a held frame (R157). -/
def duplicate (d : RxFrame) (s : State) : Bool :=
  s.rx.frames.any (fun f => f.held && f.chan == d.chan && f.m == d.m && decide (((f.t0 : Int) - d.t0).natAbs ≤ 8) &&
    decide ((f.freq - d.freq).natAbs * 4 * sfOf d.m ≤ 160000))

/-- The frames of a detection's stack (R159). -/
def stackOf (d : RxFrame) (s : State) : List RxFrame :=
  s.rx.frames.filter (fun f => f.held && f.chan == d.chan && spansMeet d.t0 d.last f.t0 f.last)

/-- The frame that a detection is a shadow candidate of (R158); powers in 0.25 dB. -/
def shadowOf (d : RxFrame) (s : State) : Option RxFrame :=
  s.rx.frames.find? (fun f => f.stage.onLane && f.chan == d.chan && f.m == d.m && decide (((f.t0 : Int) - d.t0).natAbs ≤ 32) &&
    decide (d.power + 4 * (s.dU 0x2200 0x22 : Int) ≤ f.power))

/-- A frame added. -/
def frameAdd (d : RxFrame) (s : State) : State :=
  rxMod (fun r => { r with frames := r.frames ++ [{ d with id := r.nextId }], nextId := r.nextId + 1 }) s

/-- A detection dropped for want of a lane (R161). -/
def laneFull (s : State) : State := countBoth 0x4012A074 0x32 (s.flag 0x40110020 2)

/-- Step 2 of R161: the spill list, or a drop. -/
def spillOrDrop (d : RxFrame) (s : State) : State :=
  if s.recordOn && s.dU 0x2200 0x26 == 1 && decide ((s.rx.frames.filter (fun f => f.stage == .spilled)).length < 64) then
    frameAdd { d with stage := .spilled } s
  else laneFull s

/-- How many lanes replay (R167). -/
def State.replays (s : State) : Nat := (s.rx.frames.filter (fun f => f.stage.onLane && f.replay)).length

/-- A lane given to a frame of the list. -/
def laneGive (l : Fin 32) (id : Nat) (replay : Bool) (s : State) : State :=
  rxMod (fun r => { r with lanes := vset r.lanes l (some id) })
    (frameMod id (fun f => { f with stage := .sync, lane := l, replay := replay }) s)

/-- A detection that is not a shadow candidate finds its place (R161, R167). -/
def place (d : RxFrame) (s : State) : State :=
  match s.freeLane with
  | some l => if d.replay && 4 ≤ s.replays then frameAdd { d with stage := .replayWait } s else laneGive l s.rx.nextId d.replay (frameAdd d s)
  | none =>
    if d.replay then frameAdd { d with stage := .replayWait } s
    else if (s.rx.frames.filter (fun f => f.stage == .queued)).length < 16 then frameAdd { d with stage := .queued } s
    else spillOrDrop d s

/-- A noise floor measured on a channel: ACQ_NOISEb and CH_NOISE (R178, R190, R191). -/
def noiseReport (ch : Nat) (v : Int) (s : State) : State :=
  let u := unsigned 16 v
  let b := ch + 64 - planK s.plan / 2
  let s := s.setRegF (0x40110100 + 4 * (b / 2)) (16 * (b % 2) + 15) (16 * (b % 2)) u
  let old := s.dGet 0x2200 0x3D
  let old := if old.length = 256 then old else List.replicate 256 0
  s.dSet 0x2200 0x3D (old.take (2 * ch) ++ leBytes 2 u ++ old.drop (2 * ch + 2))

/-- A wideband detection (R156 to R159, R161). -/
def detectWide (d : RxFrame) (s : State) : State :=
  let s := noiseReport d.chan d.noise (countBoth 0x40110030 0x30 s)
  if duplicate d s then s
  else if 4 ≤ (stackOf d s).length then countBoth 0x40110038 0x34 (s.flag 0x40110020 1)
  else match shadowOf d s with
    | some f => frameAdd { d with stage := .shadow, under := some f.id } s
    | none => place d s

/-- A narrowband detection: the first one is taken by lane 0, whose AGC holds the gain step it has picked (R182, R183). -/
def detectNarrow (d : RxFrame) (gain : Fin 6) (s : State) : State :=
  let s := countBoth 0x40110030 0x30 s
  if (vget s.rx.lanes 0).isSome then laneFull s
  else
    let s := (s.setRegN 0x4011000C gain.1).dPut 0x2200 0x3F gain.1
    rfMod (fun r => { r with frame := true }) (laneGive 0 s.rx.nextId false (frameAdd d s))

/-- The frequency offset lies within ±ACQ_FREQ_RANGE of the channel centre (R156, R190). -/
def freqOk (ch : Nat) (freq : Int) (s : State) : Bool :=
  let r := s.dU 0x2200 0x21
  decide (freq.natAbs * 1000 ≤ (if 4 ≤ r ∧ r ≤ 40 then r else 24) * (planF0 s.plan + 200 * ch))

/-- The frames beneath which a detection of the residual lies: the masking frame's own list, and that frame (R175). -/
def beneathOf (under : Option Nat) (s : State) : List Nat :=
  match under with
  | none => []
  | some id => match s.frame id with
    | some f => f.beneath ++ [id]
    | none => []

/-- A live search reaches the channel: RX runs, and the sample is not blanked by the device's own transmission (R151, R154, R182). -/
def liveSearch (ch m : Nat) (s : State) : Bool :=
  s.rf.st == 4 && s.rf.moving.isNone && s.isOn dRADIO &&
  (if s.wide then s.captureOn && !s.deaf ch else s.isOn dLANE0 && s.rf.chan == ch && s.regB 0x4012A004 m)

/-- A search of the residual under a regenerated frame on the same channel (R173). -/
def residualSearch (ch under : Nat) (s : State) : Bool :=
  s.captureOn && s.recordOn && !s.deaf ch && s.rx.frames.any (fun f => f.id == under && f.research && f.chan == ch)

/-- PREAMBLE_DETECTION: a slice, or lane 0 in a listen window, reports a preamble; `under` names the frame whose residual is searched
(R156 to R161, R173, R182). -/
def preambleDetection (ch : Nat) (m : Fin 6) (t0 : Nat) (freq power snr noise : Int) (gain : Fin 6) (under : Option Nat) (s : State) : State :=
  if !s.channelOpen ch || !freqOk ch freq s then s else
  let b := beneathOf under s
  let d : RxFrame := {
    id := 0, chan := ch, m := m.1, t0 := t0, freq := freq, power := power, snr := snr, noise := noise, stage := .sync
    level := b.length, beneath := b, replay := under.isSome }
  match under with
  | some id => if residualSearch ch id s then detectWide d s else s
  | none => if !liveSearch ch m.1 s then s else if s.wide then detectWide d s else detectNarrow d gain s

def execPreambleDetection (ch : BitVec 7) (m : Fin 6) (t0 : Nat) (freq power snr noise : Int) (gain : Fin 6) (under : Option Nat) (s : State) : Out :=
  .next (preambleDetection ch.toNat m t0 freq power snr noise gain under s)

/-! ### Lanes -/

/-- Order of waiting items: the older first chip, then the lower channel, then the lower SF (R162). -/
def earlier (a b : RxFrame) : Bool :=
  decide (a.t0 < b.t0) || (a.t0 == b.t0 && (decide (a.chan < b.chan) || (a.chan == b.chan && decide (a.m < b.m))))

/-- The first frame of a stage in that order. -/
def State.firstOf (s : State) (st : RxStage) : Option RxFrame :=
  (s.rx.frames.filter (fun f => f.stage == st)).foldl (fun a f => match a with | some g => if earlier f g then some f else a | none => some f) none

/-- ALLOC_QUEUE_TIMEOUT: the oldest queued detection, still without a lane when its first sync symbol begins, is spilled or dropped
(R161). -/
def allocTimeout (s : State) : State :=
  match s.firstOf .queued with
  | none => s
  | some f =>
    let n := (s.rx.frames.filter (fun g => g.stage == .spilled)).length
    if s.recordOn && s.dU 0x2200 0x26 == 1 && decide (n < 64) then frameMod f.id (fun f => { f with stage := .spilled }) s
    else laneFull (frameGone f.id s)

def execAllocQueueTimeout (s : State) : Out := .next (allocTimeout s)

/-- Spilled frames whose first chip has left the record are removed and counted; so are the skipped spans that lie behind it (R162). -/
def spillPrune (now : Nat) (s : State) : State :=
  let s := (s.rx.frames.filter (fun f => f.stage == .spilled && !s.recHolds f.t0 now)).foldl (fun s f => laneFull (frameGone f.id s)) s
  rxMod (fun r => { r with gaps := r.gaps.filter (fun g => s.recHolds g.2 now) }) s

/-- A replay starts, or ends LOST when its span includes skipped samples or its first chip has gone (R153, R167). -/
def replayStart (l : Fin 32) (f : RxFrame) (now : Nat) (s : State) : State :=
  let s := if f.stage = .spilled then countBoth 0x4012A078 0x33 s else s
  if !s.recHolds f.t0 now || s.rx.gaps.any (fun g => spansMeet f.t0 f.last g.1 g.2) then frameEnd f.id 5 s
  else laneGive l f.id true s

/-- LANE_ASSIGN: a free lane takes the first waiting item: the allocation queue, replays, the spill list; four lanes replay at most
(R162, R167). -/
def laneAssign (now : Nat) (s : State) : State :=
  let s := spillPrune now s
  match s.freeLane with
  | none => s
  | some l => match s.firstOf .queued with
    | some f => laneGive l f.id false s
    | none =>
      if 4 ≤ s.replays then s
      else match s.firstOf .replayWait with
        | some f => replayStart l f now s
        | none => match s.firstOf .spilled with
          | some f => replayStart l f now s
          | none => s

def execLaneAssign (now : Nat) (s : State) : Out := .next (laneAssign now s)

/-- The narrowband listen ends with the frame that lane 0 held (R123, R182). -/
def listenEnd (s : State) : State := if s.wide then s else rxFrameEnd s

/-- SYNC_CHECK: a pass leads to HEADER; a failure frees the lane and counts a false detection (R163). -/
def syncCheck (l : Fin 32) (pass : Bool) (s : State) : State :=
  match s.laneFrame l with
  | none => s
  | some f =>
    if f.stage ≠ .sync then s
    else if pass then frameMod f.id (fun f => { f with stage := .header }) s
    else if f.numbered then frameEnd f.id 5 s
    else listenEnd (shadowsLost f.id (frameGone f.id (s.bump 0x40110034)))

def execSyncCheck (l : Fin 32) (pass : Bool) (s : State) : Out := .next (syncCheck l pass s)

/-- A codeword behind the decoders' queue (R168). -/
def enqueue (id : Nat) (header : Bool) (slot : Nat) (s : State) : State :=
  rxMod (fun r => { r with queue := r.queue ++ [{ frame := id, header := header, slot := slot, arrival := r.arrivals }], arrivals := r.arrivals + 1 }) s

/-- HEADER_DEMODULATED: the header codeword goes to the decoders (R164). -/
def headerDemodulated (l : Fin 32) (s : State) : State :=
  match s.laneFrame l with
  | none => s
  | some f => if f.stage = .header then enqueue f.id true 0 (frameMod f.id (fun f => { f with stage := .headerSent }) s) else s

def execHeaderDemodulated (l : Fin 32) (s : State) : Out := .next (headerDemodulated l s)

/-- S of R98: the value within [E − 128, E + 127] whose low 8 bits are SLOT_LOW, modulo 2^40. -/
def slotOfLow (e low : Nat) : Nat :=
  unsigned 40 ((e : Int) + signed 8 (unsigned 8 ((low : Int) - e)))

/-- AES blocks of a node-key derivation (R303). -/
def State.deriveBlocks (s : State) : Nat := if s.keyBytes = 32 then 6 else 4

/-- HEADER_RESULT: the decoded header is checked under R104; a bad one frees the lane and is counted; an accepted one gives the frame its
number and S, and asks for its node key (R98, R164, R222). -/
def headerResult (l : Fin 32) (est : Nat) (s : State) : State :=
  match s.laneFrame l with
  | none => s
  | some f =>
    if f.stage ≠ .headerBack then s
    else if f.hdr.length ≠ 16 ∨ headerBad (s.dU 0x2200 3) f.hdr (beNat (f.hdr.drop 14)) then
      (if f.numbered then listenEnd (frameEnd f.id 5 s)
       else listenEnd (shadowsLost f.id (frameGone f.id (countBoth 0x4012A070 0x31 s))))
    else
      let h := Hdr.ofBytes f.hdr
      let n := s.rx.frameNo
      let s := if f.numbered then s else rxMod (fun r => { r with frameNo := n + 1 }) s
      let s := frameMod f.id (fun f => { f with
        stage := .payload, hdr := f.hdr.take 14, number := if f.numbered then f.number else n, numbered := true,
        slot := slotOfLow est h.slotLow }) s
      match s.epochFor h.epochLow with
      | some w =>
        if s.role ≠ 1 ∧ (s.netKey 0 w).isSome then urgentAsk 0 (Fin.ofNat 33 l.1) s.deriveBlocks s else s
      | none => s

def execHeaderResult (l : Fin 32) (est : BitVec 40) (s : State) : Out := .next (headerResult l est.toNat s)

/-- PAYLOAD_DEMODULATED: the last soft bit leaves; the codeword is queued by its S, the lane frees itself and keeps a regeneration
descriptor; the measurements of the frame's end (R165, R166, R178). -/
def payloadDemodulated (l : Fin 32) (rssi snr freq endErr : Int) (blanked : Bool) (s : State) : State :=
  match s.laneFrame l with
  | none => s
  | some f =>
    if f.stage ≠ .payload then s
    else
      let s := frameMod f.id (fun f => { f with
        stage := .decode, power := rssi, snr := snr, freq := freq, endErr := endErr, blanked := f.blanked || blanked }) s
      listenEnd (laneFree f.id (enqueue f.id false f.slot s))

def execPayloadDemodulated (l : Fin 32) (rssi snr freq endErr : Int) (blanked : Bool) (s : State) : Out :=
  .next (payloadDemodulated l rssi snr freq endErr blanked s)

/-- REPLAY_LOST: a replay's read position has fallen more than REC_MS behind (R167). -/
def replayLost (l : Fin 32) (s : State) : State :=
  match s.laneFrame l with
  | some f => if f.replay then frameEnd f.id 5 s else s
  | none => s

def execReplayLost (l : Fin 32) (s : State) : Out := .next (replayLost l s)

/-! ### Decoding -/

/-- The codeword that an engine takes before another: headers, then the earliest S, then arrival (R168). -/
def Codeword.before (a b : Codeword) : Bool :=
  if a.header ≠ b.header then a.header
  else if a.header || a.slot == b.slot then decide (a.arrival < b.arrival) else decide (a.slot < b.slot)

/-- DECODE_START: the free engine with the lowest number takes the first codeword (R168). -/
def decodeStart (s : State) : State :=
  match (fins 4).find? (fun e => s.engineServes e && (vget s.rx.engines e).isNone) with
  | none => s
  | some e =>
    match s.rx.queue.foldl (fun a c => match a with | some b => if c.before b then some c else a | none => some c) none with
    | none => s
    | some c => rxMod (fun r => { r with queue := r.queue.filter (fun x => x.arrival != c.arrival), engines := vset r.engines e (some c) }) s

def execDecodeStart (s : State) : Out := .next (decodeStart s)

/-- A converged payload is regenerated (R171). -/
def regenDue (f : RxFrame) (s : State) : Bool :=
  s.recordOn && decide (f.level < 3) &&
  (s.rx.frames.any (fun g => g.stage == .shadow && g.under == some f.id) || (s.dU 0x2200 0x23 == 1 && decide ((s.dU 0x2200 0x24 : Int) ≤ f.snr)))

/-- What follows a payload's convergence: its block, the urgent tag check, and the start of regeneration (R170, R172, R299). -/
def payloadConverged (id : Nat) (e : Fin 4) (iter : Nat) (bytes : List Byte) (weak : Nat) (s : State) : State :=
  let s := frameMod id (fun f => { f with
    stage := .checked, engine := e, iter := iter, weak := weak, block := bytes.take (zOf (Hdr.ofBytes f.hdr).zsel) }) s
  match s.frame id with
  | none => s
  | some f =>
    let h := Hdr.ofBytes f.hdr
    let s := match s.hopKey 0 h with
      | .key _ => urgentAsk 0 (Fin.ofNat 33 f.lane.1) (cmacBlocks (27 + h.len)) s
      | _ => s
    if f.regen ≠ .none then s
    else if regenDue f s then rxMod (fun r => { r with regens := r.regens ++ [id] }) (frameMod id (fun f => { f with regen := .window }) s)
    else shadowsLost id s

/-- DECODE_DONE: an engine returns a codeword as converged, which the checker takes, or as failed: a failed header is a header error, a
failed payload has outcome DECODE_FAIL (R169, R170). -/
def decodeDone (e : Fin 4) (converged : Bool) (iter : Nat) (bytes : List Byte) (weak : Nat) (s : State) : State :=
  match vget s.rx.engines e with
  | none => s
  | some c =>
    let n := if converged then max 1 (min s.maxIter iter) else s.maxIter
    let s := rxMod (fun r => { r with engines := vset r.engines e none }) (s.bump 0x40130030)
    let s := s.setRegN 0x40130038 (satAdd 0xFFFFFFFF (s.regN 0x40130038) n)
    if converged then
      let s := rxMod (fun r => { r with checking := r.checking ++ [{ engine := e, cw := c, bytes := bytes, iter := n, weak := weak }] }) s
      if c.header then s else payloadConverged c.frame e n bytes weak s
    else
      let s := s.bump 0x40130034
      if c.header then frameMod c.frame (fun f => { f with stage := .headerBack, hdr := [] }) s
      else
        let s := frameMod c.frame (fun f => { f with engine := e, iter := n, weak := weak }) s
        frameEnd c.frame 1 (s.dBump 0x2200 0x35)

def execDecodeDone (e : Fin 4) (converged : Bool) (iter : Nat) (bytes : List Byte) (weak : Nat) (s : State) : Out :=
  .next (decodeDone e converged iter bytes weak s)

/-- A reserved port (R106). -/
def portReserved (p : Nat) : Bool := decide (2 ≤ p) && decide (p < 0x80)

/-- The outcome of a decoded frame under the key store: R108, R179, R180. -/
def tagOutcome (f : RxFrame) (slot : Nat) (s : State) : Nat :=
  let h := Hdr.ofBytes f.hdr
  match s.hopKey 0 h with
  | .noEpoch => 3
  | .noKey => 8
  | .key k =>
    if tag8 k (tagMessage f.hdr (f.block.take 8) ((f.block.drop 8).take h.len) slot) = (f.block.drop (8 + h.len)).take 8 then
      (if h.type = 0 ∧ portReserved ((f.block.getD 7 0).toNat) then 4 else 0)
    else if s.dU 0x2200 0x29 < f.weak ∨ f.iter = s.maxIter then 7 else 2

/-- S under which a frame's tag is checked: a node in LOST or DORMANT takes an anchor's S as the multiple of 32,767 in
[START_SLOT, START_SLOT + 4,095] (R234). -/
def tagSlot (f : RxFrame) (s : State) : Nat :=
  let st := beNat (f.block.take 5)
  if (Hdr.ofBytes f.hdr).type = 1 ∧ (s.lnk.sync = .lost ∨ s.lnk.sync = .dormant) ∧ (f.block.getD 5 0).getLsbD 1 then
    (st + 32766) / 32767 * 32767
  else f.slot

/-- What Causeway and the link controller take of a frame. -/
def meshOf (f : RxFrame) : MeshFrame :=
  { id := f.id, hdr := f.hdr, lh := f.block.take 8, payload := (f.block.drop 8).take (Hdr.ofBytes f.hdr).len, slot := f.slot, chan := f.chan,
    m := f.m, outcome := f.outcome, rssi := f.power, snr := f.snr, freq := f.freq, endErr := f.endErr }

/-- A tag result after the seal of its slot group: counted by the receiver and the link controller (R223, R244). -/
def tagLate (s : State) : State :=
  (((countBoth 0x4013003C 0x37 s).bump 0x40150044).dBump 0x2300 0x31).flag 0x40150020 2

/-- The tag result goes to the link controller, Causeway and the report (R170, R218, R255, R262). -/
def tagRelease (f : RxFrame) (s : State) : State :=
  let h := Hdr.ofBytes f.hdr
  let here := (s.serveEnding f.slot).isSome && decide (2 ≤ s.role)
  let sealed_ := s.lnk.sealedS.contains f.slot
  let inAck := here && !sealed_
  let s := if sealed_ then tagLate s else s
  let s := frameMod f.id (fun f => { f with inAck := inAck, late := sealed_ }) s
  let t : Tagged := { id := f.id, tx := h.tx, rx := h.rx, ack := h.ack, slot := f.slot, chan := f.chan, m := f.m, t0 := f.t0, snr := f.snr }
  let good := f.outcome == 0 || f.outcome == 4
  let s := if inAck && good && h.type == 0 then { s with lnk := { s.lnk with tagged := s.lnk.tagged ++ [t] } } else s
  let s := if good && (s.role == 1 || s.role == 2) && (h.type != 0 || h.rx == s.ownNode) then
    { s with lnk := { s.lnk with heard := s.lnk.heard.drop (s.lnk.heard.length - 7) ++ [meshOf f] } } else s
  let s := if good then { s with lnk := { s.lnk with fbSnr := alPut s.lnk.fbSnr h.tx f.snr } } else s
  let s := if s.rosterOn then { s with cwy := { s.cwy with live := s.cwy.live ++ [meshOf f] } } else s
  if f.outcome = 0 ∧ h.type = 0 ∧ (h.rx = s.ownNode ∨ h.rx = 0x3FFFF) then { s with cwy := { s.cwy with todo := s.cwy.todo ++ [meshOf f] } } else s

/-- A checked payload: its outcome, its tag result, and its completion. -/
def payloadChecked (id : Nat) (us : Int) (s : State) : State :=
  match s.frame id with
  | none => s
  | some f =>
    let slot := tagSlot f s
    let f := { f with slot := slot, outcome := tagOutcome f slot s, doneUs := clampI (-32768) 32767 us }
    frameEnd id f.outcome (tagRelease f (frameMod id (fun _ => f) s))

/-! ### Spares (R186 to R188) -/

/-- Bytes of a logical-to-physical map, four to a register; an unmapped number shows all ones. -/
def putMap (a none_ : Nat) (l : List (Option Nat)) (s : State) : State :=
  foldS (fun i s => s.setRegN (a + 4 * i) (leNat (((l.drop (4 * i)).take 4).map (fun x => BitVec.ofNat 8 (x.getD none_))))) (List.range (l.length / 4)) s

/-- A set of numbers as a bit mask. -/
def bitsOfSet (l : List Nat) : Nat := l.dedup.foldl (fun a i => a + 2 ^ i) 0

/-- The registers and entries that show the maps (R190, R191). -/
def syncRx (s : State) : State :=
  let r := s.rx
  let lr := bitsOfSet (r.laneRetired.map (·.1))
  let sr := bitsOfSet (r.sliceRetired.map (·.1))
  let s := putMap 0x4012A010 0x3F (r.laneMap.toList.map (fun x => x.map (·.1))) s
  let s := ((s.setRegN 0x4012A030 r.laneSpare.length).setRegN 0x4012A034 (lr % 2 ^ 32)).setRegN 0x4012A038 (lr / 2 ^ 32)
  let s := putMap 0x40110040 0x3F (r.sliceMap.toList.map (fun x => x.map (·.1))) s
  let s := ((s.setRegN 0x40110060 r.sliceSpare.length).setRegN 0x40110064 (sr % 2 ^ 32)).setRegN 0x40110068 (sr / 2 ^ 32)
  let s := putMap 0x40130010 7 (r.engMap.toList.map (fun x => x.map (·.1))) s
  let s := s.setRegN 0x40130014 (r.engSpare.length + 256 * bitsOfSet (r.engRetired.map (·.1)))
  let n := fun {α : Type} (l : List (Option α)) => (l.filter Option.isSome).length
  ((s.dPut 0x2200 0x3A (n r.laneMap.toList)).dPut 0x2200 0x3B (n r.sliceMap.toList)).dPut 0x2200 0x3C (n r.engMap.toList)

/-- A frame whose lane has failed: replayed from its first chip while the record holds it, else LOST (R187). -/
def laneLost (l : Fin 32) (now : Nat) (s : State) : State :=
  match s.laneFrame l with
  | none => s
  | some f =>
    if s.recHolds f.t0 now then
      let s := rxMod (fun r => { r with queue := r.queue.filter (fun c => c.frame != f.id), checking := r.checking.filter (fun c => c.cw.frame != f.id)
                                        engines := r.engines.map (fun x => match x with | some c => if c.frame = f.id then none else x | none => x) }) s
      frameMod f.id (fun f => { f with stage := .replayWait, replay := true }) (laneFree f.id s)
    else listenEnd (frameEnd f.id 5 s)

/-- The regenerations that run from a lane's descriptors end: their frames are not regenerated (R158, R187, R189). -/
def regenDrop (p : RxFrame → Bool) (s : State) : State :=
  (s.rx.frames.filter (fun f => p f && (f.regen == .window || f.regen == .subtract))).foldl (fun s f =>
    shadowsLost f.id (rxMod (fun r => { r with regens := r.regens.filter (fun x => x != f.id) })
      (frameMod f.id (fun f => { f with regen := .over, research := false }) s))) s

/-- The highest logical number in service. -/
def highest {α : Type} {n : Nat} (m : Vector (Option α) n) : Option (Fin n) :=
  ((fins n).reverse).find? (fun i => (vget m i).isSome)

/-- A function runs at reduced capacity: grade 4, SPARE_EXHAUSTED, status 2 with its NOTIFY (R9, R188). -/
def degraded (cls : Nat) (fn : Fin 20) (s : State) : State := (spareMissing cls 4 s).setFn fn 2

/-- The unit of class `cls` under the rolling test returns to service at once, and the stand-in to the spares (R495); a core is
swapped back, which starts it with CORE_CAUSE 3 (R362). -/
def rollReturn (cls : Nat) (s : State) : State :=
  match s.hlt.roll with
  | none => s
  | some r =>
    let done := { s with hlt := { s.hlt with roll := some { r with cur := none } } }
    match r.cur, cls with
    | some (.lane l, p), 6 => syncRx (rxMod (fun x => { x with
        laneSpare := (match vget x.laneMap l with | some q => [q] | none => []) ++ x.laneSpare, laneMap := vset x.laneMap l (some (Fin.ofNat 36 p)) }) done)
    | some (.engine e, p), 7 => syncRx (rxMod (fun x => { x with
        engSpare := (match vget x.engMap e with | some q => [q] | none => []) ++ x.engSpare, engMap := vset x.engMap e (some (Fin.ofNat 5 p)) }) done)
    | some (.slice l, p), 8 => syncRx (rxMod (fun x => { x with
        sliceSpare := (match vget x.sliceMap l with | some q => [q] | none => []) ++ x.sliceSpare, sliceMap := vset x.sliceMap l (some (Fin.ofNat 34 p)) }) done)
    | some (.core c, p), 9 =>
      let t := match s.physOf c with
        | some q => kmod q (fun k => { k with halted := true, waiting := false }) done
        | none => done
      coreStart c 3 (s.bootPc c) { t with kz := { t.kz with
        map := vset (vset s.kz.map 5 (s.physOf c)) c (some (Fin.ofNat 6 p)) } }
    | _, _ => s

/-- LANE_RETIRE: a failed lane is replaced under its logical number; with no spare the highest logical lane leaves service, its physical
lane taking the number that failed (R186 to R188). -/
def retireLane (l : Fin 32) (residue regen inj : Bool) (now : Nat) (s : State) : State :=
  let s := rollReturn 6 s
  match vget s.rx.laneMap l with
  | none => s
  | some p =>
    let s := s.setRegN (0x40120010 + 0x400 * p.1) (4 + (if residue then 2 else 1) + (s.regN (0x40120010 + 0x400 * p.1)) / 8 * 8)
    let s := if regen then regenDrop (fun f => f.lane == l) s else s
    let s := laneLost l now s
    let s := rxMod (fun r => { r with laneRetired := p :: r.laneRetired }) s
    match s.rx.laneSpare with
    | q :: rest =>
      syncRx (spareTaken 6 (healthEvent 0x0B p.1 2 inj (rxMod (fun r => { r with laneMap := vset r.laneMap l (some q), laneSpare := rest }) s)))
    | [] =>
      let s := match highest s.rx.laneMap with
        | some h =>
          if h = l then rxMod (fun r => { r with laneMap := vset r.laneMap l none }) s
          else
            let s := laneLost h now s
            rxMod (fun r => { r with laneMap := vset (vset r.laneMap l (vget r.laneMap h)) h none }) s
        | none => s
      syncRx (degraded 6 2 (healthEvent 0x0B p.1 3 inj s))

def execLaneRetire (l : Fin 32) (residue regen : Bool) (now : Nat) (s : State) : Out := .next (retireLane l residue regen false now s)

/-- The channels of a slice's four bins (R148, R154). -/
def sliceChannels (l : Fin 32) (s : State) : List Nat :=
  (List.range 4).filterMap (fun j =>
    let n : Int := (4 * l.1 + j : Nat) - 64 + (planK s.plan / 2 : Nat)
    if 0 ≤ n ∧ n < (planK s.plan : Int) then some n.toNat else none)

/-- DEAF_MASK with channels added (R188). -/
def deafen (l : List Nat) (s : State) : State :=
  let m := s.dGet 0x2200 0x3E
  s.dSet 0x2200 0x3E ((List.range 16).map (fun i => (List.range 8).foldl (fun (b : Byte) j => if l.contains (8 * i + j) then b ||| (1#8 <<< j) else b) (m.getD i 0)))

/-- SLICE_RETIRE: a spare slice takes over and searches the record back 20 ms; with no spare the slice's bins go deaf (R187, R188). -/
def retireSlice (l : Fin 32) (inj : Bool) (s : State) : State :=
  let s := rollReturn 8 s
  match vget s.rx.sliceMap l with
  | none => s
  | some p =>
    let s := (rxMod (fun r => { r with sliceRetired := p :: r.sliceRetired }) s).flag 0x40110020 3
    match s.rx.sliceSpare with
    | q :: rest =>
      let s := rxMod (fun r => { r with sliceMap := vset r.sliceMap l (some q), sliceSpare := rest }) s
      let s := if s.recordOn then rxMod (fun r => { r with searching := r.searching.filter (fun x => x.slice != l) ++ [{ slice := l, phys := q.1 }] }) s else s
      syncRx (spareTaken 8 (healthEvent 0x0C p.1 2 inj s))
    | [] =>
      let s := rxMod (fun r => { r with sliceMap := vset r.sliceMap l none, searching := r.searching.filter (fun x => x.slice != l) }) s
      syncRx (degraded 8 1 (healthEvent 0x0C p.1 3 inj (deafen (sliceChannels l s) (s.flag 0x40110020 4))))

def execSliceRetire (l : Fin 32) (s : State) : Out := .next (retireSlice l false s)

/-- SPARE_SEARCH_DONE: the spare has searched the last 20 ms of the record (R187). -/
def spareSearchDone (l : Fin 32) (s : State) : State := rxMod (fun r => { r with searching := r.searching.filter (fun x => x.slice != l) }) s

def execSpareSearchDone (l : Fin 32) (s : State) : Out := .next (spareSearchDone l s)

/-- A codeword that an engine held is decoded again: back into the queue with its order of arrival (R170, R187). -/
def engineLost (e : Fin 4) (s : State) : State :=
  match vget s.rx.engines e with
  | none => s
  | some c => rxMod (fun r => { r with engines := vset r.engines e none, queue := r.queue ++ [c] }) s

/-- ENGINE_RETIRE: a failed engine is replaced, or capacity falls by the highest logical engine; `id` is the detector, 0x0D or the
checker's 0x0E (R170, R186 to R188). -/
def retireEngine (id : Nat) (e : Fin 4) (inj : Bool) (s : State) : State :=
  let s := rollReturn 7 s
  match vget s.rx.engMap e with
  | none => s
  | some p =>
    let s := engineLost e ((rxMod (fun r => { r with engRetired := p :: r.engRetired }) s).flag 0x40130020 1)
    match s.rx.engSpare with
    | q :: rest =>
      syncRx (spareTaken 7 (healthEvent id p.1 2 inj (rxMod (fun r => { r with engMap := vset r.engMap e (some q), engSpare := rest }) s)))
    | [] =>
      let s := match highest s.rx.engMap with
        | some h =>
          if h = e then rxMod (fun r => { r with engMap := vset r.engMap e none }) s
          else
            let s := engineLost h s
            rxMod (fun r => { r with engMap := vset (vset r.engMap e (vget r.engMap h)) h none }) s
        | none => s
      syncRx (degraded 7 3 (healthEvent id p.1 3 inj (s.flag 0x40130020 2)))

def execEngineRetire (e : Fin 4) (s : State) : Out := .next (retireEngine 0x0D e false s)

/-- A syndrome that does not hold: the result and its tag result are dropped, the check window is added back, the engine is retired and
the codeword decoded again (R170). -/
def checkMismatch (c : Check) (s : State) : State :=
  let s := rxMod (fun r => { r with queue := r.queue ++ [c.cw], regens := r.regens.filter (fun x => x != c.cw.frame) }) (s.flag 0x40130020 0)
  let s := if c.cw.header then s else frameMod c.cw.frame (fun f => { f with stage := .decode, regen := .none, block := [] }) s
  retireEngine 0x0E c.engine false s

/-- SYNDROME_CHECK_DONE: the checker's verdict on the oldest result of an engine; `us` from the end of slot S (R170, R178). -/
def syndromeCheckDone (e : Fin 4) (pass : Bool) (us : Int) (s : State) : State :=
  match takeFirst (fun c : Check => c.engine == e) s.rx.checking with
  | none => s
  | some (c, rest) =>
    let s := rxMod (fun r => { r with checking := rest }) s
    if !pass then checkMismatch c s
    else if c.cw.header then frameMod c.cw.frame (fun f => { f with stage := .headerBack, hdr := c.bytes.take 16 }) s
    else payloadChecked c.cw.frame us s

def execSyndromeCheckDone (e : Fin 4) (pass : Bool) (us : Int) (s : State) : Out := .next (syndromeCheckDone e pass us s)

/-! ### Cancellation -/

/-- The frame whose regeneration runs in lane `l` in a given phase, first in order among those of its channel (R174). -/
def State.regenOn (s : State) (l : Fin 32) (g : Regen) : Option RxFrame :=
  s.rx.frames.find? (fun f => f.lane == l && f.regen == g &&
    (s.rx.regens.filter (fun id => match s.frame id with | some x => x.chan == f.chan | none => false)).head? == some f.id &&
    !s.rx.checking.any (fun c => c.cw.frame == f.id))

/-- REGEN_CHECK_WINDOW: the residual has fallen by `fall` dB over the check window: subtraction goes on, shadow candidates are to be
replayed and the residual searched; or the window is added back with REGEN_POOR (R172, R173). -/
def regenCheckWindow (l : Fin 32) (fall : Int) (s : State) : State :=
  match s.regenOn l .window with
  | none => s
  | some f =>
    if (s.dU 0x2200 0x25 : Int) ≤ fall then
      let s := frameMod f.id (fun f => { f with regen := .subtract, research := s.dU 0x2200 0x23 == 1 }) s
      rxMod (fun r => { r with frames := r.frames.map (fun g =>
        if g.stage = .shadow ∧ g.under = some f.id then
          { g with stage := .replayWait, replay := true, under := none, level := f.level + 1, beneath := f.beneath ++ [f.id] } else g) }) s
    else
      let s := rxMod (fun r => { r with regens := r.regens.filter (fun x => x != f.id) }) (frameMod f.id (fun f => { f with regen := .over, poor := true }) s)
      shadowsLost f.id (countBoth 0x4012A080 0x36 s)

def execRegenCheckWindow (l : Fin 32) (fall : Int) (s : State) : Out := .next (regenCheckWindow l fall s)

/-- REGEN_DONE: the whole frame is subtracted (R172). -/
def regenDone (l : Fin 32) (s : State) : State :=
  match s.regenOn l .subtract with
  | none => s
  | some f =>
    (rxMod (fun r => { r with regens := r.regens.filter (fun x => x != f.id) })
      (frameMod f.id (fun f => { f with regen := .over, cancelled := true }) s)).bump 0x4012A07C

def execRegenDone (l : Fin 32) (s : State) : Out := .next (regenDone l s)

/-! ### Reports (R177, R178) -/

/-- The frames beneath which one was found, level 0 first. -/
def State.masks (s : State) (f : RxFrame) : List RxFrame := f.beneath.filterMap (fun id => s.frame id)

/-- SUSPECT: some listed frame failed its tag (R176). -/
def State.suspect (s : State) (f : RxFrame) : Bool := (s.masks f).any (fun g => g.outcome == 2 || g.outcome == 7)

/-- The report may be written: every listed frame has its tag result, and the frame's own regeneration is over (R176). -/
def State.reportable (s : State) (f : RxFrame) : Bool :=
  (s.masks f).all (fun g => g.stage == .done || g.stage == .reported) && (f.regen == .none || f.regen == .over)

/-- The 64 bytes of a report (R178). -/
def report (f : RxFrame) (s : State) : List Byte :=
  let h := Hdr.ofBytes f.hdr
  let lh := f.block.take 8
  let ok := h.type == 0 && (f.outcome == 0 || f.outcome == 2 || f.outcome == 3 || f.outcome == 4 || f.outcome == 7 || f.outcome == 8)
  let g := fun (i w : Nat) => if ok then beNat lh / 2 ^ (64 - i - w) % 2 ^ w else 0
  let b := fun i => ((s.masks f)[i]?.map (fun x => x.number.toNat % 65536)).getD 0
  leBytes 4 f.number.toNat ++ leBytes 1 f.outcome ++ leBytes 1 f.chan ++
  leBytes 1 (f.m + 8 * h.zsel + 32 * h.rate + 128 * b2n h.retry) ++
  leBytes 1 (b2n h.ack + 2 * b2n f.inAck + 4 * b2n f.replay + 8 * b2n f.clip + 16 * b2n f.blanked + 32 * b2n f.poor + 64 * b2n (s.suspect f) +
    128 * b2n f.late) ++
  leBytes 5 f.slot ++ leBytes 1 h.len ++ leBytes 2 (g 0 16) ++
  leBytes 4 (h.tx + 2 ^ 18 * h.epochLow + 2 ^ 22 * h.power) ++ leBytes 4 (h.rx + 2 ^ 18 * h.fb) ++
  leBytes 4 (g 16 18 + 2 ^ 18 * g 52 4 + 2 ^ 22 * g 56 8) ++ leBytes 4 (g 34 18) ++
  leBytes 2 (unsigned 16 f.power) ++ leBytes 2 (unsigned 16 f.snr) ++ leBytes 4 (unsigned 32 f.freq) ++
  leBytes 2 (unsigned 16 f.endErr) ++ leBytes 2 (unsigned 16 f.doneUs) ++
  leBytes 1 f.lane.1 ++ leBytes 1 f.engine.1 ++ leBytes 1 f.iter ++ leBytes 1 (f.level % 4 + 4 * b2n f.cancelled) ++
  leBytes 2 (b 0) ++ leBytes 2 (b 1) ++ leBytes 2 (b 2) ++ leBytes 2 f.weak ++ leBytes 2 (unsigned 16 f.noise) ++ List.replicate 6 0

/-- RING_SIZE (R190). -/
def State.ringSize (s : State) : Nat := let v := s.regF 0x4012A058 4 0; 2 ^ (if 8 ≤ v ∧ v ≤ 16 then v else 8)

/-- Frames that nothing refers to any more leave the receiver. -/
def framePrune (s : State) : State :=
  let used := s.rx.frames.flatMap (fun f => if f.stage = .reported then [] else f.beneath ++ f.under.toList)
  rxMod (fun r => { r with frames := r.frames.filter (fun f => f.stage != .reported || used.contains f.id || f.research) }) s

/-- RECEPTION_REPORT: the first completed frame that may be reported: block, report, LANE_RING_WR and LANE_REPORT; a full ring loses the
report (R177). -/
def receptionReport (s : State) : State :=
  match s.rx.ready.findSome? (fun id => match s.frame id with | some f => if s.reportable f then some f else none | none => none) with
  | none => s
  | some f =>
    let wr := s.regN 0x4012A05C
    let next := (wr + 1) % s.ringSize
    let s' := rxMod (fun r => { r with ready := r.ready.filter (fun x => x != f.id) }) (frameMod f.id (fun f => { f with stage := .reported }) s)
    if next = s.regN 0x4012A060 % s.ringSize then framePrune (countBoth 0x4012A084 0x38 s')
    else
      let s' := s'.dmaWrite (s.regN 0x4012A054 + 256 * wr) f.block
      let s' := s'.dmaWrite (s.regN 0x4012A050 + 64 * wr) (report f s)
      framePrune (fire 0x48 (s'.setRegN 0x4012A05C next))

def execReceptionReport (s : State) : Out := .next (receptionReport s)

/-! ### Re-initialisation (R189) -/

/-- Every frame of a kind is reported with outcome RESET. -/
def framesReset (p : RxFrame → Bool) (s : State) : State :=
  (s.rx.frames.filter p).foldl (fun s f => listenEnd (frameEnd f.id 6
    (rxMod (fun r => { r with
      queue := r.queue.filter (fun c => c.frame != f.id)
      checking := r.checking.filter (fun c => c.cw.frame != f.id)
      engines := r.engines.map (fun x => match x with | some c => if c.frame = f.id then none else x | none => x) }) s))) s

/-- A frame in the decoders. -/
def RxStage.decoding : RxStage → Bool
  | .headerSent => true | .decode => true | .checked => true
  | _ => false

/-- Frames that have no lane and are discarded unreported (R189). -/
def framesForget (p : RxFrame → Bool) (s : State) : State := (s.rx.frames.filter p).foldl (fun s f => frameGone f.id s) s

/-- Function 2: the record, the allocation queue, the spill list and the shadow candidates are discarded; frames in lanes and decoders
end with RESET (R189). -/
def acqReinit (s : State) : State :=
  let s := framesForget (fun f => f.stage == .queued || f.stage == .spilled || f.stage == .shadow) s
  let s := framesReset (fun f => f.stage.onLane || f.stage.decoding || f.stage == .replayWait) s
  rxMod (fun r => { r with gaps := [], searching := [], frames := r.frames.map (fun f => { f with research := false }) }) (regenDrop (fun _ => true) s)

/-- Function 3: frames in lanes and replays end with RESET; regeneration descriptors are discarded (R189). -/
def laneReinit (s : State) : State :=
  regenDrop (fun _ => true) (framesReset (fun f => f.stage.onLane || f.stage == .replayWait) s)

/-- Function 4: every codeword ends and its frame with RESET; a waveform test ends (R116, R189). -/
def ldcReinit (s : State) : State :=
  waveTestReset (rxMod (fun r => { r with queue := [], checking := [], engines := .replicate 4 none }) (framesReset (fun f => f.stage.decoding) s))

/-- Function 10: the frame of each urgent job ends with RESET (R305). -/
def urgentReset (s : State) : State :=
  let lanes := s.sec.urgent.map (fun u => u.lane.1)
  framesReset (fun f => lanes.contains f.lane.1 && (f.stage == .payload || f.stage == .decode || f.stage == .checked)) s

end Sys2Proof.Machine
end

