-- ==== Sys2Proof/Machine/Sched.lean ====
section
/-! DEFINITION. The schedule: entries and their occurrences, the shortest slot, the check of a shadow, and its application (R212 to R215,
R234). -/

namespace Sys2Proof.Machine

def lnkMod (f : Lnk → Lnk) (s : State) : State := { s with lnk := f s.lnk }

def lnkStat : Nat := 0x40150020

/-- The shadow of entry i (R214). -/
def State.shadow (s : State) (i : Fin 64) : SgWord :=
  { time := BitVec.ofNat 64 (s.dU 0x2310 (i.1 + 1)), kind := BitVec.ofNat 32 (s.dU 0x2311 (i.1 + 1)) }

/-- The entry in force. -/
def State.sg (s : State) (i : Fin 64) : SgWord := vget s.lnk.table i

/-- The link controller runs its schedule: role 1 to 5, RADIO ON, EN set (R244, R536). -/
def State.lnkRuns (s : State) : Bool := s.isOn dRADIO && s.regB 0x40150000 1 && 1 ≤ s.role

/-- Slots of an occurrence, from START: the uplink window, the acknowledgement window, the downlink window (R213). -/
def SgWord.slots (w : SgWord) : Nat := if w.type = 1 ∨ w.type = 2 then w.w + w.a + w.d else if w.type = 5 then w.w else 1

/-- The first slot of the first occurrence of an entry whose span of `n` slots ends after absolute slot `now` (R212). -/
def SgWord.next (w : SgWord) (n now : Nat) : Nat :=
  let c0 := (now + 4096 - w.start - n + 1 + 4095) / 4096 - 1
  let e := w.every
  (c0 + (w.offset + e - c0 % e) % e) * 4096 + w.start

/-- NET_SLEW in ppm (R71). -/
def State.netSlew (s : State) : Nat := s.dU 0x2000 7

/-- Tmin in units of 10^-3 µs, rounded down: 2^20 / (nominal rate × (1 + NET_SLEW)); a tick is 1/32 µs and a rate 8.24 units (R215). -/
def State.tminNs (s : State) : Nat := 2 ^ 44 * 1000 * 1000000 / (32 * max 1 s.ptb.nominal1 * (1000000 + s.netSlew))

/-- Airtime in µs. -/
def airUs (m zsel rate : Nat) : Nat := airQuarter m zsel rate / 4

/-- PD1's travel in phase units over a time in µs, at the rate in force. -/
def State.unitsOf (s : State) (us : Nat) : Nat := us * 32 * s.ptb.rate1 / 2 ^ 24

/-- Slots in which a frame sent from the start of a slot may still be on air. -/
def spanSlots (us tminNs : Nat) : Nat := max 1 ((us * 1000 + tminNs - 1) / max 1 tminNs)

/-- The anchor slot at or after an absolute slot (R234). -/
def anchorAfter (t : Nat) : Nat := (t + 32766) / 32767 * 32767

/-- A span of slots meets an anchor span, slots A − 31 to A (R234). -/
def meetsAnchor (lo hi : Nat) : Bool := decide (anchorAfter lo ≤ hi + 31)

/-- A channel that an entry may name (R215). -/
def State.sgChannel (s : State) (w : SgWord) : Bool := s.channelOpen w.chan

/-- The rules of R215 for one entry. -/
def entryOk (w : SgWord) (s : State) : Bool :=
  let t := w.type
  if t = 0 then true
  else
    decide (t ≤ 5) && decide (w.offset < w.every) &&
    (t == 5 || (decide (w.m ≤ 5) && decide (w.ackM ≤ 5) && decide (w.ackRate ≤ 2))) &&
    (!(t == 1 || t == 2) || (decide (0 < w.w) && decide (0 < w.a) && decide ((480 + airUs w.ackM 1 w.ackRate) * 1000 ≤ w.a * s.tminNs))) &&
    (t == 5 || (t == 2 && s.wide) || s.sgChannel w) &&
    (!(t == 3 || t == 4) || decide (airUs w.m 1 1 * 1000 ≤ 31 * s.tminNs))

/-- Slot indices of a span, within the cycle. -/
def slotSet (start n : Nat) : List Nat := (List.range n).map (fun i => (start + i) % 4096)

/-- The last test of R215: no uplink window shares a slot with another group's windows or a beacon's span. -/
def uplinksClear (tab : List SgWord) (s : State) : Bool :=
  let ix := tab.zipIdx
  ix.all (fun (w, i) => w.type != 2 || (
    let up := slotSet w.start w.w
    ix.all (fun (v, j) =>
      if v.type = 2 ∧ i ≠ j then !(slotSet (v.start + v.w) (v.a + v.d)).any (fun x => up.contains x)
      else if v.type = 3 then !(slotSet v.start (spanSlots (airUs v.m 1 1) s.tminNs)).any (fun x => up.contains x)
      else true)))

/-- The check of R215. -/
def scheduleOk (tab : Vector SgWord 64) (s : State) : Bool :=
  tab.toList.all (fun w => entryOk w s) && (!s.wide || uplinksClear tab.toList s)

/-- SCHED_APPLY: LATE when its cycle has begun, OUT_OF_RANGE when the check fails, else armed (R214). -/
def schedApply (s : State) : Status × State :=
  let at_ := BitVec.ofNat 28 (s.dU 0x2312 2)
  let tab : Vector SgWord 64 := Vector.ofFn (fun i => s.shadow i)
  let st := if begun s at_ then stLate else if scheduleOk tab s then stOk else stRange
  (st, if st = stOk then (lnkMod (fun l => { l with apply := some { cycle := at_, epoch := BitVec.ofNat 16 (s.dU 0x2312 1), table := tab } }) s).produceSt 0x2312 4 stOk
       else (s.flag lnkStat 9).produceSt 0x2312 4 st)

/-- LNK_EPOCH and the epoch in force that SCHED_EPOCH reads. -/
def setEpoch (e : BitVec 16) (s : State) : State := (lnkMod (fun l => { l with epoch := e }) s).setRegF 0x40150080 15 0 e.toNat

/-- SCHED_SWITCH: at phase 0 of SCHED_AT the armed table comes into force; a root's epoch goes up by one, another role takes the one
written (R214). -/
def schedSwitch (s : State) : State :=
  match s.lnk.apply with
  | none => s
  | some a =>
    if !begun s a.cycle then s
    else
      let s := lnkMod (fun l => { l with apply := none, table := a.table }) (s.flag lnkStat 8)
      setEpoch (if s.role = 3 then s.lnk.epoch + 1 else a.epoch) s

def execSchedSwitch (s : State) : Out := .next (schedSwitch s)

end Sys2Proof.Machine
end

