-- ==== Sys2Proof/Machine/Sluice.lean ====
section
/-! DEFINITION. Causeway's tables and Sluice: routes (R248 to R251), the store, the queues, their choice and their completions (R246, R268
to R277). -/

namespace Sys2Proof.Machine

/-! ### Route tables -/

/-- An entry of the Causeway table (R248). -/
structure Route where
  idx    : Nat
  lo     : Nat
  hi     : Nat
  next   : Nat
  action : Nat
  queue  : Nat
  deriving DecidableEq, Repr

/-- The entry that sixteen bytes spell, when VALID. -/
def routeOf (idx : Nat) (b : List Byte) : Option Route :=
  let w := fun i => leNat ((b.drop (4 * i)).take 4)
  if bit (w 3) 0 then
    some { idx := idx, lo := field (w 0) 17 0, hi := field (w 1) 17 0, next := field (w 2) 17 0, action := field (w 2) 20 18, queue := field (w 2) 28 24 }
  else none

def shadowBase : Nat := 0x30000000
def forceBase : Nat := 0x30040000

/-- The entries of an area that hold any byte other than 0, with their sixteen bytes. -/
def State.tableAt (s : State) (base : Nat) : List (Nat × List Byte) :=
  let used := s.mem.cells.filterMap (fun c => if base ≤ c.1 ∧ c.1 < base + 192000 then some ((c.1 - base) / 16) else none)
  used.dedup.map (fun i => (i, s.rdBytes (base + 16 * i) 16))

/-- VALID entries of a table. -/
def routesOf (t : List (Nat × List Byte)) : List Route := t.filterMap (fun p => routeOf p.1 p.2)

/-- The VALID entries in force. -/
def State.routes (s : State) : List Route := routesOf (s.tableAt forceBase)

/-- Two ranges that R249 allows together. -/
def rangesOk (a b : Route) : Bool :=
  decide (a.hi < b.lo) || decide (b.hi < a.lo) ||
  (!(a.lo == b.lo && a.hi == b.hi) && ((decide (a.lo ≤ b.lo) && decide (b.hi ≤ a.hi)) || (decide (b.lo ≤ a.lo) && decide (a.hi ≤ b.hi))))

/-- An entry on its own under R249; `big` in roles 3 to 5. -/
def routeOk (big : Bool) (r : Route) : Bool :=
  decide (r.lo ≤ r.hi) && decide (r.action ≤ 5) && decide (r.queue ≤ 19) &&
  (r.action != 2 || nodeNumber r.next) && (r.action != 4 || decide (r.next ≤ 7)) && !(r.action == 1 && big)

/-- The lowest-numbered VALID entry that breaks a rule of R249, alone or with another. -/
def failingEntry (big : Bool) (l : List Route) : Option Nat :=
  (l.filter (fun r => !routeOk big r || l.any (fun q => q.idx != r.idx && !rangesOk r q))).foldl
    (fun a r => match a with | some i => if r.idx < i then some r.idx else a | none => some r.idx) none

/-- The lookup of R250: the VALID entry that holds DEST in the narrowest range. -/
def lookup (dest : Nat) (l : List Route) : Option Route :=
  (l.filter (fun r => decide (r.lo ≤ dest) && decide (dest ≤ r.hi))).foldl
    (fun a r => match a with | some b => if r.hi - r.lo < b.hi - b.lo then some r else a | none => some r) none

/-! ### Link headers -/

def lhField (b : List Byte) (i w : Nat) : Nat := beNat (b.take 8) / 2 ^ (64 - i - w) % 2 ^ w
def lhSource (b : List Byte) : Nat := lhField b 16 18
def lhDest (b : List Byte) : Nat := lhField b 34 18
def lhHops (b : List Byte) : Nat := lhField b 52 4
def lhPort (b : List Byte) : Nat := lhField b 56 8

/-- A link header with HOPS lowered by one (R263). -/
def lhHop (b : List Byte) : List Byte := linkHeader (lhField b 0 16) (lhSource b) (lhDest b) (lhHops b - 1) (lhPort b)

/-- A link header with another SEQ. -/
def lhSeq (b : List Byte) (seq : Nat) : List Byte := linkHeader seq (lhSource b) (lhDest b) (lhHops b) (lhPort b)

/-! ### The store and the queues -/

def sluMod (f : Slu → Slu) (s : State) : State := { s with slu := f s.slu }

def sluStat : Nat := 0x40170020

/-- Single-queue mode: the Sluice domain is off (R246). -/
def State.single (s : State) : Bool := !s.isOn dSLU

/-- STORE_SLOTS in force. -/
def State.storeSlots (s : State) : Nat := s.regF 0x4016004C 16 0

/-- The address of a store slot. -/
def State.storeAddr (s : State) (k : Nat) : Nat := s.regN 0x40160048 + 288 * k

/-- A free store slot. -/
def State.freeSlot (s : State) : Option Nat :=
  if s.storeSlots ≤ s.slu.used.length then none else leastFree s.slu.used (s.slu.used.length + 1) 0

/-- A store slot taken. -/
def slotTake (k : Nat) (s : State) : State := sluMod (fun x => { x with used := x.used ++ [k] }) s

/-- LIMIT of a queue; a FIFO of the bucket bank holds 16 (R246, R279). -/
def State.qLimit (s : State) (q : Fin 20) : Nat :=
  let l := max 1 (s.dU 0x2406 (q.1 + 1))
  if s.single then min 16 l else l

/-- A queue exists: queues 0 to 3 alone in single-queue mode. -/
def State.qExists (s : State) (q : Nat) : Bool := decide (q < (if s.single then 4 else 20))

def State.qFull (s : State) (q : Fin 20) : Bool := decide (s.qLimit q ≤ (vget s.slu.queues q).length)

/-- The cost of a frame in µs (R271). -/
def QFrame.cost (f : QFrame) : Nat := airUs f.m f.zsel f.rate + 16

/-- Every queued frame, queue by queue. -/
def State.queued (s : State) : List QFrame := s.slu.queues.toList.flatten

/-- The downlink group of a node's record follows the queues (R253). -/
def syncDownlinks (n : Nat) (s : State) : State :=
  match s.goodRecord n with
  | none => s
  | some k =>
    let l := s.queued.filter (fun f => f.node == n)
    let o := l.foldl (fun a f => match a with | some g => if f.bornSlot < g.bornSlot then some f else a | none => some f) (none : Option QFrame)
    let s := recPut k 0x70 2 l.length s
    let s := recPut k 0x74 4 (match o with | some f => f.slot | none => 0xFFFFFFFF) s
    recPut k 0x78 8 (match o with | some f => f.bornSlot | none => 0) s

/-- WEIGHT of a queue. -/
def State.qWeight (s : State) (q : Fin 20) : Nat := max 1 (s.dU 0x2402 (q.1 + 1))

/-- A frame behind a queue, or at its head; a weighted queue gives it its finish tag (R271). -/
def enqueueFrame (q : Fin 20) (front : Bool) (f : QFrame) (s : State) : State :=
  let start := if (vget s.slu.queues q).isEmpty then s.slu.v else vget s.slu.last q
  let fin := (start + f.cost * 256 / s.qWeight q) % 2 ^ 48
  let f := { f with id := s.slu.nextId, finish := if 4 ≤ q.1 then fin else 0 }
  syncDownlinks f.node (sluMod (fun x => { x with
    nextId := x.nextId + 1
    last := if 4 ≤ q.1 then vset x.last q fin else x.last
    queues := vmod x.queues q (fun l => if front then f :: l else l ++ [f]) }) s)

/-- Entries of the completion ring (R279). -/
def State.doneSize (s : State) : Nat := let v := s.regF 0x40170054 4 0; 2 ^ (if 8 ≤ v ∧ v ≤ 16 then v else 8)

/-- SLU_COMPLETION: eight bytes at SLU_DONE_BASE, SLU_DONE_WR and the producer; a full ring loses it (R276). -/
def completion (f : QFrame) (st : Status) (q : Fin 20) (renewed : Bool) (s : State) : State :=
  if f.fwd then s
  else
    let wr := s.regN 0x40170058
    let next := (wr + 1) % s.doneSize
    if next = s.regN 0x4017005C % s.doneSize then s.flag sluStat 4
    else
      let s := s.dmaWrite (s.regN 0x40170050 + 8 * wr) (leBytes 4 f.slot ++ [st, BitVec.ofNat 8 f.sends, BitVec.ofNat 8 q.1, BitVec.ofNat 8 (b2n renewed)])
      fire 0x58 ((s.setRegN 0x40170058 next).flag sluStat 0)

/-- The queue that holds a frame. -/
def State.queueOf (s : State) (id : Nat) : Option (Fin 20 × QFrame) :=
  (fins 20).findSome? (fun q => ((vget s.slu.queues q).find? (fun f => f.id == id)).map (fun f => (q, f)))

/-- A frame leaves the queues, its store slot is free. -/
def unqueue (id : Nat) (s : State) : State :=
  match s.queueOf id with
  | none => s
  | some (q, f) =>
    syncDownlinks f.node (sluMod (fun x => { x with
      queues := vmod x.queues q (fun l => l.filter (fun g => g.id != id))
      used := x.used.filter (fun k => k != f.slot) }) s)

/-- A frame leaves the queues with a status (R276). -/
def frameOut (id : Nat) (st : Status) (s : State) : State :=
  match s.queueOf id with
  | none => s
  | some (q, f) => completion f st q false (unqueue id s)

/-- One queued frame changed. -/
def qframeMod (id : Nat) (g : QFrame → QFrame) (s : State) : State :=
  sluMod (fun x => { x with queues := x.queues.map (fun l => l.map (fun f => if f.id = id then g f else f)) }) s

/-- SHAPE_EN of a queue; the single-queue mode has no shaper (R246, R272). -/
def State.shaped (s : State) (q : Fin 20) : Bool := !s.single && s.dU 0x2405 (q.1 + 1) == 1

/-- The shaper of a queue holds a frame's cost (R270). -/
def State.shaperHolds (s : State) (q : Fin 20) (f : QFrame) : Bool := !s.shaped q || decide (f.cost * 65536 ≤ vget s.bkt.shape q)

/-- Head frames whose cost exceeds BURST can never pass: they end with OUT_OF_RANGE (R272). -/
def shaperDrop (q : Fin 20) (s : State) : State :=
  match vget s.slu.queues q with
  | [] => s
  | f :: _ =>
    if s.shaped q && decide (shapeBurst s q < f.cost) then
      frameOut f.id stRange (((s.flag sluStat 2).bump 0x40170064).dBump 0x2400 0x17)
    else s

/-- Every queue's head tested against its BURST. -/
def shaperDrops (s : State) : State := foldS (fun q s => iter (shaperDrop q) (vget s.slu.queues q).length s) (fins 20) s

/-- A frame that is being sent, or that waits for its acknowledgement. -/
def State.inFlight (s : State) (id : Nat) : Bool :=
  s.lnk.sending.any (fun c => c.queue.isSome && c.frame == id) || (match s.lnk.wait with | some w => w.frame == id | none => false)

/-- What each queue offers: its first frame that concerns the opportunity, when that frame is eligible (R268, R270). -/
def offers (mine ok : QFrame → Bool) (s : State) : List (Fin 20 × QFrame) :=
  (fins 20).filterMap (fun q =>
    match (vget s.slu.queues q).find? mine with
    | some f => if s.qExists q.1 && ok f && s.shaperHolds q f && !s.inFlight f.id then some (q, f) else none
    | none => none)

/-- Earlier in 48-bit virtual time. -/
def vBefore (a b : Nat) : Bool := decide ((b + 2 ^ 48 - a) % 2 ^ 48 < 2 ^ 47) && a != b

/-- WEIGHTED_CHOICE: the strict queues in order, then the weighted head with the least finish tag, which moves virtual time (R268, R271). -/
def choose (mine ok : QFrame → Bool) (s : State) : Option (Fin 20 × QFrame × State) :=
  let l := offers mine ok s
  match l.find? (fun p => decide (p.1.1 < 4)) with
  | some (q, f) => some (q, f, s)
  | none =>
    match l.foldl (fun a p => match a with | some b => if vBefore p.2.finish b.2.finish then some p else a | none => some p) (none : Option (Fin 20 × QFrame)) with
    | some (q, f) => some (q, f, sluMod (fun x => { x with v := f.finish }) s)
    | none => none

/-- Shaper tokens taken for a frame, and returned (R272). -/
def shaperTake (q : Fin 20) (f : QFrame) (s : State) : State :=
  if s.shaped q then bktMod (fun b => { b with shape := vmod b.shape q (fun t => t - f.cost * 65536) }) s else s

def shaperReturn (q : Fin 20) (tokens : Nat) (s : State) : State :=
  bktMod (fun b => { b with shape := vmod b.shape q (fun t => min (shapeBurst s q * 65536) (t + tokens)) }) s

/-! ### Enqueueing (R276) -/

/-- SLU_ALLOC_READ: a read of SLU_ALLOC takes a free store slot; the index read is left in the second component. -/
def sluAlloc (s : State) : State × Nat :=
  match s.freeSlot with
  | some k => (slotTake k s, k)
  | none => (s, 0xFFFFFFFF)

def execSluAllocRead (s : State) : Out := .next (sluAlloc s).1

/-- The smallest ZSEL for a length, or the one named (R105, R279). -/
def zChosen (z len : Nat) : Nat := if z = 3 then zFor len else z

/-- RX_NODE of a routed frame: the parent in single-queue mode, else by Causeway's lookup of DEST (R276). -/
def routedNode (dest : Nat) (s : State) : Option Nat :=
  if s.single then some s.parent
  else match lookup dest s.routes with
    | some r => if r.action = 1 then some s.parent else if r.action = 2 then some r.next else if r.action = 3 then some dest else none
    | none => none

/-- The queue of a routed frame: the record's QUEUE where the node has one (R269). -/
def routedQueue (n q : Nat) (s : State) : Nat :=
  match s.goodRecord n with
  | some k => s.recGet k 0x0E 1
  | none => q

/-- The fields of SLU_ENQ and of the slot are good (R276, R279). -/
def enqOk (v slot node : Nat) (s : State) : Bool :=
  let z := zChosen (field v 12 11) (field v 23 16)
  field v 31 24 == 0 && bit v 7 == false && bit v 15 == false && s.qExists (field v 4 0) && decide (field v 10 8 ≤ 5) && decide (field v 14 13 ≤ 2) &&
  decide (field v 23 16 ≤ lenLimit z) && s.slu.used.contains slot && !s.queued.any (fun f => f.slot == slot) && (bit v 6 || node != s.ownNode)

/-- The frame that a store slot and SLU_ENQ spell. -/
def enqFrame (v slot node : Nat) (s : State) : QFrame :=
  let len := field v 23 16
  { id := 0, slot := slot, node := node, ack := bit v 5, m := field v 10 8, zsel := zChosen (field v 12 11) len, rate := field v 14 13
    lh := s.rdBytes (s.storeAddr slot) 8, payload := s.rdBytes (s.storeAddr slot + 8) len, born := s.cycle, bornSlot := s.absSlot }

/-- SLU_ENQ: the frame of SLU_ENQ_SLOT is queued, or refused, and SLU_ENQ_RESULT says which (R276). -/
def sluEnq (v : Nat) (s : State) : Status × State :=
  let slot := s.regN 0x40170034
  let node0 := s.regF 0x40170038 17 0
  if !enqOk v slot node0 s then (stRange, s)
  else
    let dest := lhDest (s.rdBytes (s.storeAddr slot) 8)
    match (if bit v 6 then routedNode dest s else some node0) with
    | none => (stNoRoute, s)
    | some node =>
      let q := if bit v 6 then routedQueue node (field v 4 0) s else field v 4 0
      let q : Fin 20 := Fin.ofNat 20 q
      if s.qFull q then (stBusy, (s.flag sluStat 1).bump 0x40170068)
      else (stOk, enqueueFrame q false (enqFrame v slot node s) s)

def execSluEnq (v : BitVec 32) (s : State) : Out :=
  let r := sluEnq v.toNat s
  .next (r.2.setRegN 0x40170040 r.1.toNat)

/-- A frame that the device itself originates, in a queue (R269): its store slot, the next SEQ, and the header given. -/
def originate (q : Fin 20) (node dest port m rate : Nat) (ack : Bool) (hops : Nat) (payload : List Byte) (s : State) : Option State :=
  match s.freeSlot with
  | none => none
  | some k =>
    if s.qFull q then none
    else
      let seq := s.lnk.seq + 1
      let lh := linkHeader seq.toNat s.ownNode dest hops port
      let s := lnkMod (fun l => { l with seq := seq }) (slotTake k s)
      let s := s.dmaWrite (s.storeAddr k) (lh ++ payload)
      some (enqueueFrame q false { id := 0, slot := k, node := node, ack := ack, m := m, zsel := zFor payload.length, rate := rate, lh := lh,
                                   payload := payload, born := s.cycle, bornSlot := s.absSlot } s)

/-- R278, function 8: every queued frame ends with FUNCTION_RESET, the store is free, v and the finish tags are 0. -/
def sluReinit (s : State) : State :=
  let s := s.queued.foldl (fun s f => frameOut f.id stFnReset s) s
  sluMod (fun x => { x with used := [], v := 0, last := .replicate 20 0 }) s

end Sys2Proof.Machine
end

