-- ==== Sys2Proof/Machine/Proxy.lean ====
section
/-! DEFINITION. DTP over the air: PDUs as bytes (R27), the remote proxy and the air tunnel (R45 to R47) from their requests to
their outcomes. -/

namespace Sys2Proof.Machine

def linksMod (f : Links → Links) (s : State) : State := { s with links := f s.links }

/-- A PDU as bytes (R27). -/
def pduBytes (p : Pdu) : List Byte :=
  [BitVec.ofNat 8 (p.op.toNat * 16 + b2n p.fresh * 8 + b2n p.last * 2 + b2n p.seg), p.tid] ++ leBytes 2 p.index.toNat ++ [p.sub] ++
  leBytes 3 p.node.toNat ++ [p.status, 0] ++ leBytes 2 p.data.length ++ p.data

/-- The PDU in 12 header bytes and the data that LEN claims, with the bytes left over (R27). -/
def pduOf (b : List Byte) : Option (Pdu × List Byte) :=
  if b.length < 12 then none
  else
    let g := fun i => (b.getD i 0).toNat
    let len := g 10 + 256 * g 11
    if b.length < 12 + len then none
    else some ({ op := BitVec.ofNat 4 (g 0 / 16), fresh := bit (g 0) 3, last := bit (g 0) 1, seg := bit (g 0) 0
                 rsv := bit (g 0) 2 || g 9 != 0 || decide (4 ≤ g 7), tid := b.getD 1 0, index := BitVec.ofNat 16 (g 2 + 256 * g 3), sub := b.getD 4 0
                 node := BitVec.ofNat 18 (g 5 + 256 * g 6 + 65536 * g 7), status := b.getD 8 0, data := (b.drop 12).take len }, b.drop (12 + len))

/-- Every whole PDU of a byte string; none when bytes remain after the last (R41). -/
def pduAll : Nat → List Byte → Option (List Pdu)
  | _, [] => some []
  | 0, _ => none
  | n + 1, b =>
    match pduOf b with
    | some (p, r) => (pduAll n r).map (fun l => p :: l)
    | none => none

/-! ### The proxied values (R45, R46) -/

/-- The entry and node of a proxied value. -/
def ProxyReq.same (a : ProxyReq) (node : BitVec 18) (index : BitVec 16) (sub : Byte) : Bool := a.node == node && a.index == index && a.sub == sub

def State.proxyVal (s : State) (node : BitVec 18) (index : BitVec 16) (sub : Byte) : Option ProxyVal :=
  s.links.proxyVals.find? (fun v => v.node == node && v.index == index && v.sub == sub)

/-- A proxied value put in its place. -/
def proxyStore (v : ProxyVal) (s : State) : State :=
  linksMod (fun l => { l with proxyVals := l.proxyVals.filter (fun w => !(w.node == v.node && w.index == v.index && w.sub == v.sub)) ++ [v] }) s

/-- The proxy index of a remote index (R45). -/
def proxyIndex (i : BitVec 16) : Nat := if i.toNat < 0x8000 then 0x5000 + i.toNat else i.toNat - 0x8000 + 0x6800

/-- The remote index of a proxy index (R45). -/
def remoteIndex (i : Nat) : Nat := if i < 0x6800 then i - 0x5000 else i - 0x6800 + 0x8000

/-- The PDU that goes to the remote node. -/
def ProxyReq.pdu (r : ProxyReq) : Pdu := { op := if r.write then 2 else 1, tid := r.tid, index := r.index, sub := r.sub, seg := r.seg, last := r.last, data := r.data }

/-- An outcome of a tunnelled request: AIR_RESULT holds the node and the response PDU, and a NOTIFY goes out (R47). -/
def airOutcome (r : ProxyReq) (p : Pdu) (s : State) : State :=
  let s := linksMod (fun l => { l with airWait := l.airWait &&& ~~~(1#16 <<< (r.slot - 1)) }) s
  (s.produce 0x1102 r.slot (leBytes 4 r.node.toNat ++ pduBytes p)).notify 0x1102 r.slot stOk []

/-- The response PDU that stands for an outcome without a reply (R47). -/
def ProxyReq.outcome (r : ProxyReq) (st : Status) : Pdu := { op := if r.write then 4 else 3, tid := r.tid, index := r.index, sub := r.sub, status := st }

/-- A request ends without a reply: a NOTIFY, or the tunnel slot's result (R45, R47). A read that timed out leaves LATE (R46). -/
def proxyFail (r : ProxyReq) (st : Status) (s : State) : State :=
  if r.slot ≠ 0 then airOutcome r (r.outcome st) s
  else
    let s := if r.write || st != stLate then s else
      proxyStore { (s.proxyVal r.node r.index r.sub).getD { node := r.node, index := r.index, sub := r.sub } with late := true } s
    s.notifyAt (proxyIndex r.index) r.sub.toNat r.node st []

/-- The remote node's response (R45). -/
def proxyAnswer (r : ProxyReq) (p : Pdu) (s : State) : State :=
  if r.slot ≠ 0 then airOutcome r p s
  else
    let s := if r.write || p.status != stOk then s else
      proxyStore { node := r.node, index := r.index, sub := r.sub, data := p.data, fresh := 0x7F } s
    s.notifyAt (proxyIndex r.index) r.sub.toNat r.node p.status []

/-! ### Sending (R45 to R47) -/

/-- The next hops of a request: those of a broadcast (R266), or the one toward the node. -/
def proxyHops (node : Nat) (s : State) : List Nat :=
  if node = 0x3FFFF then
    match ((s.routes.filter (fun r => r.action == 2)).map (·.next)).dedup with
    | [] => [node]
    | l => l
  else (routedNode node s).toList

/-- One frame for each next hop, on port 0x01; none where Sluice has no room. -/
def proxyQueue (dest : Nat) (bytes : List Byte) : List Nat → List Nat → State → Option (List Nat × State)
  | [], acc, s => some (acc, s)
  | n :: r, acc, s =>
    match originate 1 n dest 1 0 1 false 15 bytes s with
    | some s => proxyQueue dest bytes r (acc ++ [s.slu.nextId - 1]) s
    | none => none

/-- Behind an earlier request of the same item that has left, a request waits (R46). -/
def proxyHeld (r : ProxyReq) (s : State) : Bool := s.links.proxies.any (fun q => q.same r.node r.index r.sub && q.left)

/-- A request goes to Sluice and becomes pending: BUSY where Sluice has no room, NO_ROUTE as an outcome where Causeway has no range
(R45, R46). -/
def proxySend (r : ProxyReq) (s : State) : Option State :=
  if proxyHeld r s then some (linksMod (fun l => { l with proxies := l.proxies ++ [r] }) s)
  else match proxyHops r.node.toNat s with
    | [] => some (proxyFail r stNoRoute s)
    | hops =>
      match proxyQueue r.node.toNat (pduBytes r.pdu) hops [] s with
      | some (ids, s) => some (linksMod (fun l => { l with proxies := l.proxies ++ [{ r with frames := ids }] }) s)
      | none => none

/-- The request behind one that has ended is sent now. -/
def proxyNext (node : BitVec 18) (index : BitVec 16) (sub : Byte) (s : State) : State :=
  match takeFirst (fun q : ProxyReq => q.same node index sub && !q.left && q.frames.isEmpty) s.links.proxies with
  | none => s
  | some (q, rest) =>
    if rest.any (fun p => p.same node index sub) then s
    else
      let t := linksMod (fun l => { l with proxies := rest }) s
      (proxySend q t).getD (proxyFail q stBusy t)

/-- A pending request taken from the list, and the one behind it sent. -/
def proxyTake (p : ProxyReq → Bool) (s : State) : Option (ProxyReq × State) :=
  match takeFirst p s.links.proxies with
  | none => none
  | some (r, rest) => some (r, proxyNext r.node r.index r.sub (linksMod (fun l => { l with proxies := rest }) s))

/-- A frame of Sluice has left: the request it carries has left; a broadcast is over with its last frame (R45). -/
def proxyLeft (id : Nat) (s : State) : State :=
  match s.links.proxies.find? (fun r => r.frames.contains id) with
  | none => s
  | some r =>
    let rest := r.frames.filter (· != id)
    if r.node = 0x3FFFF ∧ rest.isEmpty then
      let s := linksMod (fun l => { l with proxies := l.proxies.erase r }) s
      if r.slot ≠ 0 then airOutcome r (r.outcome stOk) s else s.notifyAt (proxyIndex r.index) r.sub.toNat r.node stOk []
    else linksMod (fun l => { l with proxies := l.proxies.map (fun q => if q = r then { r with frames := rest, left := true } else q) }) s

/-- A queued WRITE's value replaced before it has left (R46). -/
def proxyReplace (r : ProxyReq) (data : List Byte) (s : State) : State :=
  let n := { r with data := data }
  let s := linksMod (fun l => { l with proxies := l.proxies.map (fun q => if q = r then n else q) }) s
  r.frames.foldl (fun s id => match s.queueOf id with
    | some (_, f) => qframeMod id (fun f => { f with payload := (pduBytes n.pdu), zsel := zFor (pduBytes n.pdu).length })
        (s.dmaWrite (s.storeAddr f.slot + 8) (pduBytes n.pdu))
    | none => s) s

/-- Every pending request ends with FUNCTION_RESET: core 1 has been restarted or replaced (R50, R360). -/
def proxiesReset (s : State) : State :=
  s.links.proxies.foldl (fun s r => proxyFail r stFnReset s) (linksMod (fun l => { l with proxies := [] }) s)

/-- How a pending request ends without its reply. -/
def proxyLate (r : ProxyReq) (s : State) : State :=
  let s := r.frames.foldl (fun s id => match s.queueOf id with | some _ => frameOut id stLate s | none => s) s
  proxyFail r (if r.node = 0x3FFFF then stRegulatory else stLate) s

end Sys2Proof.Machine
end

