-- ==== Sys2Proof/Machine/Cwy.lean ====
section
/-! DEFINITION. Causeway: table builds (R251), roster operations (R258, R259), and the relay decision (R255, R260 to R267). -/

namespace Sys2Proof.Machine

def cwyMod (f : Cwy → Cwy) (s : State) : State := { s with cwy := f s.cwy }

def cwyStat : Nat := 0x40160020

/-- A counter of Causeway, a register and an entry of 0x2400, with its event bit. -/
def cwyCount (reg sub flag : Nat) (s : State) : State := ((s.flag cwyStat flag).bump reg).dBump 0x2400 sub

/-- A frame forwarded is counted. -/
def forwarded (s : State) : State := (s.bump 0x40160060).dBump 0x2400 0x10

/-! ### Builds (R251) -/

/-- A commit: the shadow is copied and a build begins; BUSY while one runs. -/
def routeCommit (s : State) : Status × State :=
  if s.cwy.build.isSome then (stBusy, s.produceSt 0x2400 3 stBusy)
  else (stOk, (cwyMod (fun c => { c with build := some (s.tableAt shadowBase) }) (s.setRegF 0x40160010 8 8 1)).resPend 0x2400 3)

/-- The end of a build: CWY_BUILD, ROUTE_FAIL_ENTRY and ROUTE_STATUS. -/
def buildEnd (st : Status) (entry : Nat) (s : State) : State :=
  ((cwyMod (fun c => { c with build := none }) (s.setRegN 0x40160010 (st.toNat + 0x10000 * entry))).dPut 0x2400 4 entry).produceSt 0x2400 3 st

/-- ROUTE_BUILD_DONE: a table that breaks R249 fails with its first failing entry; one that passes waits for a slot boundary. -/
def routeBuildDone (s : State) : State :=
  match s.cwy.build with
  | none => s
  | some t =>
    match failingEntry s.bigRole (routesOf t) with
    | some i => (buildEnd stRange i s).flag cwyStat 1
    | none => cwyMod (fun c => { c with built := some t }) (buildEnd stOk 0 s)

def execRouteBuildDone (s : State) : Out := .next (routeBuildDone s)

/-- The table of an area replaced. -/
def putTable (base : Nat) (t : List (Nat × List Byte)) (s : State) : State :=
  t.foldl (fun s p => s.wrBytes (base + 16 * p.1) p.2) (s.setCells (Memory.clear s.mem.cells base (base + 192000)))

/-- ROUTE_TABLE_SWITCH: at a slot boundary the new table comes into force. -/
def routeSwitch (s : State) : State :=
  match s.cwy.built with
  | none => s
  | some t =>
    let n := (routesOf t).length
    ((putTable forceBase t (cwyMod (fun c => { c with built := none }) (s.flag cwyStat 0))).setRegN 0x40160008 n).dPut 0x2400 5 n

def execRouteTableSwitch (s : State) : Out := .next (routeSwitch s)

/-! ### Roster operations (R258, R259) -/

/-- A node number that this device may hold a record of (R252). -/
def State.rosterRange (s : State) (n : Nat) : Bool := nodeNumber n && decide (s.dU 0x2500 2 ≤ n) && decide (n ≤ s.dU 0x2500 3)

/-- OP_REQUEST. -/
def rosterOpRequest (s : State) : Status × State :=
  let lo := s.dU 0x2500 6
  let hi := s.dU 0x2500 7
  if s.cwy.op.isSome then (stBusy, s.produceSt 0x2500 9 stBusy)
  else if !s.rosterOn then (stNotReady, s.produceSt 0x2500 9 stNotReady)
  else if !s.rosterRange lo || !s.rosterRange hi then (stOk, (s.dPut 0x2500 0x0A 0).produceSt 0x2500 9 stRange)
  else (stOk, (cwyMod (fun c => { c with op := some { remove := s.dU 0x2500 5 == 2, lo := lo, hi := hi } }) s).resPend 0x2500 9)

/-- ADD from a number on: the status and the records created. -/
def addFrom : Nat → Nat → Nat → State → Status × Nat × State
  | 0, _, k, s => (stOk, k, s)
  | n + 1, i, k, s =>
    if (s.recordOf i).isSome then addFrom n (i + 1) k s
    else match addRecord i s with
      | some s => addFrom n (i + 1) (k + 1) s
      | none => (stRange, k, s)

/-- A record removed, and its node's waiting downlinks ended with NO_ENTRY. -/
def removeNode (i : Nat) (s : State) : State :=
  removeRecord i ((s.queued.filter (fun f => f.node == i)).foldl (fun s f => frameOut f.id stNoEntry s) s)

/-- REMOVE from a number on. -/
def removeFrom : Nat → Nat → Nat → State → Nat × State
  | 0, _, k, s => (k, s)
  | n + 1, i, k, s => if (s.recordOf i).isSome then removeFrom n (i + 1) (k + 1) (removeNode i s) else removeFrom n (i + 1) k s

/-- The end of an operation: OP_STATUS, OP_DONE, and CWY_STAT. -/
def opEnd (st : Status) (k : Nat) (s : State) : State :=
  ((cwyMod (fun c => { c with op := none }) (s.flag cwyStat 8)).dPut 0x2500 0x0A k).produceSt 0x2500 9 st

/-- ROSTER_OP_DONE: the operation has run over its range. -/
def rosterOpDone (s : State) : State :=
  match s.cwy.op with
  | none => s
  | some o =>
    if o.remove then
      let r := removeFrom (o.hi + 1 - o.lo) o.lo 0 s
      opEnd stOk r.1 r.2
    else
      let r := addFrom (o.hi + 1 - o.lo) o.lo 0 s
      opEnd r.1 r.2.1 r.2.2

def execRosterOpDone (s : State) : Out := .next (rosterOpDone s)

/-- RESTORE_REQUEST: the image becomes the record; its downlink group is rebuilt from the queues; POISONED clears (R259). -/
def restoreRecord (s : State) : Status × State :=
  let n := s.dU 0x2500 0x10
  let img := s.dGet 0x2500 0x11
  let st := if img.length ≠ 192 ∨ field (leNat (img.take 4)) 17 0 ≠ n then stRange else if !s.rosterOn then stNotReady
    else if (s.recordOf n).isNone then stNoEntry else stOk
  match s.recordOf n with
  | some k =>
    if st ≠ stOk then (stOk, s.produceSt 0x2500 0x13 st)
    else
      let id := putField (putField (leNat (img.take 4)) 18 18 1) 19 19 0
      let s := s.dmaWrite (s.recAddr k) (leBytes 4 id ++ img.drop 4)
      (stOk, ((syncRecords (syncDownlinks n s)).flag cwyStat 8).produceSt 0x2500 0x13 stOk)
  | none => (stOk, s.produceSt 0x2500 0x13 st)

/-! ### The relay decision -/

/-- The SOURCE record after a local delivery, and a lost-sync message in it (R237, R255). -/
def originUpdate (f : MeshFrame) (s : State) : State :=
  match s.recordOf (lhSource f.lh) with
  | none => s
  | some k =>
    if s.recPoisoned k then poisonHit s
    else
      let retry := b2n (Hdr.ofBytes f.hdr).retry
      let s := s.dmaWrite (s.recAddr k + 0x40) (leBytes 8 f.slot ++ leBytes 4 (s.recGet k 0x48 4 + 1) ++ leBytes 4 (s.recGet k 0x4C 4 + retry) ++
        leBytes 2 (lhField f.lh 0 16) ++ leBytes 1 retry ++ leBytes 1 (lhPort f.lh))
      if lhPort f.lh = 0 ∧ f.payload.length = 8 ∧ f.payload.head? = some 1 then
        s.dmaWrite (s.recAddr k + 0x54) (leBytes 2 (s.recGet k 0x54 2 + 1) ++ leBytes 2 (beNat (f.payload.drop 6)) ++
          leBytes 8 (beNat ((f.payload.drop 1).take 5)))
      else s

/-- FRAME_DELIVER: a frame handed to this device's firmware; a DTP PDU goes to the dictionary (R106, R262). -/
def deliver (f : MeshFrame) (s : State) : State :=
  let s := if s.rosterOn then originUpdate f s else s
  if lhPort f.lh = 1 then cwyMod (fun c => { c with inbox := c.inbox ++ [f] }) s else s

/-- The S of the next SEND occurrence whose window fits a frame, 0 for none (R265). -/
def plannedSend (f : QFrame) (s : State) : Nat :=
  ((fins 64).filterMap (fun i =>
    let w := s.sg i
    if w.type = 1 ∧ !w.retryOnly ∧ airUs (s.lnk.advM.getD w.m) f.zsel f.rate * 1000 ≤ w.w * s.tminNs then some (w.next w.w s.absSlot + w.w - 1) else none)).foldl
    (fun a t => if a = 0 ∨ t < a then t else a) 0

/-- The queue frame of a forwarded frame (R263, R265). -/
def forwardOf (f : MeshFrame) (node k : Nat) (s : State) : QFrame :=
  let h := Hdr.ofBytes f.hdr
  { id := 0, slot := k, node := node, ack := h.ack, m := f.m, zsel := zFor f.payload.length, rate := h.rate, lh := lhHop f.lh, payload := f.payload
    retry := h.retry, fwd := true, born := s.cycle, bornSlot := s.absSlot }

/-- A frame forwarded into a queue, when a store slot and room are there. -/
def forward (f : MeshFrame) (node : Nat) (up : Bool) (q : Fin 20) (s : State) : Option State :=
  match s.freeSlot with
  | none => none
  | some k =>
    if s.qFull q then none
    else
      let g := forwardOf f node k s
      let g := { g with plan := if up then plannedSend g s else 0 }
      some (forwarded (enqueueFrame q false g ((slotTake k s).dmaWrite (s.storeAddr k) (g.lh ++ g.payload))))

/-- The next hop's DL_LIMIT is reached (R253, R262). -/
def dlLimitReached (n : Nat) (s : State) : Bool :=
  match s.goodRecord n with
  | some k => decide (s.recGet k 0x0F 1 ≤ s.recGet k 0x70 2)
  | none => false

/-- BROADCAST_FORWARD: once to each distinct next hop of the DOWN entries, never back to where it came from (R266). -/
def broadcast (f : MeshFrame) (s : State) : State :=
  if s.dU 0x2400 7 ≠ 1 ∨ lhHops f.lh = 0 then s
  else
    let hops := ((s.routes.filter (fun r => r.action == 2 && r.next != (Hdr.ofBytes f.hdr).tx)).map (·.next)).dedup
    hops.foldl (fun s n => (forward f n false (Fin.ofNat 20 (s.dU 0x2400 8)) s).getD s) s

/-- A held frame is left out of the acknowledgement set (R264). -/
def hold (f : MeshFrame) (s : State) : State :=
  cwyCount 0x4016006C 0x13 3 (lnkMod (fun l => { l with tagged := l.tagged.map (fun t => if t.id = f.id then { t with held := true } else t) }) s)

/-- A stranger's frame is counted (R260). -/
def strangerSeen (f : MeshFrame) (s : State) : State :=
  let tx := (Hdr.ofBytes f.hdr).tx
  if s.stranger tx then (((s.flag cwyStat 5).bump 0x40160070).dPut 0x2500 0x1A tx) else s

/-- A frame for the Peer Link, HOPS unchanged (R267). -/
def toPeer (pos : Nat) (f : MeshFrame) (s : State) : State :=
  forwarded (cwyMod (fun c => { c with peerOut := c.peerOut ++ [(pos % 8, f)] }) s)

/-- What a table entry does with a frame (R262, R263); a PEER frame for a position whose heartbeat is lost has no route (R511). -/
def routed (f : MeshFrame) (r : Route) (s : State) : State :=
  let dest := lhDest f.lh
  if r.action = 0 then deliver f s
  else if r.action = 5 then (s.bump 0x40160078).dBump 0x2400 0x15
  else if lhHops f.lh = 0 then cwyCount 0x40160068 0x12 4 s
  else if r.action = 4 then
    if (vget s.plk.members (Fin.ofNat 8 r.next)).isSome then toPeer r.next f s else cwyCount 0x40160064 0x11 2 s
  else
    let up := r.action == 1
    let node := if up then s.parent else if r.action = 2 then r.next else dest
    if !up && dlLimitReached node s then hold f s
    else (forward f node up (Fin.ofNat 20 r.queue) s).getD (hold f s)

/-- The decision of R262; with the Causeway domain off, that of R246. -/
def decideFrame (f : MeshFrame) (s : State) : State :=
  let dest := lhDest f.lh
  if !s.isOn dCWY then (if dest = s.ownNode ∨ dest = 0x3FFFF then deliver f s else s)
  else
    let s := strangerSeen f s
    if dest = s.ownNode then deliver f s
    else if dest = 0x3FFFF then broadcast f (deliver f s)
    else if s.stranger (Hdr.ofBytes f.hdr).tx && s.dU 0x2400 6 != 1 then deliver f s
    else match lookup dest s.routes with
      | none => cwyCount 0x40160064 0x11 2 s
      | some r => routed f r s

/-- RELAY_DECISION: Causeway decides the oldest frame that waits. -/
def relayDecision (s : State) : State :=
  match s.cwy.todo with
  | [] => s
  | f :: rest => if s.isOn dCWY && !s.regB 0x40160000 1 then s else decideFrame f (cwyMod (fun c => { c with todo := rest }) s)

def execRelayDecision (s : State) : Out := .next (relayDecision s)

/-- PEER_FRAME_RECEIVE: a PEER frame of the Peer Link is decided under the device's own table (R267). -/
def peerFrameReceive (hdr lh payload : List Byte) (slot m : Nat) (s : State) : State :=
  decideFrame { hdr := hdr, lh := lh, payload := payload, slot := slot, m := m } s

def execPeerFrameReceive (hdr lh payload : List Byte) (slot : Nat) (m : Fin 6) (s : State) : Out := .next (peerFrameReceive hdr lh payload slot m.1 s)

/-! ### Re-initialisation (R278) -/

/-- Function 7: frames that await a decision are delivered and not forwarded; a running build ends. -/
def cwyReinit (s : State) : State :=
  let s := s.cwy.todo.foldl (fun s f => deliver f s) s
  let s := if s.cwy.build.isSome then buildEnd stFnReset (s.dU 0x2400 4) s else s
  cwyMod (fun c => { c with todo := [] }) s

/-- Function 9: a running roster operation ends; what it has touched stays. -/
def rosterReinit (s : State) : State := if s.cwy.op.isSome then opEnd stFnReset 0 s else s

end Sys2Proof.Machine
end

