-- ==== Sys2Proof/Machine/Storage.lean ====
section
/-! DEFINITION. The controllers of storage: SRAM scrubbing and row repair (R365, R366), the flash controller (R367 to R378), and the
DRAM controller (R380 to R394). -/

namespace Sys2Proof.Machine

/-! ### SRAM -/

/-- An address in shared SRAM or in an X or Y memory. -/
def isSram (a : Nat) : Bool :=
  match regionOf a with
  | .sram => true | .xmem _ => true | .ymem _ => true
  | _ => false

/-- SRAM_SCRUB_PASS: every word with a single-bit error is corrected and counted against its row (R365). `found` are the words
in which the scrubber meets one. -/
def sramScrubPass (found : List (BitVec 32)) (s : State) : State :=
  foldS (fun a s => if isSram a && s.region a == regionOf a then countCorrected a s else s) (found.map (·.toNat) ++ s.mem.soft) s

def execSramScrubPass (found : List (BitVec 32)) (s : State) : Out := .next (sramScrubPass found s)

/-- Macros with no spare row left, of all classes (0x3200.11). -/
def State.macrosFull (s : State) : Nat := (s.mem.rowSpare.filter (fun (_, n) => decide (2 ≤ n))).length

/-- The unit of a row's detector: its macro in shared SRAM, its logical core in X and Y memory (R479). -/
def rowUnit (a : Nat) : Nat :=
  match regionOf a with
  | .xmem c => c.1 | .ymem c => c.1
  | _ => macroOf a

def rowShared (a : Nat) : Bool := match regionOf a with
  | .sram => true
  | _ => false

/-- The row of `a` takes its macro's next spare: single-bit errors are gone, its count starts again, and the counters follow
(R366). -/
def takeRow (a : Nat) (s : State) : State :=
  let m := macroOf a
  let s := mmod (fun x => { x with
    rowSpare := alPut x.rowSpare m ((alGet x.rowSpare m).getD 0 + 1)
    rowCe := alDel x.rowCe (rowOf a)
    soft := x.soft.filter (fun w => rowOf w != rowOf a || !isSram w)
    repaired := x.repaired ++ [rowOf a] }) s
  let s := (s.dPut 0x3200 0x10 (s.dU 0x3200 0x10 + 1)).dPut 0x3200 0x11 s.macrosFull
  spareTaken (if rowShared a then 4 else 5) s

/-- SRAM_ROW_REPAIR of the row that holds `a`: it shows an uncorrectable error in the words `bad`, or its corrected errors have reached
ROW_CE_LIMIT (R366). With no spare row left in the macro the row stays in use, reported with SPARE_EXHAUSTED (R9). -/
def sramRowRepair (addr : BitVec 32) (bad : List (BitVec 32)) (s : State) : State :=
  let a := addr.toNat
  if !isSram a || s.region a != regionOf a then s else
  let hit := (bad.map (fun w => w.toNat / 4 * 4)).filter (fun w => rowOf w == rowOf a)
  let s := mmod (fun x => { x with bad := x.bad ++ hit.filter (fun w => !x.bad.contains w) }) s
  let id := if rowShared a then 5 else 6
  if hit.isEmpty && decide ((alGet s.mem.rowCe (rowOf a)).getD 0 < s.dU 0x3200 0x13) then s
  else if (alGet s.mem.rowSpare (macroOf a)).getD 0 < 2 then healthEvent id (rowUnit a) 2 false (takeRow a s)
  else healthEvent id (rowUnit a) 3 false (spareMissing (if rowShared a then 4 else 5) 3 s)

def execSramRowRepair (a : BitVec 32) (bad : List (BitVec 32)) (s : State) : Out := .next (sramRowRepair a bad s)

/-! ### Flash: the unlock sequence -/

def flcStat : Nat := 0x40060024

/-- The number of a master in FLC terms. -/
def masterNum : Master → Fin 8
  | .core c _ => Fin.ofNat 8 c.1
  | .engine => 6
  | .block => 7

/-- A sequence is refused with NOT_READY and the FLC locks again (R371). -/
def flcRefuse (st : Status) (s : State) : State :=
  (mmod (fun m => { m with flcSeq := .locked }) s).setRegN 0x40060028 st.toNat

/-- An address a flash operation can name: in the flash or the information block, 16-byte aligned (R371). -/
def flashAddr (a : Nat) : Bool := (bankOf a).isSome && a % 16 == 0

/-- The store that starts an operation was fetched from the boot ROM (R368). -/
def fromRom : Master → Bool
  | .core _ pc => decide (pc.toNat < 0x18000)
  | _ => false

/-- The sources allowed to program and erase an area (R368). -/
def flashAllowed (m : Master) (a : Nat) : Bool :=
  if 0x10000000 ≤ a ∧ a < 0x10020000 then fromRom m || m == .engine
  else if 0x10020000 ≤ a ∧ a < 0x10320000 then fromRom m
  else if 0x18000000 ≤ a ∧ a < 0x18002000 then false
  else if 0x18004000 ≤ a ∧ a < 0x18008000 then (match m with | .core c _ => c == 4 | _ => false)
  else true

/-- The store that starts an operation was fetched from the bank it works on (R373). -/
def fetchedFrom (m : Master) (b : Option Bool) : Bool :=
  match m with
  | .core _ pc => (bankOf pc.toNat).isSome && bankOf pc.toNat == b
  | _ => false

/-- Sixteen bytes that read erased. -/
def erasedAt (a : Nat) (s : State) : Bool := (s.rdBytes a 16).all (· == 0xFF)

/-- A sequence has reached its start: the operation runs, or is refused with BUSY, DENIED, SAMEBANK (R368, R373), or NOT_READY when a
word to program does not read erased (log entry 20). -/
def flcStart (m : Master) (cmd : Fin 8) (a : Nat) (data : List Byte) (s : State) : State :=
  if s.mem.flcOp.isSome then flcRefuse stBusy s
  else if (cmd = 1 ∨ cmd = 2) ∧ !flashAllowed m a then flcRefuse stDenied s
  else if fetchedFrom m (bankOf a) && !s.regB 0x40060000 4 then (flcRefuse stSameBank s).flag flcStat 3
  else if cmd = 1 ∧ !erasedAt a s then flcRefuse stNotReady s
  else (mmod (fun x => { x with flcSeq := .locked, flcOp := some { cmd := cmd, addr := a, data := data } }) s).flag flcStat 1

/-- A command value in an open sequence: 1 to 5 go on, every other ends the sequence with OUT_OF_RANGE (R372). -/
def flcCommand (c : Fin 8) (s : State) : State :=
  if 1 ≤ c.1 ∧ c.1 ≤ 5 then mmod (fun x => { x with flcSeq := .cmd c }) s else flcRefuse stRange s

/-- FLC_DATA0 to FLC_DATA3 as sixteen bytes, DATA0 least significant. -/
def flcData (s : State) : List Byte :=
  leBytes 4 (s.regN 0x40060014) ++ leBytes 4 (s.regN 0x40060018) ++ leBytes 4 (s.regN 0x4006001C) ++ leBytes 4 (s.regN 0x40060020)

/-- The registers of the sequence. -/
inductive FlcReg where
  | keyReg | cmdReg | addrReg | dataReg (k : Fin 4)
  deriving DecidableEq, Repr

/-- FLC_ADDR and FLC_DATA take the word written. -/
def flcTake (r : FlcReg) (v : BitVec 32) (s : State) : State :=
  match r with
  | .addrReg => s.setReg 0x40060010 v
  | .dataReg k => s.setReg (0x40060014 + 4 * k.1) v
  | _ => s

/-- One write of the sequence by its owner, or with no sequence open (R371). -/
def flcOrder (m : Master) (r : FlcReg) (v : BitVec 32) (s : State) : State :=
  let s := flcTake r v s
  match s.mem.flcSeq, r with
  | .locked, .keyReg =>
    if v = 0x6D1E0C95 then mmod (fun x => { x with flcSeq := .key1, flcOwner := masterNum m }) s else flcRefuse stNotReady s
  | .key1, .keyReg => if v = 0x92E1F36A then mmod (fun x => { x with flcSeq := .unlocked }) s else flcRefuse stNotReady s
  | .unlocked, .cmdReg => flcCommand (Fin.ofNat 8 v.toNat) s
  | .cmd c, .addrReg =>
    if !flashAddr v.toNat then flcRefuse stNotReady s
    else if c = 1 then mmod (fun x => { x with flcSeq := .data v.toNat 0 }) s
    else flcStart m c v.toNat [] s
  | .data a n, .dataReg k =>
    if k ≠ n then flcRefuse stNotReady s
    else if k = 3 then flcStart m 1 a (flcData s) s
    else mmod (fun x => { x with flcSeq := .data a (k + 1) }) s
  | _, _ => flcRefuse stNotReady s

/-- A write of the sequence: by another master than the owner of an open sequence it is ignored and sets SEQERR (R371). -/
def flcWrite (m : Master) (r : FlcReg) (v : BitVec 32) (s : State) : State :=
  if s.mem.flcSeq ≠ .locked ∧ masterNum m ≠ s.mem.flcOwner then s.flag flcStat 2 else flcOrder m r v s

def execFlcKeyWrite (m : Master) (v : BitVec 32) (s : State) : Out := .next (flcWrite m .keyReg v s)

/-- The writes of FLC_CMD and FLC_ADDR that start an operation (R371). -/
def flcCmdAddr (m : Master) (c : BitVec 32) (a : BitVec 32) (s : State) : State := flcWrite m .addrReg a (flcWrite m .cmdReg c s)

/-- FLC_PROGRAM: the writes of FLC_CMD, FLC_ADDR and FLC_DATA0 to FLC_DATA3 (R371, R372). -/
def flcProgram (m : Master) (a : BitVec 32) (v : BitVec 128) (s : State) : State :=
  foldS (fun (k : Fin 4) s => flcWrite m (.dataReg k) (v.extractLsb' (32 * k.1) 32) s) (fins 4) (flcCmdAddr m 1 a s)

def execFlcProgram (m : Master) (a : BitVec 32) (v : BitVec 128) (s : State) : Out := .next (flcProgram m a v s)
def execFlcErase (m : Master) (a : BitVec 32) (s : State) : Out := .next (flcCmdAddr m 2 a s)
def execFlcVerifyProgram (m : Master) (a : BitVec 32) (s : State) : Out := .next (flcCmdAddr m 3 a s)
def execFlcVerifyErase (m : Master) (a : BitVec 32) (s : State) : Out := .next (flcCmdAddr m 4 a s)
def execFlcRemap (m : Master) (a : BitVec 32) (s : State) : Out := .next (flcCmdAddr m 5 a s)

/-- FLC_BAD_COMMAND: a write of FLC_CMD; the values 0, 6 and 7 end the sequence with OUT_OF_RANGE (R372). -/
def execFlcBadCommand (m : Master) (c : Fin 8) (s : State) : Out := .next (flcWrite m .cmdReg (BitVec.ofNat 32 c.1) s)

/-! ### Flash: the end of an operation -/

/-- The sector number of a flash address in its bank; the information block lies in bank B's sectors 440 to 511 (R367). -/
def sectorNo (a : Nat) : Nat :=
  if 0x18040000 ≤ a then 448 + (a - 0x18040000) / 0x2000
  else if 0x18000000 ≤ a then 440 + (a - 0x18000000) / 0x2000
  else (a - 0x10000000) % 0x400000 / 0x2000

/-- The word address of an address within the flash: [22:4] of its offset (R375, R395). -/
def flashOffset (a : Nat) : Nat := (if bankOf a = some true then 0x400000 else 0) + sectorNo a * 0x2000 + a % 0x2000

/-- Spares left in a bank: FLC_SPARE. -/
def State.bankSpares (s : State) (b : Bool) : Nat := s.regF 0x40060040 (if b then 14 else 6) (if b then 8 else 0)

/-- A sector moves to the next spare of its bank: the grown-defect table, FLC_SPARE, the entries and the class follow (R374, R483). -/
def remapSector (a : Nat) (s : State) : State :=
  let b := bankOf a == some true
  let left := s.bankSpares b
  let n := s.mem.remaps.length
  let s := mmod (fun m => { m with
    remaps := m.remaps ++ [(sectorOf a, 64 - left)]
    sectorCe := alDel m.sectorCe (sectorOf a)
    soft := m.soft.filter (fun w => sectorOf w != sectorOf a) }) s
  let s := if n < 128 then s.setRegN (0x40060100 + 4 * n) (2 ^ 31 + (64 - left) * 1024 + b2n b * 512 + sectorNo a) else s
  let s := s.setRegF 0x40060040 (if b then 14 else 6) (if b then 8 else 0) (left - 1)
  let s := (s.setRegN 0x40060044 (n + 1)).dPut 0x3200 3 (n + 1)
  let s := s.dPut 0x3200 (if b then 2 else 1) (left - 1)
  healthEvent 8 (b2n b) 2 false (spareTaken (if b then 3 else 2) s)

/-- A remap for which the bank has no spare left (R374). -/
def remapNone (a : Nat) (s : State) : State :=
  let b := bankOf a == some true
  healthEvent 8 (b2n b) 3 false (spareMissing (if b then 3 else 2) 3 (s.flag flcStat 5))

/-- The word of a completed PROGRAM. -/
def programmed (op : FlashOp) (s : State) : State := s.wrBytes op.addr op.data

/-- A sector erased: every byte reads all ones, and its words are clean. -/
def erased (a : Nat) (s : State) : State :=
  let b := sectorOf a
  mmod (fun m => { m with
    cells := Memory.clear m.cells b (b + 0x2000)
    bad := m.bad.filter (fun w => sectorOf w != b)
    soft := m.soft.filter (fun w => sectorOf w != b)
    sectorCe := alDel m.sectorCe b }) s

/-- A valid header and CRC at a ring sector: SEQ and record length (R377). -/
def ringRecord (i : Nat) (s : State) : Option Nat :=
  let b := 0x10000000 + 0x2000 * i
  let len := s.rdN (b + 8) 4
  if s.rdBytes b 4 = [0x42, 0x52, 0x45, 0x43] ∧ len ≤ 0x2000 - 16 ∧ crc32 (s.rdBytes (b + 16) len) = s.rdN (b + 12) 4 then some (s.rdN (b + 4) 4)
  else none

/-- a is newer than b when a − b modulo 2^32 lies in 1 to 2^31 − 1 (R377). -/
def seqNewer (a b : Nat) : Bool := decide (0 < (a + 2 ^ 32 - b) % 2 ^ 32) && decide ((a + 2 ^ 32 - b) % 2 ^ 32 < 2 ^ 31)

/-- The newest valid ring sector and its SEQ (R377). -/
def State.newestRing (s : State) : Option (Nat × Nat) :=
  (List.range 16).foldl (fun best i =>
    match ringRecord i s, best with
    | some q, some (j, r) => if seqNewer q r then some (i, q) else some (j, r)
    | some q, none => some (i, q)
    | none, b => b) none

/-- The boot-record window moves to the newest valid record: FLC_RING and RING_SEQ (R378). -/
def moveWindow (s : State) : State :=
  match s.newestRing with
  | some (i, q) => (s.setRegN 0x40060054 (i + q % 2 ^ 24 * 256)).dPut 0x3200 6 q
  | none => s.setRegN 0x40060054 16

/-- The end of an operation: FLC_RESULT, DONE, and BUSY clears. -/
def flcEnd (st : Status) (s : State) : State :=
  ((mmod (fun m => { m with flcOp := none }) s).setRegN 0x40060028 st.toNat).setRegN flcStat
    (putField (putField (s.regN flcStat) 1 1 0) 0 0 1)

/-- The result of a verify: failing words and the first of them (R372). -/
def verifyResult (op : FlashOp) (words : List (Fin 512)) (s : State) : State :=
  let s := s.setRegN 0x40060030 words.length
  s.setRegN 0x40060034 (match words with | [] => 0 | w :: _ => sectorOf op.addr + 16 * w.1)

/-- PROGRAM or ERASE has done its work on the sector or on the spare that took its place; the ring's window follows (R374, R378). -/
def flashWork (op : FlashOp) (s : State) : State :=
  let s := if op.cmd = 1 then programmed op s else erased op.addr s
  if op.addr < 0x10020000 then moveWindow s else s

/-- FLC_OP_DONE: the running operation ends. `fails` says that its internal verify still fails after the last pulse (R374);
`words` are the failing words of a verify, in rising order (R372). -/
def flcOpDone (fails : Bool) (words : List (Fin 512)) (s : State) : State :=
  match s.mem.flcOp with
  | none => s
  | some op =>
    let left := s.bankSpares (bankOf op.addr == some true)
    if op.cmd = 3 ∨ op.cmd = 4 then flcEnd stOk (verifyResult op words s)
    else if op.cmd = 5 then
      if left = 0 then flcEnd stExhausted (remapNone op.addr s) else flcEnd stOk (remapSector op.addr s)
    else if !fails then flcEnd stOk (flashWork op s)
    else if left = 0 then flcEnd stExhausted (remapNone op.addr s)
    else flcEnd stOk ((flashWork op (remapSector op.addr s)).flag flcStat 4)

def execFlcOpDone (fails : Bool) (words : List (Fin 512)) (s : State) : Out := .next (flcOpDone fails words s)

/-- FLC_INTR_WRITE: a write of 0 clears the record, and FLC_STAT.INTERRUPTED with it (R375). -/
def flcIntrWrite (s : State) : State := (s.setRegN 0x40060050 0).unflag flcStat 9

def execFlcIntrWrite (s : State) : Out := .next (flcIntrWrite s)

/-! ### DRAM -/

def dmcStat : Nat := 0x40070008

/-- An address in a logical rank slot. -/
def dramSlot (a : Nat) : Option (Fin 2) :=
  match regionOf a with
  | .dram k => some k
  | _ => none

/-- DMC_MAP and DRAM_MAP follow the map (R380). -/
def syncMap (s : State) : State :=
  let m := s.mem
  let v := (vget m.slotRank 0).1 + 4 * (vget m.slotRank 1).1 + 16 * m.spareRank.1 + 64 * m.rankRetired.toNat + 512 * b2n m.spareOk
  (s.setRegN 0x40070004 v).dPut 0x3200 0x20 v

def migNumber : MigState → Nat
  | .idle => 0 | .waking => 1 | .copying => 2 | .swapping => 3

/-- DMC_MIG and DRAM_MIG_STATE follow the migration (R391). -/
def syncMig (s : State) : State :=
  (s.setRegN 0x40070010 (migNumber s.mem.mig + 4 * s.mem.migSlot.1)).dPut 0x3200 0x21 (migNumber s.mem.mig)

/-- DRAM_SCRUB_PASS: every single-bit error of an in-service block is corrected and counted (R381), while the scrubber is enabled. -/
def dramScrubPass (found : List (BitVec 32)) (s : State) : State :=
  if !s.regB 0x40070000 2 then s
  else foldS (fun a s => if (dramSlot a).isSome && s.region a == regionOf a then countCorrected a s else s) (found.map (·.toNat) ++ s.mem.soft) s

def execDramScrubPass (found : List (BitVec 32)) (s : State) : Out := .next (dramScrubPass found s)

/-- The slot that a rank serves. -/
def State.slotOf (s : State) (r : Fin 3) : Option (Fin 2) :=
  if vget s.mem.slotRank 0 = r then some 0 else if vget s.mem.slotRank 1 = r then some 1 else none

/-- A retirement with no spare to take: the rank stays in service (R393). -/
def rankStays (s : State) : State := spareMissing 1 3 (s.flag dmcStat 5)

/-- RANK_RETIRE: an in-service rank is retired. With a spare left, the migration of its slot begins (R391); while one runs, or
with no spare, the rank stays (R393). `id` is the detector (R479). -/
def retireRank (id : Nat) (r : Fin 3) (inj : Bool) (s : State) : State :=
  match s.slotOf r with
  | none => s
  | some k =>
    if s.mem.mig ≠ .idle ∧ s.mem.migOld = r then s
    else if s.mem.mig ≠ .idle ∨ !s.mem.spareOk then healthEvent id r.1 3 inj (rankStays s)
    else
      let s := mmod (fun m => { m with mig := .waking, migSlot := k, migOld := r, spareDown := false }) s
      healthEvent id r.1 2 inj (syncMig (s.flag dmcStat 3))

def execRankRetire (r : Fin 3) (s : State) : Out := .next (retireRank 9 r false s)

/-- DRAM_UE: an uncorrectable word poisons its block, and its rank is retired (R382, R391). -/
def dramUe (addr : BitVec 32) (s : State) : State :=
  let a := addr.toNat
  match dramSlot a with
  | none => s
  | some k =>
    if s.region a != .dram k then s else
    let s := mmod (fun m => { m with poison := if m.poison.contains (blockOf a) then m.poison else m.poison ++ [blockOf a] }) s
    let s := ((s.setRegN 0x40070014 a).flag dmcStat 1).bump 0x4007001C
    retireRank 9 (vget s.mem.slotRank k) false (syncRecords (s.dBump 0x3200 0x23))

def execDramUe (a : BitVec 32) (s : State) : Out := .next (dramUe a s)

/-- DRAM_CAPAR: the command is repeated once; the error is counted, and CAPAR_LIMIT of them within 1 s retire the rank (R383, R391).
`within` says that the rank's counted errors so far lie within 1 s. -/
def dramCapar (r : Fin 3) (within : Bool) (s : State) : State :=
  let n := (if within then vget s.mem.caparRun r else 0) + 1
  let s := mmod (fun m => { m with caparRun := vset m.caparRun r n }) s
  let s := ((s.bump 0x40070020).flag dmcStat 2).dBump 0x3200 0x24
  if s.regF 0x4007003C 3 0 ≤ n then retireRank 0x0A r false (mmod (fun m => { m with caparRun := vset m.caparRun r 0 }) s)
  else healthEvent 0x0A r.1 1 false s

def execDramCapar (r : Fin 3) (within : Bool) (s : State) : Out := .next (dramCapar r within s)

/-- PATTERN_GEN_START: DMC_PG_CTRL is written with START; `pass` are the DQ bits that pass, a physical outcome (R385, R395). -/
def patternGenStart (v : BitVec 32) (pass : BitVec 16) (s : State) : State :=
  (s.setReg 0x40070104 (v &&& 0xFFFF0007)).setRegN 0x40070110 (pass.toNat + 0x10000)

def execPatternGenStart (v : BitVec 32) (pass : BitVec 16) (s : State) : Out := .next (patternGenStart v pass s)

/-- DMC_MRW: register [7:0] of rank [17:16] takes [15:8] (R385, R395). -/
def dmcMrw (v : BitVec 32) (s : State) : State :=
  mmod (fun m => { m with modeRegs := alPut m.modeRegs (field v.toNat 17 16 * 256 + field v.toNat 7 0) (v.extractLsb' 8 8) }) s

def execDmcMrw (v : BitVec 32) (s : State) : Out := .next (dmcMrw v s)

/-- DRAM_REFRESH: a per-bank interval expires. The refresh is issued, or postponed behind record writes up to 8 times (R387). A
refresh that opens a new window clears every activate table (R388). -/
def dramRefresh (window defer : Bool) (s : State) : State :=
  mmod (fun m => { m with
    postponed := if defer && decide (m.postponed < 8) then m.postponed + 1 else 0
    rhTable := if window then [] else m.rhTable }) s

def execDramRefresh (window defer : Bool) (s : State) : Out := .next (dramRefresh window defer s)

/-- DRAM_TEMP_READ: the refresh interval is scaled by 1 below 85 °C, 1/2 from 85 °C and 1/4 from 105 °C; DERATE shows it (R387). The
hottest in-service rank rules (log entry 21). Temperatures in °C by rank. -/
def dramTempRead (t0 t1 t2 : Int) (s : State) : State :=
  let temp : Fin 3 → Int := fun r => if r = 0 then t0 else if r = 1 then t1 else t2
  let t := max (temp (vget s.mem.slotRank 0)) (temp (vget s.mem.slotRank 1))
  let d := if t < 85 then 0 else if t < 105 then 1 else 2
  let changed := s.regF 0x40070030 1 0 ≠ d
  let s := (s.setRegF 0x40070030 1 0 d).dPut 0x3200 0x2F d
  if changed then s.flag dmcStat 6 else s

def execDramTempRead (t0 t1 t2 : Int) (s : State) : Out := .next (dramTempRead t0 t1 t2 s)

/-- RH_NEIGHBOUR_REFRESH: the count of a row has reached RH_THRESHOLD; its neighbours are refreshed, the refresh is counted, and
the entry is 0 (R388). -/
def rhNeighbourRefresh (bank : Fin 16) (row : BitVec 16) (s : State) : State :=
  let s := (s.bump 0x40070038).dBump 0x3200 0x27
  mmod (fun m => { m with rhTable := alPut m.rhTable (bank.1 * 65536 + row.toNat) 0 }) s

def execRhNeighbourRefresh (bank : Fin 16) (row : BitVec 16) (s : State) : Out := .next (rhNeighbourRefresh bank row s)

/-- The contents of a slot are lost: its bytes read as unlisted and no block is poisoned. -/
def slotLost (k : Fin 2) (s : State) : State :=
  let lo := 0x80000000 + 0x3800000 * k.1
  syncRecords (mmod (fun m => { m with
    cells := Memory.clear m.cells lo (lo + 0x3800000)
    poison := m.poison.filter (fun a => !(decide (lo ≤ a) && decide (a < lo + 0x3800000)))
    soft := m.soft.filter (fun a => !(decide (lo ≤ a) && decide (a < lo + 0x3800000))) }) s)

/-- SPARE_POWER_DOWN: the idle spare, once trained and with no migration using it, or the cold slot 1, enters deep power-down and its
contents are lost (R390). -/
def sparePowerDown (slot1 : Bool) (s : State) : State :=
  if slot1 then
    if s.dU 0x3200 0x2A = 1 then mmod (fun m => { m with slot1Down := true }) (slotLost 1 s) else s
  else if s.mem.spareOk && s.mem.mig == .idle && s.mem.trained.getLsbD s.mem.spareRank.1 then mmod (fun m => { m with spareDown := true }) s
  else s

def execSparePowerDown (slot1 : Bool) (s : State) : Out := .next (sparePowerDown slot1 s)

/-- A write of DRAM_COLD: slot 1 is marked cold, or brought back with its contents zeroed (R390). DMC_CTRL.COLD1 follows. -/
def dramCold (v : Bool) (s : State) : State :=
  let was := s.dU 0x3200 0x2A == 1
  let s := (s.dPut 0x3200 0x2A (b2n v)).setRegF 0x40070000 3 3 (b2n v)
  if was && !v then mmod (fun m => { m with slot1Down := false }) (slotLost 1 s) else s

/-- The spare has failed during a migration: it is retired, and the slot stays on its old rank (R393). -/
def migAbort (s : State) : State :=
  if s.mem.mig = .idle then s else
  let s := mmod (fun m => { m with mig := .idle, spareOk := false, rankRetired := m.rankRetired ||| (1#3 <<< m.spareRank.1) }) s
  rankStays (spareTaken 1 (syncMap (syncMig s)))

def execMigAbort (s : State) : Out := .next (migAbort s)

/-- MIG_WAKE_DONE: the spare is awake and passes its check, so that every write goes to both ranks (R391); a spare that fails ends the
migration (R393). -/
def migWakeDone (pass : Bool) (s : State) : State :=
  if s.mem.mig ≠ .waking then s
  else if pass then syncMig (mmod (fun m => { m with mig := .copying }) s) else migAbort s

def execMigWakeDone (pass : Bool) (s : State) : Out := .next (migWakeDone pass s)

/-- MIG_COPY_DONE: the background copy ends, the map changes in one step, and the old rank is powered down and retired (R391).
Blocks `bad` that could not be corrected are written poisoned. -/
def migCopyDone (bad : List (BitVec 32)) (s : State) : State :=
  if s.mem.mig ≠ .copying then s else
  let k := s.mem.migSlot
  let hit := (bad.map (fun a => blockOf a.toNat)).filter (fun a => dramSlot a == some k && !s.mem.poison.contains a)
  let s := mmod (fun m => { m with
    mig := .idle, slotRank := vset m.slotRank k m.spareRank, spareOk := false
    spareRank := m.migOld, rankRetired := m.rankRetired ||| (1#3 <<< m.migOld.1), poison := m.poison ++ hit }) s
  spareTaken 1 (syncRecords ((syncMap (syncMig s)).flag dmcStat 4))

def execMigCopyDone (bad : List (BitVec 32)) (s : State) : Out := .next (migCopyDone bad s)

end Sys2Proof.Machine
end

