-- ==== Sys2Proof/Machine/Images.lean ====
section
/-! DEFINITION. The boot record and its journal in the flash ring (R377, R461, R462), the sets and images in the slots (R457 to R460), their
verification (R312), and the loading of a core (R456). -/

namespace Sys2Proof.Machine

/-- The boot stage and its companions changed. -/
def bootMod (f : Boot → Boot) (s : State) : State := { s with boot := f s.boot }

/-! ### The boot record -/

/-- The base of a ring sector. -/
def ringSector (i : Nat) : Nat := 0x10000000 + 0x2000 * (i % 16)

/-- The 64 bytes of the newest boot record; all 0 when the ring holds none. -/
def State.bootBytes (s : State) : List Byte :=
  match s.newestRing with
  | some (i, _) => s.rdBytes (ringSector i + 16) 64
  | none => List.replicate 64 0

/-- A field of the boot record (R461). -/
def State.bootN (s : State) (off n : Nat) : Nat := leNat ((s.bootBytes.drop off).take n)

/-- The journal's 16-byte entries behind a record, up to the first free word. -/
def journalFrom (s : State) (a : Nat) : Nat → List (List Byte)
  | 0 => []
  | n + 1 => let e := s.rdBytes a 16; if e.all (· == 0xFF) then [] else e :: journalFrom s (a + 16) n

def State.bootJournal (s : State) : List (List Byte) :=
  match s.newestRing with
  | some (i, _) => journalFrom s (ringSector i + 80) 507
  | none => []

/-- A journal entry: its type, then the sector number; the rest of its bytes the spec leaves to the journal (log entry 42). -/
def journalEntry (type sector : Nat) : List Byte := leBytes 1 type ++ leBytes 2 sector ++ List.replicate 13 0

/-- The sector of a 0x01 entry that no 0x02 entry follows (R462). -/
def openSector (j : List (List Byte)) : Option Nat :=
  match j.getLast? with
  | some e => if leNat (e.take 1) = 1 then some (leNat ((e.drop 1).take 2)) else none
  | none => none

/-- A rewrite of the record into the sector after the newest, with SEQ + 1 and the journal compacted to its open entry (R377). -/
def bootRewrite (r : List Byte) (s : State) : State :=
  let (i, q) := match s.newestRing with | some (i, q) => (i + 1, q + 1) | none => (0, 1)
  let j := match openSector s.bootJournal with | some n => journalEntry 1 n | none => []
  let a := ringSector i
  let head := [0x42, 0x52, 0x45, 0x43] ++ leBytes 4 (q % 2 ^ 32) ++ leBytes 4 64 ++ leBytes 4 (crc32 (r.take 64))
  moveWindow ((erased a s).wrBytes a (head ++ r.take 64 ++ j))

/-- Bytes with a field replaced. -/
def splice (b : List Byte) (off n v : Nat) : List Byte := b.take off ++ leBytes n v ++ b.drop (off + n)

/-- Fields of the boot record rewritten together: offset, bytes and value of each. -/
def bootPut (l : List (Nat × Nat × Nat)) (s : State) : State :=
  bootRewrite (l.foldl (fun b f => splice b f.1 f.2.1 f.2.2) s.bootBytes) s

/-- A journal entry appended to the free words, or with none left after a rewrite (R377). -/
def journalAdd (type sector : Nat) (s : State) : State :=
  let put := fun s : State => match s.newestRing with
    | some (i, _) =>
      if s.bootJournal.length < 507 then s.wrBytes (ringSector i + 80 + 16 * s.bootJournal.length) (journalEntry type sector) else s
    | none => s
  if s.bootJournal.length < 507 && s.newestRing.isSome then put s else put (bootPut [] s)

/-- STATE of the boot record: 0 EMPTY, 1 STAGED, 2 TRIAL, 3 COPYING. -/
def State.bootState (s : State) : Nat := s.bootN 2 1

/-! ### Sets and images -/

/-- The two slots (R367). -/
def activeSlot : Nat := 0x10020000
def stagingSlot : Nat := 0x10400000
def slotSize : Nat := 0x300000

/-- Little-endian fields at an address. -/
def State.u16 (s : State) (a : Nat) : Nat := s.rdN a 2
def State.u32 (s : State) (a : Nat) : Nat := s.rdN a 4

/-- A class is present in the set at a slot. -/
def hasClass (b c : Nat) (s : State) : Bool := bit (s.rdN (b + 8) 1) c

def imgOffset (b c : Nat) (s : State) : Nat := s.u32 (b + 12 + 8 * c)
def imgLength (b c : Nat) (s : State) : Nat := s.u32 (b + 16 + 8 * c)

/-- The set header (R457). -/
def setHeaderOk (b : Nat) (s : State) : Bool :=
  s.rdBytes b 4 == [0x4F, 0x4D, 0x44, 0x53] && s.u16 (b + 4) == 1 && s.u16 (b + 6) != 0 && hasClass b 0 s && hasClass b 3 s &&
  decide (s.rdN (b + 8) 1 < 16) && s.rdN (b + 9) 3 == 0 && s.rdN (b + 44) 16 == 0 && crc32 (s.rdBytes b 60) == s.u32 (b + 60)

/-- Offsets inside the slot, multiples of 256, and no two images on the same bytes (R457, R463). -/
def setPlacesOk (b : Nat) (s : State) : Bool :=
  let l := (List.range 4).filterMap (fun c => if hasClass b c s then some (imgOffset b c s, imgLength b c s) else none)
  l.all (fun p => p.1 % 256 == 0 && decide (64 ≤ p.1) && decide (p.1 + p.2 ≤ slotSize) && decide (256 ≤ p.2)) &&
  decide (l.Pairwise (fun p q => p.1 + p.2 ≤ q.1 ∨ q.1 + q.2 ≤ p.1))

/-- LOAD_ADDR of an image whose header stands at `h`, and the other fields of R458. -/
def imgLoad (h : Nat) (s : State) : Nat := s.u32 (h + 20)
def imgBody (h : Nat) (s : State) : Nat := s.u32 (h + 16)
def imgEntry (h : Nat) (s : State) : Nat := s.u32 (h + 24)
def imgVersion (h : Nat) (s : State) : Nat := s.u16 (h + 8)
def imgRollback (h : Nat) (s : State) : Nat := s.rdN (h + 10) 1
def imgKeep (h : Nat) (s : State) : Nat := s.u16 (h + 12)
def imgHitless (h : Nat) (s : State) : Bool := bit (s.rdN (h + 11) 1) 0
def inPlace : Nat := 0xFFFFFFFF

/-- A LOAD_ADDR with its body lies in the X memory of each core of a class. -/
def loadOk (c load len : Nat) : Bool :=
  let cores : List (Fin 6) := match c with | 0 => [0] | 1 => [1] | 2 => [2, 3] | _ => [4]
  cores.any (fun k => let x := 0x21000000 + 0x40000 * k.1; decide (x ≤ load) && decide (load + len ≤ x + xySize k))

/-- The header rules of R458. -/
def imageHeaderOk (c h len : Nat) (s : State) : Bool :=
  let body := imgBody h s
  let load := imgLoad h s
  let uc := s.u32 (h + 28)
  s.rdBytes h 4 == [0x4F, 0x4D, 0x44, 0x49] && s.u16 (h + 4) == 1 && s.rdN (h + 6) 1 == c && decide (imgRollback h s ≤ 64) &&
  decide (s.rdN (h + 11) 1 < 2) && s.rdN (h + 14) 2 == 0 && s.rdN (h + 36) 28 == 0 && body + 256 == len && decide (imgEntry h s < body) &&
  (uc == inPlace || decide (uc + 2048 ≤ body)) && (c != 0 || uc == inPlace) && (c == 0 || s.u32 (h + 32) == 0) &&
  (load == inPlace || loadOk c load body) && (c != 3 || (load == 0x21100000 && decide (body ≤ 32768))) && (!imgHitless h s || load == inPlace)

/-- The bodies that the RAM window would hold, each at a 256-byte boundary, and where each starts within it (R460). -/
def windowPlan (b : Nat) (s : State) : List (Nat × Nat) × Nat :=
  [0, 1, 2].foldl (fun acc c =>
    let h := b + imgOffset b c s
    if hasClass b c s && imgLoad h s == inPlace then (acc.1 ++ [(c, acc.2)], (acc.2 + imgBody h s + 255) / 256 * 256) else acc) ([], 0)

/-- The first test of R463: the set header, every image header, the places and the RAM window. -/
def setFormOk (b : Nat) (s : State) : Bool :=
  setHeaderOk b s && setPlacesOk b s &&
  (List.range 4).all (fun c => !hasClass b c s || imageHeaderOk c (b + imgOffset b c s) (imgLength b c s) s) &&
  decide ((windowPlan b s).2 ≤ 0x100000)

/-- The signed digest: SHA-384 over bytes 0 to 159 and the body (R458). -/
def imgDigest (h : Nat) (s : State) : List Byte := sha384 (s.rdBytes h 160 ++ s.rdBytes (h + 256) (imgBody h s))

/-- Some customer key slot is programmed; until then the device is open (R312). -/
def State.closed (s : State) : Bool := (List.range 4).any s.custProgrammed

/-- The key and signature checks of R312. -/
def imageSigOk (h : Nat) (s : State) : Bool :=
  let k := s.rdN (h + 7) 1
  let pub := s.rdBytes (h + 64) 96
  (!s.closed || (decide (k < 4) && s.custProgrammed k && !s.custRevoked k && sha384 pub == s.custHash k)) &&
  ecdsaVerify (imgDigest h s) pub (s.rdBytes (h + 160) 96)

/-- An image under R312: SIG_BAD, then VERSION_LOW. -/
def imageVerify (c h : Nat) (s : State) : Status :=
  if !imageSigOk h s then stSigBad else if imgRollback h s < s.rollbackMin c then stVersionLow else stOk

/-- The first image of the given classes that fails. -/
def setVerify (b : Nat) (classes : List Nat) (s : State) : Status :=
  if !setHeaderOk b s || !setPlacesOk b s then stSigBad
  else (classes.filter (fun c => hasClass b c s)).foldl (fun st c =>
    if st ≠ stOk then st
    else if !imageHeaderOk c (b + imgOffset b c s) (imgLength b c s) s then stSigBad
    else imageVerify c (b + imgOffset b c s) s) stOk

/-- The measurement of an image as loaded; an open device reports key slot 0xFF (R312, R318). -/
def measureOf (h : Nat) (s : State) : Measure :=
  { keySlot := if s.closed then BitVec.ofNat 8 (s.rdN (h + 7) 1) else 0xFF, version := BitVec.ofNat 16 (imgVersion h s), hash := imgDigest h s }

/-! ### Loading a core (R456) -/

/-- The image class a logical core runs: cores 1 and 5 class 1 and the parking entry of class 0 (R456). -/
def coreClass (c : Fin 6) : Fin 4 := match c.1 with | 1 => 1 | 2 => 2 | 3 => 2 | 4 => 3 | _ => 0

/-- The microcode image of a class in a physical core's RAM, with CORE_UCVALID set; class 0 has none (R456, R458). -/
def loadMicrocode (p : Fin 6) (h : Nat) (s : State) : State :=
  let uc := s.u32 (h + 28)
  if uc = inPlace then kmod p (fun k => { k with ucvalid := 0 }) s
  else
    let w := (List.range 512).filterMap (fun i => let v := BitVec.ofNat 32 (s.rdN (h + 256 + uc + 4 * i) 4); if v = 0 then none else some (i, v))
    kmod p (fun k => { k with ucode := w, ucodeBad := [], ucvalid := 0xFFFF }) s

/-- Main firmware loads a logical core's microcode and body, sets CORE_BOOT and RUN; core 4 starts at its security entry, and g1 holds the
address of the body's first byte (R456, R459). -/
def coreLoad (c : Fin 6) (cause : Fin 4) (s : State) : State :=
  match s.physOf c with
  | none => s
  | some p =>
    if !s.isOn (coreDomain c) then s
    else if c = 4 then
      let h := vget s.boot.hdrAt 3
      coreStart 4 cause securityEntry (if h = 0 then s else loadMicrocode p h s)
    else
      let k := coreClass c
      let h := vget s.boot.hdrAt k
      if h = 0 then s else
      let load := imgLoad h s
      let body := if load = inPlace then vget s.boot.bodyAt k else 0x21000000 + 0x40000 * c.1 + load % 0x40000
      let s := loadMicrocode p h s
      let s := if load = inPlace then s else s.wrBytes body (s.rdBytes (h + 256) (imgBody h s))
      let entry := if c = 5 then s.u32 (h + 32) else imgEntry h s
      let boot := BitVec.ofNat 32 (body + entry)
      let s := { s with kz := { s.kz with boot := vset s.kz.boot c boot } }
      kmod p (fun k => k.setGr 1 (BitVec.ofNat 32 body)) (coreStart c cause (s.bootPc c) s)

end Sys2Proof.Machine
end

