-- ==== Sys2Proof/Machine/KzAlu.lean ====
section
/-! DEFINITION. The integer instructions of the KZ cores (R329 to R331). -/

namespace Sys2Proof.Machine

/-- An instruction that computes a register and SW from two operands: rd takes the result, then SW the flags. -/
def Core.alu (k : Core) (rd : Fin 16) (a b : BitVec 32) (f : BitVec 32 → BitVec 32 → BitVec 32 → BitVec 32 × BitVec 32) : Core :=
  let (r, sw) := f k.sw a b
  { k.setGr rd r with sw := sw }

/-- A register-register instruction (R format). -/
def alu3 (c : Fin 6) (rd ra rb : Fin 16) (f : BitVec 32 → BitVec 32 → BitVec 32 → BitVec 32 × BitVec 32) (s : State) : State :=
  kzCore c 1 (fun k => k.alu rd (k.gr ra) (k.gr rb) f) s

/-- A register-immediate instruction (I format). -/
def aluI (c : Fin 6) (rd ra : Fin 16) (b : BitVec 32) (f : BitVec 32 → BitVec 32 → BitVec 32 → BitVec 32 × BitVec 32) (s : State) : State :=
  kzCore c 1 (fun k => k.alu rd (k.gr ra) b f) s

/-- A result with Z and N (R329). -/
def zn (f : BitVec 32 → BitVec 32 → BitVec 32) (sw a b : BitVec 32) : BitVec 32 × BitVec 32 := (f a b, swZN sw (f a b))

/-- Addition with a carry in; Z N C V (R329). -/
def addOp (cin : BitVec 32 → Bool) (sw a b : BitVec 32) : BitVec 32 × BitVec 32 :=
  let r := a + b + BitVec.ofNat 32 (b2n (cin sw))
  (r, swZNCV sw r (carryOut a b (cin sw)) (overflows (a.toInt + b.toInt + b2n (cin sw))))

/-- Subtraction with a borrow in; C is no borrow; Z N C V (R329). -/
def subOp (bin : BitVec 32 → Bool) (sw a b : BitVec 32) : BitVec 32 × BitVec 32 :=
  let r := a - b - BitVec.ofNat 32 (b2n (bin sw))
  (r, swZNCV sw r (noBorrow a b (bin sw)) (overflows (a.toInt - b.toInt - b2n (bin sw))))

/-- 1 when a condition holds, else 0. -/
def flagWord (b : Bool) : BitVec 32 := if b then 1 else 0

def sltOp (a b : BitVec 32) : BitVec 32 := flagWord (a.slt b)
def sltuOp (a b : BitVec 32) : BitVec 32 := flagWord (a.ult b)
def minOp (a b : BitVec 32) : BitVec 32 := if a.slt b then a else b
def maxOp (a b : BitVec 32) : BitVec 32 := if b.slt a then a else b
def minuOp (a b : BitVec 32) : BitVec 32 := if a.ult b then a else b
def maxuOp (a b : BitVec 32) : BitVec 32 := if b.ult a then a else b

/-- Low 32 bits of the product; V when the signed product does not fit (R329). -/
def mulOp (sw a b : BitVec 32) : BitVec 32 × BitVec 32 :=
  (a * b, swZNV sw (a * b) (overflows (a.toInt * b.toInt)))

/-- High 32 bits of the signed and the unsigned product (R329). -/
def mulhOp (a b : BitVec 32) : BitVec 32 := BitVec.ofInt 32 (a.toInt * b.toInt / 2 ^ 32)
def mulhuOp (a b : BitVec 32) : BitVec 32 := BitVec.ofNat 32 (a.toNat * b.toNat / 2 ^ 32)

/-- The one signed division that does not fit (R331). -/
def divEdge (a b : BitVec 32) : Bool := a == 0x80000000 && b == 0xFFFFFFFF

/-- Quotients and remainders, with the edge cases of R331. -/
def divOp (a b : BitVec 32) : BitVec 32 := if b = 0 then 0xFFFFFFFF else if divEdge a b then 0x80000000 else a.sdiv b
def divuOp (a b : BitVec 32) : BitVec 32 := if b = 0 then 0xFFFFFFFF else a.udiv b
def remOp (a b : BitVec 32) : BitVec 32 := if b = 0 then a else if divEdge a b then 0 else a.srem b
def remuOp (a b : BitVec 32) : BitVec 32 := if b = 0 then a else a.umod b

/-- A division: 34 cycles; by zero it sets DZ, and with SW.DZE raises DZ without writing rd (R329, R331, R345). -/
def divGroup (c : Fin 6) (rd ra rb : Fin 16) (f : BitVec 32 → BitVec 32 → BitVec 32) (edge : BitVec 32 → BitVec 32 → Bool) (s : State) : State :=
  kzRun c 34 (fun p s =>
    let k := vget s.kz.phys p
    let a := k.gr ra
    let b := k.gr rb
    if b = 0 && k.swBit swDZE then .exc (kmod p (fun k => { k with sw := swSticky k.sw swDZ true }) s) excDz
    else .next (kmod p (fun k => k.alu rd a b
      (fun sw a b => (f a b, swSticky (swZNV sw (f a b) (edge a b)) swDZ (b == 0)))) s)) s

/-- Negation and absolute value; 0x8000_0000 stays, with V (R331). -/
def negOp (sw a _b : BitVec 32) : BitVec 32 × BitVec 32 := (-a, swZNCV sw (-a) (a == 0) (a == 0x80000000))
def absOp (sw a _b : BitVec 32) : BitVec 32 × BitVec 32 :=
  let r := if a.msb then -a else a
  (r, swZNV sw r (a == 0x80000000))

/-- ADD (R329). -/
def execAdd (c : Fin 6) (rd ra rb : Gr) (s : State) : Out := .next (alu3 c rd ra rb (addOp (fun _ => false)) s)

/-- SUB (R329). -/
def execSub (c : Fin 6) (rd ra rb : Gr) (s : State) : Out := .next (alu3 c rd ra rb (subOp (fun _ => false)) s)

/-- ADC (R329). -/
def execAdc (c : Fin 6) (rd ra rb : Gr) (s : State) : Out := .next (alu3 c rd ra rb (addOp (fun sw => sw.getLsbD swC)) s)

/-- SBC (R329). -/
def execSbc (c : Fin 6) (rd ra rb : Gr) (s : State) : Out := .next (alu3 c rd ra rb (subOp (fun sw => !sw.getLsbD swC)) s)

/-- AND (R329). -/
def execAnd (c : Fin 6) (rd ra rb : Gr) (s : State) : Out := .next (alu3 c rd ra rb (zn (· &&& ·)) s)

/-- OR (R329). -/
def execOr (c : Fin 6) (rd ra rb : Gr) (s : State) : Out := .next (alu3 c rd ra rb (zn (· ||| ·)) s)

/-- XOR (R329). -/
def execXor (c : Fin 6) (rd ra rb : Gr) (s : State) : Out := .next (alu3 c rd ra rb (zn (· ^^^ ·)) s)

/-- ANDN (R329). -/
def execAndn (c : Fin 6) (rd ra rb : Gr) (s : State) : Out := .next (alu3 c rd ra rb (zn (fun a b => a &&& ~~~b)) s)

/-- SHL (R329). -/
def execShl (c : Fin 6) (rd ra rb : Gr) (s : State) : Out := .next (alu3 c rd ra rb (zn (fun a b => shl8 a (count8 b))) s)

/-- SHR (R329). -/
def execShr (c : Fin 6) (rd ra rb : Gr) (s : State) : Out := .next (alu3 c rd ra rb (zn (fun a b => shr8 a (count8 b))) s)

/-- SAR (R329). -/
def execSar (c : Fin 6) (rd ra rb : Gr) (s : State) : Out := .next (alu3 c rd ra rb (zn (fun a b => sar8 a (count8 b))) s)

/-- ROR (R329). -/
def execRor (c : Fin 6) (rd ra rb : Gr) (s : State) : Out := .next (alu3 c rd ra rb (zn (fun a b => ror8 a (count8 b))) s)

/-- SLT (R329). -/
def execSlt (c : Fin 6) (rd ra rb : Gr) (s : State) : Out := .next (alu3 c rd ra rb (zn sltOp) s)

/-- SLTU (R329). -/
def execSltu (c : Fin 6) (rd ra rb : Gr) (s : State) : Out := .next (alu3 c rd ra rb (zn sltuOp) s)

/-- MIN (R329). -/
def execMin (c : Fin 6) (rd ra rb : Gr) (s : State) : Out := .next (alu3 c rd ra rb (zn minOp) s)

/-- MAX (R329). -/
def execMax (c : Fin 6) (rd ra rb : Gr) (s : State) : Out := .next (alu3 c rd ra rb (zn maxOp) s)

/-- MINU (R329). -/
def execMinu (c : Fin 6) (rd ra rb : Gr) (s : State) : Out := .next (alu3 c rd ra rb (zn minuOp) s)

/-- MAXU (R329). -/
def execMaxu (c : Fin 6) (rd ra rb : Gr) (s : State) : Out := .next (alu3 c rd ra rb (zn maxuOp) s)

/-- MUL (R329). -/
def execMul (c : Fin 6) (rd ra rb : Gr) (s : State) : Out := .next (alu3 c rd ra rb (mulOp) s)

/-- MULH (R329). -/
def execMulh (c : Fin 6) (rd ra rb : Gr) (s : State) : Out := .next (alu3 c rd ra rb (zn mulhOp) s)

/-- MULHU (R329). -/
def execMulhu (c : Fin 6) (rd ra rb : Gr) (s : State) : Out := .next (alu3 c rd ra rb (zn mulhuOp) s)

/-- DIV (R329, R331). -/
def execDiv (c : Fin 6) (rd ra rb : Gr) (s : State) : Out := .next (divGroup c rd ra rb divOp divEdge s)

/-- DIVU (R329, R331). -/
def execDivu (c : Fin 6) (rd ra rb : Gr) (s : State) : Out := .next (divGroup c rd ra rb divuOp (fun _ _ => false) s)

/-- REM (R329, R331). -/
def execRem (c : Fin 6) (rd ra rb : Gr) (s : State) : Out := .next (divGroup c rd ra rb remOp divEdge s)

/-- REMU (R329, R331). -/
def execRemu (c : Fin 6) (rd ra rb : Gr) (s : State) : Out := .next (divGroup c rd ra rb remuOp (fun _ _ => false) s)

/-- NEG (R329, R331). -/
def execNeg (c : Fin 6) (rd ra : Gr) (s : State) : Out := .next (aluI c rd ra 0 (negOp) s)

/-- ABS (R329, R331). -/
def execAbs (c : Fin 6) (rd ra : Gr) (s : State) : Out := .next (aluI c rd ra 0 (absOp) s)

/-- CLZ (R329, R331). -/
def execClz (c : Fin 6) (rd ra : Gr) (s : State) : Out := .next (aluI c rd ra 0 (zn (fun a _ => BitVec.ofNat 32 (clz a))) s)

/-- SEXB (R329, R331). -/
def execSexb (c : Fin 6) (rd ra : Gr) (s : State) : Out := .next (aluI c rd ra 0 (zn (fun a _ => (a.truncate 8).signExtend 32)) s)

/-- SEXH (R329, R331). -/
def execSexh (c : Fin 6) (rd ra : Gr) (s : State) : Out := .next (aluI c rd ra 0 (zn (fun a _ => (a.truncate 16).signExtend 32)) s)

/-- BREV (R329, R331). -/
def execBrev (c : Fin 6) (rd ra : Gr) (s : State) : Out := .next (aluI c rd ra 0 (zn (fun a _ => brev a)) s)

/-- BSWAP (R329, R331). -/
def execBswap (c : Fin 6) (rd ra : Gr) (s : State) : Out := .next (aluI c rd ra 0 (zn (fun a _ => bswap a)) s)

/-- ADDI (R330). -/
def execAddi (c : Fin 6) (rd ra : Gr) (imm : BitVec 18) (s : State) : Out := .next (aluI c rd ra (imm18s imm) (addOp (fun _ => false)) s)

/-- ANDI (R330). -/
def execAndi (c : Fin 6) (rd ra : Gr) (imm : BitVec 18) (s : State) : Out := .next (aluI c rd ra (imm18z imm) (zn (· &&& ·)) s)

/-- ORI (R330). -/
def execOri (c : Fin 6) (rd ra : Gr) (imm : BitVec 18) (s : State) : Out := .next (aluI c rd ra (imm18z imm) (zn (· ||| ·)) s)

/-- XORI (R330). -/
def execXori (c : Fin 6) (rd ra : Gr) (imm : BitVec 18) (s : State) : Out := .next (aluI c rd ra (imm18z imm) (zn (· ^^^ ·)) s)

/-- SLTI (R330). -/
def execSlti (c : Fin 6) (rd ra : Gr) (imm : BitVec 18) (s : State) : Out := .next (aluI c rd ra (imm18s imm) (zn sltOp) s)

/-- SLTIU (R330). -/
def execSltiu (c : Fin 6) (rd ra : Gr) (imm : BitVec 18) (s : State) : Out := .next (aluI c rd ra (imm18s imm) (zn sltuOp) s)

/-- SHLI (R330, R331). -/
def execShli (c : Fin 6) (rd ra : Gr) (n : Byte) (s : State) : Out := .next (aluI c rd ra 0 (zn (fun a _ => shl8 a n.toNat)) s)

/-- SHRI (R330, R331). -/
def execShri (c : Fin 6) (rd ra : Gr) (n : Byte) (s : State) : Out := .next (aluI c rd ra 0 (zn (fun a _ => shr8 a n.toNat)) s)

/-- SARI (R330, R331). -/
def execSari (c : Fin 6) (rd ra : Gr) (n : Byte) (s : State) : Out := .next (aluI c rd ra 0 (zn (fun a _ => sar8 a n.toNat)) s)

/-- RORI (R330, R331). -/
def execRori (c : Fin 6) (rd ra : Gr) (n : Byte) (s : State) : Out := .next (aluI c rd ra 0 (zn (fun a _ => ror8 a n.toNat)) s)

/-- LUI: rd = imm22 << 10; no flags (R330). -/
def execLui (c : Fin 6) (rd : Gr) (imm : BitVec 22) (s : State) : Out := .next (kzCore c 1 (fun k => k.setGr rd (imm22h imm)) s)

/-- AUIPC: rd = PC + (imm22 << 10); no flags (R330). -/
def execAuipc (c : Fin 6) (rd : Gr) (imm : BitVec 22) (s : State) : Out := .next (kzCore c 1 (fun k => k.setGr rd (k.pc + imm22h imm)) s)

end Sys2Proof.Machine
end

