-- ==== Sys2Proof/Machine/KzControl.lean ====
section
/-! DEFINITION. Control transfers, the hardware loop and the system instructions of the KZ cores (R334 to R339, R350), and the
words that raise ILLEGAL (R327, R328). -/

namespace Sys2Proof.Machine

/-- A conditional branch: two cycles when taken, one when not (R335, R345). -/
def branch (c : Fin 6) (ra rb : Fin 16) (off : BitVec 18) (cond : BitVec 32 → BitVec 32 → Bool) (s : State) : State :=
  kzRun c 1 (fun p s =>
    let k := vget s.kz.phys p
    if cond (k.gr ra) (k.gr rb) then .jump (kmod p (·.tick 1) s) (target k.pc (imm18s off)) else .next s) s

/-- BEQ (R335). -/
def execBeq (c : Fin 6) (ra rb : Gr) (off : BitVec 18) (s : State) : Out := .next (branch c ra rb off (fun a b => a == b) s)

/-- BNE (R335). -/
def execBne (c : Fin 6) (ra rb : Gr) (off : BitVec 18) (s : State) : Out := .next (branch c ra rb off (fun a b => a != b) s)

/-- BLT (R335). -/
def execBlt (c : Fin 6) (ra rb : Gr) (off : BitVec 18) (s : State) : Out := .next (branch c ra rb off (fun a b => a.slt b) s)

/-- BGE (R335). -/
def execBge (c : Fin 6) (ra rb : Gr) (off : BitVec 18) (s : State) : Out := .next (branch c ra rb off (fun a b => !a.slt b) s)

/-- BLTU (R335). -/
def execBltu (c : Fin 6) (ra rb : Gr) (off : BitVec 18) (s : State) : Out := .next (branch c ra rb off (fun a b => a.ult b) s)

/-- BGEU (R335). -/
def execBgeu (c : Fin 6) (ra rb : Gr) (off : BitVec 18) (s : State) : Out := .next (branch c ra rb off (fun a b => !a.ult b) s)

/-- JAL: g15 = PC + 4, then the jump (R335). -/
def execJal (c : Fin 6) (off : BitVec 26) (s : State) : Out :=
  .next (kzRun c 2 (fun p s =>
    let pc := (vget s.kz.phys p).pc
    .jump (kmod p (fun k => k.setGr 15 (pc + 4)) s) (target pc (off.signExtend 32))) s)

/-- J (R335). -/
def execJ (c : Fin 6) (off : BitVec 26) (s : State) : Out :=
  .next (kzRun c 2 (fun p s => .jump s (target (vget s.kz.phys p).pc (off.signExtend 32))) s)

/-- JALR: ra is read before rd is written (R335). -/
def execJalr (c : Fin 6) (rd ra : Gr) (imm : BitVec 18) (s : State) : Out :=
  .next (kzRun c 3 (fun p s =>
    let k := vget s.kz.phys p
    .jump (kmod p (fun k => k.setGr rd (k.pc + 4)) s) (k.ea ra imm)) s)

/-- LOOP: n instructions run ra times; n outside 1 to 131,071 is ILLEGAL; a count of 0 skips the body (R339). -/
def loopInstr (c : Fin 6) (ra : Fin 16) (n : BitVec 18) (s : State) : State :=
  kzRun c 1 (fun p s =>
    let k := vget s.kz.phys p
    if n.toNat = 0 ∨ 131071 < n.toNat then .exc s excIllegal
    else if k.gr ra = 0 then .jump (kmod p (fun k => { k with lc := 0 }) s) (k.pc + 4 + BitVec.ofNat 32 (4 * n.toNat))
    else .jump (kmod p (fun k => { k with
      lc := k.gr ra, ls := k.pc + 4, le := k.pc + BitVec.ofNat 32 (4 * n.toNat) }) s) (k.pc + 4)) s

def execLoop (c : Fin 6) (ra : Gr) (n : BitVec 18) (s : State) : Out := .next (loopInstr c ra n s)

/-- LOOP_BACK: an instruction at LE completes without transferring control and without any other effect; the loop counts down and goes
back to LS, or falls through (R339). Elsewhere than at LE nothing happens. -/
def loopBack (c : Fin 6) (s : State) : State :=
  match s.physOf c with
  | none => s
  | some p =>
    let k := vget s.kz.phys p
    if k.pc = k.le ∧ k.lc ≠ 0 then kzCore c 1 id s else s

def execLoopBack (c : Fin 6) (s : State) : Out := .next (loopBack c s)

/-- NOP (R336). -/
def execNop (c : Fin 6) (s : State) : Out := .next (kzCore c 1 id s)

/-- TRAP n (R336, R346, R347). -/
def execTrap (c : Fin 6) (n : Byte) (s : State) : Out := .next (kzRun c 1 (fun _ s => .exc s (excTrap n)) s)

/-- WAIT stops fetching after it (R350). It arms the sleep entry of R442 when core 0 executes it. -/
def kzWait (c : Fin 6) (s : State) : State := kzCore c 1 (fun k => { k with waiting := true }) s

/-- FENCE changes no flag or register; in a model in which every access has completed before the next command it only goes on (R334,
R338). -/
def execFence (c : Fin 6) (s : State) : Out := .next (kzCore c 1 id s)

/-- IFENCE: the instruction cache holds no state of its own in the model, so it only goes on (R334, R338). -/
def execIfence (c : Fin 6) (s : State) : Out := .next (kzCore c 1 id s)

/-- BRK: halts into a debugger that is attached while DEBUG_LOCK is clear, else exception BRK (R336). -/
def brk (c : Fin 6) (s : State) : State :=
  kzRun c 1 (fun p s =>
    if s.kz.debugger && s.dU 0x3003 1 == 0 then .jump (coreStop c p s) ((vget s.kz.phys p).pc + 4)
    else .exc s excBrk) s

def execBrk (c : Fin 6) (s : State) : Out := .next (brk c s)

/-! ### System registers (R325, R337) -/

/-- The system register numbers the table lists (R325). -/
def srListed (n : Nat) : Bool :=
  decide (n ≤ 0x0A) || n == 0x0D || n == 0x0E || n == 0x0F || (decide (0x10 ≤ n) && decide (n ≤ 0x1A)) || n == 0x20 ||
  (decide (0x40 ≤ n) && decide (n < 0x80) && decide (n % 4 ≤ 2))

/-- Registers that task mode may read; it may write SW[7:0], LC, LS and LE (R325). -/
def srTaskRead (n : Nat) : Bool := n == 0 || n == 6 || n == 7 || n == 8 || (decide (0x18 ≤ n) && decide (n ≤ 0x1A))
def srTaskWrite (n : Nat) : Bool := n == 0 || (decide (0x18 ≤ n) && decide (n ≤ 0x1A))

/-- A firewall register of region r: the numbers 0x40 + 4r + j. -/
def srRgn (n : Nat) : Fin 16 := Fin.ofNat 16 ((n - 0x40) / 4)

/-- A system register's value (R325). -/
def srGet (c p : Fin 6) (k : Core) (ipend : BitVec 64) (n : Nat) : BitVec 32 :=
  match n with
  | 0x00 => k.sw | 0x01 => k.tpc | 0x02 => k.tsw | 0x03 => k.tcause | 0x04 => k.taddr | 0x05 => k.tbase
  | 0x06 => BitVec.ofNat 32 (c.1 + 16 * p.1)
  | 0x07 => k.cycle.truncate 32 | 0x08 => k.cycleHi
  | 0x09 => ipend.truncate 32 | 0x0A => (ipend >>> 32).truncate 32
  | 0x0D => k.npc | 0x0E => k.nsw | 0x0F => k.scratch | 0x18 => k.lc | 0x19 => k.ls | 0x1A => k.le | 0x20 => k.fwctrl
  | _ =>
    if n < 0x18 then vget k.ipri (Fin.ofNat 8 (n - 0x10))
    else match n % 4 with
      | 0 => (vget k.rgn (srRgn n)).base
      | 1 => (vget k.rgn (srRgn n)).limit
      | _ => (vget k.rgn (srRgn n)).attr

/-- A word with the bits of `mask` taken from another. -/
def blend (old new mask : BitVec 32) : BitVec 32 := (old &&& ~~~mask) ||| (new &&& mask)

/-- A region's register written: nothing once it is locked; LOCK itself can only be set (R351). -/
def Rgn.put (r : Rgn) (j : Nat) (v : BitVec 32) : Rgn :=
  if r.attr.getLsbD 31 then r
  else match j with
    | 0 => { r with base := v &&& 0xFFFFFFE0 }
    | 1 => { r with limit := v &&& 0xFFFFFFE0 }
    | _ => { r with attr := v &&& 0x8000007F }

/-- A system register of the core written (R325, R337, R351). Read-only ones keep their value. -/
def Core.srPut (k : Core) (n : Nat) (v : BitVec 32) : Core :=
  match n with
  | 0x00 => { k with sw := blend k.sw v (if k.sys then 0x7BFF else 0xFF) }
  | 0x01 => { k with tpc := v } | 0x02 => { k with tsw := v } | 0x04 => { k with taddr := v }
  | 0x05 => { k with tbase := v &&& 0xFFFFFE00 }
  | 0x0D => { k with npc := v } | 0x0E => { k with nsw := v } | 0x0F => { k with scratch := v }
  | 0x18 => { k with lc := v } | 0x19 => { k with ls := v } | 0x1A => { k with le := v }
  | 0x20 => if k.fwctrl.getLsbD 31 then k else { k with fwctrl := v &&& 0x80000003 }
  | _ =>
    if 0x10 ≤ n ∧ n < 0x18 then { k with ipri := vset k.ipri (Fin.ofNat 8 (n - 0x10)) (v &&& 0x77777777) }
    else if 0x40 ≤ n then { k with rgn := vmod k.rgn (srRgn n) (fun r => r.put (n % 4) v) }
    else k

/-- MFSR: an unlisted number is ILLEGAL, one barred to task mode PRIV; reading CYCLE_LO latches CYCLE_HI (R325). -/
def mfsr (c : Fin 6) (rd : Fin 16) (sr : Byte) (s : State) : State :=
  kzRun c 1 (fun p s =>
    let k := vget s.kz.phys p
    let n := sr.toNat
    if !srListed n then .exc s excIllegal
    else if !k.sys && !srTaskRead n then .exc s excPriv
    else
      let v := srGet c p k (vget s.kz.ipend c) n
      .next (kmod p (fun k =>
        let k := if n = 7 then { k with cycleHi := (k.cycle >>> 32).truncate 32 } else k
        k.setGr rd v) s)) s

def execMfsr (c : Fin 6) (rd : Gr) (sr : Byte) (s : State) : Out := .next (mfsr c rd sr s)

/-- MTSR: an unlisted number is ILLEGAL, one barred to task mode PRIV; IPEND clears the bits written 1 (R325, R337). -/
def mtsr (c : Fin 6) (ra : Fin 16) (sr : Byte) (s : State) : State :=
  kzRun c 1 (fun p s =>
    let k := vget s.kz.phys p
    let n := sr.toNat
    let v := k.gr ra
    if !srListed n then .exc s excIllegal
    else if !k.sys && !srTaskWrite n then .exc s excPriv
    else if n = 9 ∨ n = 10 then
      let m : BitVec 64 := v.zeroExtend 64 <<< (if n = 9 then 0 else 32)
      .next { s with kz := { s.kz with ipend := vmod s.kz.ipend c (fun q => q &&& ~~~m) } }
    else .next (kmod p (fun k => k.srPut n v) s)) s

def execMtsr (c : Fin 6) (ra : Gr) (sr : Byte) (s : State) : Out := .next (mtsr c ra sr s)

/-! ### Which words are instructions (R327, R328, R336, R340 to R344) -/

/-- The word is an instruction: its major opcode and function are listed and its fields marked 0 or reserved are 0. -/
def legalWord (w : BitVec 32) : Bool :=
  let v := w.toNat
  let op := field v 31 26
  let rd := field v 25 22
  let ra := field v 21 18
  let rb := field v 17 14
  let x := field v 13 6
  let fn := field v 5 0
  match op with
  | 0x00 => x == 0 && (decide (fn < 0x19) || (decide (fn < 0x20) && rb == 0))
  | 0x05 => field v 17 10 == 0
  | 0x18 => decide (field v 19 18 < 3) && field v 15 0 == 0
  | 0x19 => decide (field v 19 18 < 3) && field v 17 17 == 0 && field v 15 0 == 0
  | 0x29 => rd == 0 && decide (1 ≤ field v 17 0) && decide (field v 17 0 ≤ 131071)
  | 0x30 =>
    match fn with
    | 0x00 => rd == 0 && ra == 0 && rb == 0 && x == 0
    | 0x01 => rd == 0 && ra == 0 && rb == 0
    | 0x02 => rd == 0 && ra == 0 && rb == 0 && x == 0
    | 0x03 => rd == 0 && ra == 0 && rb == 0 && x == 0
    | 0x06 => ra == 0 && rb == 0 && srListed x
    | 0x07 => rd == 0 && rb == 0 && srListed x
    | 0x08 => rd == 0 && ra == 0 && rb == 0 && x == 0
    | 0x09 => rd == 0 && ra == 0 && rb == 0 && x == 0
    | 0x0A => rd == 0 && ra == 0 && rb == 0 && x == 0
    | _ => false
  | 0x31 =>
    x == 0 && decide (fn ≤ 0x0C) &&
      (rb == 0 || !(fn == 0x02 || fn == 0x03 || fn == 0x09 || fn == 0x0A || fn == 0x0B))
  | 0x32 =>
    match fn with
    | 0x00 => decide (rd < 4) && x == 0
    | 0x01 => decide (rd < 4) && x == 0
    | 0x02 => decide (rd < 4) && rd % 2 == 0 && x == 0
    | 0x03 => decide (rd < 4) && rd % 2 == 0 && x == 0
    | 0x04 => decide (rd < 4) && ra == 0 && rb == 0 && x == 0
    | 0x05 => decide (ra < 4) && rb == 0 && decide (x ≤ 47)
    | 0x06 => decide (ra < 4) && ra % 2 == 0 && rb == 0 && decide (x ≤ 47)
    | 0x07 => decide (ra < 4) && rb == 0 && x == 0
    | 0x08 => decide (ra < 4) && rb == 0 && x == 0
    | 0x09 => decide (rd < 4) && rb == 0 && x == 0
    | 0x0A => decide (rd < 4) && rb == 0 && x == 0
    | 0x0B => decide (rd < 4) && rb == 0 && x == 0
    | _ => false
  | 0x33 =>
    field v 15 0 == 0 && decide (field v 19 16 < 4) && field v 23 22 != field v 21 20 &&
      (field v 25 24 % 2 == 0 || decide (2 ≤ field v 19 16))
  | 0x34 => decide (field v 19 17 < 5) && field v 15 0 == 0
  | 0x3C => true
  | _ => decide (op ≤ 0x09) || (decide (0x10 ≤ op) && decide (op ≤ 0x17)) || op == 0x1A || op == 0x1B ||
      (decide (0x20 ≤ op) && decide (op ≤ 0x28))

/-- ILLEGAL_INSTRUCTION: a word that is no instruction raises ILLEGAL (R328). A word that is one is met by its own command, and nothing
happens here. -/
def illegalInstruction (c : Fin 6) (w : BitVec 32) (s : State) : State :=
  if legalWord w then s else kzRun c 1 (fun _ s => .exc s excIllegal) s

def execIllegalInstruction (c : Fin 6) (w : BitVec 32) (s : State) : Out := .next (illegalInstruction c w s)

end Sys2Proof.Machine
end

