-- ==== Sys2Proof/Machine/Link.lean ====
section
/-! DEFINITION. The link controller: transmissions and their budgets (R217, R239 to R242), slot groups and acknowledgements (R213 to R230),
beacons (R231 to R234), and the synchronisation states (R233 to R237). -/

namespace Sys2Proof.Machine

/-! ### Counters (R244, R245) -/

/-- A counter of the link controller, a register and an entry of 0x2300. -/
def lnkCount (reg sub : Nat) (s : State) : State := (s.bump reg).dBump 0x2300 sub

/-- A transmission or carrier refused under R239 or R242. -/
def regDrop (s : State) : State := lnkCount 0x40150048 0x34 (s.flag lnkStat 1)

/-- A refusal by the channel's power (R242). -/
def lbtBusy (s : State) : State := regDrop (lnkCount 0x4015005C 0x36 (s.flag lnkStat 5))

/-- An entry's occurrence counted as run or skipped in SGi_STAT. -/
def sgRun (i : Fin 64) (s : State) : State := let a := 0x4015040C + 16 * i.1; s.setRegF a 15 0 (s.regF a 15 0 + 1)
def sgSkip (i : Fin 64) (s : State) : State := let a := 0x4015040C + 16 * i.1; s.setRegF a 31 16 (s.regF a 31 16 + 1)

/-! ### Transmissions -/

/-- The key and EPOCH_LOW under which this device sends to a node (R108, R291). -/
def State.txKey (s : State) (rx : Nat) : Option (List Byte × Nat) :=
  let w := if s.usePrev rx then 1 else 0
  match s.nodeKey 0 (hopNode s.ownNode rx) w, s.epochOf w with
  | some k, some e => some (k, e.toNat % 16)
  | _, _ => none

/-- FB_SNR toward a node (R102). -/
def State.fbSnr (s : State) (n : Nat) : Nat :=
  match alGet s.lnk.fbSnr n with
  | some v => unsigned 8 (clampI (-127) 127 v)
  | none => 0x80

/-- A power in 0.5 dBm as whole dBm in a header (R200). -/
def headerPower (p : Int) : Nat := unsigned 6 (clampI (-32) 31 (roundDiv p 2))

/-- A frame about to leave: what its header and block are made of. -/
structure OutFrame where
  chan  : Nat
  m     : Nat
  zsel  : Nat
  rate  : Nat
  slot  : Nat
  hdr   : Hdr
  lh    : List Byte
  body  : List Byte
  deriving DecidableEq, Repr

/-- The block of a frame: link header, payload, tag, filler (R105, R107). -/
def OutFrame.block (f : OutFrame) (key hdr : List Byte) : List Byte :=
  let b := f.lh ++ f.body ++ tag8 key (tagMessage hdr f.lh f.body f.slot)
  b ++ List.replicate (zOf f.zsel - b.length) 0

/-- A carrier's descriptor written, its block handed to the transmitter (R197, R210). -/
def describe (c : Fin 8) (f : OutFrame) (hdr block : List Byte) (s : State) : State :=
  let w := fun i => leNat ((hdr.drop (4 * i)).take 4)
  let s := ((((s.setRegN (carCfg c + 4) (w 0)).setRegN (carCfg c + 8) (w 1)).setRegN (carCfg c + 12) (w 2)).setRegN (carCfg c + 16) (w 3))
  let s := (s.setRegN (carCfg c + 0x18) f.slot).setRegF (carStat c) 7 0 (f.slot / 2 ^ 32)
  let s := s.setRegN (carCfg c) (f.chan % 256 + 256 * f.m + 2 ^ 11 * f.zsel + 2 ^ 13 * f.rate + 2 ^ 31)
  carStatus c stNotReady (lnkMod (fun l => { l with blocks := vset l.blocks c block }) s)

/-- The power the device asks for, in 0.5 dBm: the cap, changed by the acknowledgements' advice (R201, R226). -/
def State.askPower (s : State) : Int := s.dI 0x2200 0x40 + s.lnk.advPwr

/-- The grant of R199 for `n` carriers. -/
def askGrant (n : Nat) (s : State) : State := grantRequest true (BitVec.ofNat 32 (unsigned 8 s.askPower + 256 * (n - 1))) s

/-- Frames written into descriptors 0 on, with their granted powers, epochs and tags (R195, R200, R227). -/
def describeAll : List OutFrame → Nat → State → State
  | [], _, s => s
  | f :: r, i, s =>
    let c : Fin 8 := Fin.ofNat 8 i
    let share := signed 8 (s.regF (carStat c) 31 24)
    match s.txKey f.hdr.rx with
    | none => describeAll r (i + 1) s
    | some (k, e) =>
      let hdr := Hdr.bytes { f.hdr with power := headerPower share, epochLow := e, slotLow := f.slot % 256 }
      describeAll r (i + 1) (urgentAsk 0 32 (cmacBlocks (27 + f.body.length)) (describe c f hdr (f.block k hdr) s))

/-- A comparator of the link controller armed for a position of PD1 in phase units, on the channel that goes with it (R83, R403). -/
def lnkArm (m : Fin 16) (units : Nat) (s : State) : State :=
  let ch := 56 + (m.1 - 12)
  let s := s.setRegN (prodReg m.1) (0x40 + ch)
  let c : Comparator := { vget s.ptb.cmp m with
    mode := 0, dir := 0, abs := true, skipDrop := true, domain := 1, target := BitVec.ofNat 32 units, cycle := BitVec.ofNat 28 (units / 2 ^ 32) }
  cmpMod m (fun _ => armed c (vget s.ptb.pd 1)) s

/-- The TX command armed on a comparator's channel; `ret` the auto-return, `latest` its bound (R125, R219). -/
def lnkTx (m : Fin 16) (units ch ret latest : Nat) (s : State) : State :=
  let s := lnkArm m units s
  let s := (s.setRegN 0x40100014 latest).setRegN 0x40100018 (unsigned 8 s.askPower)
  rfCommand true (5 + 16 * ret + 256 * ch + 0x10000 * (56 + (m.1 - 12))) s

/-- The start of an absolute slot, in phase units. -/
def slotUnits (t : Nat) : Nat := t * 2 ^ 20

/-- A TX command still waits or runs. -/
def State.txWaits (s : State) : Bool :=
  s.rf.armed.any (fun c => c.kind == 5) || (match s.rf.pend with | some c => c.kind == 5 | none => false) ||
  (match s.rf.cur with | some c => c.kind == 5 | none => false)

/-- Carriers on air are marked as having left. -/
def markLeft (s : State) : State :=
  if s.txm.onAir then
    lnkMod (fun l => { l with sending := l.sending.map (fun c => if s.txm.burst.any (fun k => k.num == c.num) then { c with left := true } else c) }) s
  else s

/-- A frame of a queue has been sent: counted, and without ACK_REQ it is complete (R229, R276). -/
def frameSent (c : LnkCarrier) (s : State) : State :=
  match s.queueOf c.frame with
  | none => s
  | some (_, f) =>
    let s := if 0 < f.sends ∧ c.ack then lnkCount 0x4015004C 0x32 s else s
    let s := proxyLeft c.frame (qframeMod c.frame (fun f => { f with sends := f.sends + 1, plan := 0 }) s)
    if c.ack then s else frameOut c.frame stOk s

/-- One carrier's end: no chip left, so its tokens come back and its frame stays queued; or it was sent (R239, R241, R272). -/
def carrierSettle (c : LnkCarrier) (s : State) : State :=
  let st := s.regF (carStat c.num) 23 16
  let s := if c.left then s else
    let s := bucketsReturn c.chan c.air s
    match c.queue with | some q => shaperReturn q c.shaper s | none => s
  if c.queue.isNone then s
  else if c.left && st == 0 then frameSent c s
  else match s.lnk.wait with
    | some w => if w.frame = c.frame then lnkMod (fun l => { l with wait := none }) s else s
    | none => s

/-- When the transmission that the link controller armed is over, every carrier of it is settled. -/
def settle (s : State) : State :=
  let s := markLeft s
  if s.lnk.sending.isEmpty || s.txWaits || s.rf.moving == some 5 || (s.rf.st == 5 && s.rf.frame) then s
  else s.lnk.sending.foldl (fun s c => carrierSettle c s) (lnkMod (fun l => { l with sending := [], blocks := .replicate 8 [] }) s)

/-- The device may transmit: the standby's transmitter is off (R244), and nothing else of the link controller is on its way. -/
def State.mayTx (s : State) : Bool := s.lnkRuns && s.role != 4 && s.lnk.sending.isEmpty

/-- Whether the channel's power refuses a transmission (R242). -/
def lbtRefuses (dbm : Int) (s : State) : Bool := s.dU 0x2300 0x10 == 1 && decide (s.dI 0x2300 0x11 < dbm)

/-- Airtime and regulatory tokens of a transmission: taken, or refused and counted (R239, R241). -/
def regTake (ch air : Nat) (s : State) : Option State := if bucketsAllow ch air s then some (bucketsTake ch air s) else none

/-! ### SEND (R217, R229) -/

/-- SF of the node's uplink: the entry's, unless an acknowledgement has advised another (R226). -/
def sendM (w : SgWord) (s : State) : Nat := s.lnk.advM.getD w.m

/-- A frame that a SEND occurrence may carry: a relay's frames for its parent; only link management while a lost-sync message is owed
(R217, R237). -/
def uplink (s : State) (f : QFrame) : Bool := (s.role == 1 || f.node == s.parent) && (!s.lnk.lostOwed || lhPort f.lh == 0)

/-- The header of a queued frame as it leaves (R102, R109, R263). -/
def queueHeader (f : QFrame) (zsel rate : Nat) (ack : Bool) (s : State) : Hdr :=
  { type := 0, ack := ack, retry := f.retry || decide (0 < f.sends), net := s.dU 0x2200 3, tx := s.ownNode, rx := f.node, slotLow := 0
    len := f.payload.length, zsel := zsel, rate := rate, fb := s.fbSnr f.node }

/-- RETAG: a forwarded frame leaves in an occurrence other than the one planned (R265). -/
def retag (f : QFrame) (slot : Nat) (s : State) : State :=
  if f.fwd && f.plan != 0 && f.plan != slot then cwyCount 0x40160074 0x14 7 s else s

/-- The commitment of a SEND: tokens, grant, header and tag, and the TX command that ends the frame at E (R217, R239). -/
def sendCommit (i : Fin 64) (slot : Nat) (q : Fin 20) (f : QFrame) (s : State) : State :=
  let w := s.sg i
  let m := sendM w s
  let air := airCharge m f.zsel f.rate
  let s := askGrant 1 (retag f slot (shaperTake q f s))
  let o : OutFrame := { chan := w.chan, m := m, zsel := f.zsel, rate := f.rate, slot := slot, hdr := queueHeader f f.zsel f.rate f.ack s,
                        lh := f.lh, body := f.payload }
  let s := describeAll [o] 0 s
  let s := lnkMod (fun l => { l with
    sending := [{ num := 0, chan := w.chan, air := air, queue := some q, frame := f.id, ack := f.ack, shaper := if s.shaped q then f.cost * 65536 else 0, slot := slot }]
    lostOwed := false
    wait := if f.ack then some { slot := slot, queue := q, frame := f.id, ackM := w.ackM, chan := w.chan } else none }) s
  settle (lnkTx 13 (slotUnits (slot + 1) - s.unitsOf (airUs m f.zsel f.rate + 20)) w.chan 3 0 s)

/-- The occurrence proper: the frame is chosen, then the channel and the budgets are consulted (R217, R239, R242, R270). -/
def sendTry (i : Fin 64) (slot : Nat) (lbt : Int) (s : State) : State :=
  let w := s.sg i
  let fits := fun (f : QFrame) => decide (airUs (sendM w s) f.zsel f.rate * 1000 ≤ w.w * s.tminNs)
  let again := fun (f : QFrame) => !w.retryOnly || f.retry || decide (0 < f.sends)
  let s := shaperDrops s
  match choose (uplink s) (fun f => fits f && again f) s with
  | none => if (offers (uplink s) again s).any (fun p => !fits p.2) then sgSkip i s else s
  | some (q, f, s') =>
    if lbtRefuses lbt s' then lbtBusy s'
    else if (s.txKey f.node).isNone then s
    else match regTake w.chan (airCharge (sendM w s) f.zsel f.rate) s' with
      | none => regDrop s'
      | some s' => sendCommit i slot q f s'

/-- SEND_OCCURRENCE of entry `i`: only while SYNCED, and outside the anchor spans; an occurrence that loses the radio to another is skipped;
`lbt` is the channel's power in dBm (R216, R217, R234). -/
def sendOccurrence (i : Fin 64) (lbt : Int) (conflict : Bool) (s : State) : State :=
  let w := s.sg i
  let start := w.next w.w s.absSlot
  if w.type ≠ 1 ∨ 2 < s.role ∨ !s.mayTx ∨ s.lnk.sync ≠ .synced ∨ s.lnk.wait.isSome ∨ meetsAnchor start (start + w.slots - 1) then s
  else if conflict then sgSkip i (s.flag lnkStat 6)
  else sendTry i (start + w.w - 1) lbt (sgRun i s)

def execSendOccurrence (i : Fin 64) (lbt : Int) (conflict : Bool) (s : State) : Out := .next (sendOccurrence i lbt conflict s)

/-! ### SERVE (R218 to R221) -/

/-- Absolute slot of the last slot of the uplink window of an entry that closed last. -/
def SgWord.lastEnd (w : SgWord) (now : Nat) : Option Nat :=
  let c := (now + 1 - w.start - w.w) / 4096
  let e := w.every
  let back := (c % e + e - w.offset % e) % e
  if now + 1 < w.start + w.w ∨ c < back then none else some ((c - back) * 4096 + w.start + w.w - 1)

/-- SERVE_WINDOW_END: at E the slot group of the entry is open for its seal (R213). A narrowband server serves only while SYNCED (R236). -/
def serveEnd (i : Fin 64) (s : State) : State :=
  let w := s.sg i
  match w.lastEnd s.absSlot with
  | none => s
  | some slot =>
    if w.type ≠ 2 ∨ s.role < 2 ∨ !s.lnkRuns ∨ (s.role = 2 ∧ s.lnk.sync ≠ .synced) ∨ meetsAnchor (slot + 1 - w.w) (slot + w.a + w.d) then s
    else lnkMod (fun l => { l with group := some { entry := i, slot := slot } }) (sgRun i s)

def execServeWindowEnd (i : Fin 64) (s : State) : Out := .next (serveEnd i s)

/-- The frames of the acknowledgement set: R218, the earliest first chip of each TX_NODE. -/
def ackSet (slot : Nat) (s : State) : List Tagged :=
  let ok := s.lnk.tagged.filter (fun t => t.slot == slot && t.ack && t.rx == s.ownNode && !t.held)
  ok.filter (fun t => !ok.any (fun u => u.tx == t.tx && (decide (u.t0 < t.t0) || (u.t0 == t.t0 && decide (u.id < t.id)))))

/-- The advice of a node's record (R226, R256, R257). -/
def adviceOf (n : Nat) (s : State) : Nat × Int :=
  match s.goodRecord n with
  | some k => (s.recGet k 0x60 1 % 8, signed 8 (s.recGet k 0x61 1))
  | none => (7, 0)

/-- An entry before its PENDING flag. -/
def ackEntry (t : Tagged) (s : State) : AckEntry := { node := t.tx, nextM := (adviceOf t.tx s).1, adj := (adviceOf t.tx s).2 }

/-- Entries in ascending NODE order. -/
def insertEntry (e : AckEntry) : List AckEntry → List AckEntry
  | [] => [e]
  | x :: r => if e.node ≤ x.node then e :: x :: r else x :: insertEntry e r

/-- The queued downlink of a node that waits longest. -/
def oldestDownlink (n : Nat) (s : State) : Option QFrame :=
  (s.queued.filter (fun f => f.node == n)).foldl (fun a f => match a with | some g => if f.bornSlot < g.bornSlot then some f else a | none => some f) none

/-- A node whose record is poisoned is never made PENDING (R257). -/
def mayPend (n : Nat) (s : State) : Bool := match s.recordOf n with | some k => !s.recPoisoned k | none => true

/-- PENDING set for at most one node of a carrier: the one whose downlink was queued first (R221). -/
def setPending (l : List AckEntry) (s : State) : List AckEntry :=
  let c := l.filterMap (fun e => if mayPend e.node s then (oldestDownlink e.node s).map (fun f => (e.node, f)) else none)
  match c.foldl (fun a p => match a with | some b => if p.2.bornSlot < b.2.bornSlot then some p else a | none => some p) (none : Option (Nat × QFrame)) with
  | some (n, _) => l.map (fun e => if e.node = n then { e with pending := true } else e)
  | none => l

/-- The carriers of a group: one for each channel that has entries (R219, R225). -/
def ackCarriers (l : List Tagged) (d : Nat) (s : State) : List AckCarrier :=
  ((l.map (·.chan)).dedup).map (fun ch =>
    let here := l.filter (fun t => t.chan == ch)
    let es := (here.take 4).foldl (fun a t => insertEntry (ackEntry t s) a) []
    { chan := ch, entries := if 0 < d then setPending es s else es, snr := match here with | t :: _ => t.snr | [] => 0 })

/-- More entries first; between equals the lower channel (R220). -/
def carrierBefore (a b : AckCarrier) : Bool :=
  decide (b.entries.length < a.entries.length) || (a.entries.length == b.entries.length && decide (a.chan < b.chan))

/-- A carrier in its place in that order. -/
def insertCarrier (a : AckCarrier) : List AckCarrier → List AckCarrier
  | [] => [a]
  | b :: r => if carrierBefore a b then a :: b :: r else b :: insertCarrier a r

/-- ZSEL of an acknowledgement (R225). -/
def ackZ (n : Nat) : Nat := if n ≤ 2 then 0 else 1

/-- One carrier checked against LBT and its buckets; refused carriers are dropped and counted (R241, R242). -/
def ackCheck (w : SgWord) (lbt : List (Nat × Int)) (c : AckCarrier) (s : State) : Option State :=
  if s.dU 0x2300 0x13 = 1 ∧ lbtRefuses ((alGet lbt c.chan).getD (-1000)) s then none
  else regTake c.chan (airCharge w.ackM (ackZ c.entries.length) w.ackRate) s

/-- The carriers that pass, with their tokens taken. -/
def ackCheckAll (w : SgWord) (lbt : List (Nat × Int)) : List AckCarrier → List AckCarrier → State → List AckCarrier × State
  | [], acc, s => (acc, s)
  | c :: r, acc, s =>
    match ackCheck w lbt c s with
    | some s => ackCheckAll w lbt r (acc ++ [c]) s
    | none =>
      ackCheckAll w lbt r acc (if s.dU 0x2300 0x13 = 1 ∧ lbtRefuses ((alGet lbt c.chan).getD (-1000)) s then lbtBusy s else regDrop s)

/-- The 32 bits of an entry (R226). -/
def AckEntry.word (e : AckEntry) : List Byte :=
  beBytes 4 ([(18, e.node), (1, b2n e.pending), (3, e.nextM), (4, unsigned 4 e.adj), (6, 0)].foldl (fun a (p : Nat × Nat) => packF a p.1 p.2) 0)

/-- The frame of an acknowledgement carrier (R225, R227): GROUP_ACK in wideband mode, ACK in narrowband mode. -/
def ackFrame (w : SgWord) (slot : Nat) (c : AckCarrier) (s : State) : OutFrame :=
  let bytes := c.entries.flatMap AckEntry.word
  let lh := (bytes ++ List.replicate 8 0).take 8
  let body := (bytes.drop 8).take 8
  let z := ackZ c.entries.length
  let node := match c.entries with | e :: _ => e.node | [] => 0
  let start := slotUnits (slot + 1) + s.unitsOf 480
  let s1 := (start + s.unitsOf (airUs w.ackM z w.ackRate) - 1) / 2 ^ 20
  { chan := c.chan, m := w.ackM, zsel := z, rate := w.ackRate, slot := s1, lh := lh, body := body
    hdr := { type := if s.wide then 3 else 2, net := s.dU 0x2200 3, tx := s.ownNode, rx := if s.wide then 0x3FFFF else node, slotLow := 0
             len := body.length, zsel := z, rate := w.ackRate, fb := if s.wide then 0x80 else unsigned 8 (clampI (-127) 127 c.snr) } }

/-- The sealed carriers go to the transmitter, and comparator 14 starts them 480 µs after E with LATEST 64 (R219, R222). -/
def ackArm (s : State) : State :=
  match s.lnk.group with
  | none => s
  | some g =>
    if g.carriers.isEmpty || !g.sealed || !s.mayTx then s
    else
      let w := s.sg g.entry
      let s := askGrant g.carriers.length s
      let s := describeAll (g.carriers.map (fun c => ackFrame w g.slot c s)) 0 s
      let s := lnkMod (fun l => { l with sending := (g.carriers.zipIdx).map (fun (c, i) =>
        { num := Fin.ofNat 8 i, chan := c.chan, air := airCharge w.ackM (ackZ c.entries.length) w.ackRate, entries := c.entries, slot := g.slot }) }) s
      settle (lnkTx 14 (slotUnits (g.slot + 1) + s.unitsOf 440) (match g.carriers with | c :: _ => c.chan | [] => 0) 3 64 s)

/-- A claim is wanted: arbitration is on and the Peer Link is up (R512). -/
def State.arbitrated (s : State) : Bool := s.bigRole && s.dU 0x3700 0x20 == 1 && s.isOn dPLK

/-- The opportunity of forwarded downlinks is planned when their next hop is made PENDING (R265). -/
def planDownlinks (w : SgWord) (slot : Nat) (c : List AckCarrier) (s : State) : State :=
  (c.flatMap (fun x => x.entries.filter (·.pending))).foldl (fun s e =>
    match oldestDownlink e.node s with
    | some f => if f.fwd ∧ f.plan = 0 then qframeMod f.id (fun f => { f with plan := slot + w.a + 1 }) s else s
    | none => s) s

/-- ACK_SEAL: SEAL_US after E the set is sealed: advice, PENDING, the eight channels with the most entries, the budgets; without
arbitration the carriers are armed at once (R218 to R222, R256, R512). -/
def ackSeal (lbt : List (Nat × Int)) (s : State) : State :=
  match s.lnk.group with
  | none => s
  | some g =>
    if g.sealed then s
    else
      let w := s.sg g.entry
      let all := (ackCarriers (ackSet g.slot s) w.d s).foldl (fun a c => insertCarrier c a) []
      let keep := all.take (if s.wide then 8 else 1)
      let lost := ((all.drop keep.length).map (fun c => c.entries.length)).foldl (· + ·) 0
      let s := iter (lnkCount 0x40150058 0x35) (if s.wide then lost else 0) (s.flag lnkStat 0)
      let r := if s.role = 4 then ([], s) else ackCheckAll w lbt keep [] s
      let s := planDownlinks w g.slot r.1 r.2
      let s := lnkMod (fun l => { l with
        group := some { g with sealed := true, carriers := r.1 }
        sealedS := (g.slot :: l.sealedS).take 8
        tagged := l.tagged.filter (fun t => decide (g.slot < t.slot)) }) s
      if s.arbitrated then s else ackArm s

/-- ADVICE_CLEAR: an entry that carried advice has left; the record's advice is reset if it still holds what was sealed (R256). -/
def adviceClear (slot : Nat) (e : AckEntry) (s : State) : State :=
  if e.nextM = 7 ∧ e.adj = 0 then s
  else match s.goodRecord e.node with
    | some k =>
      if adviceOf e.node s = (e.nextM, e.adj) then recPut k 0x68 8 slot (recPut k 0x61 1 0 (recPut k 0x60 1 7 s)) else s
    | none => s

/-- GROUP_ACK_SEND: the first chips of the acknowledgement leave 480 µs after E; acknowledged frames are counted (R219, R256). -/
def groupAckSend (s : State) : State :=
  match s.lnk.group with
  | none => s
  | some g =>
    let on := s.lnk.sending.filter (fun c => !c.entries.isEmpty && s.txm.onAir && s.txm.burst.any (fun k => k.num == c.num))
    let s := on.foldl (fun s c => c.entries.foldl (fun s e => adviceClear g.slot e (lnkCount 0x40150040 0x30 s)) s) s
    lnkMod (fun l => { l with group := some { g with carriers := g.carriers.map (fun c => if on.any (fun x => x.chan == c.chan) then { c with sent := true } else c) } })
      (markLeft s)

def execGroupAckSend (s : State) : Out := .next (groupAckSend s)

/-! ### Downlinks (R221) -/

/-- The frames offered to the PENDING nodes of the carriers that were sent, one for each carrier, as Sluice chooses them. -/
def downlinkPick : List (Nat × Nat) → List (Nat × Fin 20 × QFrame) → State → List (Nat × Fin 20 × QFrame) × State
  | [], acc, s => (acc, s)
  | (ch, n) :: r, acc, s =>
    match choose (fun f => f.node == n && !acc.any (fun a => a.2.2.id == f.id)) (fun _ => true) s with
    | some (q, f, s) => downlinkPick r (acc ++ [(ch, q, f)]) s
    | none => downlinkPick r acc s

/-- The largest ZSEL, at most `z`, at which a burst ends inside the downlink window (R221). -/
def fitZ (w : SgWord) (s : State) : Nat → Option Nat
  | 0 => if airUs w.ackM 0 w.ackRate * 1000 ≤ w.d * s.tminNs then some 0 else none
  | z + 1 => if airUs w.ackM (z + 1) w.ackRate * 1000 ≤ w.d * s.tminNs then some (z + 1) else fitZ w s z

/-- The carriers that LBT and the budgets pass, with their tokens. -/
def downlinkCheck (air : Nat) (lbt : List (Nat × Int)) :
    List (Nat × Fin 20 × QFrame) → List (Nat × Fin 20 × QFrame) → State → List (Nat × Fin 20 × QFrame) × State
  | [], acc, s => (acc, s)
  | (ch, q, f) :: r, acc, s =>
    if lbtRefuses ((alGet lbt ch).getD (-1000)) s then downlinkCheck air lbt r acc (lbtBusy s)
    else if (s.txKey f.node).isNone then downlinkCheck air lbt r acc s
    else match regTake ch air s with
      | some s => downlinkCheck air lbt r (acc ++ [(ch, q, f)]) (shaperTake q f s)
      | none => downlinkCheck air lbt r acc (regDrop s)

/-- DOWNLINK_BURST: at the start of the downlink window, one frame for each carrier whose acknowledgement was sent with a PENDING node, all
at ACK_M, ACK_RATE and the largest Z needed; frames that do not fit stay queued (R221). -/
def downlinkBurst (lbt : List (Nat × Int)) (s : State) : State :=
  match s.lnk.group with
  | none => s
  | some g =>
    if !s.mayTx then s
    else
      let w := s.sg g.entry
      let want := g.carriers.filterMap (fun c => if c.sent then (c.entries.find? (·.pending)).map (fun e => (c.chan, e.node)) else none)
      let s := lnkMod (fun l => { l with group := none }) (shaperDrops s)
      match fitZ w s 2 with
      | none => s
      | some zmax =>
        let p := downlinkPick want [] s
        let keep := p.1.filter (fun x => decide (zFor x.2.2.payload.length ≤ zmax))
        let z := keep.foldl (fun a x => max a (zFor x.2.2.payload.length)) 0
        let air := airCharge w.ackM z w.ackRate
        let r := downlinkCheck air lbt (keep.take 8) [] p.2
        if r.1.isEmpty then r.2
        else
          let s := r.2
          let start := slotUnits (g.slot + w.a + 1)
          let slot := (start + s.unitsOf (airUs w.ackM z w.ackRate) - 1) / 2 ^ 20
          let s := askGrant r.1.length s
          let s := r.1.foldl (fun s x => retag x.2.2 (g.slot + w.a + 1) s) s
          let s := describeAll (r.1.map (fun x => { chan := x.1, m := w.ackM, zsel := z, rate := w.ackRate, slot := slot,
                                                    hdr := queueHeader x.2.2 z w.ackRate false s, lh := x.2.2.lh, body := x.2.2.payload })) 0 s
          let s := lnkMod (fun l => { l with sending := (r.1.zipIdx).map (fun (x, i) =>
            { num := Fin.ofNat 8 i, chan := x.1, air := air, queue := some x.2.1, frame := x.2.2.id, ack := false
              shaper := if s.shaped x.2.1 then x.2.2.cost * 65536 else 0, slot := slot }) }) s
          settle (lnkTx 15 (start - s.unitsOf 20) (match r.1 with | x :: _ => x.1 | [] => 0) 3 64 s)

def execDownlinkBurst (lbt : List (Nat × Int)) (s : State) : Out := .next (downlinkBurst lbt s)

/-! ### Synchronisation (R233 to R237) -/

/-- The clock bound b of R235, in 0.1 ppm. -/
def State.clockBound (s : State) : Nat := s.dU 0x2000 0x20 + (if s.lnk.lfSince || s.ptb.lf then s.dU 0x2000 0x21 else 0)

/-- The bound of the trim and of one correction, in parts per 10^9 (R233). -/
def State.trimBound (s : State) : Int := s.dU 0x2000 0x20 * 100 + s.netSlew * 1000

/-- PD1's rate under a trim. -/
def trimmed (nominal : Nat) (trim : Int) : Nat := (roundDiv (nominal * (1000000000 + trim)) 1000000000).toNat

/-- A sync point at absolute slot `slot`: PD1 steps by `err` phase units; when a cycle or more has passed since the last one, its rate is
corrected within the bound (R75, R233). -/
def syncPoint (slot : Nat) (err : Int) (s : State) : State :=
  let b := s.trimBound
  let trim := match s.lnk.syncSlot with
    | some p => if 4096 ≤ slot - p then
        clampI (-b) b (s.lnk.trim + clampI (-b) b (roundDiv (err * 1000000000) ((slot - p) * 2 ^ 20))) else s.lnk.trim
    | none => s.lnk.trim
  let s := stepBy 1 err s
  let s := ptbMod (fun p => { p with rate1 := if s.pd1Source = .air then trimmed p.nominal1 trim else p.rate1 }) s
  let s := lnkMod (fun l => { l with trim := trim, syncSlot := some slot, lfSince := false }) s
  (s.setRegN 0x4015000C (slot % 2 ^ 32)).setRegN 0x40150010 (slot / 2 ^ 32 % 256)

/-- STATE of LNK_SYNC (R244). -/
def syncNumber : Sync → Nat
  | .ref => 0 | .synced => 1 | .catch => 2 | .lost => 3 | .dormant => 4

/-- LINK_STATUS of a state (R245). -/
def linkStatus : Sync → Status
  | .ref => stOk | .synced => stOk | .catch => stNotReady | .lost => stLostSync | .dormant => stLostSync

/-- LNK_SYNC and LINK_STATE follow the state. -/
def syncShow (s : State) : State :=
  let l := s.lnk
  (s.setRegN 0x40150004 (syncNumber l.sync + 8 * b2n l.alt + 256 * min 255 l.missed)).dPut 0x2300 1 (syncNumber l.sync)

/-- A state entered: MISSED starts again, LINK_STATUS follows with a NOTIFY on a change, RESYNC on reaching SYNCED (R236, R244, R245). -/
def syncEnter (x : Sync) (s : State) : State :=
  let was := s.lnk.sync
  let s := syncShow (lnkMod (fun l => { l with sync := x, missed := 0 }) s)
  let s := if x = .synced ∧ (was = .catch ∨ was = .lost ∨ was = .dormant) then s.flag lnkStat 4 else s
  let st := linkStatus x
  if s.dGet 0x2300 0x0D = [st] then s else (s.dSet 0x2300 0x0D [st]).notify 0x2300 0x0D stOk [st]

/-- The guard window G of R235 for an exchange at absolute slot `at_`, in µs. -/
def State.guardAt (s : State) (at_ : Nat) : Nat :=
  match s.lnk.syncSlot with
  | none => 0xFFFFFFFF
  | some p =>
    let t := (at_ - p) * 2 ^ 44 / (32 * max 1 s.ptb.rate1)
    min 0xFFFFFFFF (2 * (s.clockBound + 10 * s.lnk.beacon.slew.toNat) * t / 10000000 + 64)

/-- The absolute slots of the next exchanges: E of a SEND, the window start of a narrowband SERVE, START of a beacon (R235). -/
def State.nextExchange (s : State) : Option Nat :=
  ((fins 64).filterMap (fun i =>
    let w := s.sg i
    if w.type = 1 then some (w.next w.w s.absSlot + w.w)
    else if w.type = 2 then some (w.next 1 s.absSlot)
    else if w.type = 4 then some (w.next 1 s.absSlot) else none)).foldl (fun a t => match a with | some b => some (min b t) | none => some t) none

/-- LNK_GUARD and GUARD_US: G of the next exchange. -/
def State.guard (s : State) : Nat :=
  if s.lnk.sync = .ref then 0 else match s.nextExchange with | some t => s.guardAt t | none => 0

/-- The guard window has grown beyond a quarter of Tmin. -/
def State.guardWide (s : State) : Bool := decide (s.tminNs < 4000 * s.guard)

/-- G/2 exceeds 64 slots. -/
def State.guardLost (s : State) : Bool := decide (128 * s.tminNs < 1000 * s.guard)

/-- ENTER_CATCH (R236). -/
def enterCatch (s : State) : State :=
  if s.lnk.sync = .synced ∧ s.guardWide ∧ !s.guardLost then syncEnter .catch s else s

def execEnterCatch (s : State) : Out := .next (enterCatch s)

/-- ALT_CH of the node's own entry is set. -/
def State.altSet (s : State) : Bool := s.dU 0x2300 7 != 255

/-- The misses of CATCH that lead on (R236). -/
def State.seekDone (s : State) : Bool := decide (max 1 (s.dU 0x2300 4) ≤ s.lnk.missed)

/-- BEACON_MISS: counted in CATCH; after SEEK_BEACONS misses the node turns to ALT_CH, if set (R236). -/
def beaconMiss (s : State) : State :=
  if s.lnk.sync ≠ .catch then s
  else
    let s := lnkMod (fun l => { l with missed := satAdd 255 l.missed 1 }) (lnkCount 0x40150054 0x37 s)
    let s := if s.seekDone && !s.lnk.alt && s.altSet then lnkMod (fun l => { l with alt := true, missed := 0 }) s else s
    syncShow s

def execBeaconMiss (s : State) : Out := .next (beaconMiss s)

/-- ENTER_LOST: G/2 beyond 64 slots, or the misses of CATCH used up; LOST_SYNC is raised (R236, R237). -/
def enterLost (s : State) : State :=
  if !((s.lnk.sync = .synced ∨ s.lnk.sync = .catch) ∧ (s.guardLost ∨ (s.lnk.sync = .catch ∧ s.seekDone ∧ (s.lnk.alt ∨ !s.altSet)))) then s
  else
    let slot := s.absSlot
    let s := lnkMod (fun l => { l with lostSlot := slot, lostPeriods := 0, lostOwed := true, alt := false }) s
    let s := fire 0x50 (s.flag lnkStat 3)
    let s := (s.dBump 0x2300 9).dPut 0x2300 0x0A slot
    (syncEnter .lost s).notify 0x2300 1 stOk [3]

def execEnterLost (s : State) : Out := .next (enterLost s)

/-- The listen turns to the other channel, if ALT_CH is set. -/
def otherChannel (s : State) : State := lnkMod (fun l => { l with alt := if s.altSet then !l.alt else false }) s

/-- ANCHOR_PERIOD_END in LOST: the period counts, and the listen alternates (R236). -/
def anchorPeriodEnd (s : State) : State :=
  if s.lnk.sync ≠ .lost then s
  else syncShow (otherChannel (lnkMod (fun l => { l with missed := satAdd 255 l.missed 1, lostPeriods := satAdd 0xFFFF l.lostPeriods 1 }) s))

def execAnchorPeriodEnd (s : State) : Out := .next (anchorPeriodEnd s)

/-- ENTER_DORMANT: LOST_LIMIT anchor periods have passed without an anchor (R236). -/
def enterDormant (s : State) : State :=
  if s.lnk.sync = .lost ∧ max 1 (s.dU 0x2300 5) ≤ s.lnk.missed then syncEnter .dormant s else s

def execEnterDormant (s : State) : Out := .next (enterDormant s)

/-- DORMANT_LISTEN: one anchor period of listening in every DORMANT_GAP, on alternate channels (R236, R237). -/
def dormantListen (s : State) : State :=
  if s.lnk.sync ≠ .dormant then s
  else syncShow (otherChannel (lnkMod (fun l => { l with
    missed := satAdd 255 l.missed 1, lostPeriods := satAdd 0xFFFF l.lostPeriods (max 1 (s.dU 0x2300 6)) }) s))

def execDormantListen (s : State) : Out := .next (dormantListen s)

/-! ### Acknowledgements received (R226, R228, R229) -/

/-- The entries of a received acknowledgement: two of the ack header, then those of the payload. -/
def ackEntries (f : MeshFrame) : List AckEntry :=
  let b := f.lh ++ f.payload
  (List.range (b.length / 4)).map (fun i =>
    let w := beNat ((b.drop (4 * i)).take 4)
    { node := field w 31 14, pending := bit w 13, nextM := field w 12 10, adj := signed 4 (field w 9 6) })

/-- A heard frame taken from the list. -/
def takeHeard (p : MeshFrame → Bool) (s : State) : Option (MeshFrame × State) :=
  match takeFirst p s.lnk.heard with
  | some (f, r) => some (f, lnkMod (fun l => { l with heard := r }) s)
  | none => none

/-- The acknowledgement of the frame that waits: its window, channel and SF, and an entry with the node's own number (R228). -/
def ackFor (w : Outstanding) (a own : Nat) (f : MeshFrame) : Bool :=
  let t := (Hdr.ofBytes f.hdr).type
  (t == 2 || t == 3) && f.chan == w.chan && f.m == w.ackM && decide (w.slot < f.slot) && decide (f.slot ≤ w.slot + a) &&
  (ackEntries f).any (fun e => e.node == own && own != 0)

/-- The widest acknowledgement window of the node's SEND entries. -/
def State.ackWindow (s : State) : Nat := (fins 64).foldl (fun a i => if (s.sg i).type = 1 then max a (s.sg i).a else a) 0

/-- Advice taken: NEXT_M 0 to 5, PWR_ADJ in 2 dB steps (R226). -/
def adviceTake (e : AckEntry) (s : State) : State :=
  lnkMod (fun l => { l with advM := if e.nextM ≤ 5 then some e.nextM else l.advM, advPwr := clampI (-100) 0 (l.advPwr + 4 * e.adj) }) s

/-- A downlink addressed to a SYNCED node is a sync point too (R233). -/
def downlinkSync (err : Int) (s : State) : State :=
  match takeHeard (fun f => (Hdr.ofBytes f.hdr).type == 0) s with
  | none => s
  | some (f, s) => if s.lnk.sync = .synced then syncPoint f.slot err s else s

/-- ACK_RECEIVE: the frame is acknowledged; its advice is taken; a SYNCED node steps by `err` at the first chip of the acknowledgement, or
of a downlink (R228, R233). -/
def ackReceive (err : Int) (s : State) : State :=
  match s.lnk.wait with
  | none => downlinkSync err s
  | some w =>
    match takeHeard (ackFor w s.ackWindow s.ownNode) s with
    | none => downlinkSync err s
    | some (f, s) =>
      let s := match (ackEntries f).find? (fun e => e.node == s.ownNode) with | some e => adviceTake e s | none => s
      let s := frameOut w.frame stOk (lnkMod (fun l => { l with wait := none }) s)
      if s.lnk.sync = .synced then syncPoint (w.slot + 1) err s else s

def execAckReceive (err : Int) (s : State) : Out := .next (ackReceive err s)

/-- TC_RENEWAL: the given-up frame goes on as a new frame at the head of queue 0, in the same store slot (R275). -/
def renew (f : QFrame) (s : State) : State :=
  let seq := s.lnk.seq + 1
  let lh := lhSeq f.lh seq.toNat
  let s := lnkMod (fun l => { l with seq := seq }) s
  let s := (((s.flag sluStat 3).bump 0x40170060).dBump 0x2400 0x16).dmaWrite (s.storeAddr f.slot) lh
  enqueueFrame 0 true { f with lh := lh, retry := false, sends := 0, plan := 0 } (slotTake f.slot s)

/-- A frame given up after RETRY_MAX (R229, R275). -/
def giveUp (q : Fin 20) (f : QFrame) (s : State) : State :=
  let s := lnkCount 0x40150050 0x33 s
  let again := q == 0 && !f.fwd && decide ((s.cycle + 2 ^ 28 - f.born) % 2 ^ 28 < s.dU 0x2400 0x0A)
  let s := completion f stLate q again (unqueue f.id s)
  if again then renew f s else s

/-- ACK_MISSED: no acknowledgement came; the frame goes back to the head of its queue, or is given up (R229). -/
def ackMissed (s : State) : State :=
  match s.lnk.wait with
  | none => s
  | some w =>
    let s := lnkMod (fun l => { l with wait := none }) s
    match s.queueOf w.frame with
    | none => s
    | some (q, f) => if s.dU 0x2300 8 < f.sends then giveUp q f s else s

def execAckMissed (s : State) : Out := .next (ackMissed s)

/-! ### Beacons (R231 to R234) -/

/-- What a device's beacons say: a root its own values, a relay those of its parent with DEPTH one more (R231, R232). -/
def State.beaconNow (s : State) : BeaconInfo :=
  if s.role = 2 then { s.lnk.beacon with depth := s.lnk.beacon.depth + 1 }
  else { depth := 0, chg := s.ptb.cyclePending, act := s.lnk.beacon.act && decide (s.absSlot ≤ s.lnk.beacon.actSlot.toNat), epoch := s.lnk.epoch,
         slew := BitVec.ofNat 16 s.netSlew, cycleUs := BitVec.ofNat 32 s.ptb.cycleUs, nextCycle := BitVec.ofNat 32 (s.dU 0x2000 2),
         nextAt := BitVec.ofNat 28 (s.dU 0x2000 3), actSlot := s.lnk.beacon.actSlot, actId := s.lnk.beacon.actId, altCh := BitVec.ofNat 8 (s.dU 0x2300 7),
         keyEpoch := s.sec.ep.cur.getD 0 }

/-- The beacon header (R231). -/
def beaconHeader (start : Nat) (anchor : Bool) (b : BeaconInfo) : List Byte :=
  beBytes 8 ([(40, start), (4, b.depth), (1, b2n b.chg), (1, b2n b.act), (1, b2n anchor), (1, 0), (16, b.epoch.toNat)].foldl
    (fun a (p : Nat × Nat) => packF a p.1 p.2) 0)

/-- The beacon payload (R231). -/
def beaconBody (b : BeaconInfo) : List Byte :=
  beBytes 2 b.slew.toNat ++ beBytes 4 b.cycleUs.toNat ++ beBytes 4 b.nextCycle.toNat ++ beBytes 4 b.nextAt.toNat ++ beBytes 5 b.actSlot.toNat ++
  beBytes 2 b.actId.toNat ++ beBytes 2 b.keyEpoch.toNat ++ [b.altCh]

/-- The fields of a received beacon. -/
def beaconFields (f : MeshFrame) : BeaconInfo :=
  let h := beNat (f.lh.take 8)
  let n := fun i k => beNat ((f.payload.drop i).take k)
  { depth := field h 23 20, chg := bit h 19, act := bit h 18, epoch := BitVec.ofNat 16 h, slew := BitVec.ofNat 16 (n 0 2), cycleUs := BitVec.ofNat 32 (n 2 4),
    nextCycle := BitVec.ofNat 32 (n 6 4), nextAt := BitVec.ofNat 28 (n 10 4), actSlot := BitVec.ofNat 40 (n 14 5), actId := BitVec.ofNat 16 (n 19 2),
    keyEpoch := BitVec.ofNat 16 (n 21 2), altCh := f.payload.getD 23 0xFF }

/-- START_SLOT and ANCHOR of a received beacon. -/
def beaconStart (f : MeshFrame) : Nat := beNat (f.lh.take 5)
def beaconAnchor (f : MeshFrame) : Bool := bit (beNat (f.lh.take 8)) 17

/-- A beacon whose first chip leaves at a position of PD1 in phase units, if LBT, the budgets and the key allow it (R231, R239, R242). -/
def beaconSend (w : SgWord) (units : Nat) (anchor : Bool) (lbt : Int) (s : State) : State :=
  if (s.txKey 0x3FFFF).isNone then s
  else if lbtRefuses lbt s then lbtBusy s
  else match regTake w.chan (airCharge w.m 1 1) s with
    | none => regDrop s
    | some s =>
      let slot := (units + s.unitsOf (airUs w.m 1 1) - 1) / 2 ^ 20
      let s := askGrant 1 s
      let o : OutFrame := {
        chan := w.chan, m := w.m, zsel := 1, rate := 1, slot := slot, lh := beaconHeader (units / 2 ^ 20) anchor s.beaconNow, body := beaconBody s.beaconNow
        hdr := { type := 1, net := s.dU 0x2200 3, tx := s.ownNode, rx := 0x3FFFF, slotLow := 0, len := 24, zsel := 1, rate := 1 } }
      let s := describeAll [o] 0 s
      let s := lnkMod (fun l => { l with sending := [{ num := 0, chan := w.chan, air := airCharge w.m 1 1, slot := slot }] }) s
      settle (lnkTx 15 (units - s.unitsOf 20) w.chan 3 0 s)

/-- A device that sends beacons now: a root or worker, or a relay while SYNCED (R231, R232). -/
def State.sendsBeacons (s : State) : Bool := s.mayTx && (s.bigRole || (s.role == 2 && s.lnk.sync == .synced))

/-- BEACON_TX of entry `i`: the first chip leaves at the start of slot START, outside anchor spans (R231, R234). -/
def beaconTx (i : Fin 64) (lbt : Int) (conflict : Bool) (s : State) : State :=
  let w := s.sg i
  let start := w.next 1 s.absSlot
  if w.type ≠ 3 ∨ !s.sendsBeacons ∨ meetsAnchor start (start + spanSlots (airUs w.m 1 1) s.tminNs - 1) then s
  else if conflict then sgSkip i (s.flag lnkStat 6)
  else beaconSend w (slotUnits start) false lbt (sgRun i s)

def execBeaconTx (i : Fin 64) (lbt : Int) (conflict : Bool) (s : State) : Out := .next (beaconTx i lbt conflict s)

/-- ANCHOR_BEACON_TX: on the channel and at the SF of the first BEACON_TX entry, its last chip ends with the anchor slot (R234). -/
def anchorTx (lbt : Int) (s : State) : State :=
  match (fins 64).find? (fun i => (s.sg i).type == 3) with
  | none => s
  | some i =>
    if !s.sendsBeacons then s
    else beaconSend (s.sg i) (slotUnits (anchorAfter s.absSlot + 1) - s.unitsOf (airUs (s.sg i).m 1 1)) true lbt s

def execAnchorBeaconTx (lbt : Int) (s : State) : Out := .next (anchorTx lbt s)

/-- What an accepted beacon leaves: its fields, the epoch check, the announced cycle, and KEY_STALE (R69, R233, R292). -/
def beaconTake (f : MeshFrame) (s : State) : State :=
  let b := beaconFields f
  let s := (lnkMod (fun l => { l with beacon := b }) s).setRegF 0x40150080 31 16 b.epoch.toNat
  let s := if b.epoch = s.lnk.epoch then s.dPut 0x2300 0x0C 0 else (s.flag lnkStat 7).dPut 0x2300 0x0C 1
  let s := if b.chg && cycleAhead s.cycle b.nextAt.toNat then
    ptbMod (fun p => { p with cyclePending := true }) ((s.dPut 0x2000 2 b.nextCycle.toNat).dPut 0x2000 3 b.nextAt.toNat) else s
  keyRearm (beaconEpoch b.keyEpoch s)

/-- A beacon that R233 accepts: from the parent, at an instant of one of the node's BEACON_RX entries. -/
def acceptable (s : State) (f : MeshFrame) : Bool :=
  (Hdr.ofBytes f.hdr).type == 1 && (Hdr.ofBytes f.hdr).tx == s.parent &&
  (fins 64).any (fun i => (s.sg i).type == 4 && (s.sg i).begins (beaconStart f))

/-- A beacon accepted as a sync point, `err` phase units off (R233, R236). The activation it may announce is R469's. -/
def beaconAccepted (err : Int) (s : State) : Option (MeshFrame × State) :=
  if s.lnk.sync ≠ .synced ∧ s.lnk.sync ≠ .catch then none
  else match takeHeard (acceptable s) s with
    | none => none
    | some (f, s) =>
      let s := beaconTake f (syncPoint (beaconStart f) err s)
      some (f, if s.lnk.sync = .catch then syncEnter .synced s else s)

/-- An anchor accepted in LOST or DORMANT: SYNCED, with its sender as parent; the lost-sync message is owed (R236, R237). -/
def anchorAccepted (err : Int) (s : State) : Option (MeshFrame × State) :=
  if s.lnk.sync ≠ .lost ∧ s.lnk.sync ≠ .dormant then none
  else match takeHeard (fun f => (Hdr.ofBytes f.hdr).type == 1 && beaconAnchor f) s with
    | none => none
    | some (f, s) =>
      let tx := (Hdr.ofBytes f.hdr).tx
      let s := beaconTake f (syncPoint (beaconStart f) err (s.dPut 0x2300 0x0B tx))
      let s := syncEnter .synced s
      let msg := [1] ++ beBytes 5 s.lnk.lostSlot ++ beBytes 2 s.lnk.lostPeriods
      let s := if s.lnk.lostOwed then
        (match originate 1 tx 0 0 5 1 true 15 msg s with | some s => s | none => lnkMod (fun l => { l with lostOwed := false }) s) else s
      some (f, s)

/-! ### Re-initialisation (R245) -/

/-- Function 6: the present group ends without an acknowledgement and its reservations go; the schedule, the buckets and the
synchronisation state stay. -/
def lnkReinit (s : State) : State :=
  let s := s.lnk.sending.foldl (fun s c => if c.left then s else bucketsReturn c.chan c.air (match c.queue with | some q => shaperReturn q c.shaper s | none => s)) s
  lnkMod (fun l => { l with group := none, tagged := [], heard := [], wait := none, sending := [], blocks := .replicate 8 [] })
    (rfMod (fun r => { r with armed := r.armed.filter (fun c => c.kind != 5), pend := match r.pend with | some c => if c.kind = 5 then none else some c | none => none }) s)

end Sys2Proof.Machine
end

