-- ==== Sys2Proof/Machine/RadioEvents.lean ====
section
/-! DEFINITION. The commands of the radio sequencer and of the transmitter as the link controller sees them: after each, the frames,
tokens and carriers of a transmission that has ended are settled (R229, R239). Also the loss of the synthesiser's lock (R120), the
re-initialisations of functions 1 and 5 (R147, R209), and what a write of role 0 stops (R3). -/

namespace Sys2Proof.Machine

/-- RFS_ABORT: RX or TX ends at once, the pending command is dropped (R128). -/
def execRfsAbort (lnk : Bool) (v : BitVec 32) (s : State) : Out := .next (settle (rfCommand lnk (withCmd 0 v) s))

/-- RFS_SLEEP (R124, R145). -/
def execRfsSleep (lnk : Bool) (v : BitVec 32) (s : State) : Out := .next (settle (rfCommand lnk (withCmd 1 v) s))

/-- RFS_STANDBY (R124, R145). -/
def execRfsStandby (lnk : Bool) (v : BitVec 32) (s : State) : Out := .next (settle (rfCommand lnk (withCmd 2 v) s))

/-- RFS_SYNTH_READY (R124, R145). -/
def execRfsSynthReady (lnk : Bool) (v : BitVec 32) (s : State) : Out := .next (settle (rfCommand lnk (withCmd 3 v) s))

/-- RFS_RX (R124, R145). -/
def execRfsRx (lnk : Bool) (v : BitVec 32) (s : State) : Out := .next (settle (rfCommand lnk (withCmd 4 v) s))

/-- RFS_TX: from firmware it is refused (R125, R145). -/
def execRfsTx (lnk : Bool) (v : BitVec 32) (s : State) : Out := .next (settle (rfCommand lnk (withCmd 5 v) s))

/-- RFS_BAD_COMMAND: CMD 6 or 7 sets BADCMD and does nothing (R145). -/
def execRfsBadCommand (lnk : Bool) (v : BitVec 32) (s : State) : Out := .next (rfCommand lnk (withCmd (6 + field v.toNat 0 0) v) s)

/-- RFS_TRIGGER (R126). -/
def execRfsTrigger (c : Fin 64) (s : State) : Out := .next (settle (rfTrigger c s))

/-- PENDING_COMMAND_START (R127). -/
def execPendingCommandStart (delay : Nat) (s : State) : Out := .next (settle (pendingStart delay s))

/-- RF_TRANSITION_DONE (R122). -/
def execRfTransitionDone (s : State) : Out := .next (settle (transitionDone s))

/-- CARRIER_END (R198). -/
def execCarrierEnd (c : Fin 8) (gamma : BitVec 32) (fb : Byte) (s : State) : Out := .next (settle (carrierEnd c gamma fb s))

/-- TX_FRAME_END (R123). -/
def execTxFrameEnd (gamma : BitVec 32) (fb : Byte) (s : State) : Out := .next (settle (txFrameEnd gamma fb s))

/-- ANT_FAULT_TRIP (R140). -/
def execAntFaultTrip (gamma : BitVec 32) (s : State) : Out := .next (settle (antFaultTrip gamma s))

/-- CHANNEL_MASK_APPLY (R90, R129). -/
def execChannelMaskApply (s : State) : Out := .next (settle (channelMaskApply s))

/-- SYNTH_UNLOCK: in TX the frame ends as not sent, in RX every frame being received is discarded; UNLOCK is set, the event logged, and the
sequencer goes to STANDBY, where the channel is calibrated again on the way to the pending command (R120, R209, R479). -/
def synthUnlock (s : State) : State :=
  if s.rf.st ≠ 4 ∧ s.rf.st ≠ 5 then s
  else
    let s := healthEvent 0x0F 0 0 false (s.flag rfsStat 3)
    let s := if s.rf.st = 5 then burstCut stRegulatory s else rxDiscard s
    rfMod (fun r => { r with moving := some 2, cur := none, frame := false, locked := false }) s

def execSynthUnlock (s : State) : Out := .next (settle (synthUnlock s))

/-! ### Re-initialisations -/

/-- Function 1: the pending command is dropped with FUNCTION_RESET, a frame in progress ends as ABORT ends it, and the start-up
calibrations run again (R132, R147). -/
def rfReinit (s : State) : State :=
  let s := settle (rfAbort 1 s)
  if s.isOn dRADIO then calAsk 63 s else s

/-- Function 5: the burst ends with FUNCTION_RESET; ceilings, sets and CONVERGED stay (R209). -/
def txmReinit (s : State) : State :=
  let s := if s.txm.burst.isEmpty then s else rfAbort 3 s
  settle (txmMod (fun t => { t with fit := none, grant := none }) s)

/-- Every frame in Sluice ends with FUNCTION_RESET. -/
def framesDropped (s : State) : State := s.queued.foldl (fun s f => frameOut f.id stFnReset s) s

/-- What a write of role 0 stops at once: every radio function. Frames being received are discarded and queued transmissions dropped; the
roster and the route table stay (R3). -/
def radioStop (s : State) : State :=
  let s := lnkReinit s
  let s := rfAbort 0 (rxDiscard s)
  let s := framesDropped s
  let s := rfMod (fun r => { r with armed := [], pend := none }) s
  cwyMod (fun c => { c with todo := [], live := [], inbox := [], peerOut := [] }) s

end Sys2Proof.Machine
end

