-- ==== Sys2Proof/Machine/Power.lean ====
section
/-! DEFINITION. Power domains, regulator, clocks, sleep and wake (R425 to R449, R535). -/

namespace Sys2Proof.Machine

/-- The power controller changed. -/
def pccMod (f : Pcc → Pcc) (s : State) : State := { s with pcc := f s.pcc }

/-- The state a two-bit number names: 0 OFF, 1 RETAINED, 2 ON (R448). -/
def domOf (v : Nat) : DomState := if v = 0 then .off else if v = 1 then .retained else .on

/-- The number of a state. -/
def domNumber : DomState → Nat
  | .off => 0 | .retained => 1 | .on => 2

/-- The domain that a domain needs (R428). -/
def domNeeds (d : Fin 24) : Option (Fin 24) :=
  if d = dCAPTURE ∨ d = dLANE0 ∨ d = dTXM ∨ d = dSLU then some dRADIO
  else if d = dMODEM then some dCAPTURE
  else if d = dCWY then some dSLU
  else none

/-- The domains whose ON estimate R425 gives as a dash: they need a PLL or the crystal (R434). -/
def needsClock (d : Fin 24) : Bool := (decide (12 ≤ d.1) && decide (d.1 ≤ 20)) || d == dPLK

/-- The state a domain will have once its queued change is done (R429). -/
def State.planned (s : State) (d : Fin 24) : DomState :=
  match s.pcc.changes.find? (fun c => c.1 == d) with
  | some c => c.2
  | none => vget s.pcc.dom d

/-- PCC_ESTn: the ON and the RETAINED estimate (R434). -/
def State.estOn (s : State) (d : Fin 24) : Nat := s.dU 0x3403 (d.1 + 1) % 65536
def State.estRet (s : State) (d : Fin 24) : Nat := s.dU 0x3403 (d.1 + 1) / 65536

/-- The number of SRAM0 blocks set in RET_MASK (R434). -/
def State.retBlocks (s : State) : Nat := ((List.range 8).filter (fun i => bit (s.dU 0x3404 1) i)).length

/-- The estimate sum for given states of the domains (R434). -/
def State.estSum (s : State) (st : Fin 24 → DomState) : Nat :=
  (fins 24).foldl (fun a d => a + (match st d with
    | .on => s.estOn d
    | .retained => if d = dSRAM0 then s.estRet d * s.retBlocks else s.estRet d
    | .off => 0)) 0

/-- LP_BUDGET: 100 to 2,000, any other value acts as 2,000 (R448). -/
def State.lpBudget (s : State) : Nat := let v := s.dU 0x3400 3; if 100 ≤ v ∧ v ≤ 2000 then v else 2000

/-- The regulator is in LP or about to enter it (R434). -/
def State.lpAhead (s : State) : Bool := s.pcc.lp || s.pcc.modeChange == some true

/-- States that LP cannot carry: a domain that needs a PLL or the crystal, or a sum above the budget (R434). -/
def State.overBudget (s : State) (st : Fin 24 → DomState) : Bool := decide (s.lpBudget < s.estSum st)

/-- A core in WAIT or halted (R430). -/
def State.coreIdle (s : State) (c : Fin 6) : Bool :=
  match s.physOf c with
  | none => true
  | some p => (vget s.kz.phys p).halted || (vget s.kz.phys p).waiting

/-- The logical core of a core domain. -/
def domCore (d : Fin 24) : Option (Fin 6) := if 2 ≤ d.1 ∧ d.1 ≤ 7 then some (Fin.ofNat 6 (d.1 - 2)) else none

/-- Some domain that a domain needs is not ON in the given states (R428). -/
def lacksNeed (d : Fin 24) (st : Fin 24 → DomState) : Bool :=
  match domNeeds d with
  | some n => st n != .on
  | none => false

/-- A core domain whose core still runs (R430). -/
def State.coreRuns (s : State) (d : Fin 24) : Bool :=
  match domCore d with
  | some c => !s.coreIdle c
  | none => false

/-- The checks of a request for a domain's state, in this order: the domain and the value (R426, R448), a change still running (R429),
what it needs and what needs it (R428), its core (R430), and the LP budget (R434). `stops` says that firmware will stop the core. -/
def domainCheck (d : Fin 24) (v : Nat) (stops : Bool) (s : State) : Status :=
  let w := domOf v
  if 3 ≤ v ∨ (d.1 < 2 ∧ w ≠ .on) then stRange
  else if s.pcc.changes.any (fun c => c.1 == d) then stBusy
  else if vget s.pcc.dom d = w then stOk
  else if w = .on then
    if lacksNeed d s.planned then stNotReady
    else if s.lpAhead && (needsClock d || s.overBudget (fun e => if e = d then w else s.planned e)) then stBudget
    else stOk
  else if vget s.pcc.dom d = .on ∧ ((fins 24).any (fun e => domNeeds e == some d && (s.planned e == .on || s.isOn e))) then stBusy
  else if vget s.pcc.dom d = .on ∧ !stops ∧ s.coreRuns d then stBusy
  else if s.lpAhead && s.overBudget (fun e => if e = d then w else s.planned e) then stBudget
  else stOk

/-- A refusal over the budget: PCC_STAT.REFUSED, REFUSED_COUNT and the producer PCC_REFUSED (R434). -/
def budgetRefused (s : State) : State :=
  fire 0xA1 ((pccMod (fun p => { p with refused := true, refusedCnt := sat32 p.refusedCnt, refusedRc := sat32 p.refusedRc }) s).dBump 0x3400 5)

/-- A request: its RESULT, and when it is accepted and changes anything, its place behind the changes before it (R429). -/
def domainAsk (d : Fin 24) (v : Nat) (stops : Bool) (s : State) : Status × State :=
  let st := domainCheck d v stops s
  let s := pccMod (fun p => { p with result := vset p.result d st }) s
  if st = stOk then
    (st, if vget s.pcc.dom d = domOf v then s else pccMod (fun p => { p with changes := p.changes ++ [(d, domOf v)] }) s)
  else (st, if st = stBudget then budgetRefused s else s)

/-! ### What a domain loses and what firmware restores -/

/-- The registers of an address range back at their reset values. -/
def regsLost (lo hi : Nat) (s : State) : State := { s with regs := s.regs.filter (fun p => !(decide (lo ≤ p.1) && decide (p.1 < hi))) }

/-- The bytes of an address range lost, with what is known of their errors. -/
def cellsLost (lo hi : Nat) (s : State) : State :=
  let out := fun a => !(decide (lo ≤ a) && decide (a < hi))
  mmod (fun m => { m with
    cells := Memory.clear m.cells lo hi, bad := m.bad.filter out, soft := m.soft.filter out, poison := m.poison.filter out
    rowCe := m.rowCe.filter (fun p => out p.1) }) s

/-- Requests in flight in the functions of a core end with FUNCTION_RESET: core 1 serves roster operations and the proxy, core 4 the jobs
of the PKE that no other master may give (R308, R430, R485). -/
def coreRequestsReset (c : Fin 6) (s : State) : State :=
  if c = 1 then proxiesReset (rosterReinit s) else if c = 4 then pkeReinit s else s

/-- An operation of the flash controller is never cut: it completes, and its requester reads FUNCTION_RESET (R394, R430). -/
def flashLeave (s : State) : State :=
  let s := mmod (fun m => { m with flcSeq := .locked }) s
  match s.mem.flcOp with
  | none => s
  | some op => flcEnd stFnReset (if op.cmd = 1 ∨ op.cmd = 2 then flashWork op s else s)

/-- The host links stop: nothing they had taken or still had to send remains (R425, R430). -/
def linksStop (s : State) : State :=
  let wire := fun x : Src => x != .air && x != .firmware
  { s with links := { s.links with
      waiting := s.links.waiting.filter (fun r => !wire r.src), xfers := s.links.xfers.filter (fun x => !wire x.src)
      outbox := .replicate 5 [] } }

/-- What stops in a domain that leaves ON: every request in flight in its functions ends with FUNCTION_RESET (R430, R535). -/
def domLeave (d : Fin 24) (s : State) : State :=
  match d.1 with
  | 11 => flashLeave s
  | 12 => rosterReinit s
  | 13 =>
    let s := lnkReinit (txmReinit (settle (rfAbort 0 (rxDiscard s))))
    let s := if s.single then sluReinit s else s
    let s := if s.lnk.apply.isSome then (lnkMod (fun l => { l with apply := none }) s).produceSt 0x2312 4 stFnReset else s
    rfMod (fun r => { r with st := 1, moving := none, armed := [], pend := none, cur := none, frame := false, locked := false }) s
  | 14 => acqReinit s
  | 15 => framesReset (fun f => f.stage.onLane && f.lane == 0) s
  | 16 => framesReset (fun f => (f.stage.onLane && f.lane != 0) || (f.stage.decoding && f.engine != 0)) s
  | 17 => waveTestReset (framesReset (fun f => f.stage.decoding && f.engine == 0) s)
  | 18 => txmReinit s
  | 19 => rosterReinit (cwyReinit s)
  | 20 => sluReinit s
  | 21 => pkeReinit (cmcReinit (urgentReset s))
  | 22 => linksStop s
  | 23 => { s with plk := { s.plk with up := 0, members := .replicate 8 none, claims := [], grants := none } }
  | _ => s

/-- A core that loses power keeps nothing, and is halted until core 0 loads it (R425, R430). -/
def coreOff (c : Fin 6) (s : State) : State :=
  let s := match s.physOf c with
    | some p => kmod p (fun _ => {}) s
    | none => s
  let s := { s with kz := { s.kz with run := vset s.kz.run c false, ipend := vset s.kz.ipend c 0 } }
  let lo := 0x21000000 + 0x40000 * c.1
  cellsLost lo (lo + 0x40000) s

/-- What a domain in OFF loses: everything (R425). Maps and retirements are in the health record and stay (R484). -/
def domLose (d : Fin 24) (s : State) : State :=
  match d.1 with
  | 8 => cellsLost 0x20000000 0x20010000 s
  | 9 => cellsLost 0x20010000 0x20100000 s
  | 10 => cellsLost 0x20100000 0x20400000 s
  | 11 => regsLost 0x40060054 0x40060058 (regsLost 0x40060000 0x40060040 s)
  | 12 =>
    let s := mmod (fun m => { m with
      mig := .idle, trained := 0, caparRun := .replicate 3 0, modeRegs := [], postponed := 0, rhTable := [], spareDown := false
      slot1Down := false }) (cellsLost 0x80000000 0x87000000 (regsLost 0x40070000 0x40080000 s))
    syncRecords (syncPoison (syncMig (syncMap (s.dPut 0x3200 0x2D 2))))
  | 13 =>
    let s := regsLost 0x40150000 0x40160000 (regsLost 0x40100000 0x40110000 s)
    bucketsEmpty { s with rf := {}, lnk := { seq := s.lnk.seq }, bkt := {} }
  | 14 => syncRx (rxMod (fun r => { r with gaps := [], searching := [] }) (regsLost 0x40110000 0x40120000 s))
  | 16 => syncRx (regsLost 0x40120000 0x40130000 s)
  | 17 => syncRx (regsLost 0x40130000 0x40140000 s)
  | 18 => regsLost 0x40140000 0x40150000 (txmMod (fun _ => {}) s)
  | 19 => cellsLost 0x30000000 0x30080000 (regsLost 0x40160000 0x40170000 (cwyMod (fun _ => {}) s))
  | 20 => regsLost 0x40170000 0x40180000 (sluMod (fun x => { nextId := x.nextId }) s)
  | 21 =>
    let s := secMod (fun x => { x with
      slots := Vector.ofFn (fun i => if i.1 = 15 then vget x.slots i else {}), ep := {}, stage := .replicate 8 0
      pkey := .replicate 8 (.replicate 8 0), jobs := .replicate 8 none, urgent := [] }) s
    regsLost 0x40080000 0x400A0000 s
  | 23 => regsLost 0x40240000 0x40250000 s
  | _ => match domCore d with
    | some c => coreOff c s
    | none => s

/-- What RETAINED does not keep: SRAM0 blocks outside RET_MASK (R431) and DRAM segments set in PASR_MASK (R389). -/
def domRetain (d : Fin 24) (s : State) : State :=
  if d = dSRAM0 then
    (List.range 8).foldl (fun s i => if bit (s.dU 0x3404 1) i then s else cellsLost (0x20000000 + 0x2000 * i) (0x20002000 + 0x2000 * i) s) s
  else if d = dDRAM then
    syncRecords (syncPoison ((List.range 16).foldl (fun s i =>
      if bit (s.dU 0x3200 0x2B) i then cellsLost (0x80000000 + 0x700000 * i) (0x80700000 + 0x700000 * i) s else s) s))
  else s

/-- The base registers that main firmware writes for the layout of R384; in role 2 the Causeway store is 256 slots of shared SRAM, where the
spec gives no address (log entry 40). -/
def layoutSet (s : State) : State :=
  let small := s.role == 2
  let s := (s.setRegN 0x40110090 0x82F00000).setRegN 0x4012A050 (if small then 0x20280000 else 0x84D00000)
  let s := (s.setRegN 0x4012A054 (if small then 0x20290000 else 0x84E00000)).setRegN 0x4012A058 (if small then 8 else 14)
  let s := ((s.setRegN 0x40160030 0x80000000).setRegN 0x40160034 0x82E00000)
  let s := (s.setRegN 0x40160048 (if small then 0x20200000 else 0x85200000)).setRegN 0x4016004C
    (let n := s.dU 0x2400 9; if n ≠ 0 then n else if small then 256 else 16384)
  (s.setRegN 0x40170050 (if small then 0x20220000 else 0x85E80000)).setRegN 0x40170054 8

/-- The enable bits that main firmware sets once a role is accepted, in the blocks that are ON: ACQ, LNK with its mode, CWY and SLU (R3). -/
def roleEnable (s : State) : State :=
  let r := s.role
  let s := if s.isOn dCAPTURE then s.setRegF 0x40110000 1 1 (b2n (3 ≤ r)) else s
  let s := if s.isOn dRADIO then
      (s.setRegF 0x40150000 1 1 (b2n (1 ≤ r))).setRegF 0x40150000 5 4 (if r = 0 then 0 else if r ≤ 2 then 1 else if r = 4 then 3 else 2)
    else s
  let s := if s.isOn dRADIO then s.setRegF 0x40100000 3 3 (b2n (3 ≤ r)) else s
  let s := if s.isOn dCWY then (s.setRegF 0x40160000 1 1 (b2n (2 ≤ r))).setRegF 0x40160000 4 4 (b2n (3 ≤ r)) else s
  if s.isOn dSLU then s.setRegF 0x40170000 1 1 (b2n (2 ≤ r)) else s

/-- CAN FD and 10BASE-T1S settings brought into force from the entries (R48). -/
def canSettings (k : Fin 2) (s : State) : CanSet :=
  let b := 0x10 + 10 * k.1
  { enable := s.dU 0x1100 b == 1, address := s.dU 0x1100 (b + 1), nominal := s.dU 0x1100 (b + 2), data := s.dU 0x1100 (b + 3)
    sample := s.dU 0x1100 (b + 4) }

def t1sSettings (s : State) : T1sSet :=
  { enable := s.dU 0x1100 0x20 == 1, plcaId := s.dU 0x1100 0x21, mac := BitVec.ofNat 48 (s.dU 0x1100 0x22)
    nodeCount := s.dU 0x1100 0x23, toTimer := s.dU 0x1100 0x24, notifyDest := BitVec.ofNat 48 (s.dU 0x1100 0x27) }

def linksConfigure (s : State) : State :=
  { s with links := { s.links with can := #v[canSettings 0 s, canSettings 1 s], canBusOff := .replicate 2 false, t1s := t1sSettings s } }

/-- The training of the ranks that main firmware runs when DRAM comes up (R385, R386): a rank that fails is retired; a slot takes the spare
while it is good, and its contents are lost. -/
def rankFails (r : Fin 3) (s : State) : State :=
  if s.mem.rankRetired.getLsbD r.1 then s
  else match s.slotOf r with
    | none =>
      if r = s.mem.spareRank && s.mem.spareOk then
        spareTaken 1 (mmod (fun m => { m with spareOk := false, rankRetired := m.rankRetired ||| (1#3 <<< r.1) }) s)
      else s
    | some k =>
      if s.mem.spareOk then
        spareTaken 1 (slotLost k (mmod (fun m => { m with
          slotRank := vset m.slotRank k m.spareRank, spareOk := false, rankRetired := m.rankRetired ||| (1#3 <<< r.1) }) s))
      else rankStays s

def dramTrain (trained : BitVec 3) (s : State) : State :=
  let s := [2, 0, 1].foldl (fun s (r : Fin 3) => if trained.getLsbD r.1 then s else rankFails r s) s
  let s := syncMap (mmod (fun m => { m with trained := trained }) s)
  let ok := (fins 2).all (fun k => trained.getLsbD (vget s.mem.slotRank k).1)
  (s.dPut 0x3200 0x2D (if ok then stOk else stExhausted).toNat).dPut 0x3200 0x2E 0

/-- The synchronisation with which a role begins: a leaf or a relay searches for its parent, a root is the reference (R236). -/
def syncBegin (s : State) : State := syncEnter (if s.role = 1 ∨ s.role = 2 then .lost else .ref) s

/-- Main firmware restarts the functions of a domain that has come back from OFF, and loads its core (R430, R456). -/
def domStart (d : Fin 24) (trained : BitVec 3) (s : State) : State :=
  match d.1 with
  | 11 => moveWindow s
  | 12 => dramTrain trained s
  | 13 =>
    let s := syncBegin (roleEnable (layoutSet (rfMod (fun r => { r with st := 1, moving := some 2 }) s)))
    calAsk 63 (setTune (s.dU 0x2100 0x22 % 64) (s.dU 0x2100 0x22 / 256 % 64) s)
  | 14 => roleEnable (layoutSet s)
  | 16 => layoutSet s
  | 18 => dpdLoad (s.dGet 0x2200 0x45) s
  | 19 =>
    let s := roleEnable (layoutSet s)
    let t := s.dGet 0x2401 1
    if t.isEmpty then s else (routeCommit (s.wrBytes shadowBase t)).2
  | 20 => roleEnable (layoutSet s)
  | 21 => keyAreaCheck true s
  | 22 => linksConfigure s
  | _ => match domCore d with
    | some c => if s.boot.stage = .main ∧ c ≠ 0 then coreLoad c 0 s else s
    | none => s

/-- A RETAINED core goes on after its WAIT (R430). -/
def coreResume (d : Fin 24) (s : State) : State :=
  match domCore d with
  | some c => match s.physOf c with
    | some p => kmod p (fun k => { k with waiting := false }) s
    | none => s
  | none => s

/-- NOTIFYs for the 0x1201 entries that differ from `before` (R50, R535). -/
def fnNotices (before : Vector Byte 20) (s : State) : State :=
  foldS (fun n s => if s.fnStatus n = vget before n then s else s.notify 0x1201 (n.1 + 1) stOk [s.fnStatus n]) (fins 20) s

/-- What the crystal and the PLLs run for (R438). -/
def pllWanted (p : Fin 4) (s : State) : Bool :=
  !s.pcc.lp &&
  match p.1 with
  | 0 => s.fabricOn
  | 1 => s.isOn dCAPTURE || s.isOn dLANE0 || s.isOn dLDC0 || s.isOn dTXM || s.isOn dMODEM
  | 2 => s.isOn dDRAM
  | _ => s.isOn dPLK

def xoWanted (s : State) : Bool := (fins 4).any (fun p => pllWanted p s) || s.isOn dRADIO || s.pcc.xoEn

/-- The clocks after a change of a domain, of the regulator or of the crystal (R437, R438). -/
def clockUpdate (s : State) : State :=
  let run := xoWanted s && !s.pcc.xoFail
  let lk : Vector Bool 4 := Vector.ofFn (fun p => vget s.pcc.locked p && run && pllWanted p s)
  pccMod (fun c => { c with xoRun := run, locked := lk, sysPll := c.sysPll && vget lk 0 }) s

/-- A domain takes a state: what leaves ON stops, what goes OFF is lost, what comes ON is restored (R425, R429 to R431). -/
def domSet (d : Fin 24) (w : DomState) (trained : BitVec 3) (s : State) : State :=
  let was := vget s.pcc.dom d
  if was = w ∨ d.1 < 2 then s else
  let before := Vector.ofFn s.fnStatus
  let s := if was = .on then domLeave d s else s
  let s := pccMod (fun p => { p with dom := vset p.dom d w }) s
  let s := match w with
    | .off => domLose d s
    | .retained => domRetain d s
    | .on => if was = .off then domStart d trained s else coreResume d s
  fnNotices before (clockUpdate s)

/-- DOMAIN_CHANGE_DONE: the oldest accepted change completes: its state, DOM_DONE and PCC_DOM (R429, R448). -/
def domainChangeDone (trained : BitVec 3) (s : State) : State :=
  match s.pcc.changes with
  | [] => s
  | (d, w) :: rest =>
    let s := domSet d w trained (pccMod (fun p => { p with changes := rest }) s)
    fire 0xA4 (pccMod (fun p => { p with domDone := true }) s)

def execDomainChangeDone (trained : BitVec 3) (s : State) : Out := .next (domainChangeDone trained s)

/-- A request at PCC_DOMn (R429, R448). -/
def domainReg (d : Fin 24) (v : Nat) (s : State) : State :=
  (domainAsk d v false (pccMod (fun p => { p with req := vset p.req d (Fin.ofNat 4 v) }) s)).2

/-- A DOMAIN_REQ of the dictionary: main firmware stops the core of a core domain before it asks; CORE0 stays (R430). -/
def domainEntry (d : Fin 24) (v : Nat) (s : State) : Status × State :=
  let leaves := v < 2 ∧ s.isOn d
  if d = dCORE0 ∧ leaves then (stBusy, pccMod (fun p => { p with result := vset p.result d stBusy }) s)
  else
    let st := domainCheck d v true s
    if st ≠ stOk then domainAsk d v true s
    else
      let s := match domCore d with
        | some c => if leaves then coreRequestsReset c (coreRunWrite c false s) else s
        | none => s
      domainAsk d v true (pccMod (fun p => { p with req := vset p.req d (Fin.ofNat 4 v) }) s)

/-! ### Regulator, supply and clocks -/

/-- REG_MODE_WRITE: to LP only under the budget; to MAIN always (R433, R434). -/
def regModeWrite (lp : Bool) (s : State) : State :=
  if s.pcc.modeChange.getD s.pcc.lp = lp then s
  else if lp && s.overBudget s.planned then budgetRefused s
  else pccMod (fun p => { p with modeChange := if p.lp = lp then none else some lp }) s

def execRegModeWrite (lp : Bool) (s : State) : Out := .next (regModeWrite lp s)

/-- REG_MODE_DONE: the regulator has changed (R433). -/
def regModeDone (s : State) : State :=
  match s.pcc.modeChange with
  | none => s
  | some lp => clockUpdate (pccMod (fun p => { p with lp := lp, modeChange := none }) s)

def execRegModeDone (s : State) : Out := .next (regModeDone s)

/-- A self-test that a band change, a crystal failure, a brown-out or a write of ABORT ends: ABORTED, and no record (R493). -/
def bistEnd (s : State) : State :=
  if s.hlt.bist.isNone && s.hlt.roll.isNone then s else
  let s := (rollReturn 9 (rollReturn 8 (rollReturn 7 (rollReturn 6 s))))
  let s := { s with hlt := { s.hlt with bist := none, roll := none, closing := none } }
  let s := ((s.setRegF 0x400B0004 7 0 stAborted.toNat).setRegF 0x400B0000 2 2 0).setRegF 0x400B0000 3 3 0
  s.produceSt 0x3600 0x55 stAborted

/-- VMAIN_SAMPLE: the measurement in steps of 10 mV, the band of R370, and ROLE_LOW; `above` says that VMAIN has stayed above 2.60 V for
1 ms (R436). -/
def vmainSample (v : Nat) (above : Bool) (s : State) : State :=
  let low := decide (v < 255) || (s.pcc.lowBand && !(above && decide (260 < v)))
  let change := low != s.pcc.lowBand
  let s := (s.dPut 0x3600 0x40 (10 * v)).setRegN 0x400A0030 (10 * v)
  let s := pccMod (fun p => { p with vmain := v, lowBand := low, band := p.band || change, roleLow := p.roleLow || (s.bigRole && decide (v < 295)) }) s
  let s := if s.bigRole && decide (v < 295) then s.dPut 0x3400 0x0A 1 else if 295 < v then s.dPut 0x3400 0x0A 0 else s
  if change then bistEnd (fire 0xA3 s) else s

def execVmainSample (v : BitVec 12) (above : Bool) (s : State) : Out := .next (vmainSample v.toNat above s)

/-- PLL_LOCK: a PLL that runs is in lock; with SYS_AUTO, CD3 moves to PLL_SYS (R437, R438). -/
def pllLock (p : Fin 4) (s : State) : State :=
  if pllWanted p s && s.pcc.xoRun then
    pccMod (fun c => { c with locked := vset c.locked p true, sysPll := c.sysPll || (p == 0 && c.sysAuto) }) s
  else s

def execPllLock (p : Fin 4) (s : State) : Out := .next (pllLock p s)

/-- PLL_UNLOCK: PLL_SYS loses lock, and CD3 falls back at once (R437). -/
def execPllUnlock (s : State) : Out := .next (pccMod (fun c => { c with locked := vset c.locked 0 false, sysPll := false }) s)

/-- XO_FAIL: the flag, the count and PCC_XO_FAIL; CD3 moves to SYS_RC, every PLL stops, and the synthesiser loses lock (R439, R120). -/
def xoFail (s : State) : State :=
  if s.pcc.xoFail || !s.pcc.xoRun then s else
  let s := (pccMod (fun p => { p with xoFail := true, xoFailCnt := sat32 p.xoFailCnt, xoFailRc := sat32 p.xoFailRc }) s).dBump 0x3400 0x12
  let s := healthEvent 0x10 0 0 false (fire 0xA2 (clockUpdate s))
  bistEnd (settle (synthUnlock s))

def execXoFail (s : State) : Out := .next (xoFail s)

/-- XO_RESTART_ATTEMPT: every 10 ms the crystal is started again; when it runs, XO_FAIL clears and the PLLs relock (R439). -/
def xoRestart (runs : Bool) (s : State) : State :=
  if s.pcc.xoFail && runs then clockUpdate (pccMod (fun p => { p with xoFail := false }) s) else s

def execXoRestartAttempt (runs : Bool) (s : State) : Out := .next (xoRestart runs s)

/-! ### Sleep and wake -/

/-- The state the sleep set gives a domain. -/
def State.sleepState (s : State) (d : Fin 24) : DomState := if d.1 < 2 then .on else domOf (vget s.pcc.sleepSet d).1

/-- The sleep set against R428 and R434; a field that names no state is no set that can be entered. -/
def sleepCheck (s : State) : Status :=
  if (fins 24).any (fun d => decide (2 ≤ d.1) && (vget s.pcc.sleepSet d == 3 ||
      (s.sleepState d == .on && lacksNeed d s.sleepState))) then stNotReady
  else if s.pcc.sleepLp && s.overBudget s.sleepState then stBudget
  else stOk

/-- SLEEP_ARM (R442). -/
def sleepArm (s : State) : State :=
  let st := sleepCheck s
  if st = stOk then pccMod (fun p => { p with armed := true, armedFired := 0 }) s
  else if st = stBudget then budgetRefused s else s

def execSleepArm (s : State) : Out := .next (sleepArm s)

/-- The entry: domains 23 down to 2 take their sleep states, then the regulator its mode, and the clocks that nothing needs stop (R442). -/
def sleepEnter (s : State) : State :=
  let s := pccMod (fun p => { p with armed := false, changes := [] }) s
  let s := foldS (fun d s => if d.1 < 2 then s else domSet d (s.sleepState d) 7 s) (fins 24).reverse s
  clockUpdate (pccMod (fun p => { p with lp := p.sleepLp, modeChange := none, asleep := true }) s)

/-- Core 0 has executed WAIT: the armed entry begins, or a source that fired since the arming prevents it (R442, R443). -/
def waitSleep (s : State) : State :=
  if !s.pcc.armed || s.pcc.asleep then s
  else if s.pcc.armedFired ≠ 0 then pccMod (fun p => { p with skip := true, armedFired := 0 }) s
  else sleepEnter s

/-- The producer of a wake source, where it is one (R398, R441, R445). -/
def wakeProducer (i : Nat) : Option Nat :=
  if i < 16 then some i
  else if i = 18 then some 0x68 else if i = 19 then some 0x69 else if i = 26 then some 0xB0 else if i = 27 then some 0xB3 else none

/-- Sources whose balls VIO supplies read as inactive without it (R522). -/
def wakeVio (s : State) : BitVec 28 := if s.pcc.vio then 0 else 0x1F00000

/-- The resume record in SRAM0 block 0: RESUME_PC, the boot record's SEQ, a reserved word and the CRC-32 over these 12 bytes; the places of
the fields are the model's (R472, log entry 41). -/
def resumePc (s : State) : Option (BitVec 32) :=
  let b := s.rdBytes 0x20000000 16
  match s.newestRing with
  | some (_, q) =>
    if s.isOn dSRAM0 && leNat (b.drop 12) == crc32 (b.take 12) && leNat ((b.drop 4).take 4) == q then some (BitVec.ofNat 32 (leNat (b.take 4))) else none
  | none => none

/-- Core 0 comes up from OFF at a wake: the boot ROM's warm path, or a start under R452 with START_OUTCOME 5 (R444, R472). -/
def warmPath (s : State) : State :=
  match resumePc s with
  | some pc => coreStart 0 0 pc s
  | none =>
    let s := (coreStart 0 0 0 s).dPut 0x3100 3 5
    { s with boot := { s.boot with stage := .rom }, links := { s.links with serving := .none } }

/-- The wake: MAIN when the wake set needs it, the crystal, the domains of the wake set in ascending number where R428 lets the whole set
stand, the records of R446, the sources' producers, then PCC_WAKE (R444 to R446). MAIN is needed for a
domain that LP cannot carry, or for a sum above the budget. -/
def wakeGo (fired : BitVec 28) (lat : Nat) (s : State) : State :=
  let d0 := vget s.ptb.pd 0
  let plan := fun d : Fin 24 => if s.pcc.wakeSet.getLsbD d.1 then DomState.on else vget s.pcc.dom d
  let main := (fins 24).any (fun d => s.pcc.wakeSet.getLsbD d.1 && needsClock d) || s.overBudget plan
  let was0 := vget s.pcc.dom dCORE0
  let s := pccMod (fun p => { p with
    lp := p.lp && !main, asleep := false, woke := true, wakeCause := BitVec.ofNat 8 (((List.range 28).find? (fun i => fired.getLsbD i)).getD 255)
    wakeMask := fired, wakePhase := d0.phase, wakeRev := d0.rev, wakeLat := lat, wakeCount := sat32 p.wakeCount }) s
  let s := foldS (fun d s => if decide (2 ≤ d.1) && s.pcc.wakeSet.getLsbD d.1 && !lacksNeed d plan then domSet d .on 7 s else s) (fins 24) (clockUpdate s)
  let s := if was0 = .off && s.isOn dCORE0 then warmPath s else s
  let s := (List.range 28).foldl (fun s i => match wakeProducer i with
    | some p => if fired.getLsbD i then fire p s else s
    | none => s) s
  fire 0xA0 s

/-- WAKE: enabled sources fire; bits 26 and 27 are always enabled (R441, R443, R444). -/
def wake (fired : BitVec 28) (lat : Nat) (s : State) : State :=
  let f := fired &&& (s.pcc.wakeEn ||| 0x0C000000) &&& ~~~(wakeVio s)
  if f = 0 then s
  else if s.pcc.asleep then wakeGo f lat s
  else if s.pcc.armed then pccMod (fun p => { p with armedFired := p.armedFired ||| f }) s
  else s

def execWake (fired : BitVec 28) (lat : BitVec 16) (s : State) : Out := .next (wake fired lat.toNat s)

/-! ### VIO (R522) -/

/-- VIO_LOSS: the host links stop, and the inputs it supplies read as inactive. -/
def execVioLoss (s : State) : Out := .next (linksStop (pccMod (fun p => { p with vio := false }) s))

/-- VIO_RETURN: the balls resume their function. -/
def execVioReturn (s : State) : Out := .next (pccMod (fun p => { p with vio := true }) s)

end Sys2Proof.Machine
end

