-- ==== Sys2Proof/Machine/KzSwap.lean ====
section
/-! DEFINITION. The map of the KZ cores: retirement and substitution, the swap, the supervisor's restarts, and WAIT as it begins an armed
sleep (R348, R350, R359 to R362, R442, R487, R488). -/

namespace Sys2Proof.Machine

/-- KZC_MAP, with 7 for a logical core that has no physical one, and KZC_SPARE (R359 to R363). -/
def syncKz (s : State) : State :=
  let s := s.setRegN 0x21180000 ((fins 6).foldl (fun a c => a + (match s.physOf c with | some p => p.1 | none => 7) * 2 ^ (4 * c.1)) 0)
  s.setRegN 0x21180004 (b2n (s.physOf 5).isSome + 256 * s.kz.retired.toNat)

/-- The cores' map that the retirements leave at a start: the spare stands in for the lowest retired core but core 4 (R359, R361). -/
def resetMap (retired : BitVec 6) : Vector (Option (Fin 6)) 6 :=
  let gone := (fins 4).filter (fun c => retired.getLsbD c.1)
  Vector.ofFn (fun c =>
    if c.1 = 5 then (if gone.isEmpty && !retired.getLsbD 5 then some 5 else none)
    else if !retired.getLsbD c.1 then some c
    else if gone.head?.map (·.1) == some c.1 && !retired.getLsbD 5 then some 5 else none)

/-- Logical core 5 stops for a substitution, and the job of its CMC page 7 ends with ABORTED (R360, R488). -/
def spareStop (s : State) : State :=
  let s := if (vget s.sec.jobs 7).isSome then pstatEnd 7 stAborted s else s
  match s.physOf 5 with
  | some q => coreStop 5 q { s with kz := { s.kz with run := vset s.kz.run 5 false } }
  | none => s

/-- The spare takes a logical number: its microcode is loaded and it starts, with its memories intact (R360, R488). -/
def substitute (c q : Fin 6) (s : State) : State :=
  let s := spareStop s
  let s := { s with kz := { s.kz with map := vset (vset s.kz.map 5 none) c (some q) } }
  let h := vget s.boot.hdrAt (coreClass c)
  let s := if c = 0 ∨ h = 0 then s else loadMicrocode q h s
  let s := if s.isOn (coreDomain c) then coreStart c 1 (if c = 0 then substitutionEntry else s.bootPc c) s else s
  coreRequestsReset c s

/-- What stops with a logical core that no spare replaces (R308, R485). -/
def coreMissing (c : Fin 6) (s : State) : State :=
  match c.1 with
  | 1 => coreRequestsReset 1 (setFns [8, 14] s)
  | 4 => pkeReinit (s.setFn 10 3)
  | 5 => s
  | _ => s.setFn 0 2
where
  setFns (l : List (Fin 20)) (s : State) : State := foldS (fun n s => s.setFn n 2) l s

/-- A physical core is retired, by a detector of KZC_FAULT_INFO: it stops; core 4 is never substituted; logical cores 0 to 3 take the spare
while it is there (R359 to R361, R488). The second part says that no spare was left for logical core 0, which resets the device (R490). -/
def retireCore (p : Fin 6) (det id : Nat) (inj : Bool) (s : State) : State × Bool :=
  if s.kz.retired.getLsbD p.1 then (s, false) else
  let s := rollReturn 9 s
  let s := { s with kz := { s.kz with retired := s.kz.retired ||| (1#6 <<< p.1) } }
  match (fins 6).find? (fun c => s.physOf c == some p) with
  | none => (syncKz s, false)
  | some c =>
    let s := (coreStop c p s).flag kzcStat 0
    let s := fire 0x60 (s.setRegN kzcFaultInfo (p.1 + c.1 * 16 + det * 256))
    let s := { s with kz := { s.kz with map := vset s.kz.map c none } }
    if c = 4 then (healthEvent id p.1 3 inj (syncKz (coreMissing 4 s)), false)
    else if c = 5 then (healthEvent id p.1 2 inj (syncKz (spareTaken 9 s)), false)
    else match s.physOf 5 with
      | some q =>
        let s := if c = 0 then s.flag 0x40010000 16 else s
        (healthEvent id p.1 2 inj (spareTaken 9 (syncKz (substitute c q s))), false)
      | none =>
        let s := spareMissing 9 4 (healthEvent id p.1 3 inj (syncKz (s.flag kzcStat 5)))
        if c = 0 then (s, true) else (coreMissing c s, false)

/-- KZC_SWAP refused, with its status; ARM clears (R362). -/
def swapRefuse (st : Status) (s : State) : State :=
  ({ s with kz := { s.kz with swapArm := false, swapResult := st } }).flag kzcStat 3

/-- Core 0 writes KZC_SWAP: its fields, and with ARM the checks that need no trigger (R362, R363). -/
def swapArm (v : BitVec 32) (s : State) : State :=
  let c := field v.toNat 2 0
  let s := { s with kz := { s.kz with swapCore := BitVec.ofNat 3 c, swapChan := chan (field v.toNat 13 8), swapArm := bit v.toNat 31 } }
  if !s.kz.swapArm then s
  else if c = 0 ∨ 4 ≤ c then swapRefuse stRange s
  else if (s.physOf 5).isNone then swapRefuse stExhausted s
  else s

def execKzcSwapArm (v : BitVec 32) (s : State) : Out := .next (swapArm v s)

/-- The trigger of an armed swap: the two numbers are exchanged; the incoming core leaves its WAIT with CORE_CAUSE 3 and the outgoing one
stops (R362). -/
def coreSwap (s : State) : State :=
  let c : Fin 6 := Fin.ofNat 6 s.kz.swapCore.toNat
  if !s.kz.swapArm then s
  else match s.physOf c, s.physOf 5 with
    | some p, some q =>
      if (vget s.kz.phys q).halted || !(vget s.kz.phys q).waiting then swapRefuse stLate s
      else
        let s := coreStop 5 p s
        let s := kmod q (fun k => { k with waiting := false }) s
        syncKz (({ s with kz := { s.kz with
          map := vset (vset s.kz.map c (some q)) 5 (some p), cause := vset s.kz.cause c 3, run := vset (vset s.kz.run c true) 5 false
          swapArm := false, swapResult := stOk } }).flag kzcStat 2)
    | _, _ => swapRefuse stExhausted s

/-- A restart by the supervisor: core 0 reloads the microcode, the requests of the core's functions end with FUNCTION_RESET, and both counts
rise (R348, R487). -/
def supervisorRestart (c : Fin 6) (s : State) : State :=
  match s.physOf c with
  | none => s
  | some p =>
    let h := vget s.boot.hdrAt (coreClass c)
    let s := if c = 0 ∨ h = 0 then s else loadMicrocode p h s
    let s := s.flag 0x40010000 (8 + c.1)
    coreRequestsReset c (((coreRestart c s).bump 0x40010040).dBump 0x3600 0x79)

/-- CORE_RESTART (R348). -/
def execCoreRestart (c : Fin 6) (s : State) : Out := .next (supervisorRestart c s)

/-- WAIT; on core 0 it begins an armed entry into sleep (R350, R442). -/
def execWait (c : Fin 6) (s : State) : Out :=
  let t := kzWait c s
  .next (if c = 0 && !s.coreIdle 0 && t.coreIdle 0 then waitSleep t else t)

end Sys2Proof.Machine
end

