-- ==== Sys2Proof/Machine/Mirror.lean ====
section
/-! DEFINITION. The register fields that a dictionary entry shows (the chapters' registers marked RWL with an entry): the entry holds
the value, and a read or a write of the register reads or writes it. -/

namespace Sys2Proof.Machine

/-- One shown field: register and bits, entry, and whether the register counts the entry's thousandths in 2,047ths (R139). -/
structure Mir where
  reg   : Nat
  hi    : Nat
  lo    : Nat
  idx   : Nat
  sub   : Nat
  gamma : Bool := false
  deriving DecidableEq, Repr

/-- The fields of the radio front end and the receiver. -/
def mirRadio : List Mir := [
  { reg := 0x4010005C, hi := 6, lo := 0, idx := 0x2100, sub := 4 },
  { reg := 0x40100068, hi := 27, lo := 24, idx := 0x2100, sub := 0x26 },
  { reg := 0x40100068, hi := 23, lo := 12, idx := 0x2100, sub := 0x23, gamma := true },
  { reg := 0x40100068, hi := 11, lo := 1, idx := 0x2100, sub := 0x25, gamma := true },
  { reg := 0x40100068, hi := 0, lo := 0, idx := 0x2100, sub := 0x21 },
  { reg := 0x40100070, hi := 15, lo := 8, idx := 0x2100, sub := 0x34 },
  { reg := 0x40100070, hi := 7, lo := 4, idx := 0x2100, sub := 0x33 },
  { reg := 0x40100070, hi := 0, lo := 0, idx := 0x2100, sub := 0x30 },
  { reg := 0x40100074, hi := 7, lo := 0, idx := 0x2100, sub := 0x31 },
  { reg := 0x40100074, hi := 15, lo := 8, idx := 0x2100, sub := 0x32 },
  { reg := 0x40110000, hi := 15, lo := 8, idx := 0x2200, sub := 0x22 },
  { reg := 0x40110000, hi := 3, lo := 3, idx := 0x2200, sub := 0x23 },
  { reg := 0x40110000, hi := 2, lo := 2, idx := 0x2200, sub := 0x26 },
  { reg := 0x40110004, hi := 7, lo := 0, idx := 0x2200, sub := 0x20 },
  { reg := 0x40110008, hi := 5, lo := 0, idx := 0x2200, sub := 0x21 },
  { reg := 0x40110094, hi := 8, lo := 0, idx := 0x2200, sub := 0x27 },
  { reg := 0x4012A040, hi := 7, lo := 0, idx := 0x2200, sub := 0x25 },
  { reg := 0x4012A040, hi := 15, lo := 8, idx := 0x2200, sub := 0x24 },
  { reg := 0x4012A040, hi := 23, lo := 16, idx := 0x2200, sub := 0x29 },
  { reg := 0x40130000, hi := 13, lo := 8, idx := 0x2200, sub := 0x28 },
  { reg := 0x40140010, hi := 7, lo := 0, idx := 0x2200, sub := 0x41 },
  { reg := 0x40140014, hi := 7, lo := 0, idx := 0x2200, sub := 0x40 },
  { reg := 0x40140040, hi := 13, lo := 8, idx := 0x2200, sub := 0x42 },
  { reg := 0x40140040, hi := 5, lo := 4, idx := 0x2200, sub := 0x43 },
  { reg := 0x40140040, hi := 2, lo := 2, idx := 0x2200, sub := 0x44 },
  { reg := 0x40140040, hi := 0, lo := 0, idx := 0x2200, sub := 0x47 }]

/-- The fields of the link controller, Causeway and Sluice. -/
def mirLink : List Mir := [
  { reg := 0x40150014, hi := 8, lo := 0, idx := 0x2300, sub := 3 },
  { reg := 0x40150018, hi := 3, lo := 0, idx := 0x2300, sub := 4 },
  { reg := 0x40150018, hi := 11, lo := 8, idx := 0x2300, sub := 5 },
  { reg := 0x40150018, hi := 23, lo := 16, idx := 0x2300, sub := 6 },
  { reg := 0x40150018, hi := 31, lo := 24, idx := 0x2300, sub := 7 },
  { reg := 0x4015001C, hi := 3, lo := 0, idx := 0x2300, sub := 8 },
  { reg := 0x40150030, hi := 7, lo := 0, idx := 0x2300, sub := 0x11 },
  { reg := 0x40150030, hi := 19, lo := 8, idx := 0x2300, sub := 0x12 },
  { reg := 0x40150030, hi := 20, lo := 20, idx := 0x2300, sub := 0x10 },
  { reg := 0x40150030, hi := 21, lo := 21, idx := 0x2300, sub := 0x13 },
  { reg := 0x40150084, hi := 27, lo := 0, idx := 0x2312, sub := 2 },
  { reg := 0x40160000, hi := 3, lo := 3, idx := 0x2400, sub := 7 },
  { reg := 0x40160000, hi := 2, lo := 2, idx := 0x2400, sub := 6 },
  { reg := 0x40160004, hi := 17, lo := 0, idx := 0x2400, sub := 1 },
  { reg := 0x40160038, hi := 17, lo := 0, idx := 0x2500, sub := 1 },
  { reg := 0x4016003C, hi := 17, lo := 0, idx := 0x2500, sub := 2 },
  { reg := 0x40160040, hi := 17, lo := 0, idx := 0x2500, sub := 3 },
  { reg := 0x40170010, hi := 15, lo := 0, idx := 0x2400, sub := 0x0A }]

/-- The fields of queue `i` of Sluice, whose entries are arrays. -/
def mirQueue (i : Nat) : List Mir := [
  { reg := 0x40170100 + 16 * i, hi := 7, lo := 0, idx := 0x2402, sub := i + 1 },
  { reg := 0x40170100 + 16 * i, hi := 8, lo := 8, idx := 0x2405, sub := i + 1 },
  { reg := 0x40170100 + 16 * i, hi := 31, lo := 16, idx := 0x2406, sub := i + 1 },
  { reg := 0x40170104 + 16 * i, hi := 31, lo := 0, idx := 0x2403, sub := i + 1 },
  { reg := 0x40170108 + 16 * i, hi := 31, lo := 0, idx := 0x2404, sub := i + 1 }]

/-- The fields of storage, health, the supervisor and the Peer Link. -/
def mirSystem : List Mir := [
  { reg := 0x40070000, hi := 15, lo := 8, idx := 0x3200, sub := 0x29 },
  { reg := 0x40070000, hi := 3, lo := 3, idx := 0x3200, sub := 0x2A },
  { reg := 0x40070034, hi := 15, lo := 0, idx := 0x3200, sub := 0x26 },
  { reg := 0x40070040, hi := 15, lo := 0, idx := 0x3200, sub := 0x2B },
  { reg := 0x40070044, hi := 15, lo := 0, idx := 0x3200, sub := 0x2C },
  { reg := 0x40070048, hi := 7, lo := 0, idx := 0x3200, sub := 0x28 },
  { reg := 0x400A0060, hi := 15, lo := 0, idx := 0x3600, sub := 0x4A },
  { reg := 0x400A0060, hi := 31, lo := 16, idx := 0x3600, sub := 0x4B },
  { reg := 0x400A0064, hi := 7, lo := 0, idx := 0x3600, sub := 0x4C },
  { reg := 0x400A0078, hi := 15, lo := 0, idx := 0x3600, sub := 0x66 },
  { reg := 0x400B0040, hi := 15, lo := 0, idx := 0x3600, sub := 0x54 },
  { reg := 0x40010010, hi := 15, lo := 0, idx := 0x3600, sub := 0x70 },
  { reg := 0x40010018, hi := 15, lo := 0, idx := 0x3600, sub := 0x71 },
  { reg := 0x40010020, hi := 15, lo := 0, idx := 0x3600, sub := 0x72 },
  { reg := 0x40010028, hi := 15, lo := 0, idx := 0x3600, sub := 0x73 },
  { reg := 0x40010030, hi := 15, lo := 0, idx := 0x3600, sub := 0x74 },
  { reg := 0x40010038, hi := 15, lo := 0, idx := 0x3600, sub := 0x75 },
  { reg := 0x40240000, hi := 1, lo := 1, idx := 0x3700, sub := 1 },
  { reg := 0x40240000, hi := 4, lo := 2, idx := 0x3700, sub := 2 },
  { reg := 0x40240000, hi := 11, lo := 8, idx := 0x3700, sub := 3 },
  { reg := 0x4024000C, hi := 16, lo := 0, idx := 0x3700, sub := 4 },
  { reg := 0x40240030, hi := 2, lo := 0, idx := 0x3700, sub := 0x11 },
  { reg := 0x40240030, hi := 3, lo := 3, idx := 0x3700, sub := 0x10 },
  { reg := 0x40240030, hi := 31, lo := 16, idx := 0x3700, sub := 0x12 },
  { reg := 0x40240038, hi := 0, lo := 0, idx := 0x3700, sub := 0x20 }]

/-- The shown fields of the register at `a`. -/
def mirrorsOf (a : Nat) : List Mir :=
  if 0x40170100 ≤ a ∧ a < 0x40170240 then (mirQueue ((a - 0x40170100) / 16)).filter (fun m => m.reg == a)
  else (if a < 0x40100000 then mirSystem else if a < 0x40150000 then mirRadio else if a < 0x40240000 then mirLink else mirSystem).filter
    (fun m => m.reg == a)

/-- Indices whose entries are all shown by registers: the working schedule (R241), the phase timebase's domains (R83), the queues' settings
(R278), and the controllers of power (R448). -/
def mirroredIndex (idx : Nat) : Bool :=
  [0x2000, 0x2310, 0x2311, 0x2402, 0x2403, 0x2404, 0x2405, 0x2406, 0x3403].contains idx

/-- An entry that a register holds. -/
def mirroredEntry (k : Nat) : Bool :=
  mirroredIndex (k / 256) || (mirRadio ++ mirLink ++ mirSystem).any (fun m => key m.idx m.sub == k) ||
  [key 0x3400 3, key 0x3400 0x10, key 0x3400 0x11, key 0x3404 1].contains k

/-- The field as the register shows it. -/
def Mir.get (m : Mir) (s : State) : Nat :=
  let v := s.dU m.idx m.sub
  if m.gamma then (roundDiv (v * 2047) 1000).toNat else v

/-- The entry given what the register's field is written with. -/
def Mir.put (m : Mir) (v : Nat) (s : State) : State :=
  s.dPut m.idx m.sub (if m.gamma then (roundDiv (v * 1000) 2047).toNat else v)

/-- A register with its shown fields. -/
def State.regView (s : State) (a : Nat) : BitVec 32 :=
  BitVec.ofNat 32 ((mirrorsOf a).foldl (fun v m => putField v m.hi m.lo (m.get s)) (s.regN a))

/-- The shown fields of a register written. -/
def mirrorWrite (a : Nat) (v : Nat) (s : State) : State :=
  (mirrorsOf a).foldl (fun s m => m.put (field v m.hi m.lo) s) s

end Sys2Proof.Machine
end

