-- ==== Sys2Proof/Machine/Reset.lean ====
section
/-! DEFINITION. The resets of the device (R22, R375, R450, R451). -/

namespace Sys2Proof.Machine

/-- The reset causes of R450. -/
def rcPowerOn : ResetCause := 0
def rcResetN : ResetCause := 1
def rcDevice : ResetCause := 2
def rcWatchdog : ResetCause := 3
def rcSupervisor : ResetCause := 4
def rcBorMain : ResetCause := 5
def rcBorLp : ResetCause := 6
def rcActivate : ResetCause := 7

/-- The causes that reset the always-on domain as well (R451, first row). -/
def aonLost (c : ResetCause) : Bool := c == rcPowerOn || c == rcBorMain || c == rcBorLp

/-- Free bytes, and the state after they have been drawn (log entry 1). -/
def State.freshBytes (s : State) (n : Nat) : List Byte := (List.range n).map (fun i => Config.freeValue 8 (s.drawn + i))
def State.drawN (s : State) (n : Nat) : State := { s with drawn := s.drawn + n }

/-- A program or an erase cut short: the word or the sector holds what the spec does not say, and whether a word is still a clean codeword
is open too. -/
def flashCut (op : FlashOp) (s : State) : State :=
  if op.cmd = 2 then (s.wrBytes (sectorOf op.addr) (s.freshBytes 0x2000)).drawN 0x2000
  else
    let s := (s.wrBytes op.addr (s.freshBytes 16)).drawN 16
    if (s.fresh 1) = 1 then mmod (fun m => { m with bad := m.bad.filter (· != op.addr) ++ [op.addr] }) s.draw else s.draw

/-- FLC_INTR for an operation that a reset interrupts (R375). -/
def flashIntr (op : FlashOp) : Nat := 0x80000000 + op.cmd.1 * 2 ^ 28 + flashOffset op.addr / 16 * 16

/-- Entries that the health record, the information block or the always-on domain holds: grades and spares (R484), the flash and SRAM repairs (R366, R374), the rank map (R380), and the OTP raise that a start retries (R462). -/
def healthEntry (k : Nat) : Bool :=
  (decide (key 0x3600 1 ≤ k) && decide (k ≤ key 0x3600 0x29)) || [key 0x3500 0x14, key 0x3200 1, key 0x3200 2, key 0x3200 3, key 0x3200 0x10, key 0x3200 0x11, key 0x3200 0x20].contains k

/-- Registers that show what those records hold: the flash's spares, the grades, and the DRAM map (R374, R380, R483). -/
def healthRegister (a : Nat) : Bool :=
  a == 0x40060040 || a == 0x40060044 || (decide (0x40060100 ≤ a) && decide (a < 0x40060300)) || a == 0x40070004 || (decide (0x400A0080 ≤ a) && decide (a < 0x400A00A8))

/-- The states that DRAM keeps through the reset: its bytes, maps and trainings, its registers (R389, R451). -/
def dramKept (s r : State) : State :=
  { r with
    regs := s.regs.filter (fun p => healthRegister p.1 || (decide (0x40070000 ≤ p.1) && decide (p.1 < 0x40080000)))
    pcc := { r.pcc with dom := vset r.pcc.dom dDRAM .retained, req := vset r.pcc.req dDRAM 1 }
    mem := { r.mem with
      cells := r.mem.cells ++ s.mem.cells.filter (fun c => decide (0x80000000 ≤ c.1)), poison := s.mem.poison
      soft := r.mem.soft ++ s.mem.soft.filter (fun a => decide (0x80000000 ≤ a)), mig := s.mem.mig, migSlot := s.mem.migSlot
      migOld := s.mem.migOld, spareDown := s.mem.spareDown, slot1Down := s.mem.slot1Down, trained := s.mem.trained, caparRun := s.mem.caparRun
      modeRegs := s.mem.modeRegs, rhTable := s.mem.rhTable } }

/-- What every reset but an activation restart leaves: the reset state, and what the backup domain, the flash, OTP and the health record
hold (R22, R451). -/
def resetState (s : State) : State :=
  let r := State.reset
  let low := fun a : Nat => decide (a < 0x20000000)
  { r with
    dict := s.dict.filter (fun p => healthEntry p.1), saved := s.saved, bkp := s.bkp, drawn := s.drawn, pending := s.pending
    regs := s.regs.filter (fun p => healthRegister p.1)
    pcc := { r.pcc with vio := s.pcc.vio }
    sec := { r.sec with otp := s.sec.otp, area := s.sec.area }
    rx := { r.rx with
      laneMap := s.rx.laneMap, laneSpare := s.rx.laneSpare, laneRetired := s.rx.laneRetired, sliceMap := s.rx.sliceMap
      sliceSpare := s.rx.sliceSpare, sliceRetired := s.rx.sliceRetired, engMap := s.rx.engMap, engSpare := s.rx.engSpare
      engRetired := s.rx.engRetired }
    kz := { r.kz with retired := s.kz.retired, map := resetMap s.kz.retired, debugger := s.kz.debugger }
    mem := { r.mem with
      cells := s.mem.cells.filter (fun c => low c.1), bad := s.mem.bad.filter low, soft := s.mem.soft.filter low
      sectorCe := s.mem.sectorCe, remaps := s.mem.remaps, rowSpare := s.mem.rowSpare, repaired := s.mem.repaired
      slotRank := s.mem.slotRank, spareRank := s.mem.spareRank, spareOk := s.mem.spareOk, rankRetired := s.mem.rankRetired }
    hlt := { lifeMax := s.hlt.lifeMax, lifeHot := s.hlt.lifeHot, toRetire := s.hlt.toRetire }
    boot := { scan := s.boot.scan } }

/-- The registers of maps and retirements shown again. -/
def resetShow (s : State) : State := syncKz (syncRx s)

/-- A reset of the first row of R451: FLC_INTR goes with the always-on domain, and so do DRAM's contents; a pulse that runs ends at once (R375). -/
def hardReset (cause : ResetCause) (s : State) : State :=
  let s := match s.mem.flcOp with
    | some op => if op.cmd = 1 ∨ op.cmd = 2 then flashCut op s else s
    | none => s
  (resetShow (resetState s)).dPut 0x1200 5 cause.toNat

/-- A reset of the second row: FLC_INTR, the value of DEVICE_RESET and a DRAM that is ON or RETAINED stay (R375, R389, R451). -/
def softReset (cause : ResetCause) (s : State) : State :=
  let s := match s.mem.flcOp with
    | some op => if op.cmd = 1 ∨ op.cmd = 2 then (flashCut op s).setRegN 0x40060050 (flashIntr op) else s
    | none => s
  let s := if s.isOn dDRAM then domRetain dDRAM s else s
  let intr := s.reg 0x40060050
  let held := s.dU 0x1203 1
  let r := resetState s
  let r := if s.owns dDRAM then { (dramKept s r) with boot := { r.boot with kept := true } } else r
  let r := (r.setReg 0x40060050 intr).setRegF flcStat 9 9 (b2n (bit intr.toNat 31))
  ((resetShow r).dPut 0x1200 5 cause.toNat).dPut 0x1203 1 held

/-- An entry that an activation restart leaves: one that a register holds, one that no class writes and that is no result, the role until
main firmware restores it, and the held value of DEVICE_RESET (R22, R451). -/
def activateKeeps (k : Nat) : Bool :=
  mirroredEntry k || healthEntry k || k == key 0x1200 1 || k == key 0x1203 1 ||
  (match dictRow (k / 256) (k % 256) with
    | some r => r.host != .rw && r.host != .wo && r.fw != .rw && r.fw != .wo && !r.result && k / 256 != 0x3500 && k / 256 != 0x1200
    | none => false)

/-- An activation restart: the always-on domain and the radio path run on; the cores and HOSTIO go OFF, and CORE0 turns ON (R451, R465). -/
def activateReset (s : State) : State :=
  let before : Vector DomState 6 := Vector.ofFn (fun i => vget s.pcc.dom (if i.1 = 5 then dHOSTIO else Fin.ofNat 24 (3 + i.1)))
  let role := s.role
  let s := linksStop (rosterReinit (waveTestReset s))
  let s := [2, 3, 4, 5, 6, 7, dHOSTIO].foldl (fun s (d : Fin 24) => domLose d (pccMod (fun p => { p with dom := vset p.dom d .off }) s)) s
  let s := pccMod (fun p => { p with dom := vset p.dom dCORE0 .on, changes := [], armed := false }) s
  let s := { s with
    dict := s.dict.filter (fun p => activateKeeps p.1), results := [], links := {}
    kz := { s.kz with phys := State.reset.kz.phys, map := resetMap s.kz.retired, run := State.reset.kz.run, boot := .replicate 6 0, swapArm := false }
    boot := { scan := s.boot.scan, before := some (before, role) }
    hlt := { lifeMax := s.hlt.lifeMax, lifeHot := s.hlt.lifeHot, toRetire := s.hlt.toRetire, hold := s.hlt.hold
             warm := s.hlt.warm, crit := s.hlt.crit, volt := s.hlt.volt, hot := s.hlt.hot }
    plk := { s.plk with listen := false } }
  (resetShow s).dPut 0x1200 5 rcActivate.toNat

/-- A reset with its cause (R450, R451). -/
def deviceReset (c : ResetCause) (s : State) : State :=
  if c = rcActivate then activateReset s else if aonLost c then hardReset c s else softReset c s

def execPowerOn (s : State) : Out := .next (deviceReset rcPowerOn { s with boot := { s.boot with scan := false } })

/-- RESET_N held low for at least 10 µs (R450). -/
def execResetNAssert (s : State) : Out := .next (deviceReset rcResetN s)

/-- BOR_MAIN (R436). -/
def execBorMain (s : State) : Out := .next (deviceReset rcBorMain s)

/-- BOR_LP: the core rail is watched in LP (R435). -/
def execBorLp (s : State) : Out := .next (if s.pcc.lp then deviceReset rcBorLp s else s)

end Sys2Proof.Machine
end

