-- ==== Sys2Proof/Machine/Role.lean ====
section
/-! DEFINITION. The role entry: what a write is checked against, and what starting and stopping a role does (R2, R3, R64, R65). -/

namespace Sys2Proof.Machine

/-- The domains that a role needs, in ascending number (R2). -/
def roleDomains (r : Nat) : List (Fin 24) :=
  match r with
  | 0 => [dAON, dBKP, dCORE0]
  | 1 => [dAON, dBKP, dCORE0, dRADIO, dLANE0, dLDC0, dSEC]
  | 2 => [dAON, dBKP, dCORE0, 3, dRADIO, dLANE0, dLDC0, dCWY, dSLU, dSEC]
  | _ => fins 24

/-- The first missing domain of a role (R3). -/
def State.missingDomain (s : State) (r : Nat) : Option (Fin 24) := (roleDomains r).find? (fun d => !s.isOn d)

/-- The role entry takes a value: the source of PD1, the block enables, and the synchronisation with which the role begins (R3, R64, R65,
R236); a wideband sequencer at rest enters RX (R123). -/
def roleTake (r : Nat) (s : State) : State :=
  let before := Vector.ofFn s.fnStatus
  let s := pd1SourceChanged (s.dPut 0x1200 1 r)
  let s := syncBegin (roleEnable (layoutSet s))
  let s := if s.wide && s.isOn dRADIO && s.rf.calPend == 0 && s.rf.moving.isNone && (s.rf.st == 1 || s.rf.st == 2 || s.rf.st == 3) then
      rfMod (fun r => { r with moving := some 4 }) s
    else s
  fnNotices before s

/-- A role from 1 to 5 starts; the root's PD1 starts under R67, and in roles 3 to 5 a restored key change stands again (R538). -/
def roleStart (r : Nat) (s : State) : State :=
  let s := roleTake r (if r = 3 then rootRoleStart s else s)
  if 3 ≤ r then keyRearm s else s

/-- Role 0: every radio function stops at once, and the proxy with it; the sequencer rests in STANDBY (R3, R123). -/
def roleStop (s : State) : State :=
  let s := roleTake 0 (proxiesReset (radioStop s))
  if s.isOn dRADIO then rfMod (fun r => { r with moving := some 2 }) s else s

/-- A write of the role entry (R2, R3). -/
def roleSet (r : Nat) (s : State) : Status × State :=
  if 5 < r then (stRange, s)
  else if r = s.role then (stOk, s)
  else if r = 0 then (stOk, roleStop s)
  else if s.role ≠ 0 then (stBusy, s)
  else match s.missingDomain r with
    | some d => (stNotReady, s.dPut 0x1200 2 d.1)
    | none => (stOk, roleStart r s)

end Sys2Proof.Machine
end

