-- ==== Sys2Proof/Machine/Start.lean ====
section
/-! DEFINITION. The start of the device: the boot ROM, core 4's security entry, and main firmware (R452 to R464, R490, R494), with what a
self-test leaves (R491, R494, R513). -/

namespace Sys2Proof.Machine

/-! ### What a self-test finds (R491, R494) -/

/-- The part of R491 that tests a unit. -/
def unitPart : TestUnit → Fin 9
  | .sramRow _ => 0 | .core _ => 1 | .lane _ => 2 | .engine _ => 2 | .slice _ => 2 | .rank _ => 6 | .other p => p

/-- The number of a unit in BIST_PARTi. -/
def unitNumber : TestUnit → Nat
  | .rank r => r.1 | .sramRow a => macroOf a.toNat | .lane l => l.1 | .engine e => e.1 | .slice l => l.1 | .core c => c.1 | .other _ => 0

/-- The spare class of a unit (R482); core 4 belongs to none (R308). -/
def unitClass : TestUnit → Option Nat
  | .rank _ => some 1 | .sramRow a => some (if rowShared a.toNat then 4 else 5) | .lane _ => some 6 | .engine _ => some 7
  | .slice _ => some 8 | .core c => if c = 4 then none else some 9 | .other _ => none

/-- The functions that a failure no spare can replace leaves failed, by index of 0x1201 (R50, R494). -/
def unitFunctions : TestUnit → List (Fin 20)
  | .lane _ => [2] | .engine _ => [3] | .slice _ => [1] | .rank _ => [13]
  | .core c => if c = 4 then [10] else if c = 1 then [8] else if c = 2 ∨ c = 3 then [0] else []
  | .sramRow _ => []
  | .other p => match p.1 with
    | 2 => [3] | 3 => [5, 6, 7] | 4 => [9, 10] | 5 => [12] | 6 => [13] | 7 => [0, 4] | _ => []

/-- A class spare can replace the unit (R494). -/
def replaceable (u : TestUnit) (s : State) : Bool :=
  match unitClass u with
  | some k => decide (0 < s.sparesLeft k)
  | none => false

/-- The parts whose domains are ON when the test starts (R491). -/
def partTested (p : Fin 9) (s : State) : Bool :=
  match p.1 with
  | 2 => s.isOn dCAPTURE || s.isOn dLANE0 || s.isOn dMODEM || s.isOn dLDC0
  | 4 => s.isOn dSEC
  | 5 => s.isOn dFLASH
  | 6 => s.isOn dDRAM
  | 7 => s.isOn dRADIO
  | _ => true

/-- BIST_PARTi. -/
def partWord (p : Fin 9) (fails : List TestUnit) (ms : List (BitVec 16)) (s : State) : Nat :=
  if !partTested p s then 0
  else
    let f := fails.find? (fun u => unitPart u == p)
    1 + b2n f.isNone * 2 + (match f with | some u => unitNumber u % 256 | none => 0) * 2 ^ 8 + (ms.getD p.1 0).toNat * 2 ^ 16

/-- The results of a test of the whole device: the registers, the BIST entries, and the producer BIST_DONE. The coverage of a run has no rule
in the spec: a free value up to 100 % (log entry 1). -/
def bistResults (fails : List TestUnit) (ms : List (BitVec 16)) (s : State) : State :=
  let cover := (s.fresh 16).toNat % 10001
  let total := ms.foldl (fun a t => a + t.toNat) 0 % 65536
  let words := (fins 9).map (fun p => partWord p fails ms s)
  let s := ((fins 9).foldl (fun s p => s.setRegN (0x400B0010 + 4 * p.1) (words.getD p.1 0)) s).draw
  let s := (s.setRegN 0x400B0004 (cover * 2 ^ 16)).setRegN 0x400B0008 total
  let s := (s.dPut 0x3600 0x57 cover).dPut 0x3600 0x58 total
  let s := (s.produceSt 0x3600 0x55 stOk).produce 0x3600 0x56 (words.flatMap (leBytes 4))
  fire 0xB2 s

/-- The failures of a test go to the health record for the next start; one that no spare can replace is no pass (R494). -/
def bistRecord (fails : List TestUnit) (s : State) : State × Bool :=
  ({ s with hlt := { s.hlt with toRetire := s.hlt.toRetire ++ fails.filter (fun u => replaceable u s) } },
    fails.all (fun u => replaceable u s))

/-- Functions that a start-up test leaves failed. -/
def bistFailed (fails : List TestUnit) (s : State) : State :=
  ((fails.filter (fun u => !replaceable u s)).flatMap unitFunctions).foldl (fun s n => s.setFn n 3) s

/-- The units that the last test found failing are retired (R186, R359, R391, R494). A rank has no contents to move at a start. -/
def retireUnit (u : TestUnit) (s : State) : State :=
  match u with
  | .lane l => retireLane l false false false 0 s
  | .engine e => retireEngine 0x0D e false s
  | .slice l => retireSlice l false s
  | .rank r => rankFails r s
  | .sramRow a => if (alGet s.mem.rowSpare (macroOf a.toNat)).getD 0 < 2 then takeRow a.toNat s else s
  | .core c => match s.physOf c with
    | some p => (retireCore p 3 1 false s).1
    | none => s
  | .other _ => s

def retireUnits (s : State) : State :=
  s.hlt.toRetire.foldl (fun s u => retireUnit u s) { s with hlt := { s.hlt with toRetire := [] } }

/-! ### The boot ROM -/

/-- A retained entry as the last save holds it (R22). -/
def State.savedU (s : State) (idx sub : Nat) : Nat := leNat ((alGet s.saved (key idx sub)).getD (dictDefault idx sub))

/-- The address of a place in the flash, by its offset (R367). -/
def flashPlace (off : Nat) : Nat :=
  if off < 0x770000 then 0x10000000 + off
  else if off < 0x780000 then 0x18000000 + (off - 0x770000)
  else 0x18040000 + (off - 0x780000)

/-- The boot ROM acts on FLC_INTR and clears it: it repeats an erase; a program outside a journalled copy is reported when its word is no
clean codeword (R375). -/
def bootIntr (s : State) : State :=
  let v := s.regN 0x40060050
  if !bit v 31 then s else
  let a := flashPlace (field v 22 4 * 16)
  let s := if field v 30 28 = 2 then erased a s
    else if s.wordBad a && (openSector s.bootJournal).isNone then s.dPut 0x3200 5 a
    else s
  flcIntrWrite s

/-- A sector of the staging slot copied over the same sector of the active slot, by the boot ROM's copy service (R368, R462). -/
def copySector (n : Nat) (s : State) : State :=
  let to_ := activeSlot + 0x2000 * n
  (erased to_ s).wrBytes to_ (s.rdBytes (stagingSlot + 0x2000 * n) 0x2000)

/-- A journalled sector copy left open is done again (R375, R462). -/
def bootJournalFinish (s : State) : State :=
  match openSector s.bootJournal with
  | none => s
  | some n => bootPut [(32, 2, n + 1)] (journalAdd 2 n (copySector n s))

/-- The first free 16-byte word of the recovery log takes the failing image's class and status; with the log full nothing is written (log
entry 43). -/
def recoveryLog (c : Nat) (st : Status) (s : State) : State :=
  match (List.range 2048).find? (fun i => (s.rdBytes (0x18008000 + 16 * i) 16).all (· == 0xFF)) with
  | some i => s.wrBytes (0x18008000 + 16 * i) ([st, BitVec.ofNat 8 c] ++ List.replicate 14 0)
  | none => s

/-- The core that runs the boot ROM as logical core 0: the lowest that passes the check; a number that loses its core to it takes the spare
when that passes (R490). -/
def bootCore (cores : BitVec 6) (s : State) : Option State :=
  match (fins 6).find? (fun p => cores.getLsbD p.1 && !s.kz.retired.getLsbD p.1) with
  | none => none
  | some p =>
    let m := s.kz.map
    let m := match (fins 6).find? (fun c => vget m c == some p) with
      | some c =>
        if c = 0 then m
        else
          let m := vset m c none
          if c ≠ 5 && c ≠ 4 && vget m 5 == some 5 && cores.getLsbD 5 then vset (vset m c (some 5)) 5 none else m
      | none => m
    some (coreStart 0 0 0 (syncKz { s with kz := { s.kz with map := vset m 0 (some p), phys := .replicate 6 {} } }))

/-- The start-up self-test is skipped after an orderly shutdown whose test passed, for the causes of R455. -/
def testSkipped (s : State) : Bool :=
  let c := s.dU 0x1200 5
  s.bootN 45 1 == 1 && (c == 0 || c == 1 || c == 2 || c == 7)

/-- The bodies of classes 0 to 2 that run in place are copied into the RAM window (R460). -/
def windowFill (b : Nat) (s : State) : State :=
  let s := domSet 10 .on 7 s
  (windowPlan b s).1.foldl (fun s p =>
    let h := b + imgOffset b p.1 s
    s.wrBytes (0x20300000 + p.2) (s.rdBytes (h + 256) (imgBody h s))) s

/-- The headers and bodies that run, the measurements of classes 0 to 2, and core 0 at the class 0 image's ENTRY, with g1 (R456, R459). -/
def enterSet (b : Nat) (staged : Bool) (s : State) : State :=
  let plan := (windowPlan b s).1
  let s := if staged then windowFill b s else s
  let heads : Vector Nat 4 := Vector.ofFn (fun c => if hasClass b c.1 s then b + imgOffset b c.1 s else 0)
  let bodies : Vector Nat 4 := Vector.ofFn (fun c =>
    match plan.find? (fun p => p.1 == c.1) with
    | some p => if staged then 0x20300000 + p.2 else vget heads c + 256
    | none => vget heads c + 256)
  let s := { s with boot := { s.boot with stage := .entered, window := staged, hdrAt := heads, bodyAt := bodies } }
  let s := (fins 3).foldl (fun s c =>
    let h := vget heads (Fin.ofNat 4 c.1)
    if h = 0 then s else secMod (fun x => { x with measures := vset x.measures (Fin.ofNat 4 c.1) (measureOf h s) }) s) s
  let h := vget heads 0
  let load := imgLoad h s
  let (body, s) := if load = inPlace then (vget bodies 0, s) else (load, s.wrBytes load (s.rdBytes (h + 256) (imgBody h s)))
  match s.physOf 0 with
  | some p => kmod p (fun k => (k.setGr 1 (BitVec.ofNat 32 body))) (coreStart 0 0 (BitVec.ofNat 32 (body + imgEntry h s)) s)
  | none => s

/-- The first failing class of 0 to 2, for the recovery log. -/
def failingClass (b : Nat) (s : State) : Nat :=
  ([0, 1, 2].find? (fun c => hasClass b c s && imageVerify c (b + imgOffset b c s) s != stOk)).getD 0

/-- The set is verified and started; the record is rewritten first (R452, R453, R461). -/
def startSet (b : Nat) (staged : Bool) (outcome : Nat) (puts : List (Nat × Nat × Nat)) (s : State) : State :=
  let s := bootPut (puts ++ [(36, 4, (s.bootN 36 4 + 1) % 2 ^ 32), (45, 1, 0)]) s
  enterSet b staged ((s.dPut 0x3100 3 outcome).dPut 0x3100 6 (s.bootN 36 4))

/-- No set can be started: the recovery log, and the recovery subset on the UART and the SPI port, for which HOSTIO turns ON (R42, R453). -/
def startRecovery (st : Status) (s : State) : State :=
  let s := domSet dHOSTIO .on 7 ((recoveryLog (failingClass activeSlot s) st s).dPut 0x3100 3 3)
  { s with boot := { s.boot with stage := .recovery }, links := { s.links with serving := .rom } }

def startActive (fallback : Bool) (s : State) : State :=
  let st := setVerify activeSlot [0, 1, 2] s
  if st = stOk then startSet activeSlot false (if fallback then 2 else 0) (if fallback then [(2, 1, 1)] else []) s
  else startRecovery st s

/-- The choice of R461: the staged set while TRIAL has starts left and while COPYING, else the active one. -/
def startChoose (s : State) : State :=
  let st := s.bootState
  let trial := st = 2 ∧ s.bootN 3 1 < max 1 (s.savedU 0x3500 0x13)
  if trial ∨ st = 3 then
    if setVerify stagingSlot [0, 1, 2] s = stOk then
      let out := if s.dU 0x1200 5 = 7 then 4 else 1
      startSet stagingSlot true out (if trial then [(3, 1, s.bootN 3 1 + 1)] else []) s
    else startActive true s
  else startActive (st == 2) s

/-- BOOT_ROM_START: the check of the cores, the repairs, the start-up self-test when R455 calls for it, and the set (R452 to R461, R490).
`cores` are the cores that pass, `fails` and `ms` what the self-test finds. -/
def bootRomStart (cores : BitVec 6) (fails : List TestUnit) (ms : List (BitVec 16)) (s : State) : State :=
  if s.boot.stage ≠ .rom || s.boot.dead || s.boot.scan then s
  else match bootCore cores s with
    | none => { s with boot := { s.boot with dead := true }, kz := { s.kz with phys := .replicate 6 {} } }
    | some s =>
      let s := bootJournalFinish (moveWindow (bootIntr s))
      let skip := testSkipped s
      let s := s.dPut 0x3100 7 (b2n (!skip))
      let s := if skip then s else (bistRecord fails (bistFailed fails (bistResults fails ms s))).1
      startChoose s

def execBootRomStart (cores : BitVec 6) (fails : List TestUnit) (ms : List (BitVec 16)) (s : State) : Out := .next (bootRomStart cores fails ms s)

/-! ### Core 4 (R454) -/

/-- SECURITY_ENTRY: core 4 at its entry copies the class 3 body into its X memory, verifies it and enters it; a failure leaves it halted and
function 11 failed (R308, R454). -/
def securityStart (s : State) : State :=
  match s.physOf 4 with
  | none => s
  | some p =>
    let k := vget s.kz.phys p
    if k.halted || k.pc != securityEntry || !s.isOn (coreDomain 4) then s else
    let h := vget s.boot.hdrAt 3
    if h = 0 || imageVerify 3 h s ≠ stOk then (coreStop 4 p s).setFn 10 3
    else
      let s := s.wrBytes 0x21100000 (s.rdBytes (h + 256) (imgBody h s))
      let s := secMod (fun x => { x with measures := vset x.measures 3 (measureOf h s) }) s
      kmod p (fun k => { (k.setGr 1 0x21100000) with pc := BitVec.ofNat 32 (0x21100000 + imgEntry h s) }) s

def execSecurityEntry (s : State) : Out := .next (securityStart s)

/-! ### Main firmware (R456, R464, R465) -/

/-- The retained entries as the last save holds them; after an activation restart an entry that a register holds keeps its value (R22, R451). -/
def loadSaved (kept : Bool) (s : State) : State :=
  s.saved.foldl (fun s p => if kept && mirroredEntry p.1 then s else s.dSet (p.1 / 256) (p.1 % 256) p.2) s

/-- R464: contents kept through the reset are cleared, and domains 12 to 23 turned OFF and back ON, when the formats differ or after a loss of
power. -/
def keepFormat (trained : BitVec 3) (s : State) : State :=
  let f := imgKeep (vget s.boot.hdrAt 0) s
  let c := s.dU 0x1200 5
  if f = s.bootN 34 2 ∧ c ≠ 0 ∧ c ≠ 5 ∧ c ≠ 6 then s
  else
    let back := (fins 24).filter (fun d => decide (12 ≤ d.1) && s.isOn d)
    let s := foldS (fun d s => if d.1 < 12 then s else domSet d .off 7 s) (fins 24).reverse s
    let s := cellsLost 0x80000000 0x87000000 s
    let s := foldS (fun d s => if s.isOn d then s else domSet d .on trained s) (back.filter (fun d => d != dCWY) ++ back.filter (fun d => d == dCWY)) s
    bootPut [(34, 2, f)] s

/-- ROLLBACK levels of the running set raised in OTP, through core 4; a raise that the supply refuses stays pending (R311, R462). -/
def raiseRollback (got : BitVec 32) (s : State) : State :=
  let (st, s) := (fins 4).foldl (fun (acc : Status × State) c =>
    let h := vget acc.2.boot.hdrAt c
    if h = 0 then acc
    else
      let lvl := imgRollback h acc.2
      if lvl ≤ acc.2.rollbackMin c.1 then acc
      else let (st, s) := rollbackSet c.1 lvl got acc.2
        (if st = stOk then acc.1 else st, s)) (stOk, s)
  s.dPut 0x3500 0x14 (b2n (st != stOk))

/-- The domains of a role turned ON, what a domain needs before it. -/
def roleDomainsOn (r : Nat) (trained : BitVec 3) (s : State) : State :=
  let l := (roleDomains r).filter (fun d => d != dCWY) ++ (roleDomains r).filter (fun d => d == dCWY)
  l.foldl (fun s d => domSet d .on trained s) s

/-- START_ROLE: its domains, then the role; a root of a configured twin pair listens first (R456, R509). -/
def startRole (trained : BitVec 3) (s : State) : State :=
  let r := s.dU 0x3100 5
  if r = 0 then s
  else
    let s := roleDomainsOn r trained s
    if r = 3 ∧ s.dU 0x3700 0x10 = 1 then { s with plk := { s.plk with listen := true } } else (roleSet r s).2

/-- After an activation restart: HOSTIO and then the core domains take their earlier states, and the role entry its value (R465). -/
def startRestored (before : Vector DomState 6) (role : Nat) (s : State) : State :=
  let s := domSet dHOSTIO (vget before 5) 7 s
  let s := (fins 5).foldl (fun s i => domSet (Fin.ofNat 24 (3 + i.1)) (vget before (Fin.ofNat 6 i.1)) 7 s) s
  let r := s.dU 0x3100 5
  s.dPut 0x1200 1 (if r ≠ 0 then r else role)

/-- The lifetime record of the defect sector (R478). -/
def lifeLoad (s : State) : State :=
  ((fins 6).foldl (fun s k => s.dPut 0x3600 (0x36 + k.1) (vget s.hlt.lifeMax k).toNat) s).dPut 0x3600 0x3C s.hlt.lifeHot.toNat

/-- RUN_SET_ID and RUN_VERSION (R473). -/
def startEntries (s : State) : State :=
  let b := if s.boot.window then stagingSlot else activeSlot
  let s := s.dPut 0x3100 1 (s.u16 (b + 6))
  (fins 4).foldl (fun s c => s.dPut 0x3100 (0x10 + c.1) (let h := vget s.boot.hdrAt c; if h = 0 then 0 else imgVersion h s)) s

/-- MAIN_FIRMWARE_START: settings, units to retire, R464, the links, the cores and the role; the dictionary is served and the heartbeat starts
from 0 (R49, R456, R462 to R465, R494). `trained` are the ranks that train, `got` the OTP bits that take. -/
def mainFirmwareStart (trained : BitVec 3) (got : BitVec 32) (s : State) : State :=
  if s.boot.stage ≠ .entered || s.coreIdle 0 then s else
  let before := s.boot.before
  let s := { s with boot := { s.boot with stage := .main, before := none, kept := false }, links := { s.links with serving := .main } }
  let s := retireUnits (lifeLoad (startEntries (loadSaved before.isSome s)))
  let s := keepFormat trained s
  let s := (s.setRegF 0x400A0000 0 0 1).dPut 0x1200 3 0
  let s := match before with
    | some (b, r) => startRestored b r s
    | none => startRole trained (domSet dSEC .on trained (domSet dHOSTIO .on trained s))
  let s := linksConfigure s
  let s := if s.dU 0x3500 0x14 = 1 then raiseRollback got s else s
  let s := (s.dPut 0x3100 4 (s.fresh 16).toNat).draw
  if s.isOn dPLK then s.setRegF 0x40240000 0 0 1 else s

def execMainFirmwareStart (trained : BitVec 3) (got : BitVec 32) (s : State) : Out := .next (mainFirmwareStart trained got s)

end Sys2Proof.Machine
end

