-- ==== Sys2Proof/Machine/Roll.lean ====
section
/-! DEFINITION. The rolling self-test (R493, R495, R496). -/

namespace Sys2Proof.Machine

/-- The conditions under which the self-test runs (R493): MAIN, the high band, CD3 at 200 MHz from PLL_SYS, CD5 at 256 MHz. -/
def testReady (s : State) : Bool :=
  !s.lpAhead && !s.pcc.lowBand && s.pcc.sysPll && s.dU 0x3400 0x10 == 0 && vget s.pcc.locked 1

/-- Every unit of classes 6 to 8 and logical cores 1 to 3 (R495). -/
def rollAll : List TestUnit :=
  (fins 32).map .lane ++ (fins 4).map .engine ++ (fins 32).map .slice ++ [.core 1, .core 2, .core 3]

/-- The stand-in of the unit's class takes its place, and the unit is under test; none when the class has no spare, the number no unit, or
its domain is not ON (R495). -/
def rollBegin (u : TestUnit) (now : Nat) (r : Roll) (s : State) : Option State :=
  let put := fun p (s : State) => { s with hlt := { s.hlt with roll := some { r with cur := some (u, p) } } }
  match u with
  | .lane l => match vget s.rx.laneMap l, s.rx.laneSpare with
    | some p, q :: rest =>
      if !s.isOn (if l = 0 then dLANE0 else dMODEM) then none
      else some (put p.1 (syncRx (rxMod (fun x => { x with laneMap := vset x.laneMap l (some q), laneSpare := rest }) (laneLost l now s))))
    | _, _ => none
  | .engine e => match vget s.rx.engMap e, s.rx.engSpare with
    | some p, q :: rest =>
      if !s.isOn (if e = 0 then dLDC0 else dMODEM) then none
      else some (put p.1 (syncRx (rxMod (fun x => { x with engMap := vset x.engMap e (some q), engSpare := rest }) (engineLost e s))))
    | _, _ => none
  | .slice l => match vget s.rx.sliceMap l, s.rx.sliceSpare with
    | some p, q :: rest =>
      if !s.isOn dCAPTURE then none
      else
        let s := rxMod (fun x => { x with sliceMap := vset x.sliceMap l (some q), sliceSpare := rest }) s
        let s := if s.recordOn then rxMod (fun x => { x with searching := x.searching.filter (fun y => y.slice != l) ++ [{ slice := l, phys := q.1 }] }) s else s
        some (put p.1 (syncRx s))
    | _, _ => none
  | .core c => match s.physOf c, s.physOf 5 with
    | some p, some q =>
      if !s.isOn (coreDomain c) then none
      else
        let s := coreStop c p (spareStop s)
        let s := { s with kz := { s.kz with map := vset (vset s.kz.map c (some q)) 5 (some p) } }
        some (put p.1 (syncKz (coreRequestsReset c (coreStart c 3 (s.bootPc c) s))))
    | _, _ => none
  | _ => none

/-- The next unit that can be tested, with the units behind it; none when none is left. -/
def rollPick (now : Nat) (r : Roll) : List TestUnit → State → Option State
  | [], _ => none
  | u :: rest, s => match rollBegin u now { r with left := rest } s with
    | some t => some t
    | none => rollPick now r rest s

/-- The end of the test: its results; the failures wait for the next start; a test that an arming began and that passes before ACT_SLOT makes
the restart an orderly one (R494, R496). -/
def rollEnd (r : Roll) (s : State) : State :=
  let ms := (List.range 3).map (fun i => if i = 2 then BitVec.ofNat 16 r.ms else 0)
  let (s, good) := bistRecord r.failed (bistResults r.failed ms { s with hlt := { s.hlt with roll := none } })
  let s := s.setRegF 0x400B0000 3 3 0
  let slot := s.bootN 24 5
  if r.armed && good && decide ((slot + 2 ^ 40 - s.absSlot) % 2 ^ 40 < 2 ^ 39) then bootPut [(40, 5, s.absSlot), (45, 1, 1)] s else s

/-- The next unit starts, or the test ends. -/
def rollGo (now : Nat) (r : Roll) (s : State) : State :=
  match rollPick now r r.left s with
  | some t => t
  | none => rollEnd r s

/-- A rolling test asked for: NOT_READY outside R493, BUSY while one runs (R481, R493, R495). -/
def rollStart (armed : Bool) (now : Nat) (s : State) : Status × State :=
  if s.hlt.roll.isSome || s.hlt.bist.isSome then (stBusy, s)
  else if !testReady s then (stNotReady, s)
  else (stOk, rollGo now { left := rollAll, armed := armed } ((s.setRegF 0x400B0000 3 3 1).resPend 0x3600 0x55))

/-- The present instant as the frames in reception show it, in 1/8 chip. -/
def State.rxNow (s : State) : Nat := s.rx.frames.foldl (fun a f => max a f.t0) 0

/-- The milliseconds a unit's test takes (R495). -/
def unitMs : TestUnit → Nat
  | .slice _ => 3 | .core _ => 5 | _ => 2

/-- The spare class of a unit under the rolling test. -/
def rollClass : TestUnit → Nat
  | .lane _ => 6 | .engine _ => 7 | .slice _ => 8 | _ => 9

/-- ROLL_UNIT_DONE: the unit returns to service; after the last one the test ends (R495). -/
def rollUnitDone (fails : Bool) (s : State) : State :=
  match s.hlt.roll with
  | none => s
  | some r => match r.cur with
    | none => s
    | some (u, _) =>
      let s := syncKz (rollReturn (rollClass u) s)
      let r := { r with cur := none, failed := if fails then r.failed ++ [u] else r.failed, tested := r.tested + 1, ms := r.ms + unitMs u }
      if r.left.isEmpty then rollEnd r s else { s with hlt := { s.hlt with roll := some r } }

def execRollUnitDone (fails : Bool) (s : State) : Out := .next (rollUnitDone fails s)

/-- ROLL_GAP_EXPIRY: ROLL_GAP_MS after a unit, the next one is tested (R495). -/
def execRollGapExpiry (now : Nat) (s : State) : Out :=
  .next (match s.hlt.roll with
    | some r => if r.cur.isNone then rollGo now r s else s
    | none => s)

/-- With ROLL_ON_ARM set, an arming starts a rolling test (R496). -/
def rollOnArm (s : State) : State := if s.dU 0x3600 0x53 = 1 then (rollStart true s.rxNow s).2 else s

end Sys2Proof.Machine
end

