-- ==== Sys2Proof/Machine/Update.lean ====
section
/-! DEFINITION. Field update: staging, confirmation, the copy, the activation restart, the hand-over and the mesh-wide activation (R461 to
R470). -/

namespace Sys2Proof.Machine

/-! ### Staging (R463) -/

/-- An activation is armed, in the boot record. -/
def State.actArmed (s : State) : Bool := bit (s.bootN 29 1) 0

/-- STAGE_BEGIN and STAGE_DATA are refused: TRIAL, COPYING, or something armed (R463). -/
def stageBusy (s : State) : Bool := decide (2 ≤ s.bootState) || s.actArmed || s.boot.handOver.isSome

/-- The entries of the staged set follow the boot record. -/
def stagedEntries (s : State) : State := (s.dPut 0x3500 5 (s.bootN 6 2)).dPut 0x3500 6 (s.bootN 16 8)

/-- STATE EMPTY and no staged set. -/
def unstage (s : State) : State := stagedEntries (bootPut [(2, 1, 0), (6, 2, 0), (16, 8, 0)] s)

/-- STAGE_BEGIN: the staging slot is erased (R463). -/
def stageBegin (s : State) : Status × State :=
  if stageBusy s then (stBusy, s)
  else
    let s := (List.range 384).foldl (fun s i => erased (stagingSlot + 0x2000 * i) s) s
    let s := unstage s
    (stOk, { s with boot := { s.boot with staged := 0 } })

/-- A segment of STAGE_DATA at its offset; bytes that do not read erased are not programmed (R463, log entry 20). -/
def stageData (off : Nat) (data : List Byte) (s : State) : Status × State :=
  if stageBusy s then (stBusy, s)
  else if slotSize < off + data.length then (stRange, s)
  else if !(s.rdBytes (stagingSlot + off) data.length).all (· == 0xFF) then (stNotReady, s)
  else
    let s := if s.bootState = 1 then unstage s else s
    let s := s.wrBytes (stagingSlot + off) data
    (stOk, { s with boot := { s.boot with staged := off + data.length } })

/-- The first failing test of R463. -/
def stageTest (s : State) : Status :=
  let b := stagingSlot
  let l := (List.range 4).filter (fun c => hasClass b c s)
  let h := fun c => b + imgOffset b c s
  if !setFormOk b s then stRange
  else if l.any (fun c => !imageSigOk (h c) s) then stSigBad
  else if l.any (fun c => decide (imgRollback (h c) s < s.rollbackMin c) || decide (imgVersion (h c) s < s.bootN (8 + 2 * c) 2)) then stVersionLow
  else stOk

/-- The VERSIONs of the set in a slot, as the boot record holds them. -/
def setVersions (b : Nat) (s : State) : Nat :=
  (List.range 4).foldl (fun a c => a + (if hasClass b c s then imgVersion (b + imgOffset b c s) s else 0) * 2 ^ (16 * c)) 0

/-- STAGE_VERIFY: STAGE_STATUS, and with every test passed STATE STAGED (R463). -/
def stageVerify (s : State) : Status × State :=
  if stageBusy s then (stBusy, s.produceSt 0x3500 4 stBusy)
  else
    let st := stageTest s
    let s := if st = stOk then
        stagedEntries (bootPut [(2, 1, 1), (6, 2, s.u16 (stagingSlot + 6)), (16, 8, setVersions stagingSlot s)] s)
      else if s.bootState = 1 then unstage s else s
    (stOk, s.produceSt 0x3500 4 st)

/-! ### Confirmation and copy (R462) -/

/-- CONFIRM: TRIAL becomes COPYING, and with AUTO_RAISE the set's ROLLBACK levels go to OTP; outside TRIAL there is nothing to confirm. -/
def confirm (got : BitVec 32) (s : State) : Status × State :=
  if s.bootState ≠ 2 then (stOk, s)
  else
    let s := bootPut [(2, 1, 3), (29, 1, s.bootN 29 1 % 4), (32, 2, 0)] s
    (stOk, if s.dU 0x3500 0x12 = 1 then raiseRollback got s else s)

/-- AUTO_CONFIRM: after AUTO_CONFIRM_S seconds of unbroken heartbeat main firmware writes CONFIRM itself; 0 turns it off (R462). -/
def autoConfirm (got : BitVec 32) (s : State) : State :=
  if s.links.serving ≠ .main || s.dU 0x3500 0x11 = 0 then s else (confirm got s).2

def execAutoConfirm (got : BitVec 32) (s : State) : Out := .next (autoConfirm got s)

/-- COPY_SECTOR: in a start in which every core runs from the RAM window or its X memory, the next sector is copied under the journal; after
the last one the set is the active one (R462). -/
def copyNext (s : State) : State :=
  if s.bootState ≠ 3 || !s.boot.window || s.boot.stage ≠ .main then s else
  let n := s.bootN 32 2
  let s := journalAdd 2 n (copySector n (journalAdd 1 n s))
  if n + 1 < 384 then bootPut [(32, 2, n + 1)] s
  else stagedEntries (bootPut [(2, 1, 0), (3, 1, 0), (4, 2, s.bootN 6 2), (6, 2, 0), (8, 8, s.bootN 16 8), (16, 8, 0), (32, 2, 0)] s)

def execCopySector (s : State) : Out := .next (copyNext s)

/-- COPY_REMAINING. -/
def copyRemaining (s : State) : Nat := if s.bootState = 3 then 384 - s.bootN 32 2 else 0

/-! ### The activation restart (R465) -/

/-- Cores 1 to 5 halt and the device restarts onto the staged set, which enters TRIAL with its first start (R461, R465). -/
def activation (s : State) : State :=
  let s := bootPut [(2, 1, 2), (3, 1, 0), (29, 1, 0)] s
  let s := [1, 2, 3, 4, 5].foldl (fun s (c : Fin 6) => coreRunWrite c false s) s
  deviceReset rcActivate s

/-- ACTIVATE_NOW: from STAGED; in the recovery subset also a set whose images verify (R465). -/
def activateNow (s : State) : Status × State :=
  if s.bootState = 1 then (stOk, activation s)
  else if s.links.serving = .rom ∧ setVerify stagingSlot [0, 1, 2, 3] s = stOk then (stOk, activation s)
  else (stNotReady, s)

/-- ACT_SLOT has begun. -/
def slotBegun (slot : Nat) (s : State) : Bool :=
  let d := (slot + 2 ^ 40 - s.absSlot) % 2 ^ 40
  d == 0 || decide (2 ^ 39 ≤ d)

/-- A node that is LOST or DORMANT (R470). -/
def State.nodeLost (s : State) : Bool := (s.role == 1 || s.role == 2) && (s.lnk.sync == .lost || s.lnk.sync == .dormant)

/-- The armed activation has come due. -/
def actDue (s : State) : Bool := s.actArmed && slotBegun (s.bootN 24 5) s

/-- ACTIVATION_RESTART at the armed slot; it does not wait for the roll of R496. -/
def execActivationRestart (s : State) : Out := .next (if actDue s && !s.nodeLost && s.boot.stage == .main then activation s else s)

/-- ACT_DEFER: ACT_FLAGS bit 1 (R470). -/
def execActDefer (s : State) : Out :=
  .next (if actDue s && s.nodeLost && s.boot.stage == .main then bootPut [(29, 1, s.bootN 29 1 / 4 * 4 + 3)] s else s)

/-- A sync point of a node with a deferred activation (R470). -/
def actAtSync (s : State) : State :=
  if s.actArmed && bit (s.bootN 29 1) 1 && !s.nodeLost && s.boot.stage == .main then activation s else s

/-! ### Mesh-wide activation (R468, R469) -/

/-- The staged set carries this number and has passed. -/
def stagedIs (id : Nat) (s : State) : Bool := s.bootState == 1 && s.bootN 6 2 == id && id != 0

/-- The boot record's ACT fields, and the rolling test of R496. -/
def actArm (slot id : Nat) (s : State) : State :=
  rollOnArm (bootPut [(24, 5, slot), (29, 1, 1), (30, 2, id)] s)

def actDisarm (s : State) : State := bootPut [(24, 5, 0), (29, 1, s.bootN 29 1 / 4 * 4), (30, 2, 0)] s

/-- What the beacons of a root announce. -/
def actAnnounce (act : Bool) (slot id : Nat) (s : State) : State :=
  lnkMod (fun l => { l with beacon := { l.beacon with act := act, actSlot := BitVec.ofNat 40 slot, actId := BitVec.ofNat 16 id } }) s

/-- The status of a new ACT_REQUEST: at a root the lead is checked, at a node only the slot, the number and the staged set (R468, R470). -/
def actCheck (slot id : Nat) (s : State) : Status :=
  if slotBegun slot s then stLate
  else if id = 0 then stRange
  else if s.bigRole ∧ (slot + 2 ^ 40 - s.absSlot) % 2 ^ 40 < 4096 * s.dU 0x3500 0x34 then stRange
  else if !stagedIs id s then stNotReady
  else stOk

/-- ACT_REQUEST (R468, R470). -/
def actRequest (s : State) : Status × State :=
  let slot := s.dU 0x3500 0x31 % 2 ^ 40
  let id := s.dU 0x3500 0x30
  let st := actCheck slot id s
  if st ≠ stOk then (st, s.produceSt 0x3500 0x33 st)
  else
    let s := actArm slot id s
    let s := if s.bigRole then actAnnounce true slot id s else s
    (stOk, s.produceSt 0x3500 0x33 stOk)

/-- ACT_CANCEL: ACT_ID 0 with the same ACT_SLOT until that slot has passed (R468). -/
def actCancel (s : State) : Status × State :=
  if !s.actArmed then (stOk, s)
  else
    let slot := s.bootN 24 5
    let s := actDisarm s
    (stOk, if s.bigRole then actAnnounce true slot 0 s else s)

/-- An announcement heard in a beacon or on the Peer Link (R469). -/
def actHeard (slot id : Nat) (s : State) : State :=
  if id = 0 then (if s.actArmed && s.bootN 24 5 == slot then actDisarm s else s)
  else if stagedIs id s then
    if slotBegun slot s || (s.actArmed && s.bootN 24 5 == slot && s.bootN 30 2 == id) then s
    else (actArm slot id s).produceSt 0x3500 0x33 stOk
  else if s.actArmed && s.bootN 30 2 == id then s
  else (s.produceSt 0x3500 0x33 stNotReady).notify 0x3500 0x33 stOk [stNotReady]

/-- ACT_ARMED. -/
def actArmedEntry (s : State) : Nat :=
  s.bootN 24 5 + s.bootN 30 2 * 2 ^ 40 + b2n (bit (s.bootN 29 1) 1) * 2 ^ 62 + b2n s.actArmed * 2 ^ 63

/-- What a node does with an accepted beacon besides its sync point: a restored key change at the first one, the announcement, a deferred
activation (R469, R470, R538). -/
def beaconActs (f : MeshFrame) (s : State) : State :=
  let b := beaconFields f
  let s := if s.role = 1 ∨ s.role = 2 then (let s := keyRearm s; if b.act then actHeard b.actSlot.toNat b.actId.toNat s else s) else s
  actAtSync s

/-- BEACON_ACCEPT (R233, R469). -/
def execBeaconAccept (err : Int) (s : State) : Out :=
  .next (match beaconAccepted err s with
    | some (f, t) => beaconActs f t
    | none => s)

/-- ANCHOR_ACCEPT (R236, R469). -/
def execAnchorAccept (err : Int) (s : State) : Out :=
  .next (match anchorAccepted err s with
    | some (f, t) => beaconActs f t
    | none => s)

/-! ### The hitless hand-over (R466, R467) -/

/-- The header of a class in a slot; none when the set lacks it. -/
def imgAt (b c : Nat) (s : State) : Option Nat := if hasClass b c s then some (b + imgOffset b c s) else none

/-- The same image stands in both slots. -/
def sameImage (c : Nat) (s : State) : Bool :=
  match imgAt activeSlot c s, imgAt stagingSlot c s with
  | some a, some b =>
    imgLength activeSlot c s == imgLength stagingSlot c s && s.rdBytes a (imgLength activeSlot c s) == s.rdBytes b (imgLength stagingSlot c s)
  | none, none => true
  | _, _ => false

/-- The sets differ in the class alone, whose image is HITLESS with the same KEEP_FORMAT (R466). -/
def handOverOk (c : Nat) (s : State) : Bool :=
  (List.range 4).all (fun k => k == c || sameImage k s) && !sameImage c s &&
  (match imgAt activeSlot c s, imgAt stagingSlot c s with
    | some a, some b => imgHitless b s && imgKeep a s == imgKeep b s
    | _, _ => false)

/-- The first slot boundary 10 ms or more ahead (R466). -/
def slotAhead (s : State) : Nat :=
  let d := vget s.ptb.pd 1
  let ahead := s.ptb.rate1 * 320000 / 2 ^ 24
  (d.units + ahead + 2 ^ 20 - 1) / 2 ^ 20 % 2 ^ 40

/-- The core of a class that is handed over: core 1, or core 2 of the two that run class 2. -/
def handOverCore (c : Nat) : Fin 6 := if c = 1 then 1 else 2

/-- HO_REQUEST: the body goes to the RAM window, the spare starts it as logical core 5, and the swap is armed for HO_SLOT (R466). -/
def hoRequest (s : State) : Status × State :=
  let refuse := fun (st : Status) => (st, s.produceSt 0x3500 0x24 st)
  let c := s.dU 0x3500 0x20
  let want := s.dU 0x3500 0x21 % 2 ^ 40
  if s.bootState ≠ 1 || s.actArmed || s.boot.handOver.isSome then refuse stNotReady
  else if !handOverOk c s then refuse stRange
  else if want ≠ 0 ∧ slotBegun want s then refuse stLate
  else if (s.physOf 5).isNone ∧ s.dU 0x3500 0x22 = 0 then refuse stExhausted
  else
    let slot := if want = 0 then slotAhead s else want
    let h := (imgAt stagingSlot c s).getD 0
    let core := handOverCore c
    let s := domSet 10 .on 7 s
    let s := s.wrBytes 0x20300000 (s.rdBytes (h + 256) (imgBody h s))
    let s := match s.physOf 5 with
      | some q =>
        let s := loadMicrocode q h s
        let pc := BitVec.ofNat 32 (0x20300000 + imgEntry h s)
        let s := { s with kz := { s.kz with boot := vset s.kz.boot 5 pc } }
        kmod q (fun k => k.setGr 1 0x20300000) (coreStart 5 0 pc s)
      | none => s
    let s := swapArm (BitVec.ofNat 32 (core.1 + 2 ^ 31)) s
    (stOk, { s with boot := { s.boot with handOver := some { cls := Fin.ofNat 4 c, core := core, slot := slot } } }.resPend 0x3500 0x24)

/-- The new image runs on its core: the set is in TRIAL, and the class's header and body are the new ones (R466). -/
def handOverDone (h : HandOver) (st : Status) (s : State) : State :=
  let hd := (imgAt stagingSlot h.cls.1 s).getD 0
  let s := { s with boot := { s.boot with
    handOver := none, hdrAt := vset s.boot.hdrAt h.cls hd, bodyAt := vset s.boot.bodyAt h.cls 0x20300000 } }
  let s := s.dPut 0x3100 (0x10 + h.cls.1) (imgVersion hd s)
  (bootPut [(2, 1, 2), (3, 1, 0), (29, 1, 4)] s).produceSt 0x3500 0x24 st

/-- CORE_SWAP refused for a hand-over: with HO_FALLBACK the target core restarts with the new image, else the set stays STAGED (R467). -/
def handOverFallback (h : HandOver) (s : State) : State :=
  if s.dU 0x3500 0x22 = 0 then ({ s with boot := { s.boot with handOver := none } }).produceSt 0x3500 0x24 s.kz.swapResult
  else
    let hd := (imgAt stagingSlot h.cls.1 s).getD 0
    let pc := BitVec.ofNat 32 (0x20300000 + imgEntry hd s)
    let s := coreRunWrite h.core false s
    let s := { s with kz := { s.kz with boot := vset s.kz.boot h.core pc } }
    let s := match s.physOf h.core with
      | some p => kmod p (fun k => k.setGr 1 0x20300000) (coreStart h.core 0 pc (loadMicrocode p hd s))
      | none => s
    handOverDone h stLate (coreRequestsReset h.core s)

/-- The trigger of a swap, and what a hand-over makes of it: the swapped-out core returns to the parking image (R362, R466, R467). -/
def swapTrigger (s : State) : State :=
  match s.boot.handOver with
  | none => coreSwap s
  | some h =>
    if !slotBegun h.slot s then s
    else
      let armed := s.kz.swapArm
      let s := coreSwap s
      if armed && s.kz.swapResult == stOk then
        let s := handOverDone h stOk s
        coreLoad 5 0 s
      else handOverFallback h s

def execCoreSwap (s : State) : Out := .next (swapTrigger s)

end Sys2Proof.Machine
end

