-- ==== Sys2Proof/Machine/Peer.lean ====
section
/-! DEFINITION. The Peer Link and the twin pair (R498 to R512). The spec gives the frame of R500 and what the frames carry; the TYPE numbers and
the layout of the payloads are the model's (log entry 44). -/

namespace Sys2Proof.Machine

def plkMod (f : Plk → Plk) (s : State) : State := { s with plk := f s.plk }

/-- PLK_STAT. -/
def plkStat : Nat := 0x40240004

/-- This device's position, and the position of its twin partner. -/
def State.plkPos (s : State) : Fin 8 := Fin.ofNat 8 (s.dU 0x3700 2)
def State.plkPartner (s : State) : Fin 8 := Fin.ofNat 8 (s.dU 0x3700 0x11)
def State.twinOn (s : State) : Bool := s.dU 0x3700 0x10 == 1
def State.member (s : State) (x : Fin 8) : Option Member := vget s.plk.members x

/-- The Peer Link works: its domain is ON and PLK_ENABLE is 1. -/
def State.plkRuns (s : State) : Bool := s.isOn dPLK && s.dU 0x3700 1 == 1

/-- The key of classes 1 to 3, when PLK_KEY_SLOT names a slot that holds one (R500). -/
def State.plkKey (s : State) : Option (List Byte) :=
  let k := s.dU 0x3700 3
  if k < 12 ∨ 14 < k then none
  else let x := vget s.sec.slots (Fin.ofNat 16 k)
    if x.valid then some x.key else none

/-! ### Frames (R499 to R501) -/

/-- Class 0 types. -/
def tHeartbeat : Fin 64 := 0
def tPhase : Fin 64 := 1
def tDelayAsk : Fin 64 := 2
def tDelayAnswer : Fin 64 := 3
def tClaim : Fin 64 := 4
def tGrant : Fin 64 := 5
/-- Types of the tagged classes: PEER frame, key change and activation in class 2; records 0 to 5 by kind, acknowledgement and switch in
classes 1 and 3. -/
def tPeer : Fin 64 := 0
def tKeys : Fin 64 := 1
def tAct : Fin 64 := 2
def tAck : Fin 64 := 6
def tSwitch : Fin 64 := 7

/-- The header (R500). -/
def PlkFrame.header (f : PlkFrame) : List Byte :=
  leBytes 1 (f.cls.1 * 64 + f.type.1) ++ leBytes 1 (b2n f.bcast * 128 + f.src.1 * 16 + f.dst.1) ++ leBytes 2 (f.payload.length % 2048) ++
  leBytes 2 f.seq.toNat

/-- The eight tag bytes of classes 1 to 3. -/
def PlkFrame.tag (f : PlkFrame) (key : List Byte) : List Byte := (cmac key (f.header ++ f.payload)).take 8

/-- Members heard at positions 1 to `d` steps up the ring. -/
def hopsUp (s : State) (d : Nat) : Nat :=
  ((List.range d).filter (fun i => (s.member (Fin.ofNat 8 (s.plkPos.1 + i + 1))).isSome)).length

/-- The ports a frame takes: the direction with fewer hops, port B on a tie, the other one when that port is down; a broadcast takes both
(R499). -/
def plkPorts (bcast : Bool) (dst : Fin 8) (s : State) : BitVec 2 :=
  if bcast then s.plk.up
  else
    let up := hopsUp s ((dst.1 + 8 - s.plkPos.1) % 8)
    let down := hopsUp s 7 + 1 - up
    let want : BitVec 2 := if up ≤ down then 2 else 1
    if s.plk.up &&& want ≠ 0 then want else s.plk.up

/-- A frame of a position whose heartbeat is absent, or with no port up, is dropped and counted (R499). -/
def plkDrop (s : State) : State := (s.bump 0x40240028).dBump 0x3700 0x22

/-- A frame is sent: class 0 untagged; the others only with a key and while no other member claims the position (R499 to R501). -/
def plkSend (cls : Fin 4) (type : Fin 64) (dst : Option (Fin 8)) (payload : List Byte) (s : State) : State :=
  if !s.plkRuns then s
  else if cls ≠ 0 ∧ (s.plkKey.isNone ∨ s.plk.duplicate) then s
  else
    let d := dst.getD 0
    if dst.isSome && (s.member d).isNone then plkDrop s
    else
      let p := plkPorts dst.isNone d s
      if p = 0 then plkDrop s
      else
        let f : PlkFrame := {
          cls := cls, type := type, bcast := dst.isNone, src := s.plkPos, dst := d, seq := vget s.plk.seq cls, payload := payload.take 1024, ports := p }
        plkMod (fun x => { x with out := x.out ++ [f], seq := vmod x.seq cls (· + 1) }) s

/-- The bytes of a PEER frame with its report (R267). -/
def peerBytes (f : MeshFrame) : List Byte := leBytes 5 f.slot ++ leBytes 1 f.m ++ f.hdr.take 14 ++ f.lh.take 8 ++ f.payload

/-- Frames that Causeway has handed over leave (R267, R501). -/
def peerFlush (s : State) : State :=
  let l := s.cwy.peerOut
  l.foldl (fun s p => plkSend 2 tPeer (some (Fin.ofNat 8 p.1)) (peerBytes p.2) s) (cwyMod (fun c => { c with peerOut := [] }) s)

/-! ### What the entries show -/

/-- RING_MEMBERS and PLK_MEMBERS, PORT_STATE and the port bits of PLK_STAT. -/
def syncPlk (s : State) : State :=
  let m := (fins 8).foldl (fun a x => a + b2n (s.member x).isSome * 2 ^ x.1) 0
  let s := (s.setRegN 0x40240008 m).dPut 0x3700 5 m
  let s := (s.setRegF plkStat 1 0 s.plk.up.toNat).dPut 0x3700 6 s.plk.up.toNat
  let s := (s.setRegF plkStat 4 4 (b2n s.plk.duplicate)).setRegF plkStat 5 5 (b2n s.plk.phaseLost)
  s.dPut 0x3700 8 (b2n s.plk.phaseLost)

/-- TWIN_STATE: 0 none, 1 ACTIVE, 2 STANDBY, 3 STANDBY_ALONE, 4 ACTIVE_ALONE (R505, R515). -/
def State.twinState (s : State) : Nat :=
  if !s.twinOn then 0
  else if s.role = 3 then (if s.plk.alone then 4 else 1)
  else if s.role = 4 then (if s.plk.alone then 3 else 2)
  else 0

/-- Unacknowledged bytes of the journal. -/
def State.journalBytes (s : State) : Nat := s.plk.journal.foldl (fun a r => a + r.2.length) 0

/-- TWIN_STATE, MIRROR_STATE, JOURNAL_BYTES and PLK_TWIN_STAT. -/
def syncTwin (s : State) : State :=
  let t := s.twinState
  let m := s.plk.mirror.1
  let j := s.journalBytes
  let s := ((s.dPut 0x3700 0x13 t).dPut 0x3700 0x14 m).dPut 0x3700 0x15 j
  s.setRegN 0x40240034 (t + m * 16 + b2n s.plk.tookOver * 64 + (j / 1024) * 256)

/-! ### The mirror journal (R504) -/

/-- The TYPE of a record's kind. -/
def mirrorType : MirrorKind → Fin 64
  | .roster => 0 | .routes => 1 | .schedule => 2 | .keys => 3 | .gearing => 4 | .sluice => 5

/-- The active half of a configured pair, with its partner named. -/
def State.twinActive (s : State) : Bool := s.twinOn && s.role == 3 && s.plkRuns && s.plkKey.isSome

/-- MIRROR_RECORD: the active device journals a change and sends it as class 1; with the partner lost the record is held (R504). -/
def mirrorRecord (kind : MirrorKind) (data : List Byte) (s : State) : State :=
  if !s.twinActive then s
  else
    let q := vget s.plk.seq 1
    let b := data.take 1024
    let s := plkMod (fun x => { x with journal := x.journal ++ [(q, leBytes 1 (mirrorType kind).1 ++ b)] }) s
    let s := if (s.member s.plkPartner).isSome then
        plkMod (fun x => { x with mirror := if x.mirror = 3 then 3 else 1 }) (plkSend 1 (mirrorType kind) (some s.plkPartner) b s)
      else plkMod (fun x => { x with mirror := if x.mirror = 3 then 3 else 2, seq := vmod x.seq 1 (· + 1) }) s
    syncTwin s

def execMirrorRecord (kind : MirrorKind) (data : List Byte) (s : State) : Out := .next (mirrorRecord kind data s)

/-- JOURNAL_OVERFLOW: STALE, and the journal is of no more use (R504). -/
def journalOverflow (s : State) : State := if s.twinActive then syncTwin (plkMod (fun x => { x with mirror := 3, journal := [] }) s) else s

def execJournalOverflow (s : State) : Out := .next (journalOverflow s)

/-- A queued frame as a record's bytes, and back. -/
def queueBytes (f : QFrame) : List Byte :=
  leBytes 4 f.slot ++ leBytes 4 f.node ++ leBytes 1 (b2n f.ack + 2 * b2n f.retry + 4 * b2n f.fwd) ++ leBytes 1 f.m ++ leBytes 1 f.zsel ++
  leBytes 1 f.rate ++ leBytes 5 f.plan ++ leBytes 6 f.finish ++ leBytes 2 f.sends ++ leBytes 4 f.born ++ leBytes 5 f.bornSlot ++ f.lh.take 8 ++ f.payload

def queueFrame (id : Nat) (b : List Byte) : QFrame :=
  let n := fun i k => leNat ((b.drop i).take k)
  { id := id, slot := n 0 4, node := n 4 4, ack := bit (n 8 1) 0, retry := bit (n 8 1) 1, fwd := bit (n 8 1) 2, m := n 9 1, zsel := n 10 1
    rate := n 11 1, plan := n 12 5, finish := n 17 6, sends := n 23 2, born := n 25 4, bornSlot := n 29 5, lh := (b.drop 34).take 8
    payload := b.drop 42 }

/-- Numbers of `w` bytes each. -/
def numbers (w : Nat) : Nat → List Byte → List Nat
  | 0, _ => []
  | n + 1, b => leNat (b.take w) :: numbers w n (b.drop w)

/-- A roster record: the node number, then its provision, advice and customer groups as they stand in the record; the number alone deletes it.
The live group is the standby's own (R261). -/
def mirrorRoster (b : List Byte) (s : State) : State :=
  let n := leNat (b.take 4)
  if !s.rosterOn ∨ !nodeNumber n then s
  else if b.length ≤ 4 then (if (s.recordOf n).isSome then removeRecord n s else s)
  else
    match (if (s.recordOf n).isSome then some s else addRecord n s) with
    | none => s
    | some s => match s.recordOf n with
      | none => s
      | some k =>
        let r := b.drop 4
        let s := s.dmaWrite (s.recAddr k) (r.take 0x20)
        s.dmaWrite (s.recAddr k + 0x60) ((r.drop 0x60).take 0x60)

/-- Rows of the route table in force. -/
def mirrorRoutes (b : List Byte) (s : State) : State :=
  let s := s.wrBytes (forceBase + leNat (b.take 4) % 0x2EE00) (b.drop 4)
  let n := s.routes.length
  (s.setRegN 0x40160008 n).dPut 0x2400 5 n

/-- A row of the schedule in force, with the epoch. -/
def mirrorSchedule (b : List Byte) (s : State) : State :=
  let i : Fin 64 := Fin.ofNat 64 (leNat ((b.drop 2).take 1))
  let w : SgWord := { time := BitVec.ofNat 64 (leNat ((b.drop 3).take 8)), kind := BitVec.ofNat 32 (leNat ((b.drop 11).take 4)) }
  setEpoch (BitVec.ofNat 16 (leNat (b.take 2))) (lnkMod (fun l => { l with table := vset l.table i w }) s)

/-- NEXT_EPOCH and KEY_CHANGE_AT: the change is armed where the next keys stand (R289). -/
def mirrorKeys (b : List Byte) (s : State) : State :=
  let e := BitVec.ofNat 16 (leNat (b.take 2))
  let c := BitVec.ofNat 28 (leNat ((b.drop 2).take 4))
  let s := (s.dPut 0x3000 4 e.toNat).dPut 0x3000 5 c.toNat
  if epochOk e false s && keysReady s then armChange e c s else s

/-- The gearing offset and state; the state acts with the takeover. -/
def mirrorGearing (b : List Byte) (s : State) : State := ptbMod (fun p => { p with gearOffset := BitVec.ofNat 32 (leNat (b.take 4)) }) s

/-- Sluice: part 0 v, the finish tags and the duty and shaper tokens; part 1 the dwell tokens; part 2 a queue's frame at its place. -/
def mirrorSluice (b : List Byte) (s : State) : State :=
  let r := b.drop 1
  match leNat (b.take 1) with
  | 0 =>
    let last := numbers 6 20 (r.drop 6)
    let duty := numbers 8 6 (r.drop 126)
    let shape := numbers 8 20 (r.drop 174)
    bktMod (fun k => { k with duty := Vector.ofFn (fun i => duty.getD i.1 0), shape := Vector.ofFn (fun i => shape.getD i.1 0) })
      (sluMod (fun x => { x with v := leNat (r.take 6), last := Vector.ofFn (fun i => last.getD i.1 0) }) s)
  | 1 => let d := numbers 7 128 r; bktMod (fun k => { k with dwell := Vector.ofFn (fun i => d.getD i.1 0) }) s
  | _ =>
    let q : Fin 20 := Fin.ofNat 20 (leNat (r.take 1))
    let i := leNat ((r.drop 1).take 1)
    let f := queueFrame s.slu.nextId (r.drop 2)
    sluMod (fun x => { x with queues := vmod x.queues q (fun l => if (r.drop 2).isEmpty then l.take i else l.take i ++ [f]), nextId := x.nextId + 1
                              used := if x.used.contains f.slot then x.used else x.used ++ [f.slot] }) s

/-- A record of the partner, applied by the standby in order and acknowledged (R504). -/
def mirrorApply (type : Fin 64) (seq : BitVec 16) (b : List Byte) (s : State) : State :=
  if !s.twinOn ∨ s.role ≠ 4 then s
  else
    let s := match type.1 with
      | 0 => mirrorRoster b s | 1 => mirrorRoutes b s | 2 => mirrorSchedule b s | 3 => mirrorKeys b s | 4 => mirrorGearing b s | _ => mirrorSluice b s
    plkSend 1 tAck (some s.plkPartner) (leBytes 2 seq.toNat) s

/-- An acknowledgement frees its record; with none left the mirror is in step (R504). -/
def mirrorAcked (seq : BitVec 16) (s : State) : State :=
  let s := plkMod (fun x => { x with journal := x.journal.filter (fun r => r.1 != seq) }) s
  syncTwin (if s.plk.journal.isEmpty && s.plk.mirror == 2 then plkMod (fun x => { x with mirror := 1 }) s else s)

/-- Everything that the standby mirrors, sent as class 3 after an overflow (R504). -/
def mirrorAll (s : State) : State :=
  let p := some s.plkPartner
  let s := s.slotsUsed.foldl (fun s k => plkSend 3 0 p (leBytes 4 (s.recGet k 0 4 % 2 ^ 18) ++ s.rdBytes (s.recAddr k) 192) s) s
  let s := (List.range s.routes.length).foldl (fun s i => plkSend 3 1 p (leBytes 4 (16 * i) ++ s.rdBytes (forceBase + 16 * i) 16) s) s
  let s := foldS (fun i s =>
    let w := vget s.lnk.table i
    plkSend 3 2 p (leBytes 2 s.lnk.epoch.toNat ++ leBytes 1 i.1 ++ leBytes 8 w.time.toNat ++ leBytes 4 w.kind.toNat) s) (fins 64) s
  let s := match s.sec.ep.next, s.sec.ep.at_ with
    | some e, some c => plkSend 3 3 p (leBytes 2 e.toNat ++ leBytes 4 c.toNat) s
    | _, _ => s
  let s := plkSend 3 4 p (leBytes 4 s.ptb.gearOffset.toNat) s
  let s := plkSend 3 5 p (leBytes 1 0 ++ leBytes 6 s.slu.v ++ s.slu.last.toList.flatMap (leBytes 6) ++ s.bkt.duty.toList.flatMap (leBytes 8) ++
    s.bkt.shape.toList.flatMap (leBytes 8)) s
  let s := plkSend 3 5 p (leBytes 1 1 ++ s.bkt.dwell.toList.flatMap (leBytes 7)) s
  foldS (fun q s => ((vget s.slu.queues q).zipIdx).foldl (fun s (f, i) => plkSend 3 5 p (leBytes 1 2 ++ leBytes 1 q.1 ++ leBytes 1 i ++ queueBytes f) s) s) (fins 20) s

/-- The partner is back: records held are sent, a stale mirror is sent whole, and the state is IN_STEP again (R504). -/
def mirrorResume (s : State) : State :=
  if !s.twinActive then s
  else
    let s := if s.plk.mirror = 3 then mirrorAll s
      else s.plk.journal.foldl (fun s r => plkMod (fun x => { x with out := x.out ++ [{
        cls := 1, type := Fin.ofNat 64 (leNat (r.2.take 1)), src := s.plkPos, dst := s.plkPartner, seq := r.1, payload := r.2.drop 1
        ports := plkPorts false s.plkPartner s }] }) s) s
    plkMod (fun x => { x with mirror := if x.mirror = 3 ∨ x.journal.isEmpty then 1 else 2 }) s

/-! ### Heartbeats, phase and delays (R502, R503) -/

/-- A member's heartbeats go out while its own heartbeat runs, and not from the first expiry of core 0's watchdog until its kick (R487, R502). -/
def heartbeatRuns (s : State) : Bool := s.links.serving == .main && s.links.checksOk && !s.hlt.expired.getLsbD 0

/-- PLK_HEARTBEAT_SEND: role, flags and count in both directions; frames that wait leave with it (R502). -/
def plkHeartbeatSend (s : State) : State :=
  let s := if heartbeatRuns s then
      plkSend 0 tHeartbeat none (leBytes 1 s.role ++ leBytes 1 (b2n (s.role == 3) + 2 * b2n s.plk.tookOver) ++ leBytes 4 (s.dU 0x1200 3)) s
    else s
  peerFlush s

def execPlkHeartbeatSend (s : State) : Out := .next (plkHeartbeatSend s)

/-- PHASE_FRAME_SEND: the phase master, the member in role 3, sends PD1 phase and cycle count (R503). -/
def phaseFrameSend (s : State) : State :=
  if s.role ≠ 3 then s
  else let d := vget s.ptb.pd 1
    plkSend 0 tPhase none (leBytes 4 d.phase.toNat ++ leBytes 4 d.rev.toNat) s

def execPhaseFrameSend (s : State) : Out := .next (phaseFrameSend s)

/-- LINK_DELAY_MEASURE: the outcome of a two-way exchange on a port (R503). -/
def linkDelayMeasure (b : Bool) (ns : BitVec 16) (s : State) : State :=
  if s.plkRuns && s.plk.up.getLsbD (b2n b) then s.setRegN (0x40240014 + 4 * b2n b) ns.toNat else s

def execLinkDelayMeasure (b : Bool) (ns : BitVec 16) (s : State) : Out := .next (linkDelayMeasure b ns s)

/-- A phase frame: PD1 in PEER is steered by a step of the error, the link's delay added; beyond 250 ns PHASE_ERR is set, and PHASE_LOST
clears (R75, R503). A tick is 31.25 ns of `rate1` units in 2^-24. -/
def phaseFrame (b : Bool) (phase rev : Nat) (s : State) : State :=
  if s.pd1Source ≠ .peer then s
  else
    let ns := s.regN (0x40240014 + 4 * b2n b)
    let unitsPer := s.ptb.rate1 * 32
    let there : Nat := rev * 2 ^ 32 + phase + ns * unitsPer / (1000 * 2 ^ 24)
    let err := signed 60 (unsigned 60 ((there : Int) - ((vget s.ptb.pd 1).units : Int)))
    let errNs := if unitsPer = 0 then 0 else err * (1000 * 2 ^ 24) / (unitsPer : Int)
    let s := stepBy 1 err s
    let s := (s.setRegN 0x40240010 (unsigned 32 errNs)).dPut 0x3700 7 (unsigned 32 errNs)
    let s := if 250 < errNs.natAbs then s.flag plkStat 6 else s
    syncPlk (plkMod (fun x => { x with phaseLost := false }) s)

/-- PHASE_LOSS: 10 ms without phase frames; PD1 runs on at its last rate (R503). -/
def phaseLoss (s : State) : State :=
  if s.pd1Source ≠ .peer || s.plk.phaseLost then s
  else (syncPlk (plkMod (fun x => { x with phaseLost := true }) s)).notify 0x3700 8 stOk [1]

def execPhaseLoss (s : State) : Out := .next (phaseLoss s)

/-! ### Roles of the twin pair (R505 to R510) -/

/-- The role entry changes between 3 and 4 without passing through 0, with its NOTIFY (R506). -/
def twinRole (r : Nat) (s : State) : State := syncTwin ((roleTake r s).notify 0x1200 1 stOk [BitVec.ofNat 8 r])

/-- The takeover of a standby (R506). -/
def takeover (s : State) : State :=
  let s := plkMod (fun x => { x with tookOver := true, mirror := 0, journal := [] }) s
  let s := (s.dBump 0x3700 0x16).dPut 0x3700 0x17 s.absSlot
  fire 0xC2 ((twinRole 3 s).flag plkStat 8)

/-- BEACON_WAIT_EXPIRY: with the partner's heartbeat lost, no preamble at a BEACON_TX instant of the mirrored schedule (R505). -/
def beaconWaitExpiry (i : Fin 64) (heard : Bool) (s : State) : State :=
  if s.role ≠ 4 || !s.twinOn || (s.member s.plkPartner).isSome || !s.plk.alone || (s.sg i).type ≠ 3 || heard then s else takeover s

def execBeaconWaitExpiry (i : Fin 64) (heard : Bool) (s : State) : Out := .next (beaconWaitExpiry i heard s)

/-- The role is given back: role 4 with its transmitter off (R508, R509). -/
def demote (s : State) : State :=
  let s := ((plkMod (fun x => { x with tookOver := false, switchAt := none }) s).dBump 0x3700 0x1B).flag plkStat 9
  twinRole 4 (lnkReinit s)

/-- DEMOTION_LISTEN: a device that took over listens in cycles of count 15 mod 16 while the partner is lost (R508). -/
def demotionListen (heard : Bool) (s : State) : State :=
  if s.role ≠ 3 || !s.plk.tookOver || (s.member s.plkPartner).isSome || s.cycle % 16 ≠ 15 || !heard then s else demote s

def execDemotionListen (heard : Bool) (s : State) : Out := .next (demotionListen heard s)

/-- Another member in role 3 with a heartbeat. -/
def otherRoot (s : State) : Bool := (fins 8).any (fun x => x != s.plkPos && (match s.member x with | some m => m.role == 3 | none => false))

/-- DUAL_ROOT_RESOLVE: at a slot boundary the root whose TOOK_OVER is clear goes to role 4, and its mirror is STALE (R509). -/
def dualRoot (s : State) : State :=
  if s.role ≠ 3 || !s.twinOn || s.plk.tookOver || !otherRoot s then s
  else syncTwin (plkMod (fun x => { x with mirror := 3 }) (demote s))

def execDualRootResolve (s : State) : Out := .next (dualRoot s)

/-- The partner can take the role over: its heartbeat is present and the mirror is in step (R510). -/
def partnerReady (s : State) : Bool := s.twinOn && s.role == 3 && (s.member s.plkPartner).isSome && s.plk.mirror == 1

/-- A switch armed for a slot, and told to the partner. -/
def switchArm (slot : Nat) (s : State) : State :=
  plkSend 1 tSwitch (some s.plkPartner) (leBytes 5 slot) (plkMod (fun x => { x with switchAt := some slot }) s)

/-- TWIN_SWITCH (R510). -/
def twinSwitch (s : State) : Status × State :=
  let slot := s.dU 0x3700 0x18 % 2 ^ 40
  let st := if !partnerReady s then stNotReady else if slotBegun slot s then stLate else stOk
  let s := s.produceSt 0x3700 0x1A st
  (st, if st = stOk then switchArm slot s else s)

/-- TWIN_SWITCH_EXECUTE: at the slot the active device goes to role 4 and its partner to role 3 (R510). -/
def twinSwitchExecute (s : State) : State :=
  match s.plk.switchAt with
  | none => s
  | some slot =>
    if !slotBegun slot s then s
    else
      let s := plkMod (fun x => { x with switchAt := none }) s
      if s.role = 3 then twinRole 4 (lnkReinit (plkMod (fun x => { x with mirror := 0, journal := [] }) s))
      else if s.role = 4 then twinRole 3 s
      else s

/-- The start of a configured twin whose START_ROLE is 3 ends: as standby when the partner is root or a beacon was heard, else as root (R509). -/
def twinStartAs (r : Nat) (s : State) : State :=
  if !s.plk.listen then s else (roleSet r (plkMod (fun x => { x with listen := false }) s)).2

def execTwinStartListenEnd (heard : Bool) (s : State) : Out := .next (twinStartAs (if heard then 4 else 3) s)

/-! ### Members (R502) -/

/-- A heartbeat of member `x`. -/
def heartbeatTake (x : Fin 8) (b : List Byte) (s : State) : State :=
  let m : Member := {
    role := leNat (b.take 1), master := bit (leNat ((b.drop 1).take 1)) 0, tookOver := bit (leNat ((b.drop 1).take 1)) 1
    count := BitVec.ofNat 32 (leNat ((b.drop 2).take 4)) }
  let back := (s.member x).isNone
  let s := syncPlk (plkMod (fun p => { p with members := vset p.members x (some m) }) s)
  if s.twinOn && x == s.plkPartner then
    let s := plkMod (fun p => { p with alone := false }) s
    let s := if back then mirrorResume s else s
    let s := if m.role = 3 then twinStartAs 4 s else s
    syncTwin s
  else s

/-- PARTNER_LOST: no heartbeat of a member for HB_TIMEOUT_US (R502, R505). -/
def memberLost (x : Fin 8) (s : State) : State :=
  if (s.member x).isNone then s
  else
    let s := syncPlk (plkMod (fun p => { p with members := vset p.members x none }) s)
    let s := fire 0xC1 (s.flag plkStat 7)
    if s.twinOn && x == s.plkPartner then
      syncTwin (plkMod (fun p => { p with alone := true, mirror := if s.role = 3 ∧ p.mirror = 1 then 2 else p.mirror }) s)
    else s

def execPartnerLost (x : Fin 8) (s : State) : Out := .next (memberLost x s)

/-! ### Ports (R498) -/

/-- A port reports loss of signal: its LOS bit, PLK_LOS, and the event of detector 0x14. -/
def portLost (b inj : Bool) (s : State) : State :=
  let k := b2n b
  let s := syncPlk (plkMod (fun p => { p with up := p.up &&& ~~~(1#2 <<< k) }) s)
  healthEvent 0x14 k 0 inj (fire 0xC0 (s.flag plkStat (2 + k)))

def execPlkLossOfSignal (b : Bool) (s : State) : Out := .next (if s.plkRuns && s.plk.up.getLsbD (b2n b) then portLost b false s else s)

/-- A port comes up that an injection has held down: the hold is over, and with the last one the injection (R480). -/
def holdEnd (b : Bool) (s : State) : State :=
  if !s.hlt.hold.getLsbD (b2n b) then s
  else
    let h := s.hlt.hold &&& ~~~(1#2 <<< b2n b)
    let s := { s with hlt := { s.hlt with hold := h } }
    if h = 0 then s.flag 0x400A0004 18 else s

/-- PLK_LINK_UP: 10 µs of clean idle on a port. -/
def portUp (b : Bool) (s : State) : State :=
  if !s.plkRuns then s else syncPlk (plkMod (fun p => { p with up := p.up ||| (1#2 <<< b2n b) }) (holdEnd b s))

def execPlkLinkUp (b : Bool) (s : State) : Out := .next (portUp b s)

/-! ### Arbitration (R512) -/

/-- The claim of a sealed group: its channels with their entries. -/
def ownClaim (s : State) : List (Nat × Nat) :=
  match s.lnk.group with
  | some g => if g.sealed then g.carriers.map (fun c => (c.chan, c.entries.length)) else []
  | none => []

/-- The winner of a channel: the site with the most entries, and the lower position on a tie. -/
def winner (ch : Nat) (l : List (Fin 8 × List (Nat × Nat))) : Option (Fin 8) :=
  (l.foldl (fun (best : Option (Fin 8 × Nat)) c =>
    match alGet c.2 ch with
    | none => best
    | some n => match best with
      | some (p, m) => if m < n ∨ (m = n ∧ c.1 < p) then some (c.1, n) else best
      | none => some (c.1, n)) none).map (·.1)

/-- Carriers that lose are left out before their grant: their tokens go back, and their frames count (R239, R512). -/
def applyGrants (won : List Nat) (s : State) : State :=
  match s.lnk.group with
  | none => s
  | some g =>
    let w := s.sg g.entry
    let lost := g.carriers.filter (fun c => !won.contains c.chan)
    let s := lost.foldl (fun s c =>
      iter (fun s => (s.bump 0x4024003C).dBump 0x3700 0x21) c.entries.length
        (bucketsReturn c.chan (airCharge w.ackM (ackZ c.entries.length) w.ackRate) s)) s
    lnkMod (fun l => { l with group := some { g with carriers := g.carriers.filter (fun c => won.contains c.chan) } }) s

/-- ARB_GRANT, 8 µs after the seal: the manager awards the channels and returns the grants; a site takes the grants that have come, and with
none it sends no acknowledgement carriers in the group (R222, R512). -/
def arbGrant (s : State) : State :=
  if !s.arbitrated then s
  else
    let manager := s.role == 3
    let all := s.plk.claims.filter (fun c => c.1 != s.plkPos) ++ [(s.plkPos, ownClaim s)]
    let wins := fun (p : Fin 8) (l : List (Nat × Nat)) => (l.map (·.1)).filter (fun ch => winner ch all == some p)
    let s := if manager then
        s.plk.claims.foldl (fun s c => if c.1 = s.plkPos then s else plkSend 0 tGrant (some c.1) ((wins c.1 c.2).map (BitVec.ofNat 8)) s) s
      else s
    let won := if manager then wins s.plkPos (ownClaim s) else s.plk.grants.getD []
    let s := applyGrants won (plkMod (fun p => { p with claims := [], grants := none }) s)
    ackArm s

def execArbGrant (s : State) : Out := .next (arbGrant s)

/-- ACK_SEAL: the seal, and with arbitration the claim of this site (R218 to R222, R512). -/
def sealClaim (lbt : List (Nat × Int)) (s : State) : State :=
  let t := ackSeal lbt s
  if t.arbitrated && (match s.lnk.group with | some g => !g.sealed | none => false) then
    plkSend 0 tClaim none ((ownClaim t).flatMap (fun c => [BitVec.ofNat 8 c.1, BitVec.ofNat 8 c.2])) t
  else t

def execAckSeal (lbt : List (Nat × Int)) (s : State) : Out := .next (sealClaim lbt s)

/-- The pairs of a claim. -/
def claimPairs : List Byte → List (Nat × Nat)
  | c :: n :: r => (c.toNat, n.toNat) :: claimPairs r
  | _ => []

/-! ### Reception (R499, R500) -/

/-- A frame parsed: header, payload and tag under the CRC-32. -/
def plkParse (b : List Byte) : Option (PlkFrame × List Byte) :=
  let n := b.length
  if n < 10 then none
  else
    let body := b.take (n - 4)
    let h := fun i => leNat ((b.drop i).take 1)
    let cls : Fin 4 := Fin.ofNat 4 (h 0 / 64)
    let len := leNat ((b.drop 2).take 2)
    let tagLen := if cls = 0 then 0 else 8
    if crc32 body ≠ leNat (b.drop (n - 4)) ∨ 1024 < len ∨ n ≠ 10 + len + tagLen ∨ bit (h 1) 3 then none
    else some ({
      cls := cls, type := Fin.ofNat 64 (h 0), bcast := bit (h 1) 7, src := Fin.ofNat 8 (h 1 / 16 % 8), dst := Fin.ofNat 8 (h 1)
      seq := BitVec.ofNat 16 (leNat ((b.drop 4).take 2)), payload := (b.drop 6).take len, ports := 0 }, (b.drop (6 + len)).take tagLen)

/-- What a delivered frame does. -/
def plkDeliver (b : Bool) (f : PlkFrame) (s : State) : State :=
  let p := f.payload
  match f.cls.1, f.type.1 with
  | 0, 0 => heartbeatTake f.src p s
  | 0, 1 => (match s.member f.src with
    | some m => if m.role = 3 then phaseFrame b (leNat (p.take 4)) (leNat ((p.drop 4).take 4)) s else s
    | none => s)
  | 0, 2 => plkSend 0 tDelayAnswer (some f.src) p s
  | 0, 4 => plkMod (fun x => { x with claims := x.claims.filter (fun c => c.1 != f.src) ++ [(f.src, claimPairs p)] }) s
  | 0, 5 => plkMod (fun x => { x with grants := some (p.map (·.toNat)) }) s
  | 2, 0 => peerFrameReceive ((p.drop 6).take 14) ((p.drop 20).take 8) (p.drop 28) (leNat (p.take 5)) (leNat ((p.drop 5).take 1)) s
  | 2, 1 => mirrorKeys p s
  | 2, 2 => if s.role = 4 ∨ s.role = 5 then actHeard (leNat (p.take 5)) (leNat ((p.drop 5).take 2)) s else s
  | 1, 6 => mirrorAcked (BitVec.ofNat 16 (leNat (p.take 2))) s
  | 1, 7 => if s.twinOn ∧ s.role = 4 ∧ f.src = s.plkPartner then plkMod (fun x => { x with switchAt := some (leNat (p.take 5)) }) s else s
  | 1, t => if f.src = s.plkPartner ∧ t < 6 then mirrorApply f.type f.seq p s else s
  | 3, t => if f.src = s.plkPartner ∧ t < 6 then mirrorApply f.type f.seq p s else s
  | _, _ => s

/-- A frame sent on round the ring, by the other port. -/
def plkForward (b : Bool) (f : PlkFrame) (s : State) : State :=
  let p : BitVec 2 := if b then 1 else 2
  if s.plk.up &&& p = 0 then plkDrop s
  else plkMod (fun x => { x with out := x.out ++ [{ f with ports := p }] }) s

/-- Two members claim one position: this one's heartbeat comes back with another role or a count it has not reached (R499). -/
def otherClaims (f : PlkFrame) (s : State) : Bool :=
  f.cls == 0 && f.type == tHeartbeat &&
  (leNat (f.payload.take 1) != s.role || decide (s.dU 0x1200 3 < leNat ((f.payload.drop 2).take 4)))

/-- PLK_FRAME_RECEIVE on port A or B: CRC and tag, forwarding, delivery (R499, R500). -/
def plkFrameReceive (b : Bool) (bytes : List Byte) (s : State) : State :=
  if !s.plkRuns || !s.plk.up.getLsbD (b2n b) then s
  else match plkParse bytes with
    | none => (s.bump 0x40240020).dBump 0x3700 0x23
    | some (f, tag) =>
      if f.src = s.plkPos then
        (if otherClaims f s then syncPlk (plkMod (fun x => { x with duplicate := true }) s) else s)
      else if !f.bcast && f.dst != s.plkPos then plkForward b f s
      else
        let s := if f.bcast then plkForward b f s else s
        let ok := f.cls == 0 || (match s.plkKey with | some k => f.tag k == tag | none => false)
        if !ok then (s.bump 0x40240024).dBump 0x3700 0x24
        else if f.cls ≠ 0 && s.plk.duplicate then s
        else fire 0xC3 (plkDeliver b f s)

def execPlkFrameReceive (b : Bool) (bytes : List Byte) (s : State) : Out := .next (plkFrameReceive b bytes s)

end Sys2Proof.Machine
end

