-- ==== Sys2Proof/Machine/Server.lean ====
section
/-! DEFINITION. Answers of the dictionary server (R27, R31, R34). -/

namespace Sys2Proof.Machine

/-- The response to a request: a READ_RESP to a READ, a WRITE_RESP to everything else; TID, INDEX, SUB and NODE are the request's (R27). -/
def answer (q : Pdu) (st : Status) (fresh : Bool) (data : List Byte) : Pdu :=
  { op := if q.op = 1 then 3 else 4, fresh := fresh, seg := q.op == 1 && q.seg && !data.isEmpty, tid := q.tid, index := q.index, sub := q.sub
    node := q.node, status := st, data := data }

/-- A request answered with a status alone. -/
def answerSt (r : Req) (st : Status) (s : State) : State := s.respond r.src r.mac (answer r.pdu st false [])

/-- Requests in flight while the dictionary server moves to the spare core are answered FUNCTION_RESET (R34, R488). -/
def serverMoved (s : State) : State :=
  s.links.waiting.foldl (fun s r => answerSt r stFnReset s) { s with links := { s.links with waiting := [], xfers := [] } }

/-- A core is retired. Without a spare left for logical core 0 the device resets (R490). -/
def coreRetired (p : Fin 6) (det id : Nat) (inj : Bool) (s : State) : State :=
  let c := s.physOf 0
  match retireCore p det id inj s with
  | (t, true) => deviceReset rcSupervisor t
  | (t, false) => if c = some p then serverMoved t else t

def execCoreRetire (p : Fin 6) (detector : Fin 16) (s : State) : Out :=
  .next (coreRetired p detector.1 (if detector = 2 then 2 else 1) false s)

end Sys2Proof.Machine
end

