-- ==== Sys2Proof/Machine/Health.lean ====
section
/-! DEFINITION. Health: the monitors and the lifetime record, fault injection, the watchdogs, and the orderly shutdown (R476 to R497), with the
boundary-scan reset (R527). -/

namespace Sys2Proof.Machine

/-! ### Monitors (R476 to R478) -/

/-- HMON_STAT. -/
def hmonStat : Nat := 0x400A0004

/-- A wake source of the always-on domain fires together with its producer (R398, R441). -/
def aonSource (i : Nat) (p : Nat) (s : State) : State :=
  let m := 1#28 <<< i
  if s.pcc.asleep then wake m (s.fresh 16).toNat s.draw else wake m 0 (fire p s)

/-- A threshold is crossed: the HMON_STAT bit, the event, and HMON_ALARM with wake source 26 (R477). -/
def hmonAlarm (b id unit : Nat) (s : State) : State := aonSource 26 0xB0 (healthEvent id unit 0 false (s.flag hmonStat b))

/-- The domain in which a temperature sensor lies (R476). -/
def tempDomain (i : Fin 6) : Fin 24 := #v[dAON, dCORE0, dCAPTURE, dCAPTURE, dRADIO, dDRAM].get i

/-- A side of a threshold with its hysteresis of 5 °C (R477). -/
def tempSide (was : Bool) (limit v : Int) : Bool := decide (limit < v) || (was && decide (limit - 50 ≤ v))

/-- A temperature reading: register and entry, the lifetime record, and the crossings. -/
def tempSample (i : Fin 6) (v : BitVec 16) (s : State) : State :=
  if !s.isOn (tempDomain i) then s
  else
    let s := (s.setRegN (0x400A0010 + 4 * i.1) v.toNat).dPut 0x3600 (0x30 + i.1) v.toNat
    let s := if s.dI 0x3600 (0x36 + i.1) < v.toInt then s.dPut 0x3600 (0x36 + i.1) v.toNat else s
    let s := { s with hlt := { s.hlt with hot := s.hlt.hot || s.hotNow } }
    let w := tempSide (s.hlt.warm.getLsbD i.1) (s.dI 0x3600 0x4A) v.toInt
    let c := tempSide (s.hlt.crit.getLsbD i.1) (s.dI 0x3600 0x4B) v.toInt
    let m := 1#6 <<< i.1
    let s' := if w = s.hlt.warm.getLsbD i.1 then s else hmonAlarm i.1 0x12 i.1 { s with hlt := { s.hlt with warm := s.hlt.warm ^^^ m } }
    if c = s.hlt.crit.getLsbD i.1 then s' else hmonAlarm (6 + i.1) 0x12 i.1 { s' with hlt := { s'.hlt with crit := s'.hlt.crit ^^^ m } }

/-- The nominal voltages of V1 to V4 in mV; the spec gives VBAK a range and no nominal value (log entry 45). -/
def nominalVolt (i : Fin 5) : Nat := match i.1 with
  | 1 => 850 | 2 => 1800 | 3 => 1200 | _ => Config.vbakNominal.toNat

/-- A voltage reading; V0 is VMAIN, which has no band here (R477). -/
def voltSample (i : Fin 5) (v : BitVec 16) (s : State) : State :=
  let s := (s.setRegN (0x400A0030 + 4 * i.1) (v.toNat % 8192)).dPut 0x3600 (0x40 + i.1) v.toNat
  if i = 0 then s
  else
    let n := nominalVolt i
    let out := decide (n * s.dU 0x3600 0x4C < 100 * ((v.toNat : Int) - n).natAbs)
    if out = s.hlt.volt.getLsbD i.1 then s
    else hmonAlarm (12 + i.1) 0x13 i.1 { s with hlt := { s.hlt with volt := s.hlt.volt ^^^ (1#5 <<< i.1) } }

/-- A process reading; a fall of 5 % or more sets PROC_DRIFT (R476). -/
def procSample (i : Fin 4) (v : BitVec 16) (s : State) : State :=
  let s := (s.setRegN (0x400A0050 + 4 * i.1) v.toNat).dPut 0x3600 (0x45 + i.1) v.toNat
  if v.toInt ≤ -50 then s.flag hmonStat 17 else s

/-- MONITOR_SAMPLE: readings 0 to 5 are T0 to T5, 6 to 10 V0 to V4, 11 to 14 P0 to P3; HMON_CTRL.EN lets the monitors measure (R476, R477,
R513). -/
def monitorSample (k : Fin 15) (v : BitVec 16) (s : State) : State :=
  if !s.regB 0x400A0000 1 then s
  else if k.1 < 6 then tempSample (Fin.ofNat 6 k.1) v s
  else if k.1 < 11 then voltSample (Fin.ofNat 5 (k.1 - 6)) v s
  else procSample (Fin.ofNat 4 (k.1 - 11)) v s

def execMonitorSample (k : Fin 15) (v : BitVec 16) (s : State) : Out := .next (monitorSample k v s)

/-- LIFETIME_RECORD_SAVE (R478). -/
def lifetimeSave (s : State) : State :=
  { s with hlt := { s.hlt with
      lifeMax := Vector.ofFn (fun i : Fin 6 => BitVec.ofNat 16 (s.dU 0x3600 (0x36 + i.1))), lifeHot := BitVec.ofNat 32 (s.dU 0x3600 0x3C) } }

def execLifetimeRecordSave (s : State) : Out := .next (lifetimeSave s)

/-! ### Watchdogs and the supervisor (R486 to R489) -/

/-- WATCHDOG_KICK: 0x6A from the core itself; anything else is ignored (R486). -/
def watchdogKick (m : Master) (c : Fin 6) (v : BitVec 32) (s : State) : State :=
  match m with
  | .core d _ => if d = c && field v.toNat 7 0 == 0x6A then { s with hlt := { s.hlt with expired := s.hlt.expired &&& ~~~(1#6 <<< c.1) } } else s
  | _ => s

def execWatchdogKick (m : Master) (c : Fin 6) (v : BitVec 32) (s : State) : Out := .next (watchdogKick m c v s)

/-- A watchdog expires: SUP_STAT, the count, SUP_WDT with wake source 27 and the NMI at the first time, and the supervisor's action at the
second (R487). -/
def watchdogExpire (c : Fin 6) (inj : Bool) (s : State) : State :=
  let s := s.dBump 0x3600 0x78
  let m := 1#6 <<< c.1
  if !s.hlt.expired.getLsbD c.1 then
    let s := { s.flag 0x40010000 c.1 with hlt := { s.hlt with expired := s.hlt.expired ||| m } }
    nmiEntry c (aonSource 27 0xB3 (healthEvent 4 c.1 0 inj s))
  else
    let s := { s with hlt := { s.hlt with expired := s.hlt.expired &&& ~~~m } }
    let s := aonSource 27 0xB3 (healthEvent 4 c.1 (if c = 0 then 5 else 4) inj s)
    if c = 0 then deviceReset rcWatchdog s else supervisorRestart c s

/-- The watchdog of a core counts: its period is not 0, and the core runs or waits in a domain that is ON (R486). -/
def watchdogCounts (c : Fin 6) (s : State) : Bool :=
  s.dU 0x3600 (0x70 + c.1) != 0 && s.isOn (coreDomain c) &&
  (match s.physOf c with | some p => !(vget s.kz.phys p).halted | none => false)

/-- WATCHDOG_EXPIRY. -/
def execWatchdogExpiry (c : Fin 6) (s : State) : Out := .next (if watchdogCounts c s then watchdogExpire c false s else s)

/-- SUPERVISOR_MISMATCH (R489). -/
def execSupervisorMismatch (s : State) : Out := .next (deviceReset rcSupervisor (healthEvent 0x15 0 5 false s))

/-! ### Fault injection (R479 to R481) -/

/-- Instances of a detector (R479). -/
def detUnits (d : Nat) : Nat := ([0, 6, 6, 6, 6, 128, 6, 2, 2, 3, 3, 36, 34, 5, 5, 1, 1, 1, 6, 5, 2, 1] : List Nat).getD d 0

/-- The spare class whose unit an injection with ACT retires. -/
def detClass (d : Nat) : Option Nat :=
  match d with
  | 1 => some 9 | 2 => some 9 | 9 => some 1 | 0x0A => some 1 | 0x0B => some 6 | 0x0C => some 8 | 0x0D => some 7 | _ => none

/-- Detectors and units for which ACT is allowed (R480, R481). -/
def actAllowed (d u : Nat) : Bool :=
  ([1, 2, 4, 9, 0x0A, 0x0B, 0x0C, 0x0D, 0x14, 0x15].contains d) && !(decide (d < 5) && u == 4) && (decide (u < detUnits d) || (d == 0x14 && u == 2))

/-- An injection, a migration or a self-test runs (R481). -/
def injBusy (s : State) : Bool := s.hlt.hold != 0 || s.mem.mig != .idle || s.hlt.roll.isSome || s.hlt.bist.isSome

/-- The refusals of R481, in its order. -/
def injCheck (act : Bool) (d u : Nat) (s : State) : Status :=
  if act then
    if !actAllowed d u then stRange
    else if (match detClass d with | some k => s.sparesLeft k == 0 | none => false) then stExhausted
    else if injBusy s then stBusy else stOk
  else if detUnits d ≤ u then stRange
  else if injBusy s then stBusy else stOk

/-- What a failed unit of a class would cause: 2 with a spare, 3 without. -/
def spareAct (k : Nat) (s : State) : Nat := if s.sparesLeft k = 0 then 3 else 2

/-- REPORT: the status bits, counters, producers and the event of a real detection, and nothing else; a unit's state, a spare, an entry that
blocks a function and a reset stay out (R480). -/
def injReport (d u : Nat) (ue : Bool) (s : State) : State :=
  let ev := fun act s => healthEvent d u act true s
  match d with
  | 1 => coreFault s
  | 2 => coreFault s
  | 3 => ev 1 (fire 0x60 s)
  | 4 => ev 0 (aonSource 27 0xB3 ((s.flag 0x40010000 u).dBump 0x3600 0x78))
  | 5 => ev (if ue then spareAct 4 s else 1) (if ue then s else s.dBump 0x3200 0x12)
  | 6 => ev (if ue then spareAct 5 s else 1) (if ue then s else s.dBump 0x3200 0x12)
  | 7 => if ue then ev 0 (s.flag flcStat 7) else ev 1 (((s.bump 0x40060038).flag flcStat 6).dBump 0x3200 4)
  | 8 => let k := if u = 0 then 2 else 3
    ev (spareAct k s) (s.flag flcStat (if s.sparesLeft k = 0 then 5 else 4))
  | 9 => if ue then ev (spareAct 1 s) (((s.bump 0x4007001C).flag dmcStat 1).dBump 0x3200 0x23)
    else ev 1 (((s.bump 0x40070018).flag dmcStat 0).dBump 0x3200 0x22)
  | 0x0A => ev 1 (((s.bump 0x40070020).flag dmcStat 2).dBump 0x3200 0x24)
  | 0x0B => ev (spareAct 6 s) (s.flag (0x40120010 + 0x400 * u) 0)
  | 0x0C => ev (spareAct 8 s) (s.flag 0x40110020 3)
  | 0x0D => ev (spareAct 7 s) (s.flag 0x40130020 1)
  | 0x0E => ev (spareAct 7 s) (s.flag 0x40130020 0)
  | 0x0F => ev 0 (s.flag rfsStat 3)
  | 0x10 => ev 0 (fire 0xA2 ((pccMod (fun p => { p with xoFailCnt := sat32 p.xoFailCnt, xoFailRc := sat32 p.xoFailRc }) s).dBump 0x3400 0x12))
  | 0x11 => ev 0 (s.flag rfsStat 5)
  | 0x12 => ev 0 (aonSource 26 0xB0 (s.flag hmonStat u))
  | 0x13 => ev 0 (aonSource 26 0xB0 (s.flag hmonStat (12 + u)))
  | 0x14 => ev 0 (fire 0xC0 (s.flag plkStat (2 + u)))
  | _ => ev 5 s
where
  /-- A core's detector: KZC_STAT and KZC_FAULT_INFO as a retirement sets them (R359, R361). -/
  coreFault (s : State) : State :=
    let l := ((fins 6).find? (fun c => (s.physOf c).map (·.1) == some u)).map (·.1)
    let s := fire 0x60 ((s.flag kzcStat 0).setRegN kzcFaultInfo (u + l.getD 7 * 16 + d * 256))
    let none := u == 4 || s.sparesLeft 9 == 0
    let s := if none && u != 4 then s.flag kzcStat 5 else s
    healthEvent d u (if none then 3 else 2) true s

/-- A physical lane, slice or engine fails: under its logical number, or as a waiting spare, which leaves the spares. -/
def failLane (p : Nat) (now : Nat) (s : State) : State :=
  match (fins 32).find? (fun l => (vget s.rx.laneMap l).map (·.1) == some p) with
  | some l => retireLane l false false true now s
  | none =>
    if s.rx.laneSpare.any (fun q => q.1 == p) then
      syncRx (spareTaken 6 (healthEvent 0x0B p 2 true (rxMod (fun r => { r with
        laneSpare := r.laneSpare.filter (fun q => q.1 != p), laneRetired := Fin.ofNat 36 p :: r.laneRetired }) s)))
    else s

def failSlice (p : Nat) (s : State) : State :=
  match (fins 32).find? (fun l => (vget s.rx.sliceMap l).map (·.1) == some p) with
  | some l => retireSlice l true s
  | none =>
    if s.rx.sliceSpare.any (fun q => q.1 == p) then
      syncRx (spareTaken 8 (healthEvent 0x0C p 2 true (rxMod (fun r => { r with
        sliceSpare := r.sliceSpare.filter (fun q => q.1 != p), sliceRetired := Fin.ofNat 34 p :: r.sliceRetired }) s)))
    else s

def failEngine (p : Nat) (s : State) : State :=
  match (fins 4).find? (fun l => (vget s.rx.engMap l).map (·.1) == some p) with
  | some l => retireEngine 0x0D l true s
  | none =>
    if s.rx.engSpare.any (fun q => q.1 == p) then
      syncRx (spareTaken 7 (healthEvent 0x0D p 2 true (rxMod (fun r => { r with
        engSpare := r.engSpare.filter (fun q => q.1 != p), engRetired := Fin.ofNat 5 p :: r.engRetired }) s)))
    else s

def failRank (id : Nat) (r : Fin 3) (s : State) : State :=
  if (s.slotOf r).isSome then retireRank id r true s
  else if r = s.mem.spareRank && s.mem.spareOk then healthEvent id r.1 2 true (rankFails r s)
  else s

/-- A port of the Peer Link held down (R480). -/
def holdPort (b : Bool) (s : State) : State :=
  portLost b true { s with hlt := { s.hlt with hold := s.hlt.hold ||| (1#2 <<< b2n b) } }

/-- ACT: the detector behaves as on a real fault (R480). -/
def injAct (d u now : Nat) (s : State) : State :=
  match d with
  | 1 => coreRetired (Fin.ofNat 6 u) 4 1 true s
  | 2 => coreRetired (Fin.ofNat 6 u) 4 2 true s
  | 4 => watchdogExpire (Fin.ofNat 6 u) true s
  | 9 => failRank 9 (Fin.ofNat 3 u) s
  | 0x0A => failRank 0x0A (Fin.ofNat 3 u) s
  | 0x0B => failLane u now s
  | 0x0C => failSlice u s
  | 0x0D => failEngine u s
  | 0x14 => if u = 0 then holdPort false s else if u = 1 then holdPort true s else holdPort true (holdPort false s)
  | _ => deviceReset rcSupervisor (healthEvent 0x15 0 5 true s)

/-- An injection: its status in INJ_STATUS and HMON_INJ_RESULT, and INJ_DONE once it is over (R480, R481, R513). -/
def inject (act ue : Bool) (d u now : Nat) (s : State) : Status × State :=
  let st := injCheck act d u s
  let s := (s.produceSt 0x3600 0x65 st).setRegN 0x400A0074 st.toNat
  if st ≠ stOk then (st, s)
  else
    let s := if act ∧ d = 0x14 then s else s.flag hmonStat 18
    (st, if act then injAct d u now s else injReport d u ue s)

/-- INJ_REQUEST, with the entries (R480, R514). -/
def injectEntries (now : Nat) (s : State) : Status × State :=
  inject (s.dU 0x3600 0x62 == 1) (s.dU 0x3600 0x63 == 1) (s.dU 0x3600 0x60) (s.dU 0x3600 0x61) now s

/-- A write of HMON_INJ; GO starts the injection of its fields (R513). -/
def injectReg (v : BitVec 32) (now : Nat) (s : State) : State :=
  let s := s.setReg 0x400A0070 (v &&& 0x5FFFF)
  if bit v.toNat 31 then (inject (bit v.toNat 16) (bit v.toNat 18) (field v.toNat 7 0) (field v.toNat 15 8) now s).2 else s

/-! ### Shutdown (R491 to R494) -/

/-- Every retained entry as a save stores it: the values that differ from their defaults (R22, R23). -/
def saveNow (s : State) : State :=
  { s with saved := s.dict.filter (fun p => match dictRow (p.1 / 256) (p.1 % 256) with | some r => r.ret | none => false) }

/-- Steps 1 to 3: the radio functions stop with the role entry unchanged, the retained settings are saved, and the self-test begins. -/
def shutdownGo (a : Fin 3) (s : State) : State :=
  let s := proxiesReset (radioStop s)
  let s := if s.isOn dRADIO then rfMod (fun r => { r with moving := some 2 }) s else s
  let s := saveNow { s with hlt := { s.hlt with bist := some a, closing := none } }
  s.setRegF 0x400B0000 2 2 1

/-- SHUTDOWN: refused while a self-test runs or outside R493; an active twin whose partner qualifies switches first, at the first slot
boundary 10 ms or more ahead (R492, R493, R510). -/
def shutdown (s : State) : Status × State :=
  let a : Fin 3 := Fin.ofNat 3 (s.dU 0x3600 0x51)
  if s.hlt.bist.isSome || s.hlt.roll.isSome || s.hlt.closing.isSome then (stBusy, s.produceSt 0x3600 0x55 stBusy)
  else if !testReady s then (stNotReady, s.produceSt 0x3600 0x55 stNotReady)
  else
    let s := s.resPend 0x3600 0x55
    if partnerReady s then (stOk, { switchArm (slotAhead s) s with hlt := { s.hlt with closing := some a } })
    else (stOk, shutdownGo a s)

/-- BIST_DONE of a shutdown: its results, BIST_SLOT and BIST_VALID in the boot record, the failing units, and SHUTDOWN_ACTION (R492, R494). -/
def bistDone (fails : List TestUnit) (ms : List (BitVec 16)) (s : State) : State :=
  match s.hlt.bist with
  | none => s
  | some a =>
    let s := bistResults fails ms { s with hlt := { s.hlt with bist := none } }
    let (s, good) := bistRecord fails (s.setRegF 0x400B0000 2 2 0)
    let s := bootPut [(40, 5, s.absSlot), (45, 1, b2n good)] s
    if a = 0 then
      let s := foldS (fun d s => if d.1 < 2 then s else domSet d .off 7 s) (fins 24).reverse s
      { s with links := { s.links with serving := .none } }
    else if a = 1 then deviceReset rcDevice s
    else pwrHoldClear s

def execBistDone (fails : List TestUnit) (ms : List (BitVec 16)) (s : State) : Out := .next (bistDone fails ms s)

/-- BIST_ABORT: a write of ABORT (R493, R513). -/
def execBistAbort (s : State) : Out := .next (bistEnd s)

/-- TWIN_SWITCH_EXECUTE; a shutdown that waited for it goes on (R510). -/
def twinHandOver (s : State) : State :=
  let t := twinSwitchExecute s
  match t.hlt.closing with
  | some a => if t.role = 3 then t else shutdownGo a t
  | none => t

def execTwinSwitchExecute (s : State) : Out := .next (twinHandOver s)

/-! ### Boundary scan (R527) -/

/-- BOUNDARY_SCAN_INSTRUCTION: EXTEST, CLAMP, HIGHZ, EXTEST_PULSE or EXTEST_TRAIN holds the device in reset at once, with cause RESET_N and
FLC_INTR lost. -/
def scanHold (s : State) : State :=
  let t := hardReset rcResetN s
  { t with boot := { t.boot with scan := true }, kz := { t.kz with phys := t.kz.phys.map (fun k => { k with halted := true }) } }

def execBoundaryScanInstruction (i : Fin 5) (s : State) : Out := .next (if i.1 < 5 then scanHold s else s)

/-- TEST_LOGIC_RESET: the reset that a boundary-scan instruction held is released. -/
def scanRelease (s : State) : State :=
  if !s.boot.scan then s
  else { s with boot := { s.boot with scan := false }, kz := { s.kz with phys := State.reset.kz.phys } }

def execTestLogicReset (s : State) : Out := .next (scanRelease s)

end Sys2Proof.Machine
end

