-- ==== Sys2Proof/Machine/Live.lean ====
section
/-! DEFINITION. What the dictionary reads: the entries that show a block's present state, and the window on the roster's records (R20, R44, R253,
R475). -/

namespace Sys2Proof.Machine

/-- The system clock in MHz at SYS_DIV 0 (R437). -/
def State.sysMhz (s : State) : Nat := (if s.pcc.sysPll then 200 else 16) / 2 ^ s.dU 0x3400 0x10

/-- The wait states in use (R370). -/
def flashWs (s : State) : Nat :=
  let f := s.sysMhz
  let low := s.pcc.lowBand
  let m := if f ≤ 40 then (if low then 1 else 0) else if f ≤ 80 then (if low then 3 else 1) else if f ≤ 120 then (if low then 4 else 2)
    else if f ≤ 160 then (if low then 6 else 3) else (if low then 7 else 4)
  max (s.regF 0x40060000 2 0) m

/-- A route area up to its last entry that is not empty, at least `n` bytes. -/
def routeBytes (base n : Nat) (s : State) : List Byte :=
  let last := (s.tableAt base).foldl (fun m p => max m (16 * p.1 + 16)) 0
  if s.isOn dCWY then s.rdBytes base (max n last) else []

/-- CORE_STATE: 0 running, 1 waiting, 2 halted, 3 retired. -/
def coreState (c : Fin 6) (s : State) : Nat :=
  match s.physOf c with
  | none => 3
  | some p =>
    let k := vget s.kz.phys p
    if k.halted || !s.isOn (coreDomain c) then 2 else if k.waiting then 1 else 0

def domNum : DomState → Nat
  | .off => 0 | .retained => 1 | .on => 2

/-- STATE of GEAR_CTRL. -/
def gearNum : GearState → Nat
  | .notGeared => 0 | .locked => 1 | .limited => 2 | .flywheel => 3

/-- The identity entries (R310, R316, R321). -/
def liveIdentity (sub : Nat) (s : State) : Option (List Byte) :=
  match sub with
  | 1 => some (s.otpBytes 0 16)
  | 2 => some (s.otpBytes 0x10 1)
  | 4 => some (Config.factoryCert false)
  | 5 => some (Config.factoryCert true)
  | _ => none

/-- The entries of the phase timebase that show it. -/
def liveTimebase (sub : Nat) (s : State) : Option Nat :=
  match sub with
  | 0x06 => some s.ptb.gearOffset.toNat
  | 0x0A => some (gearNum s.ptb.gear)
  | 0x0C => some s.ptb.startedCycle.toNat
  | 0x22 => some (unsigned 32 s.ptb.lfTrim)
  | 0x30 => some s.absSlot
  | 0x31 => some (s.phaseRead 1).toNat
  | 0x32 => some (s.phaseRead 2).toNat
  | 0x33 => some (s.phaseRead 3).toNat
  | 0x34 => some s.rate1
  | _ => none

/-- The entries of power and clocks that show the PCC (R449). -/
def livePower (sub : Nat) (s : State) : Option Nat :=
  match sub with
  | 1 => some (b2n s.pcc.lp)
  | 2 => some (10 * s.pcc.vmain)
  | 4 => some (min 0xFFFF (s.estSum (fun d => vget s.pcc.dom d)))
  | 6 => some s.pcc.wakeCause.toNat
  | 7 => some (s.pcc.wakePhase.toNat + 2 ^ 32 * s.pcc.wakeRev.toNat)
  | 8 => some (min 0xFFFF s.pcc.wakeLat)
  | 9 => some s.pcc.wakeCount
  | 0x13 => some ((fins 4).foldl (fun a p => a + b2n (vget s.pcc.locked p) * 2 ^ p.1) 0)
  | _ => none

/-- The entries of the backup domain that show it (R424). -/
def liveBackup (sub : Nat) (s : State) : Option (List Byte) :=
  match sub with
  | 1 => some (leBytes 4 s.bkp.cal.seconds)
  | 2 => some (leBytes 2 ((s.fresh 15).toNat))
  | 3 => some [s.bkp.flags]
  | 5 => some (leBytes 2 (unsigned 16 (signed 10 s.bkp.calTrim.toNat)))
  | 7 => some [BitVec.ofNat 8 (b2n s.bkp.alarmPwr)]
  | 0x0A => some (s.bkp.data.toList.flatMap (fun w => leBytes 4 w.toNat))
  | 0x10 => some (leBytes 4 s.evf.loopCnt)
  | 0x11 => some (leBytes 4 s.evf.mergedCnt)
  | _ => none

/-- What the OTP shows (R310 to R314). -/
def liveOtp (idx sub : Nat) (s : State) : Option (List Byte) :=
  if idx = 0x3001 then
    (if 1 ≤ sub ∧ sub ≤ 4 then some (s.custHash (sub - 1)) else if sub = 5 then some [BitVec.ofNat 8 s.revokedBits] else none)
  else if idx = 0x3002 then (if 1 ≤ sub ∧ sub ≤ 4 then some [BitVec.ofNat 8 (s.rollbackMin (sub - 1))] else none)
  else if sub = 1 then some [BitVec.ofNat 8 (b2n s.debugLock)] else none

/-- An entry that shows a block's present state. -/
def liveEntry (idx sub : Nat) (s : State) : Option (List Byte) :=
  let num := fun v => some (leBytes (entryWidth idx sub) v)
  match idx with
  | 0x1000 => liveIdentity sub s
  | 0x1201 => if 1 ≤ sub ∧ sub ≤ 20 then some [s.fnStatus (Fin.ofNat 20 (sub - 1))] else none
  | 0x2000 => (liveTimebase sub s).map (leBytes (entryWidth idx sub))
  | 0x2100 => if sub = 1 then num s.rf.st.1 else none
  | 0x2200 => if sub = 2 then (match s.wave.maskNext with | some m => some m | none => some s.wave.mask) else none
  | 0x2300 => if sub = 2 then num s.guard else none
  | 0x2312 => if sub = 1 then num s.lnk.epoch.toNat else none
  | 0x2401 => if sub = 2 then some (routeBytes forceBase 0 s)
      else if sub = 1 ∧ s.isOn dCWY then some (routeBytes shadowBase (s.dGet 0x2401 1).length s) else none
  | 0x2407 => if 1 ≤ sub ∧ sub ≤ 20 then num (min 0xFFFF (vget s.slu.queues (Fin.ofNat 20 (sub - 1))).length) else none
  | 0x2408 => if 1 ≤ sub ∧ sub ≤ 6 then num (vget s.bkt.duty (Fin.ofNat 6 (sub - 1)) / 0x100000)
      else if sub = 7 then some (s.bkt.dwell.toList.flatMap (fun t => leBytes 4 (t / 0x100000))) else none
  | 0x3001 => liveOtp idx sub s
  | 0x3002 => liveOtp idx sub s
  | 0x3003 => liveOtp idx sub s
  | 0x3100 => if sub = 2 then num s.bootState else if 0x18 ≤ sub ∧ sub ≤ 0x1D then num (coreState (Fin.ofNat 6 (sub - 0x18)) s) else none
  | 0x3200 => if sub = 7 then num (flashWs s) else none
  | 0x3300 => liveBackup sub s
  | 0x3400 => (livePower sub s).map (leBytes (entryWidth idx sub))
  | 0x3401 => if 1 ≤ sub ∧ sub ≤ 24 then num (vget s.pcc.req (Fin.ofNat 24 (sub - 1))).1 else none
  | 0x3402 => if 1 ≤ sub ∧ sub ≤ 24 then num (domNum (vget s.pcc.dom (Fin.ofNat 24 (sub - 1)))) else none
  | 0x3500 => if sub = 0x15 then num (copyRemaining s) else if sub = 0x36 then num (actArmedEntry s) else none
  | _ => none

/-- The bytes an entry reads as; subindex 0 reads the highest subindex in use (R19). -/
def State.entryBytes (s : State) (idx sub : Nat) : List Byte :=
  if sub = 0 then [BitVec.ofNat 8 (topSub idx)]
  else match liveEntry idx sub s with
    | some v => v
    | none => s.dGet idx sub

/-- Reading an entry that shows running time below the model's steps uses up a free value (log entry 1). -/
def readDraws (idx sub : Nat) (s : State) : State := if idx = 0x3300 ∧ sub = 2 then s.draw else s

/-! ### The entries of a node that alias others (R475) -/

/-- The object of 0x1020.sub in roles 1 and 2. -/
def aliasOf (idx sub : Nat) (s : State) : Option (Nat × Nat) :=
  if idx = 0x1020 ∧ (s.role = 1 ∨ s.role = 2) ∧ 1 ≤ sub ∧ sub ≤ 11 then
    some (if sub = 5 then (0x3100, 1)
      else (0x3500, ([1, 2, 3, 4, 0, 5, 0x31, 0x30, 0x32, 0x33, 0x10] : List Nat).getD (sub - 1) 0))
  else none

/-! ### The roster window (R44, R253, R254) -/

/-- A field of the record window: its offset and length in the record, and whether firmware and hosts may write it. -/
structure RecField where
  off : Nat
  len : Nat
  wr  : Bool
  dom : Bool := false
  deriving DecidableEq, Repr

/-- Offsets and lengths of a group's fields, in order from .01, and the whole group. -/
def groupFields (idx : Nat) : List (Nat × Nat) × (Nat × Nat) :=
  match idx with
  | 0x5000 => ([(0, 4), (4, 4), (8, 4), (0x0C, 1), (0x0D, 1), (0x0E, 1), (0x0F, 1), (0x10, 8)], (0, 0x20))
  | 0x5001 => ([(0x20, 8), (0x28, 4), (0x2C, 4), (0x30, 2), (0x32, 2), (0x34, 4), (0x38, 2), (0x3A, 1), (0x3B, 1), (0x3C, 1), (0x3D, 1),
      (0x3E, 1), (0x40, 8), (0x48, 4), (0x4C, 4), (0x50, 2), (0x52, 1), (0x53, 1), (0x54, 2), (0x56, 2), (0x58, 8)], (0x20, 0x40))
  | 0x5002 => ([(0x60, 1), (0x61, 1), (0x68, 8)], (0x60, 0x10))
  | 0x5003 => ([(0x70, 2), (0x74, 4), (0x78, 8)], (0x70, 0x10))
  | 0x5004 => ([(0x80, 64)], (0x80, 64))
  | _ => ([], (0, 0))

/-- The field at a window index and subindex. -/
def recField (idx sub : Nat) : Option RecField :=
  let wr := idx == 0x5000 || idx == 0x5002 || idx == 0x5004
  let g := groupFields idx
  if g.1.isEmpty then none
  else if sub = 0x20 then some { off := g.2.1, len := g.2.2, wr := wr, dom := true }
  else match g.1[sub - 1]? with
    | some (o, n) => if sub = 0 then none else some { off := o, len := n, wr := wr, dom := idx == 0x5004 }
    | none => none

/-- The bytes that a write of a field leaves in the record: in IDENT only KIND and SITE take the new value, and reserved bytes keep theirs. -/
def recBytes (f : RecField) (old v : List Byte) : List Byte :=
  v.zipIdx.map (fun (b, i) =>
    let o := old.getD i 0
    match f.off + i with
    | 0 => o | 1 => o
    | 2 => (b &&& 0xF0) ||| (o &&& 0x0F)
    | 3 => (b &&& 0x07) ||| (o &&& 0xF8)
    | n => if (0x18 ≤ n ∧ n < 0x20) ∨ (0x62 ≤ n ∧ n < 0x68) then o else b)

/-- PWR_ADJ is −8 to +7 (R253). -/
def recLegal (f : RecField) (v : List Byte) : Bool :=
  if f.off ≤ 0x61 ∧ 0x61 < f.off + f.len then
    let a := ((v.getD (0x61 - f.off) 0)).toInt
    decide (-8 ≤ a) && decide (a ≤ 7)
  else true

end Sys2Proof.Machine
end

