-- ==== Sys2Proof/Machine/Entries.lean ====
section
/-! DEFINITION. Writes of dictionary entries: the checks of R20, R21, R28 and R35, the action that a written entry triggers (R24), and what takes
effect once the response has left (R40, R48, R50). -/

namespace Sys2Proof.Machine

/-! ### Legal values (R20) -/

/-- Bytes that are a legal encoding of a type (R20). -/
def encodingOk (t : Ty) (v : List Byte) : Bool :=
  let n := leNat v
  match t with
  | .bool => decide (n ≤ 1)
  | .s12 => n / 2048 == 0 || n / 2048 == 31
  | .c24 => (n % 65536 / 2048 == 0 || n % 65536 / 2048 == 31) && (n / 65536 / 2048 == 0 || n / 65536 / 2048 == 31)
  | _ => true

/-- A scalar in its range. -/
def scalarOk (t : Ty) (r : Range) (v : List Byte) : Bool :=
  let x : Int := if t.isSigned then signed (8 * v.length) (leNat v) else leNat v
  match r with
  | .any => true
  | .between lo hi => decide (lo ≤ x) && decide (x ≤ hi)
  | .zeroOr lo hi => decide (x = 0) || (decide (lo ≤ x) && decide (x ≤ hi))
  | .oneOf l => l.any (fun n => x == (n : Int))
  | .len _ _ => true
  | .lens _ _ => true

/-- A STR or DOMAIN of a legal length. -/
def lengthOk (r : Range) (n : Nat) : Bool :=
  match r with
  | .len lo hi => decide (lo ≤ n) && decide (n ≤ hi)
  | .lens a b => n == a || n == b
  | _ => true

/-- Length, encoding and range of a value for a row (R20): BAD_LENGTH for a scalar of another width, else OUT_OF_RANGE. -/
def valueCheck (r : DictRow) (v : List Byte) : Status :=
  if r.ty.segmented then (if lengthOk r.range v.length then stOk else stRange)
  else if v.length ≠ r.ty.width then stBadLength
  else if encodingOk r.ty v && scalarOk r.ty r.range v then stOk else stRange

/-- ALT_CH is 255 or a channel of the plan; TX_MAX_POWER must let an external PA's drive be −10 to +10 dBm; ANT_TUNE is written only
while ANT_AUTO is 0; DRAM_COLD only in roles 0 and 2 (R143, R236, R390, R146). -/
def entryCheck (idx sub : Nat) (v : List Byte) (s : State) : Status :=
  let n := leNat v
  if idx = 0x2300 ∧ sub = 7 then (if n = 255 ∨ usable s.plan n then stOk else stRange)
  else if idx = 0x2200 ∧ sub = 0x40 ∧ s.dU 0x2100 0x30 = 1 then
    (let d := signed 8 n - s.dI 0x2100 0x31
      if -20 ≤ d ∧ d ≤ 20 then stOk else stRange)
  else if idx = 0x2100 ∧ sub = 0x22 then (if s.dU 0x2100 0x21 = 1 then stNotReady else stOk)
  else if idx = 0x3200 ∧ sub = 0x2A then (if s.role = 0 ∨ s.role = 2 then stOk else stBusy)
  else stOk

/-! ### Requests that other chapters describe -/

/-- A save of every retained entry begins (R23); BUSY while one runs. -/
def saveStart (s : State) : Status × State :=
  if s.links.saving then (stBusy, s.produceSt 0x1100 4 stBusy)
  else (stOk, (linksMod (fun l => { l with saving := true }) s).resPend 0x1100 4)

/-- SAVE_DONE (R379). -/
def saveDone (s : State) : State :=
  if !s.links.saving then s else (linksMod (fun l => { l with saving := false }) (saveNow s)).produceSt 0x1100 4 stOk

def execSaveDone (s : State) : Out := .next (saveDone s)

/-- DPD_SAVE: the converged sets go to DPD_COEF, and the save of R23 begins or is reported BUSY (R211). -/
def dpdSave (s : State) : State := (saveStart (dpdCopy s)).2

/-- The re-initialise of functions 1 to 15, by its index of 0x1202 (R50); functions 16 to 20 are `linkReinit`. -/
def fnReinit (n : Nat) (s : State) : State :=
  match n with
  | 1 => rfReinit s
  | 2 => acqReinit s
  | 3 => laneReinit s
  | 4 => waveTestReset (ldcReinit s)
  | 5 => txmReinit s
  | 6 => lnkReinit s
  | 7 => cwyReinit s
  | 8 => sluReinit s
  | 9 => rosterReinit s
  | 10 => urgentReset (cmcReinit s)
  | 11 => pkeReinit s
  | 13 => flashLeave s
  | _ => s

/-- The link of a function 16 to 20. -/
def fnLink (n : Nat) : Option Src :=
  match n with
  | 16 => some .can0 | 17 => some .can1 | 18 => some .t1s | 19 => some .spi | 20 => some .uart | _ => none

/-- A host link re-initialised: its other requests end with FUNCTION_RESET, its open transfers without effect, and the SPI port returns to
single-lane mode (R40, R50). -/
def linkReinit (l : Src) (s : State) : State :=
  let gone := s.links.waiting.filter (fun r => r.src == l)
  let s := linksMod (fun x => { x with waiting := x.waiting.filter (fun r => r.src != l), xfers := x.xfers.filter (fun t => t.src != l) }) s
  let s := gone.foldl (fun s r => answerSt r stFnReset s) s
  linksMod (fun x => { x with
    quad := x.quad && l != .spi
    canBusOff := if l = .can0 then vset x.canBusOff 0 false else if l = .can1 then vset x.canBusOff 1 false else x.canBusOff }) s

/-- What the root tells its workers over the Peer Link: an activation, or the key change (R289, R468, R501). -/
def tellWorkers (t : Fin 64) (s : State) : State :=
  if s.role ≠ 3 then s
  else plkSend 2 t none (if t = tAct then leBytes 5 (s.dU 0x3500 0x31) ++ leBytes 2 (s.dU 0x3500 0x30)
    else leBytes 2 (s.dU 0x3000 4) ++ leBytes 4 (s.dU 0x3000 5)) s

/-! ### The air tunnel (R47) -/

/-- The PDU of a tunnelled request, when it is well-formed (R27 to R29). -/
def tunnelPdu (b : List Byte) : Option Pdu :=
  match pduOf b with
  | some (p, []) =>
    let ok := !p.rsv && p.node == 0 && p.status == 0 && !p.fresh &&
      (if p.op = 1 then p.data.length == (if p.seg then 4 else 0) else if p.op = 2 then !p.seg || decide (4 ≤ p.data.length) else false)
    if ok then some p else none
  | _ => none

/-- A new proxy or tunnel request cannot be taken: a role without the mesh's root, a stopped network core, or too many pending (R46, R485). -/
def proxyBarred (s : State) : Option Status :=
  if !s.bigRole then some stNotReady
  else if (s.physOf 1).isNone || decide (1024 ≤ s.links.proxies.length) then some stBusy
  else none

/-- AIR_REQUEST of slot `n`, 1 to 16. -/
def airRequest (n : Nat) (v : List Byte) (s : State) : Status × State :=
  let node := leNat (v.take 4)
  if s.links.airWait.getLsbD (n - 1) then (stBusy, s)
  else if node = 0 ∨ 0x3FFFF < node ∨ 240 < v.length - 4 then (stRange, s)
  else match tunnelPdu (v.drop 4) with
    | none => (stRange, s)
    | some p =>
      if node = 0x3FFFF ∧ p.op = 1 then (stRange, s)
      else match proxyBarred s with
        | some st => (st, s)
        | none =>
          let r : ProxyReq := { node := BitVec.ofNat 18 node, index := p.index, sub := p.sub, write := p.op == 2, data := p.data, slot := n
                                tid := p.tid, seg := p.seg, last := p.last }
          let same := s.links.proxies.any (fun q => q.same r.node r.index r.sub)
          if same ∧ !r.write then (stNotReady, s)
          else
            let t := (linksMod (fun l => { l with airWait := l.airWait ||| (1#16 <<< (n - 1)) }) s).resPend 0x1102 n
            if same then (stOk, linksMod (fun l => { l with proxies := l.proxies ++ [r] }) t)
            else match proxySend r t with
              | some t => (stOk, t)
              | none => (stBusy, s)

/-! ### The action of a written entry -/

/-- What a write may need from outside: the instant in 1/8 chip, and the OTP bits that take. -/
structure Ext where
  now : Option Nat := none
  got : Option (BitVec 32) := none
  deriving DecidableEq, Repr

/-- OTP bits that take: given with the command, or a free value (R311). -/
def Ext.bits (e : Ext) (s : State) : BitVec 32 × State :=
  match e.got with
  | some g => (g, s)
  | none => (s.fresh 32, s.draw)

def Ext.instant (e : Ext) (s : State) : Nat := e.now.getD s.rxNow

/-- The security entries. -/
def actSecurity (sub : Nat) (v : List Byte) (s : State) : Status × State :=
  match sub with
  | 0x06 =>
    let (st, s) := keyChangeRequest s
    (st, if st = stOk then tellWorkers tKeys s else s)
  | 0x09 => (stOk, keyErase s)
  | 0x17 => (stOk, fwKeyMask (leNat v) s)
  | 0x21 => wrapRequest s
  | 0x34 => secTestSet s
  | _ => if 0x10 ≤ sub ∧ sub ≤ 0x16 then keyWrite sub v s else (stOk, s)

/-- The OTP entries. -/
def actOtp (e : Ext) (idx sub : Nat) (v : List Byte) (s : State) : Status × State :=
  let (got, s) := e.bits s
  if idx = 0x3001 then (if sub = 5 then revokeSet (leNat v) got s else custHashSet (sub - 1) v got s)
  else if idx = 0x3002 then rollbackSet (sub - 1) (leNat v) got s
  else debugLockSet (v == [1]) got s

/-- The backup domain's entries. -/
def actBackup (sub : Nat) (v : List Byte) (s : State) : Status × State :=
  match sub with
  | 1 => (stOk, rtcSet (leNat v) s)
  | 4 => (stOk, rtcFlagsClear s)
  | 5 => (stOk, bmod (fun b => { b with calTrim := BitVec.ofNat 32 (leNat v % 1024) }) s)
  | 6 => (stOk, alarmSet (leNat v) s)
  | 7 => (stOk, bmod (fun b => { b with alarmPwr := v == [1] }) s)
  | 0x0A => (stOk, bmod (fun b => { b with data := Vector.ofFn (fun i : Fin 16 => BitVec.ofNat 32 (leNat ((v.drop (4 * i.1)).take 4))) }) s)
  | _ => (stOk, s)

/-- The update entries. -/
def actUpdate (e : Ext) (sub : Nat) (v : List Byte) (s : State) : Status × State :=
  match sub with
  | 0x01 => stageBegin s
  | 0x02 => stageData 0 v s
  | 0x03 => stageVerify s
  | 0x10 => let (got, s) := e.bits s
    confirm got s
  | 0x16 => activateNow s
  | 0x23 => hoRequest s
  | 0x32 =>
    let (st, t) := actRequest s
    (st, if st = stOk then tellWorkers tAct t else t)
  | 0x35 =>
    let (st, t) := actCancel s
    (st, if st = stOk ∧ s.actArmed then tellWorkers tAct t else t)
  | _ => (stOk, s)

/-- The radio's and the modem's entries. -/
def actModem (idx sub : Nat) (v : List Byte) (s : State) : Status × State :=
  if idx = 0x2100 then
    match sub with
    | 0x11 => (stOk, calAsk (s.dU 0x2100 0x10) s)
    | 0x22 => (stOk, setTune (leNat v % 64) (leNat v / 256 % 64) s)
    | 0x24 => (stOk, if v = [0] then antFaultClear s else s)
    | _ => (stOk, s)
  else
    match sub with
    | 0x01 => (stOk, regionPlanSet (leNat v) s)
    | 0x02 => channelMaskSet v s
    | 0x15 => waveTestSet (leNat v) s
    | 0x45 => (stOk, dpdLoad v s)
    | 0x46 => (stOk, dpdSave s)
    | _ => (stOk, s)

/-- The action of an entry whose value has passed its checks, with the status that answers the write. -/
def entryAct (e : Ext) (idx sub : Nat) (v : List Byte) (s : State) : Status × State :=
  match idx with
  | 0x1001 => if sub = 2 then attRequest s else (stOk, s)
  | 0x1010 => if sub = 1 then keyNextWrite v s else netNextWrite v s
  | 0x1100 => if sub = 3 then saveStart s else (stOk, s)
  | 0x1101 => airRequest sub v s
  | 0x1200 => if sub = 1 then roleSet (leNat v) s else (stOk, s)
  | 0x1202 => if 16 ≤ sub then (stOk, s) else (stOk, fnReinit sub s)
  | 0x1203 => if leNat v / 65536 = 0xA5C3 then (stOk, deviceReset rcDevice s) else (stRange, s)
  | 0x2000 => if sub = 2 then netCycleWrite false (leNat v) s else if sub = 3 then netCycleWrite true (leNat v) s else (stOk, s)
  | 0x2100 => actModem idx sub v s
  | 0x2200 => actModem idx sub v s
  | 0x2312 => if sub = 3 then schedApply s else (stOk, s)
  | 0x2400 => if sub = 2 then routeCommit s else (stOk, s)
  | 0x2500 => if sub = 8 then rosterOpRequest s else if sub = 0x12 then restoreRecord s else (stOk, s)
  | 0x3000 => actSecurity sub v s
  | 0x3001 => actOtp e idx sub v s
  | 0x3002 => actOtp e idx sub v s
  | 0x3003 => actOtp e idx sub v s
  | 0x3200 => if sub = 0x2A then (stOk, dramCold (v == [1]) s) else (stOk, s)
  | 0x3300 => actBackup sub v s
  | 0x3401 => domainEntry (Fin.ofNat 24 (sub - 1)) (leNat v) s
  | 0x3500 => actUpdate e sub v s
  | 0x3600 => if sub = 0x50 then shutdown s else if sub = 0x52 then rollStart false (e.instant s) s
      else if sub = 0x64 then injectEntries (e.instant s) s else (stOk, s)
  | 0x3700 => if sub = 0x19 then twinSwitch s else (stOk, s)
  | _ => (stOk, s)

/-- Entries whose value lives elsewhere: keys and OTP, domains, the tunnel and the staging slot. -/
def notStored (idx sub : Nat) : Bool :=
  idx == 0x1010 || idx == 0x1101 || idx == 0x3001 || idx == 0x3002 || idx == 0x3003 || idx == 0x3401 ||
  (idx == 0x3000 && decide (0x10 ≤ sub) && decide (sub ≤ 0x16)) || (idx == 0x3500 && sub == 2) ||
  (idx == 0x3300 && (sub == 1 || sub == 5 || sub == 7 || sub == 0x0A))

/-- Requests that can reset the device, whose number must stand before they act. -/
def storedFirst (idx sub : Nat) : Bool := (idx == 0x1203 && sub == 1) || (idx == 0x3500 && sub == 0x16) || (idx == 0x3600 && sub == 0x64)

/-- What follows from a stored setting: PD1's source (R74), the shadow table (R248), and what the Peer Link shows. -/
def storedEffect (idx sub : Nat) (v : List Byte) (s : State) : State :=
  if idx = 0x2000 ∧ sub = 4 then pd1SourceChanged s
  else if idx = 0x2401 ∧ sub = 1 then
    (if s.isOn dCWY then (s.setCells (Memory.clear s.mem.cells shadowBase (shadowBase + 192000))).wrBytes shadowBase v else s)
  else if idx = 0x3700 ∧ sub = 1 ∧ v = [0] then syncTwin (syncPlk (plkMod (fun p => { p with up := 0, members := .replicate 8 none }) s))
  else if idx = 0x3700 ∧ (sub = 0x10 ∨ sub = 0x11) then syncTwin s
  else s

/-- A value that has passed every check: a request number already held does nothing (R24); else the action, and with OK the new value. -/
def entryStore (e : Ext) (idx sub : Nat) (row : DictRow) (v : List Byte) (s : State) : Status × State :=
  if row.request ∧ v = s.dGet idx sub then (stOk, s)
  else if storedFirst idx sub then
    let old := s.dGet idx sub
    let (st, t) := entryAct e idx sub v (s.dSet idx sub v)
    (st, if st = stOk then t else t.dSet idx sub old)
  else
    let (st, t) := entryAct e idx sub v s
    if st ≠ stOk then (st, t)
    else (stOk, if notStored idx sub then t else storedEffect idx sub v (t.dSet idx sub v))

/-! ### Access (R21, R42, R475) -/

/-- A row's access for the class of a requester. -/
def classAcc (src : Src) (r : DictRow) : Acc :=
  match src with
  | .air => r.remote
  | .firmware => r.fw
  | _ => r.host

def Acc.reads : Acc → Bool
  | .rw => true | .ro => true | _ => false

def Acc.writes : Acc → Bool
  | .rw => true | .wo => true | _ => false

/-- The indices of the recovery subset (R42). -/
def inSubset (idx : Nat) : Bool :=
  idx == 0x1000 || idx == 0x1100 || (decide (0x1200 ≤ idx) && decide (idx ≤ 0x1204)) || idx == 0x3100 || idx == 0x3500

/-- An entry found: where it is stored, its row, and the requester's access. -/
structure Found where
  idx : Nat
  sub : Nat
  row : DictRow
  acc : Acc
  deriving DecidableEq, Repr

/-- The entry of an index and subindex for a requester (R43, R475). -/
def findEntry (src : Src) (idx sub : Nat) (s : State) : Option Found :=
  match aliasOf idx sub s with
  | some (i, k) => (dictRow i k).map (fun r => { idx := i, sub := k, row := r, acc := if src = .firmware then r.fw else r.host })
  | none => (dictRow idx sub).map (fun r => { idx := idx, sub := sub, row := r, acc := classAcc src r })

/-- An index that holds entries. -/
def indexUsed (idx : Nat) (s : State) : Bool := !(dictIndex idx).isEmpty || (idx == 0x1020 && (s.role == 1 || s.role == 2))

/-- A write of a whole value to an entry of the device itself: existence, access, value, role 0, and the action (R19 to R24, R35). -/
def writeEntry (src : Src) (e : Ext) (idx sub : Nat) (v : List Byte) (s : State) : Status × State :=
  if 0x8000 ≤ idx then (stNotReady, s)
  else if !indexUsed idx s then (stNoEntry, s)
  else if sub = 0 then (stDenied, s)
  else match findEntry src idx sub s with
    | none => (stNoEntry, s)
    | some f =>
      if !f.acc.writes then (stDenied, s)
      else
        let st := valueCheck f.row v
        if st ≠ stOk then (st, s)
        else if f.row.role0 ∧ s.role ≠ 0 then (stBusy, s)
        else
          let st := entryCheck f.idx f.sub v s
          if st ≠ stOk then (st, s) else entryStore e f.idx f.sub f.row v s

/-- A write that is answered by no response: the device resets (R34). -/
def resetsDevice (idx sub : Nat) (v : List Byte) (s : State) : Bool :=
  idx == 0x1203 && sub == 1 && v != s.dGet 0x1203 1

/-- What a write of a link's own settings starts once its response has left (R40, R42, R48, R50). -/
def afterResponse (src : Src) (idx sub : Nat) (v : List Byte) (s : State) : State :=
  if idx = 0x1100 then
    match sub with
    | 0x15 => linksMod (fun l => { l with can := vset l.can 0 (canSettings 0 s) }) s
    | 0x1F => linksMod (fun l => { l with can := vset l.can 1 (canSettings 1 s) }) s
    | 0x25 => linksMod (fun l => { l with t1s := t1sSettings s }) s
    | 0x31 => if src = .spi then
        linksMod (fun l => { l with outbox := vmod l.outbox 3 (fun q => match q.reverse with
          | x :: r => (r.reverse ++ [{ x with quad := some (v == [1]) }])
          | [] => []) }) s
      else linksMod (fun l => { l with quad := v == [1] }) s
    | 0x41 => linksMod (fun l => { l with uartRate := leNat v }) s
    | _ => s
  else if idx = 0x1202 then (match fnLink sub with | some l => linkReinit l s | none => s)
  else if idx = 0x3300 ∧ sub = 8 then powerCycle s
  else s

end Sys2Proof.Machine
end

