-- ==== Sys2Proof/Machine/KzDsp.lean ====
section
/-! DEFINITION. Sample lanes, accumulators and address-generator moves of the KZ cores (R340 to R342). -/

namespace Sys2Proof.Machine

/-- A lane instruction that writes a sample word: rd takes both lanes saturated, LSAT when one did (R340). -/
def Core.lane (k : Core) (rd : Fin 16) (iq : Int × Int) : Core :=
  { k.setGr rd (sample iq.1 iq.2) with sw := swLane k.sw iq.1 iq.2 }

def lane3 (c : Fin 6) (rd ra rb : Fin 16) (f : BitVec 32 → BitVec 32 → Int × Int) (s : State) : State :=
  kzCore c 1 (fun k => k.lane rd (f (k.gr ra) (k.gr rb))) s

/-- Lane sums, products and rotations (R340). -/
def laddOp (a b : BitVec 32) : Int × Int := (laneI a + laneI b, laneQ a + laneQ b)
def lsubOp (a b : BitVec 32) : Int × Int := (laneI a - laneI b, laneQ a - laneQ b)
def lnegOp (a : BitVec 32) : Int × Int := (-laneI a, -laneQ a)
def lconjOp (a : BitVec 32) : Int × Int := (laneI a, -laneQ a)

/-- (x + 1,024) >> 11, arithmetic (R340). -/
def round11 (x : Int) : Int := (x + 1024) / 2048

def cmulOp (i1 q1 i2 q2 : Int) : Int × Int := (round11 (i1 * i2 - q1 * q2), round11 (i1 * q2 + q1 * i2))
def lmulOp (a b : BitVec 32) : Int × Int := cmulOp (laneI a) (laneQ a) (laneI b) (laneQ b)
def lmulcOp (a b : BitVec 32) : Int × Int := cmulOp (laneI a) (laneQ a) (laneI b) (-laneQ b)

/-- A lane shifted right arithmetically by 0 to 255, or left with saturation (R331, R340). -/
def lsarOp (a b : BitVec 32) : Int × Int := (laneI a / 2 ^ count8 b, laneQ a / 2 ^ count8 b)
def lshlOp (a b : BitVec 32) : Int × Int := (laneI a * 2 ^ count8 b, laneQ a * 2 ^ count8 b)
def lpackOp (a b : BitVec 32) : Int × Int := (a.toInt, b.toInt)

/-- a x j^q (R340). -/
def lrotOp (a : BitVec 32) (q : Nat) : Int × Int :=
  match q % 4 with
  | 0 => (laneI a, laneQ a) | 1 => (-laneQ a, laneI a) | 2 => (-laneI a, -laneQ a) | _ => (laneQ a, -laneI a)

/-- I² + Q², never saturated (R340). -/
def lmag2Op (a : BitVec 32) : BitVec 32 := BitVec.ofInt 32 (laneI a * laneI a + laneQ a * laneQ a)

/-- LADD (R340). -/
def execLadd (c : Fin 6) (rd ra rb : Gr) (s : State) : Out := .next (lane3 c rd ra rb (laddOp) s)

/-- LSUB (R340). -/
def execLsub (c : Fin 6) (rd ra rb : Gr) (s : State) : Out := .next (lane3 c rd ra rb (lsubOp) s)

/-- LMUL (R340). -/
def execLmul (c : Fin 6) (rd ra rb : Gr) (s : State) : Out := .next (lane3 c rd ra rb (lmulOp) s)

/-- LMULC (R340). -/
def execLmulc (c : Fin 6) (rd ra rb : Gr) (s : State) : Out := .next (lane3 c rd ra rb (lmulcOp) s)

/-- LSAR (R340). -/
def execLsar (c : Fin 6) (rd ra rb : Gr) (s : State) : Out := .next (lane3 c rd ra rb (lsarOp) s)

/-- LSHL (R340). -/
def execLshl (c : Fin 6) (rd ra rb : Gr) (s : State) : Out := .next (lane3 c rd ra rb (lshlOp) s)

/-- LPACK (R340). -/
def execLpack (c : Fin 6) (rd ra rb : Gr) (s : State) : Out := .next (lane3 c rd ra rb (lpackOp) s)

/-- LROT (R340). -/
def execLrot (c : Fin 6) (rd ra rb : Gr) (s : State) : Out := .next (lane3 c rd ra rb (fun a b => lrotOp a b.toNat) s)

/-- LNEG (R340). -/
def execLneg (c : Fin 6) (rd ra : Gr) (s : State) : Out := .next (lane3 c rd ra 0 (fun a _ => lnegOp a) s)

/-- LCONJ (R340). -/
def execLconj (c : Fin 6) (rd ra : Gr) (s : State) : Out := .next (lane3 c rd ra 0 (fun a _ => lconjOp a) s)

/-- LUNPI: a plain register (R340). -/
def execLunpi (c : Fin 6) (rd ra : Gr) (s : State) : Out := .next (kzCore c 1 (fun k => k.setGr rd (BitVec.ofInt 32 (laneI (k.gr ra)))) s)

/-- LUNPQ: a plain register (R340). -/
def execLunpq (c : Fin 6) (rd ra : Gr) (s : State) : Out := .next (kzCore c 1 (fun k => k.setGr rd (BitVec.ofInt 32 (laneQ (k.gr ra)))) s)

/-- LMAG2: a plain register (R340). -/
def execLmag2 (c : Fin 6) (rd ra : Gr) (s : State) : Out := .next (kzCore c 1 (fun k => k.setGr rd (lmag2Op (k.gr ra))) s)

/-- An instruction on a pair: an odd accumulator is ILLEGAL (R341). -/
def pairOp (c : Fin 6) (a : Fin 4) (f : Core → Core) (s : State) : State :=
  kzRun c 1 (fun p s => if isPair a then .next (kmod p f s) else .exc s excIllegal) s

/-- MAC (R341). -/
def execMac (c : Fin 6) (acc : Fin 4) (ra rb : Gr) (s : State) : Out :=
  .next (kzCore c 1 (fun k => k.accAdd acc (halfProduct (k.gr ra) (k.gr rb))) s)

/-- MSU (R341). -/
def execMsu (c : Fin 6) (acc : Fin 4) (ra rb : Gr) (s : State) : Out :=
  .next (kzCore c 1 (fun k => k.accAdd acc (-halfProduct (k.gr ra) (k.gr rb))) s)

/-- XMAC (R341). -/
def execXmac (c : Fin 6) (acc : Fin 4) (ra rb : Gr) (s : State) : Out :=
  .next (pairOp c acc (fun k => k.pairAdd acc (k.gr ra) (k.gr rb) false) s)

/-- XMACC (R341). -/
def execXmacc (c : Fin 6) (acc : Fin 4) (ra rb : Gr) (s : State) : Out :=
  .next (pairOp c acc (fun k => k.pairAdd acc (k.gr ra) (k.gr rb) true) s)

/-- CLRA (R341). -/
def execClra (c : Fin 6) (acc : Fin 4) (s : State) : Out := .next (kzCore c 1 (fun k => { k with acc := vset k.acc acc 0 }) s)

/-- RACC's effect: rd = sat32((acc + round) >> sh), with ASAT when it saturates (R341). -/
def Core.racc (k : Core) (rd : Fin 16) (a : Fin 4) (sh : Nat) : Core :=
  let x := roundShift (vget k.acc a) sh
  { k.setGr rd (BitVec.ofInt 32 (sat32s x)) with sw := swSticky k.sw swASAT (overflows x) }

/-- RACC: sh above 47 is ILLEGAL (R341). -/
def execRacc (c : Fin 6) (rd : Gr) (acc : Fin 4) (sh : Byte) (s : State) : Out :=
  .next (kzRun c 1 (fun p s => if 47 < sh.toNat then .exc s excIllegal else .next (kmod p (fun k => k.racc rd acc sh.toNat) s)) s)

/-- APACK: both accumulators of a pair rounded as RACC and saturated to lanes, with LSAT (R341). -/
def execApack (c : Fin 6) (rd : Gr) (acc : Fin 4) (sh : Byte) (s : State) : Out :=
  .next (kzRun c 1 (fun p s => if 47 < sh.toNat || !isPair acc then .exc s excIllegal
    else .next (kmod p (fun k => k.lane rd (roundShift (vget k.acc acc) sh.toNat, roundShift (vget k.acc (pairOdd acc)) sh.toNat)) s)) s)

/-- MFACL (R341). -/
def execMfacl (c : Fin 6) (rd : Gr) (acc : Fin 4) (s : State) : Out :=
  .next (kzCore c 1 (fun k => k.setGr rd ((vget k.acc acc).truncate 32)) s)

/-- MFACH (R341). -/
def execMfach (c : Fin 6) (rd : Gr) (acc : Fin 4) (s : State) : Out :=
  .next (kzCore c 1 (fun k => k.setGr rd (((vget k.acc acc).extractLsb' 32 16).signExtend 32)) s)

/-- MTACL: acc[31:0] = ra; acc[47:32] kept (R341). -/
def execMtacl (c : Fin 6) (acc : Fin 4) (ra : Gr) (s : State) : Out :=
  .next (kzCore c 1 (fun k => { k with acc := vmod k.acc acc (fun a => (a.extractLsb' 32 16 ++ k.gr ra : BitVec (16 + 32))) }) s)

/-- MTACH: acc[47:32] = ra[15:0] (R341). -/
def execMtach (c : Fin 6) (acc : Fin 4) (ra : Gr) (s : State) : Out :=
  .next (kzCore c 1 (fun k => { k with acc := vmod k.acc acc (fun a => ((k.gr ra).truncate 16 ++ a.truncate 32 : BitVec (16 + 32))) }) s)

/-- MTACC: acc = sext(ra) (R341). -/
def execMtacc (c : Fin 6) (acc : Fin 4) (ra : Gr) (s : State) : Out :=
  .next (kzCore c 1 (fun k => { k with acc := vset k.acc acc ((k.gr ra).signExtend 48) }) s)

/-- MTAG: a selector of 5 to 7 is ILLEGAL (R342). -/
def execMtag (c : Fin 6) (r : Gr) (ag : Fin 4) (sel : Fin 8) (s : State) : Out :=
  .next (kzRun c 1 (fun p s => if 5 ≤ sel.1 then .exc s excIllegal
    else .next (kmod p (fun k => { k with ag := vmod k.ag ag (fun x => x.put sel.1 (k.gr r)) }) s)) s)

/-- MFAG (R342). -/
def execMfag (c : Fin 6) (r : Gr) (ag : Fin 4) (sel : Fin 8) (s : State) : Out :=
  .next (kzRun c 1 (fun p s => if 5 ≤ sel.1 then .exc s excIllegal
    else .next (kmod p (fun k => k.setGr r ((vget k.ag ag).get sel.1)) s)) s)

end Sys2Proof.Machine
end

