-- ==== Sys2Proof/Machine/Timer.lean ====
section
/-! DEFINITION. The eight timer units (R404 to R413). -/

namespace Sys2Proof.Machine

/-- The even unit of a unit's pair. -/
def evenOf (n : Fin 8) : Fin 8 := Fin.ofNat 8 (2 * (n.1 / 2))

/-- The odd unit of a unit's pair. -/
def oddOf (n : Fin 8) : Fin 8 := Fin.ofNat 8 (2 * (n.1 / 2) + 1)

/-- The unit's pair is chained (R412). -/
def chained (n : Fin 8) (s : State) : Bool := (vget s.tmr (evenOf n)).chain

/-- The odd unit of a chained pair: its CTRL and TRIG are ignored (R412). -/
def inert (n : Fin 8) (s : State) : Bool := chained n s && n.1 % 2 == 1

/-- One unit changed. -/
def tmod (n : Fin 8) (f : Timer → Timer) (s : State) : State := { s with tmr := vmod s.tmr n f }

/-- Producers of unit n: WRAP, CMPA, CMPB, CAP for k = 0 to 3 (R398). -/
def tmrProd (n : Fin 8) (k : Nat) : Nat := 0x20 + 4 * n.1 + k

/-- COUNT of a unit, or of its pair (R412). -/
def wide (n : Fin 8) (f : Timer → BitVec 32) (s : State) : Nat :=
  if chained n s then (f (vget s.tmr (evenOf n))).toNat + 2 ^ 32 * (f (vget s.tmr (oddOf n))).toNat
  else (f (vget s.tmr n)).toNat

/-- COUNT put back, over both words of a pair (R412). -/
def putCount (n : Fin 8) (v : Nat) (s : State) : State :=
  if chained n s then
    tmod (oddOf n) (fun t => { t with count := BitVec.ofNat 32 (v / 2 ^ 32) })
      (tmod (evenOf n) (fun t => { t with count := BitVec.ofNat 32 v }) s)
  else tmod n (fun t => { t with count := BitVec.ofNat 32 v }) s

/-- The compare preloads copied into the active compares, and PSC taken, over both units of a pair (R405, R406, R412). -/
def takePreloads (n : Fin 8) (s : State) : State :=
  let f := fun t : Timer => { t with cmpaAct := t.cmpa, cmpbAct := t.cmpb, pscAct := t.psc }
  if chained n s then tmod (oddOf n) f (tmod (evenOf n) f s) else tmod n f s

/-- The ball TIMn_OUT at a start or reload: mode 2 goes low; modes 0 and 3 hold their level (R408). -/
def outAtLoad (t : Timer) : Timer :=
  { t with out := if t.outMode = 0 then false else if t.outMode = 1 then t.out else if t.outMode = 2 then false else true }

/-- The ball when CMPA fires: mode 1 toggles, mode 2 goes high (R408). -/
def outAtCmpa (t : Timer) : Timer :=
  { t with out := if t.outMode = 0 then false else if t.outMode = 1 then !t.out else true }

/-- TIMER_COMPARE: a compare fires when COUNT takes the value of its active compare, unless that lies above RELOAD (R407). -/
def timerCompare (n : Fin 8) (s : State) : State :=
  let c := wide n (·.count) s
  let r := wide n (·.reload) s
  let hop := (vget s.tmr n).startHop
  let a := wide n (·.cmpaAct) s
  let b := wide n (·.cmpbAct) s
  let s := if c = a ∧ a ≤ r then fireHop (tmrProd n 1) hop (tmod n (fun t => outAtCmpa { t with stCmpa := true }) s) else s
  if c = b ∧ b ≤ r then fireHop (tmrProd n 2) hop (tmod n (fun t => { t with stCmpb := true }) s) else s

/-- A start: COUNT from RELOAD, the compares from their preloads, the prescaler cleared (R405). `hop` is the hop count that
its events carry until its first WRAP (R402). -/
def timerStart (n : Fin 8) (hop : Nat) (s : State) : State :=
  if inert n s then s else
  let s := takePreloads n (putCount n (wide n (·.reload) s) s)
  timerCompare n (tmod n (fun t => outAtLoad { t with run := true, startHop := hop }) s)

/-- A stop: at once, with COUNT held (R405). -/
def timerStop (n : Fin 8) (s : State) : State := if inert n s then s else tmod n (fun t => { t with run := false }) s

def execTmrStart (n : Fin 8) (s : State) : Out := .next (timerStart n 0 s)

def execTmrStop (n : Fin 8) (s : State) : Out := .next (timerStop n s)

/-- The first trigger of a kind on its way to a unit. -/
def takeTrig (n : Fin 8) (k : TrigKind) (s : State) : Option (Nat × State) :=
  match takeFirst (fun t : TmrTrig => t.unit == n && t.kind == k) s.evf.tmrTrigs with
  | none => none
  | some (t, rest) => some (t.hop, { s with evf := { s.evf with tmrTrigs := rest } })

/-- The channel of a unit's START input. -/
def startChan (n : Fin 8) (s : State) : Fin 64 := chan (field (vget s.tmr n).trig.toNat 5 0)

/-- A START trigger: it starts a stopped unit, restarts a running one when RETRIG is set, else is remembered once, and a second is
lost (R400, R405). -/
def startTrigger (n : Fin 8) (hop : Nat) (s : State) : State :=
  let t := vget s.tmr n
  if inert n s then s
  else if !t.run || t.retrig then timerStart n (hop + 1) s
  else match t.pend with
    | none => tmod n (fun t => { t with pend := some hop }) s
    | some _ => evfMerge (startChan n s) s

/-- TMR_START_TRIGGER. -/
def tmrStartTrigger (n : Fin 8) (s : State) : State :=
  match takeTrig n .start s with
  | none => s
  | some (hop, s) => startTrigger n hop s

def execTmrStartTrigger (n : Fin 8) (s : State) : Out := .next (tmrStartTrigger n s)

/-- TMR_STOP_TRIGGER: a STOP input is never busy (R399, R405). -/
def tmrStopTrigger (n : Fin 8) (s : State) : State :=
  match takeTrig n .stop s with
  | none => s
  | some (_, s) => timerStop n s

def execTmrStopTrigger (n : Fin 8) (s : State) : Out := .next (tmrStopTrigger n s)

/-- TIMER_TICK: a prescaled tick counts COUNT down, or at 0 reloads it from the buffer, takes the compare preloads, fires
WRAP, and stops a one-shot unit (R406); the compares see the new COUNT (R407); after the first WRAP the events start at
hop 0 (R402). -/
def timerTick (n : Fin 8) (s : State) : State :=
  let t := vget s.tmr n
  if !t.run || inert n s || !s.fabricOn then s else
  let c := wide n (·.count) s
  if c = 0 then
    let s := takePreloads n (putCount n (wide n (·.reload) s) s)
    let s := tmod n (fun t => outAtLoad { t with stWrap := true, run := !t.oneShot }) s
    let s := timerCompare n (fireHop (tmrProd n 0) t.startHop s)
    tmod n (fun t => { t with startHop := 0 }) s
  else timerCompare n (putCount n (c - 1) s)

def execTimerTick (n : Fin 8) (s : State) : Out := .next (timerTick n s)

/-- A capture: COUNT into CAPT, both words of a pair in one cycle; OVR when an unread capture is overwritten (R409, R410,
R412). -/
def capture (n : Fin 8) (hop : Nat) (s : State) : State :=
  if inert n s then s else
  let s := tmod n (fun t => { t with capt := t.count, stOvr := t.stOvr || t.stCap, stCap := true }) s
  let s := if chained n s then tmod (oddOf n) (fun t => { t with capt := t.count }) s else s
  fireHop (tmrProd n 3) hop s

/-- TMR_CAP_TRIGGER: its event carries the trigger's hop plus 1 (R402, R409). -/
def tmrCapTrigger (n : Fin 8) (s : State) : State :=
  match takeTrig n .cap s with
  | none => s
  | some (hop, s) => capture n (hop + 1) s

def execTmrCapTrigger (n : Fin 8) (s : State) : Out := .next (tmrCapTrigger n s)

/-- TIM_IN_EDGE: an edge on the ball that CAP_EDGE selects captures at hop 0 (R402, R409). -/
def timInEdge (n : Fin 8) (rising : Bool) (s : State) : State :=
  let e := field (vget s.tmr n).trig.toNat 25 24
  if e = 3 ∨ (e = 1 ∧ rising = true) ∨ (e = 2 ∧ rising = false) then capture n 0 s else s

def execTimInEdge (n : Fin 8) (rising : Bool) (s : State) : Out := .next (timInEdge n rising s)

/-- TMR_CAPT_READ: a read of CAPT clears CAP, and in a chained pair latches the high word; a capture in the same cycle leaves
the new value with CAP set and OVR as it was, because the old value was read (R410, R413). -/
def tmrCaptRead (n : Fin 8) (sameCycle : Bool) (s : State) : State :=
  let s := if chained n s && n.1 % 2 == 0 then
    tmod (oddOf n) (fun t => { t with captShadow := t.capt }) s else s
  let s := tmod n (fun t => { t with stCap := false }) s
  if sameCycle then capture n 0 s else s

def execTmrCaptRead (n : Fin 8) (sameCycle : Bool) (s : State) : Out := .next (tmrCaptRead n sameCycle s)

/-- TMR_COUNT_LOW_READ: reading the low word of a chained pair's COUNT latches the high word (R413). -/
def tmrCountLowRead (n : Fin 8) (s : State) : State :=
  if chained n s && n.1 % 2 == 0 then tmod (oddOf n) (fun t => { t with countShadow := t.count }) s else s

def execTmrCountLowRead (n : Fin 8) (s : State) : Out := .next (tmrCountLowRead n s)

/-- PENDING_TRIGGER_ACT: an input acts on its remembered trigger once it is no longer busy: a stopped timer starts, a core's line whose
IPEND bit is clear sets it (R400). The sequencer's input is the one of `PENDING_COMMAND_START` (R126). -/
def pendingTriggerAct (c : Consumer) (s : State) : State :=
  match c with
  | .timer n =>
    let t := vget s.tmr n
    match t.pend with
    | some hop => if t.run then s else timerStart n (hop + 1) (tmod n (fun t => { t with pend := none }) s)
    | none => s
  | .core k line =>
    let m : BitVec 64 := 1#64 <<< line.1
    if vget s.evf.corePend k &&& m ≠ 0 ∧ vget s.kz.ipend k &&& m = 0 then
      let s := { s with evf := { s.evf with corePend := vmod s.evf.corePend k (fun q => q &&& ~~~m) } }
      { s with kz := { s.kz with ipend := vmod s.kz.ipend k (fun q => q ||| m) } }
    else s
  | .sequencer => s

def execPendingTriggerAct (c : Consumer) (s : State) : Out := .next (pendingTriggerAct c s)

end Sys2Proof.Machine
end

