-- ==== Sys2Proof/Machine/Serve.lean ====
section
/-! DEFINITION. The dictionary server: one request from its checks to its answer (R19 to R35, R44 to R47). -/

namespace Sys2Proof.Machine

/-- What a request comes to: its status, the FRESH flag and the data of its response. -/
structure Res where
  st    : Status
  fresh : Bool := false
  data  : List Byte := []
  deriving DecidableEq, Repr

/-- Data bytes that one PDU carries on a link (R27, R37, R105). -/
def dataLimit (src : Src) : Nat :=
  match src with
  | .can0 => 52 | .can1 => 52 | .air => 228 | _ => 1024

/-- The whole value, or the segment from an offset: BAD_LENGTH for a value too long for the link (R28, R29, R35). -/
def sliceRes (src : Src) (off : Option Nat) (st : Status) (fresh : Bool) (v : List Byte) : Res :=
  match off with
  | none => if dataLimit src < v.length then { st := stBadLength } else { st := st, fresh := fresh, data := v }
  | some o => { st := st, fresh := fresh, data := leBytes 4 o ++ (v.drop o).take (dataLimit src - 4) }

/-- A reader's number among the FRESH flags. -/
def readerBit (src : Src) : BitVec 7 := 1#7 <<< srcNum src

/-- A result entry read: NOT_READY while a result is asked for, no data before the first result, and the reader's flag, which the read clears
(R25, R26). -/
def readResult (src : Src) (off : Option Nat) (idx sub : Nat) (s : State) : Res × State :=
  let r := s.resOf idx sub
  let st := if r.pending then stNotReady else stOk
  if !r.produced then ({ st := st }, s)
  else
    let a := sliceRes src off st (r.fresh.getLsbD (srcNum src)) (s.entryBytes idx sub)
    if a.st = stBadLength then (a, s)
    else (a, { s with results := alPut s.results (key idx sub) { r with fresh := r.fresh &&& ~~~readerBit src } })

/-- A read of an entry of the device itself (R19, R21, R25, R28, R29). -/
def readEntry (src : Src) (off : Option Nat) (idx sub : Nat) (s : State) : Res × State :=
  if 0x8000 ≤ idx then ({ st := stNotReady }, s)
  else if !indexUsed idx s then ({ st := stNoEntry }, s)
  else if sub = 0 then
    (if off.isSome then { st := stRange } else { st := stOk, data := [BitVec.ofNat 8 (if idx = 0x1020 then 11 else topSub idx)] }, s)
  else match findEntry src idx sub s with
    | none => ({ st := stNoEntry }, s)
    | some f =>
      if !f.acc.reads then ({ st := stDenied }, s)
      else if off.isSome && !f.row.ty.segmented then ({ st := stRange }, s)
      else if f.row.result then readResult src off f.idx f.sub s
      else
        let a := sliceRes src off stOk false (s.entryBytes f.idx f.sub)
        (a, if a.st = stOk then readDraws f.idx f.sub s else s)

/-! ### The roster window (R44) -/

/-- The record and the field that a window request names, or the status that refuses it. -/
def windowField (src : Src) (wr : Bool) (idx sub node : Nat) (s : State) : Except Status (Nat × RecField) :=
  if node = 0 ∨ 0x3FFFE < node then .error stRange
  else if 0x5004 < idx then .error stNoEntry
  else if src = .air then .error stDenied
  else match s.recordOf node with
    | none => .error stNoEntry
    | some k =>
      if s.recPoisoned k then .error stPoisoned
      else match recField idx sub with
        | none => .error (if wr && sub == 0 then stDenied else stNoEntry)
        | some f => if wr && !f.wr then .error stDenied else .ok (k, f)

def windowRead (src : Src) (off : Option Nat) (idx sub node : Nat) (s : State) : Res :=
  match windowField src false idx (if sub = 0 then 0x20 else sub) node s with
  | .error st => { st := st }
  | .ok (k, f) =>
    if sub = 0 then (if off.isSome then { st := stRange } else { st := stOk, data := [0x20] })
    else if off.isSome && !f.dom then { st := stRange }
    else sliceRes src off stOk false (s.rdBytes (s.recAddr k + f.off) f.len)

def windowWrite (src : Src) (idx sub node : Nat) (v : List Byte) (s : State) : Status × State :=
  match windowField src true idx sub node s with
  | .error st => (st, s)
  | .ok (k, f) =>
    if v.length ≠ f.len then (if f.dom then stRange else stBadLength, s)
    else if !recLegal f v then (stRange, s)
    else
      let a := s.recAddr k + f.off
      (stOk, s.dmaWrite a (recBytes f (s.rdBytes a f.len) v))

/-! ### The remote proxy (R45, R46) -/

/-- The remote index, or the status that refuses the request. -/
def proxyCheck (src : Src) (wr : Bool) (node : Nat) (s : State) : Status :=
  if src = .air ∨ src = .firmware then stDenied
  else if node = 0 ∨ (!wr ∧ node = 0x3FFFF) then stRange
  else (proxyBarred s).getD stOk

/-- The value with the reader's flag cleared. -/
def proxySeen (src : Src) (v : ProxyVal) (s : State) : State :=
  let b := readerBit src
  proxyStore (if v.fresh.getLsbD (srcNum src) then { v with fresh := v.fresh &&& ~~~b, seen := v.seen &&& ~~~b } else { v with seen := v.seen ||| b }) s

/-- A proxy READ: NOT_READY while a request of the item is pending; a value not seen, or read for the second time, is answered OK; a read that
timed out is answered LATE once; else the request goes out (R25, R45, R46). -/
def proxyRead (src : Src) (off : Option Nat) (idx sub node : Nat) (s : State) : Res × State :=
  let st := proxyCheck src false node s
  let n := BitVec.ofNat 18 node
  let i := BitVec.ofNat 16 (remoteIndex idx)
  let k := BitVec.ofNat 8 sub
  let old := s.proxyVal n i k
  let fresh := match old with | some v => v.fresh.getLsbD (srcNum src) | none => false
  let give := fun (st : Status) => match old with
    | some v => if v.data.isEmpty then { st := st } else sliceRes src off st fresh v.data
    | none => { st := st }
  let seen := fun (a : Res) (s : State) => if a.st = stBadLength then (a, s) else (a, match old with | some v => proxySeen src v s | none => s)
  let pending := s.links.proxies.any (fun q => q.same n i k)
  if pending ∧ (st = stOk ∨ st = stBusy) then
    let a := give stNotReady
    if a.st = stBadLength then (a, s) else (a, match old with | some v => if fresh then proxySeen src v s else s | none => s)
  else match old with
    | some v =>
      if v.late && (st == stOk || st == stBusy) then ({ give stLate with fresh := false }, proxyStore { v with late := false } s)
      else if (fresh || !v.seen.getLsbD (srcNum src)) && !v.data.isEmpty && (st == stOk || st == stBusy) then seen (give stOk) s
      else if st ≠ stOk then ({ st := st }, s)
      else match proxySend { node := n, index := i, sub := k, write := false } s with
        | some t => (give stNotReady, t)
        | none => ({ st := stBusy }, s)
    | none =>
      if st ≠ stOk then ({ st := st }, s)
      else match proxySend { node := n, index := i, sub := k, write := false } s with
        | some t => ({ st := stNotReady }, t)
        | none => ({ st := stBusy }, s)

/-- A proxy WRITE: it takes the place of one that has not left, or is queued, and is answered OK (R45, R46). -/
def proxyWrite (src : Src) (idx sub node : Nat) (v : List Byte) (s : State) : Status × State :=
  let st := proxyCheck src true node s
  let n := BitVec.ofNat 18 node
  let i := BitVec.ofNat 16 (remoteIndex idx)
  let k := BitVec.ofNat 8 sub
  let queued := s.links.proxies.find? (fun q => q.same n i k && q.write && !q.left && q.slot == 0)
  if st ≠ stOk ∧ (st ≠ stBusy ∨ queued.isNone) then (st, s)
  else if dataLimit .air < v.length then (stBadLength, s)
  else match queued with
    | some q => (stOk, proxyReplace q v s)
    | none => match proxySend { node := n, index := i, sub := k, write := true, data := v } s with
      | some t => (stOk, t)
      | none => (stBusy, s)

/-! ### Writes and segments -/

/-- A whole value written to what a request names. -/
def writeTarget (e : Ext) (q : Req) (v : List Byte) (s : State) : Status × State :=
  let idx := q.pdu.index.toNat
  let sub := q.pdu.sub.toNat
  if 0x5000 ≤ idx ∧ idx < 0x6000 then windowWrite q.src idx sub q.pdu.node.toNat v s
  else if 0x6000 ≤ idx ∧ idx < 0x7000 then proxyWrite q.src idx sub q.pdu.node.toNat v s
  else writeEntry q.src e idx sub v s

/-- Whether an entry may be written in segments by the requester: the status that refuses it, else OK (R21, R29). -/
def segTarget (q : Req) (s : State) : Status :=
  let idx := q.pdu.index.toNat
  let sub := q.pdu.sub.toNat
  if 0x5000 ≤ idx ∧ idx < 0x6000 then
    (match windowField q.src true idx sub q.pdu.node.toNat s with
      | .error st => st
      | .ok (_, f) => if f.dom then stOk else stRange)
  else if 0x6000 ≤ idx ∧ idx < 0x7000 then proxyCheck q.src true q.pdu.node.toNat s
  else if 0x8000 ≤ idx then stNotReady
  else if !indexUsed idx s then stNoEntry
  else if sub = 0 then stDenied
  else match findEntry q.src idx sub s with
    | none => stNoEntry
    | some f => if !f.acc.writes then stDenied else if f.row.ty.segmented then stOk else stRange

/-- A segmented transfer is the one a request names: its link, TID, INDEX and SUB; over the air also its node (R29). -/
def Xfer.named (x : Xfer) (q : Req) : Bool :=
  x.src == q.src && x.tid == q.pdu.tid && x.index == q.pdu.index && x.sub == q.pdu.sub && (q.src != .air || x.mac == q.mac)

/-- The entry is STAGE_DATA, whose segments are programmed as they come (R463). -/
def isStageData (q : Req) (s : State) : Bool :=
  match findEntry q.src q.pdu.index.toNat q.pdu.sub.toNat s with
  | some f => f.idx == 0x3500 && f.sub == 2
  | none => false

/-- A transfer ends. -/
def xferDrop (q : Req) (s : State) : State := linksMod (fun l => { l with xfers := l.xfers.filter (fun x => !x.named q) }) s

/-- A segment that stands at its place: kept, or at LAST the whole value is written (R29). -/
def segAccept (e : Ext) (q : Req) (buf data : List Byte) (s : State) : Status × State :=
  let all := buf ++ data
  let staged := if isStageData q s then stageData buf.length data s else (stOk, s)
  if staged.1 ≠ stOk then (staged.1, xferDrop q s)
  else if q.pdu.last then
    (if isStageData q s then (stOk, xferDrop q staged.2) else writeTarget e q all (xferDrop q s))
  else
    let s := xferDrop q staged.2
    (stOk, linksMod (fun l => { l with xfers := l.xfers ++ [{ src := q.src, tid := q.pdu.tid, index := q.pdu.index, sub := q.pdu.sub
                                                              node := q.pdu.node, buf := all, mac := q.mac }] }) s)

/-- A WRITE with SEG 1 (R29, R30): a segment out of order ends the transfer with ABORTED; offset 0 to an entry that another transfer holds is
BUSY. -/
def segWrite (e : Ext) (q : Req) (s : State) : Status × State :=
  let off := leNat (q.pdu.data.take 4)
  let data := q.pdu.data.drop 4
  let st := segTarget q s
  if q.pdu.data.length < 4 then (stBadLength, s)
  else if st ≠ stOk then (st, s)
  else match s.links.xfers.find? (fun x => x.named q) with
    | some x => if off = x.buf.length then segAccept e q x.buf data s else (stAborted, xferDrop q s)
    | none =>
      if off ≠ 0 then (stAborted, s)
      else if s.links.xfers.any (fun x => x.index == q.pdu.index && x.sub == q.pdu.sub && x.node == q.pdu.node) then (stBusy, s)
      else segAccept e q [] data s

/-- A host ABORT ends the transfer it names (R29). -/
def abortXfer (q : Req) (s : State) : Status × State :=
  if s.links.xfers.any (fun x => x.named q) then (stAborted, xferDrop q s) else (stOk, s)

/-! ### A request -/

/-- Only the recovery subset is served: on the UART, and by the boot ROM (R42). -/
def subsetOnly (src : Src) (s : State) : Bool := src == .uart || s.links.serving == .rom

/-- READ (R28). -/
def serveRead (q : Req) (s : State) : Res × State :=
  let p := q.pdu
  let idx := p.index.toNat
  let off := if p.seg then some (leNat p.data) else none
  if p.data.length ≠ (if p.seg then 4 else 0) then ({ st := stBadLength }, s)
  else if 0x5000 ≤ idx ∧ idx < 0x6000 then (windowRead q.src off idx p.sub.toNat p.node.toNat s, s)
  else if 0x6000 ≤ idx ∧ idx < 0x7000 then proxyRead q.src off idx p.sub.toNat p.node.toNat s
  else readEntry q.src off idx p.sub.toNat s

/-- One request executed, from its checks to its result (R28, R31 to R35, R37, R42). -/
def serve (e : Ext) (q : Req) (s : State) : Res × State :=
  let p := q.pdu
  let idx := p.index.toNat
  let plain := fun (r : Status × State) => (({ st := r.1 } : Res), r.2)
  if q.short then ({ st := stBadLength }, s)
  else if p.rsv || !(p.op == 1 || p.op == 2 || p.op == 8) then ({ st := stBadOp }, s)
  else if subsetOnly q.src s && !inSubset idx then ({ st := stDenied }, s)
  else if p.node ≠ 0 ∧ ¬(0x5000 ≤ idx ∧ idx < 0x7000) then ({ st := stRange }, s)
  else if p.op = 8 then plain (abortXfer q s)
  else if p.op = 1 then serveRead q s
  else if p.seg then plain (segWrite e q s)
  else plain (writeTarget e q p.data s)

/-! ### Responses -/

/-- The response to a request. -/
def Res.pdu (a : Res) (q : Pdu) : Pdu := answer q a.st a.fresh a.data

/-- What a link sends to the requester under the settings that stood when the request came (R37, R39). -/
def sentTo (q : Req) (p : Pdu) (s : State) : Sent :=
  match q.src with
  | .can0 => { addr := 0x340 + (vget s.links.can 0).address, pdu := p }
  | .can1 => { addr := 0x340 + (vget s.links.can 1).address, pdu := p }
  | .t1s => { addr := q.mac.toNat, pdu := p }
  | _ => { pdu := p }

/-- The number of a host link. -/
def linkNum (src : Src) : Option (Fin 5) :=
  match src with
  | .can0 => some 0 | .can1 => some 1 | .t1s => some 2 | .spi => some 3 | .uart => some 4 | .air => none | .firmware => none

/-- A response over the air: a frame on port 0x01 to the node that asked (R47). -/
def airRespond (node : Nat) (p : Pdu) (s : State) : State :=
  match routedNode node s with
  | none => s
  | some n => (originate 1 n node 1 0 1 false 15 (pduBytes p) s).getD s

/-- The response leaves for whoever asked; `s₀` is the state in which the request came. -/
def respondTo (s₀ : State) (q : Req) (p : Pdu) (s : State) : State :=
  match linkNum q.src with
  | some l => if s₀.linkUp l then s.push l (sentTo q p s₀) else s
  | none => if q.src = .firmware then linksMod (fun l => { l with fwAnswer := some p }) s
    else if q.mac = 0 then s else airRespond q.mac.toNat p s

/-- A write that acts on its own link: a new request number, or any value of SPI_QUAD and UART_RATE, which are no request numbers (R24, R48). -/
def changes (q : Req) (s : State) : Bool :=
  q.pdu.data != s.dGet q.pdu.index.toNat q.pdu.sub.toNat || (q.pdu.index == 0x1100 && (q.pdu.sub == 0x31 || q.pdu.sub == 0x41))

/-- A request executed and answered; a reset by 0x1203.01 is answered by nothing (R34), and a link's own settings change once the response has left
(R40, R48, R50). -/
def execute (e : Ext) (q : Req) (s : State) : State :=
  let idx := q.pdu.index.toNat
  let sub := q.pdu.sub.toNat
  let (a, t) := serve e q s
  let done := q.pdu.op == 2 && !q.pdu.seg && a.st == stOk
  if done && resetsDevice idx sub q.pdu.data s then t
  else
    let t := respondTo s q (a.pdu q.pdu) t
    if done && changes q s then afterResponse q.src idx sub q.pdu.data t else t

/-- Somebody serves requests of a source: main firmware all, the boot ROM those of the UART and the SPI port (R30, R42). -/
def answers (src : Src) (s : State) : Bool :=
  (match linkNum src with
    | some l => s.linkUp l
    | none => true) &&
  (match s.links.serving with
    | .none => false
    | .rom => src == .spi || src == .uart
    | .main => true)

/-- The oldest waiting request is executed (R32). -/
def serveOne (s : State) : State :=
  match s.links.waiting with
  | [] => s
  | q :: r =>
    let s := linksMod (fun l => { l with waiting := r }) s
    if answers q.src s then execute {} q s else s

/-- Every request that waits is executed before one that comes later (R32). -/
def serveAll (s : State) : State := iter serveOne s.links.waiting.length s

/-- A request that comes from a source and is executed in its turn. -/
def request (e : Ext) (q : Req) (s : State) : State :=
  let s := serveAll s
  if answers q.src s then execute e q s else s

/-- A WRITE PDU with SEG 0. -/
def writePdu (tid : Byte) (index : BitVec 16) (sub : Byte) (v : List Byte) : Pdu := { op := 2, tid := tid, index := index, sub := sub, data := v }

/-- A WRITE of a whole value by a source. -/
def hostWrite (e : Ext) (src : Src) (tid : Byte) (index : BitVec 16) (sub : Byte) (v : List Byte) (s : State) : State :=
  request e { src := src, pdu := writePdu tid index sub v } s

end Sys2Proof.Machine
end

