-- ==== Sys2Proof/Machine/Ports.lean ====
section
/-! DEFINITION. The host links: frames that arrive and leave (R31, R36 to R42, R537), and DTP over the air as its server and its client
(R21, R45 to R47). -/

namespace Sys2Proof.Machine

/-! ### Requests taken (R31) -/

/-- A request taken from a frame: it waits its turn, or as the fifth of its link is answered BUSY at once. -/
def takeReq (q : Req) (s : State) : State :=
  if !answers q.src s then s
  else if 4 ≤ (s.links.waiting.filter (fun r => r.src == q.src)).length then respondTo s q (({ st := stBusy } : Res).pdu q.pdu) s
  else linksMod (fun l => { l with waiting := l.waiting ++ [q] }) s

def takeAll (src : Src) (mac : BitVec 48) (ps : List Pdu) (s : State) : State := ps.foldl (fun s p => takeReq { src := src, pdu := p, mac := mac } s) s

/-! ### CAN FD (R36, R37) -/

/-- The request in the data field of a CAN FD frame; one whose LEN claims more than the frame carries is answered BAD_LENGTH. -/
def canReq (src : Src) (data : List Byte) : Option Req :=
  match pduOf data with
  | some (p, _) => some { src := src, pdu := p }
  | none =>
    match pduOf (data.take 10 ++ [0, 0]) with
    | some (p, _) => if data.length < 12 then none else some { src := src, pdu := p, short := true }
    | none => none

def canFrameReceive (can1 : Bool) (ident : BitVec 11) (data : List Byte) (s : State) : State :=
  let k : Fin 2 := if can1 then 1 else 0
  let src : Src := if can1 then .can1 else .can0
  if !s.linkUp (if can1 then 1 else 0) || ident.toNat != 0x300 + (vget s.links.can k).address then s
  else match canReq src data with
    | none => s.dBump 0x1100 0x18
    | some q => takeReq q s

def execCanFrameReceive (can1 : Bool) (ident : BitVec 11) (data : List Byte) (s : State) : Out := .next (canFrameReceive can1 ident data s)

def execCanBusOffRecovery (can1 : Bool) (s : State) : Out :=
  .next (linksMod (fun l => { l with canBusOff := vset l.canBusOff (if can1 then 1 else 0) false }) s)

/-! ### 10BASE-T1S (R39) -/

/-- The PDUs of a payload of a count and that many PDUs at even offsets; none when the count or a length is bad. `at_` is the offset reached. -/
def t1sPdus (payload : List Byte) : Nat → Nat → Option (List Pdu)
  | 0, _ => some []
  | n + 1, at_ =>
    let o := at_ + at_ % 2
    match pduOf (payload.drop o) with
    | none => none
    | some (p, _) =>
      let stop := o + 12 + p.data.length
      if 1500 < stop then none else (t1sPdus payload n stop).map (fun l => p :: l)

def t1sBroadcast : Nat := 0xFFFFFFFFFFFF

/-- The PDUs of a DTP frame's payload. -/
def t1sRequests (payload : List Byte) : Option (List Pdu) :=
  let n := leNat (payload.take 2)
  if payload.length < 2 ∨ n = 0 ∨ 4 < n then none else t1sPdus payload n 2

/-- An Ethernet frame: destination, source, EtherType, payload. Of a broadcast frame only a READ of index 0x1000 is a request. -/
def t1sFrameReceive (frame : List Byte) (s : State) : State :=
  let dst := beNat (frame.take 6)
  let mac := BitVec.ofNat 48 (beNat ((frame.drop 6).take 6))
  let payload := frame.drop 14
  if !s.linkUp 2 || decide (frame.length < 14) then s
  else if beNat ((frame.drop 12).take 2) ≠ 0x88B5 then linksMod (fun l => { l with t1sRx := l.t1sRx ++ [frame] }) s
  else if dst ≠ s.links.t1s.mac.toNat ∧ dst ≠ t1sBroadcast then s
  else match t1sRequests payload with
    | none => s.dBump 0x1100 0x26
    | some ps => takeAll .t1s mac (if dst = t1sBroadcast then ps.filter (fun p => p.op == 1 && p.index == 0x1000) else ps) s

def execT1sFrameReceive (frame : List Byte) (s : State) : Out := .next (t1sFrameReceive frame s)

/-! ### The host SPI port (R40, R41, R537) -/

/-- The port answers: from the end of step 1 of R452, and under main firmware while HOSTIO is ON. -/
def spiAnswers (s : State) : Bool :=
  s.pcc.vio &&
  match s.boot.stage with
  | .rom => false
  | .main => s.isOn dHOSTIO
  | _ => true

/-- The inbox can take a write frame: somebody serves the dictionary (R537). -/
def spiInFree (s : State) : Bool := s.links.serving != .none

/-- RXRDY, which also drives HOST_IRQ_N low. -/
def rxReady (s : State) : Bool := !(vget s.links.outbox 3).isEmpty

/-- SPI_STATUS. -/
def spiStatus (s : State) : Byte :=
  let l := s.links
  BitVec.ofNat 8 (128 * b2n (rxReady s) + 64 * b2n (spiInFree s) + 32 * b2n l.crcErr + 16 * b2n l.ovr + 8 * b2n l.quad +
    4 * b2n (l.serving != .main) + 2 * b2n l.fmtErr)

def spiReadStatus (s : State) : State :=
  if !spiAnswers s then linksMod (fun l => { l with miso := [] }) s
  else linksMod (fun l => { l with miso := [spiStatus s], crcErr := false, ovr := false, fmtErr := false }) s

def execSpiReadStatus (s : State) : Out := .next (spiReadStatus s)

/-- The frame form of R41 over the PDU bytes: length, PDUs, CRC-32. -/
def frameOf (b : List Byte) : List Byte :=
  let h := leBytes 2 b.length ++ b
  h ++ leBytes 4 (crc32 h)

/-- What becomes of a frame's bytes: its PDUs, a failed CRC or early end, or a bad length or layout (R41). -/
inductive FrameRead where
  | pdus (l : List Pdu)
  | crc
  | format
  deriving DecidableEq, Repr

/-- A write frame from its length on. -/
def readFrame (b : List Byte) : FrameRead :=
  let n := leNat (b.take 2)
  if 2 ≤ b.length ∧ 2044 < n then .format
  else if b.length < 2 ∨ b.length < 2 + n + 4 then .crc
  else if leNat ((b.drop (2 + n)).take 4) ≠ crc32 (b.take (2 + n)) then .crc
  else match pduAll n ((b.drop 2).take n) with
    | some l => .pdus l
    | none => .format

def spiWriteFrame (bytes : List Byte) (s : State) : State :=
  if !spiAnswers s then linksMod (fun l => { l with miso := [] }) s
  else
    let s := linksMod (fun l => { l with miso := [] }) s
    if !spiInFree s then (linksMod (fun l => { l with ovr := true }) s).dBump 0x1100 0x32
    else match readFrame bytes with
      | .pdus ps => takeAll .spi 0 ps s
      | .crc => (linksMod (fun l => { l with crcErr := true }) s).dBump 0x1100 0x32
      | .format => (linksMod (fun l => { l with fmtErr := true }) s).dBump 0x1100 0x32

def execSpiWriteFrame (bytes : List Byte) (s : State) : Out := .next (spiWriteFrame bytes s)

/-- How many PDUs from the front fit in so many bytes. -/
def fitCount : List Sent → Nat → Nat
  | [], _ => 0
  | x :: r, room => let n := (pduBytes x.pdu).length
    if n ≤ room then 1 + fitCount r (room - n) else 0

/-- A read frame: the PDUs that fit 2,044 bytes, consumed only when the host has clocked out the last CRC byte; `clocked` counts the bytes after the
dummy byte. A mode change rides on the response that it follows (R40, R41). -/
def spiReadFrame (clocked : Nat) (s : State) : State :=
  if !spiAnswers s then linksMod (fun l => { l with miso := [] }) s
  else
    let q := vget s.links.outbox 3
    let n := if spiInFree s then fitCount q 2044 else 0
    let f := frameOf ((q.take n).flatMap (fun x => pduBytes x.pdu))
    let s := linksMod (fun l => { l with miso := f.take clocked }) s
    if clocked < f.length then s
    else linksMod (fun l => { l with
      outbox := vset l.outbox 3 (q.drop n)
      quad := (q.take n).foldl (fun m x => x.quad.getD m) l.quad }) s

def execSpiReadFrame (clocked : Nat) (s : State) : Out := .next (spiReadFrame clocked s)

/-- A command byte other than the three: SPI_IO1 stays low, and FMTERR is set (R537). -/
def spiUnknownCommand (c : Byte) (s : State) : State :=
  if !spiAnswers s then linksMod (fun l => { l with miso := [] }) s
  else if c = 0x05 then spiReadStatus s
  else if c = 0x02 then spiWriteFrame [] s
  else if c = 0x03 then spiReadFrame 0 s
  else linksMod (fun l => { l with miso := [0], fmtErr := true }) s

def execSpiUnknownCommand (c : Byte) (s : State) : Out := .next (spiUnknownCommand c s)

/-! ### The UART (R42) -/

/-- The bytes of a frame without its escapes; none when it ends in one. -/
def unescape : List Byte → Option (List Byte)
  | [] => some []
  | [b] => if b = 0x7D then none else some [b]
  | b :: c :: r => if b = 0x7D then (unescape r).map (fun l => (c ^^^ 0x20) :: l) else (unescape (c :: r)).map (fun l => b :: l)

/-- The bytes between two flags. -/
def uartFrameReceive (bytes : List Byte) (s : State) : State :=
  if !answers .uart s then s
  else
    let bad := s.dBump 0x1100 0x42
    match unescape bytes with
    | none => bad
    | some b =>
      match readFrame b with
      | .pdus ps => if b.length = leNat (b.take 2) + 6 then takeAll .uart 0 ps s else bad
      | _ => bad

def execUartFrameReceive (bytes : List Byte) (s : State) : Out := .next (uartFrameReceive bytes s)

/-! ### A segmented transfer that nothing continues (R29) -/

/-- The device aborts a transfer: an ABORT PDU with status ABORTED goes to whoever sent the segments. -/
def segmentTimeout (src : Src) (tid : Byte) (s : State) : State :=
  match takeFirst (fun x : Xfer => x.src == src && x.tid == tid) s.links.xfers with
  | none => s
  | some (x, rest) =>
    let p : Pdu := { op := 8, tid := tid, index := x.index, sub := x.sub, node := x.node, status := stAborted }
    respondTo s { src := src, pdu := p, mac := x.mac } p (linksMod (fun l => { l with xfers := rest }) s)

def execSegmentTimeout (src : Src) (tid : Byte) (s : State) : Out := .next (segmentTimeout src tid s)

/-! ### The heartbeat (R48, R49) -/

def heartbeatTick (s : State) : State :=
  if !heartbeatRuns s then s
  else
    let s := s.dPut 0x1200 3 ((s.dU 0x1200 3 + 1) % 2 ^ 32)
    if s.dU 0x1100 2 = 1 then s.notify 0x1200 3 stOk (s.dGet 0x1200 3) else s

def execHeartbeatTick (s : State) : Out := .next (heartbeatTick s)

/-! ### DTP over the air (R21, R45 to R47) -/

/-- The PDU of a mesh frame on port 0x01. -/
def framePdu (f : MeshFrame) : Option Pdu := (pduOf f.payload).map (·.1)

/-- A frame that carries a response, as a proxy awaits it. -/
def isReply (f : MeshFrame) : Bool :=
  match framePdu f with
  | some p => p.op == 3 || p.op == 4
  | none => false

/-- The response is the one that a request that has left awaits. -/
def ProxyReq.awaits (r : ProxyReq) (f : MeshFrame) : Bool :=
  match framePdu f with
  | some p => r.left && r.same (BitVec.ofNat 18 (lhSource f.lh)) p.index p.sub && p.op == (if r.write then 4 else 3)
  | none => false

/-- PROXY_REPLY: the next response that no tunnel slot awaits goes to the proxy request that does, or nowhere; or a request to a node
ends because its reply's tag failed (R45). -/
def proxyReply (bad : Option (BitVec 18)) (s : State) : State :=
  match bad with
  | some node =>
    (match proxyTake (fun r => r.slot == 0 && r.left && r.node == node) s with
      | some (r, s) => proxyFail r stAuthFail s
      | none => s)
  | none =>
    match takeFirst (fun f => isReply f && !s.links.proxies.any (fun r => r.slot != 0 && r.awaits f)) s.cwy.inbox with
    | none => s
    | some (f, rest) =>
      let s := cwyMod (fun c => { c with inbox := rest }) s
      match proxyTake (fun r => r.slot == 0 && r.awaits f) s, framePdu f with
      | some (r, s), some p => proxyAnswer r p s
      | _, _ => s

def execProxyReply (bad : Option (BitVec 18)) (s : State) : Out := .next (proxyReply bad s)

/-- PROXY_TIMEOUT: the oldest pending proxy request has waited its time (R46). -/
def proxyTimeout (s : State) : State :=
  match proxyTake (fun r => r.slot == 0) s with
  | some (r, s) => proxyLate r s
  | none => s

def execProxyTimeout (s : State) : Out := .next (proxyTimeout s)

/-- AIR_RESULT: how a tunnelled request ends (R47). -/
def airResult (n : Nat) (how : AirEnd) (s : State) : State :=
  match how with
  | .late => (match proxyTake (fun r => r.slot == n) s with
    | some (r, s) => proxyLate r s
    | none => s)
  | .badTag => (match proxyTake (fun r => r.slot == n && r.left) s with
    | some (r, s) => proxyFail r stAuthFail s
    | none => s)
  | .reply =>
    match takeFirst (fun f => s.links.proxies.any (fun r => r.slot == n && r.awaits f)) s.cwy.inbox with
    | none => s
    | some (f, rest) =>
      let s := cwyMod (fun c => { c with inbox := rest }) s
      match proxyTake (fun r => r.slot == n && r.awaits f) s, framePdu f with
      | some (r, s), some p => proxyAnswer r p s
      | _, _ => s

def execAirResult (slot : Fin 16) (how : AirEnd) (s : State) : Out := .next (airResult (slot.1 + 1) how s)

/-- REMOTE_DTP_REQUEST: the next request that came over the air is served under remote-class access; a broadcast one is a WRITE and is not
answered (R21, R45, R47). -/
def remoteDtpRequest (s : State) : State :=
  match takeFirst (fun f => !isReply f) s.cwy.inbox with
  | none => s
  | some (f, rest) =>
    let s := serveAll (cwyMod (fun c => { c with inbox := rest }) s)
    match framePdu f with
    | none => s
    | some p =>
      if !answers .air s then s
      else if lhDest f.lh = 0x3FFFF then (if p.op = 2 then execute {} { src := .air, pdu := p } s else s)
      else execute {} { src := .air, pdu := p, mac := BitVec.ofNat 48 (lhSource f.lh) } s

def execRemoteDtpRequest (s : State) : Out := .next (remoteDtpRequest s)

end Sys2Proof.Machine
end

