-- ==== Sys2Proof/Machine/Writes.lean ====
section
/-! DEFINITION. The commands that name a request of the dictionary, and those of them that a register takes as well (R19 to R50 and the chapters'
request entries). -/

namespace Sys2Proof.Machine

/-! ### DTP requests (R27 to R30, R45) -/

def execRead (src : Src) (tid : Byte) (index : BitVec 16) (sub : Byte) (node : BitVec 18) (s : State) : Out :=
  .next (request {} { src := src, pdu := { op := 1, tid := tid, index := index, sub := sub, node := node } } s)

def execSegRead (src : Src) (tid : Byte) (index : BitVec 16) (sub : Byte) (node : BitVec 18) (off : BitVec 32) (s : State) : Out :=
  .next (request {} { src := src
                      pdu := { op := 1, seg := true, tid := tid, index := index, sub := sub, node := node, data := leBytes 4 off.toNat } } s)

def execWrite (src : Src) (tid : Byte) (index : BitVec 16) (sub : Byte) (node : BitVec 18) (data : List Byte) (s : State) : Out :=
  .next (request {} { src := src, pdu := { op := 2, tid := tid, index := index, sub := sub, node := node, data := data } } s)

/-- A WRITE PDU with SEG 1. -/
def segPdu (tid : Byte) (index : BitVec 16) (sub : Byte) (node : BitVec 18) (off : BitVec 32) (last : Bool) (data : List Byte) : Pdu :=
  { op := 2, seg := true, last := last, tid := tid, index := index, sub := sub, node := node, data := leBytes 4 off.toNat ++ data }

def execSegWrite (src : Src) (tid : Byte) (index : BitVec 16) (sub : Byte) (node : BitVec 18) (off : BitVec 32) (last : Bool) (data : List Byte)
    (s : State) : Out :=
  .next (request {} { src := src, pdu := segPdu tid index sub node off last data } s)

def execDtpAbort (src : Src) (tid : Byte) (index : BitVec 16) (sub : Byte) (node : BitVec 18) (s : State) : Out :=
  .next (request {} { src := src, pdu := { op := 8, tid := tid, index := index, sub := sub, node := node } } s)

def execBadOpRequest (src : Src) (op : BitVec 4) (tid : Byte) (index : BitVec 16) (sub : Byte) (node : BitVec 18) (s : State) : Out :=
  .next (request {} { src := src, pdu := { op := op, tid := tid, index := index, sub := sub, node := node } } s)

/-- The index is a proxy index as it stands in the request. -/
def execProxyRead (src : Src) (tid : Byte) (index : BitVec 16) (sub : Byte) (node : BitVec 18) (s : State) : Out :=
  .next (request {} { src := src, pdu := { op := 1, tid := tid, index := index, sub := sub, node := node } } s)

def execProxyWrite (src : Src) (tid : Byte) (index : BitVec 16) (sub : Byte) (node : BitVec 18) (data : List Byte) (s : State) : Out :=
  .next (request {} { src := src, pdu := { op := 2, tid := tid, index := index, sub := sub, node := node, data := data } } s)

def execProxyBroadcastWrite (src : Src) (tid : Byte) (index : BitVec 16) (sub : Byte) (data : List Byte) (s : State) : Out :=
  .next (request {} { src := src, pdu := { op := 2, tid := tid, index := index, sub := sub, node := 0x3FFFF, data := data } } s)

def execAirRequest (src : Src) (tid : Byte) (slot : Fin 16) (v : List Byte) (s : State) : Out :=
  .next (hostWrite {} src tid 0x1101 (BitVec.ofNat 8 (slot.1 + 1)) v s)

/-! ### Role, links and functions -/

def execRoleWrite (src : Src) (tid : Byte) (v : Byte) (s : State) : Out :=
  .next (hostWrite {} src tid 0x1200 1 [v] s)

def execSaveSettings (src : Src) (tid : Byte) (v : BitVec 32) (s : State) : Out :=
  .next (hostWrite {} src tid 0x1100 3 (leBytes 4 v.toNat) s)

def execCanApply (src : Src) (tid : Byte) (can1 : Bool) (v : BitVec 32) (s : State) : Out :=
  .next (hostWrite {} src tid 0x1100 (if can1 then 0x1F else 0x15) (leBytes 4 v.toNat) s)

def execT1sApply (src : Src) (tid : Byte) (v : BitVec 32) (s : State) : Out :=
  .next (hostWrite {} src tid 0x1100 0x25 (leBytes 4 v.toNat) s)

def execSpiQuadWrite (src : Src) (tid : Byte) (v : Bool) (s : State) : Out :=
  .next (hostWrite {} src tid 0x1100 0x31 [BitVec.ofNat 8 (b2n v)] s)

def execUartRateWrite (src : Src) (tid : Byte) (v : BitVec 32) (s : State) : Out :=
  .next (hostWrite {} src tid 0x1100 0x41 (leBytes 4 v.toNat) s)

def execFnReinit (src : Src) (tid : Byte) (n : Fin 20) (v : BitVec 32) (s : State) : Out :=
  .next (hostWrite {} src tid 0x1202 (BitVec.ofNat 8 (n.1 + 1)) (leBytes 4 v.toNat) s)

def execDeviceResetWrite (src : Src) (tid : Byte) (v : BitVec 32) (s : State) : Out :=
  .next (hostWrite {} src tid 0x1203 1 (leBytes 4 v.toNat) s)

/-! ### Timebase, waveform and radio -/

def execNetCycleWrite (src : Src) (tid : Byte) (at_ : Bool) (v : BitVec 32) (s : State) : Out :=
  .next (hostWrite {} src tid 0x2000 (if at_ then 3 else 2) (leBytes 4 v.toNat) s)

def execRegionPlanWrite (src : Src) (tid : Byte) (v : Byte) (s : State) : Out :=
  .next (hostWrite {} src tid 0x2200 1 [v] s)

def execNetworkIdWrite (src : Src) (tid : Byte) (v : BitVec 16) (s : State) : Out :=
  .next (hostWrite {} src tid 0x2200 3 (leBytes 2 v.toNat) s)

def execChannelMaskWrite (src : Src) (tid : Byte) (v : List Byte) (s : State) : Out :=
  .next (hostWrite {} src tid 0x2200 2 v s)

def execWaveformTestRequest (src : Src) (tid : Byte) (v : BitVec 32) (s : State) : Out :=
  .next (hostWrite {} src tid 0x2200 0x15 (leBytes 4 v.toNat) s)

def execCalRequest (src : Src) (tid : Byte) (v : BitVec 32) (s : State) : Out :=
  .next (hostWrite {} src tid 0x2100 0x11 (leBytes 4 v.toNat) s)

def execAntFaultClear (src : Src) (tid : Byte) (s : State) : Out :=
  .next (hostWrite {} src tid 0x2100 0x24 [0] s)

def execDpdSave (src : Src) (tid : Byte) (v : BitVec 32) (s : State) : Out :=
  .next (hostWrite {} src tid 0x2200 0x46 (leBytes 4 v.toNat) s)

def execDpdCoefWrite (src : Src) (tid : Byte) (v : List Byte) (s : State) : Out :=
  .next (hostWrite {} src tid 0x2200 0x45 v s)

/-! ### Link controller, Causeway and the roster -/

/-- Without a source: a write of LNK_SCHED_APPLY (R214). -/
def execSchedApply (src : Option Src) (tid : Byte) (v : BitVec 32) (s : State) : Out :=
  match src with
  | some src => .next (hostWrite {} src tid 0x2312 3 (leBytes 4 v.toNat) s)
  | none => .next (if s.isOn dRADIO && bit v.toNat 0 then (schedApply s).2 else s)

/-- Without a source: a write of CWY_COMMIT (R251). -/
def execRouteCommit (src : Option Src) (tid : Byte) (v : BitVec 32) (s : State) : Out :=
  match src with
  | some src => .next (hostWrite {} src tid 0x2400 2 (leBytes 4 v.toNat) s)
  | none => .next (if s.isOn dCWY && bit v.toNat 0 then (routeCommit s).2 else s)

def execRosterOpRequest (src : Src) (tid : Byte) (v : BitVec 32) (s : State) : Out :=
  .next (hostWrite {} src tid 0x2500 8 (leBytes 4 v.toNat) s)

def execRestoreRequest (src : Src) (tid : Byte) (v : BitVec 32) (s : State) : Out :=
  .next (hostWrite {} src tid 0x2500 0x12 (leBytes 4 v.toNat) s)

/-! ### Security -/

def execKeyWrite (src : Src) (tid : Byte) (sub : Fin 7) (v : List Byte) (s : State) : Out :=
  .next (hostWrite {} src tid 0x3000 (BitVec.ofNat 8 (0x10 + sub.1)) v s)

def execKeyChangeRequest (src : Src) (tid : Byte) (v : BitVec 32) (s : State) : Out :=
  .next (hostWrite {} src tid 0x3000 6 (leBytes 4 v.toNat) s)

def execKeyNextWrite (src : Src) (tid : Byte) (v : List Byte) (s : State) : Out :=
  .next (hostWrite {} src tid 0x1010 1 v s)

def execNetNextWrite (src : Src) (tid : Byte) (v : List Byte) (s : State) : Out :=
  .next (hostWrite {} src tid 0x1010 2 v s)

def execWrapRequest (src : Src) (tid : Byte) (v : BitVec 32) (s : State) : Out :=
  .next (hostWrite {} src tid 0x3000 0x21 (leBytes 4 v.toNat) s)

def execKeyErase (src : Src) (tid : Byte) (v : BitVec 32) (s : State) : Out :=
  .next (hostWrite {} src tid 0x3000 9 (leBytes 4 v.toNat) s)

def execCustKeyHashWrite (src : Src) (tid : Byte) (k : Fin 4) (v : List Byte) (got : BitVec 32) (s : State) : Out :=
  .next (hostWrite { got := some got } src tid 0x3001 (BitVec.ofNat 8 (k.1 + 1)) v s)

def execCustKeyRevoke (src : Src) (tid : Byte) (v : Byte) (got : BitVec 32) (s : State) : Out :=
  .next (hostWrite { got := some got } src tid 0x3001 5 [v] s)

def execRollbackMinWrite (src : Src) (tid : Byte) (c : Fin 4) (v : Byte) (got : BitVec 32) (s : State) : Out :=
  .next (hostWrite { got := some got } src tid 0x3002 (BitVec.ofNat 8 (c.1 + 1)) [v] s)

def execDebugLockWrite (src : Src) (tid : Byte) (v : Bool) (got : BitVec 32) (s : State) : Out :=
  .next (hostWrite { got := some got } src tid 0x3003 1 [BitVec.ofNat 8 (b2n v)] s)

def execAttRequest (src : Src) (tid : Byte) (v : BitVec 32) (s : State) : Out :=
  .next (hostWrite {} src tid 0x1001 2 (leBytes 4 v.toNat) s)

def execSecurityTestRequest (src : Src) (tid : Byte) (v : BitVec 32) (s : State) : Out :=
  .next (hostWrite {} src tid 0x3000 0x34 (leBytes 4 v.toNat) s)

/-! ### Memory, calendar and power -/

def execDramColdWrite (src : Src) (tid : Byte) (v : Bool) (s : State) : Out :=
  .next (hostWrite {} src tid 0x3200 0x2A [BitVec.ofNat 8 (b2n v)] s)

def execRtcSecondsWrite (src : Src) (tid : Byte) (v : BitVec 32) (s : State) : Out :=
  .next (hostWrite {} src tid 0x3300 1 (leBytes 4 v.toNat) s)

def execRtcFlagsClear (src : Src) (tid : Byte) (v : BitVec 32) (s : State) : Out :=
  .next (hostWrite {} src tid 0x3300 4 (leBytes 4 v.toNat) s)

def execPowerCycle (src : Src) (tid : Byte) (v : BitVec 32) (s : State) : Out :=
  .next (hostWrite {} src tid 0x3300 8 (leBytes 4 v.toNat) s)

/-- Without a source: a write of PCC_DOMn (R448). -/
def execDomainReq (src : Option Src) (tid : Byte) (d : Fin 24) (v : Byte) (s : State) : Out :=
  match src with
  | some src => .next (hostWrite {} src tid 0x3401 (BitVec.ofNat 8 (d.1 + 1)) [v] s)
  | none => .next (domainReg d (v.toNat % 4) s)

/-! ### Updates -/

def execStageBegin (src : Src) (tid : Byte) (v : BitVec 32) (s : State) : Out :=
  .next (hostWrite {} src tid 0x3500 1 (leBytes 4 v.toNat) s)

def execStageData (src : Src) (tid : Byte) (off : BitVec 32) (last : Bool) (data : List Byte) (s : State) : Out :=
  .next (request {} { src := src, pdu := segPdu tid 0x3500 2 0 off last data } s)

def execStageVerify (src : Src) (tid : Byte) (v : BitVec 32) (s : State) : Out :=
  .next (hostWrite {} src tid 0x3500 3 (leBytes 4 v.toNat) s)

def execConfirm (src : Src) (tid : Byte) (v got : BitVec 32) (s : State) : Out :=
  .next (hostWrite { got := some got } src tid 0x3500 0x10 (leBytes 4 v.toNat) s)

def execActivateNow (src : Src) (tid : Byte) (v : BitVec 32) (s : State) : Out :=
  .next (hostWrite {} src tid 0x3500 0x16 (leBytes 4 v.toNat) s)

def execHoRequest (src : Src) (tid : Byte) (v : BitVec 32) (s : State) : Out :=
  .next (hostWrite {} src tid 0x3500 0x23 (leBytes 4 v.toNat) s)

def execActRequest (src : Src) (tid : Byte) (v : BitVec 32) (s : State) : Out :=
  .next (hostWrite {} src tid 0x3500 0x32 (leBytes 4 v.toNat) s)

def execActCancel (src : Src) (tid : Byte) (v : BitVec 32) (s : State) : Out :=
  .next (hostWrite {} src tid 0x3500 0x35 (leBytes 4 v.toNat) s)

/-! ### Health and redundancy -/

/-- Without a source: a write of HMON_INJ (R480, R513). -/
def execInjectReport (src : Option Src) (tid : Byte) (v : BitVec 32) (s : State) : Out :=
  match src with
  | some src => .next (hostWrite {} src tid 0x3600 0x64 (leBytes 4 v.toNat) s)
  | none => .next (injectReg v s.rxNow s)

def execInjectAct (src : Option Src) (tid : Byte) (v : BitVec 32) (now : Nat) (s : State) : Out :=
  match src with
  | some src => .next (hostWrite { now := some now } src tid 0x3600 0x64 (leBytes 4 v.toNat) s)
  | none => .next (injectReg v now s)

def execShutdown (src : Src) (tid : Byte) (v : BitVec 32) (s : State) : Out :=
  .next (hostWrite {} src tid 0x3600 0x50 (leBytes 4 v.toNat) s)

/-- Without a source: a write of 1 to START_ROLL of BIST_CTRL (R495). -/
def execRollRequest (src : Option Src) (tid : Byte) (v : BitVec 32) (now : Nat) (s : State) : Out :=
  match src with
  | some src => .next (hostWrite { now := some now } src tid 0x3600 0x52 (leBytes 4 v.toNat) s)
  | none => .next (if bit v.toNat 0 then (rollStart false now s).2 else s)

def execTwinSwitch (src : Src) (tid : Byte) (v : BitVec 32) (s : State) : Out :=
  .next (hostWrite {} src tid 0x3700 0x19 (leBytes 4 v.toNat) s)

end Sys2Proof.Machine
end

