-- ==== Sys2Proof/Machine/RegBus.lean ====
section
/-! DEFINITION. Registers as a bus master reads and writes them (R16, R17): the views of each block, the effects of its access codes, and the
locks. -/

namespace Sys2Proof.Machine

/-- What a read gives, with what it changes. -/
abbrev RegOut := BitVec 32 × State

/-! ### Which blocks answer, and the locks -/

/-- The block at a 64 KiB page of the peripheral space, and the domain that it lies in (R425); none when no block has its base there. -/
def pageDomain (p : Nat) : Option (Fin 24) :=
  match p with
  | 0x4000 => some dAON | 0x4001 => some dAON | 0x4002 => some dBKP | 0x4003 => some dAON | 0x4004 => some dAON | 0x4005 => some dAON
  | 0x4006 => some dFLASH | 0x4007 => some dDRAM | 0x4008 => some dSEC | 0x4009 => some dSEC | 0x400A => some dAON | 0x400B => some dAON
  | 0x4010 => some dRADIO | 0x4011 => some dCAPTURE | 0x4012 => some dLANE0 | 0x4013 => some dLDC0 | 0x4014 => some dRADIO
  | 0x4015 => some dRADIO | 0x4016 => some dCWY | 0x4017 => some dRADIO
  | 0x4020 => some dHOSTIO | 0x4021 => some dHOSTIO | 0x4022 => some dHOSTIO | 0x4023 => some dHOSTIO | 0x4024 => some dPLK
  | _ => none

/-- A peripheral address whose block answers (R364, R425, log entry 5). The front end answers in every state: while RADIO is not ON its
command register ignores writes (R536). -/
def periphMapped (a : Nat) (s : State) : Bool :=
  if a / 0x10000 = 0x4010 then true else
  match pageDomain (a / 0x10000) with
  | some d => s.isOn d
  | none => false

/-- The register that holds a block's LOCK, and the pages that it locks: ACQ, LANE and LDC have one lock among them (R190). -/
def lockRegs (p : Nat) : List Nat :=
  match p with
  | 0x4010 => [0x40100000]
  | 0x4011 => [0x40110000, 0x4012A000, 0x40130000]
  | 0x4012 => [0x40110000, 0x4012A000, 0x40130000]
  | 0x4013 => [0x40110000, 0x4012A000, 0x40130000]
  | 0x4014 => [0x40140000] | 0x4015 => [0x40150000] | 0x4016 => [0x40160000] | 0x4017 => [0x40170000]
  | 0x4007 => [0x40070000] | 0x400A => [0x400A0000] | 0x400B => [0x400A0000] | 0x4024 => [0x40240000]
  | _ => []

/-- The RWL registers of a page are locked (R16). -/
def State.locked (s : State) (p : Nat) : Bool :=
  if p = 0x4005 then s.ptb.lock else if p = 0x4000 then s.pcc.lock else (lockRegs p).any (fun a => s.regB a 0)

/-! ### Registers held by address -/

/-- What a register shows of the present state of its block: the fields no entry and no stored value gives. -/
def liveReg (a : Nat) (v : Nat) (s : State) : Nat :=
  let nb := b2n (s.role == 1 || s.role == 2)
  let own := b2n (s.owns dRADIO)
  if a = 0x40100000 then putField v 1 1 own
  else if a = 0x40100004 then s.rfsState
  else if a = 0x40100068 then (if s.dU 0x2100 0x30 = 1 then putField v 0 0 0 else v)
  else if a = 0x4012A000 then putField (putField v 8 8 own) 1 1 nb
  else if a = 0x40140000 then putField (putField v 2 2 own) 3 3 nb
  else if a = 0x40140004 then
    putField (putField v 4 4 (b2n (!s.txm.burst.isEmpty && !s.txm.onAir))) 5 5 (b2n s.txm.fit.isSome)
  else if a = 0x40150008 then min 0xFFFFFFFF s.guard
  else if a = 0x40160050 then s.storeSlots - s.slu.used.length
  else if a = 0x40170000 then putField v 2 2 (b2n s.single)
  else if a = 0x40170008 then s.slu.v % 2 ^ 32
  else if a = 0x4017000C then s.slu.v / 2 ^ 32 % 2 ^ 16
  else if 0x40170100 ≤ a ∧ a < 0x40170240 ∧ a % 16 = 12 then
    let q : Fin 20 := Fin.ofNat 20 ((a - 0x40170100) / 16)
    let l := vget s.slu.queues q
    min 0xFFFF l.length + 0x10000 * b2n (!l.isEmpty) +
      0x20000 * (match l with | f :: _ => b2n (!s.shaperHolds q f) | [] => 0)
  else if 0x40170400 ≤ a ∧ a < 0x40170418 then vget s.bkt.duty (Fin.ofNat 6 ((a - 0x40170400) / 4)) / 0x100000
  else if 0x40170500 ≤ a ∧ a < 0x40170700 then vget s.bkt.dwell (Fin.ofNat 128 ((a - 0x40170500) / 4)) / 0x100000
  else if a = 0x40060004 then flashWs s + 16 * b2n s.pcc.lowBand
  else v

/-- The frame that a physical lane holds, with its logical number. -/
def laneAt (p : Nat) (s : State) : Option (Fin 32) := (fins 32).find? (fun l => (vget s.rx.laneMap l).map (·.1) == some p)

/-- STATE of LANE_STATE for a frame. -/
def stageNumber : RxStage → Nat
  | .sync => 2 | .header => 3 | .headerSent => 3 | .headerBack => 3 | .payload => 4
  | _ => 0

/-- A lane's page (R190): LANE_STATE, LANE_FRAME, LANE_FREQ and LANE_SNR. A narrowband lane 0 without a frame searches while the sequencer
receives (R182). -/
def laneReg (p o : Nat) (s : State) : Nat :=
  match laneAt p s with
  | none => if o = 0 then (if s.rx.laneRetired.any (fun q => q.1 == p) then 5 else 0) else 0
  | some l =>
    match (vget s.rx.lanes l).bind s.frame with
    | none =>
      if o = 0 then 2 ^ 31 + l.1 * 2 ^ 24 + (if l.1 = 0 ∧ (s.role = 1 ∨ s.role = 2) ∧ s.rf.st = 4 then 1 else 0) else 0
    | some f =>
      if o = 0 then
        2 ^ 31 + l.1 * 2 ^ 24 + f.level % 4 * 2 ^ 22 + f.m % 8 * 2 ^ 16 + f.chan % 256 * 2 ^ 8 +
          16 * b2n (f.regen == .subtract || f.regen == .over) + 8 * b2n f.replay + stageNumber f.stage
      else if o = 4 then (if f.numbered then f.number.toNat else 0)
      else if o = 8 then unsigned 32 f.freq
      else unsigned 16 f.snr

/-- Entry of a schedule register: words 0 and 1 are SG_TIME, word 2 SG_KIND (R241). -/
def sgReg (a : Nat) (s : State) : Option Nat :=
  if 0x40150400 ≤ a ∧ a < 0x40150800 then
    let i := (a - 0x40150400) / 16
    if a % 16 = 0 then some (s.dU 0x2310 (i + 1) % 2 ^ 32)
    else if a % 16 = 4 then some (s.dU 0x2310 (i + 1) / 2 ^ 32)
    else if a % 16 = 8 then some (s.dU 0x2311 (i + 1)) else none
  else none

/-- A register held by address, as a read returns it: its stored bits, the entries it shows, and what it shows live. -/
def plainView (a : Nat) (s : State) : BitVec 32 :=
  if 0x40120000 ≤ a ∧ a < 0x40129000 ∧ a % 0x400 < 16 then BitVec.ofNat 32 (laneReg ((a - 0x40120000) / 0x400) (a % 0x400) s)
  else match sgReg a s with
    | some v => BitVec.ofNat 32 v
    | none => BitVec.ofNat 32 (liveReg a (s.regView a).toNat s)

/-- A read under the access codes: RC bits are cleared by it (R16). -/
def plainRead (a : Nat) (s : State) : RegOut :=
  match regRow a with
  | none => (0, s)
  | some r => (plainView a s, if r.rc = 0 then s else s.setReg a (s.reg a &&& ~~~(BitVec.ofNat 32 r.rc)))

/-- The bits that a write may set in a register, with its block's lock as it is. -/
def writable (r : RegRow) (a : Nat) (s : State) : Nat := r.rw ||| (if s.locked (a / 0x10000) then 0 else r.rwl)

/-- A shown field written through its register, with what its entry's write starts. PLK_KEY_SLOT 15 is the entry's 255 (R500). -/
def mirrorPut (m : Mir) (v : Nat) (s : State) : State :=
  let x := if m.idx = 0x3700 ∧ m.sub = 3 ∧ v = 15 then 255 else v
  let s := m.put x s
  storedEffect m.idx m.sub (s.dGet m.idx m.sub) s

/-- A write under the access codes (R16): RW and unlocked RWL bits take the value, W1C clears, W1S sets, and the rest is ignored. -/
def plainWrite (a : Nat) (v : BitVec 32) (s : State) : State :=
  match regRow a with
  | none => s
  | some r =>
    let w := writable r a s
    let old := (s.reg a).toNat
    let x := v.toNat
    let new := (old &&& (0xFFFFFFFF ^^^ (w ||| r.w1c ||| r.w1s))) ||| (x &&& w) ||| (old &&& r.w1c &&& (0xFFFFFFFF ^^^ x)) |||
      ((old ||| x) &&& r.w1s)
    let s := s.setRegN a new
    (mirrorsOf a).foldl (fun s m => if bit w m.lo then mirrorPut m (field x m.hi m.lo) s else s) s

/-! ### The timebase (R84, R85) -/

/-- PDn_CFG. -/
def pdCfg (n : Fin 4) (s : State) : Nat :=
  if n.1 < 2 then
    putField (s.regN (0x40050110 + 0x40 * n.1)) 2 0
      (if n = 0 then 0 else match s.pd1Source with | .free => 0 | .geared => 1 | .air => 2 | .peer => 3)
  else
    s.dU 0x2000 (refEntry n 3) * 2 ^ 16 + s.dU 0x2000 (refEntry n 5) * 2 ^ 8 + s.dU 0x2000 (refEntry n 4) % 16 * 2 ^ 4 + s.refSrc n % 8

/-- PDn_STAT. -/
def pdStat (n : Fin 4) (s : State) : Nat :=
  let d := vget s.ptb.pd n
  d.indexErr.toNat * 2 ^ 16 + b2n d.qerr * 2 ^ 8 + b2n d.stepped * 2 ^ 7 + b2n s.ptb.lf * 2 ^ 6 + b2n d.glitch * 2 ^ 5 +
    b2n d.indexEv * 2 ^ 4 + b2n d.backward * 2 ^ 3 + b2n d.resumeEv * 2 ^ 2 + b2n d.stallEv * 2 + b2n d.stalled

/-- Reads of a phase domain's registers. -/
def pdRead (n : Fin 4) (o : Nat) (s : State) : RegOut :=
  let d := vget s.ptb.pd n
  let ref := 2 ≤ n.1
  match o with
  | 0x00 => (s.phaseRead n, pdPhaseRead n s)
  | 0x04 => if d.shadowed then (d.cycleShadow.zeroExtend 32, pdMod n (fun d => { d with shadowed := false }) s) else (d.rev.zeroExtend 32, s)
  | 0x08 => (BitVec.ofNat 32 (if n = 0 then rateFor (s.dU 0x2000 1) else if n = 1 then rateFor (s.dU 0x2000 2) else 0), s)
  | 0x0C => if d.velHeld then (d.velShadow, pdMod n (fun d => { d with velHeld := false }) s) else (s.velWord n, s)
  | 0x10 => (BitVec.ofNat 32 (pdCfg n s), s)
  | 0x18 => (BitVec.ofNat 32 (pdStat n s), s)
  | 0x1C => (if ref then BitVec.ofNat 32 (s.dU 0x2000 (refEntry n 1)) else 0, s)
  | 0x20 => (if ref then BitVec.ofNat 32 (s.refIndexPhase n) else 0, s)
  | 0x24 => (if n = 1 then BitVec.ofNat 32 (s.dU 0x2000 3) else 0, s)
  | _ => (0, s)

/-- A written rate as the period whose rate it is: round(2^51 / rate) microseconds, within the entry's range (R55). -/
def periodFor (rate lo hi : Nat) : Nat := max lo (min hi ((2 ^ 52 + rate) / (2 * max 1 rate)))

/-- Writes of a phase domain's registers that the lock covers (R84). -/
def pdSetting (n : Fin 4) (o v : Nat) (s : State) : State :=
  match o with
  | 0x08 =>
    if n = 0 then s.dPut 0x2000 1 (periodFor v 600000 0xFFFFFFFF)
    else if n = 1 then
      let us := periodFor v 1024000 655360000
      let (st, t) := netCycleWrite false us s
      if st = stOk then t.dPut 0x2000 2 us else s
    else s
  | 0x10 =>
    if n.1 < 2 then
      let s := s.setRegN (0x40050110 + 0x40 * n.1) (v &&& 0xFFFF01F0)
      if n = 1 ∧ field v 2 0 < 2 ∧ field v 2 0 ≠ s.dU 0x2000 4 then storedEffect 0x2000 4 [] (s.dPut 0x2000 4 (field v 2 0)) else s
    else
      let src := field v 2 0
      (((s.dPut 0x2000 (refEntry n 3) (field v 31 16)).dPut 0x2000 (refEntry n 5) (field v 8 8)).dPut 0x2000 (refEntry n 4)
        (field v 7 4)).dPut 0x2000 (refEntry n 0) (if 3 < src then 0 else src)
  | 0x1C => if 2 ≤ n.1 then s.dPut 0x2000 (refEntry n 1) v else s
  | 0x20 => if 2 ≤ n.1 then s.dPut 0x2000 (refEntry n 2) v else s
  | 0x24 =>
    if n = 1 then
      let at_ := v % 2 ^ 28
      let (st, t) := netCycleWrite true at_ s
      if st = stOk then t.dPut 0x2000 3 at_ else s
    else s
  | _ => s

/-- Writes of a phase domain's registers. -/
def pdWrite (n : Fin 4) (o : Nat) (v : BitVec 32) (s : State) : State :=
  let x := v.toNat
  if o = 0x14 then pdStepWrite n v s
  else if o = 0x18 then
    pdMod n (fun d => { d with
      qerr := d.qerr && !bit x 8, stepped := d.stepped && !bit x 7, glitch := d.glitch && !bit x 5, indexEv := d.indexEv && !bit x 4
      resumeEv := d.resumeEv && !bit x 2, stallEv := d.stallEv && !bit x 1 }) s
  else if s.ptb.lock then s else pdSetting n o x s

/-- CMPm_CFG. -/
def cmpCfgWord (m : Fin 16) (s : State) : Nat :=
  let c := vget s.ptb.cmp m
  b2n c.en * 2 ^ 31 + c.mode.1 * 2 ^ 29 + c.dir.1 * 2 ^ 27 + b2n c.abs * 2 ^ 26 + b2n c.skipDrop * 2 ^ 25 + b2n (s.cmpOwned m) * 2 ^ 24 + c.domain.1

/-- The next target that CMPm_TARGET reads: in DIVIDE the next division ahead, in the other modes of an armed comparator the target that it
watches. -/
def nextTarget (c : Comparator) (phase : BitVec 32) : BitVec 32 :=
  if !c.en then c.target
  else if c.mode = 2 then
    let div := c.step.toNat % 65536
    let k := divideCount div ((phase - c.target).toNat : Int)
    c.target + BitVec.ofNat 32 (k.toNat * 2 ^ 32 / max 1 div)
  else phase + BitVec.ofNat 32 c.dist

/-- Reads of a comparator's registers. -/
def cmpRead (m : Fin 16) (o : Nat) (s : State) : RegOut :=
  let c := vget s.ptb.cmp m
  match o with
  | 0x00 => (BitVec.ofNat 32 (cmpCfgWord m s), s)
  | 0x04 => (nextTarget c (vget s.ptb.pd c.domain).phase, s)
  | 0x08 => (c.cycle.zeroExtend 32, s)
  | 0x0C => (c.step, s)
  | 0x10 =>
    (BitVec.ofNat 32 (b2n c.fired * 2 ^ 31 + b2n c.skipped * 2 ^ 30 + b2n c.late * 2 ^ 29 + b2n c.ovr * 2 ^ 28 + c.skipCount % 256 * 2 ^ 16 +
      c.index.toNat), cmpMod m (fun c => { c with skipCount := 0 }) s)
  | _ => (0, s)

/-- Writes of a comparator's registers; those of the link controller's ignore cores while its domain is on (R83). -/
def cmpWrite (m : Fin 16) (o : Nat) (v : BitVec 32) (s : State) : State :=
  if s.cmpOwned m then s else
  match o with
  | 0x00 => cmpCfg m v s
  | 0x04 => cmpMod m (fun c => { c with target := v }) s
  | 0x08 => cmpMod m (fun c => { c with cycle := v.truncate 28 }) s
  | 0x0C => cmpMod m (fun c => { c with step := v }) s
  | 0x10 =>
    let x := v.toNat
    cmpMod m (fun c => { c with
      fired := c.fired && !bit x 31, skipped := c.skipped && !bit x 30, late := c.late && !bit x 29, ovr := c.ovr && !bit x 28 }) s
  | _ => s

def ptbRead (o : Nat) (s : State) : RegOut :=
  if 0x100 ≤ o ∧ o < 0x200 then pdRead (Fin.ofNat 4 ((o - 0x100) / 0x40)) ((o - 0x100) % 0x40) s
  else if 0x400 ≤ o ∧ o < 0x600 then cmpRead (Fin.ofNat 16 ((o - 0x400) / 0x20)) ((o - 0x400) % 0x20) s
  else match o with
    | 0x000 => (BitVec.ofNat 32 (16 * b2n s.ptb.lf + 2 * b2n s.ptb.lock), s)
    | 0x008 => (BitVec.ofInt 32 s.ptb.lfTrim, s)
    | 0x200 => (BitVec.ofNat 32 (s.dU 0x2000 8 * 256 + gearNum s.ptb.gear * 16 + s.dU 0x2000 9), s)
    | 0x204 => (BitVec.ofNat 32 (s.dU 0x2000 5), s)
    | 0x208 => (s.ptb.gearOffset, s)
    | 0x20C => (BitVec.ofNat 32 (s.dU 0x2000 7), s)
    | 0x210 => (BitVec.ofInt 32 s.ptb.gearErr, s)
    | _ => (0, s)

def ptbWrite (o : Nat) (v : BitVec 32) (s : State) : State :=
  let x := v.toNat
  if 0x100 ≤ o ∧ o < 0x200 then pdWrite (Fin.ofNat 4 ((o - 0x100) / 0x40)) ((o - 0x100) % 0x40) v s
  else if 0x400 ≤ o ∧ o < 0x600 then cmpWrite (Fin.ofNat 16 ((o - 0x400) / 0x20)) ((o - 0x400) % 0x20) v s
  else if o = 0 then
    let s := if bit x 1 then ptbMod (fun p => { p with lock := true }) s else s
    if bit x 0 then ptbSnap s else s
  else if s.ptb.lock then s
  else match o with
    | 0x200 => (s.dPut 0x2000 8 (field x 15 8)).dPut 0x2000 9 (field x 0 0)
    | 0x204 => s.dPut 0x2000 5 (field x 15 0)
    | 0x20C => s.dPut 0x2000 7 (field x 12 0)
    | _ => s

/-! ### Timers, the fabric and the backup domain -/

/-- TMRn_CTRL. -/
def tmrCtrl (t : Timer) : Nat :=
  t.outMode.1 * 2 ^ 12 + b2n t.pend.isSome * 2 ^ 11 + b2n t.run * 2 ^ 10 + b2n t.retrig * 2 ^ 9 + b2n t.chain * 2 ^ 8 + t.psc.1 * 2 ^ 4 +
    b2n t.oneShot * 2 ^ 3

/-- Reads of a timer unit's registers (R410, R413). -/
def tmrRead (n : Fin 8) (o : Nat) (s : State) : RegOut :=
  let t := vget s.tmr n
  let high := chained n s && n.1 % 2 == 1
  match o with
  | 0x00 => (BitVec.ofNat 32 (tmrCtrl t), s)
  | 0x04 => (t.trig, s)
  | 0x08 => (if high then t.countShadow else t.count, tmrCountLowRead n s)
  | 0x0C => (t.reload, s)
  | 0x10 => (t.cmpa, s)
  | 0x14 => (t.cmpaAct, s)
  | 0x18 => (t.cmpb, s)
  | 0x1C => (t.cmpbAct, s)
  | 0x20 => (if high then t.captShadow else t.capt, tmrCaptRead n false s)
  | 0x24 => (BitVec.ofNat 32 (b2n t.stOvr * 16 + b2n t.stCap * 8 + b2n t.stCmpb * 4 + b2n t.stCmpa * 2 + b2n t.stWrap), s)
  | _ => (0, s)

/-- TMRn_CTRL written (R405, R406, R408, R412): a running unit's ball follows a mode of 0 or 3 at once; START and STOP together leave the
unit stopped. -/
def tmrCtrlWrite (n : Fin 8) (x : Nat) (s : State) : State :=
  if inert n s then s else
  let s := tmod n (fun t =>
    let mode : Fin 4 := Fin.ofNat 4 (field x 13 12)
    { t with
      outMode := mode, retrig := bit x 9, chain := bit x 8 && n.1 % 2 == 0, psc := Fin.ofNat 16 (field x 7 4)
      pscAct := if t.run then t.pscAct else Fin.ofNat 16 (field x 7 4), oneShot := bit x 3
      out := if !t.run then t.out else if mode = 0 then false else if mode = 3 then true else t.out }) s
  if bit x 1 then timerStop n s else if bit x 0 then timerStart n 0 s else s

def tmrWrite (n : Fin 8) (o : Nat) (v : BitVec 32) (s : State) : State :=
  let x := v.toNat
  match o with
  | 0x00 => tmrCtrlWrite n x s
  | 0x04 => if inert n s then s else tmod n (fun t => { t with trig := v &&& 0x037F7F7F }) s
  | 0x0C => tmod n (fun t => { t with reload := v }) s
  | 0x10 => tmod n (fun t => { t with cmpa := v }) s
  | 0x18 => tmod n (fun t => { t with cmpb := v }) s
  | 0x24 =>
    tmod n (fun t => { t with
      stOvr := t.stOvr && !bit x 4, stCap := t.stCap && !bit x 3, stCmpb := t.stCmpb && !bit x 2, stCmpa := t.stCmpa && !bit x 1
      stWrap := t.stWrap && !bit x 0 }) s
  | _ => s

def evfMod (f : Evf → Evf) (s : State) : State := { s with evf := f s.evf }

/-- EVF_CHc_CFG's OWN: channels 56 to 63 while the link controller's domain is on (R403). -/
def chanOwned (c : Fin 64) (s : State) : Bool := decide (56 ≤ c.1) && s.owns dRADIO

def evfRead (a : Nat) (s : State) : RegOut :=
  let o := a % 0x10000
  if 0x100 ≤ o ∧ o < 0x200 then
    let c : Fin 64 := Fin.ofNat 64 ((o - 0x100) / 4)
    let x := vget s.evf.chans c
    (BitVec.ofNat 32 (b2n (chanOwned c s) * 256 + b2n x.fwdEn * 64 + x.fwd.1), s)
  else if 0x200 ≤ o ∧ o < 0x300 then
    let x := vget s.evf.chans (Fin.ofNat 64 ((o - 0x200) / 4))
    (BitVec.ofNat 32 (x.count.toNat * 2 ^ 16 + x.hop % 8 * 16 + b2n x.loop * 4 + b2n x.merged * 2 + b2n x.fired), s)
  else if 0x400 ≤ o ∧ o < 0x800 then (s.reg a ||| (if prodAssigned ((o - 0x400) / 4) then 0x80000000 else 0), s)
  else match o with
    | 0x10 => (BitVec.ofNat 32 (b2n s.evf.loop + 2 * b2n s.evf.merged), s)
    | 0x14 => (BitVec.ofNat 32 s.evf.loopRc, evfMod (fun e => { e with loopRc := 0 }) s)
    | 0x18 => (BitVec.ofNat 32 s.evf.mergedRc, evfMod (fun e => { e with mergedRc := 0 }) s)
    | _ => (0, s)

def evfWrite (a : Nat) (v : BitVec 32) (s : State) : State :=
  let o := a % 0x10000
  let x := v.toNat
  if o = 0 then evfFireWrite false v s
  else if o = 4 then evfFireWrite true v s
  else if o = 0x10 then evfMod (fun e => { e with loop := e.loop && !bit x 0, merged := e.merged && !bit x 1 }) s
  else if 0x100 ≤ o ∧ o < 0x200 then
    let c : Fin 64 := Fin.ofNat 64 ((o - 0x100) / 4)
    if chanOwned c s then s
    else evfMod (fun e => { e with chans := vmod e.chans c (fun k => { k with fwdEn := bit x 6 && field x 5 0 != c.1, fwd := chan (field x 5 0) }) }) s
  else if 0x200 ≤ o ∧ o < 0x300 then
    evfMod (fun e => { e with chans := vmod e.chans (Fin.ofNat 64 ((o - 0x200) / 4)) (fun k => { k with
      loop := k.loop && !bit x 2, merged := k.merged && !bit x 1, fired := k.fired && !bit x 0 }) }) s
  else if 0x400 ≤ o ∧ o < 0x800 then
    let p := (o - 0x400) / 4
    if 12 ≤ p ∧ p ≤ 15 ∧ s.owns dRADIO then s else plainWrite a v s
  else s

/-- Reads of the backup domain (R417, R419): BKP_SUBSEC latches the calendar; its count is below the model's steps and reads as a free
value (log entry 1). -/
def bkpRead (o : Nat) (s : State) : RegOut :=
  let b := s.bkp
  if 0x40 ≤ o ∧ o < 0x80 then (vget b.data (Fin.ofNat 16 ((o - 0x40) / 4)), s)
  else match o with
    | 0x00 => let u := s.fresh 15
      (u.zeroExtend 32, bkpSubsecRead u s.draw)
    | 0x04 => (b.latch.timeWord, s)
    | 0x08 => (b.latch.dateWord, s)
    | 0x0C => (b.ctrlWord, s)
    | 0x10 => (b.statWord, s)
    | 0x14 => (b.alarmTime, s)
    | 0x18 => (b.alarmDate, s)
    | 0x1C => (b.alarmMask, s)
    | 0x20 => (b.calTrim, s)
    | 0x28 => (b.cycle.zeroExtend 32 ||| (if b.cycleValid then 0x80000000 else 0), s)
    | _ => (0, s)

/-! ### The power and clock controller (R448) -/

/-- PCC_STAT. -/
def pccStat (p : Pcc) : Nat :=
  b2n p.roleLow * 128 + b2n p.band * 64 + b2n p.xoFail * 32 + b2n p.clkErr * 16 + b2n p.skip * 8 + b2n p.woke * 4 + b2n p.refused * 2 + b2n p.domDone

/-- PCC_CLK. -/
def pccClk (s : State) : Nat :=
  let p := s.pcc
  b2n p.sysAuto * 2 ^ 16 + (fins 4).foldl (fun a i => a + b2n (vget p.locked i) * 2 ^ (12 + i.1)) 0 + b2n p.xoRun * 2 ^ 8 + b2n p.sysPll * 2 ^ 7 +
    b2n p.xoWake * 2 ^ 5 + s.dU 0x3400 0x11 % 2 * 2 ^ 4 + b2n p.xoEn * 2 ^ 3 + s.dU 0x3400 0x10 % 4

/-- The sleep set from domain `lo`, two bits each. -/
def sleepWord (lo n : Nat) (s : State) : Nat :=
  (List.range n).foldl (fun a i => a + (vget s.pcc.sleepSet (Fin.ofNat 24 (lo + i))).1 * 4 ^ i) 0

/-- PCC_DOMn. -/
def pccDom (d : Fin 24) (s : State) : Nat :=
  (vget s.pcc.result d).toNat * 2 ^ 8 + b2n (s.pcc.changes.any (fun c => c.1 == d)) * 2 ^ 6 + domNum (vget s.pcc.dom d) * 2 ^ 4 + (vget s.pcc.req d).1

def pccRead (o : Nat) (s : State) : RegOut :=
  let p := s.pcc
  let n := fun v : Nat => ((BitVec.ofNat 32 v, s) : RegOut)
  if 0x100 ≤ o ∧ o < 0x160 then n (pccDom (Fin.ofNat 24 ((o - 0x100) / 4)) s)
  else if 0x200 ≤ o ∧ o < 0x260 then n (s.dU 0x3403 ((o - 0x200) / 4 + 1))
  else match o with
    | 0x00 => n (b2n p.lock)
    | 0x04 => n (pccStat p)
    | 0x08 => n (16 * b2n p.modeChange.isSome + b2n (p.modeChange.getD p.lp))
    | 0x0C => n (p.vmain % 4096 + 4096 * b2n p.lowBand)
    | 0x10 => n (s.dU 0x3400 3)
    | 0x14 => n (min 0xFFFF (s.estSum (fun d => vget p.dom d)))
    | 0x18 => (BitVec.ofNat 32 p.refusedRc, pccMod (fun p => { p with refusedRc := 0 }) s)
    | 0x20 => n (pccClk s)
    | 0x24 => (BitVec.ofNat 32 p.xoFailRc, pccMod (fun p => { p with xoFailRc := 0 }) s)
    | 0x30 => n (b2n p.armed + 2 * b2n p.sleepLp)
    | 0x34 => n (sleepWord 0 16 s)
    | 0x38 => n (sleepWord 16 8 s)
    | 0x3C => n p.wakeSet.toNat
    | 0x40 => n p.wakeEn.toNat
    | 0x44 => n p.wakeCause.toNat
    | 0x48 => n p.wakeMask.toNat
    | 0x4C => n p.wakePhase.toNat
    | 0x50 => n p.wakeRev.toNat
    | 0x54 => n (min 0xFFFF p.wakeLat)
    | 0x58 => n (s.dU 0x3404 1)
    | _ => n 0

/-- What needs the crystal apart from XO_EN (R438). -/
def xoNeeded (s : State) : Bool := (fins 4).any (fun p => pllWanted p s) || s.isOn dRADIO

/-- PCC_CLK written: SYS_DIV and XO_BYPASS are entries; clearing XO_EN while the crystal is needed is ignored with CLKERR (R437, R438,
R444). -/
def pccClkWrite (x : Nat) (s : State) : State :=
  let s := s.dPut 0x3400 0x10 (field x 1 0)
  let s := if s.pcc.lock then s else s.dPut 0x3400 0x11 (field x 4 4)
  let barred := s.pcc.xoEn && !bit x 3 && xoNeeded s
  clockUpdate (pccMod (fun p => { p with
    sysAuto := bit x 16, xoWake := bit x 5, xoEn := bit x 3 || barred, clkErr := p.clkErr || barred
    sysPll := p.sysPll || (bit x 16 && vget p.locked 0) }) s)

/-- PCC_STAT: its W1C bits. -/
def pccStatWrite (x : Nat) (s : State) : State :=
  pccMod (fun p => { p with
    roleLow := p.roleLow && !bit x 7, band := p.band && !bit x 6, clkErr := p.clkErr && !bit x 4, skip := p.skip && !bit x 3
    woke := p.woke && !bit x 2, refused := p.refused && !bit x 1, domDone := p.domDone && !bit x 0 }) s

/-- Fields of the sleep set written. -/
def sleepPut (lo n x : Nat) (s : State) : State :=
  pccMod (fun p => { p with sleepSet := (List.range n).foldl (fun w i => vset w (Fin.ofNat 24 (lo + i)) (Fin.ofNat 4 (field x (2 * i + 1) (2 * i)))) p.sleepSet }) s

def pccWrite (o : Nat) (v : BitVec 32) (s : State) : State :=
  let x := v.toNat
  if 0x100 ≤ o ∧ o < 0x160 then domainReg (Fin.ofNat 24 ((o - 0x100) / 4)) (x % 4) s
  else if 0x200 ≤ o ∧ o < 0x260 then (if s.pcc.lock then s else s.dPut 0x3403 ((o - 0x200) / 4 + 1) x)
  else match o with
    | 0x00 => if bit x 0 then pccMod (fun p => { p with lock := true }) s else s
    | 0x04 => pccStatWrite x s
    | 0x08 => regModeWrite (bit x 0) s
    | 0x10 => if s.pcc.lock then s else s.dPut 0x3400 3 (x % 2048)
    | 0x20 => pccClkWrite x s
    | 0x30 =>
      let s := pccMod (fun p => { p with sleepLp := bit x 1 }) s
      if bit x 0 then sleepArm s else s
    | 0x34 => sleepPut 0 16 x s
    | 0x38 => sleepPut 16 8 x s
    | 0x3C => pccMod (fun p => { p with wakeSet := v.truncate 24 }) s
    | 0x40 => pccMod (fun p => { p with wakeEn := v.truncate 28 ||| 0x0C000000 }) s
    | 0x58 => s.dPut 0x3404 1 (x % 256)
    | _ => s

/-! ### The security blocks -/

/-- KS_SLOTs, the epochs and the counters of page 4, or a register of any page that its owner reads; pages 0 and 1 have none (R300,
R319). -/
def cmcRegRead (m : Master) (a : Nat) (s : State) : RegOut :=
  let p : Fin 8 := Fin.ofNat 8 (a % 0x10000 / 0x1000)
  if ownsPage m p then plainRead a s else (0, cmcViol m p s)

/-- Writes of a CMC page: by another than its owner they are ignored and recorded (R300). -/
def cmcRegWrite (m : Master) (a : Nat) (v : BitVec 32) (s : State) : State :=
  let p : Fin 8 := Fin.ofNat 8 (a % 0x10000 / 0x1000)
  let o := a % 0x1000
  if !ownsPage m p then cmcViol m p s
  else if o = 0x60 then cmcCommand p (Fin.ofNat 8 v.toNat) s
  else if 0x40 ≤ o ∧ o < 0x60 then secMod (fun x => { x with pkey := vmod x.pkey p (fun k => vset k (Fin.ofNat 8 ((o - 0x40) / 4)) v) }) s
  else if p = 4 ∧ 0x800 ≤ o ∧ o < 0x820 then secMod (fun x => { x with stage := vset x.stage (Fin.ofNat 8 ((o - 0x800) / 4)) v }) s
  else if p = 4 ∧ o = 0x820 then forCore4 m (ksLoad v) s
  else if p = 4 ∧ o = 0x824 then forCore4 m (ksErase v) s
  else plainWrite a v s

/-- Writes of the PKE: the sign context is core 4's, the verify context its users' (R307, R320). -/
def pkeRegWrite (m : Master) (a : Nat) (v : BitVec 32) (s : State) : State :=
  let o := a % 0x10000
  if o = 0 then pkeCommand m false v.toNat s
  else if o = 0x800 then pkeCommand m true v.toNat s
  else if 0x800 ≤ o then (if masterId m = 4 then plainWrite a v s else pkeViol m s)
  else if pkeUser m then plainWrite a v s else pkeViol m s

/-! ### The core complex (R363) -/

/-- A write of the KZC that is ignored and counted, with its master. -/
def kzcViol (m : Master) (s : State) : State :=
  let a := 0x21180014
  (s.setRegN a (256 * masterId m + 0x10000 * satAdd 0xFFFF (s.regF a 31 16) 1)).flag kzcStat 4

/-- The master is the core that holds logical number 0, in system mode. -/
def kzcMaster (m : Master) (s : State) : Bool :=
  match m with
  | .core c _ => c == 0 && (match s.physOf 0 with | some p => (vget s.kz.phys p).sys | none => false)
  | _ => false

/-- CORE_CTRL of a logical core. -/
def coreCtrl (l : Fin 6) (s : State) : Nat :=
  match s.physOf l with
  | none => 8 + 2 + b2n (vget s.kz.run l)
  | some p => 4 * b2n (vget s.kz.phys p).waiting + 2 * b2n (vget s.kz.phys p).halted + b2n (vget s.kz.run l)

/-- Reads of the KZC. -/
def kzcRead (a : Nat) (s : State) : RegOut :=
  let o := a - 0x21180000
  if 0x100 ≤ o ∧ o < 0x1C0 then
    let l : Fin 6 := Fin.ofNat 6 ((o - 0x100) / 0x20)
    let v : BitVec 32 := match (o - 0x100) % 0x20 with
      | 0x00 => BitVec.ofNat 32 (coreCtrl l s)
      | 0x04 => vget s.kz.boot l
      | 0x08 => (match s.physOf l with | some p => (vget s.kz.phys p).ucvalid.zeroExtend 32 | none => 0)
      | 0x0C => BitVec.ofNat 32 (vget s.kz.cause l).1
      | 0x10 => vget s.kz.stopPc l
      | _ => 0
    (v, s)
  else if o = 0x0C then
    (BitVec.ofNat 32 (s.kz.swapCore.toNat + s.kz.swapChan.1 * 256 + b2n s.kz.swapArm * 2 ^ 31), s)
  else if o = 0x10 then (s.kz.swapResult.zeroExtend 32, s)
  else plainRead a s

/-- Writes of the KZC by its master. -/
def kzcPut (a : Nat) (v : BitVec 32) (s : State) : State :=
  let o := a - 0x21180000
  if 0x100 ≤ o ∧ o < 0x1C0 then
    let l : Fin 6 := Fin.ofNat 6 ((o - 0x100) / 0x20)
    match (o - 0x100) % 0x20 with
    | 0x00 => coreRunWrite l (bit v.toNat 0) s
    | 0x04 => { s with kz := { s.kz with boot := vset s.kz.boot l (v &&& ~~~3#32) } }
    | 0x08 => (match s.physOf l with | some p => kmod p (fun k => { k with ucvalid := v.truncate 16 }) s | none => s)
    | _ => s
  else if o = 0x0C then swapArm v s
  else plainWrite a v s

def kzcWrite (m : Master) (a : Nat) (v : BitVec 32) (s : State) : State := if kzcMaster m s then kzcPut a v s else kzcViol m s

/-- A word of the microcode RAM of the physical core that holds a logical number (R363). -/
def ucodeRead (l : Fin 6) (off : Nat) (s : State) : BitVec 32 :=
  match s.physOf l with
  | some p => (alGet (vget s.kz.phys p).ucode off).getD 0
  | none => 0

def ucodeWrite (m : Master) (l : Fin 6) (off : Fin 512) (v : BitVec 32) (s : State) : State :=
  if kzcMaster m s then microcodeWrite l off v s else kzcViol m s

/-! ### Storage, supervisor, health and the radio -/

/-- The address at which a rank's copy of a training register is kept: DMC_TR_CTRL names the rank (R395). -/
def trainReg (a : Nat) (s : State) : Option Nat :=
  let o := a % 0x10000
  if 0x120 ≤ o ∧ o < 0x1AC then
    let r := s.regF 0x40070100 1 0
    if r = 3 then none else if r = 0 then some a else some (a + 0x1000 * r)
  else some a

/-- Reads of the DMC: DMC_WL_FB is what the dice answer, a free value (log entry 1). -/
def dmcRead (a : Nat) (s : State) : RegOut :=
  if a = 0x40070114 then ((s.fresh 2).zeroExtend 32, s.draw)
  else if 0x40070200 ≤ a then (0, s)
  else match trainReg a s with
    | some b => if b = a then plainRead a s else (s.reg b, s)
    | none => (0, s)

def dmcWrite (a : Nat) (v : BitVec 32) (s : State) : State :=
  if 0x40070200 ≤ a then s
  else if a = 0x40070000 then
    let s := plainWrite a v s
    dramCold (bit v.toNat 3) s
  else if a = 0x40070104 ∧ bit v.toNat 3 then patternGenStart v (s.fresh 16) s.draw
  else if a = 0x400701AC then dmcMrw v s
  else match trainReg a s, regRow a with
    | some b, some r => if b = a then plainWrite a v s else s.setReg b (v &&& BitVec.ofNat 32 r.rw)
    | some _, none => s
    | none, _ => s

def flcRegWrite (m : Master) (a : Nat) (v : BitVec 32) (s : State) : State :=
  match a % 0x10000 with
  | 0x08 => flcWrite m .keyReg v s
  | 0x0C => flcWrite m .cmdReg (v &&& 7) s
  | 0x10 => flcWrite m .addrReg v s
  | 0x14 => flcWrite m (.dataReg 0) v s
  | 0x18 => flcWrite m (.dataReg 1) v s
  | 0x1C => flcWrite m (.dataReg 2) v s
  | 0x20 => flcWrite m (.dataReg 3) v s
  | 0x50 => if v = 0 then flcIntrWrite s else (plainWrite a v s).setRegF flcStat 9 9 (field v.toNat 31 31)
  | _ => plainWrite a v s

/-- The supervisor's registers: only logical core 0 writes them, but for the kicks (R513). -/
def supWrite (m : Master) (a : Nat) (v : BitVec 32) (s : State) : State :=
  let o := a % 0x10000
  if 0x14 ≤ o ∧ o < 0x40 ∧ o % 8 = 4 then watchdogKick m (Fin.ofNat 6 ((o - 0x14) / 8)) v s
  else if masterId m = 0 then plainWrite a v s else s

/-- BIST_CTRL and BIST_ROLL_GAP. -/
def bistWrite (a : Nat) (v : BitVec 32) (s : State) : State :=
  if a = 0x400B0000 then
    let s := if bit v.toNat 1 then bistEnd s else s
    if bit v.toNat 0 then (rollStart false s.rxNow s).2 else s
  else plainWrite a v s

/-- The front end: the command registers belong to the link controller (R125); RFS_TUNE is written only while ANT_AUTO is off. -/
def rfsWrite (a : Nat) (v : BitVec 32) (s : State) : State :=
  if a = 0x40100010 then rfCommand false v.toNat s
  else if !s.isOn dRADIO then s
  else if 0x40100014 ≤ a ∧ a < 0x40100020 then (if s.owns dRADIO then s.flag rfsStat 7 else plainWrite a v s)
  else if a = 0x40100040 then calAsk (v.toNat % 64) s
  else if a = 0x40100064 then
    (if bit (plainView 0x40100068 s).toNat 0 then s else
      let t := field v.toNat 5 0 + 256 * field v.toNat 13 8
      (setTune (t % 256) (t / 256) s).dPut 0x2100 0x22 t)
  else plainWrite a v s

/-- The transmitter: descriptors and grants belong to the link controller; coefficients are written only while ADAPT is 0 (R210). -/
def txmWrite (a : Nat) (v : BitVec 32) (s : State) : State :=
  if a = 0x40140008 then grantRequest false v s
  else if 0x40140100 ≤ a ∧ a < 0x40140200 then (if s.owns dRADIO then s else plainWrite a v s)
  else if 0x40140800 ≤ a ∧ a < 0x40140900 then (if s.dU 0x2200 0x47 = 1 then s else plainWrite a v s)
  else plainWrite a v s

/-- The link controller: the schedule registers are the shadow's entries (R241, R244). -/
def lnkWrite (a : Nat) (v : BitVec 32) (s : State) : State :=
  let x := v.toNat
  if a = 0x40150088 then (if bit x 0 then (schedApply s).2 else s)
  else if 0x40150400 ≤ a ∧ a < 0x40150800 then
    if s.locked 0x4015 then s else
    let i := (a - 0x40150400) / 16 + 1
    let t := s.dU 0x2310 i
    if a % 16 = 0 then s.dPut 0x2310 i (t / 2 ^ 32 * 2 ^ 32 + x)
    else if a % 16 = 4 then s.dPut 0x2310 i (t % 2 ^ 32 + x * 2 ^ 32)
    else if a % 16 = 8 then s.dPut 0x2311 i x else s
  else plainWrite a v s

/-- Sluice: a read of SLU_ALLOC takes a slot; SLU_ENQ queues (R276). -/
def sluRead (a : Nat) (s : State) : RegOut :=
  if a = 0x40170030 then ((BitVec.ofNat 32 (sluAlloc s).2, (sluAlloc s).1) : RegOut) else plainRead a s

def sluWrite (a : Nat) (v : BitVec 32) (s : State) : State :=
  if a = 0x4017003C then
    let r := sluEnq v.toNat s
    r.2.setRegN 0x40170040 r.1.toNat
  else plainWrite a v s

/-! ### The bus -/

/-- A word read by a master at an aligned address of a block that answers. -/
def regRead (m : Master) (a : Nat) (s : State) : RegOut :=
  match a / 0x10000 with
  | 0x2118 => kzcRead a s
  | 0x4000 => pccRead (a % 0x10000) s
  | 0x4002 => bkpRead (a % 0x10000) s
  | 0x4003 => if a % 0x10000 < 0x800 then tmrRead (Fin.ofNat 8 (a % 0x10000 / 0x100)) (a % 0x100) s else (0, s)
  | 0x4004 => evfRead a s
  | 0x4005 => ptbRead (a % 0x10000) s
  | 0x4007 => dmcRead a s
  | 0x4008 => cmcRegRead m a s
  | 0x4017 => sluRead a s
  | _ => plainRead a s

/-- A word written by a master at an aligned address of a block that answers (R16). -/
def regWrite (m : Master) (a : Nat) (v : BitVec 32) (s : State) : State :=
  match a / 0x10000 with
  | 0x2118 => kzcWrite m a v s
  | 0x4000 => pccWrite (a % 0x10000) v s
  | 0x4001 => supWrite m a v s
  | 0x4002 => bkpWrite (a % 0x10000) v s
  | 0x4003 => if a % 0x10000 < 0x800 then tmrWrite (Fin.ofNat 8 (a % 0x10000 / 0x100)) (a % 0x100) v s else s
  | 0x4004 => evfWrite a v s
  | 0x4005 => ptbWrite (a % 0x10000) v s
  | 0x4006 => flcRegWrite m a v s
  | 0x4007 => dmcWrite a v s
  | 0x4008 => cmcRegWrite m a v s
  | 0x4009 => pkeRegWrite m a v s
  | 0x400A => if a = 0x400A0070 then injectReg v s.rxNow s else plainWrite a v s
  | 0x400B => bistWrite a v s
  | 0x4010 => rfsWrite a v s
  | 0x4012 => if a = 0x4012A004 ∧ s.owns dRADIO then s else plainWrite a v s
  | 0x4014 => txmWrite a v s
  | 0x4015 => lnkWrite a v s
  | 0x4016 => if a = 0x4016000C then (if bit v.toNat 0 then (routeCommit s).2 else s) else plainWrite a v s
  | 0x4017 => sluWrite a v s
  | _ => plainWrite a v s

/-- A register write as a command: to an address that some block answers at, a multiple of 4 (R16, R364). -/
def registerWrite (m : Master) (a : Nat) (v : BitVec 32) (s : State) : State :=
  if a % 4 ≠ 0 then s
  else match s.region a with
    | .kzc => regWrite m a v s
    | .ucode l => ucodeWrite m l (Fin.ofNat 512 (a % 0x800 / 4)) v s
    | .periph => if periphMapped a s then regWrite m a v s else s
    | _ => s

def execRegisterWrite (m : Master) (a v : BitVec 32) (s : State) : Out := .next (registerWrite m a.toNat v s)

/-- The registers that hold a LOCK bit, with the bit. -/
def lockBit (a : Nat) : Option Nat :=
  if a = 0x40050000 then some 1
  else if a = 0x40000000 then some 0
  else if (lockRegs (a / 0x10000)).contains a then some 0 else none

/-- LOCK_SET: a write of 1 to the LOCK bit of a block's register, its other fields as they stand (R84, R145, R190, R210, R244, R279, R395,
R448, R513). -/
def lockSet (a : Nat) (s : State) : State :=
  match lockBit a with
  | none => s
  | some b =>
    if !periphMapped a s then s
    else if a = 0x40050000 then ptbMod (fun p => { p with lock := true }) s
    else if a = 0x40000000 then pccMod (fun p => { p with lock := true }) s
    else s.flag a b

def execLockSet (_m : Master) (a : BitVec 32) (s : State) : Out := .next (lockSet a.toNat s)

end Sys2Proof.Machine
end

