-- ==== Sys2Proof/Machine/KzMem.lean ====
section
/-! DEFINITION. Loads and stores of the KZ cores, the reservation, the address generators' accesses, the dual-fetch MAC, and the customer
opcodes (R332 to R334, R342 to R344, R351 to R358). -/

namespace Sys2Proof.Machine

/-! ### One access -/

/-- An access of a core: which logical and physical core, the address, and how many bytes. -/
structure Acc1 where
  c : Fin 6
  p : Fin 6
  a : BitVec 32
  n : Nat
  deriving DecidableEq, Repr

/-- A core's window answers: it is ON, and core 4's only core 4 (R352, R353). -/
def windowOk (c d : Fin 6) (s : State) : Bool := s.isOn (coreDomain d) && (d != 4 || c == 4)

/-- The area can be read by the core (R353, R364). -/
def mayLoad (c : Fin 6) (a : Nat) (s : State) : Bool :=
  match s.region a with
  | .xmem d => windowOk c d s
  | .ymem d => windowOk c d s
  | .periph => periphMapped a s
  | .unmapped => false
  | _ => true

/-- The area can be written by the core: a read-only area counts as unmapped (R364). -/
def mayStore (c : Fin 6) (a : Nat) (s : State) : Bool :=
  match s.region a with
  | .sram => true
  | .xmem d => windowOk c d s
  | .ymem d => windowOk c d s
  | .kzc => true
  | .ucode _ => true
  | .shadow => true
  | .periph => periphMapped a s
  | .dram _ => true
  | _ => false

/-- The causes met in a load, the first in the order of R346. -/
def loadCause (x : Acc1) (s : State) : Option Exc :=
  let a := x.a.toNat
  if a % x.n ≠ 0 then some (excData 0x03 x.a)
  else if !(vget s.kz.phys x.p).allowed a .load then some (excData 0x05 x.a)
  else if !mayLoad x.c a s then some (excData 0x07 x.a)
  else if s.wordBad a then some (excData 0x08 x.a)
  else if (match s.region a with | .dram _ => s.poisoned a | _ => false) then some (excData 0x0C x.a)
  else none

/-- The causes met in a store. -/
def storeCause (x : Acc1) (s : State) : Option Exc :=
  let a := x.a.toNat
  if a % x.n ≠ 0 then some (excData 0x03 x.a)
  else if !(vget s.kz.phys x.p).allowed a .store then some (excData 0x06 x.a)
  else if !mayStore x.c a s then some (excData 0x07 x.a)
  else none

/-- What a data access that raises an exception leaves beside it (R353, R365, R369). -/
def accessNote (c : Fin 6) (e : Exc) (s : State) : State :=
  match e.addr with
  | none => s
  | some a => if e.code = 0x08 then uncorrectable a.toNat s else if e.code = 0x07 then windowViol c a.toNat s else s

/-- `n` bytes of a word from its byte `a` on. -/
def slice (v : BitVec 32) (a n : Nat) : Nat := v.toNat / 2 ^ (8 * (a % 4)) % 2 ^ (8 * n)

/-- The master that a core is on the bus. -/
def State.asMaster (x : Acc1) (s : State) : Master := .core x.c (vget s.kz.phys x.p).pc

/-- A load that no cause prevents (R332): the value, little-endian. Core 4 alone reads the key area; others read 0. -/
def loadGo (x : Acc1) (s : State) : Nat × State :=
  let a := x.a.toNat
  let bytes := (s.rdN a x.n, correctOnRead a s)
  let word := fun (r : RegOut) => (slice r.1 a x.n, r.2)
  match s.region a with
  | .keyArea => if x.c = 4 then bytes else (0, s)
  | .otp => (slice (s.otpRead ((a - 0x18010000) / 4)) a x.n, s)
  | .record => (s.rdN (s.recordSrc a) x.n, s)
  | .kzc => word (regRead (s.asMaster x) (a / 4 * 4) s)
  | .periph => word (regRead (s.asMaster x) (a / 4 * 4) s)
  | .ucode l => (slice (ucodeRead l (a % 0x800 / 4) s) a x.n, s)
  | _ => bytes

/-- Registers whose bits are not kept by a store of fewer bytes than the word: flags and triggers (log entry 50). -/
def keepMask (a : Nat) : BitVec 32 :=
  match regRow a with
  | some r => BitVec.ofNat 32 (r.rw ||| r.rwl)
  | none =>
    let o := a % 0x10000
    match a / 0x10000 with
    | 0x4000 => if o = 0x04 then 0 else if o = 0x30 then 2 else 0xFFFFFFFF
    | 0x4002 => if o = 0x10 then 0 else 0xFFFFFFFF
    | 0x4003 => if o % 0x100 = 0 then 0x3FF8 else if o % 0x100 = 0x24 then 0 else 0xFFFFFFFF
    | 0x4004 => if 0x100 ≤ o ∧ o < 0x200 then 0xFFFFFFFF else 0
    | 0x4005 => if o = 0 ∨ o % 0x20 = 0x18 ∨ (0x400 ≤ o ∧ o % 0x20 = 0x10) then 0 else 0xFFFFFFFF
    | _ => 0xFFFFFFFF

/-- The word that a store of `n` bytes writes to a register: the bytes stored, and the rest as it stands (log entry 50). -/
def mergeWord (m : Master) (a n v : Nat) (s : State) : BitVec 32 :=
  if n = 4 then BitVec.ofNat 32 v
  else
    let w := a / 4 * 4
    let old := (regRead m w s).1 &&& keepMask w
    let lanes := BitVec.ofNat 32 ((2 ^ (8 * n) - 1) * 2 ^ (8 * (a % 4)))
    (old &&& ~~~lanes) ||| (BitVec.ofNat 32 (v * 2 ^ (8 * (a % 4))) &&& lanes)

/-- A store that no cause prevents (R332): memory takes the bytes, an error they cover is mended, and other cores' reservations on the
block end (R333, R366, R382). -/
def storeGo (x : Acc1) (v : Nat) (s : State) : State :=
  let a := x.a.toNat
  let m := s.asMaster x
  match s.region a with
  | .kzc => regWrite m (a / 4 * 4) (mergeWord m a x.n v s) s
  | .periph => regWrite m (a / 4 * 4) (mergeWord m a x.n v s) s
  | .ucode l =>
    let w := ucodeRead l (a % 0x800 / 4) s
    let lanes := BitVec.ofNat 32 ((2 ^ (8 * x.n) - 1) * 2 ^ (8 * (a % 4)))
    ucodeWrite m l (Fin.ofNat 512 (a % 0x800 / 4)) ((w &&& ~~~lanes) ||| (BitVec.ofNat 32 (v * 2 ^ (8 * (a % 4))) &&& lanes)) s
  | _ => breakReservations x.p.1 a x.n (mendOnWrite a x.n (s.wrN a x.n v))

/-- Cycles of a load (R345): own memory 1, shared SRAM 4, another core's window 6, a register or a table 8, flash by its wait states and 2
more, the boot ROM 1, and DRAM a number the spec does not give and 2 more (log entry 1). -/
def loadCost (x : Acc1) (s : State) : Nat × State :=
  match s.region x.a.toNat with
  | .rom => (1, s)
  | .sram => (4, s)
  | .xmem d => (if d = x.c then 1 else 6, s)
  | .ymem d => (if d = x.c then 1 else 6, s)
  | .dram _ => ((s.fresh 16).toNat + 2, s.draw)
  | .kzc => (8, s) | .ucode _ => (8, s) | .shadow => (8, s) | .force => (8, s) | .periph => (8, s) | .otp => (8, s)
  | _ => (flashWs s + 3, s)

/-- The read waits: an operation runs on the flash bank it needs (R373). -/
def loadStalls (x : Acc1) (s : State) : Bool := s.flashBusy x.a.toNat

/-! ### Loads and stores (R332) -/

/-- Goes on after an access that may have stopped or restarted the core that made it. -/
def afterAccess (p : Fin 6) (pc : BitVec 32) (s : State) : KzRes :=
  if (vget s.kz.phys p).pc = pc then .next s else .jump s (vget s.kz.phys p).pc

/-- A load of `n` bytes at an address; `put` gives the core its result. -/
def loadAt (x : Acc1) (put : Core → BitVec 32 → Core) (ext : Nat → BitVec 32) (s : State) : KzRes :=
  match loadCause x s with
  | some e => .exc (accessNote x.c e s) e
  | none =>
    if loadStalls x s then .jump s (vget s.kz.phys x.p).pc
    else
      let (cost, s) := loadCost x s
      let (v, s) := loadGo x s
      .next (kmod x.p (fun k => put (k.tick (cost - 1)) (ext v)) s)

/-- A store of `n` bytes at an address; `done` is what the core itself changes with it. -/
def storeAt (x : Acc1) (v : BitVec 32) (done : Core → Core) (s : State) : KzRes :=
  match storeCause x s with
  | some e => .exc (accessNote x.c e s) e
  | none => afterAccess x.p (vget s.kz.phys x.p).pc (storeGo x (v.toNat % 2 ^ (8 * x.n)) (kmod x.p done s))

/-- The value of a loaded byte string, zero- or sign-extended. -/
def extend (n : Nat) (sx : Bool) (v : Nat) : BitVec 32 := if sx then BitVec.ofInt 32 (signed (8 * n) v) else BitVec.ofNat 32 v

/-- The access of an I-format instruction. -/
def Acc1.ofEa (c p : Fin 6) (ra : Fin 16) (imm : BitVec 18) (n : Nat) (s : State) : Acc1 :=
  { c := c, p := p, a := (vget s.kz.phys p).ea ra imm, n := n }

/-- A load instruction (R332). -/
def kzLoad (c : Fin 6) (rd ra : Fin 16) (imm : BitVec 18) (n : Nat) (sx : Bool) (s : State) : State :=
  kzRun c 1 (fun p s => loadAt (.ofEa c p ra imm n s) (fun k v => k.setGr rd v) (extend n sx) s) s

/-- A store instruction (R332). -/
def kzStore (c : Fin 6) (rd ra : Fin 16) (imm : BitVec 18) (n : Nat) (s : State) : State :=
  kzRun c 1 (fun p s => storeAt (.ofEa c p ra imm n s) ((vget s.kz.phys p).gr rd) id s) s

/-- LDW (R332). -/
def execLdw (c : Fin 6) (rd ra : Gr) (imm : BitVec 18) (s : State) : Out := .next (kzLoad c rd ra imm 4 false s)

/-- LDH (R332). -/
def execLdh (c : Fin 6) (rd ra : Gr) (imm : BitVec 18) (s : State) : Out := .next (kzLoad c rd ra imm 2 true s)

/-- LDHU (R332). -/
def execLdhu (c : Fin 6) (rd ra : Gr) (imm : BitVec 18) (s : State) : Out := .next (kzLoad c rd ra imm 2 false s)

/-- LDB (R332). -/
def execLdb (c : Fin 6) (rd ra : Gr) (imm : BitVec 18) (s : State) : Out := .next (kzLoad c rd ra imm 1 true s)

/-- LDBU (R332). -/
def execLdbu (c : Fin 6) (rd ra : Gr) (imm : BitVec 18) (s : State) : Out := .next (kzLoad c rd ra imm 1 false s)

/-- STW (R332). -/
def execStw (c : Fin 6) (rd ra : Gr) (imm : BitVec 18) (s : State) : Out := .next (kzStore c rd ra imm 4 s)

/-- STH (R332). -/
def execSth (c : Fin 6) (rd ra : Gr) (imm : BitVec 18) (s : State) : Out := .next (kzStore c rd ra imm 2 s)

/-- STB (R332). -/
def execStb (c : Fin 6) (rd ra : Gr) (imm : BitVec 18) (s : State) : Out := .next (kzStore c rd ra imm 1 s)

/-! ### The reservation (R333) -/

/-- The cause of LL or SC outside shared SRAM ranks with the other bus errors. -/
def sramOnly (x : Acc1) (e : Option Exc) (s : State) : Option Exc :=
  let bus := excData 0x07 x.a
  let out := match s.region x.a.toNat with | .sram => false | _ => true
  match e with
  | none => if out then some bus else none
  | some e => if out && (e.code == 0x08 || e.code == 0x0C) then some bus else some e

/-- LL: a load that sets the reservation on its 32-byte block. -/
def kzLl (c : Fin 6) (rd ra : Fin 16) (imm : BitVec 18) (s : State) : State :=
  kzRun c 1 (fun p s =>
    let x := Acc1.ofEa c p ra imm 4 s
    match sramOnly x (loadCause x s) s with
    | some e => .exc (accessNote c e s) e
    | none => loadAt x (fun k v => { k.setGr rd v with resv := some (rowOf x.a.toNat) }) (extend 4 false) s) s

/-- LL (R332, R333). -/
def execLl (c : Fin 6) (rd ra : Gr) (imm : BitVec 18) (s : State) : Out := .next (kzLl c rd ra imm s)

/-- SC: it stores while the reservation covers its address, and tells in rd; the reservation ends (R333, log entry 51). -/
def kzSc (c : Fin 6) (rd ra : Fin 16) (imm : BitVec 18) (s : State) : State :=
  kzRun c 1 (fun p s =>
    let x := Acc1.ofEa c p ra imm 4 s
    match sramOnly x (storeCause x s) s with
    | some e => .exc (accessNote c e s) e
    | none =>
      let k := vget s.kz.phys p
      if k.resv = some (rowOf x.a.toNat) then storeAt x (k.gr rd) (fun k => { k.setGr rd 0 with resv := none }) s
      else .next (kmod p (fun k => { k.setGr rd 1 with resv := none }) s)) s

/-- SC (R332, R333). -/
def execSc (c : Fin 6) (rd ra : Gr) (imm : BitVec 18) (s : State) : Out := .next (kzSc c rd ra imm s)

/-! ### Address generators (R342, R343) -/

/-- A generator updated after its access. -/
def Core.stepAg (k : Core) (g : Fin 4) : Core := { k with ag := vmod k.ag g (·.update) }

/-- The access through a generator. -/
def Acc1.ofAg (c p : Fin 6) (g : Fin 4) (n : Nat) (s : State) : Acc1 := { c := c, p := p, a := (vget (vget s.kz.phys p).ag g).addr, n := n }

/-- LDAG (R343): a size of 3 is ILLEGAL; `hold` suppresses the update. -/
def kzLdag (c : Fin 6) (r : Fin 16) (g size : Fin 4) (sx hold : Bool) (s : State) : State :=
  kzRun c 1 (fun p s =>
    if size = 3 then .exc s excIllegal
    else loadAt (.ofAg c p g (2 ^ size.1) s) (fun k v => (if hold then k else k.stepAg g).setGr r v) (extend (2 ^ size.1) sx) s) s

/-- LDAG (R343). -/
def execLdag (c : Fin 6) (r : Gr) (ag : Fin 4) (size : Fin 4) (sx hold : Bool) (s : State) : Out := .next (kzLdag c r ag size sx hold s)

/-- STAG (R343). -/
def kzStag (c : Fin 6) (r : Fin 16) (g size : Fin 4) (hold : Bool) (s : State) : State :=
  kzRun c 1 (fun p s =>
    if size = 3 then .exc s excIllegal
    else storeAt (.ofAg c p g (2 ^ size.1) s) ((vget s.kz.phys p).gr r) (fun k => if hold then k else k.stepAg g) s) s

/-- STAG (R343). -/
def execStag (c : Fin 6) (r : Gr) (ag : Fin 4) (size : Fin 4) (hold : Bool) (s : State) : Out := .next (kzStag c r ag size hold s)

/-! ### The dual-fetch MAC (R344) -/

/-- The rank of a data-access cause in the table of R346. -/
def causeRank (code : Nat) : Nat := if code = 0x03 then 0 else if code = 0x05 ∨ code = 0x06 then 1 else if code = 0x07 then 2 else if code = 0x08 then 3 else 4

/-- Of two causes the one higher in the table; the agx operand's between equals. -/
def firstCause (a b : Option Exc) : Option Exc :=
  match a, b with
  | some x, some y => if causeRank y.code < causeRank x.code then some y else some x
  | some x, none => some x
  | none, y => y

/-- A D-format instruction: both operands are fetched, the operation accumulates, and both generators are updated. -/
def dualFetch (c : Fin 6) (acc x y : Fin 4) (pair : Bool) (n : Nat) (f : Core → BitVec 32 → BitVec 32 → Core) (s : State) : State :=
  kzRun c 1 (fun p s =>
    if x = y || (pair && !isPair acc) then .exc s excIllegal
    else
      let ax := Acc1.ofAg c p x n s
      let ay := Acc1.ofAg c p y n s
      match firstCause (loadCause ax s) (loadCause ay s) with
      | some e => .exc (accessNote c e s) e
      | none =>
        if loadStalls ax s || loadStalls ay s then .jump s (vget s.kz.phys p).pc
        else
          let own := s.region ax.a.toNat == .xmem c && s.region ay.a.toNat == .ymem c
          let (cx, s) := loadCost ax s
          let (cy, s) := loadCost ay s
          let (vx, s) := loadGo ax s
          let (vy, s) := loadGo ay s
          .next (kmod p (fun k =>
            ((f (k.tick (if own then 0 else cx + cy - 1)) (BitVec.ofNat 32 vx) (BitVec.ofNat 32 vy)).stepAg x).stepAg y) s)) s

/-- XMAC.D (R344). -/
def execXmacD (c : Fin 6) (acc x y : Fin 4) (s : State) : Out :=
  .next (dualFetch c acc x y true 4 (fun k a b => k.pairAdd acc a b false) s)

/-- XMACC.D (R344). -/
def execXmaccD (c : Fin 6) (acc x y : Fin 4) (s : State) : Out :=
  .next (dualFetch c acc x y true 4 (fun k a b => k.pairAdd acc a b true) s)

/-- MAC.DH (R344). -/
def execMacDh (c : Fin 6) (acc x y : Fin 4) (s : State) : Out :=
  .next (dualFetch c acc x y false 2 (fun k a b => k.accAdd acc (halfProduct a b)) s)

/-- MSU.DH (R344). -/
def execMsuDh (c : Fin 6) (acc x y : Fin 4) (s : State) : Out :=
  .next (dualFetch c acc x y false 2 (fun k a b => k.accAdd acc (-halfProduct a b)) s)

/-! ### Customer opcodes (R354 to R358) -/

/-- The operands of the C-format instruction that a sequence may name. -/
structure CustArgs where
  rd : Fin 16
  ra : Fin 16
  rb : Fin 16
  imm : BitVec 10
  deriving DecidableEq, Repr

/-- A micro-op's fields (R355). -/
structure MicroOp where
  uop : Nat
  last : Bool
  d : Nat
  a : Nat
  b : Nat
  imm : Int
  deriving DecidableEq, Repr

/-- A micro-op from its word. -/
def MicroOp.ofWord (w : BitVec 32) : MicroOp :=
  let v := w.toNat
  { uop := field v 31 27, last := bit v 26, d := field v 25 21, a := field v 20 16, b := field v 15 11, imm := signed 11 v }

/-- The general register that a selector names. -/
def selGr (q : CustArgs) (sel : Nat) : Option (Fin 16) :=
  if sel < 0x10 then some (Fin.ofNat 16 sel)
  else if sel = 0x10 then some q.rd else if sel = 0x11 then some q.ra else if sel = 0x12 then some q.rb else none

/-- A source operand; none where a selector is outside its permitted use. -/
def selGet (q : CustArgs) (t : Vector (BitVec 32) 4) (k : Core) (sel : Nat) : Option (BitVec 32) :=
  match selGr q sel with
  | some r => some (k.gr r)
  | none =>
    if sel = 0x13 then some (q.imm.signExtend 32)
    else if 0x14 ≤ sel ∧ sel < 0x18 then some (vget t (Fin.ofNat 4 (sel - 0x14))) else none

/-- Where a destination selector leads. -/
inductive Dest where
  | gr (r : Fin 16)
  | tmp (i : Fin 4)
  deriving DecidableEq, Repr

def selDest (q : CustArgs) (sel : Nat) : Option Dest :=
  match selGr q sel with
  | some r => some (.gr r)
  | none => if 0x14 ≤ sel ∧ sel < 0x18 then some (.tmp (Fin.ofNat 4 (sel - 0x14))) else none

/-- An accumulator or a generator selector. -/
def selAcc (sel : Nat) : Option (Fin 4) := if 0x18 ≤ sel ∧ sel < 0x1C then some (Fin.ofNat 4 (sel - 0x18)) else none
def selAg (sel : Nat) : Option (Fin 4) := if 0x1C ≤ sel then some (Fin.ofNat 4 (sel - 0x1C)) else none

/-- A running sequence: the temporaries and the machine. -/
structure Seq where
  t : Vector (BitVec 32) 4 := .replicate 4 0
  s : State

/-- How a micro-op ends: it goes on, skips some, stalls on a flash read, or raises an exception; a store may have stopped the core. -/
inductive UopRes where
  | ok (q : Seq)
  | skip (q : Seq) (n : Nat)
  | stall
  | left (s : State)
  | exc (q : Seq) (e : Exc)

/-- A destination written. -/
def putDest (d : Dest) (p : Fin 6) (v : BitVec 32) (q : Seq) : Seq :=
  match d with
  | .gr r => { q with s := kmod p (fun k => k.setGr r v) q.s }
  | .tmp i => { q with t := vset q.t i v }

/-- The result of the micro-ops that compute a word from two sources; sample words also give their lanes for LSAT (R355, R356). -/
def uopWord (u : Nat) (imm : Int) (t0 a b : BitVec 32) : Option (BitVec 32 × Option (Int × Int)) :=
  let w := fun x : BitVec 32 => some (x, (none : Option (Int × Int)))
  let l := fun iq : Int × Int => some (sample iq.1 iq.2, some iq)
  match u with
  | 0x00 => w (a + b) | 0x01 => w (a - b) | 0x02 => w (a &&& b) | 0x03 => w (a ||| b) | 0x04 => w (a ^^^ b)
  | 0x05 => w (shl8 a (count8 b)) | 0x06 => w (shr8 a (count8 b)) | 0x07 => w (sar8 a (count8 b))
  | 0x08 => w (a + BitVec.ofInt 32 imm)
  | 0x09 => w (a * b)
  | 0x0A => w (minOp a b) | 0x0B => w (maxOp a b)
  | 0x0C => w (BitVec.ofNat 32 (clz a))
  | 0x0D => l (laddOp a b) | 0x0E => l (lsubOp a b) | 0x0F => l (lmulOp a b)
  | 0x10 => l (lrotOp a (imm % 4).toNat)
  | 0x18 => w (sltOp a b)
  | 0x19 => w (if t0 ≠ 0 then a else b)
  | _ => none

/-- Micro-ops that use no second source: their B field is ignored (R355). -/
def oneSource (u : Nat) : Bool := u == 0x08 || u == 0x0C || u == 0x10

def uopCompute (p : Fin 6) (x : CustArgs) (m : MicroOp) (q : Seq) : UopRes :=
  let k := vget q.s.kz.phys p
  match selDest x m.d, selGet x q.t k m.a, (if oneSource m.uop then some 0 else selGet x q.t k m.b) with
  | some d, some a, some b =>
    match uopWord m.uop m.imm (vget q.t 0) a b with
    | some (v, lanes) =>
      let q := putDest d p v q
      .ok (match lanes with | some (i, j) => { q with s := kmod p (fun k => { k with sw := swLane k.sw i j }) q.s } | none => q)
    | none => .exc q excIllegal
  | _, _, _ => .exc q excIllegal

/-- A load of a micro-op; `g` is the generator that it updates. -/
def uopLoad (x : Acc1) (d : Dest) (g : Option (Fin 4)) (q : Seq) : UopRes :=
  match loadCause x q.s with
  | some e => .exc { q with s := accessNote x.c e q.s } e
  | none =>
    if loadStalls x q.s then .stall
    else
      let (cost, s) := loadCost x q.s
      let (v, s) := loadGo x s
      let s := kmod x.p (fun k => (match g with | some g => k.stepAg g | none => k).tick (cost - 1)) s
      .ok (putDest d x.p (BitVec.ofNat 32 v) { q with s := s })

/-- A store of a micro-op. -/
def uopStore (x : Acc1) (v : BitVec 32) (g : Option (Fin 4)) (q : Seq) : UopRes :=
  match storeCause x q.s with
  | some e => .exc { q with s := accessNote x.c e q.s } e
  | none =>
    let pc := (vget q.s.kz.phys x.p).pc
    let s := storeGo x v.toNat (kmod x.p (fun k => match g with | some g => k.stepAg g | none => k) q.s)
    if (vget s.kz.phys x.p).pc = pc then .ok { q with s := s } else .left s

/-- One micro-op (R355, R356). -/
def uopRun (c p : Fin 6) (x : CustArgs) (m : MicroOp) (q : Seq) : UopRes :=
  let k := vget q.s.kz.phys p
  let a := selGet x q.t k m.a
  let b := selGet x q.t k m.b
  let at_ := fun base : BitVec 32 => ({ c := c, p := p, a := base + BitVec.ofInt 32 m.imm, n := 4 } : Acc1)
  let bad : UopRes := .exc q excIllegal
  match m.uop with
  | 0x11 => match selDest x m.d, a with | some d, some a => uopLoad (at_ a) d none q | _, _ => bad
  | 0x12 => match a, b with | some a, some b => uopStore (at_ a) b none q | _, _ => bad
  | 0x13 => match selDest x m.d, selAg m.a with | some d, some g => uopLoad (.ofAg c p g 4 q.s) d (some g) q | _, _ => bad
  | 0x14 => match selAg m.a, b with | some g, some b => uopStore (.ofAg c p g 4 q.s) b (some g) q | _, _ => bad
  | 0x15 => match selAcc m.d, a, b with
    | some d, some a, some b => .ok { q with s := kmod p (fun k => k.accAdd d (halfProduct a b)) q.s }
    | _, _, _ => bad
  | 0x16 => match selAcc m.d, a, b with
    | some d, some a, some b => if isPair d then .ok { q with s := kmod p (fun k => k.pairAdd d a b false) q.s } else bad
    | _, _, _ => bad
  | 0x17 => match selDest x m.d, selAcc m.a with
    | some d, some g =>
      let sh := (m.imm % 64).toNat
      if 47 < sh then bad
      else
        let r := roundShift (vget k.acc g) sh
        .ok (putDest d p (BitVec.ofInt 32 (sat32s r)) { q with s := kmod p (fun k => { k with sw := swSticky k.sw swASAT (overflows r) }) q.s })
    | _, _ => bad
  | 0x1A => match a with | some v => if m.imm % 32 = 0 then bad else if v = 0 then .skip q (m.imm % 32).toNat else .ok q | none => bad
  | 0x1B => match a with | some v => if m.imm % 32 = 0 then bad else if v ≠ 0 then .skip q (m.imm % 32).toNat else .ok q | none => bad
  | _ => uopCompute p x m q

/-- A parity error in the microcode: the sequence's CORE_UCVALID bit clears and KZC_FAULT fires (R358). -/
def parityError (p : Fin 6) (op : Fin 16) (s : State) : State :=
  fire 0x60 (kmod p (fun k => { k with ucvalid := k.ucvalid &&& ~~~(1#16 <<< op.1) }) s)

/-- The sequence from micro-op `i`: at most 32 micro-ops run, none of them twice (R354, R355). The count of those that ran is
added to CYCLE. -/
def seqRun (c p : Fin 6) (op : Fin 16) (x : CustArgs) (start : State) (pc : BitVec 32) : Nat → Nat → Seq → KzRes
  | 0, _, q => .next q.s
  | fuel + 1, i, q =>
    if 32 ≤ i then .next q.s
    else
      let k := vget q.s.kz.phys p
      let off := 32 * op.1 + i
      if k.ucodeBad.contains off then .exc (parityError p op q.s) { excIllegal with uop := some i }
      else
        let m := MicroOp.ofWord ((alGet k.ucode off).getD 0)
        let q' := fun q : Seq => { q with s := kmod p (·.tick 1) q.s }
        match uopRun c p x m q with
        | .exc q e => .exc q.s { e with uop := some i }
        | .stall => .jump start pc
        | .left s => .jump s (vget s.kz.phys p).pc
        | .ok q => if m.last then .next (q' q).s else seqRun c p op x start pc fuel (i + 1) (q' q)
        | .skip q n => if m.last then .next (q' q).s else seqRun c p op x start pc fuel (i + 1 + n) (q' q)

/-- A customer opcode: ILLEGAL while its CORE_UCVALID bit is 0 (R354). -/
def customOpcode (c : Fin 6) (op : Fin 16) (x : CustArgs) (s : State) : State :=
  kzRun c 0 (fun p s =>
    let k := vget s.kz.phys p
    if !k.ucvalid.getLsbD op.1 then .exc s excIllegal else seqRun c p op x s k.pc 32 0 { s := s }) s

/-- CUSTOM_OPCODE (R354). -/
def execCustomOpcode (c : Fin 6) (op : Fin 16) (rd ra rb : Gr) (imm : BitVec 10) (s : State) : Out :=
  .next (customOpcode c op { rd := rd, ra := ra, rb := rb, imm := imm } s)

end Sys2Proof.Machine
end

