-- ==== Sys2Proof/Machine/Dispatch.lean ====
section
/-! DEFINITION. The dispatch: one arm for each command, each one call of its meaning. -/

namespace Sys2Proof.Machine

/-- The effect of a command on everything but the queue. -/
def exec (i : Instr) (s : State) : Host.Outcome State Fault Refusal :=
  match i with
  | .roleWrite src tid v => Sys2Proof.Machine.execRoleWrite src tid v s
  | .read src tid index sub node => Sys2Proof.Machine.execRead src tid index sub node s
  | .segRead src tid index sub node off => Sys2Proof.Machine.execSegRead src tid index sub node off s
  | .write src tid index sub node data => Sys2Proof.Machine.execWrite src tid index sub node data s
  | .segWrite src tid index sub node off last data => Sys2Proof.Machine.execSegWrite src tid index sub node off last data s
  | .dtpAbort src tid index sub node => Sys2Proof.Machine.execDtpAbort src tid index sub node s
  | .badOpRequest src op tid index sub node => Sys2Proof.Machine.execBadOpRequest src op tid index sub node s
  | .segmentTimeout src tid => Sys2Proof.Machine.execSegmentTimeout src tid s
  | .saveSettings src tid v => Sys2Proof.Machine.execSaveSettings src tid v s
  | .saveDone => Sys2Proof.Machine.execSaveDone s
  | .proxyRead src tid index sub node => Sys2Proof.Machine.execProxyRead src tid index sub node s
  | .proxyWrite src tid index sub node data => Sys2Proof.Machine.execProxyWrite src tid index sub node data s
  | .proxyBroadcastWrite src tid index sub data => Sys2Proof.Machine.execProxyBroadcastWrite src tid index sub data s
  | .proxyReply bad => Sys2Proof.Machine.execProxyReply bad s
  | .proxyTimeout => Sys2Proof.Machine.execProxyTimeout s
  | .airRequest src tid slot v => Sys2Proof.Machine.execAirRequest src tid slot v s
  | .airResult slot how => Sys2Proof.Machine.execAirResult slot how s
  | .remoteDtpRequest => Sys2Proof.Machine.execRemoteDtpRequest s
  | .canApply src tid can1 v => Sys2Proof.Machine.execCanApply src tid can1 v s
  | .t1sApply src tid v => Sys2Proof.Machine.execT1sApply src tid v s
  | .spiQuadWrite src tid v => Sys2Proof.Machine.execSpiQuadWrite src tid v s
  | .uartRateWrite src tid v => Sys2Proof.Machine.execUartRateWrite src tid v s
  | .canFrameReceive can1 ident data => Sys2Proof.Machine.execCanFrameReceive can1 ident data s
  | .canBusOffRecovery can1 => Sys2Proof.Machine.execCanBusOffRecovery can1 s
  | .t1sFrameReceive frame => Sys2Proof.Machine.execT1sFrameReceive frame s
  | .spiReadStatus => Sys2Proof.Machine.execSpiReadStatus s
  | .spiWriteFrame bytes => Sys2Proof.Machine.execSpiWriteFrame bytes s
  | .spiReadFrame clocked => Sys2Proof.Machine.execSpiReadFrame clocked s
  | .spiUnknownCommand c => Sys2Proof.Machine.execSpiUnknownCommand c s
  | .uartFrameReceive bytes => Sys2Proof.Machine.execUartFrameReceive bytes s
  | .heartbeatTick => Sys2Proof.Machine.execHeartbeatTick s
  | .fnReinit src tid n v => Sys2Proof.Machine.execFnReinit src tid n v s
  | .deviceResetWrite src tid v => Sys2Proof.Machine.execDeviceResetWrite src tid v s
  | .ptbTick => Sys2Proof.Machine.execPtbTick s
  | .ptbClockSwitch lf => Sys2Proof.Machine.execPtbClockSwitch lf s
  | .lfTrimMeasure ppb => Sys2Proof.Machine.execLfTrimMeasure ppb s
  | .quadTransition refB a b => Sys2Proof.Machine.execQuadTransition refB a b s
  | .indexEdge refB => Sys2Proof.Machine.execIndexEdge refB s
  | .refEdge refB rising => Sys2Proof.Machine.execRefEdge refB rising s
  | .domainStall refB => Sys2Proof.Machine.execDomainStall refB s
  | .netCycleWrite src tid at_ v => Sys2Proof.Machine.execNetCycleWrite src tid at_ v s
  | .netCycleChange => Sys2Proof.Machine.execNetCycleChange s
  | .gearUpdate => Sys2Proof.Machine.execGearUpdate s
  | .pdStepWrite n step => Sys2Proof.Machine.execPdStepWrite n step s
  | .comparatorArm m cfg => Sys2Proof.Machine.execComparatorArm m cfg s
  | .ptbSnap => Sys2Proof.Machine.execPtbSnap s
  | .pdPhaseRead n => Sys2Proof.Machine.execPdPhaseRead n s
  | .regionPlanWrite src tid v => Sys2Proof.Machine.execRegionPlanWrite src tid v s
  | .networkIdWrite src tid v => Sys2Proof.Machine.execNetworkIdWrite src tid v s
  | .channelMaskWrite src tid v => Sys2Proof.Machine.execChannelMaskWrite src tid v s
  | .channelMaskApply => Sys2Proof.Machine.execChannelMaskApply s
  | .waveformTestRequest src tid v => Sys2Proof.Machine.execWaveformTestRequest src tid v s
  | .waveformTestDone => Sys2Proof.Machine.execWaveformTestDone s
  | .rfsAbort lnk v => Sys2Proof.Machine.execRfsAbort lnk v s
  | .rfsSleep lnk v => Sys2Proof.Machine.execRfsSleep lnk v s
  | .rfsStandby lnk v => Sys2Proof.Machine.execRfsStandby lnk v s
  | .rfsSynthReady lnk v => Sys2Proof.Machine.execRfsSynthReady lnk v s
  | .rfsRx lnk v => Sys2Proof.Machine.execRfsRx lnk v s
  | .rfsTx lnk v => Sys2Proof.Machine.execRfsTx lnk v s
  | .rfsBadCommand lnk v => Sys2Proof.Machine.execRfsBadCommand lnk v s
  | .rfsTrigger c => Sys2Proof.Machine.execRfsTrigger c s
  | .pendingCommandStart delay => Sys2Proof.Machine.execPendingCommandStart delay s
  | .rfTransitionDone => Sys2Proof.Machine.execRfTransitionDone s
  | .txFrameEnd gamma fb => Sys2Proof.Machine.execTxFrameEnd gamma fb s
  | .rxWindowClose => Sys2Proof.Machine.execRxWindowClose s
  | .synthUnlock => Sys2Proof.Machine.execSynthUnlock s
  | .calRequest src tid v => Sys2Proof.Machine.execCalRequest src tid v s
  | .calStep finishes r rej gamma => Sys2Proof.Machine.execCalStep finishes r rej gamma s
  | .calAutoTrigger => Sys2Proof.Machine.execCalAutoTrigger s
  | .imageRejUpdate gain phase => Sys2Proof.Machine.execImageRejUpdate gain phase s
  | .antFaultTrip gamma => Sys2Proof.Machine.execAntFaultTrip gamma s
  | .antFaultClear src tid => Sys2Proof.Machine.execAntFaultClear src tid s
  | .widebandAgcStep loud quiet clipped hit => Sys2Proof.Machine.execWidebandAgcStep loud quiet clipped hit s
  | .recordGap a b => Sys2Proof.Machine.execRecordGap a b s
  | .preambleDetection ch m t0 freq power snr noise gain under => Sys2Proof.Machine.execPreambleDetection ch m t0 freq power snr noise gain under s
  | .allocQueueTimeout => Sys2Proof.Machine.execAllocQueueTimeout s
  | .laneAssign now => Sys2Proof.Machine.execLaneAssign now s
  | .syncCheck l pass => Sys2Proof.Machine.execSyncCheck l pass s
  | .headerDemodulated l => Sys2Proof.Machine.execHeaderDemodulated l s
  | .headerResult l est => Sys2Proof.Machine.execHeaderResult l est s
  | .payloadDemodulated l rssi snr freq endErr blanked => Sys2Proof.Machine.execPayloadDemodulated l rssi snr freq endErr blanked s
  | .replayLost l => Sys2Proof.Machine.execReplayLost l s
  | .decodeStart => Sys2Proof.Machine.execDecodeStart s
  | .decodeDone e converged iter bytes weak => Sys2Proof.Machine.execDecodeDone e converged iter bytes weak s
  | .syndromeCheckDone e pass us => Sys2Proof.Machine.execSyndromeCheckDone e pass us s
  | .regenCheckWindow l fall => Sys2Proof.Machine.execRegenCheckWindow l fall s
  | .regenDone l => Sys2Proof.Machine.execRegenDone l s
  | .receptionReport => Sys2Proof.Machine.execReceptionReport s
  | .laneRetire l residue regen now => Sys2Proof.Machine.execLaneRetire l residue regen now s
  | .sliceRetire l => Sys2Proof.Machine.execSliceRetire l s
  | .engineRetire e => Sys2Proof.Machine.execEngineRetire e s
  | .spareSearchDone l => Sys2Proof.Machine.execSpareSearchDone l s
  | .grantRequest lnk v => Sys2Proof.Machine.execGrantRequest lnk v s
  | .carrierEnd c gamma fb => Sys2Proof.Machine.execCarrierEnd c gamma fb s
  | .dpdFeedbackWindow => Sys2Proof.Machine.execDpdFeedbackWindow s
  | .dpdFitDone fit aclr levelOff => Sys2Proof.Machine.execDpdFitDone fit aclr levelOff s
  | .dpdSave src tid v => Sys2Proof.Machine.execDpdSave src tid v s
  | .dpdCoefWrite src tid v => Sys2Proof.Machine.execDpdCoefWrite src tid v s
  | .schedApply src tid v => Sys2Proof.Machine.execSchedApply src tid v s
  | .schedSwitch => Sys2Proof.Machine.execSchedSwitch s
  | .sendOccurrence idx lbt conflict => Sys2Proof.Machine.execSendOccurrence idx lbt conflict s
  | .serveWindowEnd idx => Sys2Proof.Machine.execServeWindowEnd idx s
  | .ackSeal lbt => Sys2Proof.Machine.execAckSeal lbt s
  | .groupAckSend => Sys2Proof.Machine.execGroupAckSend s
  | .downlinkBurst lbt => Sys2Proof.Machine.execDownlinkBurst lbt s
  | .ackReceive err => Sys2Proof.Machine.execAckReceive err s
  | .ackMissed => Sys2Proof.Machine.execAckMissed s
  | .beaconTx idx lbt conflict => Sys2Proof.Machine.execBeaconTx idx lbt conflict s
  | .anchorBeaconTx lbt => Sys2Proof.Machine.execAnchorBeaconTx lbt s
  | .beaconAccept err => Sys2Proof.Machine.execBeaconAccept err s
  | .enterCatch => Sys2Proof.Machine.execEnterCatch s
  | .beaconMiss => Sys2Proof.Machine.execBeaconMiss s
  | .enterLost => Sys2Proof.Machine.execEnterLost s
  | .enterDormant => Sys2Proof.Machine.execEnterDormant s
  | .anchorAccept err => Sys2Proof.Machine.execAnchorAccept err s
  | .dormantListen => Sys2Proof.Machine.execDormantListen s
  | .bucketRefillTick n => Sys2Proof.Machine.execBucketRefillTick n s
  | .routeCommit src tid v => Sys2Proof.Machine.execRouteCommit src tid v s
  | .routeBuildDone => Sys2Proof.Machine.execRouteBuildDone s
  | .routeTableSwitch => Sys2Proof.Machine.execRouteTableSwitch s
  | .rosterLiveUpdate => Sys2Proof.Machine.execRosterLiveUpdate s
  | .relayDecision => Sys2Proof.Machine.execRelayDecision s
  | .peerFrameReceive hdr lh payload slot m => Sys2Proof.Machine.execPeerFrameReceive hdr lh payload slot m s
  | .rosterOpRequest src tid v => Sys2Proof.Machine.execRosterOpRequest src tid v s
  | .rosterOpDone => Sys2Proof.Machine.execRosterOpDone s
  | .restoreRequest src tid v => Sys2Proof.Machine.execRestoreRequest src tid v s
  | .sluAllocRead => Sys2Proof.Machine.execSluAllocRead s
  | .sluEnq v => Sys2Proof.Machine.execSluEnq v s
  | .keyWrite src tid sub v => Sys2Proof.Machine.execKeyWrite src tid sub v s
  | .keyChangeRequest src tid v => Sys2Proof.Machine.execKeyChangeRequest src tid v s
  | .keyRotation => Sys2Proof.Machine.execKeyRotation s
  | .previousEpochErase => Sys2Proof.Machine.execPreviousEpochErase s
  | .keyNextWrite src tid v => Sys2Proof.Machine.execKeyNextWrite src tid v s
  | .netNextWrite src tid v => Sys2Proof.Machine.execNetNextWrite src tid v s
  | .wrapRequest src tid v => Sys2Proof.Machine.execWrapRequest src tid v s
  | .keyErase src tid v => Sys2Proof.Machine.execKeyErase src tid v s
  | .cmcAbort m p => Sys2Proof.Machine.execCmcAbort m p s
  | .cmcGen m p => Sys2Proof.Machine.execCmcGen m p s
  | .cmcVerify m p => Sys2Proof.Machine.execCmcVerify m p s
  | .cmcWrap m p => Sys2Proof.Machine.execCmcWrap m p s
  | .cmcTest m p => Sys2Proof.Machine.execCmcTest m p s
  | .cmcBlockDone => Sys2Proof.Machine.execCmcBlockDone s
  | .cmcJobDone p => Sys2Proof.Machine.execCmcJobDone p s
  | .ksLoad m v => Sys2Proof.Machine.execKsLoad m v s
  | .ksErase m v => Sys2Proof.Machine.execKsErase m v s
  | .pkeHashStart m => Sys2Proof.Machine.execPkeHashStart m s
  | .pkeHashContinue m => Sys2Proof.Machine.execPkeHashContinue m s
  | .pkeHashFinal m => Sys2Proof.Machine.execPkeHashFinal m s
  | .pkeVerify m => Sys2Proof.Machine.execPkeVerify m s
  | .pkeSign m => Sys2Proof.Machine.execPkeSign m s
  | .pkeJobDone hash => Sys2Proof.Machine.execPkeJobDone hash s
  | .otpProgram idx v got => Sys2Proof.Machine.execOtpProgram idx v got s
  | .custKeyHashWrite src tid k v got => Sys2Proof.Machine.execCustKeyHashWrite src tid k v got s
  | .custKeyRevoke src tid v got => Sys2Proof.Machine.execCustKeyRevoke src tid v got s
  | .rollbackMinWrite src tid c v got => Sys2Proof.Machine.execRollbackMinWrite src tid c v got s
  | .debugLockWrite src tid v got => Sys2Proof.Machine.execDebugLockWrite src tid v got s
  | .attRequest src tid v => Sys2Proof.Machine.execAttRequest src tid v s
  | .attReportDone => Sys2Proof.Machine.execAttReportDone s
  | .securityTestRequest src tid v => Sys2Proof.Machine.execSecurityTestRequest src tid v s
  | .securityTestDone => Sys2Proof.Machine.execSecurityTestDone s
  | .add c rd ra rb => Sys2Proof.Machine.execAdd c rd ra rb s
  | .sub c rd ra rb => Sys2Proof.Machine.execSub c rd ra rb s
  | .adc c rd ra rb => Sys2Proof.Machine.execAdc c rd ra rb s
  | .sbc c rd ra rb => Sys2Proof.Machine.execSbc c rd ra rb s
  | .and c rd ra rb => Sys2Proof.Machine.execAnd c rd ra rb s
  | .or c rd ra rb => Sys2Proof.Machine.execOr c rd ra rb s
  | .xor c rd ra rb => Sys2Proof.Machine.execXor c rd ra rb s
  | .andn c rd ra rb => Sys2Proof.Machine.execAndn c rd ra rb s
  | .shl c rd ra rb => Sys2Proof.Machine.execShl c rd ra rb s
  | .shr c rd ra rb => Sys2Proof.Machine.execShr c rd ra rb s
  | .sar c rd ra rb => Sys2Proof.Machine.execSar c rd ra rb s
  | .ror c rd ra rb => Sys2Proof.Machine.execRor c rd ra rb s
  | .slt c rd ra rb => Sys2Proof.Machine.execSlt c rd ra rb s
  | .sltu c rd ra rb => Sys2Proof.Machine.execSltu c rd ra rb s
  | .min c rd ra rb => Sys2Proof.Machine.execMin c rd ra rb s
  | .max c rd ra rb => Sys2Proof.Machine.execMax c rd ra rb s
  | .minu c rd ra rb => Sys2Proof.Machine.execMinu c rd ra rb s
  | .maxu c rd ra rb => Sys2Proof.Machine.execMaxu c rd ra rb s
  | .mul c rd ra rb => Sys2Proof.Machine.execMul c rd ra rb s
  | .mulh c rd ra rb => Sys2Proof.Machine.execMulh c rd ra rb s
  | .mulhu c rd ra rb => Sys2Proof.Machine.execMulhu c rd ra rb s
  | .div c rd ra rb => Sys2Proof.Machine.execDiv c rd ra rb s
  | .divu c rd ra rb => Sys2Proof.Machine.execDivu c rd ra rb s
  | .rem c rd ra rb => Sys2Proof.Machine.execRem c rd ra rb s
  | .remu c rd ra rb => Sys2Proof.Machine.execRemu c rd ra rb s
  | .neg c rd ra => Sys2Proof.Machine.execNeg c rd ra s
  | .abs c rd ra => Sys2Proof.Machine.execAbs c rd ra s
  | .clz c rd ra => Sys2Proof.Machine.execClz c rd ra s
  | .sexb c rd ra => Sys2Proof.Machine.execSexb c rd ra s
  | .sexh c rd ra => Sys2Proof.Machine.execSexh c rd ra s
  | .brev c rd ra => Sys2Proof.Machine.execBrev c rd ra s
  | .bswap c rd ra => Sys2Proof.Machine.execBswap c rd ra s
  | .addi c rd ra imm => Sys2Proof.Machine.execAddi c rd ra imm s
  | .andi c rd ra imm => Sys2Proof.Machine.execAndi c rd ra imm s
  | .ori c rd ra imm => Sys2Proof.Machine.execOri c rd ra imm s
  | .xori c rd ra imm => Sys2Proof.Machine.execXori c rd ra imm s
  | .shli c rd ra n => Sys2Proof.Machine.execShli c rd ra n s
  | .shri c rd ra n => Sys2Proof.Machine.execShri c rd ra n s
  | .sari c rd ra n => Sys2Proof.Machine.execSari c rd ra n s
  | .rori c rd ra n => Sys2Proof.Machine.execRori c rd ra n s
  | .slti c rd ra imm => Sys2Proof.Machine.execSlti c rd ra imm s
  | .sltiu c rd ra imm => Sys2Proof.Machine.execSltiu c rd ra imm s
  | .lui c rd imm => Sys2Proof.Machine.execLui c rd imm s
  | .auipc c rd imm => Sys2Proof.Machine.execAuipc c rd imm s
  | .ldw c rd ra imm => Sys2Proof.Machine.execLdw c rd ra imm s
  | .ldh c rd ra imm => Sys2Proof.Machine.execLdh c rd ra imm s
  | .ldhu c rd ra imm => Sys2Proof.Machine.execLdhu c rd ra imm s
  | .ldb c rd ra imm => Sys2Proof.Machine.execLdb c rd ra imm s
  | .ldbu c rd ra imm => Sys2Proof.Machine.execLdbu c rd ra imm s
  | .stw c rd ra imm => Sys2Proof.Machine.execStw c rd ra imm s
  | .sth c rd ra imm => Sys2Proof.Machine.execSth c rd ra imm s
  | .stb c rd ra imm => Sys2Proof.Machine.execStb c rd ra imm s
  | .ll c rd ra imm => Sys2Proof.Machine.execLl c rd ra imm s
  | .sc c rd ra imm => Sys2Proof.Machine.execSc c rd ra imm s
  | .beq c ra rb off => Sys2Proof.Machine.execBeq c ra rb off s
  | .bne c ra rb off => Sys2Proof.Machine.execBne c ra rb off s
  | .blt c ra rb off => Sys2Proof.Machine.execBlt c ra rb off s
  | .bge c ra rb off => Sys2Proof.Machine.execBge c ra rb off s
  | .bltu c ra rb off => Sys2Proof.Machine.execBltu c ra rb off s
  | .bgeu c ra rb off => Sys2Proof.Machine.execBgeu c ra rb off s
  | .jal c off => Sys2Proof.Machine.execJal c off s
  | .j c off => Sys2Proof.Machine.execJ c off s
  | .jalr c rd ra imm => Sys2Proof.Machine.execJalr c rd ra imm s
  | .loop c ra n => Sys2Proof.Machine.execLoop c ra n s
  | .loopBack c => Sys2Proof.Machine.execLoopBack c s
  | .nop c => Sys2Proof.Machine.execNop c s
  | .trap c n => Sys2Proof.Machine.execTrap c n s
  | .rft c => Sys2Proof.Machine.execRft c s
  | .wait c => Sys2Proof.Machine.execWait c s
  | .mfsr c rd sr => Sys2Proof.Machine.execMfsr c rd sr s
  | .mtsr c ra sr => Sys2Proof.Machine.execMtsr c ra sr s
  | .fence c => Sys2Proof.Machine.execFence c s
  | .ifence c => Sys2Proof.Machine.execIfence c s
  | .brk c => Sys2Proof.Machine.execBrk c s
  | .ladd c rd ra rb => Sys2Proof.Machine.execLadd c rd ra rb s
  | .lsub c rd ra rb => Sys2Proof.Machine.execLsub c rd ra rb s
  | .lneg c rd ra => Sys2Proof.Machine.execLneg c rd ra s
  | .lconj c rd ra => Sys2Proof.Machine.execLconj c rd ra s
  | .lmul c rd ra rb => Sys2Proof.Machine.execLmul c rd ra rb s
  | .lmulc c rd ra rb => Sys2Proof.Machine.execLmulc c rd ra rb s
  | .lsar c rd ra rb => Sys2Proof.Machine.execLsar c rd ra rb s
  | .lshl c rd ra rb => Sys2Proof.Machine.execLshl c rd ra rb s
  | .lpack c rd ra rb => Sys2Proof.Machine.execLpack c rd ra rb s
  | .lunpi c rd ra => Sys2Proof.Machine.execLunpi c rd ra s
  | .lunpq c rd ra => Sys2Proof.Machine.execLunpq c rd ra s
  | .lmag2 c rd ra => Sys2Proof.Machine.execLmag2 c rd ra s
  | .lrot c rd ra rb => Sys2Proof.Machine.execLrot c rd ra rb s
  | .mac c acc ra rb => Sys2Proof.Machine.execMac c acc ra rb s
  | .msu c acc ra rb => Sys2Proof.Machine.execMsu c acc ra rb s
  | .xmac c acc ra rb => Sys2Proof.Machine.execXmac c acc ra rb s
  | .xmacc c acc ra rb => Sys2Proof.Machine.execXmacc c acc ra rb s
  | .clra c acc => Sys2Proof.Machine.execClra c acc s
  | .racc c rd acc sh => Sys2Proof.Machine.execRacc c rd acc sh s
  | .apack c rd acc sh => Sys2Proof.Machine.execApack c rd acc sh s
  | .mfacl c rd acc => Sys2Proof.Machine.execMfacl c rd acc s
  | .mfach c rd acc => Sys2Proof.Machine.execMfach c rd acc s
  | .mtacl c acc ra => Sys2Proof.Machine.execMtacl c acc ra s
  | .mtach c acc ra => Sys2Proof.Machine.execMtach c acc ra s
  | .mtacc c acc ra => Sys2Proof.Machine.execMtacc c acc ra s
  | .mtag c r ag sel => Sys2Proof.Machine.execMtag c r ag sel s
  | .mfag c r ag sel => Sys2Proof.Machine.execMfag c r ag sel s
  | .ldag c r ag size sx hold => Sys2Proof.Machine.execLdag c r ag size sx hold s
  | .stag c r ag size hold => Sys2Proof.Machine.execStag c r ag size hold s
  | .xmacD c acc x y => Sys2Proof.Machine.execXmacD c acc x y s
  | .xmaccD c acc x y => Sys2Proof.Machine.execXmaccD c acc x y s
  | .macDh c acc x y => Sys2Proof.Machine.execMacDh c acc x y s
  | .msuDh c acc x y => Sys2Proof.Machine.execMsuDh c acc x y s
  | .customOpcode c op rd ra rb imm => Sys2Proof.Machine.execCustomOpcode c op rd ra rb imm s
  | .illegalInstruction c w => Sys2Proof.Machine.execIllegalInstruction c w s
  | .coreRestart c => Sys2Proof.Machine.execCoreRestart c s
  | .interruptEntry c => Sys2Proof.Machine.execInterruptEntry c s
  | .nmiEntry c => Sys2Proof.Machine.execNmiEntry c s
  | .coreRetire p detector => Sys2Proof.Machine.execCoreRetire p detector s
  | .kzcSwapArm v => Sys2Proof.Machine.execKzcSwapArm v s
  | .coreSwap => Sys2Proof.Machine.execCoreSwap s
  | .coreRunWrite l run => Sys2Proof.Machine.execCoreRunWrite l run s
  | .microcodeWrite l off v => Sys2Proof.Machine.execMicrocodeWrite l off v s
  | .sramScrubPass found => Sys2Proof.Machine.execSramScrubPass found s
  | .sramRowRepair a bad => Sys2Proof.Machine.execSramRowRepair a bad s
  | .flcKeyWrite m v => Sys2Proof.Machine.execFlcKeyWrite m v s
  | .flcProgram m a v => Sys2Proof.Machine.execFlcProgram m a v s
  | .flcErase m a => Sys2Proof.Machine.execFlcErase m a s
  | .flcVerifyProgram m a => Sys2Proof.Machine.execFlcVerifyProgram m a s
  | .flcVerifyErase m a => Sys2Proof.Machine.execFlcVerifyErase m a s
  | .flcRemap m a => Sys2Proof.Machine.execFlcRemap m a s
  | .flcBadCommand m c => Sys2Proof.Machine.execFlcBadCommand m c s
  | .flcOpDone fails words => Sys2Proof.Machine.execFlcOpDone fails words s
  | .flcIntrWrite => Sys2Proof.Machine.execFlcIntrWrite s
  | .dramScrubPass found => Sys2Proof.Machine.execDramScrubPass found s
  | .dramUe a => Sys2Proof.Machine.execDramUe a s
  | .dramCapar r within => Sys2Proof.Machine.execDramCapar r within s
  | .patternGenStart v pass => Sys2Proof.Machine.execPatternGenStart v pass s
  | .dmcMrw v => Sys2Proof.Machine.execDmcMrw v s
  | .dramRefresh window defer => Sys2Proof.Machine.execDramRefresh window defer s
  | .dramTempRead t0 t1 t2 => Sys2Proof.Machine.execDramTempRead t0 t1 t2 s
  | .rhNeighbourRefresh bank row => Sys2Proof.Machine.execRhNeighbourRefresh bank row s
  | .sparePowerDown slot1 => Sys2Proof.Machine.execSparePowerDown slot1 s
  | .dramColdWrite src tid v => Sys2Proof.Machine.execDramColdWrite src tid v s
  | .rankRetire r => Sys2Proof.Machine.execRankRetire r s
  | .migWakeDone pass => Sys2Proof.Machine.execMigWakeDone pass s
  | .migCopyDone bad => Sys2Proof.Machine.execMigCopyDone bad s
  | .migAbort => Sys2Proof.Machine.execMigAbort s
  | .channelFire c => Sys2Proof.Machine.execChannelFire c s
  | .evfFireWrite hi bits => Sys2Proof.Machine.execEvfFireWrite hi bits s
  | .bridgeForward c => Sys2Proof.Machine.execBridgeForward c s
  | .pendingTriggerAct c => Sys2Proof.Machine.execPendingTriggerAct c s
  | .tmrStart n => Sys2Proof.Machine.execTmrStart n s
  | .tmrStop n => Sys2Proof.Machine.execTmrStop n s
  | .tmrStartTrigger n => Sys2Proof.Machine.execTmrStartTrigger n s
  | .tmrStopTrigger n => Sys2Proof.Machine.execTmrStopTrigger n s
  | .timerTick n => Sys2Proof.Machine.execTimerTick n s
  | .tmrCapTrigger n => Sys2Proof.Machine.execTmrCapTrigger n s
  | .timInEdge n rising => Sys2Proof.Machine.execTimInEdge n rising s
  | .tmrCaptRead n sameCycle => Sys2Proof.Machine.execTmrCaptRead n sameCycle s
  | .tmrCountLowRead n => Sys2Proof.Machine.execTmrCountLowRead n s
  | .backupPor => Sys2Proof.Machine.execBackupPor s
  | .oscStop => Sys2Proof.Machine.execOscStop s
  | .bkpWriteComplete => Sys2Proof.Machine.execBkpWriteComplete s
  | .calendarSecond => Sys2Proof.Machine.execCalendarSecond s
  | .bkpSubsecRead sub => Sys2Proof.Machine.execBkpSubsecRead sub s
  | .bkpTimeWrite date v => Sys2Proof.Machine.execBkpTimeWrite date v s
  | .haltRelease => Sys2Proof.Machine.execHaltRelease s
  | .pwrHoldClear => Sys2Proof.Machine.execPwrHoldClear s
  | .rtcSecondsWrite src tid v => Sys2Proof.Machine.execRtcSecondsWrite src tid v s
  | .rtcFlagsClear src tid v => Sys2Proof.Machine.execRtcFlagsClear src tid v s
  | .powerCycle src tid v => Sys2Proof.Machine.execPowerCycle src tid v s
  | .domainReq src tid d v => Sys2Proof.Machine.execDomainReq src tid d v s
  | .domainChangeDone trained => Sys2Proof.Machine.execDomainChangeDone trained s
  | .regModeWrite lp => Sys2Proof.Machine.execRegModeWrite lp s
  | .regModeDone => Sys2Proof.Machine.execRegModeDone s
  | .borLp => Sys2Proof.Machine.execBorLp s
  | .vmainSample v above => Sys2Proof.Machine.execVmainSample v above s
  | .borMain => Sys2Proof.Machine.execBorMain s
  | .pllLock p => Sys2Proof.Machine.execPllLock p s
  | .xoFail => Sys2Proof.Machine.execXoFail s
  | .xoRestartAttempt runs => Sys2Proof.Machine.execXoRestartAttempt runs s
  | .sleepArm => Sys2Proof.Machine.execSleepArm s
  | .wake fired lat => Sys2Proof.Machine.execWake fired lat s
  | .powerOn => Sys2Proof.Machine.execPowerOn s
  | .resetNAssert => Sys2Proof.Machine.execResetNAssert s
  | .bootRomStart cores fails ms => Sys2Proof.Machine.execBootRomStart cores fails ms s
  | .securityEntry => Sys2Proof.Machine.execSecurityEntry s
  | .mainFirmwareStart trained got => Sys2Proof.Machine.execMainFirmwareStart trained got s
  | .stageBegin src tid v => Sys2Proof.Machine.execStageBegin src tid v s
  | .stageData src tid off last data => Sys2Proof.Machine.execStageData src tid off last data s
  | .stageVerify src tid v => Sys2Proof.Machine.execStageVerify src tid v s
  | .confirm src tid v got => Sys2Proof.Machine.execConfirm src tid v got s
  | .autoConfirm got => Sys2Proof.Machine.execAutoConfirm got s
  | .copySector => Sys2Proof.Machine.execCopySector s
  | .activateNow src tid v => Sys2Proof.Machine.execActivateNow src tid v s
  | .activationRestart => Sys2Proof.Machine.execActivationRestart s
  | .hoRequest src tid v => Sys2Proof.Machine.execHoRequest src tid v s
  | .actRequest src tid v => Sys2Proof.Machine.execActRequest src tid v s
  | .actCancel src tid v => Sys2Proof.Machine.execActCancel src tid v s
  | .actDefer => Sys2Proof.Machine.execActDefer s
  | .monitorSample k v => Sys2Proof.Machine.execMonitorSample k v s
  | .lifetimeRecordSave => Sys2Proof.Machine.execLifetimeRecordSave s
  | .injectReport src tid v => Sys2Proof.Machine.execInjectReport src tid v s
  | .injectAct src tid v now => Sys2Proof.Machine.execInjectAct src tid v now s
  | .watchdogKick m c v => Sys2Proof.Machine.execWatchdogKick m c v s
  | .watchdogExpiry c => Sys2Proof.Machine.execWatchdogExpiry c s
  | .supervisorMismatch => Sys2Proof.Machine.execSupervisorMismatch s
  | .shutdown src tid v => Sys2Proof.Machine.execShutdown src tid v s
  | .bistDone fails ms => Sys2Proof.Machine.execBistDone fails ms s
  | .rollRequest src tid v now => Sys2Proof.Machine.execRollRequest src tid v now s
  | .rollUnitDone fails => Sys2Proof.Machine.execRollUnitDone fails s
  | .rollGapExpiry now => Sys2Proof.Machine.execRollGapExpiry now s
  | .bistAbort => Sys2Proof.Machine.execBistAbort s
  | .plkLossOfSignal b => Sys2Proof.Machine.execPlkLossOfSignal b s
  | .plkLinkUp b => Sys2Proof.Machine.execPlkLinkUp b s
  | .plkFrameReceive b bytes => Sys2Proof.Machine.execPlkFrameReceive b bytes s
  | .plkHeartbeatSend => Sys2Proof.Machine.execPlkHeartbeatSend s
  | .partnerLost x => Sys2Proof.Machine.execPartnerLost x s
  | .phaseFrameSend => Sys2Proof.Machine.execPhaseFrameSend s
  | .linkDelayMeasure b ns => Sys2Proof.Machine.execLinkDelayMeasure b ns s
  | .phaseLoss => Sys2Proof.Machine.execPhaseLoss s
  | .mirrorRecord kind data => Sys2Proof.Machine.execMirrorRecord kind data s
  | .journalOverflow => Sys2Proof.Machine.execJournalOverflow s
  | .beaconWaitExpiry idx heard => Sys2Proof.Machine.execBeaconWaitExpiry idx heard s
  | .demotionListen heard => Sys2Proof.Machine.execDemotionListen heard s
  | .dualRootResolve => Sys2Proof.Machine.execDualRootResolve s
  | .twinSwitch src tid v => Sys2Proof.Machine.execTwinSwitch src tid v s
  | .twinSwitchExecute => Sys2Proof.Machine.execTwinSwitchExecute s
  | .arbGrant => Sys2Proof.Machine.execArbGrant s
  | .lockSet m a => Sys2Proof.Machine.execLockSet m a s
  | .registerWrite m a v => Sys2Proof.Machine.execRegisterWrite m a v s
  | .vioLoss => Sys2Proof.Machine.execVioLoss s
  | .vioReturn => Sys2Proof.Machine.execVioReturn s
  | .pllUnlock => Sys2Proof.Machine.execPllUnlock s
  | .rtcOscillatorResume => Sys2Proof.Machine.execRtcOscillatorResume s
  | .boundaryScanInstruction idx => Sys2Proof.Machine.execBoundaryScanInstruction idx s
  | .testLogicReset => Sys2Proof.Machine.execTestLogicReset s
  | .anchorPeriodEnd => Sys2Proof.Machine.execAnchorPeriodEnd s
  | .twinStartListenEnd heard => Sys2Proof.Machine.execTwinStartListenEnd heard s

end Sys2Proof.Machine
end

