-- ==== Sys2Proof/Machine/Step.lean ====
section
/-! DEFINITION. One step: the command at the front of the queue, or, when none waits, the oldest dictionary request that a link has taken
(R32). -/

namespace Sys2Proof.Machine

/-- What the block does while no command waits: the dictionary server executes the oldest request it has taken, if there is one, and
otherwise nothing changes (log entry 2). -/
def idle (s : State) : Host.Outcome State Fault Refusal := .next (serveOne s)

/-- One step. -/
def step (s : State) : Host.Outcome State Fault Refusal :=
  match s.pending with
  | [] => idle s
  | c :: rest => exec c { s with pending := rest }

/-- The state with the command that a word spells at the front of its queue; no word spells one. -/
def State.withFetchWord (s : State) (nbits w : Nat) : State :=
  match decodeTableWord nbits w with
  | some c => { s with pending := c :: s.pending }
  | none => s

end Sys2Proof.Machine
end

