-- ==== Sys2Proof/Safety.lean ====
section
/-! DEFINITION. What counts as a safe run, in the terms that claims use: a step that completes, the domains that never lose power, and
memory in its one canonical form. -/

namespace Sys2Proof.Machine

/-- A command completes: the machine goes on. -/
def Completes (o : Out) : Prop := ∃ t, o = .next t

/-- The domains AON and BKP are ON (R426: always). -/
def State.Powered (s : State) : Prop := s.isOn dAON = true ∧ s.isOn dBKP = true

/-- Memory stands in its canonical form. -/
def State.MemCanonical (s : State) : Prop := Memory.wf s.mem.cells = true

/-- Logical core `c` stands on physical core `p` and runs its next instruction: it fetches, no flash operation holds its bank, no cause of R346
meets the fetch, and the word it fetches holds no error. -/
structure KzReady (s : State) (c p : Fin 6) : Prop where
  mapped : s.physOf c = some p
  fetches : s.fetching c = true
  bank : s.flashBusy (vget s.kz.phys p).pc.toNat = false
  cause : fetchFault c (vget s.kz.phys p) s = none
  clean : s.mem.soft.contains (eccUnit (vget s.kz.phys p).pc.toNat) = false

end Sys2Proof.Machine
end

