-- ==== Sys2Proof/Certificates/Slice0/Obligations.lean ====
section
/-! DEFINITION. The statements for the provers: what the commands do, what they leave alone, and what holds of the whole machine. The words that
several statements share stand before the first of them that uses them. -/

open Sys2Proof Sys2Proof.Machine

/-! ### The KZ cores: arithmetic -/

namespace Sys2Proof.Machine

/-- After an instruction that transfers no control: `cost` cycles, and the next address, or the loop at its last instruction (R339). -/
def KzOnward (k k' : Core) (cost : Nat) : Prop :=
  k'.cycle = k.cycle + BitVec.ofNat 64 cost ∧
  (if k.pc = k.le ∧ k.lc ≠ 0 then k'.lc = k.lc - 1 ∧ k'.pc = (if k.lc = 1 then k.pc + 4 else k.ls)
   else k'.lc = k.lc ∧ k'.pc = k.pc + 4)

/-- After a transfer of control. -/
def KzJumped (k k' : Core) (cost : Nat) (pc : BitVec 32) : Prop :=
  k'.cycle = k.cycle + BitVec.ofNat 64 cost ∧ k'.lc = k.lc ∧ k'.pc = pc

/-- `rd` holds `r` (g0 still reads 0) and every other general register what it held. -/
def KzWrote (k k' : Core) (rd : Gr) (r : BitVec 32) : Prop :=
  k'.gr rd = (if rd = 0 then 0 else r) ∧ ∀ x, x ≠ rd → k'.gr x = k.gr x

/-- Z and N follow `r`; C and V take a value or stay; VS and DZ are sticky; every other bit of SW stays. -/
structure KzFlags (old new r : BitVec 32) (cf vf : Option Bool) (dz : Bool) : Prop where
  z : new.getLsbD 0 = decide (r = 0)
  n : new.getLsbD 1 = r.msb
  c : new.getLsbD 2 = cf.getD (old.getLsbD 2)
  v : new.getLsbD 3 = vf.getD (old.getLsbD 3)
  vs : new.getLsbD 4 = (old.getLsbD 4 || vf.getD false)
  dz : new.getLsbD 5 = (old.getLsbD 5 || dz)
  rest : ∀ i, 5 < i → new.getLsbD i = old.getLsbD i

/-- The core changed in nothing but its general registers, SW, PC, LC and CYCLE. -/
def KzKeeps (k k' : Core) : Prop := { k' with g := k.g, sw := k.sw, pc := k.pc, lc := k.lc, cycle := k.cycle } = k

/-- The instruction completes; nothing of the machine changes but its own core, which becomes as `post` says. -/
def KzDoes (s : State) (p : Fin 6) (i : Instr) (post : Core → Core → Prop) : Prop :=
  ∃ k', exec i s = .next (kmod p (fun _ => k') s) ∧ post (vget s.kz.phys p) k'

/-- An arithmetic instruction: the result in `rd`, the flags, and the way on. -/
def KzAlu (s : State) (p : Fin 6) (i : Instr) (rd : Gr) (cost : Nat) (r : BitVec 32) (cf vf : Option Bool) (dz : Bool) : Prop :=
  KzDoes s p i (fun k k' => KzWrote k k' rd r ∧ KzFlags k.sw k'.sw r cf vf dz ∧ KzOnward k k' cost ∧ KzKeeps k k')

/-- An instruction that writes `rd` and no flag. -/
def KzPlain (s : State) (p : Fin 6) (i : Instr) (rd : Gr) (cost : Nat) (r : BitVec 32) : Prop :=
  KzDoes s p i (fun k k' => KzWrote k k' rd r ∧ k'.sw = k.sw ∧ KzOnward k k' cost ∧ KzKeeps k k')

/-- An integer that 32 bits hold in no signed reading. -/
def outside32 (x : Int) : Bool := decide (x < -2147483648) || decide (2147483647 < x)

end Sys2Proof.Machine

/-- Register arithmetic of the KZ cores completes with its result, flags and frame: On a core that runs its next instruction, ADD, SUB, ADC, SBC,
AND, OR, XOR, ANDN, SHL, SHR, SAR, ROR, SLT, SLTU, MIN, MAX, MINU, MAXU, MUL, MULH and MULHU each answer a next state in which rd holds the result
(g0 discards it), Z and N follow the result, C and V take the values of R329 where it gives them and stay otherwise, VS is sticky, one cycle is
counted, the PC or the hardware loop goes on, and nothing else of the core or the machine changes. (R324, R325, R329, R331, R339) -/
def Obligations.KzRegisterArithmetic : Prop :=
  ∀ (s : State) (c p : Fin 6) (rd ra rb : Gr), KzReady s c p →
    let a := (vget s.kz.phys p).gr ra
    let b := (vget s.kz.phys p).gr rb
    let cin := (vget s.kz.phys p).sw.getLsbD 2
    let n := b.toNat % 256
    KzAlu s p (.add c rd ra rb) rd 1 (a + b) (some (decide (2 ^ 32 ≤ a.toNat + b.toNat))) (some (outside32 (a.toInt + b.toInt))) false ∧
    KzAlu s p (.sub c rd ra rb) rd 1 (a - b) (some (decide (b.toNat ≤ a.toNat))) (some (outside32 (a.toInt - b.toInt))) false ∧
    KzAlu s p (.adc c rd ra rb) rd 1 (a + b + (if cin then 1 else 0)) (some (decide (2 ^ 32 ≤ a.toNat + b.toNat + (if cin then 1 else 0))))
      (some (outside32 (a.toInt + b.toInt + (if cin then 1 else 0)))) false ∧
    KzAlu s p (.sbc c rd ra rb) rd 1 (a - b - (if cin then 0 else 1)) (some (decide (b.toNat + (if cin then 0 else 1) ≤ a.toNat)))
      (some (outside32 (a.toInt - b.toInt - (if cin then 0 else 1)))) false ∧
    KzAlu s p (.and c rd ra rb) rd 1 (a &&& b) none none false ∧
    KzAlu s p (.or c rd ra rb) rd 1 (a ||| b) none none false ∧
    KzAlu s p (.xor c rd ra rb) rd 1 (a ^^^ b) none none false ∧
    KzAlu s p (.andn c rd ra rb) rd 1 (a &&& ~~~b) none none false ∧
    KzAlu s p (.shl c rd ra rb) rd 1 (a <<< n) none none false ∧
    KzAlu s p (.shr c rd ra rb) rd 1 (a >>> n) none none false ∧
    KzAlu s p (.sar c rd ra rb) rd 1 (a.sshiftRight n) none none false ∧
    KzAlu s p (.ror c rd ra rb) rd 1 (a.rotateRight (n % 32)) none none false ∧
    KzAlu s p (.slt c rd ra rb) rd 1 (if a.toInt < b.toInt then 1 else 0) none none false ∧
    KzAlu s p (.sltu c rd ra rb) rd 1 (if a.toNat < b.toNat then 1 else 0) none none false ∧
    KzAlu s p (.min c rd ra rb) rd 1 (if a.toInt ≤ b.toInt then a else b) none none false ∧
    KzAlu s p (.max c rd ra rb) rd 1 (if a.toInt ≤ b.toInt then b else a) none none false ∧
    KzAlu s p (.minu c rd ra rb) rd 1 (if a.toNat ≤ b.toNat then a else b) none none false ∧
    KzAlu s p (.maxu c rd ra rb) rd 1 (if a.toNat ≤ b.toNat then b else a) none none false ∧
    KzAlu s p (.mul c rd ra rb) rd 1 (BitVec.ofInt 32 (a.toInt * b.toInt)) none (some (outside32 (a.toInt * b.toInt))) false ∧
    KzAlu s p (.mulh c rd ra rb) rd 1 (BitVec.ofInt 32 (a.toInt * b.toInt / 4294967296)) none none false ∧
    KzAlu s p (.mulhu c rd ra rb) rd 1 (BitVec.ofNat 32 (a.toNat * b.toNat / 4294967296)) none none false

/-- Division, the unary and the immediate forms: DIV, DIVU, REM and REMU with a divisor other than 0, or with SW.DZE clear, complete in 34 cycles:
truncating quotients and remainders of a divisor other than 0; all ones and the dividend for 0, with DZ set; V only for 0x80000000 by -1; nothing
else changes. NEG, ABS, CLZ, SEXB, SEXH, BREV, BSWAP, ADDI, ANDI, ORI, XORI, SHLI, SHRI, SARI, RORI, SLTI, SLTIU, LUI and AUIPC complete in one
cycle with their results (immediates sign- or zero-extended as R330 says), their flags (none for LUI and AUIPC), and nothing else of the core or the
machine changes. (R329, R330, R331, R339, R345) -/
def Obligations.KzDivisionAndImmediates : Prop :=
  (∀ (s : State) (c p : Fin 6) (rd ra rb : Gr), KzReady s c p →
    let a := (vget s.kz.phys p).gr ra
    let b := (vget s.kz.phys p).gr rb
    (b ≠ 0 ∨ (vget s.kz.phys p).sw.getLsbD 8 = false) →
    KzAlu s p (.div c rd ra rb) rd 34 (if b = 0 then 0xFFFFFFFF else BitVec.ofInt 32 (a.toInt.tdiv b.toInt)) none
      (some (decide (b ≠ 0) && outside32 (a.toInt.tdiv b.toInt))) (decide (b = 0)) ∧
    KzAlu s p (.divu c rd ra rb) rd 34 (if b = 0 then 0xFFFFFFFF else BitVec.ofNat 32 (a.toNat / b.toNat)) none (some false) (decide (b = 0)) ∧
    KzAlu s p (.rem c rd ra rb) rd 34 (if b = 0 then a else BitVec.ofInt 32 (a.toInt.tmod b.toInt)) none
      (some (decide (b ≠ 0) && outside32 (a.toInt.tdiv b.toInt))) (decide (b = 0)) ∧
    KzAlu s p (.remu c rd ra rb) rd 34 (if b = 0 then a else BitVec.ofNat 32 (a.toNat % b.toNat)) none (some false) (decide (b = 0))) ∧
  (∀ (s : State) (c p : Fin 6) (rd ra : Gr) (imm : BitVec 18) (n : Byte) (u : BitVec 22), KzReady s c p →
    let a := (vget s.kz.phys p).gr ra
    let x := imm.signExtend 32
    let z := imm.zeroExtend 32
    KzAlu s p (.neg c rd ra) rd 1 (0 - a) (some (decide (a = 0))) (some (outside32 (-a.toInt))) false ∧
    KzAlu s p (.abs c rd ra) rd 1 (BitVec.ofInt 32 a.toInt.natAbs) none (some (outside32 a.toInt.natAbs)) false ∧
    KzAlu s p (.clz c rd ra) rd 1 (BitVec.ofNat 32 (32 - a.toNat.size)) none none false ∧
    KzAlu s p (.sexb c rd ra) rd 1 (BitVec.ofInt 32 (a.extractLsb' 0 8).toInt) none none false ∧
    KzAlu s p (.sexh c rd ra) rd 1 (BitVec.ofInt 32 (a.extractLsb' 0 16).toInt) none none false ∧
    KzAlu s p (.brev c rd ra) rd 1 a.reverse none none false ∧
    KzAlu s p (.bswap c rd ra) rd 1 (a.extractLsb' 0 8 ++ a.extractLsb' 8 8 ++ a.extractLsb' 16 8 ++ a.extractLsb' 24 8 : BitVec (8 + 8 + 8 + 8))
      none none false ∧
    KzAlu s p (.addi c rd ra imm) rd 1 (a + x) (some (decide (2 ^ 32 ≤ a.toNat + x.toNat))) (some (outside32 (a.toInt + imm.toInt))) false ∧
    KzAlu s p (.andi c rd ra imm) rd 1 (a &&& z) none none false ∧
    KzAlu s p (.ori c rd ra imm) rd 1 (a ||| z) none none false ∧
    KzAlu s p (.xori c rd ra imm) rd 1 (a ^^^ z) none none false ∧
    KzAlu s p (.shli c rd ra n) rd 1 (a <<< n.toNat) none none false ∧
    KzAlu s p (.shri c rd ra n) rd 1 (a >>> n.toNat) none none false ∧
    KzAlu s p (.sari c rd ra n) rd 1 (a.sshiftRight n.toNat) none none false ∧
    KzAlu s p (.rori c rd ra n) rd 1 (a.rotateRight (n.toNat % 32)) none none false ∧
    KzAlu s p (.slti c rd ra imm) rd 1 (if a.toInt < imm.toInt then 1 else 0) none none false ∧
    KzAlu s p (.sltiu c rd ra imm) rd 1 (if a.toNat < x.toNat then 1 else 0) none none false ∧
    KzPlain s p (.lui c rd u) rd 1 (BitVec.ofNat 32 (u.toNat * 1024)) ∧
    KzPlain s p (.auipc c rd u) rd 1 ((vget s.kz.phys p).pc + BitVec.ofNat 32 (u.toNat * 1024)))


/-! ### The KZ cores: sample lanes and accumulators -/

namespace Sys2Proof.Machine

/-- The two lanes of a sample word (R340). -/
def lanes (w : BitVec 32) : Int × Int := ((w.extractLsb' 16 12).toInt, (w.extractLsb' 0 12).toInt)

/-- A lane's bounds. -/
def hold12 (x : Int) : Int := max (-2048) (min 2047 x)

/-- A lane instruction: `rd` takes both lanes held to 12 bits with guard bits that copy the signs, LSAT is set when one was held, and every other
bit of SW stays. -/
def KzLanes (s : State) (p : Fin 6) (i : Instr) (rd : Gr) (x y : Int) : Prop :=
  KzDoes s p i (fun k k' =>
    (∀ r, r ≠ rd → k'.gr r = k.gr r) ∧
    (rd ≠ 0 → ((k'.gr rd).extractLsb' 16 16).toInt = hold12 x ∧ ((k'.gr rd).extractLsb' 0 16).toInt = hold12 y) ∧
    (∀ j, k'.sw.getLsbD j = (k.sw.getLsbD j || (decide (j = 6) && decide (hold12 x ≠ x ∨ hold12 y ≠ y)))) ∧
    KzOnward k k' 1 ∧ KzKeeps k k')

/-- The bounds of an accumulator. -/
def hold48 (x : Int) : Int := max (-(2 ^ 47)) (min (2 ^ 47 - 1) x)

/-- An accumulator instruction: accumulators become as `want` says, ASAT is set on `sat`, and general registers and other bits stay. -/
def KzAcc (s : State) (p : Fin 6) (i : Instr) (want : Core → Fin 4 → Int) (sat : Bool) : Prop :=
  KzDoes s p i (fun k k' =>
    (∀ a, (vget k'.acc a).toInt = want k a) ∧
    (∀ j, k'.sw.getLsbD j = (k.sw.getLsbD j || (decide (j = 7) && sat))) ∧
    KzOnward k k' 1 ∧ { k' with acc := k.acc, sw := k.sw, pc := k.pc, lc := k.lc, cycle := k.cycle } = k)

/-- The partner of the even accumulator of a pair. -/
def partner (a : Fin 4) : Fin 4 := if a = 0 then 1 else 3

end Sys2Proof.Machine

/-- Sample-lane instructions saturate each lane and set LSAT: LADD, LSUB, LNEG, LCONJ, LMUL, LMULC, LSAR, LSHL, LPACK and LROT complete with both
lanes of rd held to 12 bits and sign-filled guard bits, LSAT set exactly when a lane was held, and nothing else of the core or the machine changed;
LUNPI, LUNPQ and LMAG2 complete with a plain word and no flag. (R340, R339) -/
def Obligations.KzSampleLanes : Prop :=
  ∀ (s : State) (c p : Fin 6) (rd ra rb : Gr), KzReady s c p →
    let a := lanes ((vget s.kz.phys p).gr ra)
    let b := lanes ((vget s.kz.phys p).gr rb)
    let w := (vget s.kz.phys p).gr rb
    let n := w.toNat % 256
    KzLanes s p (.ladd c rd ra rb) rd (a.1 + b.1) (a.2 + b.2) ∧
    KzLanes s p (.lsub c rd ra rb) rd (a.1 - b.1) (a.2 - b.2) ∧
    KzLanes s p (.lneg c rd ra) rd (-a.1) (-a.2) ∧
    KzLanes s p (.lconj c rd ra) rd a.1 (-a.2) ∧
    KzLanes s p (.lmul c rd ra rb) rd ((a.1 * b.1 - a.2 * b.2 + 1024) / 2048) ((a.1 * b.2 + a.2 * b.1 + 1024) / 2048) ∧
    KzLanes s p (.lmulc c rd ra rb) rd ((a.1 * b.1 + a.2 * b.2 + 1024) / 2048) ((a.2 * b.1 - a.1 * b.2 + 1024) / 2048) ∧
    KzLanes s p (.lsar c rd ra rb) rd (a.1 / 2 ^ n) (a.2 / 2 ^ n) ∧
    KzLanes s p (.lshl c rd ra rb) rd (a.1 * 2 ^ n) (a.2 * 2 ^ n) ∧
    KzLanes s p (.lpack c rd ra rb) rd ((vget s.kz.phys p).gr ra).toInt w.toInt ∧
    KzLanes s p (.lrot c rd ra rb) rd
      (if w.toNat % 4 = 0 then a.1 else if w.toNat % 4 = 1 then -a.2 else if w.toNat % 4 = 2 then -a.1 else a.2)
      (if w.toNat % 4 = 0 then a.2 else if w.toNat % 4 = 1 then a.1 else if w.toNat % 4 = 2 then -a.2 else -a.1) ∧
    KzPlain s p (.lunpi c rd ra) rd 1 (BitVec.ofInt 32 a.1) ∧
    KzPlain s p (.lunpq c rd ra) rd 1 (BitVec.ofInt 32 a.2) ∧
    KzPlain s p (.lmag2 c rd ra) rd 1 (BitVec.ofInt 32 (a.1 * a.1 + a.2 * a.2))

/-- Accumulators saturate at 48 bits and set ASAT: MAC and MSU add or subtract the product of the low halfwords, and MTACL, MTACH, MTACC and CLRA
write the accumulator named; XMAC and XMACC add a complex product to an even-odd pair; each completes, an accumulator that would leave 48 bits is
held at its bound with ASAT set, and nothing else changes. MFACL, MFACH and RACC (sh up to 47) complete with the accumulator's part, or its rounded
and saturated value, in rd; APACK packs a pair into lanes. (R341, R339) -/
def Obligations.KzAccumulators : Prop :=
  ∀ (s : State) (c p : Fin 6) (acc : Fin 4) (rd ra rb : Gr) (sh : Byte), KzReady s c p →
    let k := vget s.kz.phys p
    let x := k.gr ra
    let old := fun a : Fin 4 => (vget k.acc a).toInt
    let half := (x.extractLsb' 0 16).toInt * ((k.gr rb).extractLsb' 0 16).toInt
    let a := lanes x
    let b := lanes (k.gr rb)
    let put := fun (v : Int) (_ : Core) (i : Fin 4) => if i = acc then hold48 v else old i
    let pair := fun (v w : Int) (_ : Core) (i : Fin 4) => if i = acc then hold48 v else if i = partner acc then hold48 w else old i
    let rnd := fun i : Fin 4 => (old i + (if sh = 0 then 0 else 2 ^ (sh.toNat - 1))) / 2 ^ sh.toNat
    KzAcc s p (.mac c acc ra rb) (put (old acc + half)) (decide (hold48 (old acc + half) ≠ old acc + half)) ∧
    KzAcc s p (.msu c acc ra rb) (put (old acc - half)) (decide (hold48 (old acc - half) ≠ old acc - half)) ∧
    KzAcc s p (.clra c acc) (put 0) false ∧
    KzAcc s p (.mtacl c acc ra) (put (old acc / 4294967296 * 4294967296 + x.toNat)) false ∧
    KzAcc s p (.mtach c acc ra) (put ((x.extractLsb' 0 16).toInt * 4294967296 + old acc % 4294967296)) false ∧
    KzAcc s p (.mtacc c acc ra) (put x.toInt) false ∧
    (acc = 0 ∨ acc = 2 →
      (let v := old acc + (a.1 * b.1 - a.2 * b.2)
       let w := old (partner acc) + (a.1 * b.2 + a.2 * b.1)
       KzAcc s p (.xmac c acc ra rb) (pair v w) (decide (hold48 v ≠ v ∨ hold48 w ≠ w))) ∧
      (let v := old acc + (a.1 * b.1 + a.2 * b.2)
       let w := old (partner acc) + (a.2 * b.1 - a.1 * b.2)
       KzAcc s p (.xmacc c acc ra rb) (pair v w) (decide (hold48 v ≠ v ∨ hold48 w ≠ w))) ∧
      (sh.toNat ≤ 47 → KzLanes s p (.apack c rd acc sh) rd (rnd acc) (rnd (partner acc)))) ∧
    KzPlain s p (.mfacl c rd acc) rd 1 (BitVec.ofInt 32 (old acc)) ∧
    KzPlain s p (.mfach c rd acc) rd 1 (BitVec.ofInt 32 (old acc / 4294967296)) ∧
    (sh.toNat ≤ 47 →
      KzDoes s p (.racc c rd acc sh) (fun k k' =>
        KzWrote k k' rd (BitVec.ofInt 32 (max (-2147483648) (min 2147483647 (rnd acc)))) ∧
        (∀ j, k'.sw.getLsbD j = (k.sw.getLsbD j || (decide (j = 7) && outside32 (rnd acc)))) ∧ KzOnward k k' 1 ∧ KzKeeps k k'))

/-! ### The KZ cores: memory -/

namespace Sys2Proof.Machine

/-- An address in shared SRAM or in a core's X or Y memory. -/
def plainRegion (r : Region) : Prop := r = .sram ∨ (∃ d, r = .xmem d) ∨ (∃ d, r = .ymem d)

/-- A load of `n` bytes that no cause of R346 meets, in shared SRAM or a core's own memories, of a word that holds no error. -/
structure KzReads (s : State) (x : Acc1) : Prop where
  cause : loadCause x s = none
  plain : plainRegion (s.region x.a.toNat)
  clean : s.mem.soft.contains (eccUnit x.a.toNat) = false

/-- The cycles of a load from there (R345). -/
def readCycles (c : Fin 6) (r : Region) : Nat :=
  if r = .sram then 4 else if r = .xmem c ∨ r = .ymem c then 1 else 6

/-- The word, halfword or byte that memory holds at an address, little-endian (R18). -/
def wordAt (s : State) (a : Nat) : BitVec 32 := (s.rd8 (a + 3) ++ s.rd8 (a + 2) ++ s.rd8 (a + 1) ++ s.rd8 a : BitVec (8 + 8 + 8 + 8))
def halfAt (s : State) (a : Nat) : BitVec 16 := (s.rd8 (a + 1) ++ s.rd8 a : BitVec (8 + 8))

/-- A store of `n` bytes that no cause meets, to shared SRAM or a core's own memories. -/
structure KzWrites (s : State) (x : Acc1) : Prop where
  cause : storeCause x s = none
  plain : plainRegion (s.region x.a.toNat)

/-- After a store of the low `n` bytes of `v` at `a`: memory holds them there and everywhere else what it held; the general registers, flags and
every other block stay, and the core goes on in one cycle. `done` says what the instruction changes in its own core. -/
def KzStored (s : State) (p : Fin 6) (i : Instr) (a n : Nat) (v : BitVec 32) (done : Core → Core → Prop) : Prop :=
  ∃ t, exec i s = .next t ∧
    (∀ y, t.rd8 y = if a ≤ y ∧ y < a + n then v.extractLsb' (8 * (y - a)) 8 else s.rd8 y) ∧
    done (vget s.kz.phys p) (vget t.kz.phys p) ∧ KzOnward (vget s.kz.phys p) (vget t.kz.phys p) 1 ∧
    (∀ q, q ≠ p → { vget t.kz.phys q with resv := none } = { vget s.kz.phys q with resv := none }) ∧
    { t with mem := s.mem, kz := { t.kz with phys := s.kz.phys } } = s ∧
    { t.mem with cells := s.mem.cells, bad := s.mem.bad, poison := s.mem.poison } = s.mem

/-- Nothing of the core changed but PC, LC and CYCLE. -/
def KzOnly (k k' : Core) : Prop := { k' with pc := k.pc, lc := k.lc, cycle := k.cycle } = k

end Sys2Proof.Machine

/-- Loads from shared SRAM and the cores' own memories: LDW, LDH, LDHU, LDB and LDBU at ra + sext(imm18), and LL in shared SRAM, complete with the
bytes memory holds there, little-endian and extended as each says, in rd; the cycles are those of R345; LL also sets the reservation to the 32-byte
block; nothing else changes, memory included. (R332, R333, R345) -/
def Obligations.KzLoads : Prop :=
  ∀ (s : State) (c p : Fin 6) (rd ra : Gr) (imm : BitVec 18), KzReady s c p →
    let ea := (vget s.kz.phys p).gr ra + imm.signExtend 32
    let a := ea.toNat
    let cost := readCycles c (s.region a)
    (KzReads s ⟨c, p, ea, 4⟩ → KzPlain s p (.ldw c rd ra imm) rd cost (wordAt s a)) ∧
    (KzReads s ⟨c, p, ea, 2⟩ → KzPlain s p (.ldh c rd ra imm) rd cost ((halfAt s a).signExtend 32) ∧
      KzPlain s p (.ldhu c rd ra imm) rd cost ((halfAt s a).zeroExtend 32)) ∧
    (KzReads s ⟨c, p, ea, 1⟩ → KzPlain s p (.ldb c rd ra imm) rd cost ((s.rd8 a).signExtend 32) ∧
      KzPlain s p (.ldbu c rd ra imm) rd cost ((s.rd8 a).zeroExtend 32)) ∧
    (KzReads s ⟨c, p, ea, 4⟩ → s.region a = .sram →
      KzDoes s p (.ll c rd ra imm) (fun k k' =>
        KzWrote k k' rd (wordAt s a) ∧ k'.sw = k.sw ∧ k'.resv = some (a / 32 * 32) ∧ KzOnward k k' 4 ∧ KzKeeps k { k' with resv := k.resv }))

/-- Stores write exactly their bytes: STW, STH and STB at ra + sext(imm18), in shared SRAM or a core's own memories, complete with the low bytes of
rd in memory from that address, little-endian, and every other byte of memory as it was. SC stores the same way while the core's reservation covers
its address, answers 0 in rd, and otherwise stores nothing and answers 1; either way its reservation ends. No other register, flag or block changes,
and another core can lose nothing but its reservation. (R18, R332, R333) -/
def Obligations.KzStores : Prop :=
  ∀ (s : State) (c p : Fin 6) (rd ra : Gr) (imm : BitVec 18), KzReady s c p →
    let k := vget s.kz.phys p
    let ea := k.gr ra + imm.signExtend 32
    let a := ea.toNat
    (KzWrites s ⟨c, p, ea, 4⟩ → KzStored s p (.stw c rd ra imm) a 4 (k.gr rd) KzOnly) ∧
    (KzWrites s ⟨c, p, ea, 2⟩ → KzStored s p (.sth c rd ra imm) a 2 (k.gr rd) KzOnly) ∧
    (KzWrites s ⟨c, p, ea, 1⟩ → KzStored s p (.stb c rd ra imm) a 1 (k.gr rd) KzOnly) ∧
    (KzWrites s ⟨c, p, ea, 4⟩ → s.region a = .sram → k.resv = some (a / 32 * 32) →
      KzStored s p (.sc c rd ra imm) a 4 (k.gr rd) (fun k k' =>
        KzWrote k k' rd 0 ∧ k'.sw = k.sw ∧ k'.resv = none ∧ KzKeeps k { k' with resv := k.resv })) ∧
    (KzWrites s ⟨c, p, ea, 4⟩ → s.region a = .sram → k.resv ≠ some (a / 32 * 32) →
      KzDoes s p (.sc c rd ra imm) (fun k k' =>
        KzWrote k k' rd 1 ∧ k'.sw = k.sw ∧ k'.resv = none ∧ KzOnward k k' 1 ∧ KzKeeps k { k' with resv := k.resv }))

/-- Address generators: moves, accesses and the dual fetch: MTAG and MFAG with a selector of 0 to 4 move a field of a generator. LDAG and STAG with
a size of 0 to 2 access base + (index << es) and, unless held, the index of a linear or modulo generator is stepped as R342 says. XMAC.D, XMACC.D,
MAC.DH and MSU.DH with two different generators (and an even pair) accumulate the two operands fetched and step both generators. Each completes.
(R341, R342, R343, R344) -/
def Obligations.KzAddressGenerators : Prop :=
  ∀ (s : State) (c p : Fin 6) (r : Gr) (g h acc : Fin 4) (sel : Fin 8) (size : Fin 4) (sx hold : Bool), KzReady s c p →
    let k := vget s.kz.phys p
    let base := fun g : Fin 4 => (vget k.ag g).base + ((vget k.ag g).index <<< ((vget k.ag g).cfg.extractLsb' 2 2).toNat)
    let stepped := fun (k k' : Core) (g : Fin 4) =>
      let x := vget k.ag g
      let y := vget k'.ag g
      { y with index := x.index } = x ∧
      ((x.cfg.extractLsb' 0 2 = 1 ∧ x.len ≠ 0 → (y.index.toNat : Int) = (x.index.toNat + x.step.toInt) % x.len.toNat) ∧
       (x.cfg.extractLsb' 0 2 = 0 ∨ x.cfg.extractLsb' 0 2 = 3 → y.index = x.index + x.step))
    let both := fun (k k' : Core) =>
      let rg := s.region (base g).toNat
      let rh := s.region (base h).toNat
      stepped k k' g ∧ stepped k k' h ∧ (∀ x, x ≠ g → x ≠ h → vget k'.ag x = vget k.ag x) ∧
      KzOnward k k' (if rg = .xmem c ∧ rh = .ymem c then 1 else readCycles c rg + readCycles c rh) ∧
      { k' with acc := k.acc, ag := k.ag, sw := k.sw, pc := k.pc, lc := k.lc, cycle := k.cycle } = k
    (sel.1 < 5 →
      KzDoes s p (.mtag c r g sel) (fun k k' =>
        (vget k'.ag g).get sel.1 = (if sel.1 = 4 then k.gr r &&& 0xF else k.gr r) ∧ (∀ y, y.1 < 5 → y ≠ sel → (vget k'.ag g).get y.1 = (vget k.ag g).get y.1) ∧
        (∀ x, x ≠ g → vget k'.ag x = vget k.ag x) ∧ KzOnward k k' 1 ∧ KzOnly k { k' with ag := k.ag }) ∧
      KzPlain s p (.mfag c r g sel) r 1
        (match sel.1 with
          | 0 => (vget k.ag g).base | 1 => (vget k.ag g).index | 2 => (vget k.ag g).step | 3 => (vget k.ag g).len | _ => (vget k.ag g).cfg)) ∧
    (size.1 < 3 → KzReads s ⟨c, p, base g, 2 ^ size.1⟩ →
      KzDoes s p (.ldag c r g size sx hold) (fun k k' =>
        KzWrote k k' r
          (if size = 2 then wordAt s (base g).toNat
           else if size = 1 then (if sx then (halfAt s (base g).toNat).signExtend 32 else (halfAt s (base g).toNat).zeroExtend 32)
           else if sx then (s.rd8 (base g).toNat).signExtend 32 else (s.rd8 (base g).toNat).zeroExtend 32) ∧
        (if hold then k'.ag = k.ag else stepped k k' g ∧ ∀ x, x ≠ g → vget k'.ag x = vget k.ag x) ∧
        k'.sw = k.sw ∧ KzOnward k k' (readCycles c (s.region (base g).toNat)) ∧ KzKeeps k { k' with ag := k.ag })) ∧
    (size.1 < 3 → KzWrites s ⟨c, p, base g, 2 ^ size.1⟩ →
      KzStored s p (.stag c r g size hold) (base g).toNat (2 ^ size.1) (k.gr r) (fun k k' =>
        (if hold then k'.ag = k.ag else stepped k k' g ∧ ∀ x, x ≠ g → vget k'.ag x = vget k.ag x) ∧ KzOnly k { k' with ag := k.ag })) ∧
    (g ≠ h → acc = 0 ∨ acc = 2 → KzReads s ⟨c, p, base g, 4⟩ → KzReads s ⟨c, p, base h, 4⟩ →
      let a := lanes (wordAt s (base g).toNat)
      let b := lanes (wordAt s (base h).toNat)
      let v := (vget k.acc acc).toInt
      let w := (vget k.acc (partner acc)).toInt
      let after := fun (x y : Int) (k k' : Core) =>
        (∀ i, (vget k'.acc i).toInt = if i = acc then hold48 x else if i = partner acc then hold48 y else (vget k.acc i).toInt) ∧
        (∀ j, k'.sw.getLsbD j = (k.sw.getLsbD j || (decide (j = 7) && decide (hold48 x ≠ x ∨ hold48 y ≠ y)))) ∧ both k k'
      KzDoes s p (.xmacD c acc g h) (after (v + (a.1 * b.1 - a.2 * b.2)) (w + (a.1 * b.2 + a.2 * b.1))) ∧
      KzDoes s p (.xmaccD c acc g h) (after (v + (a.1 * b.1 + a.2 * b.2)) (w + (a.2 * b.1 - a.1 * b.2)))) ∧
    (g ≠ h → KzReads s ⟨c, p, base g, 2⟩ → KzReads s ⟨c, p, base h, 2⟩ →
      let m := (halfAt s (base g).toNat).toInt * (halfAt s (base h).toNat).toInt
      let after := fun (x : Int) (k k' : Core) =>
        (vget k'.acc acc).toInt = hold48 x ∧ (∀ i, i ≠ acc → vget k'.acc i = vget k.acc i) ∧
        (∀ j, k'.sw.getLsbD j = (k.sw.getLsbD j || (decide (j = 7) && decide (hold48 x ≠ x)))) ∧ both k k'
      KzDoes s p (.macDh c acc g h) (after ((vget k.acc acc).toInt + m)) ∧
      KzDoes s p (.msuDh c acc g h) (after ((vget k.acc acc).toInt - m)))

/-! ### The KZ cores: control, exceptions and the system -/

namespace Sys2Proof.Machine

/-- A branch taken when `cond` holds: two cycles to PC + 4 × offset, else one cycle onward; registers and flags stay. -/
def KzBranch (s : State) (p : Fin 6) (i : Instr) (off : BitVec 18) (cond : Bool) : Prop :=
  KzDoes s p i (fun k k' =>
    (if cond then KzJumped k k' 2 (k.pc + 4 * off.signExtend 32) else KzOnward k k' 1) ∧ KzOnly k k')

/-- Entry to a handler (R347): TPC, TSW and TCAUSE are written, SYS and TRP set, IE cleared, every other bit of SW kept; the core goes on at TBASE
and its reservation has ended. -/
structure KzEntered (k k' : Core) (tpc tcause pc : BitVec 32) : Prop where
  tpc : k'.tpc = tpc
  tsw : k'.tsw = k.sw
  tcause : k'.tcause = tcause
  pc : k'.pc = pc
  sys : k'.sw.getLsbD 10 = true
  trp : k'.sw.getLsbD 11 = true
  ie : k'.sw.getLsbD 9 = false
  resv : k'.resv = none
  regs : k'.g = k.g ∧ k'.acc = k.acc ∧ k'.ag = k.ag ∧ k'.lc = k.lc ∧ k'.ls = k.ls ∧ k'.le = k.le

/-- SW outside SYS, TRP, IE and PRI. -/
def KzSwElse (k k' : Core) : Prop := ∀ i, i ≠ 9 → i ≠ 10 → i ≠ 11 → ¬(12 ≤ i ∧ i ≤ 14) → k'.sw.getLsbD i = k.sw.getLsbD i

end Sys2Proof.Machine

/-- Branches, jumps and the hardware loop: BEQ, BNE, BLT, BGE, BLTU and BGEU go to PC + 4 x offset in two cycles when their condition holds and on
in one when it does not. JAL and J go to PC + 4 x offset, JALR to ra + sext(imm18) when that is a multiple of 4, with the return address in g15 or
rd. LOOP with n of 1 to 131,071 sets LC, LS and LE, or skips the body for a count of 0. LOOP_BACK at LE with LC not 0 counts LC down, and NOP, FENCE
and IFENCE only go on. No flag changes. (R335, R336, R338, R339) -/
def Obligations.KzTransfers : Prop :=
  ∀ (s : State) (c p : Fin 6) (rd ra rb : Gr) (off imm : BitVec 18) (far : BitVec 26), KzReady s c p → (vget s.kz.phys p).pc.toNat % 4 = 0 →
    let k := vget s.kz.phys p
    let a := k.gr ra
    let b := k.gr rb
    KzBranch s p (.beq c ra rb off) off (decide (a = b)) ∧
    KzBranch s p (.bne c ra rb off) off (decide (a ≠ b)) ∧
    KzBranch s p (.blt c ra rb off) off (decide (a.toInt < b.toInt)) ∧
    KzBranch s p (.bge c ra rb off) off (decide (b.toInt ≤ a.toInt)) ∧
    KzBranch s p (.bltu c ra rb off) off (decide (a.toNat < b.toNat)) ∧
    KzBranch s p (.bgeu c ra rb off) off (decide (b.toNat ≤ a.toNat)) ∧
    KzDoes s p (.jal c far) (fun k k' => KzWrote k k' 15 (k.pc + 4) ∧ k'.sw = k.sw ∧ KzJumped k k' 2 (k.pc + 4 * far.signExtend 32) ∧ KzKeeps k k') ∧
    KzDoes s p (.j c far) (fun k k' => KzJumped k k' 2 (k.pc + 4 * far.signExtend 32) ∧ KzOnly k k') ∧
    ((a + imm.signExtend 32).toNat % 4 = 0 →
      KzDoes s p (.jalr c rd ra imm) (fun k k' =>
        KzWrote k k' rd (k.pc + 4) ∧ k'.sw = k.sw ∧ KzJumped k k' 3 (a + imm.signExtend 32) ∧ KzKeeps k k')) ∧
    (1 ≤ off.toNat → off.toNat ≤ 131071 →
      KzDoes s p (.loop c ra off) (fun k k' =>
        k'.g = k.g ∧ k'.sw = k.sw ∧
        (if a = 0 then k'.lc = 0 ∧ k'.ls = k.ls ∧ k'.le = k.le ∧ k'.pc = k.pc + 4 + BitVec.ofNat 32 (4 * off.toNat)
         else k'.lc = a ∧ k'.ls = k.pc + 4 ∧ k'.le = k.pc + BitVec.ofNat 32 (4 * off.toNat) ∧ k'.pc = k.pc + 4))) ∧
    (k.pc = k.le → k.lc ≠ 0 →
      KzDoes s p (.loopBack c) (fun k k' => k'.lc = k.lc - 1 ∧ k'.pc = (if k.lc = 1 then k.pc + 4 else k.ls) ∧ KzOnly k k')) ∧
    KzDoes s p (.nop c) (fun k k' => KzOnward k k' 1 ∧ KzOnly k k') ∧
    KzDoes s p (.fence c) (fun k k' => KzOnward k k' 1 ∧ KzOnly k k') ∧
    KzDoes s p (.ifence c) (fun k k' => KzOnward k k' 1 ∧ KzOnly k k')

/-- Exceptions, interrupts, the NMI and the return: With TRP and NMIL clear: TRAP n enters at TBASE with TPC after it and TRAPNO n; BRK with no
debugger enters with code 0x0B; a word that is no instruction enters with code 0x01; a division by 0 with DZE enters with code 0x09. With IE set and
TRP clear, INTERRUPT_ENTRY takes the pending line of the highest priority above PRI (the lowest number among equals), at TBASE + 0x40 + 0x20 x (p -
1), sets PRI and clears its IPEND bit. NMI_ENTRY with NMIL clear goes to TBASE + 0x120 with NPC and NSW saved. RFT in system mode restores PC and SW
from TPC and TSW, or from NPC and NSW while NMIL is set. BRK with a debugger halts the core, and WAIT, with no sleep armed, only stops the fetching.
While SW.TRP or SW.NMIL is set, TRAP, BRK without a debugger and a word that is no instruction stop the core: its PC stands in CORE_PC,
KZC_STAT.DOUBLE is set, and no register of the core is written. (R336, R346, R347, R348, R349, R350) -/
def Obligations.KzExceptions : Prop :=
  (∀ (s : State) (c p : Fin 6) (rd ra rb : Gr) (n : Byte) (w : BitVec 32), KzReady s c p →
    let k := vget s.kz.phys p
    (k.sw.getLsbD 11 = false → k.sw.getLsbD 16 = false →
      KzDoes s p (.trap c n) (fun k k' => KzEntered k k' (k.pc + 4) (BitVec.ofNat 32 (0x0A + 256 * n.toNat)) k.tbase ∧ KzSwElse k k' ∧ k'.taddr = k.taddr) ∧
      ((s.kz.debugger = false ∨ s.dU 0x3003 1 ≠ 0) →
        KzDoes s p (.brk c) (fun k k' => KzEntered k k' (k.pc + 4) 0x0B k.tbase ∧ KzSwElse k k')) ∧
      (legalWord w = false → KzDoes s p (.illegalInstruction c w) (fun k k' => KzEntered k k' k.pc 0x01 k.tbase ∧ KzSwElse k k')) ∧
      (k.gr rb = 0 → k.sw.getLsbD 8 = true → KzDoes s p (.div c rd ra rb) (fun k k' => k'.tpc = k.pc ∧ k'.tcause = 0x09 ∧ k'.pc = k.tbase ∧ k'.g = k.g))) ∧
    (∀ m : Fin 64, (vget s.kz.ipend c).getLsbD m.1 = true → k.pri < k.linePri m →
      (∀ j : Fin 64, (vget s.kz.ipend c).getLsbD j.1 = true → k.linePri j < k.linePri m ∨ (k.linePri j = k.linePri m ∧ m ≤ j)) →
      k.sw.getLsbD 9 = true → k.sw.getLsbD 11 = false →
      ∃ k', exec (.interruptEntry c) s =
          .next { (kmod p (fun _ => k') s) with kz := { (kmod p (fun _ => k') s).kz with
            ipend := vset s.kz.ipend c (vget s.kz.ipend c &&& ~~~(1#64 <<< m.1)) } } ∧
        KzEntered k k' k.pc (BitVec.ofNat 32 (2 ^ 31 + m.1)) (k.tbase + BitVec.ofNat 32 (0x40 + 0x20 * (k.linePri m - 1))) ∧
        KzSwElse k k' ∧ k'.pri = k.linePri m) ∧
    (k.sw.getLsbD 16 = false →
      KzDoes s p (.nmiEntry c) (fun k k' =>
        k'.npc = k.pc ∧ k'.nsw = k.sw ∧ k'.pc = k.tbase + 0x120 ∧ k'.sw.getLsbD 9 = false ∧ k'.sw.getLsbD 10 = true ∧ k'.sw.getLsbD 11 = true ∧
        k'.sw.getLsbD 16 = true ∧ k'.g = k.g ∧ k'.tpc = k.tpc ∧ k'.tsw = k.tsw)) ∧
    (k.sw.getLsbD 10 = true → k.nmiPend = false →
      (k.sw.getLsbD 16 = false → k.tpc.toNat % 4 = 0 →
        KzDoes s p (.rft c) (fun k k' => k'.pc = k.tpc ∧ k'.sw = k.tsw ∧ k'.resv = none ∧ k'.g = k.g ∧ k'.cycle = k.cycle + 3)) ∧
      (k.sw.getLsbD 16 = true → k.npc.toNat % 4 = 0 →
        KzDoes s p (.rft c) (fun k k' => k'.pc = k.npc ∧ k'.sw = k.nsw ∧ k'.resv = none ∧ k'.g = k.g ∧ k'.cycle = k.cycle + 3))) ∧
    (s.kz.debugger = true → s.dU 0x3003 1 = 0 → k.pc.toNat % 4 = 0 →
      ∃ t, exec (.brk c) s = .next t ∧ (vget t.kz.phys p).halted = true ∧ (vget t.kz.phys p).g = k.g ∧ (vget t.kz.phys p).sw = k.sw) ∧
    (s.pcc.armed = false → KzDoes s p (.wait c) (fun k k' => k'.waiting = true ∧ KzOnward k k' 1 ∧ KzOnly k { k' with waiting := k.waiting }))) ∧
  (∀ (s : State) (c p : Fin 6) (n : Byte) (w : BitVec 32), KzReady s c p → s.kz.debugger = false → legalWord w = false →
    (vget s.kz.phys p).sw.getLsbD 11 = true ∨ (vget s.kz.phys p).sw.getLsbD 16 = true →
    ∀ i ∈ [Instr.trap c n, .brk c, .illegalInstruction c w],
      ∃ t, exec i s = .next t ∧ (vget t.kz.phys p).halted = true ∧ t.regB kzcStat 1 = true ∧ vget t.kz.stopPc c = (vget s.kz.phys p).pc ∧
        { vget t.kz.phys p with halted := false, waiting := false, resv := none } = { vget s.kz.phys p with halted := false, waiting := false, resv := none } ∧
        (∀ a, t.rd8 a = s.rd8 a))

/-- MFSR and MTSR move the system registers that R325 lists: In system mode MFSR puts the value of SW, TPC, TSW, TCAUSE, TADDR, TBASE, NPC, NSW,
SCRATCH, LC, LS, LE, FWCTRL or CYCLE in rd, and MTSR writes SW (its writable bits), TPC, TSW, TADDR, TBASE (its top 23 bits), NPC, NSW, SCRATCH, LC,
LS and LE; each completes in one cycle. In task mode a write of a system register other than SW, LC, LS and LE, and any access to a number that R325
does not list, raises PRIV or ILLEGAL. (R325, R337) -/
def Obligations.KzSystemRegisters : Prop :=
  ∀ (s : State) (c p : Fin 6) (r : Gr) (n : Byte), KzReady s c p →
    let k := vget s.kz.phys p
    (k.sw.getLsbD 10 = true →
      (∀ x ∈ [((0x00 : Byte), k.sw), (0x01, k.tpc), (0x02, k.tsw), (0x03, k.tcause), (0x04, k.taddr), (0x05, k.tbase), (0x0D, k.npc), (0x0E, k.nsw),
          (0x0F, k.scratch), (0x18, k.lc), (0x19, k.ls), (0x1A, k.le), (0x20, k.fwctrl)], KzPlain s p (.mfsr c r x.1) r 1 x.2) ∧
      KzDoes s p (.mfsr c r 0x07) (fun k k' =>
        KzWrote k k' r (k.cycle.extractLsb' 0 32) ∧ k'.cycleHi = k.cycle.extractLsb' 32 32 ∧ KzOnward k k' 1 ∧ k'.sw = k.sw) ∧
      KzDoes s p (.mtsr c r 0x00) (fun k k' => k'.sw = (k.sw &&& ~~~0x7BFF) ||| (k.gr r &&& 0x7BFF) ∧ k'.g = k.g ∧ KzOnward k k' 1) ∧
      KzDoes s p (.mtsr c r 0x01) (fun k k' => k'.tpc = k.gr r ∧ KzOnward k k' 1 ∧ KzOnly k { k' with tpc := k.tpc }) ∧
      KzDoes s p (.mtsr c r 0x02) (fun k k' => k'.tsw = k.gr r ∧ KzOnward k k' 1 ∧ KzOnly k { k' with tsw := k.tsw }) ∧
      KzDoes s p (.mtsr c r 0x05) (fun k k' => k'.tbase = k.gr r &&& 0xFFFFFE00 ∧ KzOnward k k' 1 ∧ KzOnly k { k' with tbase := k.tbase }) ∧
      KzDoes s p (.mtsr c r 0x0D) (fun k k' => k'.npc = k.gr r ∧ KzOnward k k' 1 ∧ KzOnly k { k' with npc := k.npc }) ∧
      KzDoes s p (.mtsr c r 0x0E) (fun k k' => k'.nsw = k.gr r ∧ KzOnward k k' 1 ∧ KzOnly k { k' with nsw := k.nsw }) ∧
      KzDoes s p (.mtsr c r 0x0F) (fun k k' => k'.scratch = k.gr r ∧ KzOnward k k' 1 ∧ KzOnly k { k' with scratch := k.scratch })) ∧
    (k.sw.getLsbD 11 = false → k.sw.getLsbD 16 = false →
      (k.sw.getLsbD 10 = false → n = 0x01 ∨ n = 0x05 ∨ n = 0x0F ∨ n = 0x20 →
        KzDoes s p (.mtsr c r n) (fun k k' => KzEntered k k' k.pc 0x02 k.tbase ∧ KzSwElse k k')) ∧
      (n = 0x0B ∨ n = 0x1B ∨ n = 0x43 →
        KzDoes s p (.mfsr c r n) (fun k k' => KzEntered k k' k.pc 0x01 k.tbase ∧ KzSwElse k k') ∧
        KzDoes s p (.mtsr c r n) (fun k k' => KzEntered k k' k.pc 0x01 k.tbase ∧ KzSwElse k k')))

/-! ### The KZ cores: the map, the restarts and the microcode -/

/-- Core 0 starts, stops, loads and swaps the other cores; a customer opcode runs its sequence, or raises ILLEGAL: CORE_RUN_WRITE of 1 starts a
halted logical core other than 0 with the registers of R326 at CORE_BOOT (core 4 at its security entry), cause 0 and no pending line; of 0 it halts
the core, with its PC in CORE_PC. MICROCODE_WRITE to a core with RUN 0 stores the word and no other, and mends its parity. KZC_SWAP_ARM with ARM, a
core of 1 to 3 and a spare arms the swap; CORE_SWAP of an armed pair whose spare waits exchanges the two numbers, gives the incoming core cause 3,
ends its WAIT, halts the outgoing core and disarms. CORE_RESTART starts the core again with cause 2. CORE_RETIRE of the core that stands as 2 or 3
puts the spare in its place. With its CORE_UCVALID bit clear a customer opcode raises ILLEGAL. With the bit set, a sequence whose first micro-op is
the sum of two general registers with END set, and whose word holds no parity error, completes with that sum in its destination register in one
cycle, and changes no flag. (R326, R348, R354, R355, R356, R358, R360, R362, R363) -/
def Obligations.KzCoreControl : Prop :=
  (∀ (s : State) (l p q : Fin 6), s.physOf l = some p →
    let k := vget s.kz.phys p
    (l ≠ 0 → k.halted = true →
      ∃ t, exec (.coreRunWrite l true) s = .next t ∧
        (vget t.kz.phys p).pc = (if l = 4 then securityEntry else vget s.kz.boot l &&& ~~~3#32) ∧ (∀ r, (vget t.kz.phys p).gr r = 0) ∧
        (vget t.kz.phys p).sw = 0x400 ∧ (vget t.kz.phys p).halted = false ∧ (vget t.kz.phys p).resv = none ∧
        vget t.kz.cause l = 0 ∧ vget t.kz.run l = true ∧ vget t.kz.ipend l = 0 ∧ { t with kz := s.kz } = s ∧ ∀ x, x ≠ p → vget t.kz.phys x = vget s.kz.phys x) ∧
    (l ≠ 0 →
      ∃ t, exec (.coreRunWrite l false) s = .next t ∧ (vget t.kz.phys p).halted = true ∧ vget t.kz.stopPc l = k.pc ∧ vget t.kz.run l = false ∧
        (vget t.kz.phys p).g = k.g ∧ { t with kz := s.kz } = s ∧ ∀ x, x ≠ p → vget t.kz.phys x = vget s.kz.phys x) ∧
    (∀ (off : Fin 512) (v : BitVec 32), vget s.kz.run l = false →
      ∃ t, exec (.microcodeWrite l off v) s = .next t ∧ (alGet (vget t.kz.phys p).ucode off.1).getD 0 = v ∧
        (∀ o, o ≠ off.1 → alGet (vget t.kz.phys p).ucode o = alGet k.ucode o) ∧ (vget t.kz.phys p).ucodeBad.contains off.1 = false ∧
        (vget t.kz.phys p).g = k.g ∧ { t with kz := s.kz } = s ∧ ∀ x, x ≠ p → vget t.kz.phys x = vget s.kz.phys x) ∧
    (∀ ch : Fin 64, l = 1 ∨ l = 2 ∨ l = 3 → (s.physOf 5).isSome →
      exec (.kzcSwapArm (BitVec.ofNat 32 (2 ^ 31 + ch.1 * 256 + l.1))) s =
        .next { s with kz := { s.kz with swapCore := BitVec.ofNat 3 l.1, swapChan := ch, swapArm := true } }) ∧
    (s.kz.swapArm = true → s.boot.handOver = none → s.kz.swapCore = BitVec.ofNat 3 l.1 → l ≠ 5 → s.physOf 5 = some q → q ≠ p →
      (vget s.kz.phys q).halted = false → (vget s.kz.phys q).waiting = true →
      ∃ t, exec .coreSwap s = .next t ∧ t.physOf l = some q ∧ t.physOf 5 = some p ∧ (vget t.kz.phys p).halted = true ∧
        (vget t.kz.phys q).halted = false ∧ (vget t.kz.phys q).waiting = false ∧ vget t.kz.cause l = 3 ∧ t.kz.swapArm = false ∧ t.kz.swapResult = stOk) ∧
    (∃ t, exec (.coreRestart l) s = .next t ∧ vget t.kz.cause l = 2 ∧ vget t.kz.run l = true ∧ (vget t.kz.phys p).halted = false ∧
        (∀ r, (vget t.kz.phys p).gr r = 0) ∧
        (vget t.kz.phys p).pc = (if l = 0 then substitutionEntry else if l = 4 then securityEntry else vget s.kz.boot l &&& ~~~3#32)) ∧
    (l = 2 ∨ l = 3 → s.physOf 5 = some q → q ≠ p → s.kz.retired.getLsbD p.1 = false → s.hlt.roll = none → (∀ x, x ≠ l → s.physOf x ≠ some p) →
      ∃ t, exec (.coreRetire p 1) s = .next t ∧ t.physOf l = some q ∧ t.physOf 5 = none ∧ t.kz.retired.getLsbD p.1 = true ∧
        (vget t.kz.phys p).halted = true)) ∧
  (∀ (s : State) (c p : Fin 6) (op : Fin 16) (rd ra rb d a b : Gr) (imm : BitVec 10), KzReady s c p →
    let k := vget s.kz.phys p
    (k.ucvalid.getLsbD op.1 = false → k.sw.getLsbD 11 = false → k.sw.getLsbD 16 = false →
      KzDoes s p (.customOpcode c op rd ra rb imm) (fun k k' => KzEntered k k' k.pc 0x01 k.tbase ∧ KzSwElse k k')) ∧
    (k.ucvalid.getLsbD op.1 = true → k.ucodeBad.contains (32 * op.1) = false →
      alGet k.ucode (32 * op.1) = some (BitVec.ofNat 32 (2 ^ 26 + d.1 * 2 ^ 21 + a.1 * 2 ^ 16 + b.1 * 2 ^ 11)) →
      KzPlain s p (.customOpcode c op rd ra rb imm) d 1 (k.gr a + k.gr b)))

/-! ### Timers and the event fabric -/

namespace Sys2Proof.Machine

/-- A command changed nothing but timers and the fabric. -/
def OnlyTimers (s t : State) : Prop := { t with tmr := s.tmr, evf := s.evf } = s

/-- The units outside the pair of `n` are as they were. -/
def OtherUnits (n : Fin 8) (s t : State) : Prop := ∀ m : Fin 8, m.1 / 2 ≠ n.1 / 2 → vget t.tmr m = vget s.tmr m

end Sys2Proof.Machine

/-- Starting, stopping and counting of a timer unit or a chained pair: For a unit that is not the odd half of a chained pair: TMR_START loads COUNT
from RELOAD, copies both compare preloads and runs; TMR_STOP stops with COUNT held and changes nothing else; a TIMER_TICK of a running unit, while
CD3 runs, counts down by one, or at 0 reloads, copies the preloads, sets WRAP and stops a one-shot unit. After a start or a tick CMPA and CMPB are
set when COUNT has the value of an active compare not above RELOAD. COUNT, RELOAD and the compares of a chained pair are the 64-bit numbers of both
units. Nothing but timers and the fabric changes, and no unit of another pair. (R405, R406, R407, R412) -/
def Obligations.TimerCounting : Prop :=
  ∀ (s : State) (n : Fin 8), inert n s = false →
    let u := vget s.tmr n
    let c := wide n (·.count) s
    let meets := fun (t : State) =>
      (vget t.tmr n).stCmpa = (u.stCmpa || decide (wide n (·.count) t = wide n (·.cmpaAct) t ∧ wide n (·.cmpaAct) t ≤ wide n (·.reload) t)) ∧
      (vget t.tmr n).stCmpb = (u.stCmpb || decide (wide n (·.count) t = wide n (·.cmpbAct) t ∧ wide n (·.cmpbAct) t ≤ wide n (·.reload) t))
    let loaded := fun (t : State) =>
      wide n (·.count) t = wide n (·.reload) s ∧ wide n (·.cmpaAct) t = wide n (·.cmpa) s ∧ wide n (·.cmpbAct) t = wide n (·.cmpb) s
    (∃ t, exec (.tmrStart n) s = .next t ∧ loaded t ∧ meets t ∧ (vget t.tmr n).run = true ∧ OnlyTimers s t ∧ OtherUnits n s t) ∧
    exec (.tmrStop n) s = .next { s with tmr := vset s.tmr n { u with run := false } } ∧
    (u.run = true → s.fabricOn = true → 0 < c →
      ∃ t, exec (.timerTick n) s = .next t ∧ wide n (·.count) t = c - 1 ∧ wide n (·.cmpaAct) t = wide n (·.cmpaAct) s ∧
        wide n (·.cmpbAct) t = wide n (·.cmpbAct) s ∧ meets t ∧ (vget t.tmr n).run = true ∧ (vget t.tmr n).stWrap = u.stWrap ∧
        OnlyTimers s t ∧ OtherUnits n s t) ∧
    (u.run = true → s.fabricOn = true → c = 0 →
      ∃ t, exec (.timerTick n) s = .next t ∧ loaded t ∧ meets t ∧ (vget t.tmr n).run = !u.oneShot ∧ (vget t.tmr n).stWrap = true ∧
        OnlyTimers s t ∧ OtherUnits n s t)

/-- Fabric triggers, captures and the reads of a timer unit: A START trigger of hop h starts a stopped unit, or a running one with RETRIG, whose
events then carry hop h + 1; a running unit without RETRIG remembers one trigger, and a second sets the channel's MERGED flag. PENDING_TRIGGER_ACT
starts the unit once it has stopped, and sets a core's line once its IPEND bit is clear. A STOP trigger stops the unit. A CAP trigger, or a selected
edge of TIMn_IN, copies COUNT into CAPT, sets CAP, and OVR when CAP was set. A read of CAPT clears CAP; in a chained pair a read of the low word of
CAPT or COUNT latches the high word. Nothing but timers, the fabric and a core's IPEND changes. (R400, R402, R405, R409, R410, R413) -/
def Obligations.TimerTriggersAndCapture : Prop :=
  ∀ (s : State) (n : Fin 8) (h : Nat) (rest : List TmrTrig), inert n s = false →
    let u := vget s.tmr n
    (s.evf.tmrTrigs = { unit := n, kind := .start, hop := h } :: rest →
      (u.run = false ∨ u.retrig = true →
        ∃ t, exec (.tmrStartTrigger n) s = .next t ∧ wide n (·.count) t = wide n (·.reload) s ∧ (vget t.tmr n).run = true ∧
          (vget t.tmr n).startHop = h + 1 ∧ t.evf.tmrTrigs = rest ∧ OnlyTimers s t) ∧
      (u.run = true → u.retrig = false → u.pend = none →
        exec (.tmrStartTrigger n) s = .next { s with tmr := vset s.tmr n { u with pend := some h }, evf := { s.evf with tmrTrigs := rest } }) ∧
      (u.run = true → u.retrig = false → u.pend.isSome = true →
        ∃ t, exec (.tmrStartTrigger n) s = .next t ∧ t.tmr = s.tmr ∧ (vget t.evf.chans (startChan n s)).merged = true ∧ t.evf.merged = true ∧ OnlyTimers s t)) ∧
    (s.evf.tmrTrigs = { unit := n, kind := .stop, hop := h } :: rest →
      exec (.tmrStopTrigger n) s = .next { s with tmr := vset s.tmr n { u with run := false }, evf := { s.evf with tmrTrigs := rest } }) ∧
    (s.evf.tmrTrigs = { unit := n, kind := .cap, hop := h } :: rest →
      ∃ t, exec (.tmrCapTrigger n) s = .next t ∧ (vget t.tmr n).capt = u.count ∧ (vget t.tmr n).stCap = true ∧
        (vget t.tmr n).stOvr = (u.stOvr || u.stCap) ∧ (vget t.tmr n).count = u.count ∧ t.evf.tmrTrigs = rest ∧ OnlyTimers s t) ∧
    (∀ rising : Bool, u.trig.extractLsb' 24 2 = 3 ∨ u.trig.extractLsb' 24 2 = (if rising then 1 else 2) →
      ∃ t, exec (.timInEdge n rising) s = .next t ∧ (vget t.tmr n).capt = u.count ∧ (vget t.tmr n).stCap = true ∧
        (vget t.tmr n).stOvr = (u.stOvr || u.stCap) ∧ OnlyTimers s t) ∧
    (∃ t, exec (.tmrCaptRead n false) s = .next t ∧ (vget t.tmr n).stCap = false ∧ (vget t.tmr n).capt = u.capt ∧
      (chained n s = true → (vget t.tmr (oddOf n)).captShadow = (vget s.tmr (oddOf n)).capt) ∧ { t with tmr := s.tmr } = s) ∧
    (∃ t, exec (.tmrCountLowRead n) s = .next t ∧ (chained n s = true → (vget t.tmr (oddOf n)).countShadow = (vget s.tmr (oddOf n)).count) ∧
      (chained n s = false → t = s) ∧ { t with tmr := s.tmr } = s) ∧
    (u.run = false → u.pend = some h →
      ∃ t, exec (.pendingTriggerAct (.timer n)) s = .next t ∧ (vget t.tmr n).run = true ∧ (vget t.tmr n).pend = none ∧
        (vget t.tmr n).startHop = h + 1 ∧ wide n (·.count) t = wide n (·.reload) s ∧ OnlyTimers s t) ∧
    (∀ (k : Fin 6) (l : Fin 64), (vget s.evf.corePend k).getLsbD l.1 = true → (vget s.kz.ipend k).getLsbD l.1 = false →
      ∃ t, exec (.pendingTriggerAct (.core k l)) s = .next t ∧ (vget t.kz.ipend k).getLsbD l.1 = true ∧
        (vget t.evf.corePend k).getLsbD l.1 = false ∧ (∀ j : Fin 64, j ≠ l → (vget t.kz.ipend k).getLsbD j.1 = (vget s.kz.ipend k).getLsbD j.1) ∧
        { t with evf := s.evf, kz := s.kz } = s)

/-- Channels fire once, bridges add a hop, and hop 8 is dropped: CHANNEL_FIRE of a channel with events due sets FIRED, counts the firing, records
the highest hop, sets MERGED when there were two or more, sets the line in every core's IPEND, and leaves none of its events due. EVF_FIRE_WRITE
sends one event of hop 0 to every channel named while CD3 runs, and nothing otherwise. BRIDGE_FORWARD of a bridged channel sends an event one hop
higher to its target, or, at hop 8, sends none and sets the channel's LOOP flag and EVF_STAT.LOOP. Nothing but the fabric and IPEND changes. (R397,
R399, R401, R402) -/
def Obligations.FabricFiring : Prop :=
  ∀ (s : State) (c : Fin 64) (hi : Bool) (bits : BitVec 32) (e : Evt) (rest : List Evt),
    (s.evf.due.any (fun x => x.ch == c) = true →
      ∃ t, exec (.channelFire c) s = .next t ∧ (vget t.evf.chans c).fired = true ∧ (vget t.evf.chans c).count = (vget s.evf.chans c).count + 1 ∧
        ((s.evf.due.filter (fun x => x.ch == c)).any (fun x => x.hop == (vget t.evf.chans c).hop) = true) ∧
        (∀ x ∈ s.evf.due, x.ch = c → x.hop ≤ (vget t.evf.chans c).hop) ∧
        (1 < (s.evf.due.filter (fun x => x.ch == c)).length → (vget t.evf.chans c).merged = true) ∧
        (∀ k : Fin 6, (vget t.kz.ipend k).getLsbD c.1 = true) ∧
        (∀ (k : Fin 6) (j : Fin 64), j ≠ c → (vget t.kz.ipend k).getLsbD j.1 = (vget s.kz.ipend k).getLsbD j.1) ∧
        t.evf.due = s.evf.due.filter (fun x => x.ch != c) ∧ { t with evf := s.evf, kz := s.kz } = s ∧ t.kz.phys = s.kz.phys) ∧
    (s.fabricOn = true →
      ∃ t, exec (.evfFireWrite hi bits) s = .next t ∧ { t with evf := s.evf } = s ∧
        ∀ ev : Evt, ev ∈ t.evf.due ↔ ev ∈ s.evf.due ∨ (ev.hop = 0 ∧ bits.getLsbD (ev.ch.1 % 32) = true ∧ decide (32 ≤ ev.ch.1) = hi)) ∧
    (s.fabricOn = false → exec (.evfFireWrite hi bits) s = .next s) ∧
    (s.evf.bridges = e :: rest → e.ch = c → (vget s.evf.chans c).fwdEn = true →
      ∃ t, exec (.bridgeForward c) s = .next t ∧ t.evf.bridges = rest ∧ { t with evf := s.evf } = s ∧
        (if e.hop < 7 then t.evf.due = s.evf.due ++ [{ ch := (vget s.evf.chans c).fwd, hop := e.hop + 1 }]
         else t.evf.due = s.evf.due ∧ t.evf.loop = true ∧ (vget t.evf.chans (vget s.evf.chans c).fwd).loop = true))

/-! ### The phase timebase -/

namespace Sys2Proof.Machine

/-- A command changed nothing but the timebase, the fabric and the backup domain's cycle store. -/
def OnlyTimebase (s t : State) : Prop := { t with ptb := s.ptb, evf := s.evf, bkp := s.bkp } = s

/-- The position of domain `n`. -/
def posOf (s : State) (n : Fin 4) : Nat := (vget s.ptb.pd n).pos

end Sys2Proof.Machine

/-- Every tick advances PD0 and PD1 by their rates, on either clock: On the crystal, PTB_TICK moves PD0 by RATE of 0x2000.01 and PD1 by its rate,
exactly and modulo the width of revolution count, phase and fraction. On the 32.768 kHz clock a tick moves PD1 by 976.5625 times its rate corrected
by LF_TRIM, with nothing lost between ticks. PTB_CLOCK_SWITCH changes the clock and no phase. LF_TRIM_MEASURE on the running crystal keeps the
measurement within 500,000 ppb. Nothing but the timebase, the fabric and the cycle store changes. (R52, R53, R54, R55) -/
def Obligations.PhaseAdvance : Prop :=
  ∀ (s : State) (lf : Bool) (ppb : Int),
    (s.ptb.lf = false →
      ∃ t, exec .ptbTick s = .next t ∧ posOf t 0 = (posOf s 0 + rateFor (s.dU 0x2000 1)) % 2 ^ 84 ∧
        posOf t 1 = (posOf s 1 + s.ptb.rate1) % 2 ^ 84 ∧ t.ptb.rate1 = s.ptb.rate1 ∧ OnlyTimebase s t) ∧
    (s.ptb.lf = true → (vget s.ptb.pd 1).lfRem < 16000000000 → -1000000000 ≤ s.ptb.lfTrim →
      ∃ t q, exec .ptbTick s = .next t ∧ posOf t 1 = (posOf s 1 + q) % 2 ^ 84 ∧ (vget t.ptb.pd 1).lfRem < 16000000000 ∧
        (16000000000 * q + (vget t.ptb.pd 1).lfRem : Int) = s.ptb.rate1 * 15625 * (1000000000 + s.ptb.lfTrim) + (vget s.ptb.pd 1).lfRem ∧
        OnlyTimebase s t) ∧
    (∃ t, exec (.ptbClockSwitch lf) s = .next t ∧ t.ptb.lf = lf ∧ { t.ptb with lf := s.ptb.lf } = s.ptb ∧ { t with ptb := s.ptb, lnk := s.lnk } = s) ∧
    (s.ptb.lf = false → s.pcc.xoRun = true →
      ∃ t, exec (.lfTrimMeasure ppb) s = .next t ∧ t.ptb.lfTrim = max (-500000) (min 500000 ppb) ∧
        { t.ptb with lfTrim := s.ptb.lfTrim } = s.ptb ∧ { t with ptb := s.ptb } = s)

/-- Quadrature, index and reference edges set the phase: With VIO present: an accepted quadrature transition moves the count's position by one
increment in its direction and the phase to it, and both levels changing at once only sets QERR; a rising index edge, off the mark while the count
moves forward, sets the phase to INDEX_PHASE and INDEX; an accepted _Z edge of a one-edge or two-edge source sets the phase to INDEX_PHASE, half a
revolution on for a falling edge. DOMAIN_STALL of a running reference sets STALLED and holds the phase. Nothing but the timebase and the fabric
changes. (R56, R57, R58, R62) -/
def Obligations.PhaseReferences : Prop :=
  ∀ (s : State) (refB a b rising : Bool),
    let n := refDom refB
    let d := vget s.ptb.pd n
    let inc := s.refIncr n
    let home := BitVec.ofNat 32 (s.refIndexPhase n)
    let back := decide (gray d.a d.b = (gray a b + 1) % 4)
    (s.pcc.vio = true → s.refSrc n = 1 → (d.a = a ↔ d.b ≠ b) →
      ∃ t, exec (.quadTransition refB a b) s = .next t ∧ (vget t.ptb.pd n).backward = back ∧ (vget t.ptb.pd n).a = a ∧ (vget t.ptb.pd n).b = b ∧
        (posOf t n : Int) = ((d.edgePos : Int) + (if back then -(inc : Int) else inc)) % 2 ^ 84 ∧ (vget t.ptb.pd n).edgePos = posOf t n ∧
        (∀ m, m ≠ n → vget t.ptb.pd m = vget s.ptb.pd m) ∧ OnlyTimebase s t) ∧
    (s.pcc.vio = true → s.refSrc n = 1 → d.a ≠ a → d.b ≠ b →
      ∃ t, exec (.quadTransition refB a b) s = .next t ∧ (vget t.ptb.pd n).qerr = true ∧ posOf t n = posOf s n ∧ { t with ptb := s.ptb } = s) ∧
    (s.pcc.vio = true → s.refSrc n = 1 → d.backward = false → d.edgePos % 2 ^ 56 ≠ s.refIndexPhase n * 2 ^ 24 % 2 ^ 56 →
      ∃ t, exec (.indexEdge refB) s = .next t ∧ (vget t.ptb.pd n).phase = home ∧ (vget t.ptb.pd n).indexEv = true ∧
        (∀ m, m ≠ n → vget t.ptb.pd m = vget s.ptb.pd m) ∧ OnlyTimebase s t) ∧
    (s.pcc.vio = true → s.refSrc n = 3 ∨ (s.refSrc n = 2 ∧ rising = true) → s.dU 0x2000 (refEntry n 5) ≠ 1 →
      ∃ t, exec (.refEdge refB rising) s = .next t ∧ (vget t.ptb.pd n).phase = (if rising then home else home + 0x80000000#32) ∧
        (vget t.ptb.pd n).stalled = false ∧ (∀ m, m ≠ n → vget t.ptb.pd m = vget s.ptb.pd m) ∧ OnlyTimebase s t) ∧
    (s.refSrc n ≠ 0 → d.stalled = false →
      ∃ t, exec (.domainStall refB) s = .next t ∧ (vget t.ptb.pd n).stalled = true ∧ (vget t.ptb.pd n).stallEv = true ∧ posOf t n = posOf s n ∧
        { t with ptb := s.ptb, evf := s.evf } = s)

/-- Steps, snapshots, the network cycle and gearing: PD_STEP_WRITE of a step other than 0 and -2^31 moves the phase by it in one command and sets
STEPPED; PD1 ignores it unless its source is the air or the Peer Link. PTB_SNAP latches phase, count and velocity of all four domains, and
PD_PHASE_READ puts count and velocity into the shadows, from the snap where one waits. NET_CYCLE_CHANGE at its cycle takes the new nominal, scales
PD1's rate and steps no phase. GEAR_UPDATE goes to NOT_GEARED when PD1's source is no reference, enters FLYWHEEL while its conditions hold, and,
while LOCKED or LIMITED, keeps PD1's rate inside the band of R71. (R69, R71, R72, R75, R85) -/
def Obligations.PhaseSteps : Prop :=
  ∀ (s : State) (n : Fin 4) (v : BitVec 32),
    (v ≠ 0 → v ≠ 0x80000000 → (n = 1 → s.pd1Source = .air ∨ s.pd1Source = .peer) →
      ∃ t, exec (.pdStepWrite n v) s = .next t ∧ (posOf t n : Int) = ((posOf s n : Int) + v.toInt * 2 ^ 24) % 2 ^ 84 ∧
        (vget t.ptb.pd n).stepped = true ∧ (∀ m, m ≠ n → vget t.ptb.pd m = vget s.ptb.pd m) ∧ OnlyTimebase s t) ∧
    (s.pd1Source = .free ∨ s.pd1Source = .geared → exec (.pdStepWrite 1 v) s = .next s) ∧
    (∃ t, exec .ptbSnap s = .next t ∧ { t with ptb := s.ptb } = s ∧
      ∀ m, vget t.ptb.pd m = { vget s.ptb.pd m with snap := some ((vget s.ptb.pd m).phase, (vget s.ptb.pd m).rev, s.velWord m) }) ∧
    (∃ t, exec (.pdPhaseRead n) s = .next t ∧ { t with ptb := s.ptb } = s ∧ (∀ m, m ≠ n → vget t.ptb.pd m = vget s.ptb.pd m) ∧
      (vget t.ptb.pd n).snap = none ∧ posOf t n = posOf s n ∧
      ((vget s.ptb.pd n).snap = none → (vget t.ptb.pd n).cycleShadow = (vget s.ptb.pd n).rev ∧ (vget t.ptb.pd n).velShadow = s.velWord n) ∧
      (∀ x y z, (vget s.ptb.pd n).snap = some (x, y, z) → (vget t.ptb.pd n).cycleShadow = y ∧ (vget t.ptb.pd n).velShadow = z)) ∧
    (s.ptb.cyclePending = true → cycleAhead s.cycle (s.dU 0x2000 3) = false → s.ptb.nominal1 ≠ 0 →
      ∃ t, exec .netCycleChange s = .next t ∧ t.ptb.cycleUs = s.dU 0x2000 2 ∧ t.ptb.nominal1 = rateFor (s.dU 0x2000 2) ∧
        t.ptb.rate1 = (2 * s.ptb.rate1 * rateFor (s.dU 0x2000 2) + s.ptb.nominal1) / (2 * s.ptb.nominal1) ∧ t.ptb.pd = s.ptb.pd ∧
        t.ptb.cyclePending = false ∧ { t with ptb := s.ptb } = s) ∧
    (s.pd1Source ≠ .geared → ∃ t, exec .gearUpdate s = .next t ∧ t.ptb.gear = .notGeared ∧ t.ptb.rate1 = s.ptb.rate1 ∧ t.ptb.pd = s.ptb.pd ∧
      { t with ptb := s.ptb, evf := s.evf } = s) ∧
    (s.pd1Source = .geared → flywheelDue s = true →
      ∃ t, exec .gearUpdate s = .next t ∧ t.ptb.gear = .flywheel ∧
        t.ptb.rate1 = (if s.ptb.gear = .flywheel then s.ptb.rate1 else s.ptb.rateAtEdge) ∧ t.ptb.pd = s.ptb.pd ∧ { t with ptb := s.ptb, evf := s.evf } = s) ∧
    (s.pd1Source = .geared → flywheelDue s = false → s.ptb.gear = .locked ∨ s.ptb.gear = .limited → s.dU 0x2000 7 ≤ 1000000 →
      ∃ t, exec .gearUpdate s = .next t ∧ bandLo s ≤ t.ptb.rate1 ∧ (t.ptb.rate1 : Int) ≤ bandHi s ∧ t.ptb.pd = s.ptb.pd ∧
        (t.ptb.gear = .locked ∨ t.ptb.gear = .limited) ∧ { t with ptb := s.ptb, evf := s.evf } = s)

/-- Arming a phase comparator takes the present phase as behind it: COMPARATOR_ARM of a comparator that the link controller does not hold arms a
ONESHOT or DIVIDE one with its next target ahead by 1 to 2^32 units, so that a target equal to the present phase lies a whole revolution ahead; a
PERIODIC one ahead by at most STEP; an ABS target on PD1 that is not ahead by less than 2^27 cycles sets LATE and clears EN. Comparators 12 to 15
ignore it while the link controller's domain is on. Nothing else changes. (R78, R80, R81, R83) -/
def Obligations.ComparatorArming : Prop :=
  ∀ (s : State) (m : Fin 16) (w : BitVec 32),
    let c := vget s.ptb.cmp m
    let n : Fin 4 := Fin.ofNat 4 (w.toNat % 4)
    let phase := (vget s.ptb.pd n).phase
    let mode := (w.extractLsb' 29 2).toNat
    let only := fun t : State => { t with ptb := s.ptb } = s ∧ t.ptb.pd = s.ptb.pd ∧ ∀ x, x ≠ m → vget t.ptb.cmp x = vget s.ptb.cmp x
    (s.cmpOwned m = false → (w.getLsbD 26 = false ∨ n ≠ 1) → mode = 0 ∨ (mode = 2 ∧ 2 ≤ c.step.toNat % 65536) →
      ∃ t, exec (.comparatorArm m w) s = .next t ∧ (vget t.ptb.cmp m).en = true ∧ 1 ≤ (vget t.ptb.cmp m).dist ∧ (vget t.ptb.cmp m).dist ≤ 2 ^ 32 ∧
        (phase.toNat + (vget t.ptb.cmp m).dist) % 2 ^ 32 = c.target.toNat ∧ (vget t.ptb.cmp m).domain = n ∧ only t) ∧
    (s.cmpOwned m = false → (w.getLsbD 26 = false ∨ n ≠ 1) → mode = 1 → c.step ≠ 0 →
      ∃ t, exec (.comparatorArm m w) s = .next t ∧ (vget t.ptb.cmp m).en = true ∧ 1 ≤ (vget t.ptb.cmp m).dist ∧ (vget t.ptb.cmp m).dist ≤ c.step.toNat ∧ only t) ∧
    (s.cmpOwned m = false → w.getLsbD 26 = true → n = 1 → mode = 0 →
      (c.cycle.toNat * 2 ^ 32 + c.target.toNat + 2 ^ 60 - ((vget s.ptb.pd 1).rev.toNat * 2 ^ 32 + (vget s.ptb.pd 1).phase.toNat)) % 2 ^ 60 ∉ Set.Ioo 0 (2 ^ 59) →
      ∃ t, exec (.comparatorArm m w) s = .next t ∧ (vget t.ptb.cmp m).en = false ∧ (vget t.ptb.cmp m).late = true ∧ only t) ∧
    (12 ≤ m.1 → s.owns dRADIO = true → exec (.comparatorArm m w) s = .next s)

/-! ### The dictionary and the host links -/

namespace Sys2Proof.Machine

/-- A wired link other than the UART whose requests main firmware executes at once: the link is up, and no request waits. -/
def Asks (s : State) (src : Src) : Prop :=
  s.links.waiting = [] ∧ s.links.serving = .main ∧ src ≠ .uart ∧ ∃ l, linkNum src = some l ∧ s.linkUp l = true

/-- Behind what it had to send before, the link has the PDU `p` to send. -/
def Replied (s t : State) (src : Src) (p : Pdu) : Prop :=
  ∃ l y z a, linkNum src = some l ∧ vget t.links.outbox l = vget s.links.outbox l ++ y ++ a :: z ∧ a.pdu = p

/-- The same, and no link has anything else new to send. -/
def Spoke (s t : State) (src : Src) (p : Pdu) : Prop :=
  ∃ l a, linkNum src = some l ∧ a.pdu = p ∧ t.links.outbox = vset s.links.outbox l (vget s.links.outbox l ++ [a])

/-- The response to a write: its status under the request's TID, INDEX and SUB. -/
def writeResp (tid : Byte) (index : BitVec 16) (sub : Byte) (st : Status) : Pdu := { op := 4, tid := tid, index := index, sub := sub, status := st }

def Answered (s t : State) (src : Src) (tid : Byte) (index : BitVec 16) (sub : Byte) (st : Status) : Prop :=
  Replied s t src (writeResp tid index sub st)

/-- A write answered with a status that has done nothing else. -/
def Refused (s t : State) (src : Src) (tid : Byte) (index : BitVec 16) (sub : Byte) (st : Status) : Prop :=
  Spoke s t src (writeResp tid index sub st) ∧ { t with links := { t.links with outbox := s.links.outbox } } = s

/-- Every other entry of the dictionary is as it was. -/
def OtherEntries (s t : State) (idx sub : Nat) : Prop := ∀ i j, key i j ≠ key idx sub → t.dGet i j = s.dGet i j

/-- The dictionary entries that start something when they are written, or are not held as entries: of some indices all, of the others these. -/
def actsOnWrite (idx sub : Nat) : Bool :=
  [0x1010, 0x1101, 0x1202, 0x1203, 0x2401, 0x3001, 0x3002, 0x3003, 0x3300, 0x3401].contains idx ||
  [(0x1001, [2]), (0x1100, [3, 0x15, 0x1F, 0x25, 0x31, 0x41]), (0x1200, [1]), (0x2000, [2, 3, 4]), (0x2100, [0x11, 0x22, 0x24]),
    (0x2200, [1, 2, 0x15, 0x45, 0x46]), (0x2312, [3]), (0x2400, [2]), (0x2500, [8, 0x12]),
    (0x3000, [6, 9, 0x10, 0x11, 0x12, 0x13, 0x14, 0x15, 0x16, 0x17, 0x21, 0x34]), (0x3200, [0x2A]),
    (0x3500, [1, 2, 3, 0x10, 0x16, 0x23, 0x32, 0x35]), (0x3600, [0x50, 0x52, 0x64]), (0x3700, [1, 0x10, 0x11, 0x19])].any
    (fun r => r.1 == idx && r.2.contains sub)

/-- An entry that a link may write, holding a value of its own, with a value that it takes. -/
def Settable (s : State) (src : Src) (index : BitVec 16) (sub : Byte) (f : Found) (v : List Byte) : Prop :=
  index.toNat < 0x5000 ∧ sub ≠ 0 ∧ findEntry src index.toNat sub.toNat s = some f ∧ f.acc.writes = true ∧ actsOnWrite f.idx f.sub = false ∧
  valueCheck f.row v = 0 ∧ (f.row.role0 = true → s.role = 0) ∧ entryCheck f.idx f.sub v s = 0

/-- A header whose fields fit their widths. -/
def Hdr.fits (h : Hdr) : Prop :=
  h.type < 16 ∧ h.net < 2 ^ 16 ∧ h.tx < 2 ^ 18 ∧ h.rx < 2 ^ 18 ∧ h.slotLow < 256 ∧ h.len < 256 ∧ h.zsel < 4 ∧ h.rate < 4 ∧ h.epochLow < 16 ∧
  h.power < 64 ∧ h.fb < 256

/-- A segmented transfer of a link. -/
def xferOf (src : Src) (tid : Byte) (index : BitVec 16) (sub : Byte) (buf : List Byte) : Xfer :=
  { src := src, tid := tid, index := index, sub := sub, node := 0, buf := buf }

end Sys2Proof.Machine

/-- READ answers with an entry's value, a result entry with its status and FRESH flag, and a segment with its offset: Asked over a link that main
firmware serves at once, READ of subindex 0 answers the highest subindex, READ of a readable entry its bytes with status OK, SEG_READ of a STR or
DOMAIN entry the offset and as many bytes from it as the link carries, READ of a result entry NOT_READY while a result is pending and else OK, with
the reader's FRESH flag, which the read clears, and no data before the first result; a value longer than the link carries answers BAD_LENGTH.
Nothing but the response and that flag changes. (R19, R25, R26, R27, R28, R29) -/
def Obligations.DictionaryReads : Prop :=
  ∀ (s : State) (src : Src) (tid : Byte) (index : BitVec 16) (sub : Byte) (off : BitVec 32) (f : Found), Asks s src → index.toNat < 0x5000 →
    let resp := fun (seg fresh : Bool) (st : Status) (v : List Byte) =>
      ({ op := 3, seg := seg, fresh := fresh, tid := tid, index := index, sub := sub, status := st, data := v } : Pdu)
    let only := fun (t : State) => { t with links := { t.links with outbox := s.links.outbox } } = s
    (sub = 0 → indexUsed index.toNat s = true →
      ∃ t, exec (.read src tid index sub 0) s = .next t ∧ only t ∧
        Spoke s t src (resp false false 0 [BitVec.ofNat 8 (if index = 0x1020 then 11 else topSub index.toNat)])) ∧
    (sub ≠ 0 → findEntry src index.toNat sub.toNat s = some f → f.acc.reads = true →
      let v := s.entryBytes f.idx f.sub
      let r := s.resOf f.idx f.sub
      let st : Status := if r.pending then 2 else 0
      (f.row.result = false → f.idx ≠ 0x3300 → v.length ≤ dataLimit src →
        ∃ t, exec (.read src tid index sub 0) s = .next t ∧ only t ∧ Spoke s t src (resp false false 0 v)) ∧
      (f.row.result = false → f.idx ≠ 0x3300 → dataLimit src < v.length →
        ∃ t, exec (.read src tid index sub 0) s = .next t ∧ only t ∧ Spoke s t src (resp false false 0x12 [])) ∧
      (f.row.result = false → f.idx ≠ 0x3300 → f.row.ty.segmented = true →
        ∃ t, exec (.segRead src tid index sub 0 off) s = .next t ∧ only t ∧
          Spoke s t src (resp true false 0 (leBytes 4 off.toNat ++ (v.drop off.toNat).take (dataLimit src - 4)))) ∧
      (f.row.result = true → r.produced = false →
        ∃ t, exec (.read src tid index sub 0) s = .next t ∧ only t ∧ Spoke s t src (resp false false st [])) ∧
      (f.row.result = true → r.produced = true → v.length ≤ dataLimit src →
        ∃ t, exec (.read src tid index sub 0) s = .next t ∧ Spoke s t src (resp false (r.fresh.getLsbD (srcNum src)) st v) ∧
          (∀ k, (t.resOf f.idx f.sub).fresh.getLsbD k = (r.fresh.getLsbD k && k != srcNum src)) ∧
          (t.resOf f.idx f.sub).pending = r.pending ∧ (∀ i j, key i j ≠ key f.idx f.sub → t.resOf i j = s.resOf i j) ∧
          { t with links := { t.links with outbox := s.links.outbox }, results := s.results } = s))

/-- WRITE stores the value of an entry and answers OK; a request number already held does nothing: WRITE of an entry that starts nothing, by a link
that may write it, with a value of its length, encoding and range, stores the value, leaves every other entry and the rest of the machine, and
answers OK; the last segment of a segmented write does the same with the whole value. WRITE of a request number that the entry already holds does
nothing and answers OK. (R20, R24, R28, R29) -/
def Obligations.DictionaryWrites : Prop :=
  ∀ (s : State) (src : Src) (tid : Byte) (index : BitVec 16) (sub : Byte) (f : Found) (v w : List Byte), Asks s src →
    (Settable s src index sub f v → f.row.request = false →
      ∃ t, exec (.write src tid index sub 0 v) s = .next t ∧ t.dGet f.idx f.sub = v ∧ OtherEntries s t f.idx f.sub ∧
        Spoke s t src (writeResp tid index sub 0) ∧ { t with links := { t.links with outbox := s.links.outbox }, dict := s.dict } = s) ∧
    (index.toNat < 0x5000 → sub ≠ 0 → findEntry src index.toNat sub.toNat s = some f → f.acc.writes = true → f.row.request = true →
      valueCheck f.row v = 0 → (f.row.role0 = true → s.role = 0) → entryCheck f.idx f.sub v s = 0 → v = s.dGet f.idx f.sub → index.toNat = f.idx → sub.toNat = f.sub →
      ∃ t, exec (.write src tid index sub 0 v) s = .next t ∧ Refused s t src tid index sub 0) ∧
    (Settable s src index sub f (v ++ w) → f.row.ty.segmented = true → s.links.xfers = [xferOf src tid index sub v] → v.length < 2 ^ 32 →
      ∃ t, exec (.segWrite src tid index sub 0 (BitVec.ofNat 32 v.length) true w) s = .next t ∧ t.dGet f.idx f.sub = v ++ w ∧
        OtherEntries s t f.idx f.sub ∧ t.links.xfers = [] ∧ Spoke s t src (writeResp tid index sub 0) ∧
        { t with links := s.links, dict := s.dict } = s)

/-- A request that fails a check changes nothing and answers with the status of the check: Over a link that main firmware serves at once, a request
with an opcode other than READ, WRITE and ABORT answers BAD_OP; a NODE outside the windows OUT_OF_RANGE; an unused index NO_ENTRY; an index of a
remote node's own space NOT_READY; a write of subindex 0 or of an entry the class may not write DENIED; a read of one it may not read DENIED; a
value of a wrong length BAD_LENGTH or OUT_OF_RANGE as R20 says; an entry of role 0 in another role BUSY. Nothing but the response is produced. (R19,
R20, R21, R28, R34, R35) -/
def Obligations.RefusedRequests : Prop :=
  ∀ (s : State) (src : Src) (tid : Byte) (index : BitVec 16) (sub : Byte) (node : BitVec 18) (op : BitVec 4) (f : Found) (v : List Byte), Asks s src →
    let resp := fun (o : BitVec 4) (n : BitVec 18) (st : Status) => ({ op := o, tid := tid, index := index, sub := sub, node := n, status := st } : Pdu)
    let only := fun (t : State) => { t with links := { t.links with outbox := s.links.outbox } } = s
    let reads := fun (st : Status) => ∃ t, exec (.read src tid index sub 0) s = .next t ∧ only t ∧ Spoke s t src (resp 3 0 st)
    let writes := fun (st : Status) => ∃ t, exec (.write src tid index sub 0 v) s = .next t ∧ only t ∧ Spoke s t src (resp 4 0 st)
    (op ≠ 1 → op ≠ 2 → op ≠ 8 → ∃ t, exec (.badOpRequest src op tid index sub node) s = .next t ∧ only t ∧ Spoke s t src (resp 4 node 0x13)) ∧
    (node ≠ 0 → index.toNat < 0x5000 ∨ 0x7000 ≤ index.toNat →
      ∃ t, exec (.write src tid index sub node v) s = .next t ∧ only t ∧ Spoke s t src (resp 4 node 0x0E)) ∧
    (0x8000 ≤ index.toNat → reads 2 ∧ writes 2) ∧
    (index.toNat < 0x5000 → indexUsed index.toNat s = false → reads 0x10 ∧ writes 0x10) ∧
    (index.toNat < 0x5000 → indexUsed index.toNat s = true → sub = 0 → writes 0x11) ∧
    (index.toNat < 0x5000 → indexUsed index.toNat s = true → sub ≠ 0 → findEntry src index.toNat sub.toNat s = none → reads 0x10 ∧ writes 0x10) ∧
    (index.toNat < 0x5000 → sub ≠ 0 → findEntry src index.toNat sub.toNat s = some f →
      (f.acc.reads = false → reads 0x11) ∧
      (f.acc.writes = false → writes 0x11) ∧
      (f.acc.writes = true → f.row.ty.segmented = false → v.length ≠ f.row.ty.width → writes 0x12) ∧
      (f.acc.writes = true → f.row.ty.segmented = true → lengthOk f.row.range v.length = false → writes 0x0E) ∧
      (f.acc.writes = true → f.row.ty.segmented = false → v.length = f.row.ty.width → (encodingOk f.row.ty v && scalarOk f.row.ty f.row.range v) = false →
        writes 0x0E) ∧
      (f.acc.writes = true → valueCheck f.row v = 0 → f.row.role0 = true → s.role ≠ 0 → writes 1))

/-- Segments of a write in order, out of order, aborted and timed out: Over a link that main firmware serves at once: the first segment of an entry
with no transfer opens one and answers OK; a segment at the offset reached adds its bytes; a segment at another offset ends the transfer and answers
ABORTED; DTP_ABORT ends the transfer it names with ABORTED, and does nothing where there is none. SEGMENT_TIMEOUT drops the oldest transfer of a
link and TID and sends an ABORT PDU. No entry takes a value, and nothing but the link's transfers and what it sends changes. (R29, R30) -/
def Obligations.SegmentedTransfers : Prop :=
  ∀ (s : State) (src : Src) (tid : Byte) (index : BitVec 16) (sub : Byte) (off : BitVec 32) (f : Found) (buf data : List Byte) (pre post : List Xfer),
    let x := xferOf src tid index sub buf
    let only := fun (t : State) => { t with links := { t.links with outbox := s.links.outbox, xfers := s.links.xfers } } = s
    let open_ := index.toNat < 0x5000 ∧ sub ≠ 0 ∧ findEntry src index.toNat sub.toNat s = some f ∧ f.acc.writes = true ∧ f.row.ty.segmented = true ∧
      ¬(f.idx = 0x3500 ∧ f.sub = 2)
    (Asks s src → open_ → (∀ y ∈ s.links.xfers, ¬(y.index = index ∧ y.sub = sub)) →
      ∃ t, exec (.segWrite src tid index sub 0 0 false data) s = .next t ∧ t.links.xfers = s.links.xfers ++ [xferOf src tid index sub data] ∧
        Spoke s t src (writeResp tid index sub 0) ∧ only t) ∧
    (Asks s src → s.links.xfers = pre ++ x :: post → (∀ y ∈ pre ++ post, ¬(y.src = src ∧ y.tid = tid ∧ y.index = index ∧ y.sub = sub)) →
      (open_ → off.toNat = buf.length →
        ∃ t, exec (.segWrite src tid index sub 0 off false data) s = .next t ∧ t.links.xfers = pre ++ post ++ [xferOf src tid index sub (buf ++ data)] ∧
          Spoke s t src (writeResp tid index sub 0) ∧ only t) ∧
      (open_ → off.toNat ≠ buf.length →
        ∃ t, exec (.segWrite src tid index sub 0 off false data) s = .next t ∧ t.links.xfers = pre ++ post ∧
          Spoke s t src (writeResp tid index sub 0x14) ∧ only t) ∧
      (index.toNat < 0x5000 → ∃ t, exec (.dtpAbort src tid index sub 0) s = .next t ∧ t.links.xfers = pre ++ post ∧
        Spoke s t src (writeResp tid index sub 0x14) ∧ only t)) ∧
    (Asks s src → index.toNat < 0x5000 → (∀ y ∈ s.links.xfers, ¬(y.src = src ∧ y.tid = tid ∧ y.index = index ∧ y.sub = sub)) →
      ∃ t, exec (.dtpAbort src tid index sub 0) s = .next t ∧ Refused s t src tid index sub 0) ∧
    (∀ l y, linkNum src = some l → s.linkUp l = true → s.links.xfers = pre ++ y :: post → y.src = src → y.tid = tid →
      (∀ z ∈ pre, ¬(z.src = src ∧ z.tid = tid)) →
      ∃ t, exec (.segmentTimeout src tid) s = .next t ∧ t.links.xfers = pre ++ post ∧ only t ∧
        Spoke s t src { op := 8, tid := tid, index := y.index, sub := y.sub, node := y.node, status := 0x14 })

/-- Saving, applying link settings, re-initialising a link, the reset request and the heartbeat: SAVE_SETTINGS with a new number begins a save, BUSY
while one runs; SAVE_DONE stores the retained entries and reports OK. CAN_APPLY and T1S_APPLY bring the entries of their link into force;
UART_RATE_WRITE sets the rate; SPI_QUAD_WRITE sets the mode, over SPI itself only behind its own response; FN_REINIT of a host link drops its
transfers, ends quad mode or bus-off. DEVICE_RESET_WRITE with the key resets the device with cause 2, answered by nothing, and without it answers
OUT_OF_RANGE. HEARTBEAT_TICK counts while main firmware serves and its checks pass, modulo 2^32. (R22, R23, R24, R34, R36, R40, R48, R49, R50, R450)
-/
def Obligations.LinkSettings : Prop :=
  ∀ (s : State) (src : Src) (tid : Byte) (v : BitVec 32) (q : Bool),
    let b := leBytes 4 v.toNat
    let ext := fun (t : State) => { t with links := s.links, dict := s.dict } = s
    (Asks s src → b ≠ s.dGet 0x1100 3 → s.links.saving = false →
      ∃ t, exec (.saveSettings src tid v) s = .next t ∧ t.links.saving = true ∧ t.saved = s.saved ∧ (t.resOf 0x1100 4).pending = true ∧
        t.dGet 0x1100 3 = b ∧ OtherEntries s t 0x1100 3 ∧ Spoke s t src (writeResp tid 0x1100 3 0) ∧
        { t with links := s.links, dict := s.dict, results := s.results } = s) ∧
    (Asks s src → b ≠ s.dGet 0x1100 3 → s.links.saving = true →
      ∃ t, exec (.saveSettings src tid v) s = .next t ∧ t.links.saving = true ∧ t.saved = s.saved ∧ t.dGet 0x1100 4 = [1] ∧
        OtherEntries s t 0x1100 4 ∧ Spoke s t src (writeResp tid 0x1100 3 1) ∧ { t with links := s.links, dict := s.dict, results := s.results } = s) ∧
    (s.links.saving = true →
      ∃ t, exec .saveDone s = .next t ∧ t.links = { s.links with saving := false } ∧ t.dGet 0x1100 4 = [0] ∧ (t.resOf 0x1100 4).fresh = 0x7F ∧
        (∀ k w, (k, w) ∈ t.saved ↔ (k, w) ∈ s.dict ∧ ∃ r, dictRow (k / 256) (k % 256) = some r ∧ r.ret = true) ∧ OtherEntries s t 0x1100 4 ∧
        { t with links := s.links, dict := s.dict, results := s.results, saved := s.saved } = s) ∧
    (Asks s src → b ≠ s.dGet 0x1100 (if q then 0x1F else 0x15) →
      ∃ t, exec (.canApply src tid q v) s = .next t ∧ Spoke s t src (writeResp tid 0x1100 (if q then 0x1F else 0x15) 0) ∧ ext t ∧
        let c := vget t.links.can (if q then 1 else 0)
        let e := if q then 0x1A else 0x10
        c.enable = decide (s.dU 0x1100 e = 1) ∧ c.address = s.dU 0x1100 (e + 1) ∧ c.nominal = s.dU 0x1100 (e + 2) ∧ c.data = s.dU 0x1100 (e + 3) ∧
        c.sample = s.dU 0x1100 (e + 4) ∧ vget t.links.can (if q then 0 else 1) = vget s.links.can (if q then 0 else 1)) ∧
    (Asks s src → b ≠ s.dGet 0x1100 0x25 →
      ∃ t, exec (.t1sApply src tid v) s = .next t ∧ Spoke s t src (writeResp tid 0x1100 0x25 0) ∧ ext t ∧ t.links.can = s.links.can ∧
        t.links.t1s.enable = decide (s.dU 0x1100 0x20 = 1) ∧ t.links.t1s.plcaId = s.dU 0x1100 0x21 ∧
        t.links.t1s.mac = BitVec.ofNat 48 (s.dU 0x1100 0x22) ∧ t.links.t1s.nodeCount = s.dU 0x1100 0x23 ∧ t.links.t1s.toTimer = s.dU 0x1100 0x24 ∧
        t.links.t1s.notifyDest = BitVec.ofNat 48 (s.dU 0x1100 0x27)) ∧
    (Asks s src → 9600 ≤ v.toNat → v.toNat ≤ 921600 →
      ∃ t, exec (.uartRateWrite src tid v) s = .next t ∧ t.links.uartRate = v.toNat ∧ t.dGet 0x1100 0x41 = b ∧ OtherEntries s t 0x1100 0x41 ∧
        Spoke s t src (writeResp tid 0x1100 0x41 0) ∧ ext t) ∧
    (Asks s src → src ≠ .spi →
      ∃ t, exec (.spiQuadWrite src tid q) s = .next t ∧ t.links.quad = q ∧ t.dGet 0x1100 0x31 = [if q then 1 else 0] ∧
        Spoke s t src (writeResp tid 0x1100 0x31 0) ∧ ext t) ∧
    (Asks s .spi →
      ∃ t a, exec (.spiQuadWrite .spi tid q) s = .next t ∧ t.links.quad = s.links.quad ∧ t.dGet 0x1100 0x31 = [if q then 1 else 0] ∧
        vget t.links.outbox 3 = vget s.links.outbox 3 ++ [a] ∧ a.pdu = writeResp tid 0x1100 0x31 0 ∧ a.quad = some q ∧ ext t) ∧
    (∀ n : Fin 20, 15 ≤ n.1 → Asks s src → b ≠ s.dGet 0x1202 (n.1 + 1) →
      ∃ t l, fnLink (n.1 + 1) = some l ∧ exec (.fnReinit src tid n v) s = .next t ∧ t.links.xfers = s.links.xfers.filter (fun x => x.src != l) ∧
        (n = 18 → t.links.quad = false) ∧ (n = 15 → vget t.links.canBusOff 0 = false) ∧ (n = 16 → vget t.links.canBusOff 1 = false) ∧
        t.dGet 0x1202 (n.1 + 1) = b ∧ OtherEntries s t 0x1202 (n.1 + 1) ∧
        Spoke s t src (writeResp tid 0x1202 (BitVec.ofNat 8 (n.1 + 1)) 0) ∧ ext t) ∧
    (Asks s src → b ≠ s.dGet 0x1203 1 → v.toNat / 65536 = 0xA5C3 →
      ∃ t, exec (.deviceResetWrite src tid v) s = .next t ∧ t.links = {} ∧ t.dU 0x1200 5 = 2 ∧ t.dGet 0x1203 1 = b ∧ t.saved = s.saved ∧ t.bkp = s.bkp ∧
        t.sec.otp = s.sec.otp ∧ t.pending = s.pending ∧ t.evf = State.reset.evf ∧ t.tmr = State.reset.tmr) ∧
    (Asks s src → b ≠ s.dGet 0x1203 1 → v.toNat / 65536 ≠ 0xA5C3 →
      ∃ t, exec (.deviceResetWrite src tid v) s = .next t ∧ (∀ i j, j < 256 → t.dGet i j = s.dGet i j) ∧ Spoke s t src (writeResp tid 0x1203 1 0x0E) ∧
        { t with links := { t.links with outbox := s.links.outbox }, dict := s.dict } = s) ∧
    (s.links.serving = .main → s.links.checksOk = true → s.hlt.expired.getLsbD 0 = false →
      ∃ t, exec .heartbeatTick s = .next t ∧ t.dU 0x1200 3 = (s.dU 0x1200 3 + 1) % 2 ^ 32 ∧ OtherEntries s t 0x1200 3 ∧ ext t ∧
        (s.dU 0x1100 2 ≠ 1 → t.links = s.links)) ∧
    (s.links.serving ≠ .main ∨ s.links.checksOk = false ∨ s.hlt.expired.getLsbD 0 = true → exec .heartbeatTick s = .next s)

/-- Frames of CAN FD, 10BASE-T1S and the UART become waiting requests: A CAN FD frame under the controller's request identifier, a 10BASE-T1S frame
to the port's own MAC address, and a UART frame with a good CRC each put the request they carry behind those that wait; the fifth of a link is
answered BUSY at once; a CAN FD frame under another identifier does nothing, and one shorter than a header is counted. A 10BASE-T1S frame of another
EtherType goes to firmware. CAN_BUS_OFF_RECOVERY ends bus-off. Nothing else changes. (R31, R36, R37, R39, R41, R42) -/
def Obligations.HostFrames : Prop :=
  ∀ (s : State) (c : Bool) (ident : BitVec 11) (p : Pdu) (pad frame : List Byte) (mac : BitVec 48), p.rsv = false → p.data.length ≤ 1024 →
    let src : Src := if c then .can1 else .can0
    let k : Fin 2 := if c then 1 else 0
    let room := fun (x : Src) => (s.links.waiting.filter (fun r => r.src == x)).length < 4
    let taken := fun (x : Src) (m : BitVec 48) => ({ s with links := { s.links with waiting := s.links.waiting ++ [{ src := x, pdu := p, mac := m }] } } : State)
    (s.linkUp (if c then 1 else 0) = true → s.links.serving = .main → ident.toNat = 0x300 + (vget s.links.can k).address →
      (room src → exec (.canFrameReceive c ident (pduBytes p ++ pad)) s = .next (taken src 0)) ∧
      (¬room src → ∃ t, exec (.canFrameReceive c ident (pduBytes p ++ pad)) s = .next t ∧
        Spoke s t src (answer p 1 false []) ∧ { t with links := { t.links with outbox := s.links.outbox } } = s) ∧
      (frame.length < 12 → ∃ t, exec (.canFrameReceive c ident frame) s = .next t ∧ t.dU 0x1100 0x18 = min (s.dU 0x1100 0x18 + 1) (2 ^ 32 - 1) ∧
        OtherEntries s t 0x1100 0x18 ∧ { t with dict := s.dict } = s)) ∧
    (s.linkUp (if c then 1 else 0) = false ∨ ident.toNat ≠ 0x300 + (vget s.links.can k).address → exec (.canFrameReceive c ident frame) s = .next s) ∧
    (exec (.canBusOffRecovery c) s = .next { s with links := { s.links with canBusOff := vset s.links.canBusOff k false } }) ∧
    (s.linkUp 2 = true → s.links.serving = .main → room .t1s → s.links.t1s.mac.toNat ≠ 0xFFFFFFFFFFFF →
      exec (.t1sFrameReceive (beBytes 6 s.links.t1s.mac.toNat ++ beBytes 6 mac.toNat ++ [0x88, 0xB5, 1, 0] ++ pduBytes p ++ pad)) s = .next (taken .t1s mac)) ∧
    (s.linkUp 2 = true → 14 ≤ frame.length → beNat ((frame.drop 12).take 2) ≠ 0x88B5 →
      exec (.t1sFrameReceive frame) s = .next { s with links := { s.links with t1sRx := s.links.t1sRx ++ [frame] } }) ∧
    (s.linkUp 4 = true → s.links.serving ≠ .none → room .uart → unescape frame = some (frameOf (pduBytes p)) →
      exec (.uartFrameReceive frame) s = .next (taken .uart 0))

/-- The SPI port's status, write frame, read frame and unknown command: While the port answers, SPI_READ_STATUS drives SPI_STATUS, with RXRDY,
INFREE, CRCERR, OVR, QUAD, ROM and FMTERR in bits 7 to 1, and clears the three error flags; SPI_WRITE_FRAME of a good frame takes its request, of a
frame that ends early sets CRCERR and counts it, and without a server sets OVR; SPI_READ_FRAME drives the frame of the oldest PDU and consumes it
once the last byte is clocked, and not before; another command sets FMTERR. A port that does not answer drives nothing. (R40, R41, R537) -/
def Obligations.SpiPort : Prop :=
  ∀ (s : State) (p : Pdu) (c : Byte) (bytes : List Byte) (n : Nat) (a : Sent), p.rsv = false → p.data.length ≤ 1024 → a.pdu.data.length ≤ 1024 →
    let f := frameOf (pduBytes a.pdu)
    let counted := fun (t : State) => t.dU 0x1100 0x32 = min (s.dU 0x1100 0x32 + 1) (2 ^ 32 - 1) ∧ OtherEntries s t 0x1100 0x32 ∧
      { t with links := s.links, dict := s.dict } = s
    (spiAnswers s = true →
      (∃ b, exec .spiReadStatus s = .next { s with links := { s.links with miso := [b], crcErr := false, ovr := false, fmtErr := false } } ∧
        b.getLsbD 7 = decide (vget s.links.outbox 3 ≠ []) ∧ b.getLsbD 6 = decide (s.links.serving ≠ .none) ∧ b.getLsbD 5 = s.links.crcErr ∧
        b.getLsbD 4 = s.links.ovr ∧ b.getLsbD 3 = s.links.quad ∧ b.getLsbD 2 = decide (s.links.serving ≠ .main) ∧ b.getLsbD 1 = s.links.fmtErr ∧
        b.getLsbD 0 = false) ∧
      (s.links.serving = .main → s.linkUp 3 = true → (s.links.waiting.filter (fun r => r.src == .spi)).length < 4 →
        exec (.spiWriteFrame (frameOf (pduBytes p))) s =
          .next { s with links := { s.links with miso := [], waiting := s.links.waiting ++ [{ src := .spi, pdu := p }] } }) ∧
      (s.links.serving ≠ .none → n < (frameOf (pduBytes p)).length →
        ∃ t, exec (.spiWriteFrame ((frameOf (pduBytes p)).take n)) s = .next t ∧ t.links = { s.links with miso := [], crcErr := true } ∧ counted t) ∧
      (s.links.serving = .none → ∃ t, exec (.spiWriteFrame bytes) s = .next t ∧ t.links = { s.links with miso := [], ovr := true } ∧ counted t) ∧
      (s.links.serving ≠ .none → vget s.links.outbox 3 = [a] →
        (f.length ≤ n → exec (.spiReadFrame n) s =
          .next { s with links := { s.links with miso := f, outbox := vset s.links.outbox 3 [], quad := a.quad.getD s.links.quad } }) ∧
        (n < f.length → exec (.spiReadFrame n) s = .next { s with links := { s.links with miso := f.take n } })) ∧
      (c ≠ 2 → c ≠ 3 → c ≠ 5 → exec (.spiUnknownCommand c) s = .next { s with links := { s.links with miso := [0], fmtErr := true } })) ∧
    (spiAnswers s = false →
      let dark : State := { s with links := { s.links with miso := [] } }
      exec .spiReadStatus s = .next dark ∧ exec (.spiWriteFrame bytes) s = .next dark ∧ exec (.spiReadFrame n) s = .next dark ∧
      exec (.spiUnknownCommand c) s = .next dark)

/-- PDUs, frames of PDUs, PHY headers and link headers read back as they were written: The bytes of a PDU whose reserved bits are 0 and whose data
are at most 1,024 bytes, whatever follows them, are read as that PDU and what follows; the frame form of R41 over PDUs of at most 2,044 bytes
together is read as those PDUs. The fourteen bytes of a PHY header whose fields fit their widths read back as that header, with the leading two bits
0; the eight bytes of a link header read back as its SEQ, SOURCE, DEST, HOPS and PORT. (R27, R41, R102, R106) -/
def Obligations.WireForms : Prop :=
  (∀ (p : Pdu) (rest : List Byte), p.rsv = false → p.data.length ≤ 1024 → pduOf (pduBytes p ++ rest) = some (p, rest)) ∧
  (∀ ps : List Pdu, (∀ p ∈ ps, p.rsv = false ∧ p.data.length ≤ 1024) → (ps.flatMap pduBytes).length ≤ 2044 →
    readFrame (frameOf (ps.flatMap pduBytes)) = .pdus ps) ∧
  (∀ h : Hdr, h.fits → h.bytes.length = 14 ∧ Hdr.ofBytes h.bytes = h ∧ hdrField h.bytes 0 2 = 0) ∧
  (∀ seq source dest hops port : Nat, seq < 2 ^ 16 → source < 2 ^ 18 → dest < 2 ^ 18 → hops < 16 → port < 256 →
    let b := linkHeader seq source dest hops port
    b.length = 8 ∧ lhField b 0 16 = seq ∧ lhSource b = source ∧ lhDest b = dest ∧ lhHops b = hops ∧ lhPort b = port)

/-! ### Remote requests and the role -/

namespace Sys2Proof.Machine

/-- A request to a remote node can be sent at once: a root's role, core 1 running, nothing pending, one next hop `h`, room in Sluice. -/
def CanSend (s : State) (node h : Nat) : Prop :=
  s.bigRole = true ∧ s.links.proxies = [] ∧ (s.physOf 1).isSome = true ∧ proxyHops node s = [h] ∧ s.freeSlot.isSome = true ∧ s.qFull 1 = false

/-- Sluice's queue 1 has a new frame for `h` whose link header names `node` and port 1 and whose payload is the PDU `p`. -/
def Queued (s t : State) (node h : Nat) (p : Pdu) : Prop :=
  ∃ f, vget t.slu.queues 1 = vget s.slu.queues 1 ++ [f] ∧ f.id = s.slu.nextId ∧ f.node = h ∧ lhDest f.lh = node ∧ lhPort f.lh = 1 ∧ f.payload = pduBytes p ∧
    (∀ q, q ≠ 1 → vget t.slu.queues q = vget s.slu.queues q)

/-- A request that waits for its remote node, sent as the frame `id`. -/
def pendingReq (node : BitVec 18) (index : BitVec 16) (sub : Byte) (write : Bool) (data : List Byte) (id : Nat) : ProxyReq :=
  { node := node, index := index, sub := sub, write := write, data := data, frames := [id] }

end Sys2Proof.Machine

/-- A proxy READ and WRITE send their request ends the air; a value in hand is answered: A host's PROXY_READ of an item with no value sends a READ
of its remote index and subindex to the node on port 1 through queue 1 and answers NOT_READY; of a value not yet seen it answers the value with
FRESH 1 and clears the reader's flag; PROXY_WRITE and PROXY_BROADCAST_WRITE send a WRITE and answer OK. A role without the mesh's root answers
NOT_READY and sends nothing. The dictionary stays as it is. (R45, R46) -/
def Obligations.ProxyRequests : Prop :=
  ∀ (s : State) (src : Src) (tid : Byte) (index : BitVec 16) (sub : Byte) (node : BitVec 18) (data : List Byte) (h : Nat), Asks s src →
    0x6000 ≤ index.toNat → index.toNat < 0x7000 → node ≠ 0 →
    let rem := BitVec.ofNat 16 (remoteIndex index.toNat)
    let resp := fun (o : BitVec 4) (n : BitVec 18) (fr : Bool) (st : Status) (d : List Byte) =>
      ({ op := o, tid := tid, index := index, sub := sub, node := n, fresh := fr, status := st, data := d } : Pdu)
    let ask := fun (w : Bool) (d : List Byte) => ({ op := if w then 2 else 1, tid := 0, index := rem, sub := sub, data := d } : Pdu)
    (node ≠ 0x3FFFF → CanSend s node.toNat h → s.proxyVal node rem sub = none →
      ∃ t, exec (.proxyRead src tid index sub node) s = .next t ∧ t.links.proxies = [pendingReq node rem sub false [] s.slu.nextId] ∧
        Queued s t node.toNat h (ask false []) ∧ Spoke s t src (resp 3 node false 2 []) ∧ t.dict = s.dict) ∧
    (node ≠ 0x3FFFF → s.bigRole = true → (s.physOf 1).isSome = true → s.links.proxies = [] →
      ∀ v, s.proxyVal node rem sub = some v → v.late = false → v.fresh.getLsbD (srcNum src) = true → v.data ≠ [] → v.data.length ≤ dataLimit src →
      ∃ t w, exec (.proxyRead src tid index sub node) s = .next t ∧ Spoke s t src (resp 3 node true 0 v.data) ∧ t.proxyVal node rem sub = some w ∧
        w.data = v.data ∧ (∀ k, w.fresh.getLsbD k = (v.fresh.getLsbD k && k != srcNum src)) ∧ { t with links := s.links } = s) ∧
    (CanSend s node.toNat h → data.length ≤ 228 → node ≠ 0x3FFFF →
      ∃ t, exec (.proxyWrite src tid index sub node data) s = .next t ∧ t.links.proxies = [pendingReq node rem sub true data s.slu.nextId] ∧
        Queued s t node.toNat h (ask true data) ∧ Spoke s t src (resp 4 node false 0 []) ∧ t.dict = s.dict) ∧
    (CanSend s 0x3FFFF h → data.length ≤ 228 →
      ∃ t, exec (.proxyBroadcastWrite src tid index sub data) s = .next t ∧ t.links.proxies = [pendingReq 0x3FFFF rem sub true data s.slu.nextId] ∧
        Queued s t 0x3FFFF h (ask true data) ∧ Spoke s t src (resp 4 0x3FFFF false 0 []) ∧ t.dict = s.dict) ∧
    (s.bigRole = false → node ≠ 0x3FFFF →
      ∃ t, exec (.proxyWrite src tid index sub node data) s = .next t ∧ Spoke s t src (resp 4 node false 2 []) ∧
        { t with links := { t.links with outbox := s.links.outbox } } = s)

/-- How proxied and tunnelled requests end, and requests that came ends the air: PROXY_REPLY with the awaited READ response stores the value with
every FRESH flag set and ends the request; with a failed tag it ends the request with no value; PROXY_TIMEOUT leaves LATE. AIR_REQUEST sends the
tunnelled PDU and makes its slot wait; AIR_RESULT ends the wait with the node and the response, or a response PDU of status LATE or AUTH_FAIL.
REMOTE_DTP_REQUEST of a broadcast WRITE stores the value under the remote class and answers nothing. (R21, R45, R46, R47) -/
def Obligations.ProxyOutcomes : Prop :=
  ∀ (s : State) (src : Src) (tid : Byte) (slot : Fin 16) (r : ProxyReq) (p : Pdu) (f : MeshFrame) (n : BitVec 18) (h : Nat),
    let ends := fun (t : State) => t.links.proxies = [] ∧ { t with links := s.links, cwy := { t.cwy with inbox := s.cwy.inbox } } = s
    let endsR := fun (t : State) => t.links.proxies = [] ∧
      { t with links := s.links, dict := s.dict, results := s.results, cwy := { t.cwy with inbox := s.cwy.inbox } } = s
    (s.links.proxies = [r] → r.slot = 0 →
      (s.cwy.inbox = [f] → framePdu f = some p → p.op = 3 → p.status = 0 → r.write = false → r.left = true →
        r.node = BitVec.ofNat 18 (lhSource f.lh) → r.index = p.index → r.sub = p.sub →
        ∃ t, exec (.proxyReply none) s = .next t ∧ ends t ∧ t.cwy.inbox = [] ∧
          t.proxyVal r.node r.index r.sub = some { node := r.node, index := r.index, sub := r.sub, data := p.data, fresh := 0x7F }) ∧
      (r.left = true → ∃ t, exec (.proxyReply (some r.node)) s = .next t ∧ ends t ∧ t.links.proxyVals = s.links.proxyVals) ∧
      (r.write = false → r.node ≠ 0x3FFFF → r.frames = [] →
        ∃ t v, exec .proxyTimeout s = .next t ∧ ends t ∧ t.proxyVal r.node r.index r.sub = some v ∧ v.late = true)) ∧
    (Asks s src → CanSend s n.toNat h → n ≠ 0 → n ≠ 0x3FFFF → s.links.airWait.getLsbD slot.1 = false → p.rsv = false → p.node = 0 → p.status = 0 →
      p.fresh = false → p.seg = false → p.op = 2 ∨ (p.op = 1 ∧ p.data = []) → p.data.length ≤ 228 →
      ∃ t, exec (.airRequest src tid slot (leBytes 4 n.toNat ++ pduBytes p)) s = .next t ∧ t.links.airWait = s.links.airWait ||| (1#16 <<< slot.1) ∧
        Queued s t n.toNat h p ∧ (t.resOf 0x1102 (slot.1 + 1)).pending = true ∧ Spoke s t src (writeResp tid 0x1101 (BitVec.ofNat 8 (slot.1 + 1)) 0) ∧
        t.dict = s.dict) ∧
    (s.links.proxies = [r] → r.slot = slot.1 + 1 → r.frames = [] →
      let done := fun (t : State) (q : Pdu) => endsR t ∧ t.links.airWait.getLsbD slot.1 = false ∧
        t.dGet 0x1102 (slot.1 + 1) = leBytes 4 r.node.toNat ++ pduBytes q ∧ (t.resOf 0x1102 (slot.1 + 1)).pending = false ∧
        (t.resOf 0x1102 (slot.1 + 1)).fresh = 0x7F
      let made := fun (st : Status) => ({ op := if r.write then 4 else 3, tid := r.tid, index := r.index, sub := r.sub, status := st } : Pdu)
      (r.node ≠ 0x3FFFF → ∃ t, exec (.airResult slot .late) s = .next t ∧ done t (made 3)) ∧
      (r.left = true → ∃ t, exec (.airResult slot .badTag) s = .next t ∧ done t (made 6)) ∧
      (s.cwy.inbox = [f] → framePdu f = some p → r.left = true → r.node = BitVec.ofNat 18 (lhSource f.lh) → r.index = p.index → r.sub = p.sub →
        p.op = (if r.write then 4 else 3) → ∃ t, exec (.airResult slot .reply) s = .next t ∧ done t p ∧ t.cwy.inbox = [])) ∧
    (∀ e : Found, s.cwy.inbox = [f] → framePdu f = some p → p.op = 2 → p.seg = false → p.rsv = false → p.node = 0 → lhDest f.lh = 0x3FFFF →
      s.links.waiting = [] → s.links.serving = .main → Settable s .air p.index p.sub e p.data → e.row.request = false →
      ∃ t, exec .remoteDtpRequest s = .next t ∧ t.dGet e.idx e.sub = p.data ∧ OtherEntries s t e.idx e.sub ∧ t.cwy.inbox = [] ∧
        { t with dict := s.dict, cwy := s.cwy } = s)

/-- The role entry: refusals, start and stop: ROLE_WRITE above 5 answers OUT_OF_RANGE, of the present role OK with no effect, of another role than 0
from a role other than 0 BUSY, and with a domain that the role needs not ON NOT_READY with the lowest such domain in 0x1200.02. Otherwise the role
takes the value and OK is answered: a leaf or relay begins LOST, another role as the reference; role 0 ends every proxy request and drops the frames
that came ends the air. (R2, R3, R64, R236) -/
def Obligations.RoleWrites : Prop :=
  ∀ (s : State) (src : Src) (tid v : Byte), Asks s src →
    let same := fun (t : State) => { t with links := { t.links with outbox := s.links.outbox }, dict := s.dict } = s
    (5 < v.toNat → ∃ t, exec (.roleWrite src tid v) s = .next t ∧ Refused s t src tid 0x1200 1 0x0E) ∧
    (v.toNat ≤ 5 → v.toNat = s.role →
      ∃ t, exec (.roleWrite src tid v) s = .next t ∧ t.role = s.role ∧ OtherEntries s t 0x1200 1 ∧ Spoke s t src (writeResp tid 0x1200 1 0) ∧ same t) ∧
    (v.toNat ≤ 5 → v ≠ 0 → s.role ≠ 0 → v.toNat ≠ s.role → ∃ t, exec (.roleWrite src tid v) s = .next t ∧ Refused s t src tid 0x1200 1 1) ∧
    (v.toNat ≤ 5 → v ≠ 0 → s.role = 0 → ∀ d : Fin 24, d ∈ roleDomains v.toNat → s.isOn d = false → (∀ e ∈ roleDomains v.toNat, e < d → s.isOn e = true) →
      ∃ t, exec (.roleWrite src tid v) s = .next t ∧ t.role = 0 ∧ t.dU 0x1200 2 = d.1 ∧ OtherEntries s t 0x1200 2 ∧
        Spoke s t src (writeResp tid 0x1200 1 2) ∧ same t) ∧
    (v.toNat ≤ 5 → v ≠ 0 → s.role = 0 → (∀ d ∈ roleDomains v.toNat, s.isOn d = true) →
      ∃ t, exec (.roleWrite src tid v) s = .next t ∧ t.role = v.toNat ∧ Answered s t src tid 0x1200 1 0 ∧ t.pcc = s.pcc ∧ t.tmr = s.tmr ∧
        t.lnk.sync = (if v = 1 ∨ v = 2 then .lost else .ref)) ∧
    (s.role ≠ 0 →
      ∃ t, exec (.roleWrite src tid 0) s = .next t ∧ t.role = 0 ∧ Answered s t src tid 0x1200 1 0 ∧ t.pcc = s.pcc ∧ t.tmr = s.tmr ∧ t.lnk.sync = .ref ∧
        t.links.proxies = [] ∧ t.cwy.inbox = [] ∧ (s.isOn dRADIO = true → t.rf.moving = some 2))

/-! ### The air interface and its settings -/

namespace Sys2Proof.Machine

/-- A request of a link whose number is new, or whose value is legal, has taken its value and been answered OK. -/
def Taken (s t : State) (src : Src) (tid : Byte) (index : BitVec 16) (sub : Byte) (v : List Byte) : Prop :=
  t.dGet index.toNat sub.toNat = v ∧ Answered s t src tid index sub 0

/-- Bit `i` of the register at `a` is set, and no other bit of a register nor anything else has changed. -/
def Flagged (s t : State) (a i : Nat) : Prop :=
  t.regB a i = true ∧ (∀ b j, b ≠ a ∨ j ≠ i → t.regB b j = s.regB b j) ∧ { t with regs := s.regs } = s

end Sys2Proof.Machine

/-- A new plan, network ID, channel mask and network cycle, and the refill of the buckets: REGION_PLAN_WRITE in role 0 sets the plan, its channel
count and first frequency, a mask of exactly the channels the plan lets the device use, the plan's regulatory defaults, and empties the duty and
dwell buckets. NETWORK_ID_WRITE stores the ID. CHANNEL_MASK_WRITE of a mask within the plan waits for a slot boundary, and one outside it is refused
with OUT_OF_RANGE; CHANNEL_MASK_APPLY brings it into force and drops a pending TX command whose only carrier it removes, with REFUSED_REGULATORY.
NET_CYCLE_WRITE is refused with LATE once the cycle it names, or the one held, has begun, and else becomes the pending change. While RADIO is ON,
BUCKET_REFILL_TICK of n ticks raises each duty, dwell and shaper bucket by n times its refill, at most to its capacity as the settings give it now,
and takes those limits as the ones in force; nothing else changes. While RADIO is not ON it changes nothing. (R69, R88, R90, R129, R240, R243, R272,
R273, R274) -/
def Obligations.RegionAndMask : Prop :=
  (∀ (s : State) (src : Src) (tid p : Byte) (v : BitVec 16) (m : List Byte),
    (Asks s src → s.role = 0 → p.toNat ≤ 5 →
      ∃ t, exec (.regionPlanWrite src tid p) s = .next t ∧ t.plan = p.toNat ∧ t.dU 0x2200 4 = planK p.toNat ∧ t.dU 0x2200 5 = planF0 p.toNat ∧
        (∀ n, n < 128 → maskBit t.wave.mask n = usable p.toNat n) ∧ t.wave.maskNext = none ∧ t.wave.test = s.wave.test ∧
        t.bkt.duty = .replicate 6 0 ∧ t.bkt.dwell = .replicate 128 0 ∧ t.bkt.shape = s.bkt.shape ∧
        (∀ k, k < 6 → t.dU 0x2300 (0x20 + k) = (dutyDefaults p.toNat).getD k 0) ∧ t.dU 0x2300 0x29 = 0 ∧ t.dU 0x2300 0x2A = 20000 ∧
        t.dU 0x2300 0x10 = 0 ∧ t.dU 0x2300 0x13 = 0 ∧ Spoke s t src (writeResp tid 0x2200 1 0) ∧
        { t with links := s.links, dict := s.dict, wave := s.wave, bkt := s.bkt } = s) ∧
    (Asks s src → s.role = 0 → v ≠ 0 →
      ∃ t, exec (.networkIdWrite src tid v) s = .next t ∧ t.dGet 0x2200 3 = leBytes 2 v.toNat ∧ OtherEntries s t 0x2200 3 ∧
        Spoke s t src (writeResp tid 0x2200 3 0) ∧ { t with links := s.links, dict := s.dict } = s) ∧
    (Asks s src → m.length = 16 →
      ((∀ n, n < 128 → maskBit m n = true → usable s.plan n = true) →
        ∃ t, exec (.channelMaskWrite src tid m) s = .next t ∧ t.wave = { s.wave with maskNext := some m } ∧ t.dGet 0x2200 2 = m ∧
          OtherEntries s t 0x2200 2 ∧ Spoke s t src (writeResp tid 0x2200 2 0) ∧ { t with links := s.links, dict := s.dict, wave := s.wave } = s) ∧
      ((∃ n, n < 128 ∧ maskBit m n = true ∧ usable s.plan n = false) →
        ∃ t, exec (.channelMaskWrite src tid m) s = .next t ∧ Refused s t src tid 0x2200 2 0x0E)) ∧
    (s.lnk.sending = [] →
      (s.wave.maskNext = none → exec .channelMaskApply s = .next s) ∧
      (s.wave.maskNext = some m →
        let w := { s.wave with mask := m, maskNext := none }
        (s.rf.pend = none → exec .channelMaskApply s = .next { s with wave := w }) ∧
        (∀ c k, s.rf.pend = some c → c.kind = 5 → s.txm.burst = [k] → (usable s.plan k.chan && maskBit m k.chan) = false →
          ∃ t, exec .channelMaskApply s = .next t ∧ t.wave = w ∧ t.rf = { s.rf with pend := none } ∧ t.txm = { s.txm with burst := [] } ∧
            t.regF (carStat k.num) 23 16 = 5 ∧ t.regB 0x40100020 6 = true ∧ { t with wave := s.wave, rf := s.rf, txm := s.txm, regs := s.regs } = s))) ∧
    (∀ (at_ : Bool) (x : BitVec 32), Asks s src → (if at_ then x.toNat < 2 ^ 28 else 1024000 ≤ x.toNat ∧ x.toNat ≤ 655360000) →
      let d := ((if at_ then x.toNat else s.dU 0x2000 3) + 2 ^ 28 - s.cycle) % 2 ^ 28
      let sub : Byte := if at_ then 3 else 2
      (0 < d ∧ d < 2 ^ 27 →
        ∃ t, exec (.netCycleWrite src tid at_ x) s = .next t ∧ t.ptb = { s.ptb with cyclePending := true } ∧ t.dGet 0x2000 sub.toNat = leBytes 4 x.toNat ∧
          OtherEntries s t 0x2000 sub.toNat ∧ Spoke s t src (writeResp tid 0x2000 sub 0) ∧ { t with links := s.links, dict := s.dict, ptb := s.ptb } = s) ∧
      (¬(0 < d ∧ d < 2 ^ 27) → ∃ t, exec (.netCycleWrite src tid at_ x) s = .next t ∧ Refused s t src tid 0x2000 sub 3))) ∧
  (∀ (s : State) (n : Nat),
    let win := s.dU 0x2300 0x28
    let dwin := s.dU 0x2300 0x2A
    let cap := fun (k : Fin 6) => s.dU 0x2300 (0x20 + k.1) * win * 50 * 65536
    let dcap := s.dU 0x2300 0x29 * 500 * 65536
    (s.isOn dRADIO = true →
      ∃ t, exec (.bucketRefillTick n) s = .next t ∧ { t with bkt := s.bkt } = s ∧ t.bkt.dwellLim = s.dU 0x2300 0x29 ∧
        (∀ k : Fin 6, vget t.bkt.duty k = min (cap k) (vget s.bkt.duty k + n * (cap k * 1024 / (1000 * max 1 (win * 1000)))) ∧
          vget t.bkt.dutyLim k = s.dU 0x2300 (0x20 + k.1)) ∧
        (∀ c : Fin 128, vget t.bkt.dwell c = min dcap (vget s.bkt.dwell c + n * (dcap * 1024 / (1000 * max 1 dwin)))) ∧
        (∀ i : Fin 20, vget t.bkt.shape i =
          min (s.dU 0x2404 (i.1 + 1) * 65536) (vget s.bkt.shape i + n * (s.dU 0x2403 (i.1 + 1) * 65536 * 1024 / 1000000)))) ∧
    (s.isOn dRADIO = false → exec (.bucketRefillTick n) s = .next s))

/-- The chip recurrence, the channel code, the interleaver, and the waveform tests that show them: Chip i + 15 of a seed is chip i + 1 XOR chip i,
and the first fifteen chips are the seed's bits from the lowest. A codeword begins with its 8Z information bits, has 8Z and Z for each parity block
sent at its rate, and the interleaver keeps every bit: in a string of 16 m bits, bit 16 j + k of the input is the output's bit j of the column k,
the columns following one another in the order of R113. A new TEST_REQUEST with input of the length its mode needs starts a test with the settings
as they stand and leaves output and status pending; with other input it ends at once with OUT_OF_RANGE and an empty output; while a test runs it
answers BUSY and changes nothing. WAVEFORM_TEST_DONE reports OK and the bytes of the interleaved payload codeword, of the header codeword, or of
1,024 chips, by mode. (R95, R103, R110, R112, R113, R116) -/
def Obligations.CodeAndTests : Prop :=
  (∀ (n r i : Nat), r < 2 ^ 15 → i < n →
    (chips n r).length = n ∧ (i < 15 → (chips n r)[i]? = some (r.testBit i)) ∧
    (∀ a b, i + 15 < n → (chips n r)[i]? = some a → (chips n r)[i + 1]? = some b → (chips n r)[i + 15]? = some (xor a b))) ∧
  (∀ (z rate : Nat) (u : List Bool), u.length = 8 * z →
    (codeword z rate u).take (8 * z) = u ∧ (codeword z rate u).length = (8 + parityBlocks rate) * z) ∧
  (∀ (c : List Bool) (m k j : Nat), c.length = 16 * m → k < 16 → j < m →
    (interleave c).length = c.length ∧ c.getD (16 * j + k) false = (interleave c).getD (columns.idxOf k * m + j) false) ∧
  (∀ (s : State) (src : Src) (tid : Byte) (v : BitVec 32),
    let b := leBytes 4 v.toNat
    let mode := s.dU 0x2200 0x10
    let n := (s.dGet 0x2200 0x14).length
    let fits := if mode = 0 then n = zOf (s.dU 0x2200 0x11) else if mode = 1 then n = 14 else True
    let only := fun (t : State) => { t with links := s.links, dict := s.dict, results := s.results, wave := s.wave } = s
    (Asks s src → b ≠ s.dGet 0x2200 0x15 →
      (s.wave.test = none → fits →
        ∃ t, exec (.waveformTestRequest src tid v) s = .next t ∧ t.dGet 0x2200 0x15 = b ∧ (t.resOf 0x2200 0x16).pending = true ∧
          (t.resOf 0x2200 0x17).pending = true ∧ Spoke s t src (writeResp tid 0x2200 0x15 0) ∧ only t ∧
          t.wave = { s.wave with test := some { mode := mode, z := s.dU 0x2200 0x11, rate := s.dU 0x2200 0x12, seed := s.dU 0x2200 0x13
                                                input := s.dGet 0x2200 0x14 } }) ∧
      (s.wave.test = none → ¬fits →
        ∃ t, exec (.waveformTestRequest src tid v) s = .next t ∧ t.dGet 0x2200 0x15 = b ∧ t.wave = s.wave ∧ t.dGet 0x2200 0x16 = [] ∧
          t.dGet 0x2200 0x17 = [0x0E] ∧ (t.resOf 0x2200 0x17).pending = false ∧ (t.resOf 0x2200 0x16).fresh = 0x7F ∧
          (t.resOf 0x2200 0x17).fresh = 0x7F ∧ Spoke s t src (writeResp tid 0x2200 0x15 0) ∧ only t) ∧
      (s.wave.test.isSome = true → ∃ t, exec (.waveformTestRequest src tid v) s = .next t ∧ Refused s t src tid 0x2200 0x15 1)) ∧
    (∀ x : WaveTest, s.wave.test = some x →
      let out := if x.mode = 0 then payloadCode x.z x.rate x.input else if x.mode = 1 then headerCode x.input else chips 1024 x.seed
      let len := if x.mode = 0 then out.length / 8 else if x.mode = 1 then 48 else 128
      ∃ t, exec .waveformTestDone s = .next t ∧ t.wave = { s.wave with test := none } ∧ t.dGet 0x2200 0x16 = bytesOfBits len out ∧
        t.dGet 0x2200 0x17 = [0] ∧ (t.resOf 0x2200 0x17).pending = false ∧ (t.resOf 0x2200 0x16).fresh = 0x7F ∧
        (t.resOf 0x2200 0x17).fresh = 0x7F ∧ { t with dict := s.dict, results := s.results, wave := s.wave } = s))


/-! ### The radio sequencer -/

namespace Sys2Proof.Machine

/-- The command that a word spells. -/
def RfSpelt (c : RfCmd) (k : Fin 6) (v : BitVec 32) : Prop :=
  c.kind = k ∧ c.chan = (v.extractLsb' 8 8).toNat ∧ c.ret.1 = (v.extractLsb' 4 2).toNat ∧ c.trig.1 = (v.extractLsb' 16 6).toNat

/-- The sequencer begins a command's transition. -/
def RfBegins (s t : State) (c : RfCmd) : Prop :=
  t.rf.cur = some c ∧ t.rf.moving = some c.kind ∧ t.rf.frame = false ∧ t.rf.st = s.rf.st

end Sys2Proof.Machine

/-- Commands of the radio sequencer: denied, armed, started, pending or refused: A TX command from firmware is refused with REFUSED_REGULATORY
whatever the domain's state; another command of a core sets DENIED while RADIO is ON; while RADIO is not ON a command changes nothing. From the link
controller, a command with a trigger is armed, or sets BUSY as the fifth; SLEEP, STANDBY, SYNTH_READY and RX at once start when the sequencer is
idle, and else become pending or set BUSY; ABORT drops the pending command and enters its auto-return; TX with no plan is refused with
REFUSED_REGULATORY and RX with OUT_OF_RANGE; CMD 6 and 7 set BADCMD. (R124, R125, R126, R128, R129, R145, R536) -/
def Obligations.SequencerCommands : Prop :=
  ∀ (s : State) (v : BitVec 32), s.lnk.sending = [] →
    let stat : Nat := 0x40100020
    let flags := fun (i : Instr) (b : Nat) => ∃ t, exec i s = .next t ∧ Flagged s t stat b
    let arms := fun (i : Instr) (k : Fin 6) => ∃ c, RfSpelt c k v ∧ exec i s = .next { s with rf := { s.rf with armed := s.rf.armed ++ [c] } }
    let starts := fun (i : Instr) (k : Fin 6) => ∃ t c, RfSpelt c k v ∧ exec i s = .next t ∧ RfBegins s t c ∧ t.rf.chan = (if s.wide then s.rf.chan else c.chan) ∧
      t.rf.armed = s.rf.armed ∧ { t with rf := s.rf } = s
    let waits := fun (i : Instr) (k : Fin 6) => ∃ c, RfSpelt c k v ∧ exec i s = .next { s with rf := { s.rf with pend := some c } }
    flags (.rfsTx false v) 6 ∧
    (s.isOn dRADIO = true → flags (.rfsAbort false v) 7 ∧ flags (.rfsSleep false v) 7 ∧ flags (.rfsStandby false v) 7 ∧
      flags (.rfsSynthReady false v) 7 ∧ flags (.rfsRx false v) 7 ∧ flags (.rfsBadCommand false v) 7) ∧
    (s.isOn dRADIO = false → ∀ l, exec (.rfsAbort l v) s = .next s ∧ exec (.rfsSleep l v) s = .next s ∧ exec (.rfsStandby l v) s = .next s ∧
      exec (.rfsSynthReady l v) s = .next s ∧ exec (.rfsRx l v) s = .next s ∧ exec (.rfsBadCommand l v) s = .next s ∧ exec (.rfsTx true v) s = .next s) ∧
    (s.isOn dRADIO = true → flags (.rfsBadCommand true v) 8) ∧
    (s.isOn dRADIO = true → s.plan = 0 → flags (.rfsTx true v) 6 ∧ flags (.rfsRx true v) 10) ∧
    (s.isOn dRADIO = true → s.txm.burst = [] → s.rf.st ≠ 4 →
      exec (.rfsAbort true v) s = .next { s with rf := { s.rf with
        pend := none, cur := none, frame := false, moving := some (if s.wide then 4 else Fin.ofNat 6 ((v.extractLsb' 4 2).toNat + 1)) } }) ∧
    (s.isOn dRADIO = true → v.getLsbD 23 = false → s.rf.armed.length < 4 →
      arms (.rfsSleep true v) 1 ∧ arms (.rfsStandby true v) 2 ∧ arms (.rfsSynthReady true v) 3 ∧
      (rxRefused (rfWord (withCmd 4 v) s) s = false → arms (.rfsRx true v) 4) ∧ (txRefused (rfWord (withCmd 5 v) s) s = false → arms (.rfsTx true v) 5)) ∧
    (s.isOn dRADIO = true → v.getLsbD 23 = false → 4 ≤ s.rf.armed.length →
      flags (.rfsSleep true v) 1 ∧ flags (.rfsStandby true v) 1 ∧ flags (.rfsSynthReady true v) 1) ∧
    (s.isOn dRADIO = true → v.getLsbD 23 = true → s.rf.moving = none → s.rf.frame = false → s.rf.pend = none → s.rf.calBegun = false →
      starts (.rfsSleep true v) 1 ∧ starts (.rfsStandby true v) 2 ∧ starts (.rfsSynthReady true v) 3 ∧
      (rxRefused (rfWord (withCmd 4 v) s) s = false → starts (.rfsRx true v) 4)) ∧
    (s.isOn dRADIO = true → v.getLsbD 23 = true → s.rf.frame = true ∨ s.rf.moving.isSome = true →
      (s.rf.pend = none → waits (.rfsSleep true v) 1 ∧ waits (.rfsStandby true v) 2 ∧ waits (.rfsSynthReady true v) 3) ∧
      (s.rf.pend.isSome = true → flags (.rfsSleep true v) 1 ∧ flags (.rfsStandby true v) 1 ∧ flags (.rfsSynthReady true v) 1))

/-- Triggers, pending commands, transitions and the ends of frames: With nothing of the link controller on its way: RFS_TRIGGER starts the armed
command of its channel on an idle sequencer; PENDING_COMMAND_START starts the pending state change, or drops it as LATE with its flag, count and
auto-return when it starts later than LATEST; RF_TRANSITION_DONE enters the state, places the LO from SYNTH_READY up, completes a state change and
puts a burst on air. TX_FRAME_END and CARRIER_END of the last carrier end the burst with status OK and the auto-return; RX_WINDOW_CLOSE completes
RX; SYNTH_UNLOCK goes to STANDBY with UNLOCK; ANT_FAULT_TRIP above 0.8 sets ANT_FAULT and ends the burst. (R120, R122, R123, R126, R127, R140, R198)
-/
def Obligations.SequencerEvents : Prop :=
  ∀ (s : State) (ch : Fin 64) (c : RfCmd) (delay : Nat) (gamma : BitVec 32) (fb : Byte) (k : Carrier) (h : Nat) (rest : List Evt),
    s.lnk.sending = [] → s.isOn dRADIO = true →
    let home : Fin 6 := if s.wide then 4 else Fin.ofNat 6 (c.ret.1 + 1)
    let bursted := fun (t : State) => t.txm.burst = [] ∧ t.txm.onAir = false ∧ t.rf.frame = false ∧ t.rf.cur = none ∧ t.rf.moving = some home ∧
      t.tmr = s.tmr ∧ t.pcc = s.pcc ∧ t.rx = s.rx ∧ t.slu = s.slu
    (c.kind = 1 ∨ c.kind = 2 ∨ c.kind = 3 → s.rf.moving = none → s.rf.frame = false → s.rf.calBegun = false →
      (s.evf.rfsTrigs = { ch := ch, hop := h } :: rest → s.rf.pend = none → s.rf.armed = [c] → c.trig = ch →
        ∃ t, exec (.rfsTrigger ch) s = .next t ∧ RfBegins s t c ∧ t.rf.armed = [] ∧ t.evf = { s.evf with rfsTrigs := rest } ∧
          { t with rf := s.rf, evf := s.evf } = s) ∧
      (s.rf.pend = some c → c.latest = 0xFFFF ∨ delay ≤ c.latest →
        ∃ t, exec (.pendingCommandStart delay) s = .next t ∧ RfBegins s t c ∧ t.rf.pend = none ∧ { t with rf := s.rf } = s) ∧
      (s.rf.pend = some c → c.latest ≠ 0xFFFF → c.latest < delay →
        ∃ t, exec (.pendingCommandStart delay) s = .next t ∧ t.rf.pend = none ∧ t.rf.moving = some home ∧ t.regB 0x40100020 2 = true ∧
          t.regN 0x40100024 = min (s.regN 0x40100024 + 1) 0xFFFFFFFF ∧ { t with rf := s.rf, evf := s.evf, regs := s.regs, dict := s.dict } = s)) ∧
    (∀ x : Fin 6, s.rf.moving = some x → x ≠ 5 →
      ∃ t, exec .rfTransitionDone s = .next t ∧ t.rf.st = x ∧ t.rf.moving = none ∧ t.rf.locked = decide (3 ≤ x.1) ∧
        (3 ≤ x.1 → s.rf.chan < 256 → t.dU 0x2100 2 = s.loFor s.rf.chan ∧ t.regN 0x40100030 = s.loFor s.rf.chan) ∧
        (x.1 ≤ 3 → s.rf.cur = some c → c.kind = x → t.rf.cur = none ∧ t.regB 0x40100020 0 = true) ∧
        { t with rf := s.rf, evf := s.evf, regs := s.regs, dict := s.dict } = s) ∧
    (s.rf.moving = some 5 → s.txm.burst ≠ [] →
      ∃ t, exec .rfTransitionDone s = .next t ∧ t.rf.st = 5 ∧ t.rf.frame = true ∧ t.rf.moving = none ∧ t.txm = { s.txm with onAir := true } ∧
        { t with rf := s.rf, txm := s.txm, regs := s.regs, dict := s.dict } = s) ∧
    (s.rf.st = 5 → s.rf.frame = true → s.rf.cur = some c → s.rf.pend = none → s.txm.burst = [k] →
      (∃ t, exec (.txFrameEnd gamma fb) s = .next t ∧ bursted t ∧ t.regF (carStat k.num) 23 16 = 0) ∧
      (s.txm.onAir = true → ∃ t, exec (.carrierEnd k.num gamma fb) s = .next t ∧ bursted t ∧ t.regF (carStat k.num) 23 16 = 0) ∧
      (s.epa = false → gammaOver (gammaSq gamma) 800 = true →
        ∃ t, exec (.antFaultTrip gamma) s = .next t ∧ bursted t ∧ t.antFault = true ∧ t.regB 0x40100020 5 = true ∧
          t.regF (carStat k.num) 23 16 = (if s.txm.onAir then 5 else 3))) ∧
    (s.rf.st = 4 → s.rf.cur = some c → c.kind = 4 → c.window ≠ 0 → s.rf.frame = false → s.wide = false → s.rf.pend = none →
      ∃ t, exec .rxWindowClose s = .next t ∧ t.rf.cur = none ∧ t.rf.moving = some home ∧ t.regB 0x40100020 0 = true ∧
        { t with rf := s.rf, evf := s.evf, regs := s.regs } = s) ∧
    (s.rf.st = 4 ∨ s.rf.st = 5 →
      ∃ t, exec .synthUnlock s = .next t ∧ t.rf.moving = some 2 ∧ t.rf.locked = false ∧ t.rf.frame = false ∧ t.rf.cur = none ∧ t.regB 0x40100020 3 = true ∧
        t.tmr = s.tmr ∧ t.pcc = s.pcc)

/-- Calibration requests, steps and their automatic triggers; the antenna fault cleared: CAL_REQUEST adds the set of CAL_SET to what is still to run
and leaves CAL_STATUS pending, or ends with NOT_READY while RADIO is not ON. CAL_STEP at an idle moment begins the lowest calibration still to run,
or completes it, and with none left reports OK. A temperature more than 10.0 °C or a supply more than 300 mV from the last run adds bits 0 to 3, in
wideband mode bits 0 and 1. IMAGE_REJ_UPDATE in wideband RX moves gain by at most 0.05 dB and phase by at most 0.3 degrees. ANT_FAULT_CLEAR clears
ANT_FAULT. (R132, R133, R135, R137, R140, R145, R536) -/
def Obligations.RadioCalibration : Prop :=
  ∀ (s : State) (src : Src) (tid : Byte) (v r gamma : BitVec 32) (rej : BitVec 16) (gain phase : Int),
    (Asks s src → leBytes 4 v.toNat ≠ s.dGet 0x2100 0x11 →
      (s.isOn dRADIO = true → s.wide = false ∨ s.rf.st ≠ 4 → s.dU 0x2100 0x10 % 64 ≠ 0 →
        ∃ t, exec (.calRequest src tid v) s = .next t ∧ t.rf = { s.rf with calPend := s.rf.calPend ||| BitVec.ofNat 6 (s.dU 0x2100 0x10) } ∧
          (t.resOf 0x2100 0x12).pending = true ∧ t.dGet 0x2100 0x11 = leBytes 4 v.toNat ∧ Spoke s t src (writeResp tid 0x2100 0x11 0) ∧
          { t with links := s.links, dict := s.dict, results := s.results, regs := s.regs, rf := s.rf } = s) ∧
      (s.isOn dRADIO = false →
        ∃ t, exec (.calRequest src tid v) s = .next t ∧ t.rf = s.rf ∧ t.dGet 0x2100 0x12 = [2] ∧ (t.resOf 0x2100 0x12).pending = false ∧
          Spoke s t src (writeResp tid 0x2100 0x11 0) ∧ { t with links := s.links, dict := s.dict, results := s.results, regs := s.regs } = s)) ∧
    (∀ i : Nat, i < 5 → s.rf.calPend.getLsbD i = true → (∀ j, j < i → s.rf.calPend.getLsbD j = false) → s.isOn dRADIO = true → s.rf.pend = none →
      s.rf.moving = none → s.rf.st = 2 ∨ s.rf.st = 3 →
      exec (.calStep false r rej gamma) s = .next { s with rf := { s.rf with calBegun := true } } ∧
      (∃ t, exec (.calStep true r rej gamma) s = .next t ∧ t.rf.calPend = s.rf.calPend &&& ~~~(1#6 <<< i) ∧ t.rf.calBegun = false ∧
        (t.rf.calPend = 0 → t.dGet 0x2100 0x12 = [0] ∧ (t.resOf 0x2100 0x12).pending = false) ∧
        (i < 4 → t.rf.calTemp = s.dI 0x3600 0x33 ∧ t.rf.calSupply = s.pcc.vmain) ∧
        { t with rf := s.rf, regs := s.regs, dict := s.dict, results := s.results } = s)) ∧
    ((100 < (s.dI 0x3600 0x33 - s.rf.calTemp).natAbs ∨ 30 < ((s.pcc.vmain : Int) - s.rf.calSupply).natAbs) → s.isOn dRADIO = true →
      ∃ t, exec .calAutoTrigger s = .next t ∧ t.rf = { s.rf with calPend := s.rf.calPend ||| (if s.wide then 3 else 15) } ∧ { t with rf := s.rf, regs := s.regs } = s) ∧
    ((s.dI 0x3600 0x33 - s.rf.calTemp).natAbs ≤ 100 → ((s.pcc.vmain : Int) - s.rf.calSupply).natAbs ≤ 30 → exec .calAutoTrigger s = .next s) ∧
    (s.wide = true → s.rf.st = 4 → (vget s.kz.map 2).isSome = true → (vget s.kz.map 3).isSome = true →
      let g := signed 12 (s.regF 0x40100050 27 16)
      let p := signed 12 (s.regF 0x40100050 11 0)
      ∃ t, exec (.imageRejUpdate gain phase) s = .next t ∧ t.regF 0x40100050 27 16 = unsigned 12 (g + max (-5) (min 5 (gain - g))) ∧
        t.regF 0x40100050 11 0 = unsigned 12 (p + max (-30) (min 30 (phase - p))) ∧ { t with regs := s.regs, dict := s.dict } = s) ∧
    (s.wide = false ∨ s.rf.st ≠ 4 → exec (.imageRejUpdate gain phase) s = .next s) ∧
    (Asks s src →
      ∃ t, exec (.antFaultClear src tid) s = .next t ∧ t.antFault = false ∧ OtherEntries s t 0x2100 0x24 ∧ Spoke s t src (writeResp tid 0x2100 0x24 0) ∧
        { t with links := s.links, dict := s.dict } = s)


/-! ### The receiver -/

namespace Sys2Proof.Machine

/-- The receiver holds one frame, `f`, and logical lane `l` works on it. -/
def OneFrame (s : State) (l : Fin 32) (f : RxFrame) : Prop := s.rx.frames = [f] ∧ vget s.rx.lanes l = some f.id ∧ ∀ m, m ≠ l → vget s.rx.lanes m ≠ some f.id

/-- The lanes after `l` has been freed. -/
def Freed (s t : State) (l : Fin 32) : Prop := vget t.rx.lanes l = none ∧ ∀ m, m ≠ l → vget t.rx.lanes m = vget s.rx.lanes m

/-- Only the receiver, its counters and its entries have changed. -/
def OnlyReceiver (s t : State) : Prop := { t with rx := s.rx, regs := s.regs, dict := s.dict } = s

/-- A frame is complete: it waits for its report with an outcome. -/
def Completed (s t : State) (f : RxFrame) (outcome : Nat) : Prop :=
  t.rx.ready = s.rx.ready ++ [f.id] ∧ ∃ g, t.rx.frames = [g] ∧ g.id = f.id ∧ g.stage = .done ∧ g.outcome = outcome

end Sys2Proof.Machine

/-- From a preamble to the queued payload: detection, lanes, sync, header and demodulation: WIDEBAND_AGC_STEP lowers the gain a step when loud,
raises it one when quiet, and counts clipped samples. RECORD_GAP marks the gap and ends an overlapping replay with LOST. PREAMBLE_DETECTION in RX on
an open channel gives the frame the lowest free lane, or makes it a shadow candidate of a stronger frame that begins within 4 chips of it on the
same channel and SF; on a closed channel it does nothing. ALLOC_QUEUE_TIMEOUT spills or drops the queued detection, LANE_ASSIGN gives it a lane.
SYNC_CHECK leads to HEADER or frees the lane; HEADER_DEMODULATED queues the header codeword; HEADER_RESULT of a bad header drops the frame and
counts it, of a good one numbers the frame and finds S from SLOT_LOW; PAYLOAD_DEMODULATED queues the payload and frees the lane; REPLAY_LOST ends a
replay with LOST. (R98, R150, R153, R156, R158, R161, R162, R163, R164, R165, R167, R182) -/
def Obligations.ReceiverLanes : Prop :=
  ∀ (s : State) (l : Fin 32) (f : RxFrame) (loud quiet pass : Bool) (now clipped a b : Nat) (est : BitVec 40) (rssi snr freq endErr power noise : Int) (ch : BitVec 7)
    (m : Fin 6) (gain : Fin 6),
    let g := s.regN 0x4011000C
    let fresh := f.numbered = false ∧ s.wide = true
    (s.captureOn = true → g ≤ 5 →
      ∃ t, exec (.widebandAgcStep loud quiet 0 []) s = .next t ∧ t.regN 0x4011000C = (if loud then min 5 (g + 1) else if quiet then g - 1 else g) ∧
        t.dU 0x2200 0x3F = t.regN 0x4011000C ∧ { t with regs := s.regs, dict := s.dict } = s) ∧
    (s.captureOn = true → 0 < clipped →
      ∃ t, exec (.widebandAgcStep loud quiet clipped []) s = .next t ∧ t.regB 0x40110020 0 = true ∧
        t.regN 0x40110070 = min (s.regN 0x40110070 + clipped) 0xFFFFFFFF ∧ { t with regs := s.regs, dict := s.dict } = s) ∧
    (s.captureOn = false → exec (.widebandAgcStep loud quiet clipped []) s = .next s) ∧
    (s.captureOn = true → s.recordOn = true →
      (s.rx.frames = [] → ∃ t, exec (.recordGap a b) s = .next t ∧ t.rx = { s.rx with gaps := s.rx.gaps ++ [(a, b)] } ∧ t.regB 0x40110020 5 = true ∧
        { t with rx := s.rx, regs := s.regs } = s) ∧
      (OneFrame s l f → f.stage = .payload → f.replay = true → f.numbered = true → f.t0 ≤ b → a ≤ f.last →
        ∃ t, exec (.recordGap a b) s = .next t ∧ Completed s t f 5 ∧ Freed s t l ∧ OnlyReceiver s t)) ∧
    (s.channelOpen ch.toNat = true → freqOk ch.toNat freq s = true → liveSearch ch.toNat m.1 s = true →
      (s.wide = true → s.rx.frames = [] → s.freeLane = some l →
        ∃ t d, exec (.preambleDetection ch m a freq power snr noise gain none) s = .next t ∧ t.rx.frames = [d] ∧ d.id = s.rx.nextId ∧ d.chan = ch.toNat ∧
          d.m = m.1 ∧ d.t0 = a ∧ d.stage = .sync ∧ d.lane = l ∧ vget t.rx.lanes l = some d.id ∧ t.rx.nextId = s.rx.nextId + 1 ∧ OnlyReceiver s t) ∧
      (s.wide = true → OneFrame s l f → f.stage.onLane = true → f.chan = ch.toNat → f.m = m.1 → 8 < ((f.t0 : Int) - a).natAbs → ((f.t0 : Int) - a).natAbs ≤ 32 →
        power + 4 * (s.dU 0x2200 0x22 : Int) ≤ f.power →
        ∃ t d, exec (.preambleDetection ch m a freq power snr noise gain none) s = .next t ∧ t.rx.frames = [f, d] ∧ d.stage = .shadow ∧ d.under = some f.id ∧
          t.rx.lanes = s.rx.lanes ∧ OnlyReceiver s t) ∧
      (s.wide = false → s.rx.frames = [] → vget s.rx.lanes 0 = none →
        ∃ t d, exec (.preambleDetection ch m a freq power snr noise gain none) s = .next t ∧ t.rx.frames = [d] ∧ d.stage = .sync ∧ vget t.rx.lanes 0 = some d.id ∧
          t.rf = { s.rf with frame := true } ∧ t.regN 0x4011000C = gain.1 ∧ { t with rx := s.rx, rf := s.rf, regs := s.regs, dict := s.dict } = s)) ∧
    (s.channelOpen ch.toNat = false → exec (.preambleDetection ch m a freq power snr noise gain none) s = .next s) ∧
    (s.rx.frames = [f] → f.stage = .queued →
      (s.recordOn = true → s.dU 0x2200 0x26 = 1 →
        exec .allocQueueTimeout s = .next { s with rx := { s.rx with frames := [{ f with stage := .spilled }] } }) ∧
      (s.recordOn = false → ∃ t, exec .allocQueueTimeout s = .next t ∧ t.rx.frames = [] ∧ t.regB 0x40110020 2 = true ∧ OnlyReceiver s t) ∧
      (s.freeLane = some l → s.rx.gaps = [] →
        exec (.laneAssign now) s = .next { s with rx := { s.rx with
          frames := [{ f with stage := .sync, lane := l, replay := false }], lanes := vset s.rx.lanes l (some f.id) } })) ∧
    (OneFrame s l f →
      (f.stage = .sync → exec (.syncCheck l true) s = .next { s with rx := { s.rx with frames := [{ f with stage := .header }] } }) ∧
      (f.stage = .sync → fresh → ∃ t, exec (.syncCheck l false) s = .next t ∧ t.rx.frames = [] ∧ Freed s t l ∧
        t.regN 0x40110034 = min (s.regN 0x40110034 + 1) 0xFFFFFFFF ∧ { t with rx := s.rx, regs := s.regs } = s) ∧
      (f.stage = .header → exec (.headerDemodulated l) s = .next { s with rx := { s.rx with
        frames := [{ f with stage := .headerSent }], arrivals := s.rx.arrivals + 1
        queue := s.rx.queue ++ [{ frame := f.id, header := true, slot := 0, arrival := s.rx.arrivals }] } }) ∧
      (f.stage = .headerBack → f.hdr.length = 16 →
        (fresh → headerBad (s.dU 0x2200 3) f.hdr (beNat (f.hdr.drop 14)) = true →
          ∃ t, exec (.headerResult l est) s = .next t ∧ t.rx.frames = [] ∧ Freed s t l ∧ t.rx.frameNo = s.rx.frameNo ∧
            t.regN 0x4012A070 = min (s.regN 0x4012A070 + 1) 0xFFFFFFFF ∧ OnlyReceiver s t) ∧
        (f.numbered = false → headerBad (s.dU 0x2200 3) f.hdr (beNat (f.hdr.drop 14)) = false → 128 ≤ est.toNat → est.toNat < 2 ^ 40 - 128 →
          ∃ t d, exec (.headerResult l est) s = .next t ∧ t.rx.frames = [d] ∧ d.stage = .payload ∧ d.numbered = true ∧ d.number = s.rx.frameNo ∧
            t.rx.frameNo = s.rx.frameNo + 1 ∧ d.slot % 256 = hdrField f.hdr 60 8 ∧ est.toNat ≤ d.slot + 128 ∧ d.slot ≤ est.toNat + 127 ∧
            t.rx.lanes = s.rx.lanes ∧ { t with rx := s.rx, sec := s.sec, regs := s.regs } = s)) ∧
      (f.stage = .payload → s.wide = true →
        ∃ t d, exec (.payloadDemodulated l rssi snr freq endErr pass) s = .next t ∧ t.rx.frames = [d] ∧ d.stage = .decode ∧ d.power = rssi ∧ d.snr = snr ∧
          d.freq = freq ∧ d.endErr = endErr ∧ d.blanked = (f.blanked || pass) ∧ Freed s t l ∧
          t.rx.queue = s.rx.queue ++ [{ frame := f.id, header := false, slot := f.slot, arrival := s.rx.arrivals }] ∧ { t with rx := s.rx } = s) ∧
      (f.replay = true → f.numbered = true → f.stage.onLane = true → ∃ t, exec (.replayLost l) s = .next t ∧ Completed s t f 5 ∧ Freed s t l ∧ OnlyReceiver s t) ∧
      (f.replay = false → exec (.replayLost l) s = .next s))

/-- Decoding, checking, cancellation, reports and the receiver's spares: DECODE_START gives the lowest free engine a header before a payload, the
earlier S, then the earlier arrival. DECODE_DONE without convergence returns a failed header, or completes the frame with DECODE_FAIL; with it the
result goes to the checker. SYNDROME_CHECK_DONE passes a header back to its lane and completes a payload with its tag's outcome; a failed check
retires the engine, which a spare replaces, and queues the codeword again. REGEN_CHECK_WINDOW goes on or adds the window back with REGEN_POOR;
REGEN_DONE marks the frame cancelled. RECEPTION_REPORT writes the 64 bytes into the ring, or counts a report lost to a full ring. LANE_RETIRE,
SLICE_RETIRE and ENGINE_RETIRE put the first spare under the logical number. (R168, R169, R170, R172, R173, R177, R178, R186, R187) -/
def Obligations.ReceiverDecoding : Prop :=
  ∀ (s : State) (l : Fin 32) (e : Fin 4) (f : RxFrame) (x y : Codeword) (c : Check) (iter weak now : Nat) (bytes : List Byte) (us fall : Int) (residue : Bool),
    let next := (s.regN 0x4012A05C + 1) % s.ringSize
    let ring := s.regN 0x4012A050 + 64 * s.regN 0x4012A05C
    let up := fun (a : Nat) (t : State) => t.regN a = min (s.regN a + 1) 0xFFFFFFFF
    (s.engineServes e = true → vget s.rx.engines e = none → (∀ d, d < e → s.engineServes d = false ∨ (vget s.rx.engines d).isSome = true) →
      s.rx.queue = [x, y] → x.arrival < y.arrival →
      let first := x.header = true ∨ (y.header = false ∧ x.slot ≤ y.slot)
      (first → exec .decodeStart s = .next { s with rx := { s.rx with queue := [y], engines := vset s.rx.engines e (some x) } }) ∧
      (¬first → exec .decodeStart s = .next { s with rx := { s.rx with queue := [x], engines := vset s.rx.engines e (some y) } })) ∧
    (OneFrame s l f → vget s.rx.engines e = some x → x.frame = f.id →
      (x.header = true →
        (∃ t, exec (.decodeDone e false iter bytes weak) s = .next t ∧ t.rx.frames = [{ f with stage := .headerBack, hdr := [] }] ∧
          vget t.rx.engines e = none ∧ up 0x40130030 t ∧ up 0x40130034 t ∧ { t with rx := s.rx, regs := s.regs } = s) ∧
        (∃ t, exec (.decodeDone e true iter bytes weak) s = .next t ∧ t.rx.frames = [f] ∧ vget t.rx.engines e = none ∧ up 0x40130030 t ∧
          t.rx.checking = s.rx.checking ++ [{ engine := e, cw := x, bytes := bytes, iter := max 1 (min s.maxIter iter), weak := weak }] ∧
          { t with rx := s.rx, regs := s.regs } = s)) ∧
      (x.header = false → f.numbered = true → f.stage = .decode →
        ∃ t, exec (.decodeDone e false iter bytes weak) s = .next t ∧ Completed s t f 1 ∧ vget t.rx.engines e = none ∧ Freed s t l ∧ up 0x40130034 t ∧
          OnlyReceiver s t)) ∧
    (OneFrame s l f → s.rx.checking = [c] → c.engine = e → c.cw.frame = f.id →
      (c.cw.header = true → exec (.syndromeCheckDone e true us) s = .next { s with rx := { s.rx with
        checking := [], frames := [{ f with stage := .headerBack, hdr := c.bytes.take 16 }] } }) ∧
      (c.cw.header = false → f.numbered = true → f.stage = .checked →
        ∃ t, exec (.syndromeCheckDone e true us) s = .next t ∧ Completed s t f (tagOutcome f (tagSlot f s) s) ∧ Freed s t l ∧ t.rx.checking = [] ∧
          { t with rx := s.rx, regs := s.regs, dict := s.dict, lnk := s.lnk, cwy := s.cwy } = s) ∧
      (∀ p q rest, c.cw.header = true → s.hlt.roll = none → vget s.rx.engMap e = some p → s.rx.engSpare = q :: rest → vget s.rx.engines e = none →
        ∃ t, exec (.syndromeCheckDone e false us) s = .next t ∧ t.rx.checking = [] ∧ t.rx.queue = s.rx.queue ++ [c.cw] ∧ vget t.rx.engMap e = some q ∧
          t.rx.engSpare = rest ∧ t.rx.engRetired = p :: s.rx.engRetired ∧ t.regB 0x40130020 0 = true ∧ t.regB 0x40130020 1 = true)) ∧
    (s.rx.frames = [f] → f.lane = l → s.rx.regens = [f.id] → s.rx.checking = [] →
      (f.regen = .window → (s.dU 0x2200 0x25 : Int) ≤ fall → f.stage ≠ .shadow →
        exec (.regenCheckWindow l fall) s = .next { s with rx := { s.rx with
          frames := [{ f with regen := .subtract, research := s.dU 0x2200 0x23 == 1 }] } }) ∧
      (f.regen = .window → fall < (s.dU 0x2200 0x25 : Int) → f.stage ≠ .shadow →
        ∃ t, exec (.regenCheckWindow l fall) s = .next t ∧ t.rx = { s.rx with frames := [{ f with regen := .over, poor := true }], regens := [] } ∧
          up 0x4012A080 t ∧ OnlyReceiver s t) ∧
      (f.regen = .subtract →
        ∃ t, exec (.regenDone l) s = .next t ∧ t.rx = { s.rx with frames := [{ f with regen := .over, cancelled := true }], regens := [] } ∧
          up 0x4012A07C t ∧ { t with rx := s.rx, regs := s.regs } = s)) ∧
    (s.rx.frames = [f] → s.rx.ready = [f.id] → f.beneath = [] → f.regen = .none → f.research = false → f.under = none →
      (next ≠ s.regN 0x4012A060 % s.ringSize →
        ∃ t, exec .receptionReport s = .next t ∧ t.rx.ready = [] ∧ t.rx.frames = [] ∧ t.regN 0x4012A05C = next ∧ t.rdBytes ring 64 = report f s ∧
          (report f s).length = 64 ∧
          (∀ a, (a < ring ∨ ring + 64 ≤ a) → (a < s.regN 0x4012A054 + 256 * s.regN 0x4012A05C ∨ s.regN 0x4012A054 + 256 * s.regN 0x4012A05C + f.block.length ≤ a) →
            t.rd8 a = s.rd8 a)) ∧
      (next = s.regN 0x4012A060 % s.ringSize →
        ∃ t, exec .receptionReport s = .next t ∧ t.rx.ready = [] ∧ t.rx.frames = [] ∧ up 0x4012A084 t ∧ OnlyReceiver s t)) ∧
    (s.hlt.roll = none →
      (∀ p q rest, vget s.rx.laneMap l = some p → s.rx.laneSpare = q :: rest → vget s.rx.lanes l = none →
        ∃ t, exec (.laneRetire l residue false now) s = .next t ∧ vget t.rx.laneMap l = some q ∧ (∀ m, m ≠ l → vget t.rx.laneMap m = vget s.rx.laneMap m) ∧
          t.rx.laneSpare = rest ∧ t.rx.laneRetired = p :: s.rx.laneRetired ∧ t.rx.frames = s.rx.frames) ∧
      (∀ p q rest, vget s.rx.sliceMap l = some p → s.rx.sliceSpare = q :: rest →
        ∃ t, exec (.sliceRetire l) s = .next t ∧ vget t.rx.sliceMap l = some q ∧ (∀ m, m ≠ l → vget t.rx.sliceMap m = vget s.rx.sliceMap m) ∧
          t.rx.sliceSpare = rest ∧ t.rx.sliceRetired = p :: s.rx.sliceRetired ∧ (s.recordOn = true → { slice := l, phys := q.1 } ∈ t.rx.searching)) ∧
      (∀ p q rest, vget s.rx.engMap e = some p → s.rx.engSpare = q :: rest →
        ∃ t, exec (.engineRetire e) s = .next t ∧ vget t.rx.engMap e = some q ∧ (∀ m, m ≠ e → vget t.rx.engMap m = vget s.rx.engMap m) ∧
          t.rx.engSpare = rest ∧ vget t.rx.engines e = none ∧ t.regB 0x40130020 1 = true)) ∧
    exec (.spareSearchDone l) s = .next { s with rx := { s.rx with searching := s.rx.searching.filter (fun z => z.slice != l) } }

/-! ### The transmitter -/

/-- Grants of the transmitter, and pre-distortion from its window to its saved sets: GRANT_REQUEST with no external PA, no mismatch and nothing on
air grants the least of the power asked for and TX_MAX_POWER, for two carriers or more at most the band's ceiling, clamped to -20 to +20 dBm, with
its band; a core's request is ignored while the link controller's domain holds its registers. DPD_FEEDBACK_WINDOW of a pre-distorted burst starts a
fit. DPD_FIT_DONE with the level off changes no set; on one carrier it moves each coefficient toward the fit by 1 / DPD_MU (the rounding is the
model's, log entry 22); on more a pass raises the ceiling by 0.5 dB and a fail lowers it by 1 dB and restores the last good set. DPD_SAVE copies the
converged sets into DPD_COEF and begins the save; DPD_COEF_WRITE loads the sets of bands 1 to 3. (R199, R201, R204, R206, R207, R210, R211) -/
def Obligations.TransmitGrants : Prop :=
  ∀ (s : State) (src : Src) (tid : Byte) (v : BitVec 32) (lnk multi : Bool) (fit : List (BitVec 32)) (aclr : BitVec 16) (b : Fin 4) (d : List Byte),
    let p := min (signed 8 v.toNat) (s.dI 0x2200 0x40)
    let n := (v.extractLsb' 8 3).toNat + 1
    let band : Fin 4 := if p < 16 then 0 else if p < 28 then 1 else 2
    let capped := 2 ≤ n ∧ band ≠ 0 ∧ s.ceiling band < p
    (lnk = true ∨ s.owns dRADIO = false → s.epa = false → s.rf.mismatch = false → s.txm.onAir = false →
      ∃ t g, exec (.grantRequest lnk v) s = .next t ∧ t.txm = { s.txm with grant := some g } ∧ g.n = n ∧ g.band = band ∧
        g.power = max (-40) (min 40 (if capped then s.ceiling band else p)) ∧ { t with txm := s.txm, regs := s.regs } = s) ∧
    (s.owns dRADIO = true → exec (.grantRequest false v) s = .next s) ∧
    (predistorted s = some b → s.txm.onAir = true → s.dU 0x2200 0x47 = 1 →
      ∃ t, exec .dpdFeedbackWindow s = .next t ∧ t.txm = { s.txm with fit := some (b, decide (2 ≤ s.txm.count)) } ∧ t.regB 0x40140004 5 = true ∧
        { t with txm := s.txm, regs := s.regs } = s) ∧
    (predistorted s = none → exec .dpdFeedbackWindow s = .next s) ∧
    (s.txm.fit = some (b, multi) → b ≠ 3 →
      let done := fun (t : State) => t.txm.fit = none ∧ t.regB 0x40140004 5 = false ∧ { t with txm := s.txm, regs := s.regs, dict := s.dict } = s
      let same := fun (t : State) => ∀ i, i < 15 → t.reg (coefReg b i) = s.reg (coefReg b i)
      let moved := fun (t : State) => ∀ i, i < 15 → t.reg (coefReg b i) = adaptWord (muDiv s) (s.reg (coefReg b i)) (fit.getD i 0)
      (∃ t, exec (.dpdFitDone fit aclr true) s = .next t ∧ done t ∧ same t ∧ t.ceiling b = s.ceiling b) ∧
      (multi = false → ∃ t, exec (.dpdFitDone fit aclr false) s = .next t ∧ done t ∧ moved t ∧ t.ceiling b = s.ceiling b) ∧
      (multi = true → aclr.toInt ≤ -4 * (s.dU 0x2200 0x42 : Int) →
        ∃ t, exec (.dpdFitDone fit aclr false) s = .next t ∧ done t ∧ moved t ∧ t.ceiling b = min (bandMax s b) (s.ceiling b + 1) ∧
          t.regF (bandReg b) 9 8 = min 3 (s.regF (bandReg b) 9 8 + 1)) ∧
      (multi = true → -4 * (s.dU 0x2200 0x42 : Int) < aclr.toInt → -120 < aclr.toInt →
        ∃ t, exec (.dpdFitDone fit aclr false) s = .next t ∧ done t ∧ (∀ i, i < 15 → t.reg (coefReg b i) = (vget s.txm.lastGood b).getD i 0) ∧
          t.ceiling b = max (bandFloor s b) (s.ceiling b - 2) ∧ t.regF (bandReg b) 9 8 = 0 ∧ t.regB (bandReg b) 31 = false)) ∧
    (Asks s src → leBytes 4 v.toNat ≠ s.dGet 0x2200 0x46 → s.links.saving = false → (s.dGet 0x2200 0x45).length = 256 →
      ∃ t, exec (.dpdSave src tid v) s = .next t ∧ t.links.saving = true ∧ (t.resOf 0x1100 4).pending = true ∧ t.dGet 0x2200 0x46 = leBytes 4 v.toNat ∧
        (∀ c : Fin 4, ((t.dGet 0x2200 0x45).drop (64 * c.1)).take 64 =
          if s.regB (bandReg c) 31 then bandBytes c s else ((s.dGet 0x2200 0x45).drop (64 * c.1)).take 64) ∧
        Spoke s t src (writeResp tid 0x2200 0x46 0) ∧ { t with links := s.links, dict := s.dict, results := s.results } = s) ∧
    (Asks s src → s.role = 0 → d.length = 256 →
      ∃ t, exec (.dpdCoefWrite src tid d) s = .next t ∧ t.dGet 0x2200 0x45 = d ∧ t.ceiling 1 = 27 ∧ t.ceiling 2 = 40 ∧ t.ceiling 0 = s.ceiling 0 ∧
        (∀ c : Fin 4, c ≠ 0 → ∀ i, i < 15 → t.reg (coefReg c i) = BitVec.ofNat 32 (leNat ((d.drop (64 * c.1 + 4 * i)).take 4))) ∧
        (∀ i, i < 15 → t.reg (coefReg 0 i) = s.reg (coefReg 0 i)) ∧ Spoke s t src (writeResp tid 0x2200 0x45 0) ∧
        { t with links := s.links, dict := s.dict, regs := s.regs } = s)

/-! ### The link controller -/

namespace Sys2Proof.Machine

/-- A beacon waits to be taken, alone; it announces no activation, and no restored key change or deferred activation waits for it. -/
def PlainBeacon (s : State) (f : MeshFrame) : Prop :=
  s.lnk.heard = [f] ∧ (beaconFields f).act = false ∧ s.sec.asleep = false ∧ s.actArmed = false ∧ (s.role = 1 ∨ s.role = 2)

/-- What an accepted beacon leaves at a node: SYNCED, its fields, its start as the last sync point, and PD1 moved by the phase error. -/
def BeaconTaken (s t : State) (f : MeshFrame) (err : Int) : Prop :=
  t.lnk.sync = .synced ∧ t.lnk.beacon = beaconFields f ∧ t.lnk.syncSlot = some (beaconStart f) ∧ t.lnk.heard = [] ∧
  t.dU 0x2300 0x0C = (if (beaconFields f).epoch = s.lnk.epoch then 0 else 1) ∧
  (-(2 ^ 31) < err → err < 2 ^ 31 → ((vget t.ptb.pd 1).units : Int) = ((vget s.ptb.pd 1).units + err) % 2 ^ 60)

/-- The link controller may transmit on a channel with so much airtime: nothing of it is on its way, a plan and the channel allow it, no refusal by
LBT, the antenna, the buckets or a full sequencer, and no external PA. -/
def MayLaunch (s : State) (chan air : Nat) : Prop :=
  s.mayTx = true ∧ s.txm.onAir = false ∧ s.rf.armed.length < 4 ∧ s.plan ≠ 0 ∧ s.antFault = false ∧ (s.wide = true ∨ s.channelOpen chan = true) ∧
  chan < 256 ∧ bucketsAllow chan air s = true ∧ s.dU 0x2300 0x10 ≠ 1 ∧ s.epa = false

/-- One carrier is committed: its tokens are taken, and a TX command waits for comparator `m` at a position of PD1 in phase units. -/
def Launched (s t : State) (m : Fin 16) (units : Nat) (c : LnkCarrier) : Prop :=
  t.lnk.sending = [c] ∧ t.bkt = (bucketsTake c.chan c.air s).bkt ∧
  (∃ r, t.rf = { s.rf with armed := s.rf.armed ++ [r] } ∧ r.kind = 5 ∧ r.chan = c.chan ∧ r.trig.1 = 44 + m.1) ∧
  (vget t.ptb.cmp m).target = BitVec.ofNat 32 units ∧ (vget t.ptb.cmp m).cycle = BitVec.ofNat 28 (units / 2 ^ 32) ∧
  { t with lnk := s.lnk, bkt := s.bkt, rf := s.rf, ptb := s.ptb, regs := s.regs, sec := s.sec, txm := s.txm } = s

end Sys2Proof.Machine

/-- The states of the link controller: CATCH, LOST, DORMANT and back to SYNCED: ENTER_CATCH, ENTER_LOST and ENTER_DORMANT move from the states and
on the conditions of R236 and show the new state in LINK_STATE, LINK_STATUS and LNK_SYNC; ENTER_LOST stores the slot and owes the lost-sync message.
BEACON_MISS counts and after SEEK_BEACONS misses turns once to ALT_CH; ANCHOR_PERIOD_END and DORMANT_LISTEN count a period and turn to the other
channel, and in another state each does nothing. BEACON_ACCEPT in SYNCED or CATCH and ANCHOR_ACCEPT in LOST or DORMANT take the beacon, step PD1 by
its error and end SYNCED; an anchor's sender becomes the parent and an owed lost-sync message is queued for it. (R233, R236, R237, R244, R245) -/
def Obligations.LinkSynchronisation : Prop :=
  ∀ (s : State) (f : MeshFrame) (err : Int),
    let others := fun (t : State) => { t with lnk := s.lnk, regs := s.regs, dict := s.dict, links := s.links, evf := s.evf } = s
    let shown := fun (t : State) (n : Nat) => t.dU 0x2300 1 = n ∧ t.regF 0x40150004 2 0 = n
    let turned := if s.altSet then !s.lnk.alt else false
    let missed := min (s.lnk.missed + 1) 255
    (s.lnk.sync = .synced → s.guardWide = true → s.guardLost = false →
      ∃ t, exec .enterCatch s = .next t ∧ t.lnk = { s.lnk with sync := .catch, missed := 0 } ∧ shown t 2 ∧ t.dGet 0x2300 0x0D = [2] ∧ t.evf = s.evf ∧ others t) ∧
    (s.lnk.sync ≠ .synced → exec .enterCatch s = .next s) ∧
    (s.lnk.sync = .catch →
      ∃ t, exec .beaconMiss s = .next t ∧ t.dU 0x2300 0x37 = min (s.dU 0x2300 0x37 + 1) 0xFFFFFFFF ∧ t.dU 0x2300 1 = 2 ∧ t.evf = s.evf ∧ others t ∧
        t.lnk = (if max 1 (s.dU 0x2300 4) ≤ missed ∧ s.lnk.alt = false ∧ s.altSet = true then { s.lnk with alt := true, missed := 0 }
          else { s.lnk with missed := missed })) ∧
    (s.lnk.sync ≠ .catch → exec .beaconMiss s = .next s) ∧
    (s.lnk.sync = .synced ∨ s.lnk.sync = .catch →
      s.guardLost = true ∨ (s.lnk.sync = .catch ∧ max 1 (s.dU 0x2300 4) ≤ s.lnk.missed ∧ (s.lnk.alt = true ∨ s.altSet = false)) →
      ∃ t, exec .enterLost s = .next t ∧
        t.lnk = { s.lnk with sync := .lost, missed := 0, alt := false, lostSlot := s.absSlot, lostPeriods := 0, lostOwed := true } ∧ shown t 3 ∧
        t.dGet 0x2300 0x0D = [0x0C] ∧ t.dU 0x2300 0x0A = s.absSlot ∧ t.regB 0x40150020 3 = true ∧ others t) ∧
    (s.lnk.sync = .lost →
      ∃ t, exec .anchorPeriodEnd s = .next t ∧ shown t 3 ∧ t.evf = s.evf ∧ t.links = s.links ∧ others t ∧
        t.lnk = { s.lnk with missed := missed, lostPeriods := min (s.lnk.lostPeriods + 1) 0xFFFF, alt := turned }) ∧
    (s.lnk.sync ≠ .lost → exec .anchorPeriodEnd s = .next s ∧ exec .enterDormant s = .next s) ∧
    (s.lnk.sync = .lost → max 1 (s.dU 0x2300 5) ≤ s.lnk.missed →
      ∃ t, exec .enterDormant s = .next t ∧ t.lnk = { s.lnk with sync := .dormant, missed := 0 } ∧ shown t 4 ∧ t.dGet 0x2300 0x0D = [0x0C] ∧ others t) ∧
    (s.lnk.sync = .dormant →
      ∃ t, exec .dormantListen s = .next t ∧ shown t 4 ∧ t.evf = s.evf ∧ t.links = s.links ∧ others t ∧
        t.lnk = { s.lnk with missed := missed, lostPeriods := min (s.lnk.lostPeriods + max 1 (s.dU 0x2300 6)) 0xFFFF, alt := turned }) ∧
    (s.lnk.sync ≠ .dormant → exec .dormantListen s = .next s) ∧
    (PlainBeacon s f → s.lnk.sync = .synced ∨ s.lnk.sync = .catch → acceptable s f = true →
      ∃ t, exec (.beaconAccept err) s = .next t ∧ BeaconTaken s t f err ∧
        (s.lnk.sync = .catch → shown t 1 ∧ t.dGet 0x2300 0x0D = [0] ∧ t.regB 0x40150020 4 = true) ∧
        { t with lnk := s.lnk, regs := s.regs, dict := s.dict, links := s.links, evf := s.evf, ptb := s.ptb } = s) ∧
    (PlainBeacon s f → s.lnk.sync = .lost ∨ s.lnk.sync = .dormant → (Hdr.ofBytes f.hdr).type = 1 → beaconAnchor f = true →
      ∃ t, exec (.anchorAccept err) s = .next t ∧ BeaconTaken s t f err ∧ shown t 1 ∧ t.dGet 0x2300 0x0D = [0] ∧ t.regB 0x40150020 4 = true ∧
        t.parent = (Hdr.ofBytes f.hdr).tx ∧
        (s.lnk.lostOwed = false → { t with lnk := s.lnk, regs := s.regs, dict := s.dict, links := s.links, evf := s.evf, ptb := s.ptb } = s) ∧
        (s.lnk.lostOwed = true → s.freeSlot.isSome = true → s.qFull 1 = false →
          ∃ g, vget t.slu.queues 1 = vget s.slu.queues 1 ++ [g] ∧ g.node = (Hdr.ofBytes f.hdr).tx ∧ lhPort g.lh = 0 ∧
            g.payload = [1] ++ beBytes 5 s.lnk.lostSlot ++ beBytes 2 s.lnk.lostPeriods))

/-- The schedule, and the occurrences that send: SEND, BEACON_TX and the anchor beacon: SCHED_APPLY ends with LATE when its cycle has begun, with
OUT_OF_RANGE when the shadow breaks R215, and else arms the shadow; SCHED_SWITCH, its cycle begun, puts the armed table in force, a root's epoch one
higher, another role's as written. At a SYNCED leaf a SEND occurrence whose frame fits, with a key and tokens, commits that frame: it is the carrier
on its way, its tokens are taken, it waits for its acknowledgement when it asks for one, and TX starts so that the frame ends with the window.
BEACON_TX and ANCHOR_BEACON_TX of a root commit a beacon. An occurrence that loses the radio is counted as skipped and sends nothing. (R212, R214,
R215, R216, R217, R231, R234, R239, R244) -/
def Obligations.LinkTransmissions : Prop :=
  ∀ (s : State) (src : Src) (tid : Byte) (v : BitVec 32) (i : Fin 64) (lbt : Int) (f : QFrame) (rest : List QFrame) (a : SgApply),
    let w := s.sg i
    let stat := 0x4015040C + 16 * i.1
    let at_ := BitVec.ofNat 28 (s.dU 0x2312 2)
    let tab : Vector SgWord 64 := Vector.ofFn (fun j => s.shadow j)
    let st : Status := if begun s at_ then 3 else if scheduleOk tab s then 0 else 0x0E
    let applied := fun (t : State) => t.dGet 0x2312 4 = [st] ∧ (t.resOf 0x2312 4).pending = false ∧
      t.lnk = (if st = 0 then { s.lnk with apply := some { cycle := at_, epoch := BitVec.ofNat 16 (s.dU 0x2312 1), table := tab } } else s.lnk) ∧
      (st ≠ 0 → t.regB 0x40150020 9 = true)
    (s.isOn dRADIO = true → v.getLsbD 0 = true →
      ∃ t, exec (.schedApply none tid v) s = .next t ∧ applied t ∧
        { t with lnk := s.lnk, regs := s.regs, dict := s.dict, results := s.results } = s) ∧
    (Asks s src → leBytes 4 v.toNat ≠ s.dGet 0x2312 3 →
      ∃ t, exec (.schedApply (some src) tid v) s = .next t ∧ applied t ∧ t.dGet 0x2312 3 = (if st = 0 then leBytes 4 v.toNat else s.dGet 0x2312 3) ∧
        Spoke s t src (writeResp tid 0x2312 3 st) ∧
        { t with links := s.links, lnk := s.lnk, regs := s.regs, dict := s.dict, results := s.results } = s) ∧
    (s.lnk.apply = some a → begun s a.cycle = true →
      let e := if s.role = 3 then s.lnk.epoch + 1 else a.epoch
      ∃ t, exec .schedSwitch s = .next t ∧ t.lnk = { s.lnk with apply := none, table := a.table, epoch := e } ∧ t.regB 0x40150020 8 = true ∧
        t.regF 0x40150080 15 0 = e.toNat ∧ { t with lnk := s.lnk, regs := s.regs } = s) ∧
    (s.lnk.apply = none ∨ s.lnk.apply = some a ∧ begun s a.cycle = false → exec .schedSwitch s = .next s) ∧
    (let m := s.lnk.advM.getD w.m
     let start := w.next w.w s.absSlot
     let slot := start + w.w - 1
     w.type = 1 → s.role = 1 → s.mayTx = true → s.lnk.sync = .synced → s.lnk.wait = none → meetsAnchor start (start + w.slots - 1) = false →
      (∃ t, exec (.sendOccurrence i lbt true) s = .next t ∧ t.regB 0x40150020 6 = true ∧ t.regF stat 31 16 = (s.regF stat 31 16 + 1) % 65536 ∧
        t.regF stat 15 0 = s.regF stat 15 0 ∧ { t with regs := s.regs } = s) ∧
      (MayLaunch s w.chan (airCharge m f.zsel f.rate) → (∀ q, s.shaped q = false) → vget s.slu.queues 0 = f :: rest → s.lnk.lostOwed = false →
        f.fwd = false → w.retryOnly = false → airUs m f.zsel f.rate * 1000 ≤ w.w * s.tminNs → (s.txKey f.node).isSome = true →
        ∃ t, exec (.sendOccurrence i lbt false) s = .next t ∧ t.regF stat 15 0 = (s.regF stat 15 0 + 1) % 65536 ∧
          t.lnk = { s.lnk with sending := t.lnk.sending, blocks := t.lnk.blocks
                               wait := if f.ack then some { slot := slot, queue := 0, frame := f.id, ackM := w.ackM, chan := w.chan } else none } ∧
          Launched s t 13 (2 ^ 20 * (slot + 1) - s.unitsOf (airUs m f.zsel f.rate + 20))
            { num := 0, chan := w.chan, air := airCharge m f.zsel f.rate, queue := some 0, frame := f.id, ack := f.ack, slot := slot })) ∧
    (w.type = 3 → s.role = 3 → (s.txKey 0x3FFFF).isSome = true → MayLaunch s w.chan (airCharge w.m 1 1) →
      let start := w.next 1 s.absSlot
      let len := s.unitsOf (airUs w.m 1 1)
      let fin := 2 ^ 20 * (anchorAfter s.absSlot + 1) - len
      let carrier := fun (u : Nat) => ({ num := 0, chan := w.chan, air := airCharge w.m 1 1, slot := (u + len - 1) / 2 ^ 20 } : LnkCarrier)
      let kept := fun (t : State) => t.lnk = { s.lnk with sending := t.lnk.sending, blocks := t.lnk.blocks }
      (meetsAnchor start (start + spanSlots (airUs w.m 1 1) s.tminNs - 1) = false →
        (∃ t, exec (.beaconTx i lbt false) s = .next t ∧ kept t ∧ t.regF stat 15 0 = (s.regF stat 15 0 + 1) % 65536 ∧
          Launched s t 15 (2 ^ 20 * start - s.unitsOf 20) (carrier (2 ^ 20 * start))) ∧
        (∃ t, exec (.beaconTx i lbt true) s = .next t ∧ t.regB 0x40150020 6 = true ∧ t.regF stat 31 16 = (s.regF stat 31 16 + 1) % 65536 ∧
          { t with regs := s.regs } = s)) ∧
      ((∀ j, j < i → (s.sg j).type ≠ 3) →
        ∃ t, exec (.anchorBeaconTx lbt) s = .next t ∧ kept t ∧ Launched s t 15 (fin - s.unitsOf 20) (carrier fin)))

/-- A slot group from its window to its acknowledgements and downlinks, and a frame acknowledged or given up: SERVE_WINDOW_END opens the group of
the uplink window that closed last. ACK_SEAL seals it: with no frame in its set no carrier stands, with one frame whose channel has tokens one
carrier with the node's entry; older tag results go. GROUP_ACK_SEND on air counts the entries and marks the carrier sent. DOWNLINK_BURST commits the
frame queued for the carrier's PENDING node and ends the group; with none pending it only ends it. ACK_RECEIVE of the awaited acknowledgement
completes the frame and a SYNCED node takes it as a sync point; ACK_MISSED keeps the frame for another try, after RETRY_MAX gives it up, or renews a
traffic-class frame of queue 0 within its lifetime in the same store slot. (R213, R218, R219, R221, R225, R226, R228, R229, R233, R239, R256, R275)
-/
def Obligations.SlotGroups : Prop :=
  ∀ (s : State) (i : Fin 64) (slot : Nat) (lbt : List (Nat × Int)) (g : Group) (u : Tagged) (c : LnkCarrier) (e : AckEntry) (a : AckCarrier)
    (f : QFrame) (w : Outstanding) (m : MeshFrame) (q : Fin 20) (err : Int),
    let x := s.sg i
    let stat := 0x4015040C + 16 * i.1
    let alone := s.slu.queues = vset (.replicate 20 []) q [f]
    let freed := s.slu.used.filter (fun k => k != f.slot)
    (x.type = 2 → 2 ≤ s.role → s.lnkRuns = true → s.role ≠ 2 ∨ s.lnk.sync = .synced → x.lastEnd s.absSlot = some slot →
      meetsAnchor (slot + 1 - x.w) (slot + x.a + x.d) = false →
      ∃ t, exec (.serveWindowEnd i) s = .next t ∧ t.lnk = { s.lnk with group := some { entry := i, slot := slot } } ∧
        t.regF stat 15 0 = (s.regF stat 15 0 + 1) % 65536 ∧ { t with lnk := s.lnk, regs := s.regs } = s) ∧
    (s.lnk.group = some g → g.sealed = false →
      let after := fun (cs : List AckCarrier) => { s.lnk with
        group := some { g with sealed := true, carriers := cs }, sealedS := (g.slot :: s.lnk.sealedS).take 8
        tagged := s.lnk.tagged.filter (fun t => decide (g.slot < t.slot)) }
      (ackSet g.slot s = [] →
        ∃ t, exec (.ackSeal lbt) s = .next t ∧ t.lnk = after [] ∧ t.regB 0x40150020 0 = true ∧ { t with lnk := s.lnk, regs := s.regs } = s) ∧
      (ackSet g.slot s = [u] → (s.sg g.entry).d = 0 → s.arbitrated = true ∨ s.mayTx = false → s.role ≠ 4 → s.dU 0x2300 0x13 ≠ 1 →
        bucketsAllow u.chan (airCharge (s.sg g.entry).ackM 0 (s.sg g.entry).ackRate) s = true →
        ∃ t, exec (.ackSeal lbt) s = .next t ∧ t.lnk = after [{ chan := u.chan, entries := [ackEntry u s], snr := u.snr }] ∧
          t.bkt = (bucketsTake u.chan (airCharge (s.sg g.entry).ackM 0 (s.sg g.entry).ackRate) s).bkt ∧ t.regB 0x40150020 0 = true ∧
          { t with lnk := s.lnk, regs := s.regs, bkt := s.bkt } = s)) ∧
    (s.lnk.group = some g → g.carriers = [a] → s.lnk.sending = [c] → c.entries = [e] → c.chan = a.chan → e.nextM = 7 → e.adj = 0 → s.txm.onAir = true →
      (∃ k ∈ s.txm.burst, k.num = c.num) →
      ∃ t, exec .groupAckSend s = .next t ∧ t.regN 0x40150040 = min (s.regN 0x40150040 + 1) 0xFFFFFFFF ∧
        t.lnk = { s.lnk with group := some { g with carriers := [{ a with sent := true }] }, sending := [{ c with left := true }] } ∧
        { t with lnk := s.lnk, regs := s.regs, dict := s.dict } = s) ∧
    (s.lnk.group = some g → s.mayTx = true → (∀ j, s.shaped j = false) →
      ((∀ b ∈ g.carriers, b.sent = true → ∀ y ∈ b.entries, y.pending = false) →
        exec (.downlinkBurst lbt) s = .next { s with lnk := { s.lnk with group := none } }) ∧
      (let y := s.sg g.entry
       let z := zFor f.payload.length
       let start := 2 ^ 20 * (g.slot + y.a + 1)
       g.carriers = [a] → a.sent = true → a.entries = [e] → e.pending = true → e.node = f.node → vget s.slu.queues 0 = [f] → f.fwd = false →
        MayLaunch s a.chan (airCharge y.ackM z y.ackRate) → (s.txKey f.node).isSome = true → s.lnk.wait = none →
        airUs y.ackM z y.ackRate * 1000 ≤ y.d * s.tminNs →
        ∃ t, exec (.downlinkBurst lbt) s = .next t ∧
          t.lnk = { s.lnk with group := none, sending := t.lnk.sending, blocks := t.lnk.blocks } ∧
          Launched s t 15 (start - s.unitsOf 20)
            { num := 0, chan := a.chan, air := airCharge y.ackM z y.ackRate, queue := some 0, frame := f.id, ack := false
              slot := (start + s.unitsOf (airUs y.ackM z y.ackRate) - 1) / 2 ^ 20 })) ∧
    (s.lnk.wait = some w → w.frame = f.id → alone →
      (s.lnk.heard = [m] → ackFor w s.ackWindow s.ownNode m = true →
        ∃ t, exec (.ackReceive err) s = .next t ∧ t.lnk.wait = none ∧ t.lnk.heard = [] ∧ t.slu.queues = .replicate 20 [] ∧ t.slu.used = freed ∧
          (s.lnk.sync = .synced → t.lnk.syncSlot = some (w.slot + 1)) ∧ t.tmr = s.tmr ∧ t.pcc = s.pcc) ∧
      (f.sends ≤ s.dU 0x2300 8 → exec .ackMissed s = .next { s with lnk := { s.lnk with wait := none } }) ∧
      (s.dU 0x2300 8 < f.sends → q ≠ 0 →
        ∃ t, exec .ackMissed s = .next t ∧ t.lnk = { s.lnk with wait := none } ∧ t.slu.queues = .replicate 20 [] ∧ t.slu.used = freed ∧
          t.regN 0x40150050 = min (s.regN 0x40150050 + 1) 0xFFFFFFFF ∧ t.tmr = s.tmr ∧ t.pcc = s.pcc) ∧
      (s.dU 0x2300 8 < f.sends → q = 0 → f.fwd = false → (s.cycle + 2 ^ 28 - f.born) % 2 ^ 28 < s.dU 0x2400 0x0A →
        ∃ t h, exec .ackMissed s = .next t ∧ t.lnk = { s.lnk with wait := none, seq := s.lnk.seq + 1 } ∧ t.slu.queues = vset (.replicate 20 []) 0 [h] ∧
          h.slot = f.slot ∧ h.node = f.node ∧ h.payload = f.payload ∧ h.sends = 0 ∧ lhField h.lh 0 16 = (s.lnk.seq + 1).toNat ∧
          t.slu.used = freed ++ [f.slot]))

/-! ### Causeway, Sluice and the roster -/

namespace Sys2Proof.Machine

/-- A record lies apart from the roster's index. -/
def RecordApart (s : State) (k : Nat) : Prop := s.recAddr k + 192 ≤ s.indexBase ∨ s.indexBase + 0x100000 ≤ s.recAddr k

end Sys2Proof.Machine

/-- What a relay does with a frame, and frames put into the queues: In a relay with Causeway running, RELAY_DECISION of the oldest waiting frame and
PEER_FRAME_RECEIVE deliver a frame for the own node, count one with no route, one of a DROP entry and one out of hops, and forward one of a DOWN
entry into its queue with HOPS lowered, addressed to the next hop, or hold it back from the acknowledgement set when the queue is full or the store
has no slot; with Causeway off a frame for another node is dropped. SLU_ALLOC_READ takes the least free store slot. SLU_ENQ puts the frame of the
slot behind its queue, or leaves OUT_OF_RANGE, NO_ROUTE or BUSY in SLU_ENQ_RESULT. (R246, R250, R262, R263, R264, R268, R276, R278, R279) -/
def Obligations.RelayAndQueues : Prop :=
  ∀ (s : State) (hdr lh payload : List Byte) (slot : Nat) (m : Fin 6) (g : MeshFrame) (rest : List MeshFrame) (r : Route) (v : BitVec 32) (k : Nat),
    let counted := fun (u t : State) (a sub : Nat) => t.regN a = min (u.regN a + 1) 0xFFFFFFFF ∧ t.dU 0x2400 sub = min (u.dU 0x2400 sub + 1) 0xFFFFFFFF ∧
      { t with regs := u.regs, dict := u.dict } = u
    let decided := fun (c : Instr) (u : State) (f : MeshFrame) =>
      let dest := lhDest f.lh
      let q : Fin 20 := Fin.ofNat 20 r.queue
      let held := fun (t : State) => t.lnk = { u.lnk with tagged := u.lnk.tagged.map (fun t => if t.id = f.id then { t with held := true } else t) } ∧
        t.regN 0x4016006C = min (u.regN 0x4016006C + 1) 0xFFFFFFFF ∧ { t with lnk := u.lnk, regs := u.regs, dict := u.dict } = u
      (dest = u.ownNode → exec c s = .next { u with cwy := { u.cwy with inbox := if lhPort f.lh = 1 then u.cwy.inbox ++ [f] else u.cwy.inbox } }) ∧
      (dest ≠ u.ownNode → dest ≠ 0x3FFFF → u.isOn dCWY = false → exec c s = .next u) ∧
      (dest ≠ u.ownNode → dest ≠ 0x3FFFF → u.isOn dCWY = true →
        (lookup dest u.routes = none → ∃ t, exec c s = .next t ∧ counted u t 0x40160064 0x11) ∧
        (lookup dest u.routes = some r →
          (r.action = 5 → ∃ t, exec c s = .next t ∧ counted u t 0x40160078 0x15) ∧
          (r.action = 2 → lhHops f.lh = 0 → ∃ t, exec c s = .next t ∧ counted u t 0x40160068 0x12) ∧
          (r.action = 2 → lhHops f.lh ≠ 0 →
            (u.freeSlot = some k → u.qFull q = false →
              ∃ t h, exec c s = .next t ∧ t.slu.queues = vset u.slu.queues q (vget u.slu.queues q ++ [h]) ∧ t.slu.used = u.slu.used ++ [k] ∧
                h.node = r.next ∧ h.fwd = true ∧ h.slot = k ∧ h.lh = lhHop f.lh ∧ h.payload = f.payload ∧
                { t with slu := u.slu, regs := u.regs, dict := u.dict, mem := u.mem, kz := u.kz } = u) ∧
            (u.freeSlot = none ∨ u.qFull q = true → ∃ t, exec c s = .next t ∧ held t))))
    (s.role = 2 →
      (s.cwy.todo = g :: rest → s.isOn dCWY = false ∨ s.regB 0x40160000 1 = true →
        decided .relayDecision { s with cwy := { s.cwy with todo := rest } } g) ∧
      decided (.peerFrameReceive hdr lh payload slot m) s { hdr := hdr, lh := lh, payload := payload, slot := slot, m := m.1 }) ∧
    (s.freeSlot = some k → exec .sluAllocRead s = .next { s with slu := { s.slu with used := s.slu.used ++ [k] } }) ∧
    (s.freeSlot = none → exec .sluAllocRead s = .next s) ∧
    (let store := s.regN 0x40170034
     let own := s.regF 0x40170038 17 0
     let dest := lhDest (s.rdBytes (s.storeAddr store) 8)
     let node := if v.getLsbD 6 then routedNode dest s else some own
     let fails := fun (st : Nat) => ∃ t, exec (.sluEnq v) s = .next t ∧ t.regN 0x40170040 = st ∧ { t with regs := s.regs } = s
     (enqOk v.toNat store own s = false → fails 0x0E) ∧
     (enqOk v.toNat store own s = true → (node = none → fails 7) ∧
       (∀ n, node = some n →
         let q : Fin 20 := Fin.ofNat 20 (if v.getLsbD 6 then routedQueue n (field v.toNat 4 0) s else field v.toNat 4 0)
         (s.qFull q = true → fails 1) ∧
         (s.qFull q = false → ∃ t h, exec (.sluEnq v) s = .next t ∧ t.regN 0x40170040 = 0 ∧
           t.slu.queues = vset s.slu.queues q (vget s.slu.queues q ++ [h]) ∧ t.slu.used = s.slu.used ∧
           h = { enqFrame v.toNat store n s with id := s.slu.nextId, finish := h.finish } ∧
           { t with slu := s.slu, regs := s.regs, mem := s.mem, kz := s.kz } = s))))

/-- Route tables from commit to switch, and the roster's records: ROUTE_COMMIT copies the shadow table and begins a build, or is BUSY;
ROUTE_BUILD_DONE ends it with OK or with the first entry that breaks R249; ROUTE_TABLE_SWITCH puts a built table in force. OP_REQUEST begins ADD or
REMOVE over a range of the roster or is refused; ROSTER_OP_DONE adds a node's record with its defaults or removes it and reports how many.
RESTORE_REQUEST replaces a record by the image but for its downlink group. ROSTER_LIVE_UPDATE of a delivered frame stores its slot, channel and SF
in the sender's record and counts it, of a frame with a failed tag counts that. (R249, R251, R252, R253, R255, R257, R258, R259, R279) -/
def Obligations.TablesAndRecords : Prop :=
  ∀ (s : State) (src : Src) (tid : Byte) (v : BitVec 32) (tb : List (Nat × List Byte)) (i k n : Nat) (b : List Byte) (f : MeshFrame) (rest : List MeshFrame),
    let area := s.tableAt shadowBase
    let begins := fun (t : State) => t.cwy = { s.cwy with build := some area } ∧ (t.resOf 0x2400 3).pending = true ∧ t.regB 0x40160010 8 = true
    let mems := fun (t : State) => { t with cwy := { t.cwy with live := s.cwy.live, op := s.cwy.op, built := s.cwy.built }
                                            regs := s.regs, dict := s.dict, results := s.results, links := s.links, mem := s.mem, kz := s.kz } = s
    (s.isOn dCWY = true → v.getLsbD 0 = true →
      (s.cwy.build = none → ∃ t, exec (.routeCommit none tid v) s = .next t ∧ begins t ∧ { t with cwy := s.cwy, regs := s.regs, results := s.results } = s) ∧
      (s.cwy.build = some tb → ∃ t, exec (.routeCommit none tid v) s = .next t ∧ t.dGet 0x2400 3 = [1] ∧ { t with dict := s.dict, results := s.results } = s)) ∧
    (Asks s src → leBytes 4 v.toNat ≠ s.dGet 0x2400 2 → s.cwy.build = none →
      ∃ t, exec (.routeCommit (some src) tid v) s = .next t ∧ begins t ∧ t.dGet 0x2400 2 = leBytes 4 v.toNat ∧ Spoke s t src (writeResp tid 0x2400 2 0) ∧
        { t with cwy := s.cwy, regs := s.regs, results := s.results, links := s.links, dict := s.dict } = s) ∧
    (s.cwy.build = some tb →
      (failingEntry s.bigRole (routesOf tb) = some i → i < 65536 →
        ∃ t, exec .routeBuildDone s = .next t ∧ t.cwy = { s.cwy with build := none } ∧ t.dGet 0x2400 3 = [0x0E] ∧ t.dU 0x2400 4 = i ∧
          t.regB 0x40160020 1 = true ∧ { t with cwy := s.cwy, regs := s.regs, dict := s.dict, results := s.results } = s) ∧
      (failingEntry s.bigRole (routesOf tb) = none →
        ∃ t, exec .routeBuildDone s = .next t ∧ t.cwy = { s.cwy with build := none, built := some tb } ∧ t.dGet 0x2400 3 = [0] ∧
          { t with cwy := s.cwy, regs := s.regs, dict := s.dict, results := s.results } = s)) ∧
    (s.cwy.built = some [(i, b)] → b.length = 16 → i < 12000 →
      ∃ t, exec .routeTableSwitch s = .next t ∧ t.cwy.built = none ∧ t.rdBytes (forceBase + 16 * i) 16 = b ∧ t.regB 0x40160020 0 = true ∧
        t.dU 0x2400 5 = (routesOf [(i, b)]).length ∧
        (∀ a, a < forceBase + 16 * i ∨ forceBase + 16 * i + 16 ≤ a →
          Memory.read t.mem.cells a = if forceBase ≤ a ∧ a < forceBase + 192000 then 0 else Memory.read s.mem.cells a) ∧ mems t) ∧
    (Asks s src → leBytes 4 v.toNat ≠ s.dGet 0x2500 8 → s.cwy.op = none →
      let lo := s.dU 0x2500 6
      let hi := s.dU 0x2500 7
      let after := fun (t : State) => { t with links := s.links, results := s.results, dict := s.dict, cwy := { t.cwy with op := none } } = s
      (s.rosterOn = false → ∃ t, exec (.rosterOpRequest src tid v) s = .next t ∧ t.dGet 0x2500 9 = [2] ∧ Spoke s t src (writeResp tid 0x2500 8 2) ∧ after t ∧
        t.cwy = s.cwy) ∧
      (s.rosterOn = true → s.rosterRange lo = false ∨ s.rosterRange hi = false →
        ∃ t, exec (.rosterOpRequest src tid v) s = .next t ∧ t.dGet 0x2500 9 = [0x0E] ∧ t.dU 0x2500 0x0A = 0 ∧ Spoke s t src (writeResp tid 0x2500 8 0) ∧
          after t ∧ t.cwy = s.cwy) ∧
      (s.rosterOn = true → s.rosterRange lo = true → s.rosterRange hi = true →
        ∃ t, exec (.rosterOpRequest src tid v) s = .next t ∧ (t.resOf 0x2500 9).pending = true ∧ Spoke s t src (writeResp tid 0x2500 8 0) ∧ after t ∧
          t.cwy.op = some { remove := s.dU 0x2500 5 == 2, lo := lo, hi := hi })) ∧
    (s.rosterOn = true → nodeNumber n = true →
      let ends := fun (t : State) (d : Nat) => t.cwy.op = none ∧ t.dGet 0x2500 9 = [0] ∧ t.dU 0x2500 0x0A = d ∧ t.regB 0x40160020 8 = true ∧ mems t
      (s.cwy.op = some { remove := false, lo := n, hi := n } →
        (s.recordOf n = some k → ∃ t, exec .rosterOpDone s = .next t ∧ ends t 0 ∧ t.mem = s.mem) ∧
        (s.recordOf n = none → s.slotsUsed.length < s.dU 0x2500 1 → leastFree s.slotsUsed (s.slotsUsed.length + 1) 0 = some k → k < 2 ^ 18 →
          RecordApart s k → ∃ t, exec .rosterOpDone s = .next t ∧ ends t 1 ∧ t.recordOf n = some k ∧ t.rdBytes (s.recAddr k) 192 = newRecord n ∧
            t.dU 0x2500 4 = (s.slotsUsed.length + 1) % 2 ^ 32)) ∧
      (s.cwy.op = some { remove := true, lo := n, hi := n } → s.recordOf n = some k → s.queued.filter (fun f => f.node == n) = [] →
        ∃ t, exec .rosterOpDone s = .next t ∧ ends t 1 ∧ t.recordOf n = none ∧ t.dU 0x2500 4 = (s.dU 0x2500 4 - 1) % 2 ^ 32) ∧
      (s.cwy.live = f :: rest → (Hdr.ofBytes f.hdr).tx = n →
        let live := fun (t : State) => t.cwy = { s.cwy with live := rest } ∧ mems t
        (s.recordOf n = none → exec .rosterLiveUpdate s = .next { s with cwy := { s.cwy with live := rest } }) ∧
        (s.recordOf n = some k → s.recPoisoned k = false → f.outcome = 0 ∨ f.outcome = 4 →
          ∃ t, exec .rosterLiveUpdate s = .next t ∧ live t ∧ t.recGet k 0x20 8 = f.slot % 2 ^ 64 ∧ t.recGet k 0x28 4 = (s.recGet k 0x28 4 + 1) % 2 ^ 32 ∧
            t.recGet k 0x2C 4 = s.recGet k 0x2C 4 ∧ t.recGet k 0x3A 1 = f.chan % 256 ∧ t.recGet k 0x3B 1 = f.m % 256) ∧
        (s.recordOf n = some k → s.recPoisoned k = false → f.outcome = 2 ∨ f.outcome = 3 ∨ f.outcome = 7 →
          ∃ t, exec .rosterLiveUpdate s = .next t ∧ live t ∧ t.recGet k 0x2C 4 = (s.recGet k 0x2C 4 + 1) % 2 ^ 32 ∧
            ∀ o, o < 0x2C ∨ 0x30 ≤ o → t.recGet k o 1 = s.recGet k o 1))) ∧
    (Asks s src → leBytes 4 v.toNat ≠ s.dGet 0x2500 0x12 → n = s.dU 0x2500 0x10 → s.rosterOn = true →
      let img := s.dGet 0x2500 0x11
      (img.length = 192 → leNat (img.take 4) % 2 ^ 18 = n → s.recordOf n = none →
        ∃ t, exec (.restoreRequest src tid v) s = .next t ∧ t.dGet 0x2500 0x13 = [0x10] ∧ Spoke s t src (writeResp tid 0x2500 0x12 0) ∧ t.mem = s.mem ∧ mems t) ∧
      (img.length = 192 → leNat (img.take 4) % 2 ^ 18 = n → s.recordOf n = some k → RecordApart s k →
        ∃ t, exec (.restoreRequest src tid v) s = .next t ∧ t.dGet 0x2500 0x13 = [0] ∧ Spoke s t src (writeResp tid 0x2500 0x12 0) ∧ mems t ∧
          ∀ o, 4 ≤ o → o < 192 → o < 0x70 ∨ 0x80 ≤ o → t.rdBytes (s.recAddr k + o) 1 = [img.getD o 0]))

/-! ### Security -/

namespace Sys2Proof.Machine

/-- Nothing has changed but keys and epochs, what registers and entries show of them, and the answer to a host. -/
def OnlyKeys (s t : State) : Prop :=
  { t with sec := { t.sec with slots := s.sec.slots, ep := s.sec.ep, area := s.sec.area, keyTaken := s.sec.keyTaken, netTaken := s.sec.netTaken }
           regs := s.regs, dict := s.dict, results := s.results, links := s.links } = s

/-- Only OTP bits are burnt, and a link has its answer. -/
def OnlyOtp (s t : State) : Prop := { t with sec := { t.sec with otp := s.sec.otp }, links := s.links } = s

/-- The slot of a group in the third that is `w` steps after the current one, by the rotation of `s`. -/
def thirdSlot (s t : State) (g : Fin 4) (w : Nat) : KeySlot := vget t.sec.slots (keyIdx s g w)

/-- A violation counted, with the page and the master that made it; nothing else changes. -/
def Violated (s t : State) (reg info : Nat) : Prop :=
  t.regF reg 31 16 = min (s.regF reg 31 16 + 1) 0xFFFF ∧ t.regF reg 15 0 = info ∧ t.dU 0x3000 0x40 = min (s.dU 0x3000 0x40 + 1) 0xFFFFFFFF ∧
  { t with regs := s.regs, dict := s.dict } = s

end Sys2Proof.Machine

/-- Keys, epochs and their change, and the one-time words: KEY_WRITE puts a key into the next slot of its group or a firmware slot;
KEY_CHANGE_REQUEST arms a change or is refused with OUT_OF_RANGE, NOT_READY or LATE; KEY_ROTATION makes next current, current previous, and erases
the former previous; PREVIOUS_EPOCH_ERASE erases the previous third. KEY_NEXT_WRITE at a leaf and NET_NEXT_WRITE at a relay load the unwrapped keys
and arm the change. KEY_ERASE empties slots 0 to 14; KS_LOAD and KS_ERASE act for core 4. WRAP_REQUEST leaves the image and its status. OTP_PROGRAM
burns bits that never go back; a customer key hash, its revocation, a rollback level and the debug lock burn theirs or are refused. (R283, R284,
R288, R289, R290, R294, R296, R298, R310, R312, R314, R315) -/
def Obligations.KeyStore : Prop :=
  ∀ (s : State) (src : Src) (tid : Byte) (x : BitVec 32) (v : List Byte) (sub : Fin 7) (m : Master) (e : BitVec 16) (c : BitVec 28) (own : List Byte)
    (i : Fin 1024) (k : Fin 4) (got : BitVec 32) (b : Bool) (n : Byte),
    let e1 := BitVec.ofNat 16 (s.dU 0x3000 4)
    let c1 := BitVec.ofNat 28 (s.dU 0x3000 5)
    let flags := (v.getD 6 0).toNat
    let ev := BitVec.ofNat 16 (leNat (v.take 2))
    let cv := transportCycle (BitVec.ofNat 28 (leNat ((v.drop 2).take 4))) s
    let fresh := fun (key : List Byte) (net : Bool) => ({ key := key, mask := 0xFF, valid := true, aes256 := key.length == 32, deriveOnly := net } : KeySlot)
    let stored := fun (t : State) => ∃ a, t.sec.area = some a ∧ a.epochs = t.sec.ep ∧ ∀ j : Fin 15, vget a.slots j = vget t.sec.slots (Fin.ofNat 16 j.1)
    let slotted := fun (t : State) (j : Fin 16) (q : KeySlot) => t.sec.slots = vset s.sec.slots j q ∧ t.sec.ep = s.sec.ep ∧ stored t ∧ OnlyKeys s t
    let index : BitVec 16 := 0x3000
    let entry := BitVec.ofNat 8 (0x10 + sub.1)
    (Asks s src → s.core4 = true → v.length = 16 ∨ v.length = 32 →
      (sub.1 < 4 → keyEntryRole (0x10 + sub.1) s = true → v.length = s.keyBytes →
        ∃ t, exec (.keyWrite src tid sub v) s = .next t ∧ slotted t (keyIdx s (Fin.ofNat 4 sub.1) 2) (fresh v (sub.1 == 0)) ∧
          Spoke s t src (writeResp tid index entry 0)) ∧
      (4 ≤ sub.1 → ∃ t, exec (.keyWrite src tid sub v) s = .next t ∧ Spoke s t src (writeResp tid index entry 0) ∧
        slotted t (Fin.ofNat 16 (8 + sub.1)) { fresh v false with mask := BitVec.ofNat 8 (s.dU 0x3000 0x17 / 2 ^ (8 * (sub.1 - 4))) }) ∧
      (keyEntryRole (0x10 + sub.1) s = false → ∃ t, exec (.keyWrite src tid sub v) s = .next t ∧ Refused s t src tid index entry 0x11)) ∧
    (Asks s src → leBytes 4 x.toNat ≠ s.dGet 0x3000 6 →
      let ok := epochOk e1 (s.role != 1 && s.hasKey 0 2) s
      (s.role ≠ 3 → ok = true → keysReady s = true → s.sec.ep.cur.isSome = true → begun s c1 = false →
        ∃ t, exec (.keyChangeRequest src tid x) s = .next t ∧ t.sec.ep = { s.sec.ep with next := some e1, at_ := some c1 } ∧ t.sec.slots = s.sec.slots ∧
          stored t ∧ t.dGet 0x3000 7 = [0] ∧ Spoke s t src (writeResp tid index 6 0) ∧ OnlyKeys s t) ∧
      (∀ st : Status, (ok = false ∧ st = 0x0E) ∨ (ok = true ∧ keysReady s = false ∧ st = 2) ∨
          (ok = true ∧ keysReady s = true ∧ s.sec.ep.cur.isSome = true ∧ begun s c1 = true ∧ st = 3) →
        ∃ t, exec (.keyChangeRequest src tid x) s = .next t ∧ t.dGet 0x3000 7 = [st] ∧ Spoke s t src (writeResp tid index 6 st) ∧ t.sec = s.sec ∧ OnlyKeys s t)) ∧
    (s.sec.ep.at_ = some c → s.sec.ep.next = some e → begun s c = true → s.sec.asleep = false →
      let grace := c + BitVec.ofNat 28 (s.dU 0x3000 8)
      s.sec.ep.cur = none ∨ begun s grace = false → s.hasKey 0 2 = true ∨ s.hasKey 0 0 = false →
      ∃ t, exec .keyRotation s = .next t ∧ t.sec.ep.cur = some e ∧ t.sec.ep.prev = s.sec.ep.cur ∧ t.sec.ep.next = none ∧ t.sec.ep.at_ = none ∧
        t.sec.ep.eraseAt = (if s.sec.ep.cur.isSome then some grace else none) ∧ stored t ∧ OnlyKeys s t ∧
        (∀ g, thirdSlot t t g 0 = thirdSlot s s g 2 ∧ thirdSlot t t g 1 = thirdSlot s s g 0 ∧ thirdSlot t t g 2 = {})) ∧
    (s.sec.ep.at_ = none → exec .keyRotation s = .next s) ∧
    (s.sec.ep.eraseAt = some c → begun s c = true → s.sec.asleep = false →
      ∃ t, exec .previousEpochErase s = .next t ∧ t.sec.ep = { s.sec.ep with prev := none, eraseAt := none } ∧ stored t ∧ OnlyKeys s t ∧
        (∀ g, thirdSlot s t g 1 = {} ∧ thirdSlot s t g 0 = thirdSlot s s g 0 ∧ thirdSlot s t g 2 = thirdSlot s s g 2)) ∧
    (s.sec.ep.eraseAt = none → exec .previousEpochErase s = .next s) ∧
    (Asks s src → s.role = 1 → s.keyOf 2 1 0 = some own → v.length = 103 → v ≠ s.sec.keyTaken → field flags 6 0 = 7 → bit flags 7 = (s.keyBytes == 32) →
      epochOk ev false s = true → s.sec.ep.cur.isSome = true →
      ∃ t, exec (.keyNextWrite src tid v) s = .next t ∧ t.sec.keyTaken = v ∧ t.dGet 0x3000 7 = [0] ∧ Spoke s t src (writeResp tid 0x1010 1 0) ∧ stored t ∧
        OnlyKeys s t ∧ t.sec.ep = { s.sec.ep with next := some ev, at_ := some cv } ∧
        (∀ j, j < 3 → thirdSlot s t (Fin.ofNat 4 (j + 1)) 2 =
          fresh (xorBytes ((v.drop (7 + 32 * j)).take s.keyBytes) (wrapMask own s.ownNode ev j)) false)) ∧
    (Asks s src → s.role = 2 → s.nodeKey 2 s.ownNode 0 = some own → v.length = 39 → v ≠ s.sec.netTaken → field flags 6 0 = 1 →
      bit flags 7 = (s.keyBytes == 32) → epochOk ev true s = true → s.sec.ep.cur.isSome = true →
      ∃ t, exec (.netNextWrite src tid v) s = .next t ∧ t.sec.netTaken = v ∧ t.dGet 0x3000 7 = [0] ∧ Spoke s t src (writeResp tid 0x1010 2 0) ∧ stored t ∧
        OnlyKeys s t ∧ t.sec.ep = { s.sec.ep with next := some ev, at_ := some cv } ∧
        thirdSlot s t 0 2 = fresh (xorBytes ((v.drop 7).take s.keyBytes) (wrapMask own s.ownNode ev 3)) true) ∧
    (Asks s src → s.role ≠ 1 → v.length = 103 → ∃ t, exec (.keyNextWrite src tid v) s = .next t ∧ Refused s t src tid 0x1010 1 0x11) ∧
    (Asks s src → s.role ≠ 2 → v.length = 39 → ∃ t, exec (.netNextWrite src tid v) s = .next t ∧ Refused s t src tid 0x1010 2 0x11) ∧
    (Asks s src → leBytes 4 x.toNat ≠ s.dGet 0x3000 0x21 →
      let out := if s.bigRole then wrapImage 2 (s.dU 0x3000 0x24 == 1) (s.dU 0x3000 0x20) s else (2, [])
      ∃ t, exec (.wrapRequest src tid x) s = .next t ∧ t.dGet 0x3000 0x22 = out.2 ∧ t.dGet 0x3000 0x23 = [out.1] ∧ t.sec = s.sec ∧
        Spoke s t src (writeResp tid index 0x21 0) ∧ OnlyKeys s t) ∧
    (Asks s src → s.role = 0 → leBytes 4 x.toNat ≠ s.dGet 0x3000 9 →
      ∃ t, exec (.keyErase src tid x) s = .next t ∧ (∀ j : Fin 16, vget t.sec.slots j = if j = 15 then vget s.sec.slots j else {}) ∧ t.sec.ep = {} ∧
        t.sec.area = none ∧ t.dU 0x3000 2 = 0 ∧ t.dU 0x3000 3 = 0 ∧ t.pcc = s.pcc ∧ t.kz = s.kz ∧ t.mem = s.mem ∧ Spoke s t src (writeResp tid index 9 0)) ∧
    (s.isOn dSEC = true →
      (masterId m = 4 → x.toNat % 16 ≠ 15 → x.getLsbD 4 = true →
        ∃ t, exec (.ksLoad m x) s = .next t ∧ slotted t (Fin.ofNat 16 (x.toNat % 16))
          { key := (s.sec.stage.toList.flatMap (fun w => leBytes 4 w.toNat)).take 32, mask := BitVec.ofNat 8 (x.toNat / 256), valid := true, aes256 := true
            deriveOnly := x.getLsbD 5 }) ∧
      (masterId m = 4 → ∃ t, exec (.ksErase m x) s = .next t ∧ t.sec.ep = s.sec.ep ∧ stored t ∧ OnlyKeys s t ∧
        ∀ j : Fin 16, vget t.sec.slots j = if j ≠ 15 ∧ x.getLsbD j.1 then {} else vget s.sec.slots j) ∧
      (masterId m ≠ 4 → (∃ t, exec (.ksLoad m x) s = .next t ∧ Violated s t 0x40084890 (4 + 256 * masterId m)) ∧
        (∃ t, exec (.ksErase m x) s = .next t ∧ Violated s t 0x40084890 (4 + 256 * masterId m)))) ∧
    (s.otpSupply = true → s.core4 = true →
      (∃ t, exec (.otpProgram i x got) s = .next t ∧ t.otpWord i.1 = s.otpWord i.1 ||| (x &&& got) ∧ (∀ j, j ≠ i.1 → t.otpWord j = s.otpWord j) ∧
        { t with sec := { t.sec with otp := s.sec.otp } } = s) ∧
      (Asks s src →
        (v.length = 48 → s.custProgrammed k.1 = false → (∀ j, j < 12 → s.otpWord (0x20 + 12 * k.1 + j) = 0) →
          ∃ t, exec (.custKeyHashWrite src tid k v 0xFFFFFFFF) s = .next t ∧ t.custHash k.1 = v ∧ t.custProgrammed k.1 = true ∧ OnlyOtp s t ∧
            Spoke s t src (writeResp tid 0x3001 (BitVec.ofNat 8 (k.1 + 1)) 0)) ∧
        (n.toNat < 16 → (∀ j, j < 4 → s.custRevoked j = true → n.getLsbD j = true) →
          (∃ j, j < 4 ∧ s.custProgrammed j = true ∧ s.custRevoked j = false ∧ n.getLsbD j = false) →
          ∃ t, exec (.custKeyRevoke src tid n 0xFFFFFFFF) s = .next t ∧ (∀ j, j < 4 → t.custRevoked j = n.getLsbD j) ∧
            (∀ j, j < 4 → t.custProgrammed j = s.custProgrammed j) ∧ OnlyOtp s t ∧ Spoke s t src (writeResp tid 0x3001 5 0)) ∧
        (s.rollbackMin k.1 < n.toNat → n.toNat ≤ 64 → leNat (s.otpBytes (0x150 + 8 * k.1) 8) = 2 ^ s.rollbackMin k.1 - 1 →
          ∃ t, exec (.rollbackMinWrite src tid k n 0xFFFFFFFF) s = .next t ∧ t.rollbackMin k.1 = n.toNat ∧ OnlyOtp s t ∧
            Spoke s t src (writeResp tid 0x3002 (BitVec.ofNat 8 (k.1 + 1)) 0)) ∧
        (∃ t, exec (.debugLockWrite src tid true 0xFFFFFFFF) s = .next t ∧ t.debugLock = true ∧ OnlyOtp s t ∧ Spoke s t src (writeResp tid 0x3003 1 0)))) ∧
    (s.otpSupply = false → exec (.otpProgram i x got) s = .next s) ∧
    (Asks s src →
      (s.custProgrammed k.1 = true → v.length = 48 → v ≠ s.custHash k.1 →
        ∃ t, exec (.custKeyHashWrite src tid k v got) s = .next t ∧ Refused s t src tid 0x3001 (BitVec.ofNat 8 (k.1 + 1)) 0x0E) ∧
      (n.toNat < 16 → ∀ j, j < 4 → s.custRevoked j = true → n.getLsbD j = false →
        ∃ t, exec (.custKeyRevoke src tid n got) s = .next t ∧ Refused s t src tid 0x3001 5 0x0E) ∧
      (n.toNat < s.rollbackMin k.1 →
        ∃ t, exec (.rollbackMinWrite src tid k n got) s = .next t ∧ Refused s t src tid 0x3002 (BitVec.ofNat 8 (k.1 + 1)) 9) ∧
      (s.debugLock = true → ∃ t, exec (.debugLockWrite src tid false got) s = .next t ∧ Refused s t src tid 0x3003 1 0x0E) ∧
      (b = s.debugLock → ∃ t, exec (.debugLockWrite src tid b got) s = .next t ∧
        Spoke s t src (writeResp tid 0x3003 1 0) ∧ t.sec = s.sec))

/-- Jobs of the CMAC engine and the public-key engine, attestation and the security tests: A command of a page by another master than its owner only
counts a violation. By its owner ABORT ends a job, another command while a job runs is BUSY, GEN and VERIFY begin a job on the page's key, WRAP on
pages 2 to 4 a job with the transport image and elsewhere DENIED, TEST a job with the page key. CMC_BLOCK_DONE moves the running job by one block,
or an urgent job; CMC_JOB_DONE of a finished job leaves its MAC, the comparison's status or the image in memory. The hash unit takes, continues and
ends a message; VERIFY and SIGN join the point unit's queue and end with their status. ATT_REQUEST and TEST_REQUEST begin a report and a test, whose
ends leave the signed report and the output. (R300, R301, R302, R303, R306, R307, R317, R318, R320, R322) -/
def Obligations.CryptoEngines : Prop :=
  ∀ (s : State) (src : Src) (tid : Byte) (v : BitVec 32) (m : Master) (p : Fin 8) (j : CmcJob) (k : List Byte) (st : Status) (u : Urgent) (rest : List PointJob)
    (fin : Bool) (nonce : List Byte) (test : SecTest),
    let b := page p
    let addr := s.regN (b + 0x10)
    let len := s.regF (b + 0x14) 23 0
    let blocks := cmacBlocks len
    let frame := fun (t : State) => { t with sec := { t.sec with jobs := s.sec.jobs, turn := s.sec.turn, turnCnt := s.sec.turnCnt }, regs := s.regs } = s
    let begins := fun (i : Instr) (q : CmcJob) => ∃ t, exec i s = .next t ∧ t.sec.jobs = vset s.sec.jobs p (some q) ∧ t.regN (b + 4) = 0x100 ∧
      t.regN (b + 0x64) = 0 ∧ frame t
    let ends := fun (t : State) (x : Status) => t.sec.jobs = vset s.sec.jobs p none ∧ t.regN (b + 4) = 0x400 + x.toNat
    let refused := fun (i : Instr) (x : Status) => ∃ t, exec i s = .next t ∧ ends t x ∧ frame t
    let macIs := fun (t : State) (mac : List Byte) => ∀ n, n < 4 → t.regN (b + 0x20 + 4 * n) = beNat (mac.take 16) / 2 ^ (32 * n) % 2 ^ 32
    let hashing := fun (t : State) (msg : List Byte) (f : Bool) => t.sec = { s.sec with hashMsg := msg, hashRun := some f } ∧ t.regN 0x40090004 = 0x100 ∧
      { t with sec := s.sec, regs := s.regs } = s
    let joins := fun (i : Instr) (q : PointJob) (a : Nat) => ∃ t, exec i s = .next t ∧ t.sec = { s.sec with points := s.sec.points ++ [q] } ∧
      t.regN a = (if s.sec.points = [] then 0x100 else 0x500) ∧ { t with sec := s.sec, regs := s.regs } = s
    let cmds : List Instr := [.cmcAbort m p, .cmcGen m p, .cmcVerify m p, .cmcWrap m p, .cmcTest m p]
    (s.isOn dSEC = true → ownsPage m p = false → ∀ i ∈ cmds, ∃ t, exec i s = .next t ∧ Violated s t 0x40084890 (p.1 + 256 * masterId m)) ∧
    (s.isOn dSEC = false → ∀ i ∈ cmds, exec i s = .next s) ∧
    (s.isOn dSEC = true → ownsPage m p = true →
      (vget s.sec.jobs p = none → exec (.cmcAbort m p) s = .next s) ∧
      (vget s.sec.jobs p = some j → refused (.cmcAbort m p) 0x14 ∧
        ∀ i ∈ cmds.tail, ∃ t, exec i s = .next t ∧ t.regF (b + 4) 7 0 = 1 ∧ { t with regs := s.regs } = s) ∧
      (vget s.sec.jobs p = none →
        (pageJobKey p s = .ok k → messageOk addr len s = true →
          begins (.cmcGen m p) { cmd := 1, key := k, addr := addr, len := len, total := blocks } ∧
          begins (.cmcVerify m p) { cmd := 2, key := k, addr := addr, len := len, total := blocks }) ∧
        (pageJobKey p s = .ok k → messageOk addr len s = false → refused (.cmcGen m p) 0x0E ∧ refused (.cmcVerify m p) 0x0E) ∧
        (pageJobKey p s = .error st → refused (.cmcGen m p) st ∧ refused (.cmcVerify m p) st) ∧
        (4 < p.1 → refused (.cmcWrap m p) 0x11) ∧
        (2 ≤ p.1 → p.1 ≤ 4 →
          let w := wrapImage p.1 (s.regB b 6) (s.regN (b + 8)) s
          let total := if s.regB b 6 then (if s.keyBytes = 32 then 10 else 8) else if s.keyBytes = 32 then 30 else 22
          (w.1 = 0 → begins (.cmcWrap m p) { cmd := 3, key := [], addr := addr, total := total, out := w.2 }) ∧
          (w.1 ≠ 0 → refused (.cmcWrap m p) w.1)) ∧
        (s.regB b 5 = true → begins (.cmcTest m p) { cmd := 4, key := s.pageKey p, total := (s.pageKey p).length / 16
                                                     out := kdf (s.pageKey p) false (s.regN (b + 8)) (s.regN (b + 0xC)) 0 }) ∧
        (s.regB b 5 = false → messageOk addr len s = true →
          begins (.cmcTest m p) { cmd := 4, key := s.pageKey p, addr := addr, len := len, total := blocks }))) ∧
    (s.sec.turn = p → vget s.sec.jobs p = some j → j.susp = false → j.done + 1 < j.total → s.sec.urgent = [] → s.sec.turnCnt + 1 < 64 →
      ∃ t, exec .cmcBlockDone s = .next t ∧ t.sec = { s.sec with jobs := vset s.sec.jobs p (some (j.step s)), turnCnt := s.sec.turnCnt + 1 } ∧
        (j.step s).done = j.done + 1 ∧ (j.done < 2 ^ 31 → t.regN (b + 0x64) = j.done + 1) ∧ frame t) ∧
    (s.sec.jobs = .replicate 8 none → s.sec.urgent = [u] →
      exec .cmcBlockDone s = .next { s with sec := { s.sec with urgent := if u.left ≤ 1 then [] else [{ u with left := u.left - 1 }] } }) ∧
    (vget s.sec.jobs p = some j →
      (j.done < j.total → exec (.cmcJobDone p) s = .next s) ∧
      (j.total ≤ j.done →
        (j.cmd = 1 ∨ j.cmd = 4 → ∃ t, exec (.cmcJobDone p) s = .next t ∧ ends t 0 ∧ macIs t (if j.out = [] then j.chain else j.out) ∧ frame t) ∧
        (j.cmd = 2 → ∃ t, exec (.cmcJobDone p) s = .next t ∧ frame t ∧
          ends t (if beNat (j.chain.take 8) = s.regN (b + 0x30) + s.regN (b + 0x34) * 2 ^ 32 then 0 else 6)) ∧
        (j.cmd = 3 → messageOk j.addr j.out.length s = true → ∃ t, exec (.cmcJobDone p) s = .next t ∧ ends t 0 ∧ t.rdBytes j.addr j.out.length = j.out ∧
          ∀ a, a < j.addr ∨ j.addr + j.out.length ≤ a → t.rdBytes a 1 = s.rdBytes a 1))) ∧
    (s.isOn dSEC = true → pkeUser m = false →
      ∀ i ∈ ([.pkeHashStart m, .pkeHashContinue m, .pkeHashFinal m, .pkeVerify m] : List Instr),
        ∃ t, exec i s = .next t ∧ Violated s t 0x40090200 (256 * masterId m)) ∧
    (s.isOn dSEC = true → masterId m ≠ 4 → ∃ t, exec (.pkeSign m) s = .next t ∧ Violated s t 0x40090200 (256 * masterId m)) ∧
    (s.isOn dSEC = true → pkeUser m = true →
      let bs := s.rdBytes (s.regN 0x40090008) (s.regN 0x4009000C)
      (s.sec.hashRun = none →
        (∃ t, exec (.pkeHashStart m) s = .next t ∧ hashing t bs false) ∧ (∃ t, exec (.pkeHashContinue m) s = .next t ∧ hashing t (s.sec.hashMsg ++ bs) false) ∧
        (∃ t, exec (.pkeHashFinal m) s = .next t ∧ hashing t s.sec.hashMsg true)) ∧
      joins (.pkeVerify m) .verify 0x40090004 ∧ (masterId m = 4 → joins (.pkeSign m) .sign 0x40090804)) ∧
    (s.sec.hashRun = some fin →
      ∃ t, exec (.pkeJobDone true) s = .next t ∧ t.sec = { s.sec with hashRun := none } ∧ t.regN 0x40090004 = 0x200 ∧
        (fin = true → ∀ n, n < (sha384 s.sec.hashMsg).length / 4 → t.reg (0x40090010 + 4 * n) = wordOf ((sha384 s.sec.hashMsg).drop (4 * n))) ∧
        { t with sec := s.sec, regs := s.regs } = s) ∧
    (s.sec.points = .verify :: rest →
      let good := ecdsaVerify (s.regBytes 0x40090010 48) (s.regBytes 0x40090040 96) (s.regBytes 0x400900A0 96)
      ∃ t, exec (.pkeJobDone false) s = .next t ∧ t.sec = { s.sec with points := rest } ∧ t.regN 0x40090004 = 0x200 + (if good then 0 else 0x0A) ∧
        { t with sec := s.sec, regs := s.regs } = s) ∧
    (s.sec.points = .sign :: rest →
      let sig := ecdsaSign (s.regBytes 0x40090810 48) s.identityKey
      ∃ t, exec (.pkeJobDone false) s = .next t ∧ t.sec = { s.sec with points := rest } ∧ t.regN 0x40090804 = 0x200 ∧
        (∀ n, n < sig.length / 4 → t.reg (0x40090840 + 4 * n) = wordOf (sig.drop (4 * n))) ∧ { t with sec := s.sec, regs := s.regs } = s) ∧
    (Asks s src → leBytes 4 v.toNat ≠ s.dGet 0x1001 2 →
      (s.sec.att = some nonce → ∃ t, exec (.attRequest src tid v) s = .next t ∧ Refused s t src tid 0x1001 2 1) ∧
      (s.sec.att = none → s.core4 = true →
        ∃ t, exec (.attRequest src tid v) s = .next t ∧ t.sec = { s.sec with att := some (s.dGet 0x1001 1), points := s.sec.points ++ [.attest] } ∧
          (t.resOf 0x1001 3).pending = true ∧ (t.resOf 0x1001 4).pending = true ∧ Spoke s t src (writeResp tid 0x1001 2 0) ∧
          { t with sec := s.sec, links := s.links, dict := s.dict, results := s.results } = s)) ∧
    (s.sec.att = some nonce →
      let body := attBody nonce s
      ∃ t, exec .attReportDone s = .next t ∧ t.dGet 0x1001 3 = body ++ ecdsaSign (sha384 body) s.identityKey ∧ t.dGet 0x1001 4 = [0] ∧
        (t.resOf 0x1001 3).pending = false ∧ t.sec.att = none ∧ { t with sec := s.sec, dict := s.dict, results := s.results } = s) ∧
    (Asks s src → leBytes 4 v.toNat ≠ s.dGet 0x3000 0x34 →
      (s.sec.test = some test → ∃ t, exec (.securityTestRequest src tid v) s = .next t ∧ Refused s t src tid 0x3000 0x34 1) ∧
      (s.sec.test = none → s.dGet 0x3000 0x31 ≠ [] →
        ∃ t, exec (.securityTestRequest src tid v) s = .next t ∧ (t.resOf 0x3000 0x36).pending = true ∧ Spoke s t src (writeResp tid 0x3000 0x34 0) ∧
          t.sec = { s.sec with test := some { cmac := s.dU 0x3000 0x30 == 1, key := s.dGet 0x3000 0x31, param := s.dU 0x3000 0x32, msg := s.dGet 0x3000 0x33 } } ∧
          { t with sec := s.sec, links := s.links, dict := s.dict, results := s.results } = s)) ∧
    (s.sec.test = some test →
      ∃ t, exec .securityTestDone s = .next t ∧ t.sec = { s.sec with test := none } ∧ t.dGet 0x3000 0x36 = [0] ∧
        t.dGet 0x3000 0x35 = (if test.cmac then cmac test.key test.msg
          else kdf test.key (bit test.param 42) (test.param % 2 ^ 18) (test.param / 2 ^ 18 % 2 ^ 16) (test.param / 2 ^ 34 % 2 ^ 8)) ∧
        { t with sec := s.sec, dict := s.dict, results := s.results } = s)

/-! ### Storage -/

namespace Sys2Proof.Machine

/-- Nothing has changed but memory, registers, entries, the fabric's events and what the links send. -/
def OnlyStorage (s t : State) : Prop :=
  { t with mem := s.mem, regs := s.regs, dict := s.dict, evf := s.evf, links := { t.links with outbox := s.links.outbox } } = s

/-- A flash command ends at once with a result: the controller is locked, and nothing else of memory changes. -/
def FlashRefused (s t : State) (st : Nat) : Prop :=
  t.mem = { s.mem with flcSeq := .locked } ∧ t.regN 0x40060028 = st ∧ { t with mem := s.mem, regs := s.regs } = s

/-- A counting register has gone up by one, saturating. -/
def Counted (s t : State) (a : Nat) : Prop := t.regN a = min (s.regN a + 1) 0xFFFFFFFF

end Sys2Proof.Machine

/-- The flash controller: the unlock sequence, its five operations and their ends: FLC_KEY_WRITE opens a sequence with the two keys in order, and
another value locks it with NOT_READY. In the unlocked sequence of its owner FLC_PROGRAM, FLC_ERASE, FLC_VERIFY_PROGRAM, FLC_VERIFY_ERASE and
FLC_REMAP start their operation, or end with BUSY, DENIED, SAME_BANK, and a program of a word that is not erased with NOT_READY (the model's choice,
log entry 20); another command value ends with OUT_OF_RANGE; the writes of another master set SEQERR. FLC_OP_DONE programs the word, erases the
sector to all ones, reports a verify, or moves the sector to a spare, EXHAUSTED with none left; every other byte stays and memory keeps its
canonical form. FLC_INTR_WRITE clears the record. (R367, R368, R369, R371, R372, R373, R374, R375, R395) -/
def Obligations.FlashController : Prop :=
  ∀ (s : State) (m : Master) (v a : BitVec 32) (d : BitVec 128) (c : Fin 8) (fails : Bool) (words : List (Fin 512)) (op : FlashOp),
    let stat : Nat := 0x40060024
    let n := a.toNat
    let starts := fun (i : Instr) (k : Fin 8) (data : List Byte) => ∃ t, exec i s = .next t ∧
      t.mem = { s.mem with flcSeq := .locked, flcOp := some { cmd := k, addr := n, data := data } } ∧ t.regB stat 1 = true ∧ { t with mem := s.mem, regs := s.regs } = s
    let refuses := fun (i : Instr) (st : Nat) => ∃ t, exec i s = .next t ∧ FlashRefused s t st
    let moves := fun (i : Instr) (q : FlcSeq) => exec i s = .next { s with mem := { s.mem with flcSeq := q } }
    let ops : List Instr := [.flcProgram m a d, .flcErase m a, .flcVerifyProgram m a, .flcVerifyErase m a, .flcRemap m a]
    (s.mem.flcSeq = .locked →
      (v = 0x6D1E0C95 → exec (.flcKeyWrite m v) s = .next { s with mem := { s.mem with flcSeq := .key1, flcOwner := masterNum m } }) ∧
      (v ≠ 0x6D1E0C95 → refuses (.flcKeyWrite m v) 2) ∧ (∀ i ∈ ops, refuses i 2)) ∧
    (s.mem.flcSeq = .key1 → s.mem.flcOwner = masterNum m →
      (v = 0x92E1F36A → moves (.flcKeyWrite m v) .unlocked) ∧ (v ≠ 0x92E1F36A → refuses (.flcKeyWrite m v) 2)) ∧
    (s.mem.flcSeq ≠ .locked → s.mem.flcOwner ≠ masterNum m →
      ∃ t, exec (.flcKeyWrite m v) s = .next t ∧ t.regB stat 2 = true ∧ { t with regs := s.regs } = s) ∧
    (s.mem.flcSeq = .unlocked → s.mem.flcOwner = masterNum m →
      (c = 0 ∨ 5 < c.1 → refuses (.flcBadCommand m c) 0x0E) ∧
      (flashAddr n = false → ∀ i ∈ ops, refuses i 2) ∧
      (flashAddr n = true → s.mem.flcOp.isSome = true → ∀ i ∈ ops, refuses i 1) ∧
      (flashAddr n = true → s.mem.flcOp = none →
        (flashAllowed m n = false → refuses (.flcProgram m a d) 0x11 ∧ refuses (.flcErase m a) 0x11) ∧
        (fetchedFrom m (bankOf n) = true → s.regB 0x40060000 4 = false →
          refuses (.flcVerifyProgram m a) 8 ∧ refuses (.flcVerifyErase m a) 8 ∧ refuses (.flcRemap m a) 8 ∧
          (flashAllowed m n = true → refuses (.flcProgram m a d) 8 ∧ refuses (.flcErase m a) 8)) ∧
        (fetchedFrom m (bankOf n) = false ∨ s.regB 0x40060000 4 = true →
          starts (.flcVerifyProgram m a) 3 [] ∧ starts (.flcVerifyErase m a) 4 [] ∧ starts (.flcRemap m a) 5 [] ∧
          (flashAllowed m n = true → starts (.flcErase m a) 2 [] ∧
            (erasedAt n s = true → starts (.flcProgram m a d) 1 (leBytes 16 d.toNat)) ∧ (erasedAt n s = false → refuses (.flcProgram m a d) 2))))) ∧
    (s.mem.flcOp = none → exec (.flcOpDone fails words) s = .next s) ∧
    (s.mem.flcOp = some op →
      let b := bankOf op.addr == some true
      let left := s.bankSpares b
      let ends := fun (t : State) (st : Nat) => t.mem.flcOp = none ∧ t.regN 0x40060028 = st ∧ t.regB stat 0 = true ∧ t.regB stat 1 = false ∧
        (s.MemCanonical → t.MemCanonical)
      let moved := fun (t : State) => t.mem.remaps = s.mem.remaps ++ [(sectorOf op.addr, 64 - left)] ∧ t.bankSpares b = left - 1 ∧
        t.bankSpares (!b) = s.bankSpares (!b) ∧ OnlyStorage s t
      let programs := fun (t : State) => t.rdBytes op.addr op.data.length = op.data ∧
        ∀ x, x < op.addr ∨ op.addr + op.data.length ≤ x → t.rdBytes x 1 = s.rdBytes x 1
      let erases := fun (t : State) => ∀ x, t.rdBytes x 1 = if sectorOf x = sectorOf op.addr then [0xFF] else s.rdBytes x 1
      (op.cmd = 1 → ∃ t, exec (.flcOpDone false words) s = .next t ∧ ends t 0 ∧ programs t ∧ OnlyStorage s t) ∧
      (op.cmd = 2 → (bankOf op.addr).isSome = true → ∃ t, exec (.flcOpDone false words) s = .next t ∧ ends t 0 ∧ erases t ∧ OnlyStorage s t) ∧
      (op.cmd = 3 ∨ op.cmd = 4 → ∃ t, exec (.flcOpDone fails words) s = .next t ∧ ends t 0 ∧ t.regN 0x40060030 = words.length % 2 ^ 32 ∧
        (∀ w rest, words = w :: rest → t.regN 0x40060034 = (sectorOf op.addr + 16 * w.1) % 2 ^ 32) ∧ { t with mem := s.mem, regs := s.regs } = s) ∧
      (0 < left →
        (op.cmd = 5 → ∃ t, exec (.flcOpDone fails words) s = .next t ∧ ends t 0 ∧ moved t) ∧
        (op.cmd = 1 → ∃ t, exec (.flcOpDone true words) s = .next t ∧ ends t 0 ∧ moved t ∧ programs t ∧ t.regB stat 4 = true) ∧
        (op.cmd = 2 → (bankOf op.addr).isSome = true →
          ∃ t, exec (.flcOpDone true words) s = .next t ∧ ends t 0 ∧ moved t ∧ erases t ∧ t.regB stat 4 = true)) ∧
      (left = 0 → op.cmd = 5 ∨ (fails = true ∧ (op.cmd = 1 ∨ op.cmd = 2)) →
        ∃ t, exec (.flcOpDone fails words) s = .next t ∧ ends t 0x0B ∧ t.regB stat 5 = true ∧ t.mem = { s.mem with flcOp := none } ∧ OnlyStorage s t)) ∧
    (∃ t, exec .flcIntrWrite s = .next t ∧ t.regN 0x40060050 = 0 ∧ t.regB stat 9 = false ∧ { t with regs := s.regs } = s)

/-- Scrubbing and repair of SRAM rows, and the DRAM ranks from an error to their retirement: A scrub of SRAM or, enabled, of DRAM corrects a word
and counts it. SRAM_ROW_REPAIR takes a macro's next spare row, or leaves the row when both are taken. DRAM_UE poisons the block and retires its
rank, as do RANK_RETIRE and CAPAR_LIMIT errors of DRAM_CAPAR: with a spare the migration begins, without one the rank stays. MIG_WAKE_DONE goes on
to the copy or aborts, MIG_COPY_DONE changes the map in one step and retires the old rank, MIG_ABORT retires the spare. PATTERN_GEN_START, DMC_MRW,
DRAM_REFRESH, DRAM_TEMP_READ (the hottest in-service rank is the model's choice, log entry 21) and RH_NEIGHBOUR_REFRESH leave their results;
SPARE_POWER_DOWN and DRAM_COLD_WRITE power a slot down and bring it back with its contents lost. (R365, R366, R380, R381, R382, R383, R385, R387,
R388, R390, R391, R393) -/
def Obligations.SramAndDram : Prop :=
  ∀ (s : State) (src : Src) (tid : Byte) (a v : BitVec 32) (r : Fin 3) (k : Fin 2) (pass : BitVec 16) (bank : Fin 16) (row : BitVec 16) (t0 t1 t2 : Int)
    (b c : Bool),
    let n := a.toNat
    let stat : Nat := 0x40070008
    let w := (alGet s.mem.rowSpare (macroOf n)).getD 0
    let fewer := (alGet s.mem.rowCe (rowOf n)).getD 0 < s.dU 0x3200 0x13
    let bad := fun (t : State) => t.mem.bad.contains (n / 4 * 4) = true
    let wakes := fun (t : State) (q : Fin 3) => t.mem.mig = .waking ∧ t.mem.migOld = q ∧ t.mem.spareDown = false ∧ t.regB stat 3 = true ∧
      t.mem.slotRank = s.mem.slotRank ∧ t.mem.spareOk = true
    let lost := fun (t : State) => ∀ x, t.rdBytes x 1 = if 0x83800000 ≤ x ∧ x < 0x87000000 then [0] else s.rdBytes x 1
    let aborts := fun (t : State) => t.mem = { s.mem with mig := .idle, spareOk := false, rankRetired := s.mem.rankRetired ||| (1#3 <<< s.mem.spareRank.1) } ∧
      t.regB stat 5 = true ∧ OnlyStorage s t
    (s.mem.soft = [] →
      (isSram n = true → s.region n = regionOf n →
        ∃ t, exec (.sramScrubPass [a]) s = .next t ∧ alGet t.mem.rowCe (rowOf n) = some ((alGet s.mem.rowCe (rowOf n)).getD 0 + 1) ∧
          t.dU 0x3200 0x12 = min (s.dU 0x3200 0x12 + 1) 0xFFFFFFFF ∧ t.mem.cells = s.mem.cells ∧ OnlyStorage s t) ∧
      (s.regB 0x40070000 2 = true → dramSlot n = some k → s.region n = .dram k →
        ∃ t, exec (.dramScrubPass [a]) s = .next t ∧ Counted s t 0x40070018 ∧ t.regB stat 0 = true ∧ t.regN 0x40070014 = n ∧
          t.mem.cells = s.mem.cells ∧ OnlyStorage s t) ∧
      (s.regB 0x40070000 2 = false → exec (.dramScrubPass [a]) s = .next s)) ∧
    (isSram n = true → s.region n = regionOf n →
      (w < 2 → ∃ t, exec (.sramRowRepair a [a]) s = .next t ∧ bad t ∧ alGet t.mem.rowSpare (macroOf n) = some (w + 1) ∧ alGet t.mem.rowCe (rowOf n) = none ∧
        t.mem.repaired = s.mem.repaired ++ [rowOf n] ∧ t.mem.cells = s.mem.cells ∧ OnlyStorage s t) ∧
      (2 ≤ w → ∃ t, exec (.sramRowRepair a [a]) s = .next t ∧ bad t ∧ t.mem.rowSpare = s.mem.rowSpare ∧ t.mem.repaired = s.mem.repaired ∧ OnlyStorage s t) ∧
      (fewer → exec (.sramRowRepair a []) s = .next s) ∧
      (¬ fewer → w < 2 → ∃ t, exec (.sramRowRepair a []) s = .next t ∧ t.mem.repaired = s.mem.repaired ++ [rowOf n] ∧ OnlyStorage s t)) ∧
    (dramSlot n = some k → s.region n = .dram k → s.mem.mig = .idle →
      let q := vget s.mem.slotRank k
      (s.mem.spareOk = true → ∃ t, exec (.dramUe a) s = .next t ∧ t.poisoned n = true ∧ Counted s t 0x4007001C ∧ t.regB stat 1 = true ∧ wakes t q ∧
        t.mem.cells = s.mem.cells ∧ OnlyStorage s t) ∧
      (s.mem.spareOk = false → ∃ t, exec (.dramUe a) s = .next t ∧ t.poisoned n = true ∧ t.mem.mig = .idle ∧ t.regB stat 5 = true ∧
        t.mem.slotRank = s.mem.slotRank ∧ OnlyStorage s t)) ∧
    (dramSlot n = none → exec (.dramUe a) s = .next s) ∧
    (s.slotOf r = none → exec (.rankRetire r) s = .next s) ∧
    (s.slotOf r = some k → s.mem.mig = .idle →
      (s.mem.spareOk = true → ∃ t, exec (.rankRetire r) s = .next t ∧ wakes t r ∧ t.mem.migSlot = k ∧ OnlyStorage s t) ∧
      (s.mem.spareOk = false → ∃ t, exec (.rankRetire r) s = .next t ∧ t.mem = s.mem ∧ t.regB stat 5 = true ∧ OnlyStorage s t)) ∧
    (let e := (if b then vget s.mem.caparRun r else 0) + 1
     let limit := s.regF 0x4007003C 3 0
     (e < limit → ∃ t, exec (.dramCapar r b) s = .next t ∧ t.mem = { s.mem with caparRun := vset s.mem.caparRun r e } ∧ Counted s t 0x40070020 ∧
       t.regB stat 2 = true ∧ OnlyStorage s t) ∧
     (limit ≤ e → s.slotOf r = some k → s.mem.mig = .idle → s.mem.spareOk = true →
       ∃ t, exec (.dramCapar r b) s = .next t ∧ wakes t r ∧ vget t.mem.caparRun r = 0 ∧ OnlyStorage s t)) ∧
    (∃ t, exec (.patternGenStart v pass) s = .next t ∧ t.reg 0x40070104 = v &&& 0xFFFF0007 ∧ t.regN 0x40070110 = pass.toNat + 0x10000 ∧
      { t with regs := s.regs } = s) ∧
    (∃ t, exec (.dmcMrw v) s = .next t ∧ { t with mem := { t.mem with modeRegs := s.mem.modeRegs } } = s ∧
      alGet t.mem.modeRegs (256 * (v.extractLsb' 16 2).toNat + (v.extractLsb' 0 8).toNat) = some (v.extractLsb' 8 8)) ∧
    (exec (.dramRefresh b c) s = .next { s with mem := { s.mem with
      postponed := if c ∧ s.mem.postponed < 8 then s.mem.postponed + 1 else 0, rhTable := if b then [] else s.mem.rhTable } }) ∧
    (let temp : Fin 3 → Int := fun q => if q = 0 then t0 else if q = 1 then t1 else t2
     let hot := max (temp (vget s.mem.slotRank 0)) (temp (vget s.mem.slotRank 1))
     let d := if hot < 85 then 0 else if hot < 105 then 1 else 2
     ∃ t, exec (.dramTempRead t0 t1 t2) s = .next t ∧ t.regF 0x40070030 1 0 = d ∧ t.dU 0x3200 0x2F = d ∧
       (s.regF 0x40070030 1 0 ≠ d → t.regB stat 6 = true) ∧ { t with regs := s.regs, dict := s.dict } = s) ∧
    (∃ t, exec (.rhNeighbourRefresh bank row) s = .next t ∧ alGet t.mem.rhTable (65536 * bank.1 + row.toNat) = some 0 ∧ Counted s t 0x40070038 ∧
      { t with mem := { t.mem with rhTable := s.mem.rhTable }, regs := s.regs, dict := s.dict } = s) ∧
    (s.mem.spareOk = true → s.mem.mig = .idle → s.mem.trained.getLsbD s.mem.spareRank.1 = true →
      exec (.sparePowerDown false) s = .next { s with mem := { s.mem with spareDown := true } }) ∧
    (s.dU 0x3200 0x2A = 1 → ∃ t, exec (.sparePowerDown true) s = .next t ∧ t.mem.slot1Down = true ∧ lost t ∧ OnlyStorage s t) ∧
    (s.dU 0x3200 0x2A ≠ 1 → exec (.sparePowerDown true) s = .next s) ∧
    (Asks s src →
      (s.role ≠ 0 → s.role ≠ 2 → ∃ t, exec (.dramColdWrite src tid b) s = .next t ∧ Refused s t src tid 0x3200 0x2A 1) ∧
      (s.role = 0 ∨ s.role = 2 → ∃ t, exec (.dramColdWrite src tid b) s = .next t ∧ t.dU 0x3200 0x2A = (if b then 1 else 0) ∧ t.regB 0x40070000 3 = b ∧
        Spoke s t src (writeResp tid 0x3200 0x2A 0) ∧ OnlyStorage s t ∧
        (s.dU 0x3200 0x2A = 1 → b = false → t.mem.slot1Down = false ∧ lost t) ∧ (s.dU 0x3200 0x2A ≠ 1 ∨ b = true → t.mem = s.mem))) ∧
    (s.mem.mig = .waking →
      (∃ t, exec (.migWakeDone true) s = .next t ∧ t.mem = { s.mem with mig := .copying } ∧ t.dU 0x3200 0x21 = 2 ∧ OnlyStorage s t) ∧
      (∃ t, exec (.migWakeDone false) s = .next t ∧ aborts t)) ∧
    (s.mem.mig ≠ .idle → ∃ t, exec .migAbort s = .next t ∧ aborts t) ∧
    (s.mem.mig = .idle → exec .migAbort s = .next s) ∧
    (s.mem.mig = .copying → s.mem.migSlot = k →
      ∃ t, exec (.migCopyDone []) s = .next t ∧ t.regB stat 4 = true ∧ OnlyStorage s t ∧ t.mem = { s.mem with
        mig := .idle, slotRank := vset s.mem.slotRank k s.mem.spareRank, spareOk := false, spareRank := s.mem.migOld
        rankRetired := s.mem.rankRetired ||| (1#3 <<< s.mem.migOld.1) })

/-! ### The backup domain, power and resets -/

namespace Sys2Proof.Machine

/-- Only the power controller has changed. -/
def OnlyPower (s t : State) : Prop := { t with pcc := s.pcc } = s

/-- The backup domain one second on: the calendar has stepped, the alarm has fired if the new second matches. -/
def Stepped (s t : State) (b : Bkp) : Prop :=
  (∃ r, t.bkp = { b with cal := b.cal.next, subsec := 0, alarm := r } ∧ r = (b.alarm || alarmMatch { b with cal := b.cal.next })) ∧
  { t with bkp := s.bkp, evf := s.evf, hlt := { t.hlt with hot := s.hlt.hot }, dict := s.dict } = s

/-- A request refused over the LP budget: the flag and the counts. -/
def OverBudget (s t : State) : Prop :=
  t.pcc.refused = true ∧ t.dU 0x3400 5 = min (s.dU 0x3400 5 + 1) 0xFFFFFFFF ∧ t.pcc.dom = s.pcc.dom ∧ t.pcc.changes = s.pcc.changes ∧
  t.pcc.lp = s.pcc.lp ∧ t.pcc.modeChange = s.pcc.modeChange ∧ { t with pcc := s.pcc, dict := s.dict, evf := s.evf } = s

end Sys2Proof.Machine

/-- The calendar, its writes and alarm, PWR_HOLD and the backup domain's own reset: BACKUP_POR puts the backup registers at their reset values.
CALENDAR_SECOND steps the calendar and the alarm; with HALT a carry is held, a second one lost with HALTLOSS, and with no oscillator nothing
happens; HALT_RELEASE applies a held carry. The second after 2099-12-31 23:59:59 is 2000-01-01 00:00:00. BKP_TIME_WRITE takes an instant that exists
while HALT is set and else sets WERR; BKP_WRITE_COMPLETE brings the oldest write to the domain; BKP_SUBSEC_READ latches the calendar.
RTC_SECONDS_WRITE sets the calendar to its instant, RTC_FLAGS_CLEAR clears OSF while the oscillator runs, BKP_POR and HALTLOSS, POWER_CYCLE sets the
alarm ahead and clears PWR_HOLD, as PWR_HOLD_CLEAR does. (R411, R414, R415, R417, R418, R419, R420, R421, R422, R423, R424) -/
def Obligations.BackupDomain : Prop :=
  ∀ (s : State) (src : Src) (tid : Byte) (v : BitVec 32) (sub : BitVec 15) (off : Nat) (rest : List (Nat × BitVec 32)) (date : Bool),
    let b := s.bkp
    let sets := fun (i : Instr) (x : Bkp) => exec i s = .next { s with bkp := x }
    let steps := fun (i : Instr) (x : Bkp) => ∃ t, exec i s = .next t ∧ Stepped s t x
    let written : Cal := if date then b.cal.withDate v else b.cal.withTime v
    let exists_ : Bool := if date then written.dateOk else written.timeOk
    sets .backupPor { onVbak := b.onVbak, vbakLow := b.vbakLow, oscRun := b.oscRun } ∧
    sets .oscStop { b with osf := true, oscRun := false } ∧ sets .rtcOscillatorResume { b with oscRun := true } ∧
    sets .pwrHoldClear { b with pwrHold := false } ∧ sets (.bkpSubsecRead sub) { b with subsec := sub.toNat, latch := b.cal } ∧
    (b.oscRun = false → exec .calendarSecond s = .next s) ∧
    (b.oscRun = true → (b.halt = false → steps .calendarSecond b) ∧
      (b.halt = true → b.carryPend = false → sets .calendarSecond { b with carryPend := true }) ∧
      (b.halt = true → b.carryPend = true → sets .calendarSecond { b with haltLoss := true })) ∧
    (b.halt = false → exec .haltRelease s = .next s) ∧
    (b.halt = true → (b.carryPend = false → sets .haltRelease { b with halt := false }) ∧
      (b.carryPend = true → steps .haltRelease { b with halt := false, carryPend := false })) ∧
    ({ sec := 59, min := 59, hour := 23, wday := 4, day := 31, month := 12, year := 99 } : Cal).next =
      { sec := 0, min := 0, hour := 0, wday := 5, day := 1, month := 1, year := 0 } ∧
    (b.cal.sec < 59 → b.cal.next = { b.cal with sec := b.cal.sec + 1 }) ∧
    (b.halt = false ∨ exists_ = false → sets (.bkpTimeWrite date v) { b with werr := true }) ∧
    (b.halt = true → exists_ = true →
      sets (.bkpTimeWrite date v) (if date then { b with cal := written } else { b with cal := written, subsec := 0, carryPend := false })) ∧
    (b.writes = [] → exec .bkpWriteComplete s = .next s) ∧
    (b.writes = (off, v) :: rest →
      (off = 0x04 ∨ off = 0x08 → exec .bkpWriteComplete s = exec (.bkpTimeWrite (off == 0x08) v) { s with bkp := { b with writes := rest } }) ∧
      (off = 0x0C → v.getLsbD 0 = true → sets .bkpWriteComplete { b with
        writes := rest, halt := true, pwrHold := v.getLsbD 1, alarmEn := v.getLsbD 2, alarmPwr := v.getLsbD 3, secEv := v.getLsbD 4 }) ∧
      (off = 0x10 → sets .bkpWriteComplete { b with
        writes := rest, osf := b.osf && !(v.getLsbD 0 && b.oscRun), por := b.por && !v.getLsbD 1, haltLoss := b.haltLoss && !v.getLsbD 2
        alarm := b.alarm && !v.getLsbD 3, werr := b.werr && !v.getLsbD 4 }) ∧
      (off = 0x14 → sets .bkpWriteComplete { b with writes := rest, alarmTime := v }) ∧
      (off = 0x18 → sets .bkpWriteComplete { b with writes := rest, alarmDate := v }) ∧
      (∀ i : Fin 16, off = 0x40 + 4 * i.1 → sets .bkpWriteComplete { b with writes := rest, data := vset b.data i v })) ∧
    (Asks s src →
      (v.toNat < 3155760000 → ∃ t, exec (.rtcSecondsWrite src tid v) s = .next t ∧ t.bkp = { b with cal := t.bkp.cal, subsec := 0, carryPend := false } ∧
        t.bkp.cal.seconds = v.toNat ∧ Spoke s t src (writeResp tid 0x3300 1 0) ∧ { t with bkp := s.bkp, links := s.links } = s) ∧
      (leBytes 4 v.toNat ≠ s.dGet 0x3300 4 →
        ∃ t, exec (.rtcFlagsClear src tid v) s = .next t ∧ t.bkp = { b with osf := b.osf && !b.oscRun, por := false, haltLoss := false } ∧
          Spoke s t src (writeResp tid 0x3300 4 0) ∧ { t with bkp := s.bkp, links := s.links, dict := s.dict } = s) ∧
      (leBytes 4 v.toNat ≠ s.dGet 0x3300 8 → 0 < b.cal.seconds + s.dU 0x3300 9 →
        let at_ := Cal.ofSeconds (b.cal.seconds + s.dU 0x3300 9)
        ∃ t, exec (.powerCycle src tid v) s = .next t ∧ t.bkp = { b with
            pwrHold := false, alarmPwr := true, alarmEn := true, alarmMask := 0, alarmTime := at_.timeWord, alarmDate := at_.dateWord } ∧
          Spoke s t src (writeResp tid 0x3300 8 0) ∧ { t with bkp := s.bkp, links := s.links, dict := s.dict } = s))

/-- Domains, the regulator, supplies and clocks, sleep and wake, and what the resets keep: DOMAIN_REQ of AON or BKP for another state than ON, of a
domain whose change still runs, of one already there, of one whose need is not planned ON, and else under the LP budget, leaves its RESULT and an
accepted change in the queue; DOMAIN_CHANGE_DONE carries the oldest out on that domain alone. REG_MODE_WRITE and REG_MODE_DONE change the regulator,
refused over the budget. VMAIN_SAMPLE, PLL_LOCK, PLL_UNLOCK, XO_FAIL, XO_RESTART_ATTEMPT, VIO_LOSS and VIO_RETURN show what they name. SLEEP_ARM
arms a sleep set that passes; WAKE records its sources when asleep, and while armed remembers them. POWER_ON, RESET_N, BOR_MAIN and BOR_LP keep the
backup domain, flash, OTP and saved settings, lose SRAM and the role, and show their cause; DRAM that is held keeps its bytes through RESET_N.
(R426, R428, R429, R433, R434, R436, R438, R439, R442, R443, R450, R451) -/
def Obligations.PowerAndResets : Prop :=
  ∀ (s : State) (src : Src) (tid v : Byte) (d : Fin 24) (w : DomState) (rest : List (Fin 24 × DomState)) (trained : BitVec 3) (lp above runs : Bool)
    (x : BitVec 12) (p : Fin 4) (fired : BitVec 28) (lat : BitVec 16) (m : Bool),
    let n := v.toNat % 4
    let sets := fun (i : Instr) (q : Pcc) => exec i s = .next { s with pcc := q }
    let asked := fun (st : Status) => { s.pcc with req := vset s.pcc.req d (Fin.ofNat 4 n), result := vset s.pcc.result d st }
    let f := fired &&& (s.pcc.wakeEn ||| 0x0C000000) &&& ~~~(wakeVio s)
    (d.1 < 2 → n ≠ 2 → sets (.domainReq none tid d v) (asked 0x0E)) ∧
    (2 ≤ d.1 → n < 3 →
      (s.pcc.changes.any (fun c => c.1 == d) = true → sets (.domainReq none tid d v) (asked 1)) ∧
      (s.pcc.changes.any (fun c => c.1 == d) = false →
        (vget s.pcc.dom d = domOf n → sets (.domainReq none tid d v) (asked 0)) ∧
        (vget s.pcc.dom d ≠ .on → n = 2 →
          (lacksNeed d s.planned = true → sets (.domainReq none tid d v) (asked 2)) ∧
          (lacksNeed d s.planned = false → s.lpAhead = false →
            sets (.domainReq none tid d v) { asked 0 with changes := s.pcc.changes ++ [(d, .on)] }) ∧
          (lacksNeed d s.planned = false → s.lpAhead = true → needsClock d = true →
            ∃ t, exec (.domainReq none tid d v) s = .next t ∧ vget t.pcc.result d = 4 ∧ OverBudget s t)))) ∧
    (Asks s src → domCore d = none → v.toNat < 3 →
      let st := domainCheck d v.toNat true s
      st ≠ 4 → ∃ t, exec (.domainReq (some src) tid d v) s = .next t ∧ vget t.pcc.result d = st ∧ t.pcc.dom = s.pcc.dom ∧
        t.pcc.changes = (if st = 0 ∧ vget s.pcc.dom d ≠ domOf v.toNat then s.pcc.changes ++ [(d, domOf v.toNat)] else s.pcc.changes) ∧
        Spoke s t src (writeResp tid 0x3401 (BitVec.ofNat 8 (d.1 + 1)) st) ∧ { t with pcc := s.pcc, links := s.links } = s) ∧
    (s.pcc.changes = [] → exec (.domainChangeDone trained) s = .next s) ∧
    (s.pcc.changes = (d, w) :: rest → 2 ≤ d.1 →
      ∃ t, exec (.domainChangeDone trained) s = .next t ∧ t.pcc.dom = vset s.pcc.dom d w ∧ t.pcc.changes = rest ∧ t.pcc.domDone = true) ∧
    (s.pcc.modeChange.getD s.pcc.lp = lp → exec (.regModeWrite lp) s = .next s) ∧
    (s.pcc.modeChange.getD s.pcc.lp ≠ lp →
      (lp = true → s.overBudget s.planned = true → ∃ t, exec (.regModeWrite lp) s = .next t ∧ OverBudget s t) ∧
      (lp = false ∨ s.overBudget s.planned = false →
        sets (.regModeWrite lp) { s.pcc with modeChange := if s.pcc.lp = lp then none else some lp })) ∧
    (s.pcc.modeChange = none → exec .regModeDone s = .next s) ∧
    (s.pcc.modeChange = some m → ∃ t, exec .regModeDone s = .next t ∧ t.pcc.lp = m ∧ t.pcc.modeChange = none ∧ t.pcc.dom = s.pcc.dom ∧ OnlyPower s t) ∧
    (let low := decide (x.toNat < 255) || (s.pcc.lowBand && !(above && decide (260 < x.toNat)))
     ∃ t, exec (.vmainSample x above) s = .next t ∧ t.pcc.vmain = x.toNat ∧ t.pcc.lowBand = low ∧ t.pcc.band = (s.pcc.band || low != s.pcc.lowBand) ∧
       t.dU 0x3600 0x40 = 10 * x.toNat ∧ (s.bigRole = true → x.toNat < 295 → t.dU 0x3400 0x0A = 1 ∧ t.pcc.roleLow = true) ∧
       (low = s.pcc.lowBand → { t with pcc := s.pcc, dict := s.dict, regs := s.regs } = s)) ∧
    (pllWanted p s = true → s.pcc.xoRun = true →
      sets (.pllLock p) { s.pcc with locked := vset s.pcc.locked p true, sysPll := s.pcc.sysPll || (p == 0 && s.pcc.sysAuto) }) ∧
    (pllWanted p s = false ∨ s.pcc.xoRun = false → exec (.pllLock p) s = .next s) ∧
    sets .pllUnlock { s.pcc with locked := vset s.pcc.locked 0 false, sysPll := false } ∧
    (s.pcc.xoFail = true ∨ s.pcc.xoRun = false → exec .xoFail s = .next s) ∧
    (s.pcc.xoFail = false → s.pcc.xoRun = true →
      ∃ t, exec .xoFail s = .next t ∧ t.pcc.xoFail = true ∧ t.pcc.xoRun = false ∧ t.pcc.locked = .replicate 4 false ∧ t.pcc.sysPll = false ∧
        t.dU 0x3400 0x12 = min (s.dU 0x3400 0x12 + 1) 0xFFFFFFFF ∧ t.pcc.dom = s.pcc.dom) ∧
    (s.pcc.xoFail = true → (∃ t, exec (.xoRestartAttempt true) s = .next t ∧ t.pcc.xoFail = false ∧ OnlyPower s t) ∧
      exec (.xoRestartAttempt false) s = .next s) ∧
    (s.pcc.xoFail = false → exec (.xoRestartAttempt runs) s = .next s) ∧
    (sleepCheck s = 0 → sets .sleepArm { s.pcc with armed := true, armedFired := 0 }) ∧
    (sleepCheck s = 2 → exec .sleepArm s = .next s) ∧
    (sleepCheck s = 4 → ∃ t, exec .sleepArm s = .next t ∧ OverBudget s t) ∧
    (f = 0 → exec (.wake fired lat) s = .next s) ∧
    (f ≠ 0 →
      (s.pcc.asleep = false → s.pcc.armed = true → sets (.wake fired lat) { s.pcc with armedFired := s.pcc.armedFired ||| f }) ∧
      (s.pcc.asleep = false → s.pcc.armed = false → exec (.wake fired lat) s = .next s) ∧
      (s.pcc.asleep = true → ∃ t, exec (.wake fired lat) s = .next t ∧ t.pcc.asleep = false ∧ t.pcc.woke = true ∧ t.pcc.wakeMask = f ∧
        t.pcc.wakeLat = lat.toNat ∧ t.pcc.wakeCount = min (s.pcc.wakeCount + 1) 0xFFFFFFFF ∧ t.pcc.wakePhase = (vget s.ptb.pd 0).phase ∧
        (∀ i : Fin 28, f.getLsbD i.1 = true → (∀ j, j < i.1 → f.getLsbD j = false) → t.pcc.wakeCause = BitVec.ofNat 8 i.1))) ∧
    (∃ t, exec .vioLoss s = .next t ∧ t.pcc = { s.pcc with vio := false } ∧ t.links.outbox = .replicate 5 [] ∧ { t with pcc := s.pcc, links := s.links } = s) ∧
    sets .vioReturn { s.pcc with vio := true } ∧
    (s.pcc.lp = false → exec .borLp s = .next s) ∧
    (s.mem.flcOp = none → ∀ i c, (i, c) ∈ ([(.powerOn, 0), (.resetNAssert, 1), (.borMain, 5)] ++ (if s.pcc.lp then [(.borLp, 6)] else []) : List (Instr × Nat)) →
      ∃ t, exec i s = .next t ∧ t.bkp = s.bkp ∧ t.saved = s.saved ∧ t.sec.otp = s.sec.otp ∧ t.kz.retired = s.kz.retired ∧ t.pending = s.pending ∧
        t.role = 0 ∧ t.dU 0x1200 5 = c ∧ t.Powered ∧ (∀ a, a < 0x20000000 → t.rdBytes a 1 = s.rdBytes a 1) ∧
        (∀ a, 0x20000000 ≤ a → a < 0x80000000 → t.rdBytes a 1 = [0]) ∧
        (i = .resetNAssert → s.owns dDRAM = true → s.dU 0x3200 0x2B = 0 → ∀ a, 0x80000000 ≤ a → t.rdBytes a 1 = s.rdBytes a 1) ∧
        (i ≠ .resetNAssert → ∀ a, 0x80000000 ≤ a → t.rdBytes a 1 = [0]))

/-! ### The start and field updates -/

namespace Sys2Proof.Machine

/-- Memory is as after a rewrite of these fields of the boot record. -/
def Rewritten (s t : State) (l : List (Nat × Nat × Nat)) : Prop := ∀ a, t.rd8 a = (bootPut l s).rd8 a

/-- Only memory and what shows the boot record have changed. -/
def OnlyRecord (s t : State) : Prop := { t with mem := s.mem, regs := s.regs, dict := s.dict } = s

/-- A sector of the ring holds the newest record with SEQ `q`, and no sector a record with a higher SEQ. -/
def RingNewest (s : State) (i q : Nat) : Prop :=
  s.newestRing = some (i, q) ∧ i < 16 ∧ q < 2 ^ 31 ∧ ∀ j r, j < 16 → ringRecord j s = some r → r ≤ q

/-- An activation restart: the boot ROM is about to run with cause 7; the domains of the cores but core 0 and the host links are OFF; every
other domain and the phase timebase run on, and the flash holds the boot record with STATE TRIAL. -/
def Restarted (s t : State) : Prop :=
  t.dU 0x1200 5 = 7 ∧ t.boot.stage = .rom ∧ t.links.serving = .none ∧ t.isOn dCORE0 = true ∧
  (∀ d : Fin 24, (3 ≤ d.1 ∧ d.1 ≤ 7) ∨ d = dHOSTIO → vget t.pcc.dom d = .off) ∧
  (∀ d : Fin 24, d.1 < 2 ∨ 7 < d.1 → d ≠ dHOSTIO → vget t.pcc.dom d = vget s.pcc.dom d) ∧ t.ptb = s.ptb ∧
  (∀ a, a < 0x20000000 → t.rd8 a = (bootPut [(2, 1, 2), (3, 1, 0), (29, 1, 0)] s).rd8 a)

/-- A request of the update engine answered with a status that a result entry shows as well. -/
def Shown (s t : State) (src : Src) (tid : Byte) (sub : Byte) (result : Nat) (st answer : Status) : Prop :=
  t.dGet 0x3500 result = [st] ∧ t.resOf 0x3500 result = { produced := true, pending := false, fresh := 0x7F } ∧ Spoke s t src (writeResp tid 0x3500 sub answer)

end Sys2Proof.Machine

/-- The boot record, staging a set, confirming it and copying it: A rewrite of the boot record with a SEQ that does not wrap leaves the newest
record in the next sector of the ring with its fields replaced. STAGE_BEGIN leaves the staging slot erased and STATE EMPTY; STAGE_DATA programs its
bytes at the place reached; both are refused with BUSY in TRIAL, COPYING or with anything armed. STAGE_VERIFY reports the first failing test in
STAGE_STATUS, or takes STATE STAGED with the set's number and versions. CONFIRM in TRIAL, and AUTO_CONFIRM with a limit set, rewrite the record with
STATE COPYING. COPY_SECTOR copies sector COPY_NEXT of the staging slot over the active slot's and nothing else outside the ring. (R377, R461, R462,
R463) -/
def Obligations.StagingAndCopy : Prop :=
  (∀ (s : State) (i q off n v : Nat), RingNewest s i q → off + n ≤ 64 → q + 1 < 2 ^ 31 →
    RingNewest (bootPut [(off, n, v)] s) ((i + 1) % 16) (q + 1) ∧ (bootPut [(off, n, v)] s).bootBytes = splice s.bootBytes off n v ∧
    OnlyRecord s (bootPut [(off, n, v)] s) ∧ (∀ a, a < ringSector (i + 1) ∨ ringSector (i + 1) + 0x2000 ≤ a → (bootPut [(off, n, v)] s).rd8 a = s.rd8 a)) ∧
  ∀ (s : State) (src : Src) (tid : Byte) (v got : BitVec 32) (off : BitVec 32) (last : Bool) (buf data : List Byte),
    let b := leBytes 4 v.toNat
    let busy := 2 ≤ s.bootState ∨ bit (s.bootN 29 1) 0 = true ∨ s.boot.handOver.isSome = true
    let inRing := fun a : Nat => 0x10000000 ≤ a ∧ a < 0x10020000
    let inStage := fun a : Nat => 0x10400000 ≤ a ∧ a < 0x10700000
    let copying := [(2, 1, 3), (29, 1, s.bootN 29 1 % 4), (32, 2, 0)]
    (Asks s src → b ≠ s.dGet 0x3500 1 →
      (busy → ∃ t, exec (.stageBegin src tid v) s = .next t ∧ Refused s t src tid 0x3500 1 1) ∧
      (¬busy → ∃ t, exec (.stageBegin src tid v) s = .next t ∧ (∀ a, inStage a → t.rd8 a = 0xFF) ∧ (∀ a, ¬inStage a → ¬inRing a → t.rd8 a = s.rd8 a) ∧
        t.boot = { s.boot with staged := 0 } ∧ t.dGet 0x3500 1 = b ∧ Spoke s t src (writeResp tid 0x3500 1 0) ∧
        OnlyRecord { s with boot := t.boot, links := t.links } t)) ∧
    (Asks s src → (s.links.xfers = [] ∧ buf = []) ∨ s.links.xfers = [xferOf src tid 0x3500 2 buf] → off.toNat = buf.length →
      (busy → ∃ t, exec (.stageData src tid off last data) s = .next t ∧ t.links.xfers = [] ∧ Spoke s t src (writeResp tid 0x3500 2 1) ∧
        { t with links := s.links } = s) ∧
      (¬busy → buf.length + data.length ≤ 0x300000 → (∀ k, k < data.length → s.rd8 (0x10400000 + buf.length + k) = 0xFF) →
        ∃ t, exec (.stageData src tid off last data) s = .next t ∧ t.rdBytes (0x10400000 + buf.length) data.length = data ∧
          (∀ a, ¬inRing a → a < 0x10400000 + buf.length ∨ 0x10400000 + buf.length + data.length ≤ a → t.rd8 a = s.rd8 a) ∧
          t.boot = { s.boot with staged := buf.length + data.length } ∧
          t.links.xfers = (if last then [] else [xferOf src tid 0x3500 2 (buf ++ data)]) ∧ Spoke s t src (writeResp tid 0x3500 2 0) ∧
          OnlyRecord { s with boot := t.boot, links := t.links } t)) ∧
    (Asks s src → b ≠ s.dGet 0x3500 3 →
      (busy → ∃ t, exec (.stageVerify src tid v) s = .next t ∧ Shown s t src tid 3 4 1 1) ∧
      (∀ st : Status, ¬busy →
        (st = 0x0E ∧ setFormOk 0x10400000 s = false) ∨
        (st = 0x0A ∧ setFormOk 0x10400000 s = true ∧ ∃ c, c < 4 ∧ hasClass 0x10400000 c s = true ∧ imageSigOk (0x10400000 + imgOffset 0x10400000 c s) s = false) ∨
        (st = 0 ∧ setFormOk 0x10400000 s = true ∧ ∀ c, c < 4 → hasClass 0x10400000 c s = true →
          let h := 0x10400000 + imgOffset 0x10400000 c s
          imageSigOk h s = true ∧ s.rollbackMin c ≤ imgRollback h s ∧ s.bootN (8 + 2 * c) 2 ≤ imgVersion h s) →
        ∃ t, exec (.stageVerify src tid v) s = .next t ∧ Shown s t src tid 3 4 st 0 ∧
          (st = 0 → Rewritten s t [(2, 1, 1), (6, 2, s.u16 0x10400006), (16, 8, setVersions 0x10400000 s)]) ∧
          (st ≠ 0 → s.bootState = 0 → ∀ a, t.rd8 a = s.rd8 a) ∧ (st ≠ 0 → s.bootState = 1 → Rewritten s t [(2, 1, 0), (6, 2, 0), (16, 8, 0)]) ∧
          OnlyRecord { s with results := t.results, links := t.links } t)) ∧
    (Asks s src → b ≠ s.dGet 0x3500 0x10 → s.bootState = 2 →
      ∃ t, exec (.confirm src tid v got) s = .next t ∧ Rewritten s t copying ∧ Spoke s t src (writeResp tid 0x3500 0x10 0) ∧ t.dGet 0x3500 0x10 = b ∧
        (s.dU 0x3500 0x12 = 0 → OnlyRecord { s with links := t.links } t)) ∧
    (s.links.serving = .main → s.dU 0x3500 0x11 ≠ 0 →
      (s.bootState = 2 → ∃ t, exec (.autoConfirm got) s = .next t ∧ Rewritten s t copying ∧ (s.dU 0x3500 0x12 = 0 → OnlyRecord s t)) ∧
      (s.bootState ≠ 2 → exec (.autoConfirm got) s = .next s)) ∧
    (s.bootState = 3 → s.boot.window = true → s.boot.stage = .main →
      let n := s.bootN 32 2
      n < 384 →
      ∃ t, exec .copySector s = .next t ∧ (∀ k, k < 0x2000 → t.rd8 (0x10020000 + 0x2000 * n + k) = s.rd8 (0x10400000 + 0x2000 * n + k)) ∧
        (∀ a, ¬inRing a → a < 0x10020000 + 0x2000 * n ∨ 0x10022000 + 0x2000 * n ≤ a → t.rd8 a = s.rd8 a) ∧ OnlyRecord s t)

/-- The start of the device, core 4's entry, main firmware, and activations and hand-overs: BOOT_ROM_START with no core that passes holds the device
in reset; with the same core 0, no repair open and STATE EMPTY it enters a verified active set with outcome 0, core 0 at the class 0 entry with g1
at its body, in TRIAL a verified staged set in the RAM window, and with an active set that fails it serves the recovery subset. SECURITY_ENTRY
enters a class 3 image that verifies, copied to 0x21100000, or halts core 4 with function 11 failed. MAIN_FIRMWARE_START serves the dictionary with
the heartbeat at 0 and HOSTIO and SEC ON. ACTIVATE_NOW in STAGED and a due ACTIVATION_RESTART restart the device with PD1 running on; ACT_DEFER
marks the activation of a lost node. ACT_REQUEST arms or is refused with LATE, OUT_OF_RANGE or NOT_READY, ACT_CANCEL disarms, HO_REQUEST prepares
the spare core or is refused, and CORE_SWAP at the slot completes the hand-over. (R308, R453, R454, R456, R459, R461, R465, R466, R468, R470, R490)
-/
def Obligations.StartAndActivation : Prop :=
  ∀ (s : State) (cores : BitVec 6) (fails : List TestUnit) (ms : List (BitVec 16)) (trained : BitVec 3) (got v : BitVec 32) (src : Src) (tid : Byte)
    (p q : Fin 6) (o : HandOver),
    let act := 0x10020000
    let stage := 0x10400000
    let b := leBytes 4 v.toNat
    let h0 := act + imgOffset act 0 s
    let body := if imgLoad h0 s = inPlace then h0 + 256 else imgLoad h0 s
    let slot := s.dU 0x3500 0x31 % 2 ^ 40
    let id := s.dU 0x3500 0x30
    let cleanStart := s.boot.stage = .rom ∧ s.boot.dead = false ∧ s.boot.scan = false ∧ s.regB 0x40060050 31 = false ∧ openSector s.bootJournal = none ∧
      s.physOf 0 = some p ∧ cores.getLsbD p.1 = true ∧ s.kz.retired.getLsbD p.1 = false ∧ ∀ x, x < p → cores.getLsbD x.1 = false ∨ s.kz.retired.getLsbD x.1 = true
    let starts := fun (P : State → Prop) => ∃ t, exec (.bootRomStart cores fails ms) s = .next t ∧ P t
    (s.boot.stage = .rom → s.boot.dead = false → s.boot.scan = false → (∀ x : Fin 6, cores.getLsbD x.1 = false ∨ s.kz.retired.getLsbD x.1 = true) →
      exec (.bootRomStart cores fails ms) s = .next { s with boot := { s.boot with dead := true }, kz := { s.kz with phys := .replicate 6 {} } }) ∧
    (cleanStart →
      (s.bootState = 0 → setVerify act [0, 1, 2] s = stOk → starts (fun t =>
        t.boot.stage = .entered ∧ t.boot.window = false ∧ t.dU 0x3100 3 = 0 ∧ vget t.boot.hdrAt 0 = h0 ∧
        (vget t.kz.phys p).pc = BitVec.ofNat 32 (body + imgEntry h0 s) ∧ (vget t.kz.phys p).gr 1 = BitVec.ofNat 32 body ∧ (vget t.kz.phys p).halted = false)) ∧
      (s.bootState = 2 → s.bootN 3 1 < s.savedU 0x3500 0x13 → setVerify stage [0, 1, 2] s = stOk → starts (fun t =>
        t.boot.stage = .entered ∧ t.boot.window = true ∧ t.dU 0x3100 3 = (if s.dU 0x1200 5 = 7 then 4 else 1) ∧
        vget t.boot.hdrAt 0 = stage + imgOffset stage 0 s)) ∧
      (s.bootState < 2 → setVerify act [0, 1, 2] s ≠ stOk → starts (fun t =>
        t.boot.stage = .recovery ∧ t.links.serving = .rom ∧ t.isOn dHOSTIO = true ∧ t.dU 0x3100 3 = 3))) ∧
    (s.physOf 4 = some p → (vget s.kz.phys p).halted = false → (vget s.kz.phys p).pc = securityEntry → s.isOn (coreDomain 4) = true →
      let h := vget s.boot.hdrAt 3
      (h ≠ 0 → imageVerify 3 h s = stOk → h + 256 + imgBody h s ≤ 0x20000000 →
        ∃ t, exec .securityEntry s = .next t ∧ (∀ k, k < imgBody h s → t.rd8 (0x21100000 + k) = s.rd8 (h + 256 + k)) ∧
          vget t.sec.measures 3 = measureOf h s ∧ (vget t.kz.phys p).gr 1 = 0x21100000 ∧
          (vget t.kz.phys p).pc = BitVec.ofNat 32 (0x21100000 + imgEntry h s) ∧ { t with mem := s.mem, sec := s.sec, kz := s.kz } = s) ∧
      (h = 0 ∨ imageVerify 3 h s ≠ stOk →
        ∃ t, exec .securityEntry s = .next t ∧ (vget t.kz.phys p).halted = true ∧ vget t.links.fn 10 = 3 ∧ { t with kz := s.kz, links := s.links } = s)) ∧
    (s.boot.stage = .entered → s.coreIdle 0 = false →
      ∃ t, exec (.mainFirmwareStart trained got) s = .next t ∧ t.boot.stage = .main ∧ t.links.serving = .main ∧ t.dU 0x1200 3 = 0 ∧
        (s.boot.before = none → t.isOn dHOSTIO = true ∧ t.isOn dSEC = true)) ∧
    (Asks s src → b ≠ s.dGet 0x3500 0x16 →
      (s.bootState = 1 → ∃ t, exec (.activateNow src tid v) s = .next t ∧ Restarted s t) ∧
      (s.bootState ≠ 1 → ∃ t, exec (.activateNow src tid v) s = .next t ∧ Spoke s t src (writeResp tid 0x3500 0x16 2) ∧
        (∀ i j, j < 256 → t.dGet i j = s.dGet i j) ∧ { t with links := s.links, dict := s.dict } = s)) ∧
    (s.boot.stage = .main → s.actArmed = true → slotBegun (s.bootN 24 5) s = true →
      (s.nodeLost = false → ∃ t, exec .activationRestart s = .next t ∧ Restarted s t) ∧
      (s.nodeLost = true → ∃ t, exec .actDefer s = .next t ∧ Rewritten s t [(29, 1, s.bootN 29 1 / 4 * 4 + 3)] ∧ OnlyRecord s t)) ∧
    (Asks s src → b ≠ s.dGet 0x3500 0x32 →
      let lead := s.bigRole = true ∧ (slot + 2 ^ 40 - s.absSlot) % 2 ^ 40 < 4096 * s.dU 0x3500 0x34
      let ready := s.bootState = 1 ∧ s.bootN 6 2 = id
      (∀ st : Status, (st = 3 ∧ slotBegun slot s = true) ∨ (st = 0x0E ∧ slotBegun slot s = false ∧ (id = 0 ∨ lead)) ∨
          (st = 2 ∧ slotBegun slot s = false ∧ id ≠ 0 ∧ ¬lead ∧ ¬ready) →
        ∃ t, exec (.actRequest src tid v) s = .next t ∧ Shown s t src tid 0x32 0x33 st st ∧ { t with links := s.links, dict := s.dict, results := s.results } = s) ∧
      (slotBegun slot s = false → id ≠ 0 → ¬lead → ready → s.plkRuns = false → s.dU 0x3600 0x53 = 0 →
        ∃ t, exec (.actRequest src tid v) s = .next t ∧ Shown s t src tid 0x32 0x33 0 0 ∧ Rewritten s t [(24, 5, slot), (29, 1, 1), (30, 2, id)] ∧
          (s.bigRole = true → t.lnk.beacon = { s.lnk.beacon with act := true, actSlot := BitVec.ofNat 40 slot, actId := BitVec.ofNat 16 id }) ∧
          OnlyRecord { s with lnk := { s.lnk with beacon := t.lnk.beacon }, results := t.results, links := t.links } t)) ∧
    (Asks s src → b ≠ s.dGet 0x3500 0x35 → s.actArmed = true → s.plkRuns = false →
      ∃ t, exec (.actCancel src tid v) s = .next t ∧ Rewritten s t [(24, 5, 0), (29, 1, s.bootN 29 1 / 4 * 4), (30, 2, 0)] ∧
        (s.bigRole = true → t.lnk.beacon = { s.lnk.beacon with act := true, actSlot := BitVec.ofNat 40 (s.bootN 24 5), actId := 0 }) ∧
        Spoke s t src (writeResp tid 0x3500 0x35 0)) ∧
    (Asks s src → b ≠ s.dGet 0x3500 0x23 →
      let c := s.dU 0x3500 0x20
      let want := s.dU 0x3500 0x21 % 2 ^ 40
      let free := s.bootState = 1 ∧ s.actArmed = false ∧ s.boot.handOver = none
      let h := (imgAt stage c s).getD 0
      (∀ st : Status, (st = 2 ∧ ¬free) ∨ (st = 0x0E ∧ free ∧ handOverOk c s = false) ∨
          (st = 3 ∧ free ∧ handOverOk c s = true ∧ want ≠ 0 ∧ slotBegun want s = true) →
        ∃ t, exec (.hoRequest src tid v) s = .next t ∧ Shown s t src tid 0x23 0x24 st st ∧ { t with links := s.links, dict := s.dict, results := s.results } = s) ∧
      (free → handOverOk c s = true → (want ≠ 0 ∧ slotBegun want s = false) → s.physOf 5 = some q → s.isOn 10 = true → h + 256 + imgBody h s ≤ 0x20000000 →
        c = 1 ∨ c = 2 →
        ∃ t, exec (.hoRequest src tid v) s = .next t ∧ t.boot.handOver = some { cls := Fin.ofNat 4 c, core := if c = 1 then 1 else 2, slot := want } ∧
          t.kz.swapArm = true ∧ t.kz.swapCore = BitVec.ofNat 3 c ∧ (t.resOf 0x3500 0x24).pending = true ∧ (vget t.kz.phys q).halted = false ∧
          (vget t.kz.phys q).pc = BitVec.ofNat 32 (0x20300000 + imgEntry h s) ∧ (vget t.kz.phys q).gr 1 = 0x20300000 ∧
          (∀ k, k < imgBody h s → t.rd8 (0x20300000 + k) = s.rd8 (h + 256 + k)) ∧ Spoke s t src (writeResp tid 0x3500 0x23 0))) ∧
    (s.boot.handOver = some o → slotBegun o.slot s = true → s.kz.swapArm = true → s.kz.swapCore = BitVec.ofNat 3 o.core.1 → o.core ≠ 5 →
      s.physOf o.core = some p → s.physOf 5 = some q → p ≠ q → (vget s.kz.phys q).halted = false → (vget s.kz.phys q).waiting = true →
      ∃ t, exec .coreSwap s = .next t ∧ t.physOf o.core = some q ∧ t.physOf 5 = some p ∧ t.boot.handOver = none ∧ t.dGet 0x3500 0x24 = [0] ∧
        ∀ a, a < 0x20000000 → t.rd8 a = (bootPut [(2, 1, 2), (3, 1, 0), (29, 1, 4)] s).rd8 a)

/-! ### Health, self-tests and registers -/

namespace Sys2Proof.Machine

/-- The newest record of HEALTH_EVENTS is one of this detector, unit and action, marked when injected; the older ones stand behind it. -/
def Reported (s t : State) (id unit act : Nat) (injected : Bool) : Prop :=
  t.dGet 0x3600 0x80 =
    ((slotBytes s ++ [BitVec.ofNat 8 id, BitVec.ofNat 8 unit, BitVec.ofNat 8 act, BitVec.ofNat 8 (b2n injected)] ++ List.replicate 7 0) ++
      s.dGet 0x3600 0x80).take 256

/-- The device is awake, and no sleep is armed. -/
def Awake (s : State) : Prop := s.pcc.asleep = false ∧ s.pcc.armed = false

/-- The device stands at its boot ROM with a reset cause. -/
def AtReset (t : State) (cause : Nat) : Prop := t.dU 0x1200 5 = cause ∧ t.boot.stage = .rom ∧ t.links.serving = .none ∧ t.role = 0

/-- A request of the health chapter answered, with the same status in its result entry. -/
def HealthAnswer (s t : State) (src : Src) (tid : Byte) (sub : Byte) (result : Nat) (st : Status) : Prop :=
  t.dGet 0x3600 result = [st] ∧ Spoke s t src (writeResp tid 0x3600 sub st)

end Sys2Proof.Machine

/-- Monitors, the lifetime record, watchdogs, the supervisor and fault injection: With HMON_CTRL.EN set, MONITOR_SAMPLE stores its reading; a
temperature that rises above TEMP_WARN sets its HMON_STAT bit, raises the life maximum and logs detector 0x12; a process reading of -5 % or less
sets PROC_DRIFT. LIFETIME_RECORD_SAVE keeps the maxima and the hot minutes. WATCHDOG_KICK of 0x6A by the core itself clears its expiry, anything
else does nothing. A first WATCHDOG_EXPIRY sets SUP_STAT, counts, logs detector 4 and gives the core its NMI; a second one resets the device for
core 0 and restarts another core with cause 2. SUPERVISOR_MISMATCH resets with cause 4. Injections, asked for by a host or by HMON_INJ, are refused
in the order of R481; REPORT sets the detector's bit and logs the event as injected, and ACT of detector 0x15 resets the device, of 0x14 holds the
port down. (R476, R477, R478, R479, R480, R481, R486, R487, R489, R513) -/
def Obligations.MonitorsAndInjection : Prop :=
  ∀ (s : State) (i : Fin 6) (j : Fin 4) (x : BitVec 16) (c p : Fin 6) (m : Master) (v : BitVec 32) (src : Src) (tid : Byte) (now : Nat),
    let only := fun (t : State) => { t with regs := s.regs, dict := s.dict, evf := s.evf, hlt := { t.hlt with warm := s.hlt.warm, hot := s.hlt.hot } } = s
    let mode := s.dU 0x3600 0x62
    let d := s.dU 0x3600 0x60
    let u := s.dU 0x3600 0x61
    let idle := s.hlt.hold = 0 ∧ s.mem.mig = .idle ∧ s.hlt.roll = none ∧ s.hlt.bist = none
    let go := BitVec.ofNat 32 (2 ^ 31 + d + 256 * u)
    let done := fun (t : State) => t.dGet 0x3600 0x65 = [0] ∧ t.regN 0x400A0074 = 0
    (s.regB 0x400A0000 1 = true →
      (∃ t, exec (.monitorSample 6 x) s = .next t ∧ t.dGet 0x3600 0x40 = leBytes 2 x.toNat ∧ OtherEntries s t 0x3600 0x40 ∧ only t) ∧
      (s.isOn (tempDomain i) = true → s.hlt.warm.getLsbD i.1 = false → s.hlt.crit.getLsbD i.1 = false →
        s.dI 0x3600 0x4A < x.toInt → x.toInt ≤ s.dI 0x3600 0x4B → Awake s →
        ∃ t, exec (.monitorSample (Fin.ofNat 15 i.1) x) s = .next t ∧ t.dGet 0x3600 (0x30 + i.1) = leBytes 2 x.toNat ∧
          t.dGet 0x3600 (0x36 + i.1) = (if s.dI 0x3600 (0x36 + i.1) < x.toInt then leBytes 2 x.toNat else s.dGet 0x3600 (0x36 + i.1)) ∧
          t.regB 0x400A0004 i.1 = true ∧ t.hlt.warm = s.hlt.warm ||| (1#6 <<< i.1) ∧ Reported s t 0x12 i.1 0 false ∧ only t) ∧
      (∃ t, exec (.monitorSample (Fin.ofNat 15 (11 + j.1)) x) s = .next t ∧ t.dGet 0x3600 (0x45 + j.1) = leBytes 2 x.toNat ∧
        (x.toInt ≤ -50 → t.regB 0x400A0004 17 = true) ∧ (-50 < x.toInt → t.reg 0x400A0004 = s.reg 0x400A0004) ∧ only t)) ∧
    (∃ t, exec .lifetimeRecordSave s = .next t ∧ (∀ k : Fin 6, vget t.hlt.lifeMax k = BitVec.ofNat 16 (s.dU 0x3600 (0x36 + k.1))) ∧
      t.hlt.lifeHot = BitVec.ofNat 32 (s.dU 0x3600 0x3C) ∧ { t with hlt := { t.hlt with lifeMax := s.hlt.lifeMax, lifeHot := s.hlt.lifeHot } } = s) ∧
    (∀ sys, (v.toNat % 256 = 0x6A → exec (.watchdogKick (.core c sys) c v) s =
        .next { s with hlt := { s.hlt with expired := s.hlt.expired &&& ~~~(1#6 <<< c.1) } }) ∧
      (v.toNat % 256 ≠ 0x6A → exec (.watchdogKick m c v) s = .next s) ∧ (c ≠ p → exec (.watchdogKick (.core p sys) c v) s = .next s)) ∧
    (watchdogCounts c s = true → s.physOf c = some p → Awake s →
      (s.hlt.expired.getLsbD c.1 = false → (vget s.kz.phys p).sw.getLsbD 16 = false →
        ∃ t, exec (.watchdogExpiry c) s = .next t ∧ t.hlt = { s.hlt with expired := s.hlt.expired ||| (1#6 <<< c.1) } ∧ t.regB 0x40010000 c.1 = true ∧
          t.dU 0x3600 0x78 = min (s.dU 0x3600 0x78 + 1) 0xFFFFFFFF ∧ Reported s t 4 c.1 0 false ∧
          (vget t.kz.phys p).pc = (vget s.kz.phys p).tbase + 0x120 ∧ (vget t.kz.phys p).npc = (vget s.kz.phys p).pc ∧
          { t with regs := s.regs, dict := s.dict, evf := s.evf, hlt := s.hlt, kz := { t.kz with phys := vset t.kz.phys p (vget s.kz.phys p) } } = s) ∧
      (s.hlt.expired.getLsbD c.1 = true →
        (c = 0 → ∃ t, exec (.watchdogExpiry c) s = .next t ∧ AtReset t 3) ∧
        (c ≠ 0 → ∃ t, exec (.watchdogExpiry c) s = .next t ∧ vget t.kz.cause c = 2 ∧ (vget t.kz.phys p).halted = false ∧ t.hlt.expired.getLsbD c.1 = false ∧
          t.dU 0x3600 0x78 = min (s.dU 0x3600 0x78 + 1) 0xFFFFFFFF ∧ t.dU 0x3600 0x79 = min (s.dU 0x3600 0x79 + 1) 0xFFFFFFFF))) ∧
    (∃ t, exec .supervisorMismatch s = .next t ∧ AtReset t 4) ∧
    (Asks s src → leBytes 4 v.toNat ≠ s.dGet 0x3600 0x64 →
      (∀ st : Status, (mode = 0 ∧ detUnits d ≤ u ∧ st = 0x0E) ∨ (mode = 0 ∧ u < detUnits d ∧ ¬idle ∧ st = 1) ∨ (mode = 1 ∧ actAllowed d u = false ∧ st = 0x0E) ∨
          (mode = 1 ∧ actAllowed d u = true ∧ (∃ k, detClass d = some k ∧ s.sparesLeft k = 0) ∧ st = 0x0B) ∨
          (mode = 1 ∧ actAllowed d u = true ∧ detClass d = none ∧ ¬idle ∧ st = 1) →
        (∃ t, exec (.injectReport (some src) tid v) s = .next t ∧ HealthAnswer s t src tid 0x64 0x65 st ∧ t.regN 0x400A0074 = st.toNat ∧
          { t with links := s.links, dict := s.dict, results := s.results, regs := s.regs } = s) ∧
        (∃ t, exec (.injectAct (some src) tid v now) s = .next t ∧ HealthAnswer s t src tid 0x64 0x65 st)) ∧
      (mode = 0 → idle → u = 0 →
        ∀ x ∈ [(0x0F, 3), (0x11, 5)], d = x.1 →
          ∃ t, exec (.injectReport (some src) tid v) s = .next t ∧ HealthAnswer s t src tid 0x64 0x65 0 ∧ t.regN 0x400A0074 = 0 ∧
            t.regB 0x40100020 x.2 = true ∧ t.regB 0x400A0004 18 = true ∧ Reported s t d 0 0 true ∧
            { t with links := s.links, dict := s.dict, results := s.results, regs := s.regs, evf := s.evf } = s) ∧
      (mode = 1 → idle → u = 0 →
        (d = 0x15 → ∃ t, exec (.injectAct (some src) tid v now) s = .next t ∧ AtReset t 4) ∧
        (d = 0x14 → ∃ t, exec (.injectAct (some src) tid v now) s = .next t ∧ HealthAnswer s t src tid 0x64 0x65 0 ∧ t.hlt.hold = 1 ∧
          t.plk.up = s.plk.up &&& 2#2 ∧ t.regB 0x40240004 2 = true ∧ Reported s t 0x14 0 0 true))) ∧
    (idle → u = 0 →
      (∀ x ∈ [(0x0F, 3), (0x11, 5)], d = x.1 →
        ∃ t, exec (.injectReport none tid go) s = .next t ∧ done t ∧ t.regB 0x40100020 x.2 = true ∧ t.regB 0x400A0004 18 = true ∧ Reported s t d 0 0 true) ∧
      (d = 0x15 → ∃ t, exec (.injectAct none tid (go ||| 0x10000) now) s = .next t ∧ AtReset t 4))

/-- Shutdown, the rolling self-test, and the boundary-scan reset: SHUTDOWN is refused with BUSY while a self-test runs and with NOT_READY outside
R493, and else begins the self-test with the radio functions stopped and the role unchanged. BIST_DONE of an action 1 resets the device, of an
action 2 clears PWR_HOLD with BIST_SLOT and BIST_VALID in the record, of an action 0 leaves every domain but AON and BKP OFF. ROLL_REQUEST puts the
spare lane in the place of lane 0 and tests that lane; ROLL_UNIT_DONE returns it; ROLL_GAP_EXPIRY begins the next unit; BIST_ABORT ends either test
with ABORTED. A boundary-scan instruction holds the device in reset with cause 1, every core halted, until TEST_LOGIC_RESET. (R491, R492, R493,
R494, R495, R527) -/
def Obligations.SelfTests : Prop :=
  ∀ (s : State) (src : Src) (tid : Byte) (v : BitVec 32) (now : Nat) (a : Fin 3) (ms : List (BitVec 16)) (r : Roll) (l : Fin 32) (p q : Fin 36) (fails : Bool)
    (rest : List (Fin 36)) (more : List TestUnit) (x y : Fin 34) (slices : List (Fin 34)),
    let idle := s.hlt.bist = none ∧ s.hlt.roll = none
    let b := leBytes 4 v.toNat
    (Asks s src → b ≠ s.dGet 0x3600 0x50 →
      (∀ st : Status, (st = 1 ∧ (¬idle ∨ s.hlt.closing.isSome = true)) ∨ (st = 2 ∧ idle ∧ s.hlt.closing = none ∧ testReady s = false) →
        ∃ t, exec (.shutdown src tid v) s = .next t ∧ HealthAnswer s t src tid 0x50 0x55 st ∧ { t with links := s.links, dict := s.dict, results := s.results } = s) ∧
      (idle → s.hlt.closing = none → testReady s = true → partnerReady s = false →
        ∃ t, exec (.shutdown src tid v) s = .next t ∧ t.hlt.bist = some (Fin.ofNat 3 (s.dU 0x3600 0x51)) ∧ (t.resOf 0x3600 0x55).pending = true ∧
          t.regB 0x400B0000 2 = true ∧ t.role = s.role ∧ t.links.proxies = [] ∧ t.rf.armed = [] ∧ t.rf.pend = none)) ∧
    (s.hlt.bist = some a →
      (a = 0 → ∃ t, exec (.bistDone [] ms) s = .next t ∧ (∀ d : Fin 24, 2 ≤ d.1 → vget t.pcc.dom d = .off) ∧ t.links.serving = .none ∧ t.hlt.bist = none) ∧
      (a = 1 → ∃ t, exec (.bistDone [] ms) s = .next t ∧ AtReset t 2) ∧
      (a = 2 → ∃ t, exec (.bistDone [] ms) s = .next t ∧ t.bkp = { s.bkp with pwrHold := false } ∧ t.hlt = { s.hlt with bist := none } ∧
        t.dGet 0x3600 0x55 = [0] ∧ Rewritten s t [(40, 5, s.absSlot), (45, 1, 1)] ∧ t.regB 0x400B0000 2 = false)) ∧
    (s.hlt.bist = none → exec (.bistDone [] ms) s = .next s) ∧
    (idle → testReady s = true → vget s.rx.laneMap 0 = some p → s.rx.laneSpare = q :: rest → s.isOn dLANE0 = true → s.laneFrame 0 = none →
      let begun := fun (t : State) => t.hlt.roll = some { cur := some (.lane 0, p.1), left := rollAll.tail } ∧ vget t.rx.laneMap 0 = some q ∧
        t.rx.laneSpare = rest ∧ t.regB 0x400B0000 3 = true ∧ (t.resOf 0x3600 0x55).pending = true
      (Asks s src → b ≠ s.dGet 0x3600 0x52 → ∃ t, exec (.rollRequest (some src) tid v now) s = .next t ∧ begun t ∧ Spoke s t src (writeResp tid 0x3600 0x52 0)) ∧
      (v.getLsbD 0 = true → ∃ t, exec (.rollRequest none tid v now) s = .next t ∧ begun t)) ∧
    (Asks s src → b ≠ s.dGet 0x3600 0x52 →
      ∀ st : Status, (st = 1 ∧ ¬idle) ∨ (st = 2 ∧ idle ∧ testReady s = false) →
        ∃ t, exec (.rollRequest (some src) tid v now) s = .next t ∧ Refused s t src tid 0x3600 0x52 st) ∧
    (s.hlt.roll = some r →
      (r.cur = some (.lane l, p.1) → vget s.rx.laneMap l = some q → s.rx.laneSpare = rest → r.left ≠ [] →
        ∃ t, exec (.rollUnitDone fails) s = .next t ∧ vget t.rx.laneMap l = some p ∧ t.rx.laneSpare = q :: rest ∧ t.hlt.roll = some { r with
          cur := none, tested := r.tested + 1, ms := r.ms + 2, failed := if fails then r.failed ++ [.lane l] else r.failed }) ∧
      (r.cur = some (.lane l, p.1) → vget s.rx.laneMap l = some q → s.rx.laneSpare = rest → r.left = [] →
        ∃ t, exec (.rollUnitDone fails) s = .next t ∧ vget t.rx.laneMap l = some p ∧ t.rx.laneSpare = q :: rest ∧ t.hlt.roll = none ∧
          t.dGet 0x3600 0x55 = [0] ∧ t.regB 0x400B0000 3 = false) ∧
      (r.cur = none → r.left = .slice l :: more → vget s.rx.sliceMap l = some x → s.rx.sliceSpare = y :: slices → s.isOn dCAPTURE = true →
        ∃ t, exec (.rollGapExpiry now) s = .next t ∧ vget t.rx.sliceMap l = some y ∧ t.rx.sliceSpare = slices ∧
          t.hlt.roll = some { r with left := more, cur := some (.slice l, x.1) }) ∧
      (r.cur ≠ none → exec (.rollGapExpiry now) s = .next s)) ∧
    (¬idle → ∃ t, exec .bistAbort s = .next t ∧ t.hlt = { s.hlt with bist := none, roll := none, closing := none } ∧ t.dGet 0x3600 0x55 = [0x14] ∧
      t.regB 0x400B0000 2 = false ∧ t.regB 0x400B0000 3 = false) ∧
    (idle → exec .bistAbort s = .next s) ∧
    (∀ k : Fin 5, ∃ t, exec (.boundaryScanInstruction k) s = .next t ∧ AtReset t 1 ∧ t.boot.scan = true ∧ ∀ c : Fin 6, (vget t.kz.phys c).halted = true) ∧
    (s.boot.scan = true →
      exec .testLogicReset s = .next { s with boot := { s.boot with scan := false }, kz := { s.kz with phys := State.reset.kz.phys } })

/-- A register write follows the access codes, and LOCK_SET locks: A write by any master of a register at a multiple of 4 in a block that answers,
in a block whose registers have no effect of their own, gives its RW bits and, unless the block is locked, its RWL bits the value written, clears
W1C bits written with 1, sets W1S bits written with 1 and leaves every other bit of it and of every other register; a write to an address that holds
no register, or whose block does not answer, does nothing. LOCK_SET sets the LOCK bit of the timebase, of the PCC and of a block with a LOCK
register, and nothing else. (R16, R17, R84, R145, R190, R364, R448, R513) -/
def Obligations.Registers : Prop :=
  ∀ (s : State) (m : Master) (a v : BitVec 32) (r : RegRow), a.toNat % 4 = 0 →
    (a.toNat / 0x10000 ∈ [0x4011, 0x4013, 0x4024] → periphMapped a.toNat s = true →
      (regRow a.toNat = none → exec (.registerWrite m a v) s = .next s) ∧
      (regRow a.toNat = some r → mirrorsOf a.toNat = [] →
        ∃ t, exec (.registerWrite m a v) s = .next t ∧ (∀ c, c ≠ a.toNat → t.reg c = s.reg c) ∧ { t with regs := s.regs } = s ∧
          ∀ i, i < 32 →
            let free := r.rw.testBit i || (r.rwl.testBit i && !s.locked (a.toNat / 0x10000))
            t.regB a.toNat i = ((free && v.getLsbD i) || (r.w1c.testBit i && s.regB a.toNat i && !v.getLsbD i) ||
              (r.w1s.testBit i && (s.regB a.toNat i || v.getLsbD i)) || (!free && !r.w1c.testBit i && !r.w1s.testBit i && s.regB a.toNat i)))) ∧
    (0x40000000 ≤ a.toNat → a.toNat < 0x40250000 → periphMapped a.toNat s = false → exec (.registerWrite m a v) s = .next s) ∧
    (exec (.lockSet m 0x40050000) s = .next { s with ptb := { s.ptb with lock := true } } ∨ s.isOn dAON = false) ∧
    (exec (.lockSet m 0x40000000) s = .next { s with pcc := { s.pcc with lock := true } } ∨ s.isOn dAON = false) ∧
    (a.toNat ∈ [0x40070000, 0x400A0000, 0x40100000, 0x40110000, 0x40130000, 0x40140000, 0x40150000, 0x40160000, 0x40170000, 0x40240000] →
      periphMapped a.toNat s = true → ∃ t, exec (.lockSet m a) s = .next t ∧ Flagged s t a.toNat 0)

/-! ### The Peer Link and the twin pair -/

namespace Sys2Proof.Machine

/-- Only the Peer Link, and what registers, entries and the fabric show of it, have changed. -/
def OnlyPeer (s t : State) : Prop := { t with plk := s.plk, regs := s.regs, dict := s.dict, evf := s.evf } = s

/-- The Peer Link has sent this frame behind those before it, with the next SEQ of its class. -/
def PeerSent (s t : State) (f : PlkFrame) : Prop :=
  t.plk = { s.plk with out := s.plk.out ++ [{ f with src := s.plkPos, seq := vget s.plk.seq f.cls }], seq := vset s.plk.seq f.cls (vget s.plk.seq f.cls + 1) }

/-- An entry that counts has counted one. -/
def CountedEntry (s t : State) (sub : Nat) : Prop := t.dU 0x3700 sub = min (s.dU 0x3700 sub + 1) 0xFFFFFFFF

end Sys2Proof.Machine

/-- Peer Link frames, ports, heartbeats, phase and arbitration: A frame of header, payload, tag and CRC is parsed to its fields. PLK_FRAME_RECEIVE
counts a frame whose CRC or form fails, forwards one for another member by the other port, counts a tagged one whose tag fails, and takes a
heartbeat's member. PLK_LOSS_OF_SIGNAL marks the port down with its LOS bit and event, PLK_LINK_UP marks it up and ends a hold. PLK_HEARTBEAT_SEND
and PHASE_FRAME_SEND send role and count, and PD1's phase. PARTNER_LOST forgets a member. LINK_DELAY_MEASURE stores the delay and PHASE_LOSS marks
the loss. ARB_GRANT awards a channel to the site with more entries, and a site without a grant leaves its carrier out. (R498, R499, R500, R501,
R502, R503, R512) -/
def Obligations.PeerFrames : Prop :=
  (∀ (f : PlkFrame) (tag : List Byte), f.payload.length ≤ 1024 → tag.length = (if f.cls = 0 then 0 else 8) →
    let body := f.header ++ f.payload ++ tag
    plkParse (body ++ leBytes 4 (crc32 body)) = some ({ f with ports := 0 }, tag)) ∧
  ∀ (s : State) (b : Bool) (bytes tag : List Byte) (f : PlkFrame) (x : Fin 8) (m : Member) (ns : BitVec 16) (g : Sys2Proof.Machine.Group) (c : AckCarrier) (n : Nat),
    let bit_ : BitVec 2 := if b then 2 else 1
    let other : BitVec 2 := if b then 1 else 2
    let k := b2n b
    let runs := s.plkRuns = true
    let up := runs ∧ s.plk.up.getLsbD k = true
    let receive := fun (P : State → Prop) => ∃ t, exec (.plkFrameReceive b bytes) s = .next t ∧ OnlyPeer s t ∧ P t
    let lost := fun (t : State) => t.lnk = { s.lnk with group := some { g with carriers := [] } } ∧ CountedEntry s t 0x21
    (up →
      (plkParse bytes = none → receive (fun t => CountedEntry s t 0x23 ∧ Counted s t 0x40240020 ∧ t.plk = s.plk)) ∧
      (plkParse bytes = some (f, tag) → f.src ≠ s.plkPos →
        (f.bcast = false → f.dst ≠ s.plkPos → s.plk.up &&& other ≠ 0 →
          receive (fun t => t.plk = { s.plk with out := s.plk.out ++ [{ f with ports := other }] } ∧ t.regs = s.regs ∧ t.dict = s.dict)) ∧
        (f.bcast = false → f.dst = s.plkPos → f.cls ≠ 0 → (∀ key, s.plkKey = some key → f.tag key ≠ tag) →
          receive (fun t => CountedEntry s t 0x24 ∧ Counted s t 0x40240024 ∧ t.plk = s.plk)) ∧
        (f.bcast = true → f.cls = 0 → f.type = 0 → s.twinOn = false → s.plk.up &&& other ≠ 0 →
          receive (fun t => t.plk = { s.plk with out := s.plk.out ++ [{ f with ports := other }], members := vset s.plk.members f.src (some {
            role := leNat (f.payload.take 1), master := bit (leNat ((f.payload.drop 1).take 1)) 0
            tookOver := bit (leNat ((f.payload.drop 1).take 1)) 1, count := BitVec.ofNat 32 (leNat ((f.payload.drop 2).take 4)) }) })))) ∧
    (up → ∃ t, exec (.plkLossOfSignal b) s = .next t ∧ t.plk = { s.plk with up := s.plk.up &&& ~~~bit_ } ∧ t.regB 0x40240004 (2 + k) = true ∧
      t.regF 0x40240004 1 0 = (s.plk.up &&& ~~~bit_).toNat ∧ Reported s t 0x14 k 0 false ∧ OnlyPeer s t) ∧
    (runs → ∃ t, exec (.plkLinkUp b) s = .next t ∧ t.plk = { s.plk with up := s.plk.up ||| bit_ } ∧ t.hlt = { s.hlt with hold := s.hlt.hold &&& ~~~bit_ } ∧
      (s.hlt.hold = bit_ → t.regB 0x400A0004 18 = true) ∧ OnlyPeer { s with hlt := t.hlt } t) ∧
    (runs → s.plk.up ≠ 0 →
      (heartbeatRuns s = true → s.cwy.peerOut = [] →
        let p := leBytes 1 s.role ++ leBytes 1 (b2n (s.role == 3) + 2 * b2n s.plk.tookOver) ++ leBytes 4 (s.dU 0x1200 3)
        ∃ t, exec .plkHeartbeatSend s = .next t ∧ OnlyPeer s t ∧
          PeerSent s t { cls := 0, type := 0, bcast := true, src := 0, dst := 0, ports := s.plk.up, payload := p }) ∧
      (s.role = 3 →
        let p := leBytes 4 (vget s.ptb.pd 1).phase.toNat ++ leBytes 4 (vget s.ptb.pd 1).rev.toNat
        ∃ t, exec .phaseFrameSend s = .next t ∧ OnlyPeer s t ∧
          PeerSent s t { cls := 0, type := 1, bcast := true, src := 0, dst := 0, ports := s.plk.up, payload := p })) ∧
    (s.role ≠ 3 → exec .phaseFrameSend s = .next s) ∧
    (s.member x = some m →
      (s.twinOn = false → ∃ t, exec (.partnerLost x) s = .next t ∧ t.plk = { s.plk with members := vset s.plk.members x none } ∧
        t.regB 0x40240004 7 = true ∧ OnlyPeer s t) ∧
      (s.twinOn = true → x = s.plkPartner → ∃ t, exec (.partnerLost x) s = .next t ∧ t.plk = { s.plk with
        members := vset s.plk.members x none, alone := true, mirror := if s.role = 3 ∧ s.plk.mirror = 1 then 2 else s.plk.mirror } ∧ OnlyPeer s t)) ∧
    (s.member x = none → exec (.partnerLost x) s = .next s) ∧
    (up → exec (.linkDelayMeasure b ns) s = .next (s.setRegN (0x40240014 + 4 * k) ns.toNat)) ∧
    (s.pd1Source = .peer → s.plk.phaseLost = false →
      ∃ t, exec .phaseLoss s = .next t ∧ t.plk = { s.plk with phaseLost := true } ∧ t.dGet 0x3700 8 = [1] ∧ t.regB 0x40240004 5 = true ∧
        OnlyPeer { s with links := t.links } t) ∧
    (s.arbitrated = true → s.lnk.group = some g → g.sealed = true → g.carriers = [c] → c.entries.length = 1 →
      (s.role ≠ 3 → s.plk.grants = none →
        ∃ t, exec .arbGrant s = .next t ∧ lost t ∧ t.plk = { s.plk with claims := [] } ∧ OnlyPeer { s with lnk := t.lnk, bkt := t.bkt } t) ∧
      (s.role = 3 → s.plk.claims = [(x, [(c.chan, n)])] → x ≠ s.plkPos → 1 < n → runs → s.member x = some m → s.plk.up ≠ 0 →
        ∃ t, exec .arbGrant s = .next t ∧ lost t ∧ PeerSent { s with plk := { s.plk with claims := [], grants := none } } t
          { cls := 0, type := 5, src := 0, dst := x, payload := [BitVec.ofNat 8 c.chan], ports := plkPorts false x s })) ∧
    (s.arbitrated = false → exec .arbGrant s = .next s)

/-- The mirror journal, takeover, demotion and the planned switch: MIRROR_RECORD of an active twin journals its record and, with the partner
present, sends it as class 1; with the partner lost the mirror is RECORDING. JOURNAL_OVERFLOW makes it STALE. BEACON_WAIT_EXPIRY without a preamble
makes a standby whose partner is lost the root, with TOOK_OVER and the count; DEMOTION_LISTEN that hears a beacon, and DUAL_ROOT_RESOLVE at a root
that did not take over, give the role back. TWIN_SWITCH is refused with NOT_READY or LATE, and else armed and told to the partner;
TWIN_SWITCH_EXECUTE at the slot exchanges the roles. TWIN_START_LISTEN_END asks for role 4 when a beacon was heard, else for role 3. (R504, R505,
R506, R508, R509, R510) -/
def Obligations.TwinPair : Prop :=
  ∀ (s : State) (kind : MirrorKind) (data : List Byte) (i : Fin 64) (src : Src) (tid : Byte) (v : BitVec 32) (x : Fin 8) (m : Member) (slot : Nat),
    let rec_ := data.take 1024
    let seq := vget s.plk.seq 1
    let entry := (seq, leBytes 1 (mirrorType kind).1 ++ rec_)
    let want := s.dU 0x3700 0x18 % 2 ^ 40
    (s.twinActive = true →
      (s.member s.plkPartner = none → ∃ t, exec (.mirrorRecord kind data) s = .next t ∧ t.plk = { s.plk with
          journal := s.plk.journal ++ [entry], seq := vset s.plk.seq 1 (seq + 1), mirror := if s.plk.mirror = 3 then 3 else 2 } ∧ OnlyPeer s t) ∧
      (s.member s.plkPartner = some m → s.plk.up ≠ 0 → s.plk.duplicate = false →
        ∃ t, exec (.mirrorRecord kind data) s = .next t ∧ OnlyPeer s t ∧
          PeerSent { s with plk := { s.plk with journal := s.plk.journal ++ [entry], mirror := if s.plk.mirror = 3 then 3 else 1 } } t
            { cls := 1, type := mirrorType kind, src := 0, dst := s.plkPartner, payload := rec_, ports := plkPorts false s.plkPartner s }) ∧
      (∃ t, exec .journalOverflow s = .next t ∧ t.plk = { s.plk with mirror := 3, journal := [] } ∧ t.dGet 0x3700 0x14 = [3] ∧ OnlyPeer s t)) ∧
    (s.role = 4 → s.twinOn = true → s.member s.plkPartner = none → s.plk.alone = true → (s.sg i).type = 3 →
      (∃ t, exec (.beaconWaitExpiry i false) s = .next t ∧ t.role = 3 ∧ t.plk = { s.plk with tookOver := true, mirror := 0, journal := [] } ∧
        CountedEntry s t 0x16 ∧ t.dGet 0x3700 0x17 = leBytes 8 s.absSlot ∧ t.regB 0x40240004 8 = true ∧ t.slu.queues = s.slu.queues ∧ t.sec = s.sec) ∧
      exec (.beaconWaitExpiry i true) s = .next s) ∧
    (s.role = 3 → s.plk.tookOver = true → s.member s.plkPartner = none → s.cycle % 16 = 15 →
      (∃ t, exec (.demotionListen true) s = .next t ∧ t.role = 4 ∧ t.plk = { s.plk with tookOver := false, switchAt := none } ∧ CountedEntry s t 0x1B ∧
        t.regB 0x40240004 9 = true) ∧
      exec (.demotionListen false) s = .next s) ∧
    (s.role = 3 → s.twinOn = true → s.plk.tookOver = false → s.member x = some m → x ≠ s.plkPos → m.role = 3 →
      ∃ t, exec .dualRootResolve s = .next t ∧ t.role = 4 ∧ t.plk = { s.plk with switchAt := none, mirror := 3 } ∧ CountedEntry s t 0x1B) ∧
    (Asks s src → leBytes 4 v.toNat ≠ s.dGet 0x3700 0x19 →
      (∀ st : Status, (st = 2 ∧ partnerReady s = false) ∨ (st = 3 ∧ partnerReady s = true ∧ slotBegun want s = true) →
        ∃ t, exec (.twinSwitch src tid v) s = .next t ∧ t.dGet 0x3700 0x1A = [st] ∧ Spoke s t src (writeResp tid 0x3700 0x19 st) ∧
          { t with links := s.links, dict := s.dict, results := s.results } = s) ∧
      (partnerReady s = true → slotBegun want s = false → s.plkRuns = true → s.plk.up ≠ 0 → s.plk.duplicate = false → s.plkKey.isSome = true →
        ∃ t, exec (.twinSwitch src tid v) s = .next t ∧ t.dGet 0x3700 0x1A = [0] ∧ Spoke s t src (writeResp tid 0x3700 0x19 0) ∧
          PeerSent { s with plk := { s.plk with switchAt := some want } } t
            { cls := 1, type := 7, src := 0, dst := s.plkPartner, payload := leBytes 5 want, ports := plkPorts false s.plkPartner s })) ∧
    (s.plk.switchAt = some slot → s.hlt.closing = none →
      (slotBegun slot s = true →
        (s.role = 3 → ∃ t, exec .twinSwitchExecute s = .next t ∧ t.role = 4 ∧ t.plk = { s.plk with switchAt := none, mirror := 0, journal := [] }) ∧
        (s.role = 4 → ∃ t, exec .twinSwitchExecute s = .next t ∧ t.role = 3 ∧ t.plk = { s.plk with switchAt := none })) ∧
      (slotBegun slot s = false → exec .twinSwitchExecute s = .next s)) ∧
    (s.plk.listen = true → s.role = 0 →
      (∀ heard, (∀ d : Fin 24, s.isOn d = true) →
        ∃ t, exec (.twinStartListenEnd heard) s = .next t ∧ t.role = (if heard then 4 else 3) ∧ t.plk.listen = false)) ∧
    (s.plk.listen = false → exec (.twinStartListenEnd true) s = .next s)

/-! ### The whole machine -/

/-- A step runs the command at the front of the queue: With a command at the front of its queue, a step is that command's exec on the state with the
rest of the queue; with an empty queue and no dictionary request waiting a step changes nothing. That a step on an empty queue serves the oldest
waiting request is the model's own choice (log entry 2), and is stated too. (R32) -/
def Obligations.FrontCommandRuns : Prop :=
  ∀ (c : Instr) (rest : List Instr) (s : State),
    step { s with pending := c :: rest } = exec c { s with pending := rest } ∧
    (s.pending = [] → s.links.waiting = [] → step s = .next s) ∧ (s.pending = [] → step s = .next (serveOne s))

/-- The machine right after its first reset: At reset the role is 0, the cause POWER_ON, no region is set; AON, BKP, CORE0, SRAM0 and FLASH are ON
and every other domain OFF; the boot ROM is about to run, nothing serves the dictionary, no command waits; SW of every core is 0x400 with every
general register 0; memory is in its canonical form and reads erased in the slots of the flash; AON and BKP are powered. (R2, R22, R326, R367, R425,
R426, R451) -/
def Obligations.ResetState : Prop :=
  let s := State.reset
  s.role = 0 ∧ s.dU 0x1200 5 = 0 ∧ s.plan = 0 ∧
  (∀ d : Fin 24, vget s.pcc.dom d = (if d.1 = 0 ∨ d.1 = 1 ∨ d.1 = 2 ∨ d.1 = 8 ∨ d.1 = 11 then .on else .off)) ∧
  s.boot.stage = .rom ∧ s.links.serving = .none ∧ s.pending = [] ∧ s.links.waiting = [] ∧
  (∀ p : Fin 6, (vget s.kz.phys p).sw = 0x400 ∧ ∀ r, (vget s.kz.phys p).gr r = 0) ∧ s.MemCanonical ∧
  (∀ a, 0x10020000 ≤ a → a < 0x10320000 ∨ (0x10400000 ≤ a ∧ a < 0x10700000) → a < 0x10700000 → s.rd8 a = 0xFF) ∧ s.Powered

/-- FENCE and IFENCE change no flag and no register: Where a core runs FENCE or IFENCE, nothing of the machine changes but that core, and of that
core no flag, no general, system, accumulator, address or firewall register: only its PC goes on by R339, with the cycle counted. (R338) -/
def Obligations.FencesChangeNoRegister : Prop :=
  ∀ (s : State) (c p : Fin 6), KzReady s c p →
    KzDoes s p (.fence c) (fun k k' => KzOnward k k' 1 ∧ KzOnly k k') ∧ KzDoes s p (.ifence c) (fun k k' => KzOnward k k' 1 ∧ KzOnly k k')

/-- A comparator that fires with FIRED set fires again and sets OVR: A comparator whose FIRED flag is set and that fires has FIRED and OVR set, and
its producer fires in the fabric as at any firing; one whose FIRED flag is clear fires the same way and leaves OVR as it was. (R82) -/
def Obligations.FiringAgainSetsOverrun : Prop :=
  ∀ (s : State) (m : Fin 16) (index : Nat),
    let c := vget s.ptb.cmp m
    let t := comparatorFire m index s
    let d := vget t.ptb.cmp m
    d.fired = true ∧ d.ovr = (c.ovr || c.fired) ∧ (∀ x, x ≠ m → vget t.ptb.cmp x = vget s.ptb.cmp x) ∧
    t = fire m.1 { s with ptb := t.ptb } ∧ { t with ptb := s.ptb, evf := s.evf } = s

/-- No step takes AON or BKP out of ON: From every state in which the domains AON and BKP are ON, reached or not, whatever command stands at the
front of the queue, or with none, a step that answers a next state leaves both ON. (R426, R451) -/
def Obligations.PoweredKept : Prop :=
  ∀ s t : State, s.Powered → step s = .next t → t.Powered
end

