-- ==== Sys2Proof/Laws/Base.lean ====
section
/-! SUPPORT. Laws of vectors, association lists, byte strings and memory: a read after a write, writes elsewhere, and the canonical form. -/

namespace Sys2Proof.Machine

/-! ### Vectors -/

@[simp] theorem vget_vset_self {α : Type} {n : Nat} (v : Vector α n) (i : Fin n) (x : α) : vget (vset v i x) i = x := by
  simp [vget, vset]

theorem vget_vset {α : Type} {n : Nat} (v : Vector α n) (i j : Fin n) (x : α) : vget (vset v i x) j = if i = j then x else vget v j := by
  simp [vget, vset, Vector.getElem_set, Fin.ext_iff]

@[simp] theorem vget_vset_ne {α : Type} {n : Nat} {v : Vector α n} {i j : Fin n} {x : α} (h : i ≠ j) : vget (vset v i x) j = vget v j := by
  simp [vget_vset, h]

@[simp] theorem vget_vmod_self {α : Type} {n : Nat} (v : Vector α n) (i : Fin n) (f : α → α) : vget (vmod v i f) i = f (vget v i) := by
  simp [vmod]

theorem vget_vmod {α : Type} {n : Nat} (v : Vector α n) (i j : Fin n) (f : α → α) :
    vget (vmod v i f) j = if i = j then f (vget v i) else vget v j := by
  simp [vmod, vget_vset]

@[simp] theorem vset_vget {α : Type} {n : Nat} (v : Vector α n) (i : Fin n) : vset v i (vget v i) = v := by
  simp [vset, vget]

@[simp] theorem vset_vset {α : Type} {n : Nat} (v : Vector α n) (i : Fin n) (x y : α) : vset (vset v i x) i y = vset v i y := by
  simp [vset]

@[simp] theorem vmod_vset {α : Type} {n : Nat} (v : Vector α n) (i : Fin n) (x : α) (f : α → α) : vmod (vset v i x) i f = vset v i (f x) := by
  simp [vmod]

@[simp] theorem vset_vmod {α : Type} {n : Nat} (v : Vector α n) (i : Fin n) (x : α) (f : α → α) : vset (vmod v i f) i x = vset v i x := by
  simp [vmod]

theorem vmod_eq {α : Type} {n : Nat} (v : Vector α n) (i : Fin n) (f : α → α) : vmod v i f = vset v i (f (vget v i)) := rfl

theorem vector_ext {α : Type} {n : Nat} {v w : Vector α n} (h : ∀ i, vget v i = vget w i) : v = w := by
  ext i hi
  exact h ⟨i, hi⟩

/-! ### Association lists -/

theorem alGet_alPut_self {α : Type} (m : List (Nat × α)) (k : Nat) (v : α) : alGet (alPut m k v) k = some v := by
  induction m with
  | nil => simp [alPut, alGet]
  | cons x r ih =>
    obtain ⟨a, b⟩ := x
    simp only [alPut]
    split
    · simp [alGet]
    · split
      · simp [alGet]
      · rename_i h1 h2
        have : a ≠ k := fun h => h2 h.symm
        simp [alGet, this, ih]

theorem alGet_alPut_ne {α : Type} (m : List (Nat × α)) {k j : Nat} (v : α) (h : j ≠ k) : alGet (alPut m k v) j = alGet m j := by
  induction m with
  | nil => simp [alPut, alGet, h.symm]
  | cons x r ih =>
    obtain ⟨a, b⟩ := x
    simp only [alPut]
    split
    · simp [alGet, h.symm]
    · split
      · rename_i h2
        subst h2
        simp [alGet, h.symm]
      · simp [alGet, ih]

theorem alGet_alDel_self {α : Type} (m : List (Nat × α)) (k : Nat) : alGet (alDel m k) k = none := by
  induction m with
  | nil => rfl
  | cons x r ih =>
    obtain ⟨a, b⟩ := x
    simp only [alDel]
    split
    · exact ih
    · rename_i h
      simp [alGet, h, ih]

theorem alGet_alDel_ne {α : Type} (m : List (Nat × α)) {k j : Nat} (h : j ≠ k) : alGet (alDel m k) j = alGet m j := by
  induction m with
  | nil => rfl
  | cons x r ih =>
    obtain ⟨a, b⟩ := x
    simp only [alDel]
    split
    · rename_i h2
      subst h2
      simp [alGet, h.symm, ih]
    · simp [alGet, ih]

/-! ### Byte strings (R18) -/

theorem leBytes_length (n v : Nat) : (leBytes n v).length = n := by
  induction n generalizing v with
  | zero => rfl
  | succ n ih => simp [leBytes, ih]

theorem leNat_leBytes (n v : Nat) : leNat (leBytes n v) = v % 256 ^ n := by
  induction n generalizing v with
  | zero => simp [leBytes, leNat, Nat.mod_one]
  | succ n ih =>
    simp only [leBytes, leNat, ih, BitVec.toNat_ofNat]
    rw [show 256 ^ (n + 1) = 256 * 256 ^ n from by rw [Nat.pow_succ, Nat.mul_comm], Nat.mod_mul]

/-! ### Memory: the canonical form and the laws of one byte -/

theorem read_write_self (m : List Host.Cell) (a : Nat) (b : Byte) : Memory.read (Memory.write m a b) a = b := by
  unfold Memory.read Memory.write
  split
  · rename_i h
    simp [alGet_alDel_self, h]
  · simp [alGet_alPut_self]

theorem read_write_ne (m : List Host.Cell) {a x : Nat} (b : Byte) (h : x ≠ a) : Memory.read (Memory.write m a b) x = Memory.read m x := by
  unfold Memory.read Memory.write
  split
  · rw [alGet_alDel_ne m h]
  · rw [alGet_alPut_ne m b h]

/-- Reading after a byte string is written: its own byte inside, the old byte outside. -/
theorem read_writeN (bs : List Byte) (m : List Host.Cell) (a x : Nat) :
    Memory.read (Memory.writeN m a bs) x = if a ≤ x ∧ x < a + bs.length then bs.getD (x - a) 0 else Memory.read m x := by
  induction bs generalizing m a with
  | nil => simp [Memory.writeN]
  | cons b bs ih =>
    rw [Memory.writeN, ih]
    by_cases h1 : a + 1 ≤ x ∧ x < a + 1 + bs.length
    · have h2 : a ≤ x ∧ x < a + (b :: bs).length := by simp; omega
      rw [if_pos h1, if_pos h2]
      have : x - a = (x - (a + 1)) + 1 := by omega
      rw [this, List.getD_cons_succ]
    · rw [if_neg h1]
      by_cases h3 : x = a
      · subst h3
        simp [read_write_self]
      · rw [read_write_ne m b h3, if_neg]
        simp only [List.length_cons]
        omega

theorem readN_length (m : List Host.Cell) (a n : Nat) : (Memory.readN m a n).length = n := by
  induction n generalizing a with
  | zero => rfl
  | succ n ih => simp [Memory.readN, ih]

theorem getElem_readN (m : List Host.Cell) (a n k : Nat) (h : k < (Memory.readN m a n).length) : (Memory.readN m a n)[k] = Memory.read m (a + k) := by
  induction n generalizing a k with
  | zero => simp [Memory.readN] at h
  | succ n ih =>
    cases k with
    | zero => simp [Memory.readN]
    | succ k =>
      simp only [Memory.readN, List.getElem_cons_succ]
      rw [ih, Nat.add_assoc, Nat.add_comm 1 k]

/-- A range read lies within any longer one read around it. -/
theorem readN_sub (m : List Host.Cell) {a i n w : Nat} (h : i + n ≤ w) : Memory.readN m (a + i) n = ((Memory.readN m a w).drop i).take n := by
  apply List.ext_getElem
  · simp [readN_length]; omega
  · intro k h1 h2
    rw [getElem_readN, List.getElem_take, List.getElem_drop, getElem_readN, Nat.add_assoc]

/-- A byte string reads back whole. -/
theorem readN_writeN_self (m : List Host.Cell) (a : Nat) (bs : List Byte) : Memory.readN (Memory.writeN m a bs) a bs.length = bs := by
  apply List.ext_getElem
  · exact readN_length _ _ _
  · intro k h1 h2
    rw [getElem_readN, read_writeN, if_pos (by omega)]
    simp [h2]

/-- A range that a write leaves alone reads as before. -/
theorem readN_writeN_other (m : List Host.Cell) {a x n : Nat} (bs : List Byte) (h : x + n ≤ a ∨ a + bs.length ≤ x) :
    Memory.readN (Memory.writeN m a bs) x n = Memory.readN m x n := by
  apply List.ext_getElem
  · simp [readN_length]
  · intro k h1 h2
    rw [readN_length] at h1
    rw [getElem_readN, getElem_readN, read_writeN, if_neg (by omega)]
/-- Every key of a list lies above a bound. -/
def above {α : Type} (k : Nat) (m : List (Nat × α)) : Prop := ∀ c ∈ m, k < c.1

theorem alSorted_cons {α : Type} (k : Nat) (v : α) (m : List (Nat × α)) : alSorted ((k, v) :: m) = true ↔ above k m ∧ alSorted m = true := by
  induction m generalizing k v with
  | nil => simp [alSorted, above]
  | cons x r ih =>
    obtain ⟨a, b⟩ := x
    simp only [alSorted, Bool.and_eq_true, decide_eq_true_eq]
    constructor
    · intro ⟨h, hs⟩
      refine ⟨?_, hs⟩
      intro c hc
      rcases List.mem_cons.1 hc with h1 | h1
      · simp [h1, h]
      · exact lt_trans h (((ih a b).1 hs).1 c h1)
    · intro ⟨h, hs⟩
      exact ⟨h (a, b) (by simp), hs⟩

theorem mem_alPut {α : Type} {m : List (Nat × α)} {k : Nat} {v : α} {c : Nat × α} (h : c ∈ alPut m k v) : c = (k, v) ∨ c ∈ m := by
  induction m with
  | nil => simpa [alPut] using h
  | cons x r ih =>
    obtain ⟨a, b⟩ := x
    simp only [alPut] at h
    split at h
    · simpa using h
    · split at h
      · rcases List.mem_cons.1 h with h1 | h1
        · exact .inl h1
        · exact .inr (List.mem_cons_of_mem _ h1)
      · rcases List.mem_cons.1 h with h1 | h1
        · exact .inr (by simp [h1])
        · rcases ih h1 with h2 | h2
          · exact .inl h2
          · exact .inr (List.mem_cons_of_mem _ h2)

theorem mem_alDel {α : Type} {m : List (Nat × α)} {k : Nat} {c : Nat × α} (h : c ∈ alDel m k) : c ∈ m := by
  induction m with
  | nil => simp [alDel] at h
  | cons x r ih =>
    obtain ⟨a, b⟩ := x
    simp only [alDel] at h
    split at h
    · exact List.mem_cons_of_mem _ (ih h)
    · rcases List.mem_cons.1 h with h1 | h1
      · simp [h1]
      · exact List.mem_cons_of_mem _ (ih h1)

theorem alSorted_alPut {α : Type} (m : List (Nat × α)) (k : Nat) (v : α) (h : alSorted m = true) : alSorted (alPut m k v) = true := by
  induction m with
  | nil => rfl
  | cons x r ih =>
    obtain ⟨a, b⟩ := x
    have ha := (alSorted_cons a b r).1 h
    simp only [alPut]
    split
    · rename_i h1
      exact (alSorted_cons k v _).2 ⟨fun c hc => by
        rcases List.mem_cons.1 hc with h2 | h2
        · simp [h2, h1]
        · exact lt_trans h1 (ha.1 c h2), h⟩
    · split
      · rename_i h1 h2
        subst h2
        exact (alSorted_cons _ v r).2 ha
      · rename_i h1 h2
        refine (alSorted_cons a b _).2 ⟨fun c hc => ?_, ih ha.2⟩
        rcases mem_alPut hc with h3 | h3
        · simp [h3]; omega
        · exact ha.1 c h3

theorem alSorted_alDel {α : Type} (m : List (Nat × α)) (k : Nat) (h : alSorted m = true) : alSorted (alDel m k) = true := by
  induction m with
  | nil => rfl
  | cons x r ih =>
    obtain ⟨a, b⟩ := x
    have ha := (alSorted_cons a b r).1 h
    simp only [alDel]
    split
    · exact ih ha.2
    · exact (alSorted_cons a b _).2 ⟨fun c hc => ha.1 c (mem_alDel hc), ih ha.2⟩

/-- A write keeps the canonical form. -/
theorem write_wf (m : List Host.Cell) (a : Nat) (b : Byte) (h : Memory.wf m = true) : Memory.wf (Memory.write m a b) = true := by
  simp only [Memory.wf, Bool.and_eq_true, List.all_eq_true, decide_eq_true_eq] at h ⊢
  unfold Memory.write
  split
  · exact ⟨alSorted_alDel m a h.1, fun c hc => h.2 c (mem_alDel hc)⟩
  · rename_i hb
    refine ⟨alSorted_alPut m a b h.1, fun c hc => ?_⟩
    rcases mem_alPut hc with h1 | h1
    · simpa [h1] using hb
    · exact h.2 c h1

/-- A byte string written keeps the canonical form. -/
theorem writeN_wf (bs : List Byte) (m : List Host.Cell) (a : Nat) (h : Memory.wf m = true) : Memory.wf (Memory.writeN m a bs) = true := by
  induction bs generalizing m a with
  | nil => exact h
  | cons b bs ih => exact ih _ _ (write_wf m a b h)

theorem alSorted_filter {α : Type} (p : Nat × α → Bool) (m : List (Nat × α)) (h : alSorted m = true) : alSorted (m.filter p) = true := by
  induction m with
  | nil => rfl
  | cons x r ih =>
    obtain ⟨a, b⟩ := x
    have ha := (alSorted_cons a b r).1 h
    by_cases hp : p (a, b) = true
    · rw [List.filter_cons_of_pos hp]
      exact (alSorted_cons a b _).2 ⟨fun c hc => ha.1 c (List.mem_filter.1 hc).1, ih ha.2⟩
    · rw [List.filter_cons_of_neg hp]
      exact ih ha.2

/-- A range cleared keeps the canonical form. -/
theorem clear_wf (m : List Host.Cell) (lo hi : Nat) (h : Memory.wf m = true) : Memory.wf (Memory.clear m lo hi) = true := by
  simp only [Memory.wf, Bool.and_eq_true, List.all_eq_true] at h ⊢
  exact ⟨alSorted_filter _ m h.1, fun c hc => h.2 c (List.mem_filter.1 hc).1⟩

end Sys2Proof.Machine
end

