-- ==== Sys2Proof/Laws/Kz.lean ====
section
/-! SUPPORT. What an instruction of a KZ core does once its fetch has passed: in sequence, by a transfer, or by an exception. -/

namespace Sys2Proof.Machine

@[simp] theorem kmod_phys_self (p : Fin 6) (f : Core → Core) (s : State) : vget (kmod p f s).kz.phys p = f (vget s.kz.phys p) := by simp [kmod]

theorem kmod_phys_ne {p q : Fin 6} (f : Core → Core) (s : State) (h : p ≠ q) : vget (kmod p f s).kz.phys q = vget s.kz.phys q := by
  simp [kmod, vget_vmod, h]

@[simp] theorem kmod_kmod (p : Fin 6) (f g : Core → Core) (s : State) : kmod p g (kmod p f s) = kmod p (fun k => g (f k)) s := by
  simp [kmod, vmod_eq]

/-- A change of a core, said by the core it becomes. -/
theorem kmod_const (p : Fin 6) (f : Core → Core) (s : State) : kmod p f s = kmod p (fun _ => f (vget s.kz.phys p)) s := by
  simp [kmod, vmod_eq]

theorem correctOnRead_clean {a : Nat} {s : State} (h : s.mem.soft.contains (eccUnit a) = false) : correctOnRead a s = s := by
  simp only [correctOnRead, h, Bool.false_eq_true, if_false]

/-- An instruction whose fetch passes does what its effect says, on its physical core. -/
theorem kzRun_ready {s : State} {c p : Fin 6} (h : KzReady s c p) (cost : Nat) (f : Fin 6 → State → KzRes) :
    kzRun c cost f s =
      match f p s with
      | .next t => kmod p (fun k => (k.tick cost).advance) t
      | .jump t a => if a.toNat % 4 ≠ 0 then raiseExc c p excAlign s else kmod p (fun k => { k.tick cost with pc := a }) t
      | .exc t e => raiseExc c p e t := by
  unfold kzRun
  rw [h.mapped]
  simp only [h.fetches, h.bank, h.cause, correctOnRead_clean h.clean]
  rfl

/-- An instruction that acts on its own core alone. -/
theorem kzCore_ready {s : State} {c p : Fin 6} (h : KzReady s c p) (cost : Nat) (f : Core → Core) :
    kzCore c cost f s = kmod p (fun _ => ((f (vget s.kz.phys p)).tick cost).advance) s := by
  unfold kzCore
  rw [kzRun_ready h]
  simp only
  rw [kmod_kmod, kmod_const]

/-- An exception outside a handler is entered; inside one it stops the core. -/
theorem raiseExc_enter {s : State} {c p : Fin 6} {e : Exc} (h : (vget s.kz.phys p).swBit swTRP = false)
    (h' : (vget s.kz.phys p).swBit swNMIL = false) : raiseExc c p e s = kmod p (fun _ => (vget s.kz.phys p).enter e) s := by
  unfold raiseExc
  simp only [h, h', Bool.or_self, Bool.false_eq_true, if_false]
  exact kmod_const ..

theorem raiseExc_double {s : State} {c p : Fin 6} {e : Exc} (h : (vget s.kz.phys p).swBit swTRP = true ∨ (vget s.kz.phys p).swBit swNMIL = true) :
    raiseExc c p e s = doubleFault c p s := by
  unfold raiseExc
  rcases h with h | h <;> simp [h]

/-! ### SW, bit by bit -/

theorem swSet_bit (sw : BitVec 32) (i j : Nat) (b : Bool) (hi : i < 32) : (swSet sw i b).getLsbD j = if j = i then b else sw.getLsbD j := by
  cases b <;> simp only [swSet, if_true, Bool.false_eq_true, if_false] <;> by_cases hj : j < 32 <;> by_cases hij : j = i <;>
    simp_all <;> omega

theorem swSticky_bit (sw : BitVec 32) (i j : Nat) (b : Bool) (hi : i < 32) :
    (swSticky sw i b).getLsbD j = (sw.getLsbD j || (decide (j = i) && b)) := by
  cases b
  · simp [swSticky]
  · simp only [swSticky, if_true, swSet_bit _ _ _ _ hi]
    by_cases h : j = i <;> simp [h]

theorem gr_setGr (k : Core) (r x : Fin 16) (v : BitVec 32) : (k.setGr r v).gr x = if x = r then (if r = 0 then 0 else v) else k.gr x := by
  unfold Core.setGr Core.gr
  by_cases hr : r = 0
  · by_cases hx : x = r <;> simp_all
  · by_cases hx : x = r
    · simp [hr, hx]
    · simp [hr, hx, Ne.symm hx]

end Sys2Proof.Machine
end

