-- ==== Sys2Proof/Laws/State.lean ====
section
/-! SUPPORT. One lemma per field and update: what each shared update of the state leaves as it was, so that no proof unfolds a record
update. -/

namespace Sys2Proof.Machine

section
variable (s : State)
@[simp] theorem State.draw_dict : s.draw.dict = s.dict := rfl
@[simp] theorem State.draw_results : s.draw.results = s.results := rfl
@[simp] theorem State.draw_saved : s.draw.saved = s.saved := rfl
@[simp] theorem State.draw_regs : s.draw.regs = s.regs := rfl
@[simp] theorem State.draw_links : s.draw.links = s.links := rfl
@[simp] theorem State.draw_ptb : s.draw.ptb = s.ptb := rfl
@[simp] theorem State.draw_evf : s.draw.evf = s.evf := rfl
@[simp] theorem State.draw_tmr : s.draw.tmr = s.tmr := rfl
@[simp] theorem State.draw_bkp : s.draw.bkp = s.bkp := rfl
@[simp] theorem State.draw_pcc : s.draw.pcc = s.pcc := rfl
@[simp] theorem State.draw_wave : s.draw.wave = s.wave := rfl
@[simp] theorem State.draw_bkt : s.draw.bkt = s.bkt := rfl
@[simp] theorem State.draw_rf : s.draw.rf = s.rf := rfl
@[simp] theorem State.draw_txm : s.draw.txm = s.txm := rfl
@[simp] theorem State.draw_rx : s.draw.rx = s.rx := rfl
@[simp] theorem State.draw_lnk : s.draw.lnk = s.lnk := rfl
@[simp] theorem State.draw_cwy : s.draw.cwy = s.cwy := rfl
@[simp] theorem State.draw_slu : s.draw.slu = s.slu := rfl
@[simp] theorem State.draw_sec : s.draw.sec = s.sec := rfl
@[simp] theorem State.draw_kz : s.draw.kz = s.kz := rfl
@[simp] theorem State.draw_mem : s.draw.mem = s.mem := rfl
@[simp] theorem State.draw_boot : s.draw.boot = s.boot := rfl
@[simp] theorem State.draw_hlt : s.draw.hlt = s.hlt := rfl
@[simp] theorem State.draw_plk : s.draw.plk = s.plk := rfl
@[simp] theorem State.draw_pending : s.draw.pending = s.pending := rfl
end

section
variable (s : State) (x y : Nat) (v : List Byte)
@[simp] theorem State.dSet_results : (s.dSet x y v).results = s.results := rfl
@[simp] theorem State.dSet_saved : (s.dSet x y v).saved = s.saved := rfl
@[simp] theorem State.dSet_regs : (s.dSet x y v).regs = s.regs := rfl
@[simp] theorem State.dSet_links : (s.dSet x y v).links = s.links := rfl
@[simp] theorem State.dSet_ptb : (s.dSet x y v).ptb = s.ptb := rfl
@[simp] theorem State.dSet_evf : (s.dSet x y v).evf = s.evf := rfl
@[simp] theorem State.dSet_tmr : (s.dSet x y v).tmr = s.tmr := rfl
@[simp] theorem State.dSet_bkp : (s.dSet x y v).bkp = s.bkp := rfl
@[simp] theorem State.dSet_pcc : (s.dSet x y v).pcc = s.pcc := rfl
@[simp] theorem State.dSet_wave : (s.dSet x y v).wave = s.wave := rfl
@[simp] theorem State.dSet_bkt : (s.dSet x y v).bkt = s.bkt := rfl
@[simp] theorem State.dSet_rf : (s.dSet x y v).rf = s.rf := rfl
@[simp] theorem State.dSet_txm : (s.dSet x y v).txm = s.txm := rfl
@[simp] theorem State.dSet_rx : (s.dSet x y v).rx = s.rx := rfl
@[simp] theorem State.dSet_lnk : (s.dSet x y v).lnk = s.lnk := rfl
@[simp] theorem State.dSet_cwy : (s.dSet x y v).cwy = s.cwy := rfl
@[simp] theorem State.dSet_slu : (s.dSet x y v).slu = s.slu := rfl
@[simp] theorem State.dSet_sec : (s.dSet x y v).sec = s.sec := rfl
@[simp] theorem State.dSet_kz : (s.dSet x y v).kz = s.kz := rfl
@[simp] theorem State.dSet_mem : (s.dSet x y v).mem = s.mem := rfl
@[simp] theorem State.dSet_boot : (s.dSet x y v).boot = s.boot := rfl
@[simp] theorem State.dSet_hlt : (s.dSet x y v).hlt = s.hlt := rfl
@[simp] theorem State.dSet_plk : (s.dSet x y v).plk = s.plk := rfl
@[simp] theorem State.dSet_drawn : (s.dSet x y v).drawn = s.drawn := rfl
@[simp] theorem State.dSet_pending : (s.dSet x y v).pending = s.pending := rfl
end

section
variable (s : State) (x y v : Nat)
@[simp] theorem State.dPut_results : (s.dPut x y v).results = s.results := rfl
@[simp] theorem State.dPut_saved : (s.dPut x y v).saved = s.saved := rfl
@[simp] theorem State.dPut_regs : (s.dPut x y v).regs = s.regs := rfl
@[simp] theorem State.dPut_links : (s.dPut x y v).links = s.links := rfl
@[simp] theorem State.dPut_ptb : (s.dPut x y v).ptb = s.ptb := rfl
@[simp] theorem State.dPut_evf : (s.dPut x y v).evf = s.evf := rfl
@[simp] theorem State.dPut_tmr : (s.dPut x y v).tmr = s.tmr := rfl
@[simp] theorem State.dPut_bkp : (s.dPut x y v).bkp = s.bkp := rfl
@[simp] theorem State.dPut_pcc : (s.dPut x y v).pcc = s.pcc := rfl
@[simp] theorem State.dPut_wave : (s.dPut x y v).wave = s.wave := rfl
@[simp] theorem State.dPut_bkt : (s.dPut x y v).bkt = s.bkt := rfl
@[simp] theorem State.dPut_rf : (s.dPut x y v).rf = s.rf := rfl
@[simp] theorem State.dPut_txm : (s.dPut x y v).txm = s.txm := rfl
@[simp] theorem State.dPut_rx : (s.dPut x y v).rx = s.rx := rfl
@[simp] theorem State.dPut_lnk : (s.dPut x y v).lnk = s.lnk := rfl
@[simp] theorem State.dPut_cwy : (s.dPut x y v).cwy = s.cwy := rfl
@[simp] theorem State.dPut_slu : (s.dPut x y v).slu = s.slu := rfl
@[simp] theorem State.dPut_sec : (s.dPut x y v).sec = s.sec := rfl
@[simp] theorem State.dPut_kz : (s.dPut x y v).kz = s.kz := rfl
@[simp] theorem State.dPut_mem : (s.dPut x y v).mem = s.mem := rfl
@[simp] theorem State.dPut_boot : (s.dPut x y v).boot = s.boot := rfl
@[simp] theorem State.dPut_hlt : (s.dPut x y v).hlt = s.hlt := rfl
@[simp] theorem State.dPut_plk : (s.dPut x y v).plk = s.plk := rfl
@[simp] theorem State.dPut_drawn : (s.dPut x y v).drawn = s.drawn := rfl
@[simp] theorem State.dPut_pending : (s.dPut x y v).pending = s.pending := rfl
end

section
variable (s : State) (x y : Nat)
@[simp] theorem State.dBump_results : (s.dBump x y).results = s.results := rfl
@[simp] theorem State.dBump_saved : (s.dBump x y).saved = s.saved := rfl
@[simp] theorem State.dBump_regs : (s.dBump x y).regs = s.regs := rfl
@[simp] theorem State.dBump_links : (s.dBump x y).links = s.links := rfl
@[simp] theorem State.dBump_ptb : (s.dBump x y).ptb = s.ptb := rfl
@[simp] theorem State.dBump_evf : (s.dBump x y).evf = s.evf := rfl
@[simp] theorem State.dBump_tmr : (s.dBump x y).tmr = s.tmr := rfl
@[simp] theorem State.dBump_bkp : (s.dBump x y).bkp = s.bkp := rfl
@[simp] theorem State.dBump_pcc : (s.dBump x y).pcc = s.pcc := rfl
@[simp] theorem State.dBump_wave : (s.dBump x y).wave = s.wave := rfl
@[simp] theorem State.dBump_bkt : (s.dBump x y).bkt = s.bkt := rfl
@[simp] theorem State.dBump_rf : (s.dBump x y).rf = s.rf := rfl
@[simp] theorem State.dBump_txm : (s.dBump x y).txm = s.txm := rfl
@[simp] theorem State.dBump_rx : (s.dBump x y).rx = s.rx := rfl
@[simp] theorem State.dBump_lnk : (s.dBump x y).lnk = s.lnk := rfl
@[simp] theorem State.dBump_cwy : (s.dBump x y).cwy = s.cwy := rfl
@[simp] theorem State.dBump_slu : (s.dBump x y).slu = s.slu := rfl
@[simp] theorem State.dBump_sec : (s.dBump x y).sec = s.sec := rfl
@[simp] theorem State.dBump_kz : (s.dBump x y).kz = s.kz := rfl
@[simp] theorem State.dBump_mem : (s.dBump x y).mem = s.mem := rfl
@[simp] theorem State.dBump_boot : (s.dBump x y).boot = s.boot := rfl
@[simp] theorem State.dBump_hlt : (s.dBump x y).hlt = s.hlt := rfl
@[simp] theorem State.dBump_plk : (s.dBump x y).plk = s.plk := rfl
@[simp] theorem State.dBump_drawn : (s.dBump x y).drawn = s.drawn := rfl
@[simp] theorem State.dBump_pending : (s.dBump x y).pending = s.pending := rfl
end

section
variable (s : State) (x y : Nat)
@[simp] theorem State.resPend_dict : (s.resPend x y).dict = s.dict := rfl
@[simp] theorem State.resPend_saved : (s.resPend x y).saved = s.saved := rfl
@[simp] theorem State.resPend_regs : (s.resPend x y).regs = s.regs := rfl
@[simp] theorem State.resPend_links : (s.resPend x y).links = s.links := rfl
@[simp] theorem State.resPend_ptb : (s.resPend x y).ptb = s.ptb := rfl
@[simp] theorem State.resPend_evf : (s.resPend x y).evf = s.evf := rfl
@[simp] theorem State.resPend_tmr : (s.resPend x y).tmr = s.tmr := rfl
@[simp] theorem State.resPend_bkp : (s.resPend x y).bkp = s.bkp := rfl
@[simp] theorem State.resPend_pcc : (s.resPend x y).pcc = s.pcc := rfl
@[simp] theorem State.resPend_wave : (s.resPend x y).wave = s.wave := rfl
@[simp] theorem State.resPend_bkt : (s.resPend x y).bkt = s.bkt := rfl
@[simp] theorem State.resPend_rf : (s.resPend x y).rf = s.rf := rfl
@[simp] theorem State.resPend_txm : (s.resPend x y).txm = s.txm := rfl
@[simp] theorem State.resPend_rx : (s.resPend x y).rx = s.rx := rfl
@[simp] theorem State.resPend_lnk : (s.resPend x y).lnk = s.lnk := rfl
@[simp] theorem State.resPend_cwy : (s.resPend x y).cwy = s.cwy := rfl
@[simp] theorem State.resPend_slu : (s.resPend x y).slu = s.slu := rfl
@[simp] theorem State.resPend_sec : (s.resPend x y).sec = s.sec := rfl
@[simp] theorem State.resPend_kz : (s.resPend x y).kz = s.kz := rfl
@[simp] theorem State.resPend_mem : (s.resPend x y).mem = s.mem := rfl
@[simp] theorem State.resPend_boot : (s.resPend x y).boot = s.boot := rfl
@[simp] theorem State.resPend_hlt : (s.resPend x y).hlt = s.hlt := rfl
@[simp] theorem State.resPend_plk : (s.resPend x y).plk = s.plk := rfl
@[simp] theorem State.resPend_drawn : (s.resPend x y).drawn = s.drawn := rfl
@[simp] theorem State.resPend_pending : (s.resPend x y).pending = s.pending := rfl
end

section
variable (s : State) (x y : Nat) (v : List Byte)
@[simp] theorem State.produce_saved : (s.produce x y v).saved = s.saved := rfl
@[simp] theorem State.produce_regs : (s.produce x y v).regs = s.regs := rfl
@[simp] theorem State.produce_links : (s.produce x y v).links = s.links := rfl
@[simp] theorem State.produce_ptb : (s.produce x y v).ptb = s.ptb := rfl
@[simp] theorem State.produce_evf : (s.produce x y v).evf = s.evf := rfl
@[simp] theorem State.produce_tmr : (s.produce x y v).tmr = s.tmr := rfl
@[simp] theorem State.produce_bkp : (s.produce x y v).bkp = s.bkp := rfl
@[simp] theorem State.produce_pcc : (s.produce x y v).pcc = s.pcc := rfl
@[simp] theorem State.produce_wave : (s.produce x y v).wave = s.wave := rfl
@[simp] theorem State.produce_bkt : (s.produce x y v).bkt = s.bkt := rfl
@[simp] theorem State.produce_rf : (s.produce x y v).rf = s.rf := rfl
@[simp] theorem State.produce_txm : (s.produce x y v).txm = s.txm := rfl
@[simp] theorem State.produce_rx : (s.produce x y v).rx = s.rx := rfl
@[simp] theorem State.produce_lnk : (s.produce x y v).lnk = s.lnk := rfl
@[simp] theorem State.produce_cwy : (s.produce x y v).cwy = s.cwy := rfl
@[simp] theorem State.produce_slu : (s.produce x y v).slu = s.slu := rfl
@[simp] theorem State.produce_sec : (s.produce x y v).sec = s.sec := rfl
@[simp] theorem State.produce_kz : (s.produce x y v).kz = s.kz := rfl
@[simp] theorem State.produce_mem : (s.produce x y v).mem = s.mem := rfl
@[simp] theorem State.produce_boot : (s.produce x y v).boot = s.boot := rfl
@[simp] theorem State.produce_hlt : (s.produce x y v).hlt = s.hlt := rfl
@[simp] theorem State.produce_plk : (s.produce x y v).plk = s.plk := rfl
@[simp] theorem State.produce_drawn : (s.produce x y v).drawn = s.drawn := rfl
@[simp] theorem State.produce_pending : (s.produce x y v).pending = s.pending := rfl
end

section
variable (s : State) (x y : Nat) (v : Status)
@[simp] theorem State.produceSt_saved : (s.produceSt x y v).saved = s.saved := rfl
@[simp] theorem State.produceSt_regs : (s.produceSt x y v).regs = s.regs := rfl
@[simp] theorem State.produceSt_links : (s.produceSt x y v).links = s.links := rfl
@[simp] theorem State.produceSt_ptb : (s.produceSt x y v).ptb = s.ptb := rfl
@[simp] theorem State.produceSt_evf : (s.produceSt x y v).evf = s.evf := rfl
@[simp] theorem State.produceSt_tmr : (s.produceSt x y v).tmr = s.tmr := rfl
@[simp] theorem State.produceSt_bkp : (s.produceSt x y v).bkp = s.bkp := rfl
@[simp] theorem State.produceSt_pcc : (s.produceSt x y v).pcc = s.pcc := rfl
@[simp] theorem State.produceSt_wave : (s.produceSt x y v).wave = s.wave := rfl
@[simp] theorem State.produceSt_bkt : (s.produceSt x y v).bkt = s.bkt := rfl
@[simp] theorem State.produceSt_rf : (s.produceSt x y v).rf = s.rf := rfl
@[simp] theorem State.produceSt_txm : (s.produceSt x y v).txm = s.txm := rfl
@[simp] theorem State.produceSt_rx : (s.produceSt x y v).rx = s.rx := rfl
@[simp] theorem State.produceSt_lnk : (s.produceSt x y v).lnk = s.lnk := rfl
@[simp] theorem State.produceSt_cwy : (s.produceSt x y v).cwy = s.cwy := rfl
@[simp] theorem State.produceSt_slu : (s.produceSt x y v).slu = s.slu := rfl
@[simp] theorem State.produceSt_sec : (s.produceSt x y v).sec = s.sec := rfl
@[simp] theorem State.produceSt_kz : (s.produceSt x y v).kz = s.kz := rfl
@[simp] theorem State.produceSt_mem : (s.produceSt x y v).mem = s.mem := rfl
@[simp] theorem State.produceSt_boot : (s.produceSt x y v).boot = s.boot := rfl
@[simp] theorem State.produceSt_hlt : (s.produceSt x y v).hlt = s.hlt := rfl
@[simp] theorem State.produceSt_plk : (s.produceSt x y v).plk = s.plk := rfl
@[simp] theorem State.produceSt_drawn : (s.produceSt x y v).drawn = s.drawn := rfl
@[simp] theorem State.produceSt_pending : (s.produceSt x y v).pending = s.pending := rfl
end

section
variable (s : State) (a : Nat) (v : BitVec 32)
@[simp] theorem State.setReg_dict : (s.setReg a v).dict = s.dict := rfl
@[simp] theorem State.setReg_results : (s.setReg a v).results = s.results := rfl
@[simp] theorem State.setReg_saved : (s.setReg a v).saved = s.saved := rfl
@[simp] theorem State.setReg_links : (s.setReg a v).links = s.links := rfl
@[simp] theorem State.setReg_ptb : (s.setReg a v).ptb = s.ptb := rfl
@[simp] theorem State.setReg_evf : (s.setReg a v).evf = s.evf := rfl
@[simp] theorem State.setReg_tmr : (s.setReg a v).tmr = s.tmr := rfl
@[simp] theorem State.setReg_bkp : (s.setReg a v).bkp = s.bkp := rfl
@[simp] theorem State.setReg_pcc : (s.setReg a v).pcc = s.pcc := rfl
@[simp] theorem State.setReg_wave : (s.setReg a v).wave = s.wave := rfl
@[simp] theorem State.setReg_bkt : (s.setReg a v).bkt = s.bkt := rfl
@[simp] theorem State.setReg_rf : (s.setReg a v).rf = s.rf := rfl
@[simp] theorem State.setReg_txm : (s.setReg a v).txm = s.txm := rfl
@[simp] theorem State.setReg_rx : (s.setReg a v).rx = s.rx := rfl
@[simp] theorem State.setReg_lnk : (s.setReg a v).lnk = s.lnk := rfl
@[simp] theorem State.setReg_cwy : (s.setReg a v).cwy = s.cwy := rfl
@[simp] theorem State.setReg_slu : (s.setReg a v).slu = s.slu := rfl
@[simp] theorem State.setReg_sec : (s.setReg a v).sec = s.sec := rfl
@[simp] theorem State.setReg_kz : (s.setReg a v).kz = s.kz := rfl
@[simp] theorem State.setReg_mem : (s.setReg a v).mem = s.mem := rfl
@[simp] theorem State.setReg_boot : (s.setReg a v).boot = s.boot := rfl
@[simp] theorem State.setReg_hlt : (s.setReg a v).hlt = s.hlt := rfl
@[simp] theorem State.setReg_plk : (s.setReg a v).plk = s.plk := rfl
@[simp] theorem State.setReg_drawn : (s.setReg a v).drawn = s.drawn := rfl
@[simp] theorem State.setReg_pending : (s.setReg a v).pending = s.pending := rfl
end

section
variable (s : State) (a v : Nat)
@[simp] theorem State.setRegN_dict : (s.setRegN a v).dict = s.dict := rfl
@[simp] theorem State.setRegN_results : (s.setRegN a v).results = s.results := rfl
@[simp] theorem State.setRegN_saved : (s.setRegN a v).saved = s.saved := rfl
@[simp] theorem State.setRegN_links : (s.setRegN a v).links = s.links := rfl
@[simp] theorem State.setRegN_ptb : (s.setRegN a v).ptb = s.ptb := rfl
@[simp] theorem State.setRegN_evf : (s.setRegN a v).evf = s.evf := rfl
@[simp] theorem State.setRegN_tmr : (s.setRegN a v).tmr = s.tmr := rfl
@[simp] theorem State.setRegN_bkp : (s.setRegN a v).bkp = s.bkp := rfl
@[simp] theorem State.setRegN_pcc : (s.setRegN a v).pcc = s.pcc := rfl
@[simp] theorem State.setRegN_wave : (s.setRegN a v).wave = s.wave := rfl
@[simp] theorem State.setRegN_bkt : (s.setRegN a v).bkt = s.bkt := rfl
@[simp] theorem State.setRegN_rf : (s.setRegN a v).rf = s.rf := rfl
@[simp] theorem State.setRegN_txm : (s.setRegN a v).txm = s.txm := rfl
@[simp] theorem State.setRegN_rx : (s.setRegN a v).rx = s.rx := rfl
@[simp] theorem State.setRegN_lnk : (s.setRegN a v).lnk = s.lnk := rfl
@[simp] theorem State.setRegN_cwy : (s.setRegN a v).cwy = s.cwy := rfl
@[simp] theorem State.setRegN_slu : (s.setRegN a v).slu = s.slu := rfl
@[simp] theorem State.setRegN_sec : (s.setRegN a v).sec = s.sec := rfl
@[simp] theorem State.setRegN_kz : (s.setRegN a v).kz = s.kz := rfl
@[simp] theorem State.setRegN_mem : (s.setRegN a v).mem = s.mem := rfl
@[simp] theorem State.setRegN_boot : (s.setRegN a v).boot = s.boot := rfl
@[simp] theorem State.setRegN_hlt : (s.setRegN a v).hlt = s.hlt := rfl
@[simp] theorem State.setRegN_plk : (s.setRegN a v).plk = s.plk := rfl
@[simp] theorem State.setRegN_drawn : (s.setRegN a v).drawn = s.drawn := rfl
@[simp] theorem State.setRegN_pending : (s.setRegN a v).pending = s.pending := rfl
end

section
variable (s : State) (a h l v : Nat)
@[simp] theorem State.setRegF_dict : (s.setRegF a h l v).dict = s.dict := rfl
@[simp] theorem State.setRegF_results : (s.setRegF a h l v).results = s.results := rfl
@[simp] theorem State.setRegF_saved : (s.setRegF a h l v).saved = s.saved := rfl
@[simp] theorem State.setRegF_links : (s.setRegF a h l v).links = s.links := rfl
@[simp] theorem State.setRegF_ptb : (s.setRegF a h l v).ptb = s.ptb := rfl
@[simp] theorem State.setRegF_evf : (s.setRegF a h l v).evf = s.evf := rfl
@[simp] theorem State.setRegF_tmr : (s.setRegF a h l v).tmr = s.tmr := rfl
@[simp] theorem State.setRegF_bkp : (s.setRegF a h l v).bkp = s.bkp := rfl
@[simp] theorem State.setRegF_pcc : (s.setRegF a h l v).pcc = s.pcc := rfl
@[simp] theorem State.setRegF_wave : (s.setRegF a h l v).wave = s.wave := rfl
@[simp] theorem State.setRegF_bkt : (s.setRegF a h l v).bkt = s.bkt := rfl
@[simp] theorem State.setRegF_rf : (s.setRegF a h l v).rf = s.rf := rfl
@[simp] theorem State.setRegF_txm : (s.setRegF a h l v).txm = s.txm := rfl
@[simp] theorem State.setRegF_rx : (s.setRegF a h l v).rx = s.rx := rfl
@[simp] theorem State.setRegF_lnk : (s.setRegF a h l v).lnk = s.lnk := rfl
@[simp] theorem State.setRegF_cwy : (s.setRegF a h l v).cwy = s.cwy := rfl
@[simp] theorem State.setRegF_slu : (s.setRegF a h l v).slu = s.slu := rfl
@[simp] theorem State.setRegF_sec : (s.setRegF a h l v).sec = s.sec := rfl
@[simp] theorem State.setRegF_kz : (s.setRegF a h l v).kz = s.kz := rfl
@[simp] theorem State.setRegF_mem : (s.setRegF a h l v).mem = s.mem := rfl
@[simp] theorem State.setRegF_boot : (s.setRegF a h l v).boot = s.boot := rfl
@[simp] theorem State.setRegF_hlt : (s.setRegF a h l v).hlt = s.hlt := rfl
@[simp] theorem State.setRegF_plk : (s.setRegF a h l v).plk = s.plk := rfl
@[simp] theorem State.setRegF_drawn : (s.setRegF a h l v).drawn = s.drawn := rfl
@[simp] theorem State.setRegF_pending : (s.setRegF a h l v).pending = s.pending := rfl
end

section
variable (s : State) (a n : Nat)
@[simp] theorem State.flag_dict : (s.flag a n).dict = s.dict := rfl
@[simp] theorem State.flag_results : (s.flag a n).results = s.results := rfl
@[simp] theorem State.flag_saved : (s.flag a n).saved = s.saved := rfl
@[simp] theorem State.flag_links : (s.flag a n).links = s.links := rfl
@[simp] theorem State.flag_ptb : (s.flag a n).ptb = s.ptb := rfl
@[simp] theorem State.flag_evf : (s.flag a n).evf = s.evf := rfl
@[simp] theorem State.flag_tmr : (s.flag a n).tmr = s.tmr := rfl
@[simp] theorem State.flag_bkp : (s.flag a n).bkp = s.bkp := rfl
@[simp] theorem State.flag_pcc : (s.flag a n).pcc = s.pcc := rfl
@[simp] theorem State.flag_wave : (s.flag a n).wave = s.wave := rfl
@[simp] theorem State.flag_bkt : (s.flag a n).bkt = s.bkt := rfl
@[simp] theorem State.flag_rf : (s.flag a n).rf = s.rf := rfl
@[simp] theorem State.flag_txm : (s.flag a n).txm = s.txm := rfl
@[simp] theorem State.flag_rx : (s.flag a n).rx = s.rx := rfl
@[simp] theorem State.flag_lnk : (s.flag a n).lnk = s.lnk := rfl
@[simp] theorem State.flag_cwy : (s.flag a n).cwy = s.cwy := rfl
@[simp] theorem State.flag_slu : (s.flag a n).slu = s.slu := rfl
@[simp] theorem State.flag_sec : (s.flag a n).sec = s.sec := rfl
@[simp] theorem State.flag_kz : (s.flag a n).kz = s.kz := rfl
@[simp] theorem State.flag_mem : (s.flag a n).mem = s.mem := rfl
@[simp] theorem State.flag_boot : (s.flag a n).boot = s.boot := rfl
@[simp] theorem State.flag_hlt : (s.flag a n).hlt = s.hlt := rfl
@[simp] theorem State.flag_plk : (s.flag a n).plk = s.plk := rfl
@[simp] theorem State.flag_drawn : (s.flag a n).drawn = s.drawn := rfl
@[simp] theorem State.flag_pending : (s.flag a n).pending = s.pending := rfl
end

section
variable (s : State) (a n : Nat)
@[simp] theorem State.unflag_dict : (s.unflag a n).dict = s.dict := rfl
@[simp] theorem State.unflag_results : (s.unflag a n).results = s.results := rfl
@[simp] theorem State.unflag_saved : (s.unflag a n).saved = s.saved := rfl
@[simp] theorem State.unflag_links : (s.unflag a n).links = s.links := rfl
@[simp] theorem State.unflag_ptb : (s.unflag a n).ptb = s.ptb := rfl
@[simp] theorem State.unflag_evf : (s.unflag a n).evf = s.evf := rfl
@[simp] theorem State.unflag_tmr : (s.unflag a n).tmr = s.tmr := rfl
@[simp] theorem State.unflag_bkp : (s.unflag a n).bkp = s.bkp := rfl
@[simp] theorem State.unflag_pcc : (s.unflag a n).pcc = s.pcc := rfl
@[simp] theorem State.unflag_wave : (s.unflag a n).wave = s.wave := rfl
@[simp] theorem State.unflag_bkt : (s.unflag a n).bkt = s.bkt := rfl
@[simp] theorem State.unflag_rf : (s.unflag a n).rf = s.rf := rfl
@[simp] theorem State.unflag_txm : (s.unflag a n).txm = s.txm := rfl
@[simp] theorem State.unflag_rx : (s.unflag a n).rx = s.rx := rfl
@[simp] theorem State.unflag_lnk : (s.unflag a n).lnk = s.lnk := rfl
@[simp] theorem State.unflag_cwy : (s.unflag a n).cwy = s.cwy := rfl
@[simp] theorem State.unflag_slu : (s.unflag a n).slu = s.slu := rfl
@[simp] theorem State.unflag_sec : (s.unflag a n).sec = s.sec := rfl
@[simp] theorem State.unflag_kz : (s.unflag a n).kz = s.kz := rfl
@[simp] theorem State.unflag_mem : (s.unflag a n).mem = s.mem := rfl
@[simp] theorem State.unflag_boot : (s.unflag a n).boot = s.boot := rfl
@[simp] theorem State.unflag_hlt : (s.unflag a n).hlt = s.hlt := rfl
@[simp] theorem State.unflag_plk : (s.unflag a n).plk = s.plk := rfl
@[simp] theorem State.unflag_drawn : (s.unflag a n).drawn = s.drawn := rfl
@[simp] theorem State.unflag_pending : (s.unflag a n).pending = s.pending := rfl
end

section
variable (s : State) (a : Nat)
@[simp] theorem State.bump_dict : (s.bump a).dict = s.dict := rfl
@[simp] theorem State.bump_results : (s.bump a).results = s.results := rfl
@[simp] theorem State.bump_saved : (s.bump a).saved = s.saved := rfl
@[simp] theorem State.bump_links : (s.bump a).links = s.links := rfl
@[simp] theorem State.bump_ptb : (s.bump a).ptb = s.ptb := rfl
@[simp] theorem State.bump_evf : (s.bump a).evf = s.evf := rfl
@[simp] theorem State.bump_tmr : (s.bump a).tmr = s.tmr := rfl
@[simp] theorem State.bump_bkp : (s.bump a).bkp = s.bkp := rfl
@[simp] theorem State.bump_pcc : (s.bump a).pcc = s.pcc := rfl
@[simp] theorem State.bump_wave : (s.bump a).wave = s.wave := rfl
@[simp] theorem State.bump_bkt : (s.bump a).bkt = s.bkt := rfl
@[simp] theorem State.bump_rf : (s.bump a).rf = s.rf := rfl
@[simp] theorem State.bump_txm : (s.bump a).txm = s.txm := rfl
@[simp] theorem State.bump_rx : (s.bump a).rx = s.rx := rfl
@[simp] theorem State.bump_lnk : (s.bump a).lnk = s.lnk := rfl
@[simp] theorem State.bump_cwy : (s.bump a).cwy = s.cwy := rfl
@[simp] theorem State.bump_slu : (s.bump a).slu = s.slu := rfl
@[simp] theorem State.bump_sec : (s.bump a).sec = s.sec := rfl
@[simp] theorem State.bump_kz : (s.bump a).kz = s.kz := rfl
@[simp] theorem State.bump_mem : (s.bump a).mem = s.mem := rfl
@[simp] theorem State.bump_boot : (s.bump a).boot = s.boot := rfl
@[simp] theorem State.bump_hlt : (s.bump a).hlt = s.hlt := rfl
@[simp] theorem State.bump_plk : (s.bump a).plk = s.plk := rfl
@[simp] theorem State.bump_drawn : (s.bump a).drawn = s.drawn := rfl
@[simp] theorem State.bump_pending : (s.bump a).pending = s.pending := rfl
end

section
variable (s : State) (l : Fin 5) (p : Sent)
@[simp] theorem State.push_dict : (s.push l p).dict = s.dict := rfl
@[simp] theorem State.push_results : (s.push l p).results = s.results := rfl
@[simp] theorem State.push_saved : (s.push l p).saved = s.saved := rfl
@[simp] theorem State.push_regs : (s.push l p).regs = s.regs := rfl
@[simp] theorem State.push_ptb : (s.push l p).ptb = s.ptb := rfl
@[simp] theorem State.push_evf : (s.push l p).evf = s.evf := rfl
@[simp] theorem State.push_tmr : (s.push l p).tmr = s.tmr := rfl
@[simp] theorem State.push_bkp : (s.push l p).bkp = s.bkp := rfl
@[simp] theorem State.push_pcc : (s.push l p).pcc = s.pcc := rfl
@[simp] theorem State.push_wave : (s.push l p).wave = s.wave := rfl
@[simp] theorem State.push_bkt : (s.push l p).bkt = s.bkt := rfl
@[simp] theorem State.push_rf : (s.push l p).rf = s.rf := rfl
@[simp] theorem State.push_txm : (s.push l p).txm = s.txm := rfl
@[simp] theorem State.push_rx : (s.push l p).rx = s.rx := rfl
@[simp] theorem State.push_lnk : (s.push l p).lnk = s.lnk := rfl
@[simp] theorem State.push_cwy : (s.push l p).cwy = s.cwy := rfl
@[simp] theorem State.push_slu : (s.push l p).slu = s.slu := rfl
@[simp] theorem State.push_sec : (s.push l p).sec = s.sec := rfl
@[simp] theorem State.push_kz : (s.push l p).kz = s.kz := rfl
@[simp] theorem State.push_mem : (s.push l p).mem = s.mem := rfl
@[simp] theorem State.push_boot : (s.push l p).boot = s.boot := rfl
@[simp] theorem State.push_hlt : (s.push l p).hlt = s.hlt := rfl
@[simp] theorem State.push_plk : (s.push l p).plk = s.plk := rfl
@[simp] theorem State.push_drawn : (s.push l p).drawn = s.drawn := rfl
@[simp] theorem State.push_pending : (s.push l p).pending = s.pending := rfl
end

section
variable (s : State) (n : Nat)
@[simp] theorem State.drawN_dict : (s.drawN n).dict = s.dict := rfl
@[simp] theorem State.drawN_results : (s.drawN n).results = s.results := rfl
@[simp] theorem State.drawN_saved : (s.drawN n).saved = s.saved := rfl
@[simp] theorem State.drawN_regs : (s.drawN n).regs = s.regs := rfl
@[simp] theorem State.drawN_links : (s.drawN n).links = s.links := rfl
@[simp] theorem State.drawN_ptb : (s.drawN n).ptb = s.ptb := rfl
@[simp] theorem State.drawN_evf : (s.drawN n).evf = s.evf := rfl
@[simp] theorem State.drawN_tmr : (s.drawN n).tmr = s.tmr := rfl
@[simp] theorem State.drawN_bkp : (s.drawN n).bkp = s.bkp := rfl
@[simp] theorem State.drawN_pcc : (s.drawN n).pcc = s.pcc := rfl
@[simp] theorem State.drawN_wave : (s.drawN n).wave = s.wave := rfl
@[simp] theorem State.drawN_bkt : (s.drawN n).bkt = s.bkt := rfl
@[simp] theorem State.drawN_rf : (s.drawN n).rf = s.rf := rfl
@[simp] theorem State.drawN_txm : (s.drawN n).txm = s.txm := rfl
@[simp] theorem State.drawN_rx : (s.drawN n).rx = s.rx := rfl
@[simp] theorem State.drawN_lnk : (s.drawN n).lnk = s.lnk := rfl
@[simp] theorem State.drawN_cwy : (s.drawN n).cwy = s.cwy := rfl
@[simp] theorem State.drawN_slu : (s.drawN n).slu = s.slu := rfl
@[simp] theorem State.drawN_sec : (s.drawN n).sec = s.sec := rfl
@[simp] theorem State.drawN_kz : (s.drawN n).kz = s.kz := rfl
@[simp] theorem State.drawN_mem : (s.drawN n).mem = s.mem := rfl
@[simp] theorem State.drawN_boot : (s.drawN n).boot = s.boot := rfl
@[simp] theorem State.drawN_hlt : (s.drawN n).hlt = s.hlt := rfl
@[simp] theorem State.drawN_plk : (s.drawN n).plk = s.plk := rfl
@[simp] theorem State.drawN_pending : (s.drawN n).pending = s.pending := rfl
end

section
variable (s : State) (m : List Host.Cell)
@[simp] theorem State.setCells_dict : (s.setCells m).dict = s.dict := rfl
@[simp] theorem State.setCells_results : (s.setCells m).results = s.results := rfl
@[simp] theorem State.setCells_saved : (s.setCells m).saved = s.saved := rfl
@[simp] theorem State.setCells_regs : (s.setCells m).regs = s.regs := rfl
@[simp] theorem State.setCells_links : (s.setCells m).links = s.links := rfl
@[simp] theorem State.setCells_ptb : (s.setCells m).ptb = s.ptb := rfl
@[simp] theorem State.setCells_evf : (s.setCells m).evf = s.evf := rfl
@[simp] theorem State.setCells_tmr : (s.setCells m).tmr = s.tmr := rfl
@[simp] theorem State.setCells_bkp : (s.setCells m).bkp = s.bkp := rfl
@[simp] theorem State.setCells_pcc : (s.setCells m).pcc = s.pcc := rfl
@[simp] theorem State.setCells_wave : (s.setCells m).wave = s.wave := rfl
@[simp] theorem State.setCells_bkt : (s.setCells m).bkt = s.bkt := rfl
@[simp] theorem State.setCells_rf : (s.setCells m).rf = s.rf := rfl
@[simp] theorem State.setCells_txm : (s.setCells m).txm = s.txm := rfl
@[simp] theorem State.setCells_rx : (s.setCells m).rx = s.rx := rfl
@[simp] theorem State.setCells_lnk : (s.setCells m).lnk = s.lnk := rfl
@[simp] theorem State.setCells_cwy : (s.setCells m).cwy = s.cwy := rfl
@[simp] theorem State.setCells_slu : (s.setCells m).slu = s.slu := rfl
@[simp] theorem State.setCells_sec : (s.setCells m).sec = s.sec := rfl
@[simp] theorem State.setCells_kz : (s.setCells m).kz = s.kz := rfl
@[simp] theorem State.setCells_boot : (s.setCells m).boot = s.boot := rfl
@[simp] theorem State.setCells_hlt : (s.setCells m).hlt = s.hlt := rfl
@[simp] theorem State.setCells_plk : (s.setCells m).plk = s.plk := rfl
@[simp] theorem State.setCells_drawn : (s.setCells m).drawn = s.drawn := rfl
@[simp] theorem State.setCells_pending : (s.setCells m).pending = s.pending := rfl
end

section
variable (s : State) (a n v : Nat)
@[simp] theorem State.wrN_dict : (s.wrN a n v).dict = s.dict := rfl
@[simp] theorem State.wrN_results : (s.wrN a n v).results = s.results := rfl
@[simp] theorem State.wrN_saved : (s.wrN a n v).saved = s.saved := rfl
@[simp] theorem State.wrN_regs : (s.wrN a n v).regs = s.regs := rfl
@[simp] theorem State.wrN_links : (s.wrN a n v).links = s.links := rfl
@[simp] theorem State.wrN_ptb : (s.wrN a n v).ptb = s.ptb := rfl
@[simp] theorem State.wrN_evf : (s.wrN a n v).evf = s.evf := rfl
@[simp] theorem State.wrN_tmr : (s.wrN a n v).tmr = s.tmr := rfl
@[simp] theorem State.wrN_bkp : (s.wrN a n v).bkp = s.bkp := rfl
@[simp] theorem State.wrN_pcc : (s.wrN a n v).pcc = s.pcc := rfl
@[simp] theorem State.wrN_wave : (s.wrN a n v).wave = s.wave := rfl
@[simp] theorem State.wrN_bkt : (s.wrN a n v).bkt = s.bkt := rfl
@[simp] theorem State.wrN_rf : (s.wrN a n v).rf = s.rf := rfl
@[simp] theorem State.wrN_txm : (s.wrN a n v).txm = s.txm := rfl
@[simp] theorem State.wrN_rx : (s.wrN a n v).rx = s.rx := rfl
@[simp] theorem State.wrN_lnk : (s.wrN a n v).lnk = s.lnk := rfl
@[simp] theorem State.wrN_cwy : (s.wrN a n v).cwy = s.cwy := rfl
@[simp] theorem State.wrN_slu : (s.wrN a n v).slu = s.slu := rfl
@[simp] theorem State.wrN_sec : (s.wrN a n v).sec = s.sec := rfl
@[simp] theorem State.wrN_kz : (s.wrN a n v).kz = s.kz := rfl
@[simp] theorem State.wrN_boot : (s.wrN a n v).boot = s.boot := rfl
@[simp] theorem State.wrN_hlt : (s.wrN a n v).hlt = s.hlt := rfl
@[simp] theorem State.wrN_plk : (s.wrN a n v).plk = s.plk := rfl
@[simp] theorem State.wrN_drawn : (s.wrN a n v).drawn = s.drawn := rfl
@[simp] theorem State.wrN_pending : (s.wrN a n v).pending = s.pending := rfl
end

section
variable (s : State) (a : Nat) (v : List Byte)
@[simp] theorem State.wrBytes_dict : (s.wrBytes a v).dict = s.dict := rfl
@[simp] theorem State.wrBytes_results : (s.wrBytes a v).results = s.results := rfl
@[simp] theorem State.wrBytes_saved : (s.wrBytes a v).saved = s.saved := rfl
@[simp] theorem State.wrBytes_regs : (s.wrBytes a v).regs = s.regs := rfl
@[simp] theorem State.wrBytes_links : (s.wrBytes a v).links = s.links := rfl
@[simp] theorem State.wrBytes_ptb : (s.wrBytes a v).ptb = s.ptb := rfl
@[simp] theorem State.wrBytes_evf : (s.wrBytes a v).evf = s.evf := rfl
@[simp] theorem State.wrBytes_tmr : (s.wrBytes a v).tmr = s.tmr := rfl
@[simp] theorem State.wrBytes_bkp : (s.wrBytes a v).bkp = s.bkp := rfl
@[simp] theorem State.wrBytes_pcc : (s.wrBytes a v).pcc = s.pcc := rfl
@[simp] theorem State.wrBytes_wave : (s.wrBytes a v).wave = s.wave := rfl
@[simp] theorem State.wrBytes_bkt : (s.wrBytes a v).bkt = s.bkt := rfl
@[simp] theorem State.wrBytes_rf : (s.wrBytes a v).rf = s.rf := rfl
@[simp] theorem State.wrBytes_txm : (s.wrBytes a v).txm = s.txm := rfl
@[simp] theorem State.wrBytes_rx : (s.wrBytes a v).rx = s.rx := rfl
@[simp] theorem State.wrBytes_lnk : (s.wrBytes a v).lnk = s.lnk := rfl
@[simp] theorem State.wrBytes_cwy : (s.wrBytes a v).cwy = s.cwy := rfl
@[simp] theorem State.wrBytes_slu : (s.wrBytes a v).slu = s.slu := rfl
@[simp] theorem State.wrBytes_sec : (s.wrBytes a v).sec = s.sec := rfl
@[simp] theorem State.wrBytes_kz : (s.wrBytes a v).kz = s.kz := rfl
@[simp] theorem State.wrBytes_boot : (s.wrBytes a v).boot = s.boot := rfl
@[simp] theorem State.wrBytes_hlt : (s.wrBytes a v).hlt = s.hlt := rfl
@[simp] theorem State.wrBytes_plk : (s.wrBytes a v).plk = s.plk := rfl
@[simp] theorem State.wrBytes_drawn : (s.wrBytes a v).drawn = s.drawn := rfl
@[simp] theorem State.wrBytes_pending : (s.wrBytes a v).pending = s.pending := rfl
end

section
variable (f : Bkp → Bkp) (s : State)
@[simp] theorem bmod_dict : (bmod f s).dict = s.dict := rfl
@[simp] theorem bmod_results : (bmod f s).results = s.results := rfl
@[simp] theorem bmod_saved : (bmod f s).saved = s.saved := rfl
@[simp] theorem bmod_regs : (bmod f s).regs = s.regs := rfl
@[simp] theorem bmod_links : (bmod f s).links = s.links := rfl
@[simp] theorem bmod_ptb : (bmod f s).ptb = s.ptb := rfl
@[simp] theorem bmod_evf : (bmod f s).evf = s.evf := rfl
@[simp] theorem bmod_tmr : (bmod f s).tmr = s.tmr := rfl
@[simp] theorem bmod_pcc : (bmod f s).pcc = s.pcc := rfl
@[simp] theorem bmod_wave : (bmod f s).wave = s.wave := rfl
@[simp] theorem bmod_bkt : (bmod f s).bkt = s.bkt := rfl
@[simp] theorem bmod_rf : (bmod f s).rf = s.rf := rfl
@[simp] theorem bmod_txm : (bmod f s).txm = s.txm := rfl
@[simp] theorem bmod_rx : (bmod f s).rx = s.rx := rfl
@[simp] theorem bmod_lnk : (bmod f s).lnk = s.lnk := rfl
@[simp] theorem bmod_cwy : (bmod f s).cwy = s.cwy := rfl
@[simp] theorem bmod_slu : (bmod f s).slu = s.slu := rfl
@[simp] theorem bmod_sec : (bmod f s).sec = s.sec := rfl
@[simp] theorem bmod_kz : (bmod f s).kz = s.kz := rfl
@[simp] theorem bmod_mem : (bmod f s).mem = s.mem := rfl
@[simp] theorem bmod_boot : (bmod f s).boot = s.boot := rfl
@[simp] theorem bmod_hlt : (bmod f s).hlt = s.hlt := rfl
@[simp] theorem bmod_plk : (bmod f s).plk = s.plk := rfl
@[simp] theorem bmod_drawn : (bmod f s).drawn = s.drawn := rfl
@[simp] theorem bmod_pending : (bmod f s).pending = s.pending := rfl
@[simp] theorem bmod_bkp : (bmod f s).bkp = f s.bkp := rfl
end

section
variable (f : Cwy → Cwy) (s : State)
@[simp] theorem cwyMod_dict : (cwyMod f s).dict = s.dict := rfl
@[simp] theorem cwyMod_results : (cwyMod f s).results = s.results := rfl
@[simp] theorem cwyMod_saved : (cwyMod f s).saved = s.saved := rfl
@[simp] theorem cwyMod_regs : (cwyMod f s).regs = s.regs := rfl
@[simp] theorem cwyMod_links : (cwyMod f s).links = s.links := rfl
@[simp] theorem cwyMod_ptb : (cwyMod f s).ptb = s.ptb := rfl
@[simp] theorem cwyMod_evf : (cwyMod f s).evf = s.evf := rfl
@[simp] theorem cwyMod_tmr : (cwyMod f s).tmr = s.tmr := rfl
@[simp] theorem cwyMod_bkp : (cwyMod f s).bkp = s.bkp := rfl
@[simp] theorem cwyMod_pcc : (cwyMod f s).pcc = s.pcc := rfl
@[simp] theorem cwyMod_wave : (cwyMod f s).wave = s.wave := rfl
@[simp] theorem cwyMod_bkt : (cwyMod f s).bkt = s.bkt := rfl
@[simp] theorem cwyMod_rf : (cwyMod f s).rf = s.rf := rfl
@[simp] theorem cwyMod_txm : (cwyMod f s).txm = s.txm := rfl
@[simp] theorem cwyMod_rx : (cwyMod f s).rx = s.rx := rfl
@[simp] theorem cwyMod_lnk : (cwyMod f s).lnk = s.lnk := rfl
@[simp] theorem cwyMod_slu : (cwyMod f s).slu = s.slu := rfl
@[simp] theorem cwyMod_sec : (cwyMod f s).sec = s.sec := rfl
@[simp] theorem cwyMod_kz : (cwyMod f s).kz = s.kz := rfl
@[simp] theorem cwyMod_mem : (cwyMod f s).mem = s.mem := rfl
@[simp] theorem cwyMod_boot : (cwyMod f s).boot = s.boot := rfl
@[simp] theorem cwyMod_hlt : (cwyMod f s).hlt = s.hlt := rfl
@[simp] theorem cwyMod_plk : (cwyMod f s).plk = s.plk := rfl
@[simp] theorem cwyMod_drawn : (cwyMod f s).drawn = s.drawn := rfl
@[simp] theorem cwyMod_pending : (cwyMod f s).pending = s.pending := rfl
@[simp] theorem cwyMod_cwy : (cwyMod f s).cwy = f s.cwy := rfl
end

section
variable (f : Boot → Boot) (s : State)
@[simp] theorem bootMod_dict : (bootMod f s).dict = s.dict := rfl
@[simp] theorem bootMod_results : (bootMod f s).results = s.results := rfl
@[simp] theorem bootMod_saved : (bootMod f s).saved = s.saved := rfl
@[simp] theorem bootMod_regs : (bootMod f s).regs = s.regs := rfl
@[simp] theorem bootMod_links : (bootMod f s).links = s.links := rfl
@[simp] theorem bootMod_ptb : (bootMod f s).ptb = s.ptb := rfl
@[simp] theorem bootMod_evf : (bootMod f s).evf = s.evf := rfl
@[simp] theorem bootMod_tmr : (bootMod f s).tmr = s.tmr := rfl
@[simp] theorem bootMod_bkp : (bootMod f s).bkp = s.bkp := rfl
@[simp] theorem bootMod_pcc : (bootMod f s).pcc = s.pcc := rfl
@[simp] theorem bootMod_wave : (bootMod f s).wave = s.wave := rfl
@[simp] theorem bootMod_bkt : (bootMod f s).bkt = s.bkt := rfl
@[simp] theorem bootMod_rf : (bootMod f s).rf = s.rf := rfl
@[simp] theorem bootMod_txm : (bootMod f s).txm = s.txm := rfl
@[simp] theorem bootMod_rx : (bootMod f s).rx = s.rx := rfl
@[simp] theorem bootMod_lnk : (bootMod f s).lnk = s.lnk := rfl
@[simp] theorem bootMod_cwy : (bootMod f s).cwy = s.cwy := rfl
@[simp] theorem bootMod_slu : (bootMod f s).slu = s.slu := rfl
@[simp] theorem bootMod_sec : (bootMod f s).sec = s.sec := rfl
@[simp] theorem bootMod_kz : (bootMod f s).kz = s.kz := rfl
@[simp] theorem bootMod_mem : (bootMod f s).mem = s.mem := rfl
@[simp] theorem bootMod_hlt : (bootMod f s).hlt = s.hlt := rfl
@[simp] theorem bootMod_plk : (bootMod f s).plk = s.plk := rfl
@[simp] theorem bootMod_drawn : (bootMod f s).drawn = s.drawn := rfl
@[simp] theorem bootMod_pending : (bootMod f s).pending = s.pending := rfl
@[simp] theorem bootMod_boot : (bootMod f s).boot = f s.boot := rfl
end

section
variable (f : Sec → Sec) (s : State)
@[simp] theorem secMod_dict : (secMod f s).dict = s.dict := rfl
@[simp] theorem secMod_results : (secMod f s).results = s.results := rfl
@[simp] theorem secMod_saved : (secMod f s).saved = s.saved := rfl
@[simp] theorem secMod_regs : (secMod f s).regs = s.regs := rfl
@[simp] theorem secMod_links : (secMod f s).links = s.links := rfl
@[simp] theorem secMod_ptb : (secMod f s).ptb = s.ptb := rfl
@[simp] theorem secMod_evf : (secMod f s).evf = s.evf := rfl
@[simp] theorem secMod_tmr : (secMod f s).tmr = s.tmr := rfl
@[simp] theorem secMod_bkp : (secMod f s).bkp = s.bkp := rfl
@[simp] theorem secMod_pcc : (secMod f s).pcc = s.pcc := rfl
@[simp] theorem secMod_wave : (secMod f s).wave = s.wave := rfl
@[simp] theorem secMod_bkt : (secMod f s).bkt = s.bkt := rfl
@[simp] theorem secMod_rf : (secMod f s).rf = s.rf := rfl
@[simp] theorem secMod_txm : (secMod f s).txm = s.txm := rfl
@[simp] theorem secMod_rx : (secMod f s).rx = s.rx := rfl
@[simp] theorem secMod_lnk : (secMod f s).lnk = s.lnk := rfl
@[simp] theorem secMod_cwy : (secMod f s).cwy = s.cwy := rfl
@[simp] theorem secMod_slu : (secMod f s).slu = s.slu := rfl
@[simp] theorem secMod_kz : (secMod f s).kz = s.kz := rfl
@[simp] theorem secMod_mem : (secMod f s).mem = s.mem := rfl
@[simp] theorem secMod_boot : (secMod f s).boot = s.boot := rfl
@[simp] theorem secMod_hlt : (secMod f s).hlt = s.hlt := rfl
@[simp] theorem secMod_plk : (secMod f s).plk = s.plk := rfl
@[simp] theorem secMod_drawn : (secMod f s).drawn = s.drawn := rfl
@[simp] theorem secMod_pending : (secMod f s).pending = s.pending := rfl
@[simp] theorem secMod_sec : (secMod f s).sec = f s.sec := rfl
end

section
variable (f : Epochs → Epochs) (s : State)
@[simp] theorem epMod_dict : (epMod f s).dict = s.dict := rfl
@[simp] theorem epMod_results : (epMod f s).results = s.results := rfl
@[simp] theorem epMod_saved : (epMod f s).saved = s.saved := rfl
@[simp] theorem epMod_regs : (epMod f s).regs = s.regs := rfl
@[simp] theorem epMod_links : (epMod f s).links = s.links := rfl
@[simp] theorem epMod_ptb : (epMod f s).ptb = s.ptb := rfl
@[simp] theorem epMod_evf : (epMod f s).evf = s.evf := rfl
@[simp] theorem epMod_tmr : (epMod f s).tmr = s.tmr := rfl
@[simp] theorem epMod_bkp : (epMod f s).bkp = s.bkp := rfl
@[simp] theorem epMod_pcc : (epMod f s).pcc = s.pcc := rfl
@[simp] theorem epMod_wave : (epMod f s).wave = s.wave := rfl
@[simp] theorem epMod_bkt : (epMod f s).bkt = s.bkt := rfl
@[simp] theorem epMod_rf : (epMod f s).rf = s.rf := rfl
@[simp] theorem epMod_txm : (epMod f s).txm = s.txm := rfl
@[simp] theorem epMod_rx : (epMod f s).rx = s.rx := rfl
@[simp] theorem epMod_lnk : (epMod f s).lnk = s.lnk := rfl
@[simp] theorem epMod_cwy : (epMod f s).cwy = s.cwy := rfl
@[simp] theorem epMod_slu : (epMod f s).slu = s.slu := rfl
@[simp] theorem epMod_kz : (epMod f s).kz = s.kz := rfl
@[simp] theorem epMod_mem : (epMod f s).mem = s.mem := rfl
@[simp] theorem epMod_boot : (epMod f s).boot = s.boot := rfl
@[simp] theorem epMod_hlt : (epMod f s).hlt = s.hlt := rfl
@[simp] theorem epMod_plk : (epMod f s).plk = s.plk := rfl
@[simp] theorem epMod_drawn : (epMod f s).drawn = s.drawn := rfl
@[simp] theorem epMod_pending : (epMod f s).pending = s.pending := rfl
end

section
variable (f : Mem → Mem) (s : State)
@[simp] theorem mmod_dict : (mmod f s).dict = s.dict := rfl
@[simp] theorem mmod_results : (mmod f s).results = s.results := rfl
@[simp] theorem mmod_saved : (mmod f s).saved = s.saved := rfl
@[simp] theorem mmod_regs : (mmod f s).regs = s.regs := rfl
@[simp] theorem mmod_links : (mmod f s).links = s.links := rfl
@[simp] theorem mmod_ptb : (mmod f s).ptb = s.ptb := rfl
@[simp] theorem mmod_evf : (mmod f s).evf = s.evf := rfl
@[simp] theorem mmod_tmr : (mmod f s).tmr = s.tmr := rfl
@[simp] theorem mmod_bkp : (mmod f s).bkp = s.bkp := rfl
@[simp] theorem mmod_pcc : (mmod f s).pcc = s.pcc := rfl
@[simp] theorem mmod_wave : (mmod f s).wave = s.wave := rfl
@[simp] theorem mmod_bkt : (mmod f s).bkt = s.bkt := rfl
@[simp] theorem mmod_rf : (mmod f s).rf = s.rf := rfl
@[simp] theorem mmod_txm : (mmod f s).txm = s.txm := rfl
@[simp] theorem mmod_rx : (mmod f s).rx = s.rx := rfl
@[simp] theorem mmod_lnk : (mmod f s).lnk = s.lnk := rfl
@[simp] theorem mmod_cwy : (mmod f s).cwy = s.cwy := rfl
@[simp] theorem mmod_slu : (mmod f s).slu = s.slu := rfl
@[simp] theorem mmod_sec : (mmod f s).sec = s.sec := rfl
@[simp] theorem mmod_kz : (mmod f s).kz = s.kz := rfl
@[simp] theorem mmod_boot : (mmod f s).boot = s.boot := rfl
@[simp] theorem mmod_hlt : (mmod f s).hlt = s.hlt := rfl
@[simp] theorem mmod_plk : (mmod f s).plk = s.plk := rfl
@[simp] theorem mmod_drawn : (mmod f s).drawn = s.drawn := rfl
@[simp] theorem mmod_pending : (mmod f s).pending = s.pending := rfl
@[simp] theorem mmod_mem : (mmod f s).mem = f s.mem := rfl
end

section
variable (f : Plk → Plk) (s : State)
@[simp] theorem plkMod_dict : (plkMod f s).dict = s.dict := rfl
@[simp] theorem plkMod_results : (plkMod f s).results = s.results := rfl
@[simp] theorem plkMod_saved : (plkMod f s).saved = s.saved := rfl
@[simp] theorem plkMod_regs : (plkMod f s).regs = s.regs := rfl
@[simp] theorem plkMod_links : (plkMod f s).links = s.links := rfl
@[simp] theorem plkMod_ptb : (plkMod f s).ptb = s.ptb := rfl
@[simp] theorem plkMod_evf : (plkMod f s).evf = s.evf := rfl
@[simp] theorem plkMod_tmr : (plkMod f s).tmr = s.tmr := rfl
@[simp] theorem plkMod_bkp : (plkMod f s).bkp = s.bkp := rfl
@[simp] theorem plkMod_pcc : (plkMod f s).pcc = s.pcc := rfl
@[simp] theorem plkMod_wave : (plkMod f s).wave = s.wave := rfl
@[simp] theorem plkMod_bkt : (plkMod f s).bkt = s.bkt := rfl
@[simp] theorem plkMod_rf : (plkMod f s).rf = s.rf := rfl
@[simp] theorem plkMod_txm : (plkMod f s).txm = s.txm := rfl
@[simp] theorem plkMod_rx : (plkMod f s).rx = s.rx := rfl
@[simp] theorem plkMod_lnk : (plkMod f s).lnk = s.lnk := rfl
@[simp] theorem plkMod_cwy : (plkMod f s).cwy = s.cwy := rfl
@[simp] theorem plkMod_slu : (plkMod f s).slu = s.slu := rfl
@[simp] theorem plkMod_sec : (plkMod f s).sec = s.sec := rfl
@[simp] theorem plkMod_kz : (plkMod f s).kz = s.kz := rfl
@[simp] theorem plkMod_mem : (plkMod f s).mem = s.mem := rfl
@[simp] theorem plkMod_boot : (plkMod f s).boot = s.boot := rfl
@[simp] theorem plkMod_hlt : (plkMod f s).hlt = s.hlt := rfl
@[simp] theorem plkMod_drawn : (plkMod f s).drawn = s.drawn := rfl
@[simp] theorem plkMod_pending : (plkMod f s).pending = s.pending := rfl
@[simp] theorem plkMod_plk : (plkMod f s).plk = f s.plk := rfl
end

section
variable (f : Pcc → Pcc) (s : State)
@[simp] theorem pccMod_dict : (pccMod f s).dict = s.dict := rfl
@[simp] theorem pccMod_results : (pccMod f s).results = s.results := rfl
@[simp] theorem pccMod_saved : (pccMod f s).saved = s.saved := rfl
@[simp] theorem pccMod_regs : (pccMod f s).regs = s.regs := rfl
@[simp] theorem pccMod_links : (pccMod f s).links = s.links := rfl
@[simp] theorem pccMod_ptb : (pccMod f s).ptb = s.ptb := rfl
@[simp] theorem pccMod_evf : (pccMod f s).evf = s.evf := rfl
@[simp] theorem pccMod_tmr : (pccMod f s).tmr = s.tmr := rfl
@[simp] theorem pccMod_bkp : (pccMod f s).bkp = s.bkp := rfl
@[simp] theorem pccMod_wave : (pccMod f s).wave = s.wave := rfl
@[simp] theorem pccMod_bkt : (pccMod f s).bkt = s.bkt := rfl
@[simp] theorem pccMod_rf : (pccMod f s).rf = s.rf := rfl
@[simp] theorem pccMod_txm : (pccMod f s).txm = s.txm := rfl
@[simp] theorem pccMod_rx : (pccMod f s).rx = s.rx := rfl
@[simp] theorem pccMod_lnk : (pccMod f s).lnk = s.lnk := rfl
@[simp] theorem pccMod_cwy : (pccMod f s).cwy = s.cwy := rfl
@[simp] theorem pccMod_slu : (pccMod f s).slu = s.slu := rfl
@[simp] theorem pccMod_sec : (pccMod f s).sec = s.sec := rfl
@[simp] theorem pccMod_kz : (pccMod f s).kz = s.kz := rfl
@[simp] theorem pccMod_mem : (pccMod f s).mem = s.mem := rfl
@[simp] theorem pccMod_boot : (pccMod f s).boot = s.boot := rfl
@[simp] theorem pccMod_hlt : (pccMod f s).hlt = s.hlt := rfl
@[simp] theorem pccMod_plk : (pccMod f s).plk = s.plk := rfl
@[simp] theorem pccMod_drawn : (pccMod f s).drawn = s.drawn := rfl
@[simp] theorem pccMod_pending : (pccMod f s).pending = s.pending := rfl
@[simp] theorem pccMod_pcc : (pccMod f s).pcc = f s.pcc := rfl
end

section
variable (f : Links → Links) (s : State)
@[simp] theorem linksMod_dict : (linksMod f s).dict = s.dict := rfl
@[simp] theorem linksMod_results : (linksMod f s).results = s.results := rfl
@[simp] theorem linksMod_saved : (linksMod f s).saved = s.saved := rfl
@[simp] theorem linksMod_regs : (linksMod f s).regs = s.regs := rfl
@[simp] theorem linksMod_ptb : (linksMod f s).ptb = s.ptb := rfl
@[simp] theorem linksMod_evf : (linksMod f s).evf = s.evf := rfl
@[simp] theorem linksMod_tmr : (linksMod f s).tmr = s.tmr := rfl
@[simp] theorem linksMod_bkp : (linksMod f s).bkp = s.bkp := rfl
@[simp] theorem linksMod_pcc : (linksMod f s).pcc = s.pcc := rfl
@[simp] theorem linksMod_wave : (linksMod f s).wave = s.wave := rfl
@[simp] theorem linksMod_bkt : (linksMod f s).bkt = s.bkt := rfl
@[simp] theorem linksMod_rf : (linksMod f s).rf = s.rf := rfl
@[simp] theorem linksMod_txm : (linksMod f s).txm = s.txm := rfl
@[simp] theorem linksMod_rx : (linksMod f s).rx = s.rx := rfl
@[simp] theorem linksMod_lnk : (linksMod f s).lnk = s.lnk := rfl
@[simp] theorem linksMod_cwy : (linksMod f s).cwy = s.cwy := rfl
@[simp] theorem linksMod_slu : (linksMod f s).slu = s.slu := rfl
@[simp] theorem linksMod_sec : (linksMod f s).sec = s.sec := rfl
@[simp] theorem linksMod_kz : (linksMod f s).kz = s.kz := rfl
@[simp] theorem linksMod_mem : (linksMod f s).mem = s.mem := rfl
@[simp] theorem linksMod_boot : (linksMod f s).boot = s.boot := rfl
@[simp] theorem linksMod_hlt : (linksMod f s).hlt = s.hlt := rfl
@[simp] theorem linksMod_plk : (linksMod f s).plk = s.plk := rfl
@[simp] theorem linksMod_drawn : (linksMod f s).drawn = s.drawn := rfl
@[simp] theorem linksMod_pending : (linksMod f s).pending = s.pending := rfl
@[simp] theorem linksMod_links : (linksMod f s).links = f s.links := rfl
end

section
variable (f : Ptb → Ptb) (s : State)
@[simp] theorem ptbMod_dict : (ptbMod f s).dict = s.dict := rfl
@[simp] theorem ptbMod_results : (ptbMod f s).results = s.results := rfl
@[simp] theorem ptbMod_saved : (ptbMod f s).saved = s.saved := rfl
@[simp] theorem ptbMod_regs : (ptbMod f s).regs = s.regs := rfl
@[simp] theorem ptbMod_links : (ptbMod f s).links = s.links := rfl
@[simp] theorem ptbMod_evf : (ptbMod f s).evf = s.evf := rfl
@[simp] theorem ptbMod_tmr : (ptbMod f s).tmr = s.tmr := rfl
@[simp] theorem ptbMod_bkp : (ptbMod f s).bkp = s.bkp := rfl
@[simp] theorem ptbMod_pcc : (ptbMod f s).pcc = s.pcc := rfl
@[simp] theorem ptbMod_wave : (ptbMod f s).wave = s.wave := rfl
@[simp] theorem ptbMod_bkt : (ptbMod f s).bkt = s.bkt := rfl
@[simp] theorem ptbMod_rf : (ptbMod f s).rf = s.rf := rfl
@[simp] theorem ptbMod_txm : (ptbMod f s).txm = s.txm := rfl
@[simp] theorem ptbMod_rx : (ptbMod f s).rx = s.rx := rfl
@[simp] theorem ptbMod_lnk : (ptbMod f s).lnk = s.lnk := rfl
@[simp] theorem ptbMod_cwy : (ptbMod f s).cwy = s.cwy := rfl
@[simp] theorem ptbMod_slu : (ptbMod f s).slu = s.slu := rfl
@[simp] theorem ptbMod_sec : (ptbMod f s).sec = s.sec := rfl
@[simp] theorem ptbMod_kz : (ptbMod f s).kz = s.kz := rfl
@[simp] theorem ptbMod_mem : (ptbMod f s).mem = s.mem := rfl
@[simp] theorem ptbMod_boot : (ptbMod f s).boot = s.boot := rfl
@[simp] theorem ptbMod_hlt : (ptbMod f s).hlt = s.hlt := rfl
@[simp] theorem ptbMod_plk : (ptbMod f s).plk = s.plk := rfl
@[simp] theorem ptbMod_drawn : (ptbMod f s).drawn = s.drawn := rfl
@[simp] theorem ptbMod_pending : (ptbMod f s).pending = s.pending := rfl
@[simp] theorem ptbMod_ptb : (ptbMod f s).ptb = f s.ptb := rfl
end

section
variable (f : Evf → Evf) (s : State)
@[simp] theorem evfMod_dict : (evfMod f s).dict = s.dict := rfl
@[simp] theorem evfMod_results : (evfMod f s).results = s.results := rfl
@[simp] theorem evfMod_saved : (evfMod f s).saved = s.saved := rfl
@[simp] theorem evfMod_regs : (evfMod f s).regs = s.regs := rfl
@[simp] theorem evfMod_links : (evfMod f s).links = s.links := rfl
@[simp] theorem evfMod_ptb : (evfMod f s).ptb = s.ptb := rfl
@[simp] theorem evfMod_tmr : (evfMod f s).tmr = s.tmr := rfl
@[simp] theorem evfMod_bkp : (evfMod f s).bkp = s.bkp := rfl
@[simp] theorem evfMod_pcc : (evfMod f s).pcc = s.pcc := rfl
@[simp] theorem evfMod_wave : (evfMod f s).wave = s.wave := rfl
@[simp] theorem evfMod_bkt : (evfMod f s).bkt = s.bkt := rfl
@[simp] theorem evfMod_rf : (evfMod f s).rf = s.rf := rfl
@[simp] theorem evfMod_txm : (evfMod f s).txm = s.txm := rfl
@[simp] theorem evfMod_rx : (evfMod f s).rx = s.rx := rfl
@[simp] theorem evfMod_lnk : (evfMod f s).lnk = s.lnk := rfl
@[simp] theorem evfMod_cwy : (evfMod f s).cwy = s.cwy := rfl
@[simp] theorem evfMod_slu : (evfMod f s).slu = s.slu := rfl
@[simp] theorem evfMod_sec : (evfMod f s).sec = s.sec := rfl
@[simp] theorem evfMod_kz : (evfMod f s).kz = s.kz := rfl
@[simp] theorem evfMod_mem : (evfMod f s).mem = s.mem := rfl
@[simp] theorem evfMod_boot : (evfMod f s).boot = s.boot := rfl
@[simp] theorem evfMod_hlt : (evfMod f s).hlt = s.hlt := rfl
@[simp] theorem evfMod_plk : (evfMod f s).plk = s.plk := rfl
@[simp] theorem evfMod_drawn : (evfMod f s).drawn = s.drawn := rfl
@[simp] theorem evfMod_pending : (evfMod f s).pending = s.pending := rfl
@[simp] theorem evfMod_evf : (evfMod f s).evf = f s.evf := rfl
end

section
variable (f : Rf → Rf) (s : State)
@[simp] theorem rfMod_dict : (rfMod f s).dict = s.dict := rfl
@[simp] theorem rfMod_results : (rfMod f s).results = s.results := rfl
@[simp] theorem rfMod_saved : (rfMod f s).saved = s.saved := rfl
@[simp] theorem rfMod_regs : (rfMod f s).regs = s.regs := rfl
@[simp] theorem rfMod_links : (rfMod f s).links = s.links := rfl
@[simp] theorem rfMod_ptb : (rfMod f s).ptb = s.ptb := rfl
@[simp] theorem rfMod_evf : (rfMod f s).evf = s.evf := rfl
@[simp] theorem rfMod_tmr : (rfMod f s).tmr = s.tmr := rfl
@[simp] theorem rfMod_bkp : (rfMod f s).bkp = s.bkp := rfl
@[simp] theorem rfMod_pcc : (rfMod f s).pcc = s.pcc := rfl
@[simp] theorem rfMod_wave : (rfMod f s).wave = s.wave := rfl
@[simp] theorem rfMod_bkt : (rfMod f s).bkt = s.bkt := rfl
@[simp] theorem rfMod_txm : (rfMod f s).txm = s.txm := rfl
@[simp] theorem rfMod_rx : (rfMod f s).rx = s.rx := rfl
@[simp] theorem rfMod_lnk : (rfMod f s).lnk = s.lnk := rfl
@[simp] theorem rfMod_cwy : (rfMod f s).cwy = s.cwy := rfl
@[simp] theorem rfMod_slu : (rfMod f s).slu = s.slu := rfl
@[simp] theorem rfMod_sec : (rfMod f s).sec = s.sec := rfl
@[simp] theorem rfMod_kz : (rfMod f s).kz = s.kz := rfl
@[simp] theorem rfMod_mem : (rfMod f s).mem = s.mem := rfl
@[simp] theorem rfMod_boot : (rfMod f s).boot = s.boot := rfl
@[simp] theorem rfMod_hlt : (rfMod f s).hlt = s.hlt := rfl
@[simp] theorem rfMod_plk : (rfMod f s).plk = s.plk := rfl
@[simp] theorem rfMod_drawn : (rfMod f s).drawn = s.drawn := rfl
@[simp] theorem rfMod_pending : (rfMod f s).pending = s.pending := rfl
@[simp] theorem rfMod_rf : (rfMod f s).rf = f s.rf := rfl
end

section
variable (f : Rx → Rx) (s : State)
@[simp] theorem rxMod_dict : (rxMod f s).dict = s.dict := rfl
@[simp] theorem rxMod_results : (rxMod f s).results = s.results := rfl
@[simp] theorem rxMod_saved : (rxMod f s).saved = s.saved := rfl
@[simp] theorem rxMod_regs : (rxMod f s).regs = s.regs := rfl
@[simp] theorem rxMod_links : (rxMod f s).links = s.links := rfl
@[simp] theorem rxMod_ptb : (rxMod f s).ptb = s.ptb := rfl
@[simp] theorem rxMod_evf : (rxMod f s).evf = s.evf := rfl
@[simp] theorem rxMod_tmr : (rxMod f s).tmr = s.tmr := rfl
@[simp] theorem rxMod_bkp : (rxMod f s).bkp = s.bkp := rfl
@[simp] theorem rxMod_pcc : (rxMod f s).pcc = s.pcc := rfl
@[simp] theorem rxMod_wave : (rxMod f s).wave = s.wave := rfl
@[simp] theorem rxMod_bkt : (rxMod f s).bkt = s.bkt := rfl
@[simp] theorem rxMod_rf : (rxMod f s).rf = s.rf := rfl
@[simp] theorem rxMod_txm : (rxMod f s).txm = s.txm := rfl
@[simp] theorem rxMod_lnk : (rxMod f s).lnk = s.lnk := rfl
@[simp] theorem rxMod_cwy : (rxMod f s).cwy = s.cwy := rfl
@[simp] theorem rxMod_slu : (rxMod f s).slu = s.slu := rfl
@[simp] theorem rxMod_sec : (rxMod f s).sec = s.sec := rfl
@[simp] theorem rxMod_kz : (rxMod f s).kz = s.kz := rfl
@[simp] theorem rxMod_mem : (rxMod f s).mem = s.mem := rfl
@[simp] theorem rxMod_boot : (rxMod f s).boot = s.boot := rfl
@[simp] theorem rxMod_hlt : (rxMod f s).hlt = s.hlt := rfl
@[simp] theorem rxMod_plk : (rxMod f s).plk = s.plk := rfl
@[simp] theorem rxMod_drawn : (rxMod f s).drawn = s.drawn := rfl
@[simp] theorem rxMod_pending : (rxMod f s).pending = s.pending := rfl
@[simp] theorem rxMod_rx : (rxMod f s).rx = f s.rx := rfl
end

section
variable (f : Lnk → Lnk) (s : State)
@[simp] theorem lnkMod_dict : (lnkMod f s).dict = s.dict := rfl
@[simp] theorem lnkMod_results : (lnkMod f s).results = s.results := rfl
@[simp] theorem lnkMod_saved : (lnkMod f s).saved = s.saved := rfl
@[simp] theorem lnkMod_regs : (lnkMod f s).regs = s.regs := rfl
@[simp] theorem lnkMod_links : (lnkMod f s).links = s.links := rfl
@[simp] theorem lnkMod_ptb : (lnkMod f s).ptb = s.ptb := rfl
@[simp] theorem lnkMod_evf : (lnkMod f s).evf = s.evf := rfl
@[simp] theorem lnkMod_tmr : (lnkMod f s).tmr = s.tmr := rfl
@[simp] theorem lnkMod_bkp : (lnkMod f s).bkp = s.bkp := rfl
@[simp] theorem lnkMod_pcc : (lnkMod f s).pcc = s.pcc := rfl
@[simp] theorem lnkMod_wave : (lnkMod f s).wave = s.wave := rfl
@[simp] theorem lnkMod_bkt : (lnkMod f s).bkt = s.bkt := rfl
@[simp] theorem lnkMod_rf : (lnkMod f s).rf = s.rf := rfl
@[simp] theorem lnkMod_txm : (lnkMod f s).txm = s.txm := rfl
@[simp] theorem lnkMod_rx : (lnkMod f s).rx = s.rx := rfl
@[simp] theorem lnkMod_cwy : (lnkMod f s).cwy = s.cwy := rfl
@[simp] theorem lnkMod_slu : (lnkMod f s).slu = s.slu := rfl
@[simp] theorem lnkMod_sec : (lnkMod f s).sec = s.sec := rfl
@[simp] theorem lnkMod_kz : (lnkMod f s).kz = s.kz := rfl
@[simp] theorem lnkMod_mem : (lnkMod f s).mem = s.mem := rfl
@[simp] theorem lnkMod_boot : (lnkMod f s).boot = s.boot := rfl
@[simp] theorem lnkMod_hlt : (lnkMod f s).hlt = s.hlt := rfl
@[simp] theorem lnkMod_plk : (lnkMod f s).plk = s.plk := rfl
@[simp] theorem lnkMod_drawn : (lnkMod f s).drawn = s.drawn := rfl
@[simp] theorem lnkMod_pending : (lnkMod f s).pending = s.pending := rfl
@[simp] theorem lnkMod_lnk : (lnkMod f s).lnk = f s.lnk := rfl
end

section
variable (f : Slu → Slu) (s : State)
@[simp] theorem sluMod_dict : (sluMod f s).dict = s.dict := rfl
@[simp] theorem sluMod_results : (sluMod f s).results = s.results := rfl
@[simp] theorem sluMod_saved : (sluMod f s).saved = s.saved := rfl
@[simp] theorem sluMod_regs : (sluMod f s).regs = s.regs := rfl
@[simp] theorem sluMod_links : (sluMod f s).links = s.links := rfl
@[simp] theorem sluMod_ptb : (sluMod f s).ptb = s.ptb := rfl
@[simp] theorem sluMod_evf : (sluMod f s).evf = s.evf := rfl
@[simp] theorem sluMod_tmr : (sluMod f s).tmr = s.tmr := rfl
@[simp] theorem sluMod_bkp : (sluMod f s).bkp = s.bkp := rfl
@[simp] theorem sluMod_pcc : (sluMod f s).pcc = s.pcc := rfl
@[simp] theorem sluMod_wave : (sluMod f s).wave = s.wave := rfl
@[simp] theorem sluMod_bkt : (sluMod f s).bkt = s.bkt := rfl
@[simp] theorem sluMod_rf : (sluMod f s).rf = s.rf := rfl
@[simp] theorem sluMod_txm : (sluMod f s).txm = s.txm := rfl
@[simp] theorem sluMod_rx : (sluMod f s).rx = s.rx := rfl
@[simp] theorem sluMod_lnk : (sluMod f s).lnk = s.lnk := rfl
@[simp] theorem sluMod_cwy : (sluMod f s).cwy = s.cwy := rfl
@[simp] theorem sluMod_sec : (sluMod f s).sec = s.sec := rfl
@[simp] theorem sluMod_kz : (sluMod f s).kz = s.kz := rfl
@[simp] theorem sluMod_mem : (sluMod f s).mem = s.mem := rfl
@[simp] theorem sluMod_boot : (sluMod f s).boot = s.boot := rfl
@[simp] theorem sluMod_hlt : (sluMod f s).hlt = s.hlt := rfl
@[simp] theorem sluMod_plk : (sluMod f s).plk = s.plk := rfl
@[simp] theorem sluMod_drawn : (sluMod f s).drawn = s.drawn := rfl
@[simp] theorem sluMod_pending : (sluMod f s).pending = s.pending := rfl
@[simp] theorem sluMod_slu : (sluMod f s).slu = f s.slu := rfl
end

section
variable (f : Txm → Txm) (s : State)
@[simp] theorem txmMod_dict : (txmMod f s).dict = s.dict := rfl
@[simp] theorem txmMod_results : (txmMod f s).results = s.results := rfl
@[simp] theorem txmMod_saved : (txmMod f s).saved = s.saved := rfl
@[simp] theorem txmMod_regs : (txmMod f s).regs = s.regs := rfl
@[simp] theorem txmMod_links : (txmMod f s).links = s.links := rfl
@[simp] theorem txmMod_ptb : (txmMod f s).ptb = s.ptb := rfl
@[simp] theorem txmMod_evf : (txmMod f s).evf = s.evf := rfl
@[simp] theorem txmMod_tmr : (txmMod f s).tmr = s.tmr := rfl
@[simp] theorem txmMod_bkp : (txmMod f s).bkp = s.bkp := rfl
@[simp] theorem txmMod_pcc : (txmMod f s).pcc = s.pcc := rfl
@[simp] theorem txmMod_wave : (txmMod f s).wave = s.wave := rfl
@[simp] theorem txmMod_bkt : (txmMod f s).bkt = s.bkt := rfl
@[simp] theorem txmMod_rf : (txmMod f s).rf = s.rf := rfl
@[simp] theorem txmMod_rx : (txmMod f s).rx = s.rx := rfl
@[simp] theorem txmMod_lnk : (txmMod f s).lnk = s.lnk := rfl
@[simp] theorem txmMod_cwy : (txmMod f s).cwy = s.cwy := rfl
@[simp] theorem txmMod_slu : (txmMod f s).slu = s.slu := rfl
@[simp] theorem txmMod_sec : (txmMod f s).sec = s.sec := rfl
@[simp] theorem txmMod_kz : (txmMod f s).kz = s.kz := rfl
@[simp] theorem txmMod_mem : (txmMod f s).mem = s.mem := rfl
@[simp] theorem txmMod_boot : (txmMod f s).boot = s.boot := rfl
@[simp] theorem txmMod_hlt : (txmMod f s).hlt = s.hlt := rfl
@[simp] theorem txmMod_plk : (txmMod f s).plk = s.plk := rfl
@[simp] theorem txmMod_drawn : (txmMod f s).drawn = s.drawn := rfl
@[simp] theorem txmMod_pending : (txmMod f s).pending = s.pending := rfl
@[simp] theorem txmMod_txm : (txmMod f s).txm = f s.txm := rfl
end

section
variable (f : Wave → Wave) (s : State)
@[simp] theorem waveMod_dict : (waveMod f s).dict = s.dict := rfl
@[simp] theorem waveMod_results : (waveMod f s).results = s.results := rfl
@[simp] theorem waveMod_saved : (waveMod f s).saved = s.saved := rfl
@[simp] theorem waveMod_regs : (waveMod f s).regs = s.regs := rfl
@[simp] theorem waveMod_links : (waveMod f s).links = s.links := rfl
@[simp] theorem waveMod_ptb : (waveMod f s).ptb = s.ptb := rfl
@[simp] theorem waveMod_evf : (waveMod f s).evf = s.evf := rfl
@[simp] theorem waveMod_tmr : (waveMod f s).tmr = s.tmr := rfl
@[simp] theorem waveMod_bkp : (waveMod f s).bkp = s.bkp := rfl
@[simp] theorem waveMod_pcc : (waveMod f s).pcc = s.pcc := rfl
@[simp] theorem waveMod_bkt : (waveMod f s).bkt = s.bkt := rfl
@[simp] theorem waveMod_rf : (waveMod f s).rf = s.rf := rfl
@[simp] theorem waveMod_txm : (waveMod f s).txm = s.txm := rfl
@[simp] theorem waveMod_rx : (waveMod f s).rx = s.rx := rfl
@[simp] theorem waveMod_lnk : (waveMod f s).lnk = s.lnk := rfl
@[simp] theorem waveMod_cwy : (waveMod f s).cwy = s.cwy := rfl
@[simp] theorem waveMod_slu : (waveMod f s).slu = s.slu := rfl
@[simp] theorem waveMod_sec : (waveMod f s).sec = s.sec := rfl
@[simp] theorem waveMod_kz : (waveMod f s).kz = s.kz := rfl
@[simp] theorem waveMod_mem : (waveMod f s).mem = s.mem := rfl
@[simp] theorem waveMod_boot : (waveMod f s).boot = s.boot := rfl
@[simp] theorem waveMod_hlt : (waveMod f s).hlt = s.hlt := rfl
@[simp] theorem waveMod_plk : (waveMod f s).plk = s.plk := rfl
@[simp] theorem waveMod_drawn : (waveMod f s).drawn = s.drawn := rfl
@[simp] theorem waveMod_pending : (waveMod f s).pending = s.pending := rfl
@[simp] theorem waveMod_wave : (waveMod f s).wave = f s.wave := rfl
end

section
variable (f : Buckets → Buckets) (s : State)
@[simp] theorem bktMod_dict : (bktMod f s).dict = s.dict := rfl
@[simp] theorem bktMod_results : (bktMod f s).results = s.results := rfl
@[simp] theorem bktMod_saved : (bktMod f s).saved = s.saved := rfl
@[simp] theorem bktMod_regs : (bktMod f s).regs = s.regs := rfl
@[simp] theorem bktMod_links : (bktMod f s).links = s.links := rfl
@[simp] theorem bktMod_ptb : (bktMod f s).ptb = s.ptb := rfl
@[simp] theorem bktMod_evf : (bktMod f s).evf = s.evf := rfl
@[simp] theorem bktMod_tmr : (bktMod f s).tmr = s.tmr := rfl
@[simp] theorem bktMod_bkp : (bktMod f s).bkp = s.bkp := rfl
@[simp] theorem bktMod_pcc : (bktMod f s).pcc = s.pcc := rfl
@[simp] theorem bktMod_wave : (bktMod f s).wave = s.wave := rfl
@[simp] theorem bktMod_rf : (bktMod f s).rf = s.rf := rfl
@[simp] theorem bktMod_txm : (bktMod f s).txm = s.txm := rfl
@[simp] theorem bktMod_rx : (bktMod f s).rx = s.rx := rfl
@[simp] theorem bktMod_lnk : (bktMod f s).lnk = s.lnk := rfl
@[simp] theorem bktMod_cwy : (bktMod f s).cwy = s.cwy := rfl
@[simp] theorem bktMod_slu : (bktMod f s).slu = s.slu := rfl
@[simp] theorem bktMod_sec : (bktMod f s).sec = s.sec := rfl
@[simp] theorem bktMod_kz : (bktMod f s).kz = s.kz := rfl
@[simp] theorem bktMod_mem : (bktMod f s).mem = s.mem := rfl
@[simp] theorem bktMod_boot : (bktMod f s).boot = s.boot := rfl
@[simp] theorem bktMod_hlt : (bktMod f s).hlt = s.hlt := rfl
@[simp] theorem bktMod_plk : (bktMod f s).plk = s.plk := rfl
@[simp] theorem bktMod_drawn : (bktMod f s).drawn = s.drawn := rfl
@[simp] theorem bktMod_pending : (bktMod f s).pending = s.pending := rfl
@[simp] theorem bktMod_bkt : (bktMod f s).bkt = f s.bkt := rfl
end

section
variable (n : Fin 6) (f : Core → Core) (s : State)
@[simp] theorem kmod_dict : (kmod n f s).dict = s.dict := rfl
@[simp] theorem kmod_results : (kmod n f s).results = s.results := rfl
@[simp] theorem kmod_saved : (kmod n f s).saved = s.saved := rfl
@[simp] theorem kmod_regs : (kmod n f s).regs = s.regs := rfl
@[simp] theorem kmod_links : (kmod n f s).links = s.links := rfl
@[simp] theorem kmod_ptb : (kmod n f s).ptb = s.ptb := rfl
@[simp] theorem kmod_evf : (kmod n f s).evf = s.evf := rfl
@[simp] theorem kmod_tmr : (kmod n f s).tmr = s.tmr := rfl
@[simp] theorem kmod_bkp : (kmod n f s).bkp = s.bkp := rfl
@[simp] theorem kmod_pcc : (kmod n f s).pcc = s.pcc := rfl
@[simp] theorem kmod_wave : (kmod n f s).wave = s.wave := rfl
@[simp] theorem kmod_bkt : (kmod n f s).bkt = s.bkt := rfl
@[simp] theorem kmod_rf : (kmod n f s).rf = s.rf := rfl
@[simp] theorem kmod_txm : (kmod n f s).txm = s.txm := rfl
@[simp] theorem kmod_rx : (kmod n f s).rx = s.rx := rfl
@[simp] theorem kmod_lnk : (kmod n f s).lnk = s.lnk := rfl
@[simp] theorem kmod_cwy : (kmod n f s).cwy = s.cwy := rfl
@[simp] theorem kmod_slu : (kmod n f s).slu = s.slu := rfl
@[simp] theorem kmod_sec : (kmod n f s).sec = s.sec := rfl
@[simp] theorem kmod_mem : (kmod n f s).mem = s.mem := rfl
@[simp] theorem kmod_boot : (kmod n f s).boot = s.boot := rfl
@[simp] theorem kmod_hlt : (kmod n f s).hlt = s.hlt := rfl
@[simp] theorem kmod_plk : (kmod n f s).plk = s.plk := rfl
@[simp] theorem kmod_drawn : (kmod n f s).drawn = s.drawn := rfl
@[simp] theorem kmod_pending : (kmod n f s).pending = s.pending := rfl
end

section
variable (n : Fin 4) (f : PhaseDom → PhaseDom) (s : State)
@[simp] theorem pdMod_dict : (pdMod n f s).dict = s.dict := rfl
@[simp] theorem pdMod_results : (pdMod n f s).results = s.results := rfl
@[simp] theorem pdMod_saved : (pdMod n f s).saved = s.saved := rfl
@[simp] theorem pdMod_regs : (pdMod n f s).regs = s.regs := rfl
@[simp] theorem pdMod_links : (pdMod n f s).links = s.links := rfl
@[simp] theorem pdMod_evf : (pdMod n f s).evf = s.evf := rfl
@[simp] theorem pdMod_tmr : (pdMod n f s).tmr = s.tmr := rfl
@[simp] theorem pdMod_bkp : (pdMod n f s).bkp = s.bkp := rfl
@[simp] theorem pdMod_pcc : (pdMod n f s).pcc = s.pcc := rfl
@[simp] theorem pdMod_wave : (pdMod n f s).wave = s.wave := rfl
@[simp] theorem pdMod_bkt : (pdMod n f s).bkt = s.bkt := rfl
@[simp] theorem pdMod_rf : (pdMod n f s).rf = s.rf := rfl
@[simp] theorem pdMod_txm : (pdMod n f s).txm = s.txm := rfl
@[simp] theorem pdMod_rx : (pdMod n f s).rx = s.rx := rfl
@[simp] theorem pdMod_lnk : (pdMod n f s).lnk = s.lnk := rfl
@[simp] theorem pdMod_cwy : (pdMod n f s).cwy = s.cwy := rfl
@[simp] theorem pdMod_slu : (pdMod n f s).slu = s.slu := rfl
@[simp] theorem pdMod_sec : (pdMod n f s).sec = s.sec := rfl
@[simp] theorem pdMod_kz : (pdMod n f s).kz = s.kz := rfl
@[simp] theorem pdMod_mem : (pdMod n f s).mem = s.mem := rfl
@[simp] theorem pdMod_boot : (pdMod n f s).boot = s.boot := rfl
@[simp] theorem pdMod_hlt : (pdMod n f s).hlt = s.hlt := rfl
@[simp] theorem pdMod_plk : (pdMod n f s).plk = s.plk := rfl
@[simp] theorem pdMod_drawn : (pdMod n f s).drawn = s.drawn := rfl
@[simp] theorem pdMod_pending : (pdMod n f s).pending = s.pending := rfl
end

section
variable (n : Fin 16) (f : Comparator → Comparator) (s : State)
@[simp] theorem cmpMod_dict : (cmpMod n f s).dict = s.dict := rfl
@[simp] theorem cmpMod_results : (cmpMod n f s).results = s.results := rfl
@[simp] theorem cmpMod_saved : (cmpMod n f s).saved = s.saved := rfl
@[simp] theorem cmpMod_regs : (cmpMod n f s).regs = s.regs := rfl
@[simp] theorem cmpMod_links : (cmpMod n f s).links = s.links := rfl
@[simp] theorem cmpMod_evf : (cmpMod n f s).evf = s.evf := rfl
@[simp] theorem cmpMod_tmr : (cmpMod n f s).tmr = s.tmr := rfl
@[simp] theorem cmpMod_bkp : (cmpMod n f s).bkp = s.bkp := rfl
@[simp] theorem cmpMod_pcc : (cmpMod n f s).pcc = s.pcc := rfl
@[simp] theorem cmpMod_wave : (cmpMod n f s).wave = s.wave := rfl
@[simp] theorem cmpMod_bkt : (cmpMod n f s).bkt = s.bkt := rfl
@[simp] theorem cmpMod_rf : (cmpMod n f s).rf = s.rf := rfl
@[simp] theorem cmpMod_txm : (cmpMod n f s).txm = s.txm := rfl
@[simp] theorem cmpMod_rx : (cmpMod n f s).rx = s.rx := rfl
@[simp] theorem cmpMod_lnk : (cmpMod n f s).lnk = s.lnk := rfl
@[simp] theorem cmpMod_cwy : (cmpMod n f s).cwy = s.cwy := rfl
@[simp] theorem cmpMod_slu : (cmpMod n f s).slu = s.slu := rfl
@[simp] theorem cmpMod_sec : (cmpMod n f s).sec = s.sec := rfl
@[simp] theorem cmpMod_kz : (cmpMod n f s).kz = s.kz := rfl
@[simp] theorem cmpMod_mem : (cmpMod n f s).mem = s.mem := rfl
@[simp] theorem cmpMod_boot : (cmpMod n f s).boot = s.boot := rfl
@[simp] theorem cmpMod_hlt : (cmpMod n f s).hlt = s.hlt := rfl
@[simp] theorem cmpMod_plk : (cmpMod n f s).plk = s.plk := rfl
@[simp] theorem cmpMod_drawn : (cmpMod n f s).drawn = s.drawn := rfl
@[simp] theorem cmpMod_pending : (cmpMod n f s).pending = s.pending := rfl
end

section
variable (n : Fin 8) (f : Timer → Timer) (s : State)
@[simp] theorem tmod_dict : (tmod n f s).dict = s.dict := rfl
@[simp] theorem tmod_results : (tmod n f s).results = s.results := rfl
@[simp] theorem tmod_saved : (tmod n f s).saved = s.saved := rfl
@[simp] theorem tmod_regs : (tmod n f s).regs = s.regs := rfl
@[simp] theorem tmod_links : (tmod n f s).links = s.links := rfl
@[simp] theorem tmod_ptb : (tmod n f s).ptb = s.ptb := rfl
@[simp] theorem tmod_evf : (tmod n f s).evf = s.evf := rfl
@[simp] theorem tmod_bkp : (tmod n f s).bkp = s.bkp := rfl
@[simp] theorem tmod_pcc : (tmod n f s).pcc = s.pcc := rfl
@[simp] theorem tmod_wave : (tmod n f s).wave = s.wave := rfl
@[simp] theorem tmod_bkt : (tmod n f s).bkt = s.bkt := rfl
@[simp] theorem tmod_rf : (tmod n f s).rf = s.rf := rfl
@[simp] theorem tmod_txm : (tmod n f s).txm = s.txm := rfl
@[simp] theorem tmod_rx : (tmod n f s).rx = s.rx := rfl
@[simp] theorem tmod_lnk : (tmod n f s).lnk = s.lnk := rfl
@[simp] theorem tmod_cwy : (tmod n f s).cwy = s.cwy := rfl
@[simp] theorem tmod_slu : (tmod n f s).slu = s.slu := rfl
@[simp] theorem tmod_sec : (tmod n f s).sec = s.sec := rfl
@[simp] theorem tmod_kz : (tmod n f s).kz = s.kz := rfl
@[simp] theorem tmod_mem : (tmod n f s).mem = s.mem := rfl
@[simp] theorem tmod_boot : (tmod n f s).boot = s.boot := rfl
@[simp] theorem tmod_hlt : (tmod n f s).hlt = s.hlt := rfl
@[simp] theorem tmod_plk : (tmod n f s).plk = s.plk := rfl
@[simp] theorem tmod_drawn : (tmod n f s).drawn = s.drawn := rfl
@[simp] theorem tmod_pending : (tmod n f s).pending = s.pending := rfl
end

end Sys2Proof.Machine
end

