-- ==== Sys2Proof/Laws/Shared.lean ====
section
/-! SUPPORT. One lemma for each shared operation that says what it can do: values of the dictionary and of registers, result entries, what the
device sends, the event fabric, health events, and requests in their turn. -/

namespace Sys2Proof.Machine

/-! ### The dictionary -/

@[simp] theorem dGet_dSet_self (s : State) (x y : Nat) (v : List Byte) : (s.dSet x y v).dGet x y = v := by
  unfold State.dGet State.dSet
  split
  · rename_i w h
    by_cases e : v = dictDefault x y
    · simp [e, alGet_alDel_self] at h
    · simpa [e, alGet_alPut_self, eq_comm] using h
  · rename_i h
    by_cases e : v = dictDefault x y
    · exact e.symm
    · simp [e, alGet_alPut_self] at h

theorem dGet_dSet_ne (s : State) {x y i j : Nat} (v : List Byte) (h : key i j ≠ key x y) : (s.dSet x y v).dGet i j = s.dGet i j := by
  unfold State.dGet State.dSet
  by_cases e : v = dictDefault x y <;> simp only [e, if_true, if_false, alGet_alDel_ne _ h, alGet_alPut_ne _ _ h]

/-- Entries are told apart by their keys while the subindex is a byte. -/
theorem key_inj {i j x y : Nat} (hj : j < 256) (hy : y < 256) : key i j = key x y ↔ i = x ∧ j = y := by
  unfold key
  omega

@[simp] theorem dGet_dPut_self (s : State) (x y v : Nat) : (s.dPut x y v).dGet x y = leBytes (entryWidth x y) v := by
  simp [State.dPut]

theorem dGet_dPut_ne (s : State) {x y i j : Nat} (v : Nat) (h : key i j ≠ key x y) : (s.dPut x y v).dGet i j = s.dGet i j :=
  dGet_dSet_ne s _ h

/-- A scalar entry reads back the number it was given, as its width holds it. -/
theorem dU_dPut_self (s : State) (x y v : Nat) : (s.dPut x y v).dU x y = v % 256 ^ entryWidth x y := by
  simp [State.dU, leNat_leBytes]

@[simp] theorem dGet_produce_self (s : State) (x y : Nat) (v : List Byte) : (s.produce x y v).dGet x y = v :=
  dGet_dSet_self s x y v

theorem dGet_produce_ne (s : State) {x y i j : Nat} (v : List Byte) (h : key i j ≠ key x y) : (s.produce x y v).dGet i j = s.dGet i j :=
  dGet_dSet_ne s v h

/-! ### Result entries -/

/-- A new result stands as produced, with every reader's FRESH flag set and nothing pending (R25). -/
@[simp] theorem resOf_produce_self (s : State) (x y : Nat) (v : List Byte) :
    (s.produce x y v).resOf x y = { produced := true, pending := false, fresh := 0x7F } := by
  simp [State.resOf, State.produce, alGet_alPut_self]

theorem resOf_produce_ne (s : State) {x y i j : Nat} (v : List Byte) (h : key i j ≠ key x y) : (s.produce x y v).resOf i j = s.resOf i j := by
  simp [State.resOf, State.produce, alGet_alPut_ne _ _ h]

@[simp] theorem resOf_resPend_self (s : State) (x y : Nat) : (s.resPend x y).resOf x y = { s.resOf x y with pending := true } := by
  simp [State.resOf, State.resPend, alGet_alPut_self]

theorem resOf_resPend_ne (s : State) {x y i j : Nat} (h : key i j ≠ key x y) : (s.resPend x y).resOf i j = s.resOf i j := by
  simp [State.resOf, State.resPend, alGet_alPut_ne _ _ h]

/-! ### Registers by address -/

@[simp] theorem reg_setReg_self (s : State) (a : Nat) (v : BitVec 32) : (s.setReg a v).reg a = v := by
  unfold State.reg State.setReg
  by_cases e : v = regReset a
  · simp [e, alGet_alDel_self]
  · simp [e, alGet_alPut_self]

theorem reg_setReg_ne (s : State) {a b : Nat} (v : BitVec 32) (h : b ≠ a) : (s.setReg a v).reg b = s.reg b := by
  unfold State.reg State.setReg
  by_cases e : v = regReset a <;> simp only [e, if_true, if_false, alGet_alDel_ne _ h, alGet_alPut_ne _ _ h]

@[simp] theorem reg_setRegN_self (s : State) (a v : Nat) : (s.setRegN a v).reg a = BitVec.ofNat 32 v := by simp [State.setRegN]

theorem reg_setRegN_ne (s : State) {a b : Nat} (v : Nat) (h : b ≠ a) : (s.setRegN a v).reg b = s.reg b := reg_setReg_ne s _ h

theorem reg_flag_ne (s : State) {a b : Nat} (n : Nat) (h : b ≠ a) : (s.flag a n).reg b = s.reg b := reg_setReg_ne s _ h

theorem reg_bump_ne (s : State) {a b : Nat} (h : b ≠ a) : (s.bump a).reg b = s.reg b := reg_setReg_ne s _ h

/-! ### What the device sends -/

/-- A NOTIFY changes nothing but what the links have to send (R27). -/
theorem notifyAt_frame (s : State) (x y : Nat) (node : BitVec 18) (st : Status) (d : List Byte) :
    ∃ o, s.notifyAt x y node st d = { s with links := { s.links with outbox := o } } := by
  unfold State.notifyAt
  dsimp only
  split
  · exact ⟨s.links.outbox, rfl⟩
  · split <;> split <;> split <;> split <;> exact ⟨_, rfl⟩

/-- No NOTIFY leaves while main firmware serves nobody. -/
theorem notifyAt_silent {s : State} (h : s.links.serving ≠ .main) (x y : Nat) (node : BitVec 18) (st : Status) (d : List Byte) :
    s.notifyAt x y node st d = s := by
  unfold State.notifyAt
  simp [h]

/-- A function's own status set changes nothing but that status and what the links have to send (R50). -/
theorem setFn_frame (s : State) (n : Fin 20) (v : Byte) :
    ∃ o, s.setFn n v = { s with links := { s.links with fn := vset s.links.fn n v, outbox := o } } := by
  unfold State.setFn
  dsimp only
  split
  · exact ⟨_, rfl⟩
  · obtain ⟨o, h⟩ := notifyAt_frame { s with links := { s.links with fn := vset s.links.fn n v } } 0x1201 (n.1 + 1) 0 stOk
      [State.fnStatus { s with links := { s.links with fn := vset s.links.fn n v } } n]
    exact ⟨o, h⟩

/-- A response changes nothing but what the links have to send and the answer that firmware has (R37, R39). -/
theorem respond_frame (s : State) (src : Src) (mac : BitVec 48) (p : Pdu) :
    ∃ o a, s.respond src mac p = { s with links := { s.links with outbox := o, fwAnswer := a } } := by
  cases src <;> simp only [State.respond] <;> (try split) <;> exact ⟨_, _, rfl⟩

/-! ### The event fabric -/

/-- An event sent toward a channel changes the fabric alone; below hop 8 it is due in the next cycle (R399, R402). -/
theorem evfSend_frame (c : Fin 64) (hop : Nat) (s : State) : ∃ e, evfSend c hop s = { s with evf := e } := by
  unfold evfSend evfDrop
  split <;> exact ⟨_, rfl⟩

theorem evfSend_due {c : Fin 64} {hop : Nat} (h : hop < 8) (s : State) :
    evfSend c hop s = { s with evf := { s.evf with due := s.evf.due ++ [{ ch := c, hop := hop }] } } := by
  unfold evfSend
  rw [if_neg (by omega)]

/-- A firing changes the fabric alone (R397). -/
theorem fireHop_frame (p hop : Nat) (s : State) : ∃ e, fireHop p hop s = { s with evf := e } := by
  unfold fireHop
  dsimp only
  split
  · exact ⟨s.evf, rfl⟩
  · split <;> split
    · obtain ⟨e, h⟩ := evfSend_frame (chan (field (s.regN (prodReg p)) 5 0)) hop s
      obtain ⟨e', h'⟩ := evfSend_frame (chan (field (s.regN (prodReg p)) 13 8)) hop { s with evf := e }
      exact ⟨e', by rw [h, h']⟩
    · exact evfSend_frame ..
    · exact evfSend_frame ..
    · exact ⟨s.evf, rfl⟩

theorem fire_frame (p : Nat) (s : State) : ∃ e, fire p s = { s with evf := e } := fireHop_frame p 0 s

/-- While the fabric's clock stands, a producer reaches no channel (R399). -/
theorem fireHop_stopped {s : State} (h : s.fabricOn = false) (p hop : Nat) : fireHop p hop s = s := by
  unfold fireHop
  simp [h]

/-! ### Health events -/

/-- A health event writes the log and its count and fires HMON_EVENT; nothing else changes (R479). -/
theorem healthEvent_frame (id unit act : Nat) (inj : Bool) (s : State) :
    ∃ d r e, healthEvent id unit act inj s = { s with dict := d, regs := r, evf := e } := by
  unfold healthEvent
  dsimp only
  obtain ⟨e, h⟩ := fire_frame 0xB1 ((s.dSet 0x3600 0x80
    (((slotBytes s ++ [BitVec.ofNat 8 id, BitVec.ofNat 8 unit, BitVec.ofNat 8 act, BitVec.ofNat 8 (b2n inj)] ++ List.replicate 7 0) ++
      s.dGet 0x3600 0x80).take 256)).bump 0x400A00C0)
  exact ⟨_, _, e, h⟩

/-! ### Requests in their turn -/

/-- With nothing waiting, a request is executed at once by whoever serves its source (R32). -/
theorem request_now {s : State} (h : s.links.waiting = []) (e : Ext) (q : Req) :
    request e q s = if answers q.src s then execute e q s else s := by
  unfold request serveAll
  rw [h]
  rfl

theorem hostWrite_now {s : State} (h : s.links.waiting = []) (e : Ext) (src : Src) (tid : Byte) (i : BitVec 16) (x : Byte) (v : List Byte) :
    hostWrite e src tid i x v s = if answers src s then execute e { src := src, pdu := writePdu tid i x v } s else s :=
  request_now h e _

/-- With nothing waiting, the idle block stays as it is. -/
theorem idle_still {s : State} (h : s.links.waiting = []) : idle s = .next s := by
  unfold idle serveOne
  rw [h]

/-! ### Memory of the reset state -/

theorem reset_mem_wf : State.reset.MemCanonical := rfl

end Sys2Proof.Machine
end

