-- ==== Sys2Proof/WellFormed.lean ====
section
/-! DEFINITION. Which commands the outside world can give: the shape of their operands, where the type of an operand allows more than a
frame, a measurement or an event can carry. What the device itself checks (an address, a length, a range, a key) is no part of this: it answers
those under its own rules. -/

namespace Sys2Proof

/-- The data of a PDU fit its LEN field, 0 to 1,024 bytes with the offset of a segment counted (R27). -/
def dataFits (seg : Bool) (data : List Byte) : Bool := decide (data.length + (if seg then 4 else 0) ≤ 1024)

/-- The lengths that the data field of a CAN FD frame can have (R36). -/
def canLength (data : List Byte) : Bool := [0, 1, 2, 3, 4, 5, 6, 7, 8, 12, 16, 20, 24, 32, 48, 64].contains data.length

/-- A self-test names no unit twice and gives at most one time for each of the nine parts (R491). -/
def testResult (fails : List TestUnit) (ms : List (BitVec 16)) : Bool := decide fails.Nodup && decide (ms.length ≤ 9)

/-- Listen-before-talk measures each channel of 0 to 127 at most once (R242). -/
def channels (lbt : List (Nat × Int)) : Bool := decide (lbt.map (·.1)).Nodup && lbt.all (fun x => decide (x.1 < 128))

/-- The operands of a command are ones that the outside world can give. -/
def Instr.wellFormed : Instr → Bool
  | .write _ _ _ _ _ data => dataFits false data
  | .segWrite _ _ _ _ _ _ _ data => dataFits true data
  | .proxyWrite _ _ _ _ _ data => dataFits false data
  | .proxyBroadcastWrite _ _ _ _ data => dataFits false data
  | .airRequest _ _ _ v => dataFits false v
  | .channelMaskWrite _ _ v => dataFits false v
  | .dpdCoefWrite _ _ v => dataFits false v
  | .keyWrite _ _ _ v => dataFits false v
  | .keyNextWrite _ _ v => dataFits false v
  | .netNextWrite _ _ v => dataFits false v
  | .custKeyHashWrite _ _ _ v _ => dataFits false v
  | .stageData _ _ _ _ data => dataFits true data
  | .canFrameReceive _ _ data => canLength data
  | .t1sFrameReceive frame => decide (frame.length ≤ 1514)
  | .peerFrameReceive hdr lh _ _ _ => decide (14 ≤ hdr.length) && decide (lh.length = 8)
  | .dpdFitDone fit _ _ => decide (fit.length = 15)
  | .bootRomStart _ fails ms => testResult fails ms
  | .bistDone fails ms => testResult fails ms
  | .widebandAgcStep loud quiet _ hit => !(loud && quiet) && decide hit.Nodup
  | .recordGap a b => decide (a ≤ b)
  | .flcOpDone _ words => decide words.Nodup
  | .ackSeal lbt => channels lbt
  | .downlinkBurst lbt => channels lbt
  | .decodeDone _ _ iter _ weak => decide (iter ≤ 255) && decide (weak ≤ 255)
  | .bucketRefillTick n => decide (0 < n)
  | .roleWrite .. | .read .. | .segRead .. | .dtpAbort .. | .badOpRequest .. | .segmentTimeout .. | .saveSettings .. | .saveDone ..
    | .proxyRead .. | .proxyReply .. | .proxyTimeout .. | .airResult .. | .remoteDtpRequest .. | .canApply .. | .t1sApply .. |
    .spiQuadWrite .. | .uartRateWrite .. | .canBusOffRecovery .. | .spiReadStatus .. | .spiWriteFrame .. | .spiReadFrame .. |
    .spiUnknownCommand .. | .uartFrameReceive .. | .heartbeatTick .. | .fnReinit .. | .deviceResetWrite .. | .ptbTick .. |
    .ptbClockSwitch .. | .lfTrimMeasure .. | .quadTransition .. | .indexEdge .. | .refEdge .. | .domainStall .. | .netCycleWrite ..
    | .netCycleChange .. | .gearUpdate .. | .pdStepWrite .. | .comparatorArm .. | .ptbSnap .. | .pdPhaseRead .. | .regionPlanWrite
    .. | .networkIdWrite .. | .channelMaskApply .. | .waveformTestRequest .. | .waveformTestDone .. | .rfsAbort .. | .rfsSleep .. |
    .rfsStandby .. | .rfsSynthReady .. | .rfsRx .. | .rfsTx .. | .rfsBadCommand .. | .rfsTrigger .. | .pendingCommandStart .. |
    .rfTransitionDone .. | .txFrameEnd .. | .rxWindowClose .. | .synthUnlock .. | .calRequest .. | .calStep .. | .calAutoTrigger ..
    | .imageRejUpdate .. | .antFaultTrip .. | .antFaultClear .. | .preambleDetection .. | .allocQueueTimeout .. | .laneAssign .. |
    .syncCheck .. | .headerDemodulated .. | .headerResult .. | .payloadDemodulated .. | .replayLost .. | .decodeStart .. |
    .syndromeCheckDone .. | .regenCheckWindow .. | .regenDone .. | .receptionReport .. | .laneRetire .. | .sliceRetire .. |
    .engineRetire .. | .spareSearchDone .. | .grantRequest .. | .carrierEnd .. | .dpdFeedbackWindow .. | .dpdSave .. | .schedApply
    .. | .schedSwitch .. | .sendOccurrence .. | .serveWindowEnd .. | .groupAckSend .. | .ackReceive .. | .ackMissed .. | .beaconTx
    .. | .anchorBeaconTx .. | .beaconAccept .. | .enterCatch .. | .beaconMiss .. | .enterLost .. | .enterDormant .. | .anchorAccept
    .. | .dormantListen .. | .routeCommit .. | .routeBuildDone .. | .routeTableSwitch .. | .rosterLiveUpdate .. | .relayDecision ..
    | .rosterOpRequest .. | .rosterOpDone .. | .restoreRequest .. | .sluAllocRead .. | .sluEnq .. | .keyChangeRequest .. |
    .keyRotation .. | .previousEpochErase .. | .wrapRequest .. | .keyErase .. | .cmcAbort .. | .cmcGen .. | .cmcVerify .. | .cmcWrap
    .. | .cmcTest .. | .cmcBlockDone .. | .cmcJobDone .. | .ksLoad .. | .ksErase .. | .pkeHashStart .. | .pkeHashContinue .. |
    .pkeHashFinal .. | .pkeVerify .. | .pkeSign .. | .pkeJobDone .. | .otpProgram .. | .custKeyRevoke .. | .rollbackMinWrite .. |
    .debugLockWrite .. | .attRequest .. | .attReportDone .. | .securityTestRequest .. | .securityTestDone .. | .add .. | .sub .. |
    .adc .. | .sbc .. | .and .. | .or .. | .xor .. | .andn .. | .shl .. | .shr .. | .sar .. | .ror .. | .slt .. | .sltu .. | .min ..
    | .max .. | .minu .. | .maxu .. | .mul .. | .mulh .. | .mulhu .. | .div .. | .divu .. | .rem .. | .remu .. | .neg .. | .abs .. |
    .clz .. | .sexb .. | .sexh .. | .brev .. | .bswap .. | .addi .. | .andi .. | .ori .. | .xori .. | .shli .. | .shri .. | .sari ..
    | .rori .. | .slti .. | .sltiu .. | .lui .. | .auipc .. | .ldw .. | .ldh .. | .ldhu .. | .ldb .. | .ldbu .. | .stw .. | .sth ..
    | .stb .. | .ll .. | .sc .. | .beq .. | .bne .. | .blt .. | .bge .. | .bltu .. | .bgeu .. | .jal .. | .j .. | .jalr .. | .loop
    .. | .loopBack .. | .nop .. | .trap .. | .rft .. | .wait .. | .mfsr .. | .mtsr .. | .fence .. | .ifence .. | .brk .. | .ladd ..
    | .lsub .. | .lneg .. | .lconj .. | .lmul .. | .lmulc .. | .lsar .. | .lshl .. | .lpack .. | .lunpi .. | .lunpq .. | .lmag2 .. |
    .lrot .. | .mac .. | .msu .. | .xmac .. | .xmacc .. | .clra .. | .racc .. | .apack .. | .mfacl .. | .mfach .. | .mtacl .. |
    .mtach .. | .mtacc .. | .mtag .. | .mfag .. | .ldag .. | .stag .. | .xmacD .. | .xmaccD .. | .macDh .. | .msuDh .. |
    .customOpcode .. | .illegalInstruction .. | .coreRestart .. | .interruptEntry .. | .nmiEntry .. | .coreRetire .. | .kzcSwapArm
    .. | .coreSwap .. | .coreRunWrite .. | .microcodeWrite .. | .sramScrubPass .. | .sramRowRepair .. | .flcKeyWrite .. |
    .flcProgram .. | .flcErase .. | .flcVerifyProgram .. | .flcVerifyErase .. | .flcRemap .. | .flcBadCommand .. | .flcIntrWrite ..
    | .dramScrubPass .. | .dramUe .. | .dramCapar .. | .patternGenStart .. | .dmcMrw .. | .dramRefresh .. | .dramTempRead .. |
    .rhNeighbourRefresh .. | .sparePowerDown .. | .dramColdWrite .. | .rankRetire .. | .migWakeDone .. | .migCopyDone .. | .migAbort
    .. | .channelFire .. | .evfFireWrite .. | .bridgeForward .. | .pendingTriggerAct .. | .tmrStart .. | .tmrStop .. |
    .tmrStartTrigger .. | .tmrStopTrigger .. | .timerTick .. | .tmrCapTrigger .. | .timInEdge .. | .tmrCaptRead .. |
    .tmrCountLowRead .. | .backupPor .. | .oscStop .. | .bkpWriteComplete .. | .calendarSecond .. | .bkpSubsecRead .. |
    .bkpTimeWrite .. | .haltRelease .. | .pwrHoldClear .. | .rtcSecondsWrite .. | .rtcFlagsClear .. | .powerCycle .. | .domainReq ..
    | .domainChangeDone .. | .regModeWrite .. | .regModeDone .. | .borLp .. | .vmainSample .. | .borMain .. | .pllLock .. | .xoFail
    .. | .xoRestartAttempt .. | .sleepArm .. | .wake .. | .powerOn .. | .resetNAssert .. | .securityEntry .. | .mainFirmwareStart ..
    | .stageBegin .. | .stageVerify .. | .confirm .. | .autoConfirm .. | .copySector .. | .activateNow .. | .activationRestart .. |
    .hoRequest .. | .actRequest .. | .actCancel .. | .actDefer .. | .monitorSample .. | .lifetimeRecordSave .. | .injectReport .. |
    .injectAct .. | .watchdogKick .. | .watchdogExpiry .. | .supervisorMismatch .. | .shutdown .. | .rollRequest .. | .rollUnitDone
    .. | .rollGapExpiry .. | .bistAbort .. | .plkLossOfSignal .. | .plkLinkUp .. | .plkFrameReceive .. | .plkHeartbeatSend .. |
    .partnerLost .. | .phaseFrameSend .. | .linkDelayMeasure .. | .phaseLoss .. | .mirrorRecord .. | .journalOverflow .. |
    .beaconWaitExpiry .. | .demotionListen .. | .dualRootResolve .. | .twinSwitch .. | .twinSwitchExecute .. | .arbGrant .. |
    .lockSet .. | .registerWrite .. | .vioLoss .. | .vioReturn .. | .pllUnlock .. | .rtcOscillatorResume .. |
    .boundaryScanInstruction .. | .testLogicReset .. | .anchorPeriodEnd .. | .twinStartListenEnd .. => true

end Sys2Proof
end

