-- ==== Sys2Proof/Tests/Slice0.lean ====
section
/-! SUPPORT. The model's own tests: an ill-formed term for each check of WellFormed, and for every statement with hypotheses a state and operands
that meet them, clause by clause. Expected values come from the spec's text. -/

open Sys2Proof Sys2Proof.Machine

namespace Sys2Proof.Tests

set_option Elab.async false

/-! ### States that the tests start from -/

/-- Every domain ON, main firmware serving, no request waiting. -/
def live : State :=
  { State.reset with
    pcc := { State.reset.pcc with dom := .replicate 24 .on, xoRun := true }
    links := { serving := .main }
    boot := { stage := .main } }

/-- The same in a role. -/
def asRole (r : Byte) (s : State) : State := s.dSet 0x1200 1 [r]

/-- Core 0 runs at the start of its slice of shared SRAM. -/
def kz : State := kmod 0 (fun k => { k with halted := false, pc := 0x20000000, tbase := 0x20001000 }) live

/-- Core 0 of `kz` changed. -/
def kzWith (f : Core → Core) : State := kmod 0 f kz

theorem live_asks : Asks live .can0 := ⟨rfl, rfl, by decide, 0, rfl, by decide⟩

/-! ### Ill-formed operands, one for each check of WellFormed -/

theorem test_wf_write_too_long : (Instr.write .can0 0 0x1200 1 0 (.replicate 1025 0)).wellFormed = false := by
  show dataFits false _ = false
  unfold dataFits
  rw [List.length_replicate]
  rfl
theorem test_wf_write_longest : (Instr.write .can0 0 0x1200 1 0 (.replicate 1024 0)).wellFormed = true := by
  show dataFits false _ = true
  unfold dataFits
  rw [List.length_replicate]
  rfl
theorem test_wf_segment_too_long : (Instr.segWrite .can0 0 0x1200 1 0 0 false (.replicate 1021 0)).wellFormed = false := by
  show dataFits true _ = false
  unfold dataFits
  rw [List.length_replicate]
  rfl
theorem test_wf_segment_longest : (Instr.segWrite .can0 0 0x1200 1 0 0 false (.replicate 1020 0)).wellFormed = true := by
  show dataFits true _ = true
  unfold dataFits
  rw [List.length_replicate]
  rfl
theorem test_wf_can_nine_bytes : (Instr.canFrameReceive false 0 (.replicate 9 0)).wellFormed = false := by decide
theorem test_wf_can_twelve_bytes : (Instr.canFrameReceive false 0 (.replicate 12 0)).wellFormed = true := by decide
theorem test_wf_t1s_too_long : (Instr.t1sFrameReceive (.replicate 1515 0)).wellFormed = false := by
  simp only [Instr.wellFormed, List.length_replicate]
  decide
theorem test_wf_peer_short_header : (Instr.peerFrameReceive (.replicate 13 0) (.replicate 8 0) [] 0 0).wellFormed = false := by decide
theorem test_wf_peer_link_header : (Instr.peerFrameReceive (.replicate 14 0) (.replicate 7 0) [] 0 0).wellFormed = false := by decide
theorem test_wf_fit_coefficients : (Instr.dpdFitDone (.replicate 14 0) 0 false).wellFormed = false := by decide
theorem test_wf_boot_unit_twice : (Instr.bootRomStart 63 [.lane 3, .lane 3] []).wellFormed = false := by decide
theorem test_wf_bist_ten_times : (Instr.bistDone [] (.replicate 10 1)).wellFormed = false := by decide
theorem test_wf_agc_loud_and_quiet : (Instr.widebandAgcStep true true 0 []).wellFormed = false := by decide
theorem test_wf_agc_lane_twice : (Instr.widebandAgcStep true false 0 [1, 1]).wellFormed = false := by decide
theorem test_wf_gap_backwards : (Instr.recordGap 5 4).wellFormed = false := by decide
theorem test_wf_flash_word_twice : (Instr.flcOpDone true [7, 7]).wellFormed = false := by decide
theorem test_wf_channel_twice : (Instr.ackSeal [(4, -90), (4, -80)]).wellFormed = false := by decide
theorem test_wf_channel_128 : (Instr.downlinkBurst [(128, -90)]).wellFormed = false := by decide
theorem test_wf_iterations : (Instr.decodeDone 0 true 256 [] 0).wellFormed = false := by decide
theorem test_wf_no_refill : (Instr.bucketRefillTick 0).wellFormed = false := by decide

/-! ### The KZ cores -/

/-- Core 0 with g1 at the start of shared SRAM, its generators 0 and 1 on its own X and Y memory, and a division by 0 allowed. -/
def kzMem : State :=
  kzWith (fun k => { k.setGr 1 0x20000000 with
    ag := (k.ag.set 0 { base := 0x21000000, step := 1, len := 4, cfg := 9 }).set 1 { base := 0x21020000, step := 0xFFFFFFFF } })

/-- Core 0 in task mode, with one region that lets it execute. -/
def kzTask : State :=
  kzWith (fun k => { k with sw := 0, fwctrl := 1, rgn := k.rgn.set 0 { base := 0x20000000, limit := 0x20100000, attr := 0x2F } })

theorem kz_ready : KzReady kz 0 0 := ⟨by decide +kernel, by decide +kernel, by decide +kernel, by decide +kernel, by decide +kernel⟩
theorem kzMem_ready : KzReady kzMem 0 0 := ⟨by decide +kernel, by decide +kernel, by decide +kernel, by decide +kernel, by decide +kernel⟩

theorem test_KzRegisterArithmetic_hyps : KzReady kz 0 0 := kz_ready

theorem test_KzSampleLanes_hyps : KzReady kz 0 0 := kz_ready

/-- A division by 0 with DZE clear, one by another divisor. -/
theorem test_KzDivisionAndImmediates_hyps : KzReady kz 0 0 ∧ (vget kz.kz.phys 0).sw.getLsbD 8 = false ∧ (vget kzMem.kz.phys 0).gr 1 ≠ 0 :=
  ⟨kz_ready, by decide +kernel, by decide +kernel⟩

theorem test_KzAccumulators_hyps : KzReady kz 0 0 ∧ ((0 : Fin 4) = 0 ∨ (0 : Fin 4) = 2) ∧ (47 : Byte).toNat ≤ 47 := ⟨kz_ready, by decide +kernel, by decide +kernel⟩

theorem test_KzLoads_hyps :
    KzReads kzMem ⟨0, 0, 0x20000000, 4⟩ ∧ KzReads kzMem ⟨0, 0, 0x20000002, 2⟩ ∧ KzReads kzMem ⟨0, 0, 0x20000003, 1⟩ ∧
    KzReads kzMem ⟨0, 0, 0x21000000, 4⟩ ∧ kzMem.region 0x20000000 = .sram :=
  ⟨⟨by decide +kernel, .inl (by decide +kernel), by decide +kernel⟩, ⟨by decide +kernel, .inl (by decide +kernel), by decide +kernel⟩, ⟨by decide +kernel, .inl (by decide +kernel), by decide +kernel⟩,
    ⟨by decide +kernel, .inr (.inl ⟨0, by decide +kernel⟩), by decide +kernel⟩, by decide +kernel⟩

theorem test_KzStores_hyps :
    KzWrites kzMem ⟨0, 0, 0x203FFFFC, 4⟩ ∧ KzWrites kzMem ⟨0, 0, 0x203FFFFE, 2⟩ ∧ KzWrites kzMem ⟨0, 0, 0x203FFFFF, 1⟩ ∧
    (vget kzMem.kz.phys 0).resv ≠ some (0x20000000 / 32 * 32) ∧
    (vget (kzWith (fun k => { k with resv := some 0x20000000 })).kz.phys 0).resv = some (0x20000000 / 32 * 32) :=
  ⟨⟨by decide +kernel, .inl (by decide +kernel)⟩, ⟨by decide +kernel, .inl (by decide +kernel)⟩, ⟨by decide +kernel, .inl (by decide +kernel)⟩, by decide +kernel, by decide +kernel⟩

theorem test_KzAddressGenerators_hyps :
    KzReads kzMem ⟨0, 0, (vget (vget kzMem.kz.phys 0).ag 0).base, 4⟩ ∧ KzReads kzMem ⟨0, 0, (vget (vget kzMem.kz.phys 0).ag 1).base, 4⟩ ∧
    KzWrites kzMem ⟨0, 0, (vget (vget kzMem.kz.phys 0).ag 0).base, 4⟩ ∧ (0 : Fin 4) ≠ 1 ∧ (4 : Fin 8).1 < 5 ∧ (2 : Fin 4).1 < 3 :=
  ⟨⟨by decide +kernel, .inr (.inl ⟨0, by decide +kernel⟩), by decide +kernel⟩, ⟨by decide +kernel, .inr (.inr ⟨0, by decide +kernel⟩), by decide +kernel⟩,
    ⟨by decide +kernel, .inr (.inl ⟨0, by decide +kernel⟩)⟩, by decide +kernel, by decide +kernel, by decide +kernel⟩

theorem test_KzTransfers_hyps :
    (vget kzMem.kz.phys 0).pc.toNat % 4 = 0 ∧ ((vget kzMem.kz.phys 0).gr 1 + (0x3FFFC : BitVec 18).signExtend 32).toNat % 4 = 0 ∧
    1 ≤ (1 : BitVec 18).toNat ∧ (131071 : BitVec 18).toNat ≤ 131071 ∧
    (let k := vget (kzWith (fun k => { k with le := k.pc, ls := k.pc - 8, lc := 1 })).kz.phys 0
     k.pc = k.le ∧ k.lc ≠ 0) := by decide +kernel

/-- A state for each premise: outside a handler, a pending line with the highest priority, an NMI, a return of either kind, a debugger, no sleep
armed, and a handler that fails. -/
theorem test_KzExceptions_hyps :
    (let k := vget kz.kz.phys 0
     k.sw.getLsbD 11 = false ∧ k.sw.getLsbD 16 = false ∧ kz.kz.debugger = false ∧ legalWord 0xFFFFFFFF = false ∧ k.sw.getLsbD 10 = true ∧
     k.nmiPend = false ∧ k.tpc.toNat % 4 = 0 ∧ kz.pcc.armed = false) ∧
    (let k := vget (kzWith (fun k => { k with sw := 0x500 })).kz.phys 0
     k.gr 2 = 0 ∧ k.sw.getLsbD 8 = true) ∧
    (let s : State := { kzWith (fun k => { k with sw := 0x600, ipri := k.ipri.set 0 0x53 }) with
       kz := { (kzWith (fun k => { k with sw := 0x600, ipri := k.ipri.set 0 0x53 })).kz with ipend := (Vector.replicate 6 0).set 0 3 } }
     let k := vget s.kz.phys 0
     (vget s.kz.ipend 0).getLsbD 1 = true ∧ k.pri < k.linePri 1 ∧ k.linePri 0 < k.linePri 1 ∧ k.sw.getLsbD 9 = true ∧ k.sw.getLsbD 11 = false) ∧
    (let k := vget (kzWith (fun k => { k with sw := 0x10C00 })).kz.phys 0
     k.sw.getLsbD 16 = true ∧ k.sw.getLsbD 11 = true ∧ k.npc.toNat % 4 = 0) ∧
    ({ kz with kz := { kz.kz with debugger := true } } : State).dU 0x3003 1 = 0 := by decide +kernel

theorem kzTask_ready : KzReady kzTask 0 0 := ⟨by decide +kernel, by decide +kernel, by decide +kernel, by decide +kernel, by decide +kernel⟩

theorem test_KzSystemRegisters_hyps : (vget kz.kz.phys 0).sw.getLsbD 10 = true ∧ (vget kzTask.kz.phys 0).sw.getLsbD 10 = false ∧
    (vget kzTask.kz.phys 0).sw.getLsbD 11 = false ∧ (vget kzTask.kz.phys 0).sw.getLsbD 16 = false := by decide +kernel

/-- The spare waits, and a swap with core 2 is armed. -/
def kzSwapArmed : State :=
  let s := kmod 5 (fun k => { k with halted := false, waiting := true }) kz
  { s with kz := { s.kz with swapArm := true, swapCore := 2 } }

theorem test_KzCoreControl_hyps :
    kz.physOf 1 = some 1 ∧ (vget kz.kz.phys 1).halted = true ∧ vget kz.kz.run 1 = false ∧ (kz.physOf 5).isSome = true ∧
    (kzSwapArmed.kz.swapArm = true ∧ kzSwapArmed.boot.handOver = none ∧ kzSwapArmed.kz.swapCore = BitVec.ofNat 3 2 ∧ kzSwapArmed.physOf 5 = some 5 ∧
      (vget kzSwapArmed.kz.phys 5).halted = false ∧ (vget kzSwapArmed.kz.phys 5).waiting = true) ∧
    (kz.kz.retired.getLsbD 2 = false ∧ kz.hlt.roll = none ∧ ∀ x : Fin 6, x ≠ 2 → kz.physOf x ≠ some 2) ∧
    (vget kz.kz.phys 0).ucvalid.getLsbD 3 = false ∧
    (let k := vget (kzWith (fun k => { k with ucvalid := 8, ucode := [(96, BitVec.ofNat 32 (2 ^ 26 + 4 * 2 ^ 21 + 5 * 2 ^ 16 + 6 * 2 ^ 11))] })).kz.phys 0
     k.ucvalid.getLsbD 3 = true ∧ k.ucodeBad.contains (32 * 3) = false ∧
     alGet k.ucode (32 * 3) = some (BitVec.ofNat 32 (2 ^ 26 + 4 * 2 ^ 21 + 5 * 2 ^ 16 + 6 * 2 ^ 11))) := by decide +kernel

/-! ### Timers, the fabric and the phase timebase -/

/-- Unit 0 counts, with a selected edge and a START trigger on channel 5. -/
def tmrRuns (count : BitVec 32) : State := tmod 0 (fun t => { t with run := true, count := count, reload := 9, cmpa := 9, cmpaAct := 3, trig := 0x03000045 }) live

/-- Units 0 and 1 are a running chained pair. -/
def tmrPair : State := tmod 0 (fun t => { t with run := true, chain := true, count := 0 }) (tmod 1 (fun t => { t with count := 1 }) live)

theorem test_TimerCounting_hyps :
    (inert 0 (tmrRuns 4) = false ∧ (vget (tmrRuns 4).tmr 0).run = true ∧ live.fabricOn = true ∧ 0 < wide 0 (·.count) (tmrRuns 4)) ∧
    wide 0 (·.count) (tmrRuns 0) = 0 ∧ (inert 0 tmrPair = false ∧ 0 < wide 0 (·.count) tmrPair) ∧ inert 1 tmrPair = true := by decide +kernel

/-- A trigger of one kind on its way to unit 0. -/
def trig0 (k : TrigKind) (s : State) : State := { s with evf := { s.evf with tmrTrigs := [{ unit := 0, kind := k, hop := 2 }] } }

/-- A firing of line 7 that core 2 remembers. -/
def coreWaits : State := { live with evf := { live.evf with corePend := live.evf.corePend.set 2 0x80 } }

theorem test_TimerTriggersAndCapture_hyps :
    (trig0 .start live).evf.tmrTrigs = [{ unit := 0, kind := .start, hop := 2 }] ∧ (vget (trig0 .start live).tmr 0).run = false ∧
    ((vget (trig0 .start (tmrRuns 4)).tmr 0).run = true ∧ (vget (tmrRuns 4).tmr 0).retrig = false ∧ (vget (tmrRuns 4).tmr 0).pend = none) ∧
    (vget (tmod 0 (fun t => { t with pend := some 1 }) (tmrRuns 4)).tmr 0).pend.isSome = true ∧
    (vget (tmrRuns 4).tmr 0).trig.extractLsb' 24 2 = 3 ∧ chained 0 tmrPair = true ∧
    (let u := vget (tmod 0 (fun t => { t with pend := some 1 }) live).tmr 0
     u.run = false ∧ u.pend = some 1) ∧
    ((vget coreWaits.evf.corePend 2).getLsbD 7 = true ∧ (vget coreWaits.kz.ipend 2).getLsbD 7 = false) := by decide +kernel

/-- Two events due at channel 3; a bridged firing of channel 4 at the hop count `h`. -/
def evfBusy (h : Nat) : State :=
  { live with evf := { live.evf with
      due := [{ ch := 3, hop := 1 }, { ch := 3, hop := 5 }, { ch := 9, hop := 0 }]
      bridges := [{ ch := 4, hop := h }], chans := live.evf.chans.set 4 { fwdEn := true, fwd := 11 } } }

theorem test_FabricFiring_hyps :
    (evfBusy 6).evf.due.any (fun x => x.ch == 3) = true ∧ (evfBusy 6).fabricOn = true ∧
    (evfBusy 7).evf.bridges = [{ ch := 4, hop := 7 }] ∧ (vget (evfBusy 7).evf.chans 4).fwdEn = true ∧
    ({ live with pcc := { live.pcc with dom := .replicate 24 .off } } : State).fabricOn = false := by decide +kernel

/-- The timebase on the 32.768 kHz clock. -/
def ptbLf : State := ptbMod (fun p => { p with lf := true, lfTrim := -120 }) live

theorem test_PhaseAdvance_hyps :
    live.ptb.lf = false ∧ live.pcc.xoRun = true ∧ ptbLf.ptb.lf = true ∧ (vget ptbLf.ptb.pd 1).lfRem < 16000000000 ∧ -1000000000 ≤ ptbLf.ptb.lfTrim := by
  decide +kernel

/-- Reference A with a source of a kind: PD2's source entry set. -/
def refWith (src : Byte) : State := live.dSet 0x2000 0x10 [src]

theorem test_PhaseReferences_hyps :
    live.pcc.vio = true ∧ (refWith 1).refSrc 2 = 1 ∧ (refWith 2).refSrc 2 = 2 ∧ (refWith 3).refSrc 2 = 3 ∧
    ((vget (refWith 1).ptb.pd 2).a = false ∧ (vget (refWith 1).ptb.pd 2).backward = false ∧ (vget (refWith 1).ptb.pd 2).stalled = false) ∧
    (let s := pdMod 2 (fun d => { d with edgePos := 5 * 2 ^ 24 }) (refWith 1)
     (vget s.ptb.pd 2).edgePos % 2 ^ 56 ≠ s.refIndexPhase 2 * 2 ^ 24 % 2 ^ 56) ∧
    (refWith 3).dU 0x2000 (refEntry 2 5) ≠ 1 := by decide +kernel

/-- A change of the network cycle whose cycle has begun. -/
def cycleDue : State := ptbMod (fun p => { p with cyclePending := true }) ((live.dPut 0x2000 2 5120000).dPut 0x2000 3 0)

/-- Gearing asked for in role 3. -/
def geared (g : GearState) : State := ptbMod (fun p => { p with gear := g }) ((asRole 3 live).dSet 0x2000 4 [1])

/-- Gearing in LOCKED behind a reference that moves at the nominal rate. -/
def gearLocked : State := pdMod 2 (fun d => { d with intervals := [163840000], edges := 20 }) ((geared .locked).dSet 0x2000 0x10 [2])

theorem test_PhaseSteps_hyps :
    (asRole 1 live).pd1Source = .air ∧ (asRole 4 live).pd1Source = .peer ∧ live.pd1Source = .free ∧
    (cycleDue.ptb.cyclePending = true ∧ cycleAhead cycleDue.cycle (cycleDue.dU 0x2000 3) = false ∧ cycleDue.ptb.nominal1 ≠ 0) ∧
    (geared .locked).pd1Source = .geared ∧ flywheelDue (geared .locked) = true ∧ flywheelDue gearLocked = false ∧ gearLocked.ptb.gear = .locked ∧
    gearLocked.dU 0x2000 7 ≤ 1000000 := by decide +kernel

theorem test_ComparatorArming_hyps :
    live.cmpOwned 3 = false ∧ ((0x00000000 : BitVec 32).getLsbD 26 = false) ∧ ((0x40000000 : BitVec 32).extractLsb' 29 2).toNat = 2 ∧
    2 ≤ (vget (cmpMod 3 (fun c => { c with step := 2 }) live).ptb.cmp 3).step.toNat % 65536 ∧
    ((0x20000000 : BitVec 32).extractLsb' 29 2).toNat = 1 ∧ (vget (cmpMod 3 (fun c => { c with step := 2 }) live).ptb.cmp 3).step ≠ 0 ∧
    (0x04000001 : BitVec 32).getLsbD 26 = true ∧ live.owns dRADIO = true := by decide +kernel

/-- An ABS target at the present position is not ahead: 0 lies outside the open range, and so does half the cycle count. -/
theorem test_ComparatorAbs_hyps :
    (0 * 2 ^ 32 + 0 + 2 ^ 60 - (0 * 2 ^ 32 + 0)) % 2 ^ 60 ∉ Set.Ioo 0 (2 ^ 59) ∧ (2 ^ 27 * 2 ^ 32 + 0 + 2 ^ 60 - (0 * 2 ^ 32 + 0)) % 2 ^ 60 ∉ Set.Ioo 0 (2 ^ 59) := by
  refine ⟨fun h => absurd h.1 (by decide +kernel), fun h => absurd h.2 (by decide +kernel)⟩

/-! ### The dictionary and the host links -/

/-- The entry that a wired link finds. -/
def found (index sub : Nat) (s : State) : Found :=
  (findEntry .can0 index sub s).getD
    { idx := 0, sub := 0, acc := .no, row := { lo := 0, hi := 0, ty := .u8, host := .no, remote := .no, fw := .no, dflt := 0, range := .any } }

/-- LINK_STAT's result produced. -/
def shown (index sub : Nat) (s : State) : State := s.produceSt index sub 0

theorem test_DictionaryReads_hyps :
    indexUsed 0x1100 live = true ∧
    (findEntry .can0 0x1100 1 live = some (found 0x1100 1 live) ∧ (found 0x1100 1 live).acc.reads = true ∧ (found 0x1100 1 live).row.result = false) ∧
    ((found 0x1000 4 live).row.ty.segmented = true ∧ (found 0x1000 4 live).acc.reads = true) ∧
    (let f := found 0x3500 0x11 live
     let s := live.dPut 0x3500 0x11 0
     findEntry .can0 0x3500 0x11 s = some f ∧ f.acc.reads = true) ∧
    ((found 0x1100 4 live).row.result = true ∧ (live.resOf 0x1100 4).produced = false) ∧
    ((shown 0x1100 4 live).resOf 0x1100 4).produced = true := by decide +kernel

/-- A DOMAIN of 60 bytes is longer than a CAN FD frame carries. -/
theorem test_DictionaryReads_long :
    let s := live.dSet 0x2200 0x14 (.replicate 60 7)
    findEntry .can0 0x2200 0x14 s = some (found 0x2200 0x14 s) ∧ (found 0x2200 0x14 s).acc.reads = true ∧ (found 0x2200 0x14 s).row.result = false ∧
      dataLimit .can0 < (s.entryBytes 0x2200 0x14).length := by decide +kernel

theorem test_DictionaryWrites_plain : Settable live .can0 0x1100 2 (found 0x1100 2 live) [1] ∧ (found 0x1100 2 live).row.request = false := by
  unfold Settable; decide +kernel

theorem test_DictionaryWrites_request :
    let f := found 0x2400 2 live
    findEntry .can0 0x2400 2 live = some f ∧ f.acc.writes = true ∧ f.row.request = true ∧ valueCheck f.row (live.dGet 0x2400 2) = 0 ∧
      entryCheck 0x2400 2 (live.dGet 0x2400 2) live = 0 ∧ live.role = 0 := by decide +kernel

/-- A segmented write of TEST_INPUT, two bytes along. -/
def midWrite : State := { live with links := { live.links with xfers := [xferOf .can0 7 0x2200 0x14 [1, 2]] } }

theorem test_DictionaryWrites_segmented :
    Settable midWrite .can0 0x2200 0x14 (found 0x2200 0x14 live) ([1, 2] ++ [3]) ∧ (found 0x2200 0x14 live).row.ty.segmented = true ∧
    midWrite.links.xfers = [xferOf .can0 7 0x2200 0x14 [1, 2]] ∧ Asks midWrite .can0 :=
  ⟨by unfold Settable; decide +kernel, by decide +kernel, rfl, rfl, rfl, by decide, 0, rfl, by decide⟩

theorem test_RefusedRequests_hyps :
    indexUsed 0x1002 live = false ∧ indexUsed 0x1100 live = true ∧ findEntry .can0 0x1100 0xF3 live = none ∧
    ((found 0x1000 1 live).acc.writes = false ∧ findEntry .can0 0x1000 1 live = some (found 0x1000 1 live)) ∧
    ((found 0x3000 0x10 live).acc.reads = false ∧ (found 0x3000 0x10 live).acc.writes = true ∧ findEntry .can0 0x3000 0x10 live = some (found 0x3000 0x10 live)) ∧
    ((found 0x1100 2 live).acc.writes = true ∧ (found 0x1100 2 live).row.ty.segmented = false ∧ (found 0x1100 2 live).row.ty.width = 1 ∧
      (encodingOk (found 0x1100 2 live).row.ty [2] && scalarOk (found 0x1100 2 live).row.ty (found 0x1100 2 live).row.range [2]) = false) ∧
    ((found 0x2200 0x14 live).row.ty.segmented = true ∧ lengthOk (found 0x2200 0x14 live).row.range 257 = false) ∧
    (valueCheck (found 0x3700 0x11 live).row [1] = 0 ∧ (found 0x3700 0x11 live).row.role0 = true ∧ (asRole 1 live).role ≠ 0) := by decide +kernel

theorem test_SegmentedTransfers_hyps :
    (findEntry .can0 0x2200 0x14 midWrite = some (found 0x2200 0x14 live) ∧ (found 0x2200 0x14 live).acc.writes = true ∧
      (found 0x2200 0x14 live).row.ty.segmented = true) ∧
    midWrite.links.xfers = [] ++ xferOf .can0 7 0x2200 0x14 [1, 2] :: [] ∧ midWrite.linkUp 0 = true ∧
    (∀ y ∈ live.links.xfers, ¬(y.index = 0x2200 ∧ y.sub = 0x14)) := by decide +kernel

theorem test_LinkSettings_hyps :
    leBytes 4 (1 : BitVec 32).toNat ≠ live.dGet 0x1100 3 ∧ live.links.saving = false ∧ leBytes 4 (1 : BitVec 32).toNat ≠ live.dGet 0x1100 0x15 ∧
    leBytes 4 (1 : BitVec 32).toNat ≠ live.dGet 0x1100 0x1F ∧ leBytes 4 (1 : BitVec 32).toNat ≠ live.dGet 0x1100 0x25 ∧
    leBytes 4 (1 : BitVec 32).toNat ≠ live.dGet 0x1202 16 ∧ leBytes 4 (0xA5C30001 : BitVec 32).toNat ≠ live.dGet 0x1203 1 ∧
    (0xA5C30001 : BitVec 32).toNat / 65536 = 0xA5C3 ∧ live.links.serving = .main ∧ live.links.checksOk = true ∧ live.hlt.expired.getLsbD 0 = false ∧
    State.reset.links.serving ≠ .main := by decide +kernel

theorem test_LinkSettings_saving :
    let s : State := { live with links := { live.links with saving := true } }
    s.links.saving = true ∧ Asks s .can0 ∧ Asks s .spi := ⟨rfl, ⟨rfl, rfl, by decide, 0, rfl, by decide⟩, ⟨rfl, rfl, by decide, 3, rfl, by decide⟩⟩

/-- A request of two data bytes. -/
def ask : Pdu := { op := 2, tid := 4, index := 0x2300, sub := 2, data := [0, 0] }

/-- Four requests of a link wait. -/
def crowded (src : Src) : State := { live with links := { live.links with waiting := .replicate 4 { src := src, pdu := ask } } }

theorem test_HostFrames_hyps :
    ask.rsv = false ∧ ask.data.length ≤ 1024 ∧ live.linkUp 0 = true ∧ live.links.serving = .main ∧
    (0x301 : BitVec 11).toNat = 0x300 + (vget live.links.can 0).address ∧ (live.links.waiting.filter (fun r => r.src == Src.can0)).length < 4 ∧
    ¬((crowded .can0).links.waiting.filter (fun r => r.src == Src.can0)).length < 4 ∧ live.linkUp 1 = false ∧ live.linkUp 2 = true ∧
    live.links.t1s.mac.toNat ≠ 0xFFFFFFFFFFFF ∧ live.linkUp 4 = true ∧ unescape (frameOf (pduBytes ask)) = some (frameOf (pduBytes ask)) := by
  decide +kernel

/-- The SPI port has one response to send. -/
def spiHolds : State := { live with links := { live.links with outbox := live.links.outbox.set 3 [{ pdu := ask }] } }

theorem test_SpiPort_hyps :
    spiAnswers live = true ∧ live.linkUp 3 = true ∧ (live.links.waiting.filter (fun r => r.src == Src.spi)).length < 4 ∧
    5 < (frameOf (pduBytes ask)).length ∧ spiAnswers State.reset = false ∧ vget spiHolds.links.outbox 3 = [{ pdu := ask }] ∧
    (let s : State := { live with links := { live.links with serving := .none } }
     spiAnswers s = true ∧ s.links.serving = .none) := by decide +kernel

theorem test_WireForms_hyps :
    (ask.rsv = false ∧ ask.data.length ≤ 1024 ∧ ([ask, ask].flatMap pduBytes).length ≤ 2044) ∧
    ({ type := 15, net := 65535, tx := 2 ^ 18 - 1, rx := 2 ^ 18 - 1, slotLow := 255, len := 255, zsel := 3, rate := 3, epochLow := 15, power := 63, fb := 255 } : Hdr).fits := by
  unfold Hdr.fits; decide +kernel

/-! ### Remote requests and the role -/

/-- A root, its store in shared SRAM, the destinations 0x100 to 0x1FF through its neighbour 0x55. -/
def root : State :=
  ((asRole 3 live).setRegN 0x40160048 0x20040000).wrBytes forceBase (leBytes 4 0x100 ++ leBytes 4 0x1FF ++ leBytes 4 (0x55 + 2 * 2 ^ 18) ++ leBytes 4 1)

/-- A value of node 0x123's item 0x6300.2 stands, seen by none. -/
def rootSaw : State :=
  { root with links := { root.links with proxyVals := [{ node := 0x123, index := BitVec.ofNat 16 (remoteIndex 0x6300), sub := 2, data := [7, 8], fresh := 0x7F }] } }

theorem root_asks : Asks root .can0 := ⟨rfl, by decide +kernel, by decide, 0, rfl, by decide +kernel⟩

theorem test_ProxyRequests_hyps :
    CanSend root 0x123 0x55 ∧ CanSend root 0x3FFFF 0x55 ∧ root.proxyVal 0x123 (BitVec.ofNat 16 (remoteIndex 0x6300)) 2 = none ∧
    (∃ v, rootSaw.proxyVal 0x123 (BitVec.ofNat 16 (remoteIndex 0x6300)) 2 = some v ∧ v.late = false ∧ v.fresh.getLsbD (srcNum .can0) = true ∧
      v.data ≠ [] ∧ v.data.length ≤ dataLimit .can0) ∧ live.bigRole = false := by
  unfold CanSend
  exact ⟨by decide +kernel, by decide +kernel, by decide +kernel, ⟨_, rfl, by decide +kernel, by decide +kernel, by decide +kernel, by decide +kernel⟩, by decide +kernel⟩

/-- A frame that came ends the air, from node 0x123 to the destination `d`, with a PDU. -/
def airFrame (d : Nat) (p : Pdu) : MeshFrame := { hdr := .replicate 14 0, lh := linkHeader 9 0x123 d 3 1, payload := pduBytes p, slot := 0 }

/-- A request waits, and a frame has come. -/
def awaiting (r : ProxyReq) (l : List MeshFrame) : State :=
  { root with links := { root.links with proxies := [r], airWait := 1#16 <<< (r.slot - 1) }, cwy := { root.cwy with inbox := l } }

/-- The READ that node 0x123 was asked for. -/
def sentRead (slot : Nat) : ProxyReq := { node := 0x123, index := 0x2300, sub := 2, write := false, slot := slot, left := true, tid := 5 }

/-- Its answer. -/
def readAnswer : Pdu := { op := 3, tid := 5, index := 0x2300, sub := 2, data := [7, 8] }

/-- A broadcast WRITE of a plain entry. -/
def airWrite : Pdu := { op := 2, tid := 5, index := 0x1001, sub := 1, data := .replicate 32 7 }

theorem test_ProxyOutcomes_hyps :
    (let s := awaiting (sentRead 0) [airFrame 0x55 readAnswer]
     s.links.proxies = [sentRead 0] ∧ s.cwy.inbox = [airFrame 0x55 readAnswer] ∧ framePdu (airFrame 0x55 readAnswer) = some readAnswer ∧
     (sentRead 0).node = BitVec.ofNat 18 (lhSource (airFrame 0x55 readAnswer).lh) ∧ (sentRead 0).frames = [] ∧ (sentRead 0).node ≠ 0x3FFFF) ∧
    (root.links.airWait.getLsbD 3 = false ∧ ask.rsv = false ∧ ask.node = 0 ∧ ask.status = 0 ∧ ask.fresh = false ∧ ask.seg = false ∧ ask.op = 2) ∧
    (let s := awaiting (sentRead 4) [airFrame 0x55 readAnswer]
     s.links.proxies = [sentRead 4] ∧ (sentRead 4).slot = (3 : Fin 16).1 + 1 ∧ readAnswer.op = (if (sentRead 4).write then 4 else 3)) ∧
    (let s : State := { live with cwy := { live.cwy with inbox := [airFrame 0x3FFFF airWrite] } }
     framePdu (airFrame 0x3FFFF airWrite) = some airWrite ∧ lhDest (airFrame 0x3FFFF airWrite).lh = 0x3FFFF ∧ airWrite.op = 2 ∧ airWrite.seg = false ∧
     airWrite.rsv = false ∧ airWrite.node = 0 ∧ s.links.waiting = [] ∧ s.links.serving = .main) := by decide +kernel

theorem test_ProxyOutcomes_settable :
    ∃ e, Settable { live with cwy := { live.cwy with inbox := [airFrame 0x3FFFF airWrite] } } .air 0x1001 1 e airWrite.data ∧ e.row.request = false := by
  refine ⟨{ idx := 0x1001, sub := 1, row := (dictRow 0x1001 1).getD (found 0x1001 1 live).row, acc := .rw }, ?_, by decide +kernel⟩
  unfold Settable; decide +kernel

theorem test_RoleWrites_hyps :
    live.role = 0 ∧ (∀ d ∈ roleDomains 4, live.isOn d = true) ∧ (asRole 3 live).role ≠ 0 ∧ (4 : Byte).toNat ≠ (asRole 3 live).role ∧
    (let s : State := { live with pcc := { live.pcc with dom := live.pcc.dom.set 9 .off } }
     s.role = 0 ∧ (9 : Fin 24) ∈ roleDomains 3 ∧ s.isOn 9 = false ∧ ∀ e ∈ roleDomains 3, e < 9 → s.isOn e = true) := by decide +kernel

/-! ### The air interface and the radio sequencer -/

/-- Plan 2 with its mask in force. -/
def planned : State := regionPlanSet 2 live

/-- A mask of channel 5 alone. -/
def mask5 : List Byte := 0x20#8 :: List.replicate 15 0

/-- A carrier of a burst. -/
def tone (chan : Nat) : Carrier := { num := 2, chan := chan, m := 0, zsel := 0, rate := 1, slot := 3, hdr := .replicate 14 0, block := [] }

/-- A TX command waits with the only carrier of its burst on a channel, and a mask waits for its slot boundary. -/
def maskWaits (chan : Nat) : State :=
  { planned with
    wave := { planned.wave with maskNext := some mask5 }
    rf := { planned.rf with pend := some { kind := 5, chan := chan, ret := 2 } }
    txm := { planned.txm with burst := [tone chan] } }

theorem test_RegionAndMask_hyps :
    live.role = 0 ∧ (2 : Byte).toNat ≤ 5 ∧ (∀ n, n < 128 → maskBit mask5 n = true → usable planned.plan n = true) ∧
    (∃ n, n < 128 ∧ maskBit mask5 n = true ∧ usable live.plan n = false) ∧ planned.lnk.sending = [] ∧ planned.wave.maskNext = none ∧
    ((maskWaits 6).wave.maskNext = some mask5 ∧ (maskWaits 6).txm.burst = [tone 6] ∧ (usable (maskWaits 6).plan 6 && maskBit mask5 6) = false) ∧
    (let d := ((5120000 : BitVec 32).toNat + 2 ^ 28 - live.cycle) % 2 ^ 28
     0 < d ∧ d < 2 ^ 27) ∧
    (let d := ((0 : BitVec 32).toNat + 2 ^ 28 - live.cycle) % 2 ^ 28
     ¬(0 < d ∧ d < 2 ^ 27)) ∧ live.isOn dRADIO = true ∧ State.reset.isOn dRADIO = false :=
  ⟨by decide +kernel, by decide, by decide +kernel, ⟨5, by decide +kernel⟩, by decide +kernel, by decide +kernel, by decide +kernel, by decide +kernel,
    by decide +kernel, by decide +kernel, by decide +kernel⟩

/-- A waveform test of a mode, with input of `n` bytes. -/
def tests (mode : Byte) (n : Nat) : State := (live.dSet 0x2200 0x10 [mode]).dSet 0x2200 0x14 (.replicate n 0x5A)

/-- A chip test runs. -/
def testRuns : State := { live with wave := { live.wave with test := some { mode := 2, z := 0, rate := 0, seed := 1, input := [] } } }

theorem test_CodeAndTests_hyps :
    leBytes 4 (1 : BitVec 32).toNat ≠ live.dGet 0x2200 0x15 ∧ live.wave.test = none ∧
    (let s := tests 0 (zOf (live.dU 0x2200 0x11))
     s.dU 0x2200 0x10 = 0 ∧ (s.dGet 0x2200 0x14).length = zOf (s.dU 0x2200 0x11)) ∧
    (let s := tests 1 14
     s.dU 0x2200 0x10 = 1 ∧ (s.dGet 0x2200 0x14).length = 14) ∧
    (let s := tests 1 13
     s.dU 0x2200 0x10 = 1 ∧ (s.dGet 0x2200 0x14).length ≠ 14) ∧ testRuns.wave.test.isSome = true := by decide +kernel

/-- A word that spells a command at once, with auto-return to RX; the same with trigger channel 9. -/
def now23 : BitVec 32 := 0x00800030
def later : BitVec 32 := 0x00090030

/-- The sequencer in a state. -/
def rfIn (f : Rf → Rf) : State := rfMod f planned

/-- A state change that waits or is armed. -/
def toStandby : RfCmd := { kind := 2, chan := 4, ret := 1, trig := 9, latest := 5 }

theorem test_SequencerCommands_hyps :
    planned.lnk.sending = [] ∧ planned.isOn dRADIO = true ∧ State.reset.isOn dRADIO = false ∧ live.plan = 0 ∧ planned.txm.burst = [] ∧ planned.rf.st ≠ 4 ∧
    later.getLsbD 23 = false ∧ now23.getLsbD 23 = true ∧ planned.rf.armed.length < 4 ∧ rxRefused (rfWord (withCmd 4 later) planned) planned = false ∧
    txRefused (rfWord (withCmd 5 later) planned) planned = false ∧ 4 ≤ (rfIn fun r => { r with armed := .replicate 4 toStandby }).rf.armed.length ∧
    (planned.rf.moving = none ∧ planned.rf.frame = false ∧ planned.rf.pend = none ∧ planned.rf.calBegun = false) ∧
    ((rfIn fun r => { r with frame := true, pend := some toStandby }).rf.frame = true ∧
      (rfIn fun r => { r with frame := true, pend := some toStandby }).rf.pend.isSome = true) := by decide +kernel

/-- A firing of channel 9 on its way to the sequencer. -/
def rfTrig : State :=
  let s := rfIn fun r => { r with armed := [toStandby] }
  { s with evf := { s.evf with rfsTrigs := [{ ch := 9, hop := 3 }] } }

/-- A burst of one carrier on air. -/
def burning : State :=
  let s := rfIn fun r => { r with st := 5, frame := true, cur := some { kind := 5, chan := 5, ret := 2 } }
  { s with txm := { s.txm with burst := [tone 5], onAir := true } }

theorem test_SequencerEvents_hyps :
    (toStandby.kind = 2 ∧ rfTrig.evf.rfsTrigs = [{ ch := 9, hop := 3 }] ∧ rfTrig.rf.armed = [toStandby] ∧ toStandby.trig = 9 ∧ rfTrig.rf.pend = none ∧
      rfTrig.rf.moving = none ∧ rfTrig.rf.frame = false ∧ rfTrig.rf.calBegun = false ∧ rfTrig.lnk.sending = [] ∧ rfTrig.isOn dRADIO = true) ∧
    ((rfIn fun r => { r with pend := some toStandby }).rf.pend = some toStandby ∧ toStandby.latest ≠ 0xFFFF ∧ toStandby.latest < 6) ∧
    (rfIn fun r => { r with moving := some 4 }).rf.moving = some 4 ∧
    (let s : State := { burning with rf := { burning.rf with moving := some 5 } }
     s.rf.moving = some 5 ∧ s.txm.burst ≠ []) ∧
    (burning.rf.st = 5 ∧ burning.rf.frame = true ∧ burning.rf.cur = some { kind := 5, chan := 5, ret := 2 } ∧ burning.rf.pend = none ∧
      burning.txm.burst = [tone 5] ∧ burning.txm.onAir = true ∧ burning.epa = false ∧ gammaOver (gammaSq 0x07FF0000) 800 = true) ∧
    (let s := rfIn fun r => { r with st := 4, cur := some { kind := 4, chan := 5, ret := 2, window := 9 } }
     s.rf.st = 4 ∧ s.rf.cur = some { kind := 4, chan := 5, ret := 2, window := 9 } ∧ s.rf.frame = false ∧ s.wide = false ∧ s.rf.pend = none) := by
  decide +kernel

/-- Calibrations 1 and 3 are still to run. -/
def calsLeft : State := rfIn fun r => { r with st := 2, calPend := 0xA, calTemp := 250, calSupply := 330 }

/-- A root in wideband RX. -/
def wideRx : State := rfMod (fun r => { r with st := 4 }) root

theorem test_RadioCalibration_hyps :
    leBytes 4 (1 : BitVec 32).toNat ≠ planned.dGet 0x2100 0x11 ∧ planned.wide = false ∧ (planned.dSet 0x2100 0x10 [3]).dU 0x2100 0x10 % 64 ≠ 0 ∧
    (calsLeft.rf.calPend.getLsbD 1 = true ∧ (∀ j, j < 1 → calsLeft.rf.calPend.getLsbD j = false) ∧ calsLeft.isOn dRADIO = true ∧ calsLeft.rf.pend = none ∧
      calsLeft.rf.moving = none ∧ calsLeft.rf.st = 2) ∧
    100 < (calsLeft.dI 0x3600 0x33 - calsLeft.rf.calTemp).natAbs ∧
    (let s := rfIn fun r => { r with calTemp := live.dI 0x3600 0x33, calSupply := live.pcc.vmain }
     (s.dI 0x3600 0x33 - s.rf.calTemp).natAbs ≤ 100 ∧ ((s.pcc.vmain : Int) - s.rf.calSupply).natAbs ≤ 30) ∧
    (wideRx.wide = true ∧ wideRx.rf.st = 4 ∧ (vget wideRx.kz.map 2).isSome = true ∧ (vget wideRx.kz.map 3).isSome = true) := by decide +kernel

/-! ### The receiver and the transmitter -/

/-- A root in wideband RX on plan 2, its record on. -/
def hears : State := rfMod (fun r => { r with st := 4 }) ((regionPlanSet 2 root).setReg 0x40110000 2)

/-- The header of a data frame of network 7, and its CRC. -/
def hdr7 : List Byte :=
  let b := ({ type := 0, net := 7, tx := 0x123, rx := 0x55, slotLow := 0x9A, len := 4, zsel := 1, rate := 1 } : Hdr).bytes
  b ++ beBytes 2 (crc16 b)

/-- A frame on lane 3 in a stage. -/
def frameAt (st : RxStage) : RxFrame := { id := 1, chan := 5, m := 2, t0 := 1000, power := -200, stage := st, lane := 3 }

/-- The receiver holds one frame, on lane 3. -/
def holds (f : RxFrame) : State :=
  let s := hears.dSet 0x2200 3 [7, 0]
  { s with rx := { s.rx with frames := [f], nextId := 2, lanes := s.rx.lanes.set 3 (some 1) } }

theorem lanes_but3 : ∀ m : Fin 32, m ≠ 3 → vget ((Vector.replicate 32 none).set 3 (some 1)) m ≠ some 1 := by decide +kernel

theorem one_frame (f : RxFrame) (h : f.id = 1) : OneFrame (holds f) 3 f := by
  refine ⟨rfl, ?_, ?_⟩
  · rw [h]; rfl
  · rw [h]; exact lanes_but3

theorem test_ReceiverLanes_hyps :
    hears.captureOn = true ∧ hears.regN 0x4011000C ≤ 5 ∧ live.captureOn = false ∧ hears.recordOn = true ∧ hears.rx.frames = [] ∧
    (let f := { frameAt .payload with replay := true, numbered := true }
     f.t0 ≤ 2000 ∧ 900 ≤ f.last) ∧
    (hears.channelOpen 5 = true ∧ freqOk 5 100 hears = true ∧ liveSearch 5 2 hears = true ∧ hears.wide = true ∧ hears.freeLane = some 0) ∧
    ((frameAt .sync).stage.onLane = true ∧ 8 < (((frameAt .sync).t0 : Int) - 1020).natAbs ∧ (((frameAt .sync).t0 : Int) - 1020).natAbs ≤ 32 ∧
      (-300 : Int) + 4 * ((holds (frameAt .sync)).dU 0x2200 0x22 : Int) ≤ (frameAt .sync).power) ∧
    (let s := (rfMod (fun r => { r with st := 4, chan := 5 }) planned).setReg 0x4012A004 0x3F
     s.channelOpen 5 = true ∧ freqOk 5 100 s = true ∧ liveSearch 5 2 s = true ∧ s.wide = false ∧ s.rx.frames = [] ∧ vget s.rx.lanes 0 = none) ∧
    live.channelOpen 5 = false ∧
    planned.recordOn = false := by decide +kernel

/-- A detection waits for a lane. -/
def queuedOne : State := { hears with rx := { hears.rx with frames := [frameAt .queued] } }

theorem test_ReceiverLanes_queued :
    queuedOne.rx.frames = [frameAt .queued] ∧ queuedOne.recordOn = true ∧ queuedOne.dU 0x2200 0x26 = 1 ∧ queuedOne.freeLane = some 0 ∧ queuedOne.rx.gaps = [] :=
  ⟨rfl, by decide +kernel, by decide +kernel, by decide +kernel, rfl⟩


theorem test_ReceiverLanes_stages :
    ((holds (frameAt .sync)).wide = true ∧ (frameAt .sync).numbered = false) ∧ hdr7.length = 16 ∧
    headerBad ((holds (frameAt .headerBack)).dU 0x2200 3) hdr7 (beNat (hdr7.drop 14)) = false ∧
    headerBad ((holds (frameAt .headerBack)).dU 0x2200 3) (.replicate 16 1) (beNat ((List.replicate 16 (1 : Byte)).drop 14)) = true ∧
    128 ≤ (0x1000 : BitVec 40).toNat ∧ (0x1000 : BitVec 40).toNat < 2 ^ 40 - 128 ∧
    ({ frameAt .sync with replay := true, numbered := true } : RxFrame).stage.onLane = true := by decide +kernel

/-- Codewords that wait: a header of an earlier frame behind a payload. -/
def cwHead : Codeword := { frame := 1, header := true, slot := 9, arrival := 4 }
def cwBody : Codeword := { frame := 1, header := false, slot := 9, arrival := 3 }

/-- An engine holds, or has finished, a codeword of the one frame. -/
def decoding (st : RxStage) (c : Codeword) : State :=
  let s := holds { frameAt st with numbered := true }
  { s with rx := { s.rx with engines := s.rx.engines.set 1 (some c) } }

def checks (st : RxStage) (c : Codeword) : State :=
  let s := holds { frameAt st with numbered := true }
  { s with rx := { s.rx with checking := [{ engine := 1, cw := c, bytes := hdr7, iter := 2, weak := 0 }] } }

/-- A frame to be regenerated. -/
def regenAt (g : Regen) : State :=
  let s := holds { frameAt .decode with numbered := true, regen := g }
  { s with rx := { s.rx with regens := [1] } }

/-- A completed frame that may be reported, the ring at 0x20060000 and the block pool at 0x20070000. -/
def reportWaits : State :=
  let s := holds { frameAt .done with numbered := true, hdr := hdr7 }
  ({ s with rx := { s.rx with ready := [1] } }.setRegN 0x4012A050 0x20060000).setRegN 0x4012A054 0x20070000

theorem test_ReceiverDecoding_hyps :
    (hears.engineServes 0 = true ∧ vget hears.rx.engines 0 = none ∧ cwBody.arrival < cwHead.arrival ∧
      ¬(cwBody.header = true ∨ (cwHead.header = false ∧ cwBody.slot ≤ cwHead.slot)) ∧
      (∀ d : Fin 4, d < 0 → hears.engineServes d = false ∨ (vget hears.rx.engines d).isSome = true)) ∧
    vget (decoding .headerSent cwHead).rx.engines 1 = some cwHead ∧ vget (decoding .decode cwBody).rx.engines 1 = some cwBody ∧
    ((checks .headerSent cwHead).rx.checking = [{ engine := 1, cw := cwHead, bytes := hdr7, iter := 2, weak := 0 }] ∧
      (checks .headerSent cwHead).hlt.roll = none ∧ vget (checks .headerSent cwHead).rx.engMap 1 = some 1 ∧
      (checks .headerSent cwHead).rx.engSpare = 4 :: [] ∧ vget (checks .headerSent cwHead).rx.engines 1 = none) ∧
    ((regenAt .window).rx.regens = [1] ∧ (regenAt .window).rx.checking = [] ∧ ((regenAt .window).dU 0x2200 0x25 : Int) ≤ 60 ∧
      (-1 : Int) < ((regenAt .window).dU 0x2200 0x25 : Int)) ∧
    (reportWaits.rx.ready = [1] ∧ (reportWaits.regN 0x4012A05C + 1) % reportWaits.ringSize ≠ reportWaits.regN 0x4012A060 % reportWaits.ringSize) ∧
    (let s := reportWaits.setRegN 0x4012A060 1
     (s.regN 0x4012A05C + 1) % s.ringSize = s.regN 0x4012A060 % s.ringSize) ∧
    (hears.hlt.roll = none ∧ vget hears.rx.laneMap 3 = some 3 ∧ hears.rx.laneSpare = 32 :: [33, 34, 35] ∧ vget hears.rx.lanes 3 = none ∧
      vget hears.rx.sliceMap 3 = some 3 ∧ hears.rx.sliceSpare = 32 :: [33]) := by decide +kernel

/-- A pre-distorted burst of band 1 is on air. -/
def distorts : State :=
  let s := root.dSet 0x2200 0x47 [1]
  { s with txm := { s.txm with onAir := true, count := 2, burstGrant := some { power := 20, band := 1, n := 2, ceiling := 27, coefs := [], shares := [] } } }

/-- A fit of band 1 is due. -/
def fitDue (multi : Bool) : State := { distorts with txm := { distorts.txm with fit := some (1, multi) } }

theorem test_TransmitGrants_hyps :
    (live.epa = false ∧ live.rf.mismatch = false ∧ live.txm.onAir = false ∧ live.owns dRADIO = true ∧ State.reset.owns dRADIO = false) ∧
    (predistorted distorts = some 1 ∧ distorts.txm.onAir = true ∧ distorts.dU 0x2200 0x47 = 1) ∧ predistorted live = none ∧
    ((fitDue true).txm.fit = some (1, true) ∧ (fitDue false).txm.fit = some (1, false)) ∧
    (0x8000 : BitVec 16).toInt ≤ -4 * ((fitDue true).dU 0x2200 0x42 : Int) ∧ -4 * ((fitDue true).dU 0x2200 0x42 : Int) < (0 : BitVec 16).toInt ∧
    -120 < (0 : BitVec 16).toInt ∧ leBytes 4 (1 : BitVec 32).toNat ≠ live.dGet 0x2200 0x46 ∧ live.links.saving = false ∧
    (live.dGet 0x2200 0x45).length = 256 ∧ live.role = 0 := by decide +kernel

/-! ### The link controller -/

/-- The link controller runs in a role on plan 2, with a schedule entry 0, keys for every group, and a store in shared SRAM. -/
def linkIn (r : Byte) (sync : Sync) (kind : Nat) (sgD : Nat) : State :=
  let s := ((((regionPlanSet 2 (asRole r live)).setReg 0x40150000 2).setRegN 0x40160048 0x20040000).dPut 0x2400 1 0x123).dPut 0x2300 0x0B 0x55
  { s with
    sec := { s.sec with ep := { s.sec.ep with cur := some 1 }, slots := .replicate 16 { key := .replicate 16 0x5A, mask := 0xFF, valid := true } }
    lnk := { s.lnk with sync := sync, table := s.lnk.table.set 0 {
      time := BitVec.ofNat 64 (100 + 40 * 2 ^ 12 + 4 * 2 ^ 20 + sgD * 2 ^ 26 + 2 ^ 32), kind := BitVec.ofNat 32 (kind + 5 * 4096) } } }

/-- A beacon of the parent that starts in slot 100. -/
def beaconOf (anchor : Bool) : MeshFrame :=
  { hdr := ({ type := 1, net := 7, tx := 0x55, rx := 0x3FFFF, slotLow := 100, len := 24, zsel := 1, rate := 1 } : Hdr).bytes
    lh := beaconHeader 100 anchor { depth := 2, epoch := 9 }, payload := beaconBody { depth := 2, epoch := 9, cycleUs := 5120000 }, slot := 100 }

/-- A node in a state that has heard it; its entry 0 is BEACON_RX. -/
def hearsBeacon (sync : Sync) (anchor owed : Bool) : State :=
  let s := linkIn 1 sync 4 0
  { s with lnk := { s.lnk with heard := [beaconOf anchor], lostOwed := owed } }

/-- A node whose last sync point lies `back` slots before its next exchange. -/
def driftedBy (sync : Sync) (back missed : Nat) : State :=
  let s := ptbMod (fun p => { p with pd := p.pd.set 1 { phase := 0, rev := BitVec.ofNat 28 (back / 4096) } }) (linkIn 1 sync 4 0)
  { s with lnk := { s.lnk with syncSlot := some 0, missed := missed } }

theorem test_LinkSynchronisation_hyps :
    ((driftedBy .synced 4096 0).lnk.sync = .synced ∧ (driftedBy .synced 4096 0).guardWide = true ∧ (driftedBy .synced 4096 0).guardLost = false) ∧
    live.lnk.sync ≠ .synced ∧ (driftedBy .catch 0 0).lnk.sync = .catch ∧ (driftedBy .synced 40960000 0).guardLost = true ∧
    (let s := driftedBy .catch 0 200
     s.lnk.sync = .catch ∧ max 1 (s.dU 0x2300 4) ≤ s.lnk.missed ∧ s.altSet = false) ∧
    ((driftedBy .lost 0 255).lnk.sync = .lost ∧ max 1 ((driftedBy .lost 0 255).dU 0x2300 5) ≤ (driftedBy .lost 0 255).lnk.missed) ∧
    (driftedBy .dormant 0 0).lnk.sync = .dormant ∧
    (let s := hearsBeacon .synced false false
     (beaconFields (beaconOf false)).act = false ∧ s.sec.asleep = false ∧ s.actArmed = false ∧ s.role = 1 ∧ s.lnk.sync = .synced ∧
     acceptable s (beaconOf false) = true) ∧
    (let s := hearsBeacon .lost true true
     (Hdr.ofBytes (beaconOf true).hdr).type = 1 ∧ beaconAnchor (beaconOf true) = true ∧ s.lnk.lostOwed = true ∧ s.freeSlot.isSome = true ∧ s.qFull 1 = false) := by
  decide +kernel

theorem heard_beacon (sync : Sync) (anchor owed : Bool) : (hearsBeacon sync anchor owed).lnk.heard = [beaconOf anchor] := rfl

/-- A frame that waits in queue `q`. -/
def waiting1 (ack : Bool) (sends : Nat) : QFrame :=
  { id := 4, slot := 2, node := 0x55, ack := ack, m := 0, zsel := 1, rate := 1, lh := linkHeader 3 0x123 0 15 0x90, payload := [1, 2, 3], sends := sends }

/-- It waits. -/
def queuedIn (q : Fin 20) (f : QFrame) (s : State) : State := { s with slu := { s.slu with queues := vset s.slu.queues q [f], used := [f.slot] } }

/-- A leaf with a frame in queue 0 whose SEND comes. -/
def leafSends : State := queuedIn 0 (waiting1 true 0) (linkIn 1 .synced 1 0)

theorem test_LinkTransmissions_hyps :
    live.isOn dRADIO = true ∧ (1 : BitVec 32).getLsbD 0 = true ∧ leBytes 4 (1 : BitVec 32).toNat ≠ live.dGet 0x2312 3 ∧
    (begun live (BitVec.ofNat 28 (live.dU 0x2312 2)) = true ∧ begun (live.dPut 0x2312 2 5) (BitVec.ofNat 28 ((live.dPut 0x2312 2 5).dU 0x2312 2)) = false) ∧
    (let w := leafSends.sg 0
     w.type = 1 ∧ leafSends.role = 1 ∧ leafSends.mayTx = true ∧ leafSends.lnk.sync = .synced ∧ leafSends.lnk.wait = none ∧
     meetsAnchor (w.next w.w leafSends.absSlot) (w.next w.w leafSends.absSlot + w.slots - 1) = false ∧
     MayLaunch leafSends w.chan (airCharge 0 1 1) ∧ (∀ q, leafSends.shaped q = false) ∧ leafSends.lnk.lostOwed = false ∧ w.retryOnly = false ∧
     airUs 0 1 1 * 1000 ≤ w.w * leafSends.tminNs ∧ (leafSends.txKey 0x55).isSome = true) ∧
    (let s := linkIn 3 .ref 3 0
     let w := s.sg 0
     let start := w.next 1 s.absSlot
     w.type = 3 ∧ s.role = 3 ∧ (s.txKey 0x3FFFF).isSome = true ∧ MayLaunch s w.chan (airCharge w.m 1 1) ∧
     meetsAnchor start (start + spanSlots (airUs w.m 1 1) s.tminNs - 1) = false ∧ ∀ j : Fin 64, j < 0 → (s.sg j).type ≠ 3) := by
  unfold MayLaunch; decide +kernel

/-- A table waits for a cycle. -/
def tableWaits (c : Nat) : State :=
  { live with lnk := { live.lnk with apply := some { cycle := BitVec.ofNat 28 c, epoch := 4, table := (linkIn 1 .synced 1 0).lnk.table } } }

theorem test_LinkTransmissions_switch :
    (tableWaits 0).lnk.apply = some { cycle := 0, epoch := 4, table := (linkIn 1 .synced 1 0).lnk.table } ∧ begun (tableWaits 0) 0 = true ∧
    begun (tableWaits 5) 5 = false ∧ live.lnk.apply = none := ⟨rfl, by decide +kernel, by decide +kernel, rfl⟩

/-- A frame of the group that ended in slot 139. -/
def tagged1 : Tagged := { id := 3, tx := 0x123, rx := 0, ack := true, slot := 139, chan := 5, m := 2, t0 := 10, snr := 20 }

/-- The acknowledgement of node 0x123 on channel 5. -/
def ack1 (pending sent : Bool) : AckCarrier := { chan := 5, entries := [{ node := 0x55, pending := pending }], sent := sent }

/-- A root with a slot group. -/
def groupAt (g : Group) (l : List Tagged) : State :=
  let s := linkIn 3 .ref 2 40
  { s with lnk := { s.lnk with group := some g, tagged := l } }

/-- Its acknowledgement is on air. -/
def ackOnAir : State :=
  let s := groupAt { entry := 0, slot := 139, sealed := true, carriers := [ack1 false false] } []
  { s with lnk := { s.lnk with sending := [{ num := 2, chan := 5, air := 9, entries := [{ node := 0x55 }] }] }, txm := { s.txm with onAir := true, burst := [tone 5] } }

/-- A downlink waits for its PENDING node. -/
def downlinkDue : State := queuedIn 0 (waiting1 false 0) (groupAt { entry := 0, slot := 139, sealed := true, carriers := [ack1 true true] } [])

/-- The acknowledgement that a leaf awaits. -/
def ackHeard : MeshFrame :=
  { hdr := ({ type := 3, net := 7, tx := 0x55, rx := 0x3FFFF, slotLow := 140, zsel := 0, rate := 0 } : Hdr).bytes
    lh := AckEntry.word { node := 0x123 } ++ AckEntry.word { node := 0 }, payload := [], slot := 141, chan := 5, m := 0 }

/-- A leaf that awaits it, its frame in queue `q` sent `n` times. -/
def awaitsAck (q : Fin 20) (n : Nat) : State :=
  let s := queuedIn q (waiting1 true n) (linkIn 1 .synced 1 0)
  { s with lnk := { s.lnk with wait := some { slot := 139, queue := q, frame := 4, ackM := 0, chan := 5 }, heard := [ackHeard] } }

theorem test_SlotGroups_hyps :
    (let s := ptbMod (fun p => { p with pd := p.pd.set 1 { phase := 200 * 2 ^ 20, rev := 0 } }) (linkIn 3 .ref 2 40)
     let x := s.sg 0
     x.type = 2 ∧ 2 ≤ s.role ∧ s.lnkRuns = true ∧ s.role ≠ 2 ∧ x.lastEnd s.absSlot = some 139 ∧ meetsAnchor (139 + 1 - x.w) (139 + x.a + x.d) = false) ∧
    ackSet 139 (groupAt { entry := 0, slot := 139 } []) = [] ∧
    (let s := (groupAt { entry := 1, slot := 139 } [tagged1]).setReg 0x40150000 0
     ackSet 139 s = [tagged1] ∧ (s.sg 1).d = 0 ∧ s.mayTx = false ∧ s.role ≠ 4 ∧ s.dU 0x2300 0x13 ≠ 1 ∧
     bucketsAllow 5 (airCharge (s.sg 1).ackM 0 (s.sg 1).ackRate) s = true) ∧
    (ackOnAir.txm.onAir = true ∧ ∃ k ∈ ackOnAir.txm.burst, k.num = 2) ∧
    (downlinkDue.mayTx = true ∧ (∀ j, downlinkDue.shaped j = false) ∧ MayLaunch downlinkDue 5 (airCharge 0 1 0) ∧ (downlinkDue.txKey 0x55).isSome = true ∧
      downlinkDue.lnk.wait = none ∧ zFor [1, 2, 3].length = 1 ∧ airUs (downlinkDue.sg 0).ackM 1 (downlinkDue.sg 0).ackRate * 1000 ≤ (downlinkDue.sg 0).d * downlinkDue.tminNs) ∧
    (let s := awaitsAck 0 1
     ackFor { slot := 139, queue := 0, frame := 4, ackM := 0, chan := 5 } s.ackWindow s.ownNode ackHeard = true ∧ (waiting1 true 1).sends ≤ s.dU 0x2300 8 ∧
     s.dU 0x2300 8 < (waiting1 true 200).sends ∧ (s.cycle + 2 ^ 28 - (waiting1 true 200).born) % 2 ^ 28 < s.dU 0x2400 0x0A) := by
  unfold MayLaunch; decide +kernel

/-! ### Causeway, Sluice and the roster -/

/-- The bytes of a routing entry for 0x100 to 0x1FF with an action, into queue 5. -/
def routeBytes (action : Nat) : List Byte := leBytes 4 0x100 ++ leBytes 4 0x1FF ++ leBytes 4 (0x55 + action * 2 ^ 18 + 5 * 2 ^ 24) ++ leBytes 4 1

/-- The entry that they spell. -/
def route1 (action : Nat) : Route := { idx := 0, lo := 0x100, hi := 0x1FF, next := 0x55, action := action, queue := 5 }

/-- A frame for a node. -/
def meshTo (dest hops : Nat) : MeshFrame := { hdr := .replicate 14 0, lh := linkHeader 9 0x200 dest hops 0x90, payload := [1, 2], slot := 9, m := 1 }

/-- A relay, Causeway running, whose table has that entry, with a frame to decide. -/
def relay (action : Nat) (f : MeshFrame) : State :=
  let s := (((linkIn 2 .synced 4 0).setReg 0x40160000 2).wrBytes forceBase (routeBytes action))
  { s with cwy := { s.cwy with todo := [f] } }

theorem test_RelayAndQueues_hyps :
    (relay 2 (meshTo 0x123 3)).role = 2 ∧ (relay 2 (meshTo 0x123 3)).regB 0x40160000 1 = true ∧ lhDest (meshTo 0x123 3).lh = (relay 2 (meshTo 0x123 3)).ownNode ∧
    lhDest (meshTo 0x777 3).lh ≠ (relay 2 (meshTo 0x777 3)).ownNode ∧ lookup 0x777 (relay 2 (meshTo 0x777 3)).routes = none ∧
    lookup 0x150 (relay 2 (meshTo 0x150 3)).routes = some (route1 2) ∧ lookup 0x150 (relay 5 (meshTo 0x150 3)).routes = some (route1 5) ∧
    lhHops (meshTo 0x150 0).lh = 0 ∧ lhHops (meshTo 0x150 3).lh ≠ 0 ∧ (relay 2 (meshTo 0x150 3)).freeSlot = some 0 ∧
    (relay 2 (meshTo 0x150 3)).qFull 5 = false ∧ ((relay 2 (meshTo 0x150 3)).setRegN 0x4016004C 0).freeSlot = none ∧ live.freeSlot = some 0 := by decide +kernel

/-- A store slot with a frame of eleven bytes for node 0x150, named by SLU_ENQ_SLOT and SLU_ENQ_NODE. -/
def slotReady : State :=
  let s := ((relay 2 (meshTo 0x150 3)).setRegN 0x40170034 3).setRegN 0x40170038 0x55
  ({ s with slu := { s.slu with used := [3] } }.wrBytes (s.storeAddr 3) (linkHeader 9 0x123 0x150 3 0x90 ++ [1, 2, 3]))

theorem test_RelayAndQueues_enqueue :
    enqOk 0x00030825 3 0x55 slotReady = true ∧ enqOk 0x00030825 4 0x55 slotReady = false ∧ enqOk 0x00030865 3 0x55 slotReady = true ∧
    routedNode (lhDest (slotReady.rdBytes (slotReady.storeAddr 3) 8)) slotReady = some 0x55 ∧ slotReady.qFull 5 = false ∧
    (let s := slotReady.wrBytes forceBase (routeBytes 5)
     routedNode (lhDest (s.rdBytes (s.storeAddr 3) 8)) s = none) ∧
    (let s := slotReady.dPut 0x2406 6 1
     ({ s with slu := { s.slu with queues := vset s.slu.queues 5 [waiting1 true 0] } } : State).qFull 5 = true) := by decide +kernel

/-- A root whose roster lies in its DRAM: node 0x123 has record 0. -/
def rosterS : State :=
  let s := (((((root.setRegN 0x40160030 0x80000000).setRegN 0x40160034 0x80800000).dPut 0x2500 1 100).dPut 0x2500 2 1).dPut 0x2500 3 0x3FFFE).dPut 0x2500 4 1
  (s.wrBytes 0x80000000 (newRecord 0x123)).wrBytes (0x80800000 + 4 * 0x123) (leBytes 4 (2 ^ 31))

/-- A roster operation over one number runs; a tag result waits. -/
def opRuns (remove : Bool) (n : Nat) : State := { rosterS with cwy := { rosterS.cwy with op := some { remove := remove, lo := n, hi := n } } }
def tagWaits (n outcome : Nat) : State :=
  { rosterS with cwy := { rosterS.cwy with live := [{ meshTo 0 3 with hdr := ({ type := 0, net := 7, tx := n, rx := 0, slotLow := 9 } : Hdr).bytes, outcome := outcome }] } }

theorem test_TablesAndRecords_hyps :
    live.isOn dCWY = true ∧ live.cwy.build = none ∧ leBytes 4 (1 : BitVec 32).toNat ≠ live.dGet 0x2400 2 ∧
    failingEntry false (routesOf [(0, routeBytes 2)]) = none ∧ failingEntry false (routesOf [(0, routeBytes 6)]) = some 0 ∧ (routeBytes 2).length = 16 ∧
    leBytes 4 (1 : BitVec 32).toNat ≠ live.dGet 0x2500 8 ∧ live.cwy.op = none ∧ live.rosterOn = false ∧ rosterS.rosterOn = true ∧
    (rosterS.rosterRange (rosterS.dU 0x2500 6) = false ∧ ((rosterS.dPut 0x2500 6 5).dPut 0x2500 7 9).rosterRange 5 = true) ∧
    (nodeNumber 0x123 = true ∧ (opRuns false 0x123).recordOf 0x123 = some 0 ∧ (opRuns false 0x124).recordOf 0x124 = none ∧
      (opRuns false 0x124).slotsUsed.length < (opRuns false 0x124).dU 0x2500 1 ∧
      leastFree (opRuns false 0x124).slotsUsed ((opRuns false 0x124).slotsUsed.length + 1) 0 = some 1 ∧ RecordApart (opRuns false 0x124) 1 ∧
      (opRuns true 0x123).queued.filter (fun f => f.node == 0x123) = []) ∧
    ((tagWaits 0x123 0).recordOf 0x123 = some 0 ∧ (tagWaits 0x123 0).recPoisoned 0 = false ∧ (tagWaits 0x124 0).recordOf 0x124 = none) ∧
    (leBytes 4 (1 : BitVec 32).toNat ≠ rosterS.dGet 0x2500 0x12 ∧ (newRecord 0x123).length = 192 ∧ leNat ((newRecord 0x123).take 4) % 2 ^ 18 = 0x123) := by
  unfold RecordApart; decide +kernel

/-! ### Security -/

def key16 (b : Byte) : List Byte := .replicate 16 b

/-- A role, epoch 4 in force with keys in the current slots of the groups named, and keys in the next slots of those named. -/
def keysOf (r : Byte) (now nxt : List (Fin 4)) : State :=
  let s := secMod (fun x => { x with ep := { cur := some 4 } }) (asRole r live)
  let s := now.foldl (fun s g => loadSlot (keyIdx s g 0) { key := key16 7, mask := 0xFF, valid := true } s) s
  nxt.foldl (fun s g => loadNext g (key16 9) s) s

/-- The change registers of R289. -/
def wants (e c : Nat) (s : State) : State := (s.dPut 0x3000 4 e).dPut 0x3000 5 c

/-- A change armed, or the previous epoch to be erased, at cycle 0. -/
def armed (nxt : List (Fin 4)) (grace : Nat) : State :=
  epMod (fun e => { e with next := some 5, at_ := some 0 }) ((keysOf 0 [0, 1, 2] nxt).dPut 0x3000 8 grace)
def prevDue : State := epMod (fun e => { e with prev := some 3, eraseAt := some 0 }) (keysOf 0 [0] [])

def nextKeys : List Byte := [5, 0, 9, 0, 0, 0, 7] ++ .replicate 96 0xA5
def nextNet : List Byte := [5, 0, 9, 0, 0, 0, 1] ++ .replicate 32 0xA5

theorem test_KeyStore_hyps :
    (Asks live .can0 ∧ live.core4 = true ∧ (key16 1).length = live.keyBytes ∧ keyEntryRole 0x10 live = true ∧ keyEntryRole 0x11 live = true ∧
      keyEntryRole 0x10 (asRole 1 live) = false) ∧
    (let s := wants 5 100 (keysOf 0 [0] [])
     leBytes 4 (1 : BitVec 32).toNat ≠ s.dGet 0x3000 6 ∧ epochOk 5 (s.role != 1 && s.hasKey 0 2) s = true ∧ keysReady s = true ∧ begun s 100 = false ∧
       begun s 0 = true ∧ epochOk 4 false s = false ∧ keysReady (keysOf 0 [] []) = false) ∧
    ((armed [1] 100).sec.ep.at_ = some 0 ∧ begun (armed [1] 100) 0 = true ∧ begun (armed [1] 100) 100 = false ∧ (armed [1] 100).hasKey 0 2 = false ∧
      (armed [0] 100).hasKey 0 2 = true ∧ (armed [1] 100).sec.asleep = false) ∧
    (prevDue.sec.ep.eraseAt = some 0 ∧ begun prevDue 0 = true ∧ live.sec.ep.at_ = none) ∧
    (let s := keysOf 1 [1] []
     s.role = 1 ∧ s.keyOf 2 1 0 = some (key16 7) ∧ nextKeys.length = 103 ∧ nextKeys ≠ s.sec.keyTaken ∧ field (nextKeys.getD 6 0).toNat 6 0 = 7 ∧
       bit (nextKeys.getD 6 0).toNat 7 = (s.keyBytes == 32) ∧ epochOk 5 false s = true ∧ s.sec.ep.cur.isSome = true) ∧
    (let s := (keysOf 2 [0] []).dPut 0x2400 1 0x123
     s.role = 2 ∧ s.nodeKey 2 s.ownNode 0 = some (kdf (key16 7) false 0x123 4 0) ∧ nextNet.length = 39 ∧ nextNet ≠ s.sec.netTaken ∧
       field (nextNet.getD 6 0).toNat 6 0 = 1 ∧ bit (nextNet.getD 6 0).toNat 7 = (s.keyBytes == 32) ∧ epochOk 5 true s = true) ∧
    (live.role = 0 ∧ leBytes 4 (1 : BitVec 32).toNat ≠ live.dGet 0x3000 0x21 ∧ leBytes 4 (1 : BitVec 32).toNat ≠ live.dGet 0x3000 9 ∧ live.isOn dSEC = true ∧
      masterId (.core 4 0) = 4 ∧ masterId (.core 0 0) ≠ 4) := by
  refine ⟨⟨live_asks, ?_⟩, ?_⟩ <;> decide +kernel

/-- VMAIN at 3.3 V; and OTP with customer key 1 programmed, level 2 of class 1 and the debug lock. -/
def powered : State := { live with pcc := { live.pcc with vmain := 330 } }
def burnt : State := secMod (fun x => { x with otp := [(0x50, 0x0C), (0x56, 3), (0x5C, 1)] }) powered

theorem test_KeyStore_otp :
    powered.otpSupply = true ∧ powered.core4 = true ∧ powered.custProgrammed 1 = false ∧ (∀ j, j < 12 → powered.otpWord (0x20 + 12 + j) = 0) ∧
    (∀ j, j < 4 → powered.custRevoked j = false) ∧ powered.rollbackMin 1 = 0 ∧ leNat (powered.otpBytes (0x150 + 8) 8) = 0 ∧
    (burnt.rollbackMin 1 = 2 ∧ leNat (burnt.otpBytes (0x150 + 8) 8) = 2 ^ 2 - 1 ∧ burnt.custProgrammed 1 = true ∧ burnt.custRevoked 1 = true ∧
      burnt.custHash 1 = .replicate 48 0 ∧ burnt.debugLock = true) ∧
    (let s := secMod (fun x => { x with otp := [(0x50, 0x05)] }) powered
     s.custProgrammed 0 = true ∧ s.custProgrammed 1 = true ∧ s.custRevoked 0 = false ∧ s.custRevoked 1 = false) ∧ live.otpSupply = false := by decide +kernel

/-- Page 2 with a command's registers; a job of it; the hash unit and the point unit at work. -/
def pageSet (sel : Nat) : State := (((keysOf 3 [0] []).setRegN 0x40082000 sel).setRegN 0x40082010 0x20000000).setRegN 0x40082014 20
def jobIs (c : Fin 8) (done : Nat) : CmcJob := { cmd := c, key := key16 3, addr := 0x20000000, len := 40, total := 3, done := done, out := if c = 3 then key16 8 else [] }
def jobRuns (c : Fin 8) (done : Nat) : State := secMod (fun x => { x with jobs := vset x.jobs 2 (some (jobIs c done)) }) (pageSet 16)
def pointWorks (j : PointJob) : State := secMod (fun x => { x with points := [j, .attest] }) live
def hashRuns (fin : Bool) : State := secMod (fun x => { x with hashMsg := [1, 2], hashRun := some fin }) live
def secTest1 : SecTest := { cmac := true, key := key16 4, param := 0, msg := [1, 2] }

theorem test_CryptoEngines_hyps :
    ownsPage (.core 1 0) 2 = false ∧ ownsPage (.core 0 0) 2 = true ∧ (pageSet 16).isOn dSEC = true ∧ vget (pageSet 16).sec.jobs 2 = none ∧
    vget (jobRuns 1 0).sec.jobs 2 = some (jobIs 1 0) ∧
    (pageJobKey 2 (pageSet 16) = .ok (.replicate 16 0) ∧ messageOk 0x20000000 20 (pageSet 16) = true ∧ messageOk 0 20 (pageSet 16) = false ∧
      pageJobKey 2 (pageSet 15) = .error 0x11) ∧
    (pageSet 0x20).regB 0x40082000 5 = true ∧ (pageSet 16).regB 0x40082000 5 = false ∧ ownsPage .engine 5 = true ∧
    ((jobRuns 1 0).sec.turn = 2 ∧ (jobIs 1 0).susp = false ∧ (jobIs 1 0).done + 1 < (jobIs 1 0).total ∧ (jobRuns 1 0).sec.urgent = [] ∧
      (jobRuns 1 0).sec.turnCnt + 1 < 64) ∧
    (secMod (fun x => { x with urgent := [{ page := 0, lane := 3, left := 2 }] }) live).sec.jobs = .replicate 8 none ∧
    (jobIs 3 3).total ≤ (jobIs 3 3).done ∧ messageOk (jobIs 3 3).addr (jobIs 3 3).out.length (jobRuns 3 3) = true ∧
    pkeUser (.core 1 0) = false ∧ pkeUser (.core 4 0) = true ∧ masterId (.core 0 0) ≠ 4 ∧ live.sec.hashRun = none ∧ (hashRuns true).sec.hashRun = some true ∧
    (pointWorks .verify).sec.points = .verify :: [.attest] ∧ (pointWorks .sign).sec.points = .sign :: [.attest] ∧
    leBytes 4 (1 : BitVec 32).toNat ≠ live.dGet 0x1001 2 ∧ live.sec.att = none ∧ leBytes 4 (1 : BitVec 32).toNat ≠ live.dGet 0x3000 0x34 ∧
    live.sec.test = none ∧ (live.dSet 0x3000 0x31 (key16 4)).dGet 0x3000 0x31 ≠ [] ∧
    (secMod (fun x => { x with att := some (key16 2), test := some secTest1 }) live).sec.test = some secTest1 := by decide +kernel

/-- A root with a roster and a network key, page 2 set for node 0x123. -/
def wrapS : State :=
  let s := secMod (fun x => { x with ep := { cur := some 4 } }) (((rosterS.dPut 0x3000 0x20 0x123).setRegN 0x40082008 0x123).setRegN 0x40082010 0x20000000)
  loadSlot (keyIdx s 0 0) { key := key16 7, mask := 0xFF, valid := true } s

theorem test_CryptoEngines_wrap :
    (wrapImage 2 (wrapS.regB 0x40082000 6) (wrapS.regN 0x40082008) wrapS).1 = 0 ∧ vget wrapS.sec.jobs 2 = none ∧ wrapS.isOn dSEC = true ∧
    wrapImage 2 false 0x124 wrapS = (0x10, []) := by
  refine ⟨?_, ?_, ?_, ?_⟩ <;> decide +kernel

/-! ### Storage -/

/-- The flash controller in a state of its sequence, owned by core 4; an operation runs; spares are left in both banks. -/
def seqAt (q : FlcSeq) : State := mmod (fun m => { m with flcSeq := q, flcOwner := 4 }) live
def opIs (c : Fin 8) (a : Nat) : FlashOp := { cmd := c, addr := a, data := if c = 1 then .replicate 16 0x5A else [] }
def flashRuns (c : Fin 8) (a spares : Nat) : State :=
  (mmod (fun m => { m with flcOp := some (opIs c a) }) live).setRegN 0x40060040 spares
/-- Core 4 in the boot ROM, and in bank A. -/
def inRom : Master := .core 4 0x100
def inBankA : Master := .core 4 0x10020100

theorem test_FlashController_hyps :
    live.mem.flcSeq = .locked ∧ ((seqAt .key1).mem.flcSeq = .key1 ∧ (seqAt .key1).mem.flcOwner = masterNum inRom ∧
      (seqAt .key1).mem.flcOwner ≠ masterNum .engine) ∧
    ((seqAt .unlocked).mem.flcSeq = .unlocked ∧ flashAddr 0x10020004 = false ∧ flashAddr 0x10020010 = true ∧ flashAddr 0x1076FFF0 = true ∧
      flashAddr 0x10770000 = false ∧ (seqAt .unlocked).mem.flcOp = none ∧ flashAllowed inBankA 0x10020010 = false ∧ flashAllowed inRom 0x10020010 = true ∧
      fetchedFrom inBankA (bankOf 0x10020010) = true ∧ fetchedFrom inRom (bankOf 0x10020010) = false ∧ (seqAt .unlocked).regB 0x40060000 4 = false ∧
      erasedAt 0x10020010 (seqAt .unlocked) = true ∧ erasedAt 0x10020010 ((seqAt .unlocked).wrBytes 0x10020010 [0]) = false) ∧
    (mmod (fun m => { m with flcOp := some (opIs 1 0) }) (seqAt .unlocked)).mem.flcOp.isSome = true ∧
    ((flashRuns 1 0x10020010 0x2020).mem.flcOp = some (opIs 1 0x10020010) ∧ (bankOf 0x10020010).isSome = true ∧
      0 < (flashRuns 1 0x10020010 0x2020).bankSpares false ∧ (flashRuns 1 0x10020010 0x2000).bankSpares false = 0) := by decide +kernel

def noSpare : State := mmod (fun m => { m with spareOk := false }) live
def migAt (q : MigState) : State := mmod (fun m => { m with mig := q, migSlot := 1, migOld := 1 }) live
def coldSlot : State := (live.dPut 0x3200 0x2A 1).wrBytes 0x83800000 [1, 2]
def scrubs : State := live.setReg 0x40070000 4

theorem test_SramAndDram_hyps :
    (live.mem.soft = [] ∧ isSram 0x20000000 = true ∧ live.region 0x20000000 = regionOf 0x20000000 ∧ isSram 0x2107FFFF = false ∧ isSram 0x21080000 = true ∧
      live.region 0x21080000 = regionOf 0x21080000) ∧
    (scrubs.regB 0x40070000 2 = true ∧ dramSlot 0x837FFFFF = some 0 ∧ dramSlot 0x83800000 = some 1 ∧ live.region 0x83800000 = .dram 1 ∧
      dramSlot 0x87000000 = none) ∧
    ((alGet live.mem.rowSpare 0).getD 0 < 2 ∧
      (let s := mmod (fun m => { m with rowSpare := [(0, 2)], rowCe := [(0x20000000, 0x100)] }) live
       2 ≤ (alGet s.mem.rowSpare (macroOf 0x20000000)).getD 0 ∧ ¬ (alGet s.mem.rowCe (rowOf 0x20000000)).getD 0 < s.dU 0x3200 0x13) ∧
      (alGet live.mem.rowCe (rowOf 0x20000000)).getD 0 < live.dU 0x3200 0x13) ∧
    (live.mem.mig = .idle ∧ live.mem.spareOk = true ∧ noSpare.mem.spareOk = false ∧ live.slotOf 2 = none ∧ live.slotOf 1 = some 1) ∧
    (1 < (live.setReg 0x4007003C 3).regF 0x4007003C 3 0 ∧ (live.setReg 0x4007003C 1).regF 0x4007003C 3 0 ≤ 1) ∧
    ((mmod (fun m => { m with trained := 7 }) live).mem.trained.getLsbD live.mem.spareRank.1 = true ∧ coldSlot.dU 0x3200 0x2A = 1 ∧
      live.dU 0x3200 0x2A ≠ 1 ∧ live.role = 0 ∧ (asRole 1 live).role ≠ 0 ∧ (asRole 1 live).role ≠ 2) ∧
    ((migAt .waking).mem.mig = .waking ∧ (migAt .copying).mem.mig = .copying ∧ (migAt .copying).mem.migSlot = 1) := by decide +kernel

/-! ### The backup domain, power and resets -/

def bkpOf (b : Bkp) : State := { live with bkp := b }
def pccOf (f : Pcc → Pcc) : State := { live with pcc := f live.pcc }

theorem test_BackupDomain_hyps :
    (live.bkp.oscRun = true ∧ live.bkp.halt = false ∧ live.bkp.carryPend = false ∧ live.bkp.cal.sec < 59 ∧ live.bkp.writes = []) ∧
    ((live.bkp.cal.withTime 0x04173B3C).timeOk = false ∧ (live.bkp.cal.withTime 0x04173B3B).timeOk = true ∧
      (live.bkp.cal.withDate 0x0018021D).dateOk = true ∧ (live.bkp.cal.withDate 0x0017021D).dateOk = false) ∧
    ((bkpOf { writes := [(0x0C, 1), (0x40, 5)] }).bkp.writes = (0x0C, 1) :: [(0x40, 5)] ∧ (1 : BitVec 32).getLsbD 0 = true) ∧
    (3155759999 < 3155760000 ∧ leBytes 4 (1 : BitVec 32).toNat ≠ live.dGet 0x3300 4 ∧ leBytes 4 (1 : BitVec 32).toNat ≠ live.dGet 0x3300 8 ∧
      0 < live.bkp.cal.seconds + live.dU 0x3300 9) := by decide +kernel

/-- DRAM is OFF; and MODEM is OFF beside a CAPTURE that is not ON. -/
def domsOff (ds : List (Fin 24)) (lp : Bool) : State := pccOf (fun p => { p with dom := ds.foldl (fun v d => vset v d .off) p.dom, lp := lp })

/-- LP with estimates that nothing carries. -/
def heavy : State := (pccOf (fun p => { p with sleepLp := true, sleepSet := .replicate 24 2 })).dPut 0x3403 3 0xFFFF

theorem test_PowerAndResets_hyps :
    (vget live.pcc.dom 12 = domOf 2 ∧ live.pcc.changes.any (fun c => c.1 == (12 : Fin 24)) = false) ∧
    (pccOf (fun p => { p with changes := [(12, .off)] })).pcc.changes.any (fun c => c.1 == (12 : Fin 24)) = true ∧
    (vget (domsOff [12] false).pcc.dom 12 ≠ .on ∧ lacksNeed 12 (domsOff [12] false).planned = false ∧ (domsOff [12] false).lpAhead = false) ∧
    (lacksNeed 16 (domsOff [14, 16] false).planned = true ∧ (domsOff [12] true).lpAhead = true ∧ needsClock 12 = true) ∧
    (domCore 12 = none ∧ domainCheck 12 0 true live = 0 ∧ domainCheck 14 0 true live = 1) ∧
    ((pccOf (fun p => { p with changes := [(12, .off)] })).pcc.changes = (12, .off) :: [] ∧ live.pcc.changes = []) ∧
    (live.pcc.modeChange.getD live.pcc.lp = false ∧ heavy.overBudget heavy.planned = true ∧ (domsOff (fins 24) false).overBudget (domsOff (fins 24) false).planned = false ∧
      live.pcc.modeChange = none ∧ (pccOf (fun p => { p with modeChange := some true })).pcc.modeChange = some true) ∧
    (pllWanted 2 live = true ∧ live.pcc.xoRun = true ∧ pllWanted 2 (domsOff [12] false) = false ∧ live.pcc.xoFail = false ∧
      (pccOf (fun p => { p with xoFail := true })).pcc.xoFail = true) ∧
    (sleepCheck live = 0 ∧ sleepCheck (pccOf (fun p => { p with sleepSet := .replicate 24 3 })) = 2 ∧ sleepCheck heavy = 4) ∧
    ((0x0C000000 : BitVec 28) &&& (live.pcc.wakeEn ||| 0x0C000000) &&& ~~~(wakeVio live) ≠ 0 ∧ live.pcc.asleep = false ∧ live.pcc.armed = false ∧
      (pccOf (fun p => { p with asleep := true })).pcc.asleep = true ∧ (pccOf (fun p => { p with armed := true })).pcc.armed = true) ∧
    (live.mem.flcOp = none ∧ live.owns dDRAM = true ∧ live.dU 0x3200 0x2B = 0 ∧ live.pcc.lp = false ∧ (domsOff [] true).pcc.lp = true) := by decide +kernel

/-! ### The start and field updates -/

/-- Memory cells of a byte string; it reads back from among others. -/
def cellsAt (a : Nat) (bs : List Byte) : List Host.Cell :=
  match bs with
  | [] => []
  | b :: r => if b = memDefault a then cellsAt (a + 1) r else (a, b) :: cellsAt (a + 1) r

theorem alGet_append {m l : List Host.Cell} {x : Nat} (h : ∀ c ∈ m, c.1 ≠ x) : alGet (m ++ l) x = alGet l x := by
  induction m with
  | nil => rfl
  | cons c m ih =>
    obtain ⟨k, v⟩ := c
    rw [List.cons_append, alGet, if_neg (h _ List.mem_cons_self), ih (fun c hc => h c (List.mem_cons_of_mem _ hc))]

theorem read_append {m l : List Host.Cell} {x : Nat} (h : ∀ c ∈ m, c.1 ≠ x) : Memory.read (m ++ l) x = Memory.read l x := by
  rw [Memory.read, alGet_append h]; rfl

theorem read_cellsAt (bs : List Byte) {a x : Nat} {l : List Host.Cell} (hx : x < a + bs.length) (ha : a ≤ x) (hl : ∀ c ∈ l, a + bs.length ≤ c.1) :
    Memory.read (cellsAt a bs ++ l) x = bs.getD (x - a) 0 := by
  induction bs generalizing a with
  | nil => simp at hx; omega
  | cons b r ih =>
    rw [cellsAt]
    by_cases e : x = a
    · subst e
      split
      · rename_i hb
        have no : ∀ c ∈ cellsAt (x + 1) r ++ l, c.1 ≠ x := by
          have h1 : ∀ (r : List Byte) (y : Nat), ∀ c ∈ cellsAt y r, y ≤ c.1 := by
            intro r
            induction r with
            | nil => intro y c hc; simp [cellsAt] at hc
            | cons b r ih =>
              intro y c hc
              rw [cellsAt] at hc
              split at hc
              · have := ih _ _ hc; omega
              · rcases List.mem_cons.mp hc with rfl | hc
                · simp
                · have := ih _ _ hc; omega
          intro c hc
          rcases List.mem_append.mp hc with hc | hc
          · have := h1 _ _ _ hc; omega
          · have := hl _ hc; simp at this; omega
        have := read_append (l := []) no
        rw [List.append_nil] at this
        rw [this]
        simp [Memory.read, alGet, hb]
      · simp [Memory.read, alGet]
    · have hd : x - a = x - (a + 1) + 1 := by omega
      rw [hd, List.getD_cons_succ, ← ih (a := a + 1) (by simp at hx; omega) (by omega) (fun c hc => by have := hl c hc; simp at this; omega)]
      split
      · rfl
      · simp only [List.cons_append, Memory.read, alGet]
        rw [if_neg (by omega)]

/-- A byte string among the cells of memory reads back. -/
theorem rdBytes_cellsAt {m l : List Host.Cell} {a n : Nat} (bs : List Byte) (hn : n = bs.length) (hm : ∀ c ∈ m, c.1 < a) (hl : ∀ c ∈ l, a + bs.length ≤ c.1) :
    Memory.readN (m ++ (cellsAt a bs ++ l)) a n = bs := by
  subst hn
  apply List.ext_getElem
  · exact readN_length _ _ _
  · intro k h1 h2
    rw [getElem_readN, read_append (fun c hc => by have := hm c hc; omega), read_cellsAt bs (by omega) (by omega) hl]
    simp [h2]

/-- An image of one instruction word 0, signed with the private key 5. -/
def testImage (cls load sig : Nat) : List Byte :=
  [0x4F, 0x4D, 0x44, 0x49] ++ leBytes 2 1 ++ [BitVec.ofNat 8 cls, 0] ++ leBytes 2 1 ++ [1, 0, 0, 0, 0, 0] ++ leBytes 4 4 ++ leBytes 4 load ++
  leBytes 4 0 ++ leBytes 4 0xFFFFFFFF ++ .replicate 32 0 ++
  beBytes 96 80325779440446727460403766015841495598375507384322441096308087938078352525991454464413042140958262553339861668251511874496112387147668334997258034214645323211600690404646289914411778240589147731233919541227869065273514797182437008 ++
  beBytes 96 sig ++ [0, 0, 0, 0]

def image0 : List Byte := testImage 0 0xFFFFFFFF 791725564736953356038096000646570791211909760946096491536277809296128192967437186791229949291889358089004814322636361877126537458653101387612923067557398415809849475116045520892465237209892372761869944678821529921648465169707240771
def image3 : List Byte := testImage 3 0x21100000 240247228898878400306628981596984549524214152424483143239288015456227014802209851614691300566198291198725337680499933525426721353499724159678426353095875683502215314936433687737903138624051551666937915695942136180454725716886232075

theorem readSub {s : State} {h : Nat} {im : List Byte} (hr : s.rdBytes h 260 = im) {i n : Nat} (hi : i + n ≤ 260) :
    s.rdBytes (h + i) n = (im.drop i).take n := by rw [← hr]; exact readN_sub _ hi

/-- An image whose signature holds, wherever it stands in an open device. -/
theorem image_ok {s : State} {h : Nat} {im : List Byte} (hr : s.rdBytes h 260 = im) (hc : s.closed = false)
    (hv : (leNat ((im.drop 16).take 4) = 4 ∧ leNat ((im.drop 10).take 1) = 1) ∧ leNat ((im.drop 8).take 2) = 1 ∧
      ecdsaVerify (sha384 (im.take 160 ++ (im.drop 256).take 4)) ((im.drop 64).take 96) ((im.drop 160).take 96) = true) :
    imageSigOk h s = true ∧ imgRollback h s = 1 ∧ imgVersion h s = 1 := by
  have hb : imgBody h s = 4 := by
    change leNat (s.rdBytes (h + 16) 4) = 4
    rw [readSub hr (by decide)]; exact hv.1.1
  refine ⟨?_, ?_, ?_⟩
  · have h0 : s.rdBytes h 160 = im.take 160 := readSub (i := 0) hr (by decide)
    rw [imageSigOk, imgDigest, hb, hc, h0, readSub hr (by decide), readSub hr (by decide), readSub hr (by decide)]
    simp only [Bool.not_false, Bool.true_or, Bool.true_and]
    exact hv.2.2
  · change leNat (s.rdBytes (h + 10) 1) = 1
    rw [readSub hr (by decide)]; exact hv.1.2
  · change leNat (s.rdBytes (h + 8) 2) = 1
    rw [readSub hr (by decide)]; exact hv.2.1

theorem image0_verifies : (leNat ((image0.drop 16).take 4) = 4 ∧ leNat ((image0.drop 10).take 1) = 1) ∧ leNat ((image0.drop 8).take 2) = 1 ∧
    ecdsaVerify (sha384 (image0.take 160 ++ (image0.drop 256).take 4)) ((image0.drop 64).take 96) ((image0.drop 160).take 96) = true := by decide +kernel
theorem image3_verifies : (leNat ((image3.drop 16).take 4) = 4 ∧ leNat ((image3.drop 10).take 1) = 1) ∧ leNat ((image3.drop 8).take 2) = 1 ∧
    ecdsaVerify (sha384 (image3.take 160 ++ (image3.drop 256).take 4)) ((image3.drop 64).take 96) ((image3.drop 160).take 96) = true := by decide +kernel

/-- The header of a set of classes 0 and 3, and the set. -/
def setHeader (id len0 : Nat) : List Byte :=
  let h := [0x4F, 0x4D, 0x44, 0x53] ++ leBytes 2 1 ++ leBytes 2 id ++ [9, 0, 0, 0] ++ leBytes 4 0x100 ++ leBytes 4 len0 ++ .replicate 16 0 ++
    leBytes 4 0x300 ++ leBytes 4 260 ++ .replicate 16 0
  h ++ leBytes 4 (crc32 h)
def setCells (b : Nat) (im0 : List Byte) : List Host.Cell := cellsAt b (setHeader 7 260) ++ (cellsAt (b + 0x100) im0 ++ (cellsAt (b + 0x300) image3 ++ []))

/-- A boot record in ring sector 0: STATE, TRIAL_BOOTS and ACT_FLAGS, the staged set's number, ACT_SLOT and ACT_ID. -/
def recordCells (st boots flags slot id : Nat) : List Host.Cell :=
  let r : List Byte := [1, 0, BitVec.ofNat 8 st, BitVec.ofNat 8 boots] ++ leBytes 2 3 ++ leBytes 2 7 ++ .replicate 16 0 ++ leBytes 5 slot ++
    [BitVec.ofNat 8 flags] ++ leBytes 2 id ++ .replicate 32 0
  cellsAt 0x10000000 ([0x42, 0x52, 0x45, 0x43] ++ leBytes 4 9 ++ leBytes 4 64 ++ leBytes 4 (crc32 r) ++ r)

/-- The device with that record and other flash contents. -/
def flashed (st boots flags slot id : Nat) (more : List Host.Cell) (s : State) : State :=
  { s with mem := { s.mem with cells := recordCells st boots flags slot id ++ more } }

def midStage (last : List Byte) : State := { live with links := { live.links with xfers := [xferOf .can0 7 0x3500 2 last] } }
def windowed (s : State) : State := { s with boot := { s.boot with window := true } }

/-- The only record of the ring is in sector 0. -/
theorem ring_newest : RingNewest (flashed 1 0 0 0 0 [] live) 0 9 := by
  have h : ∀ j, j < 16 → ringRecord j (flashed 1 0 0 0 0 [] live) = if j = 0 then some 9 else none := by decide +kernel
  refine ⟨by decide +kernel, by decide, by decide, fun j r hj hr => ?_⟩
  rw [h j hj] at hr
  split at hr <;> simp_all

theorem test_StagingAndCopy_hyps :
    (leBytes 4 (1 : BitVec 32).toNat ≠ live.dGet 0x3500 1 ∧ ¬(2 ≤ live.bootState ∨ bit (live.bootN 29 1) 0 = true ∨ live.boot.handOver.isSome = true) ∧
      2 ≤ (flashed 2 0 0 0 0 [] live).bootState ∧ bit ((flashed 1 0 1 0 0 [] live).bootN 29 1) 0 = true) ∧
    (live.links.xfers = [] ∧ (midStage [1, 2]).links.xfers = [xferOf .can0 7 0x3500 2 [1, 2]] ∧ (2 : BitVec 32).toNat = [1#8, 2].length ∧
      (∀ k, k < 3 → (midStage [1, 2]).rd8 (0x10400002 + k) = 0xFF)) ∧
    setFormOk 0x10400000 live = false ∧ (flashed 2 0 0 0 0 [] live).bootState = 2 ∧ (live.dPut 0x3500 0x12 0).dU 0x3500 0x12 = 0 ∧ live.dU 0x3500 0x11 ≠ 0 ∧
    ((flashed 3 0 0 0 0 [] (windowed live)).bootState = 3 ∧ (flashed 3 0 0 0 0 [] (windowed live)).boot.window = true ∧
      (flashed 3 0 0 0 0 [] (windowed live)).bootN 32 2 < 384) := by decide +kernel

/-- The two images of a set in flash. -/
theorem image0_stands {st boots flags slot id b : Nat} {s : State} (hb : ∀ c ∈ recordCells st boots flags slot id ++ cellsAt b (setHeader 7 260), c.1 < b + 0x100)
    (h3 : ∀ c ∈ cellsAt (b + 0x300) image3 ++ [], b + 0x100 + image0.length ≤ c.1) (hc : s.closed = false) :
    imageSigOk (b + 0x100) (flashed st boots flags slot id (setCells b image0) s) = true ∧
      imgRollback (b + 0x100) (flashed st boots flags slot id (setCells b image0) s) = 1 ∧
      imgVersion (b + 0x100) (flashed st boots flags slot id (setCells b image0) s) = 1 := by
  refine image_ok ?_ hc image0_verifies
  change Memory.readN (recordCells st boots flags slot id ++ (cellsAt b (setHeader 7 260) ++ (cellsAt (b + 0x100) image0 ++ _))) _ _ = _
  rw [← List.append_assoc]
  exact rdBytes_cellsAt image0 (by decide +kernel) hb h3

theorem image3_stands {st boots flags slot id b : Nat} {im : List Byte} {s : State}
    (hb : ∀ c ∈ (recordCells st boots flags slot id ++ cellsAt b (setHeader 7 260)) ++ cellsAt (b + 0x100) im, c.1 < b + 0x300) (hc : s.closed = false) :
    imageSigOk (b + 0x300) (flashed st boots flags slot id (setCells b im) s) = true ∧
      imgRollback (b + 0x300) (flashed st boots flags slot id (setCells b im) s) = 1 ∧
      imgVersion (b + 0x300) (flashed st boots flags slot id (setCells b im) s) = 1 := by
  refine image_ok ?_ hc image3_verifies
  change Memory.readN (recordCells st boots flags slot id ++ (cellsAt b (setHeader 7 260) ++ (cellsAt (b + 0x100) im ++ (cellsAt (b + 0x300) image3 ++ [])))) _ _ = _
  rw [← List.append_assoc, ← List.append_assoc]
  exact rdBytes_cellsAt image3 (by decide +kernel) hb (by simp)

/-- A staged set whose first signature is 0, and one that passes. -/
theorem test_StagingAndCopy_unsigned :
    let s := flashed 1 0 0 0 0 (setCells 0x10400000 (testImage 0 0xFFFFFFFF 0)) live
    setFormOk 0x10400000 s = true ∧ hasClass 0x10400000 0 s = true ∧ imageSigOk (0x10400000 + imgOffset 0x10400000 0 s) s = false := by decide +kernel

def stagedGood : State := flashed 0 0 0 0 0 (setCells 0x10400000 image0) live

theorem test_StagingAndCopy_signed :
    setFormOk 0x10400000 stagedGood = true ∧ ∀ c, c < 4 → hasClass 0x10400000 c stagedGood = true →
      let h := 0x10400000 + imgOffset 0x10400000 c stagedGood
      imageSigOk h stagedGood = true ∧ stagedGood.rollbackMin c ≤ imgRollback h stagedGood ∧ stagedGood.bootN (8 + 2 * c) 2 ≤ imgVersion h stagedGood := by
  refine ⟨by decide +kernel, ?_⟩
  have hf : (imgOffset 0x10400000 0 stagedGood = 0x100 ∧ imgOffset 0x10400000 3 stagedGood = 0x300) ∧
      (hasClass 0x10400000 1 stagedGood = false ∧ hasClass 0x10400000 2 stagedGood = false) ∧
      (stagedGood.rollbackMin 0 = 0 ∧ stagedGood.rollbackMin 3 = 0 ∧ stagedGood.bootN 8 2 = 0 ∧ stagedGood.bootN 14 2 = 0) := by decide +kernel
  have h0 := image0_stands (st := 0) (boots := 0) (flags := 0) (slot := 0) (id := 0) (b := 0x10400000) (s := live) (by decide +kernel) (by decide +kernel) (by decide +kernel)
  have h3 := image3_stands (st := 0) (boots := 0) (flags := 0) (slot := 0) (id := 0) (b := 0x10400000) (s := live) (im := image0) (by decide +kernel) (by decide +kernel)
  intro c hc hp
  have : c = 0 ∨ c = 1 ∨ c = 2 ∨ c = 3 := by omega
  rcases this with rfl | rfl | rfl | rfl
  · rw [hf.1.1]; exact ⟨h0.1, by rw [hf.2.2.1]; exact Nat.zero_le _, by rw [hf.2.2.2.2.1]; exact Nat.zero_le _⟩
  · rw [hf.2.1.1] at hp; cases hp
  · rw [hf.2.1.2] at hp; cases hp
  · rw [hf.1.2]; exact ⟨h3.1, by rw [hf.2.2.2.1]; exact Nat.zero_le _, by rw [hf.2.2.2.2.2]; exact Nat.zero_le _⟩

/-- A start from the boot ROM onto flash contents. -/
def starting (st boots : Nat) (more : List Host.Cell) : State := flashed st boots 0 0 0 more State.reset

/-- A set of classes 0 and 3 whose class 0 image passes is one that starts. -/
theorem set_starts {s : State} {b : Nat} (hh : setHeaderOk b s = true ∧ setPlacesOk b s = true ∧ [0, 1, 2].filter (fun c => hasClass b c s) = [0])
    (hf : imageHeaderOk 0 (b + imgOffset b 0 s) (imgLength b 0 s) s = true ∧ imgOffset b 0 s = 0x100 ∧ s.rollbackMin 0 = 0)
    (hi : imageSigOk (b + 0x100) s = true ∧ imgRollback (b + 0x100) s = 1 ∧ imgVersion (b + 0x100) s = 1) : setVerify b [0, 1, 2] s = stOk := by
  rw [setVerify, hh.1, hh.2.1, hh.2.2]
  simp only [List.foldl_cons, List.foldl_nil, hf.1]
  rw [hf.2.1, imageVerify, hi.1, hi.2.1, hf.2.2]
  decide

theorem test_StartAndActivation_active :
    let s := starting 0 0 (setCells 0x10020000 image0)
    (s.boot.stage = .rom ∧ s.boot.dead = false ∧ s.boot.scan = false ∧ s.regB 0x40060050 31 = false ∧ openSector s.bootJournal = none ∧
      s.physOf 0 = some 0 ∧ (63 : BitVec 6).getLsbD 0 = true ∧ s.kz.retired.getLsbD 0 = false ∧ s.bootState = 0) ∧
    setVerify 0x10020000 [0, 1, 2] s = stOk := by
  refine ⟨by decide +kernel, set_starts (by decide +kernel) (by decide +kernel) ?_⟩
  exact image0_stands (b := 0x10020000) (by decide +kernel) (by decide +kernel) (by decide +kernel)

theorem test_StartAndActivation_trial :
    let s := starting 2 0 (setCells 0x10400000 image0)
    (openSector s.bootJournal = none ∧ s.bootState = 2 ∧ s.bootN 3 1 < s.savedU 0x3500 0x13) ∧ setVerify 0x10400000 [0, 1, 2] s = stOk := by
  refine ⟨by decide +kernel, set_starts (by decide +kernel) (by decide +kernel) ?_⟩
  exact image0_stands (b := 0x10400000) (by decide +kernel) (by decide +kernel) (by decide +kernel)

theorem test_StartAndActivation_start :
    State.reset.bootState < 2 ∧ setVerify 0x10020000 [0, 1, 2] State.reset ≠ stOk ∧ openSector State.reset.bootJournal = none ∧
    (∀ x : Fin 6, (0 : BitVec 6).getLsbD x.1 = false) := by decide +kernel

/-- Core 4 at its entry, with the class 3 image named or none. -/
def entering (h : Nat) : State :=
  let s := kmod 4 (fun k => { k with halted := false, pc := securityEntry }) { live with boot := { live.boot with hdrAt := vset live.boot.hdrAt 3 h } }
  { s with mem := { s.mem with cells := [] ++ (cellsAt 0x10400300 image3 ++ []) } }

theorem test_StartAndActivation_security :
    ((entering 0x10400300).physOf 4 = some 4 ∧ (vget (entering 0).kz.phys 4).halted = false ∧ (vget (entering 0).kz.phys 4).pc = securityEntry ∧
      (entering 0).isOn (coreDomain 4) = true ∧ vget (entering 0x10400300).boot.hdrAt 3 = 0x10400300 ∧ vget (entering 0).boot.hdrAt 3 = 0) ∧
    imageVerify 3 0x10400300 (entering 0x10400300) = stOk ∧ 0x10400300 + 256 + imgBody 0x10400300 (entering 0x10400300) ≤ 0x20000000 := by
  have hr : (entering 0x10400300).rollbackMin 3 = 0 := by decide +kernel
  have hi := image_ok (s := entering 0x10400300) (h := 0x10400300) (rdBytes_cellsAt image3 (m := []) (by decide +kernel) (by simp) (by simp))
    (by decide +kernel) image3_verifies
  refine ⟨⟨by decide +kernel, by decide +kernel, rfl, by decide +kernel, by decide +kernel, by decide +kernel⟩, ?_, by decide +kernel⟩
  rw [imageVerify, hi.1, hi.2.1, hr]
  decide

/-- A set with class 1 alone, HITLESS and run in place, whose body differs between the slots. -/
def hitless (b body : Nat) : List Host.Cell :=
  let h : List Byte := ([0x4F, 0x4D, 0x44, 0x49] ++ leBytes 2 1 ++ [1, 0] ++ leBytes 2 1 ++ [1, 1, 5, 0, 0, 0] ++ leBytes 4 4 ++ leBytes 4 0xFFFFFFFF ++ leBytes 4 0)
  cellsAt b ([0x4F, 0x4D, 0x44, 0x53] ++ leBytes 2 1 ++ leBytes 2 7 ++ [2, 0, 0, 0] ++ .replicate 8 0 ++ leBytes 4 0x100 ++ leBytes 4 260) ++
    cellsAt (b + 0x100) h ++ cellsAt (b + 0x200) (leBytes 4 body)
def bothSets : List Host.Cell := hitless 0x10020000 1 ++ hitless 0x10400000 2

/-- Requests with ACT_SLOT, ACT_ID and HO_SLOT set; a hand-over that waits for its slot. -/
def asks86 (st slot id want : Nat) (s : State) : State :=
  flashed st 0 0 0 0 bothSets ((((s.dPut 0x3500 0x31 slot).dPut 0x3500 0x30 id).dPut 0x3500 0x20 1).dPut 0x3500 0x21 want)
def handing : State :=
  let s := flashed 1 0 0 0 0 bothSets live
  let s := { s with boot := { s.boot with handOver := some { cls := 1, core := 1, slot := 0 } }, kz := { s.kz with swapArm := true, swapCore := 1 } }
  kmod 5 (fun k => { k with halted := false, waiting := true }) s

theorem test_StartAndActivation_updates :
    (let s : State := { kz with boot := { kz.boot with stage := .entered } }
     s.boot.stage = .entered ∧ s.coreIdle 0 = false ∧ s.boot.before = none) ∧
    (leBytes 4 (1 : BitVec 32).toNat ≠ live.dGet 0x3500 0x16 ∧ (flashed 1 0 0 0 0 [] live).bootState = 1 ∧ live.bootState ≠ 1) ∧
    (let s := flashed 1 0 1 0 7 [] live
     s.boot.stage = .main ∧ s.actArmed = true ∧ slotBegun (s.bootN 24 5) s = true ∧ s.nodeLost = false ∧ s.plkRuns = false) ∧
    (flashed 1 0 1 0 7 [] { asRole 1 live with lnk := { live.lnk with sync := .lost } }).nodeLost = true ∧
    (leBytes 4 (1 : BitVec 32).toNat ≠ live.dGet 0x3500 0x32 ∧ leBytes 4 (1 : BitVec 32).toNat ≠ live.dGet 0x3500 0x35 ∧
      leBytes 4 (1 : BitVec 32).toNat ≠ live.dGet 0x3500 0x23) ∧
    (slotBegun 0 live = true ∧ slotBegun 1000000 live = false ∧ live.bigRole = false ∧ (asRole 3 live).bigRole = true ∧
      (1000000 + 2 ^ 40 - (asRole 3 live).absSlot) % 2 ^ 40 < 4096 * (asRole 3 live).dU 0x3500 0x34 ∧
      (let s := asks86 1 1000000 7 0 (live.dPut 0x3600 0x53 0)
       s.bootState = 1 ∧ s.bootN 6 2 = 7 ∧ s.plkRuns = false ∧ s.dU 0x3600 0x53 = 0)) ∧
    (let s := asks86 1 1000000 7 1000000 live
     s.actArmed = false ∧ s.boot.handOver = none ∧ handOverOk 1 s = true ∧ handOverOk 2 s = false ∧ s.dU 0x3500 0x21 % 2 ^ 40 ≠ 0 ∧ s.physOf 5 = some 5 ∧
       s.isOn 10 = true ∧ (imgAt 0x10400000 1 s).getD 0 + 256 + imgBody ((imgAt 0x10400000 1 s).getD 0) s ≤ 0x20000000) ∧
    (handing.boot.handOver = some { cls := 1, core := 1, slot := 0 } ∧ slotBegun 0 handing = true ∧ handing.kz.swapArm = true ∧ handing.kz.swapCore = 1 ∧
      handing.physOf 1 = some 1 ∧ handing.physOf 5 = some 5 ∧ (vget handing.kz.phys 5).halted = false ∧ (vget handing.kz.phys 5).waiting = true) := by
  refine ⟨?_, ?_, ?_, ?_, ?_, ?_, ?_, ?_⟩ <;> decide +kernel

/-! ### Health, self-tests and registers -/

/-- The monitors run; a warning limit of 85.0 °C and a critical one of 105.0 °C. -/
def monitors : State := ((live.setReg 0x400A0000 2).dPut 0x3600 0x4A 850).dPut 0x3600 0x4B 1050

/-- Watchdogs of a second on running cores; core 1's has expired once. -/
def watched : State :=
  let s := kmod 1 (fun k => { k with halted := false, pc := 0x20000000 }) ((kz.dPut 0x3600 0x70 1000).dPut 0x3600 0x71 1000)
  { s with hlt := { s.hlt with expired := 2 } }

/-- Injection entries: detector, unit, mode. -/
def injects (d u mode : Nat) (s : State) : State := ((s.dPut 0x3600 0x60 d).dPut 0x3600 0x61 u).dPut 0x3600 0x62 mode

theorem test_MonitorsAndInjection_hyps :
    (monitors.regB 0x400A0000 1 = true ∧ monitors.isOn (tempDomain 5) = true ∧ monitors.hlt.warm.getLsbD 5 = false ∧ monitors.hlt.crit.getLsbD 5 = false ∧
      monitors.dI 0x3600 0x4A < (900 : BitVec 16).toInt ∧ (900 : BitVec 16).toInt ≤ monitors.dI 0x3600 0x4B ∧ monitors.pcc.asleep = false ∧
      monitors.pcc.armed = false ∧ (0xFFCE : BitVec 16).toInt ≤ -50 ∧ -50 < (0xFFCF : BitVec 16).toInt) ∧
    (0x16A : BitVec 32).toNat % 256 = 0x6A ∧
    (watchdogCounts 0 watched = true ∧ watched.physOf 0 = some 0 ∧ watched.hlt.expired.getLsbD 0 = false ∧ (vget watched.kz.phys 0).sw.getLsbD 16 = false ∧
      watchdogCounts 1 watched = true ∧ watched.hlt.expired.getLsbD 1 = true ∧ watched.pcc.asleep = false ∧ watched.pcc.armed = false) ∧
    (leBytes 4 (1 : BitVec 32).toNat ≠ live.dGet 0x3600 0x64 ∧ live.hlt.hold = 0 ∧ live.mem.mig = .idle ∧ live.hlt.roll = none ∧ live.hlt.bist = none ∧
      detUnits 0x15 ≤ 1 ∧ 0 < detUnits 0x15 ∧ actAllowed 3 0 = false ∧ actAllowed 0x15 0 = true ∧ detClass 0x15 = none ∧ actAllowed 0x0B 0 = true ∧
      detClass 0x0B = some 6 ∧ (live.dPut 0x3600 0x16 0).sparesLeft 6 = 0) ∧
    ((injects 0x0F 0 0 live).dU 0x3600 0x60 = 0x0F ∧ (injects 0x14 0 1 live).dU 0x3600 0x62 = 1) := by decide +kernel

/-- The conditions of R493, and a rolling test in progress. -/
def ready93 (s : State) : State :=
  { s with pcc := { s.pcc with sysPll := true, locked := .replicate 4 true } }.dPut 0x3400 0x10 0
def rolls (cur : Option (TestUnit × Nat)) (left : List TestUnit) : State := { live with hlt := { live.hlt with roll := some { left := left, cur := cur } } }
def shuts (a : Fin 3) : State := { live with hlt := { live.hlt with bist := some a } }

theorem test_SelfTests_hyps :
    (leBytes 4 (1 : BitVec 32).toNat ≠ live.dGet 0x3600 0x50 ∧ live.hlt.bist = none ∧ live.hlt.roll = none ∧ live.hlt.closing = none ∧
      testReady live = false ∧ testReady (ready93 live) = true ∧ partnerReady (ready93 live) = false ∧ leBytes 4 (1 : BitVec 32).toNat ≠ live.dGet 0x3600 0x52) ∧
    (∀ a : Fin 3, (shuts a).hlt.bist = some a) ∧
    (vget (ready93 live).rx.laneMap 0 = some 0 ∧ (ready93 live).rx.laneSpare ≠ [] ∧ (ready93 live).isOn dLANE0 = true ∧ (ready93 live).laneFrame 0 = none) ∧
    ((rolls (some (.lane 0, 0)) rollAll).hlt.roll = some { left := rollAll, cur := some (.lane 0, 0) } ∧ rollAll ≠ [] ∧
      (rolls (some (.lane 0, 0)) []).hlt.roll = some { left := [], cur := some (.lane 0, 0) } ∧
      (rolls none [.slice 3]).hlt.roll = some { left := [.slice 3], cur := none } ∧ vget live.rx.sliceMap 3 = some 3 ∧ live.rx.sliceSpare ≠ [] ∧
      live.isOn dCAPTURE = true) ∧
    ({ live with boot := { live.boot with scan := true } } : State).boot.scan = true := by decide +kernel

theorem test_Registers_hyps :
    (periphMapped 0x40110000 live = true ∧ (regRow 0x4011000C).isSome = true ∧ mirrorsOf 0x4011000C = [] ∧ regRow 0x4011FFFC = none ∧
      periphMapped 0x40240000 live = true ∧ (0x4011000C : BitVec 32).toNat % 4 = 0) ∧
    (periphMapped 0x40110000 State.reset = false) := by decide +kernel

/-! ### The Peer Link and the twin pair -/

/-- The Peer Link with both ports up at position 2, its key in slot 12, a partner at position 3. -/
def peers (s : State) : State :=
  let s := ((((s.dPut 0x3700 1 1).dPut 0x3700 2 2).dPut 0x3700 3 12).dPut 0x3700 0x11 3)
  loadSlot 12 { key := key16 6, mask := 0xFF, valid := true } { s with plk := { s.plk with up := 3 } }

/-- A member of the ring is heard. -/
def hearsMember (x : Fin 8) (m : Member) (s : State) : State := { s with plk := { s.plk with members := vset s.plk.members x (some m) } }

/-- A heartbeat of position 5, and a frame with its tag and CRC. -/
def beat : PlkFrame := { cls := 0, type := 0, bcast := true, src := 5, dst := 0, seq := 9, payload := [4, 2, 7, 0, 0, 0], ports := 0 }
def ontoWire (f : PlkFrame) (tag : List Byte) : List Byte :=
  let body := f.header ++ f.payload ++ tag
  body ++ leBytes 4 (crc32 body)
def tagged5 (dst : Fin 8) : PlkFrame := { cls := 1, type := 7, src := 5, dst := dst, seq := 2, payload := [1, 2], ports := 0 }

/-- A sealed group with one carrier, where the site's role is `r` and arbitration is on. -/
def arbAt (r : Byte) (cl : List (Fin 8 × List (Nat × Nat))) : State :=
  let s := ((peers (asRole r live)).dPut 0x3700 0x20 1)
  let g : Sys2Proof.Machine.Group := { entry := 0, slot := 139, sealed := true, carriers := [{ chan := 5, entries := [{ node := 0x55 }] }] }
  hearsMember 6 {} { s with lnk := { s.lnk with group := some g }, plk := { s.plk with claims := cl } }

theorem test_PeerFrames_hyps :
    (beat.payload.length ≤ 1024 ∧ ([] : List Byte).length = (if beat.cls = 0 then 0 else 8)) ∧
    ((peers live).plkRuns = true ∧ (peers live).plk.up.getLsbD 1 = true ∧ plkParse [1, 2] = none ∧ plkParse (ontoWire beat []) = some (beat, []) ∧
      beat.src ≠ (peers live).plkPos ∧ (peers live).twinOn = false ∧ (peers live).plk.up &&& 1 ≠ 0 ∧
      plkParse (ontoWire (tagged5 4) (.replicate 8 1)) = some (tagged5 4, .replicate 8 1) ∧ (tagged5 4).dst ≠ (peers live).plkPos ∧
      (tagged5 2).dst = (peers live).plkPos ∧ (tagged5 2).cls ≠ 0 ∧ (peers live).plkKey = some (key16 6) ∧ (tagged5 2).tag (key16 6) ≠ .replicate 8 1) ∧
    (heartbeatRuns (peers live) = true ∧ (peers live).cwy.peerOut = [] ∧ (peers (asRole 3 live)).role = 3 ∧ live.role ≠ 3) ∧
    ((hearsMember 3 { role := 4 } (peers live)).member 3 = some { role := 4 } ∧ live.member 3 = none ∧ ((peers live).dPut 0x3700 0x10 1).twinOn = true ∧
      (peers live).plkPartner = 3) ∧
    ((asRole 4 live).pd1Source = .peer ∧ (asRole 4 live).plk.phaseLost = false) ∧
    ((arbAt 4 []).arbitrated = true ∧ (arbAt 4 []).role ≠ 3 ∧ (arbAt 4 []).plk.grants = none ∧ (arbAt 3 [(6, [(5, 2)])]).arbitrated = true ∧
      (arbAt 3 [(6, [(5, 2)])]).plk.claims = [(6, [(5, 2)])] ∧ (6 : Fin 8) ≠ (arbAt 3 []).plkPos ∧ (arbAt 3 []).plkRuns = true ∧
      (arbAt 3 []).member 6 = some {} ∧ live.arbitrated = false) := by decide +kernel

/-- One of a twin pair in a role; alone, with BEACON_TX as its entry 0. -/
def twin (r : Byte) : State := (peers (asRole r live)).dPut 0x3700 0x10 1
def standbyAlone : State :=
  let s := twin 4
  { s with plk := { s.plk with alone := true }, lnk := { s.lnk with table := s.lnk.table.set 0 { time := 1, kind := 3 } } }
def tookOver (cycle : Nat) : State :=
  let s := pdMod 1 (fun d => { d with rev := BitVec.ofNat 28 cycle }) (twin 3)
  { s with plk := { s.plk with tookOver := true } }
def inStep : State :=
  let s := hearsMember 3 { role := 4 } (twin 3)
  { s with plk := { s.plk with mirror := 1 } }
def switchWaits (r : Byte) (slot : Nat) : State := { twin r with plk := { (twin r).plk with switchAt := some slot } }

theorem test_TwinPair_hyps :
    ((twin 3).twinActive = true ∧ (twin 3).member (twin 3).plkPartner = none ∧ (twin 3).plk.duplicate = false ∧ (twin 3).plk.up ≠ 0 ∧
      inStep.twinActive = true ∧ inStep.member inStep.plkPartner = some { role := 4 }) ∧
    (standbyAlone.role = 4 ∧ standbyAlone.twinOn = true ∧ standbyAlone.member standbyAlone.plkPartner = none ∧ standbyAlone.plk.alone = true ∧
      (standbyAlone.sg 0).type = 3) ∧
    ((tookOver 31).role = 3 ∧ (tookOver 31).plk.tookOver = true ∧ (tookOver 31).member (tookOver 31).plkPartner = none ∧ (tookOver 31).cycle % 16 = 15) ∧
    ((hearsMember 3 { role := 3 } (twin 3)).plk.tookOver = false ∧ (3 : Fin 8) ≠ (twin 3).plkPos ∧ ({ role := 3 } : Member).role = 3) ∧
    (leBytes 4 (1 : BitVec 32).toNat ≠ inStep.dGet 0x3700 0x19 ∧ partnerReady live = false ∧ partnerReady inStep = true ∧
      slotBegun (inStep.dU 0x3700 0x18 % 2 ^ 40) inStep = true ∧ slotBegun 1000 (inStep.dPut 0x3700 0x18 1000) = false ∧ inStep.plkRuns = true ∧
      inStep.plkKey.isSome = true) ∧
    ((switchWaits 3 0).plk.switchAt = some 0 ∧ (switchWaits 3 0).hlt.closing = none ∧ slotBegun 0 (switchWaits 3 0) = true ∧ (switchWaits 4 0).role = 4 ∧
      slotBegun 1000 (switchWaits 3 1000) = false) ∧
    (({ live with plk := { live.plk with listen := true } } : State).plk.listen = true ∧ live.role = 0 ∧ (∀ d : Fin 24, live.isOn d = true) ∧
      live.plk.listen = false) := by decide +kernel

/-! ### The whole machine -/

theorem test_FrontCommandRuns_hyps : State.reset.pending = [] ∧ State.reset.links.waiting = [] := ⟨rfl, rfl⟩

theorem test_FencesChangeNoRegister_hyps : KzReady kz 0 0 := kz_ready

theorem test_PoweredKept_hyps : State.reset.Powered ∧ ∃ t, step { State.reset with pending := [.vioReturn] } = .next t :=
  ⟨⟨by decide +kernel, by decide +kernel⟩, _, rfl⟩

/-- The ends of the two flash ranges that ResetState speaks of. -/
theorem test_ResetState_flash : State.reset.rd8 0x10020000 = 0xFF ∧ State.reset.rd8 0x1031FFFF = 0xFF ∧ State.reset.rd8 0x10400000 = 0xFF ∧
    State.reset.rd8 0x106FFFFF = 0xFF := by decide +kernel

end Sys2Proof.Tests
end

section
/-! SUPPORT. The machine right after its first reset. -/

namespace Sys2Proof.Machine

/-- At reset memory lists no byte, so each reads as an address that nothing has written. -/
theorem rd8_reset (a : Nat) : State.reset.rd8 a = memDefault a := rfl

/-- Erased flash reads all ones (R369). -/
theorem memDefault_flash {a : Nat} (h : 0x10000000 ≤ a) (h' : a < 0x10800000) : memDefault a = 0xFF :=
  if_pos (Or.inl ⟨h, h'⟩)

theorem reset_domain (d : Fin 24) :
    vget State.reset.pcc.dom d = (if d.1 = 0 ∨ d.1 = 1 ∨ d.1 = 2 ∨ d.1 = 8 ∨ d.1 = 11 then .on else .off) := by
  simp [State.reset, vget]

theorem reset_core (p : Fin 6) : (vget State.reset.kz.phys p).sw = 0x400 ∧ ∀ r, (vget State.reset.kz.phys p).gr r = 0 := by
  decide +revert

theorem reset_powered : State.reset.Powered := by
  simp [State.Powered, State.isOn, reset_domain, dAON, dBKP]

end Sys2Proof.Machine

namespace Sys2Proof.Proofs

open Sys2Proof.Machine

/-- Settles O57: the entries by evaluation, the domains and cores number by number, and flash by what unwritten memory reads as. -/
theorem resetState : Obligations.ResetState := by
  unfold Obligations.ResetState
  have role : State.reset.role = 0 := by decide +kernel
  have cause : State.reset.dU 0x1200 5 = 0 := by decide +kernel
  have region : State.reset.plan = 0 := by decide +kernel
  refine ⟨role, cause, region, reset_domain, rfl, rfl, rfl, rfl, reset_core, reset_mem_wf, ?_, reset_powered⟩
  intro a h h' h''
  rw [rd8_reset]
  exact memDefault_flash (by omega) (by omega)

end Sys2Proof.Proofs
end

section
/-! SUPPORT. Register writes under the access codes of R16, bit by bit, and the LOCK bits. -/

namespace Sys2Proof.Machine

/-! ### Bits of a register -/

theorem regB_eq (s : State) (a i : Nat) : s.regB a i = (s.reg a).toNat.testBit i := rfl

theorem regB_congr {s t : State} {a : Nat} (h : t.reg a = s.reg a) (i : Nat) : t.regB a i = s.regB a i := by
  rw [regB_eq, regB_eq, h]

theorem regB_setRegN_self (s : State) (a v i : Nat) : (s.setRegN a v).regB a i = (decide (i < 32) && v.testBit i) := by
  rw [regB_eq, reg_setRegN_self, BitVec.toNat_ofNat, Nat.testBit_mod_two_pow]

theorem regB_of_le {s : State} {a i : Nat} (h : 32 ≤ i) : s.regB a i = false :=
  BitVec.getLsbD_of_ge _ _ h

theorem putField_bit0 (v j : Nat) : (putField v 0 0 1).testBit j = (decide (j = 0) || v.testBit j) := by
  have h : putField v 0 0 1 = 2 * (v / 2) + 1 := by
    simp only [putField, field]
    omega
  cases j with
  | zero => simp [h]
  | succ j => simp [h, Nat.testBit_succ, Nat.mul_add_div]

/-- A flag of bit 0 set leaves every other bit of every register, and everything else. -/
theorem flagged_flag0 (s : State) (a : Nat) : Flagged s (s.flag a 0) a 0 := by
  have bits : ∀ j, (s.flag a 0).regB a j = (decide (j < 32) && (decide (j = 0) || s.regB a j)) := by
    intro j
    rw [State.flag, State.setRegF, regB_setRegN_self, putField_bit0]
    rfl
  refine ⟨by simp [bits], ?_, rfl⟩
  intro b j h
  by_cases hb : b = a
  · subst hb
    have hj : j ≠ 0 := h.resolve_left (· rfl)
    rw [bits]
    by_cases hw : j < 32
    · simp [hw, hj]
    · simp [hw, regB_of_le (s := s) (a := b) (Nat.le_of_not_lt hw)]
  · exact regB_congr (reg_flag_ne s 0 hb) j

/-! ### The access codes (R16) -/

/-- A register's new word under its access codes: `w` names the bits that take the value written. -/
def codedWord (r : RegRow) (w old x : Nat) : Nat :=
  (old &&& (0xFFFFFFFF ^^^ (w ||| r.w1c ||| r.w1s))) ||| (x &&& w) ||| (old &&& r.w1c &&& (0xFFFFFFFF ^^^ x)) ||| ((old ||| x) &&& r.w1s)

theorem testBit_complement32 {i : Nat} (h : i < 32) (n : Nat) : (0xFFFFFFFF ^^^ n).testBit i = !n.testBit i := by
  rw [Nat.testBit_xor, show (0xFFFFFFFF : Nat) = 2 ^ 32 - 1 from rfl, Nat.testBit_two_pow_sub_one]
  simp [h]

theorem codedWord_testBit (r : RegRow) (w old x : Nat) {i : Nat} (h : i < 32) :
    (codedWord r w old x).testBit i =
      ((w.testBit i && x.testBit i) || (r.w1c.testBit i && old.testBit i && !x.testBit i) || (r.w1s.testBit i && (old.testBit i || x.testBit i)) ||
        (!w.testBit i && !r.w1c.testBit i && !r.w1s.testBit i && old.testBit i)) := by
  simp only [codedWord, Nat.testBit_or, Nat.testBit_and, testBit_complement32 h]
  cases w.testBit i <;> cases r.w1c.testBit i <;> cases r.w1s.testBit i <;> cases old.testBit i <;> cases x.testBit i <;> rfl

theorem plainWrite_none {a : Nat} (h : regRow a = none) (v : BitVec 32) (s : State) : plainWrite a v s = s := by
  simp only [plainWrite, h]

/-- A register that shows no entry holds what its access codes give. -/
theorem plainWrite_unshown {a : Nat} {r : RegRow} (h : regRow a = some r) (hm : mirrorsOf a = []) (v : BitVec 32) (s : State) :
    plainWrite a v s = s.setRegN a (codedWord r (writable r a s) (s.reg a).toNat v.toNat) := by
  simp only [plainWrite, h, hm, List.foldl_nil, codedWord]

theorem writable_testBit (r : RegRow) (a : Nat) (s : State) (i : Nat) :
    (writable r a s).testBit i = (r.rw.testBit i || (r.rwl.testBit i && !s.locked (a / 0x10000))) := by
  unfold writable
  cases s.locked (a / 0x10000) <;> simp

/-! ### The bus -/

theorem region_periph {a : Nat} (h : 0x40000000 ≤ a) (h' : a < 0x40250000) (s : State) : s.region a = .periph := by
  have hr : regionOf a = .periph := by
    unfold regionOf
    repeat rw [if_neg (by omega)]
    rw [if_pos ⟨h, h'⟩]
  simp only [State.region, hr]

theorem registerWrite_periph {a : Nat} (ha : a % 4 = 0) (h : 0x40000000 ≤ a) (h' : a < 0x40250000) (m : Master) (v : BitVec 32) (s : State) :
    registerWrite m a v s = if periphMapped a s then regWrite m a v s else s := by
  simp only [registerWrite, ha, ne_eq, not_true_eq_false, if_false, region_periph h h']

/-- The pages of ACQ, LDC and the Peer Link, whose registers have no effect of their own. -/
theorem regWrite_plainPage {a : Nat} (h : a / 0x10000 ∈ [0x4011, 0x4013, 0x4024]) (m : Master) (v : BitVec 32) (s : State) :
    regWrite m a v s = plainWrite a v s := by
  simp only [List.mem_cons, List.not_mem_nil, or_false] at h
  rcases h with h | h | h <;> simp only [regWrite, h]

theorem exec_registerWrite (m : Master) (a v : BitVec 32) (s : State) : exec (.registerWrite m a v) s = .next (registerWrite m a.toNat v s) := rfl

theorem lockSet_ptb {s : State} (h : s.isOn dAON = true) : lockSet 0x40050000 s = { s with ptb := { s.ptb with lock := true } } := by
  have hm : periphMapped 0x40050000 s = true := h
  simp only [lockSet, lockBit, hm, ptbMod, Bool.not_true, if_true, Bool.false_eq_true, if_false]

theorem lockSet_pcc {s : State} (h : s.isOn dAON = true) : lockSet 0x40000000 s = { s with pcc := { s.pcc with lock := true } } := by
  have hm : periphMapped 0x40000000 s = true := h
  simp [lockSet, lockBit, hm, pccMod]

/-- A register whose bit 0 is its block's LOCK, outside the timebase and the PCC. -/
theorem lockSet_flag {a : Nat} {s : State} (hb : lockBit a = some 0) (hp : a ≠ 0x40050000) (hc : a ≠ 0x40000000) (h : periphMapped a s = true) :
    lockSet a s = s.flag a 0 := by
  simp [lockSet, hb, hp, hc, h]

theorem lockBit_of_block : ∀ a ∈ [0x40070000, 0x400A0000, 0x40100000, 0x40110000, 0x40130000, 0x40140000, 0x40150000, 0x40160000, 0x40170000, 0x40240000],
    lockBit a = some 0 ∧ a ≠ 0x40050000 ∧ a ≠ 0x40000000 := by
  decide

end Sys2Proof.Machine

namespace Sys2Proof.Proofs

open Sys2Proof.Machine

/-- Settles O53: the bus takes a write of these pages to the access codes, which are read bit by bit; LOCK_SET sets bit 0 as a flag. -/
theorem registers : Obligations.Registers := by
  unfold Obligations.Registers
  intro s m a v r ha
  refine ⟨?_, ?_, ?_, ?_, ?_⟩
  · intro hpage hmapped
    have hbounds : 0x40000000 ≤ a.toNat ∧ a.toNat < 0x40250000 := by
      simp only [List.mem_cons, List.not_mem_nil, or_false] at hpage
      omega
    have hwrite : exec (.registerWrite m a v) s = .next (plainWrite a.toNat v s) := by
      rw [exec_registerWrite, registerWrite_periph ha hbounds.1 hbounds.2, if_pos hmapped, regWrite_plainPage hpage]
    refine ⟨fun hnone => by rw [hwrite, plainWrite_none hnone], fun hrow hmir => ?_⟩
    refine ⟨_, hwrite, ?_⟩
    rw [plainWrite_unshown hrow hmir]
    refine ⟨fun c hc => reg_setRegN_ne s _ hc, rfl, fun i hi => ?_⟩
    rw [regB_setRegN_self, codedWord_testBit r _ _ _ hi, writable_testBit]
    simp only [hi, decide_true, Bool.true_and]
    rfl
  · intro h h' hdark
    rw [exec_registerWrite, registerWrite_periph ha h h', hdark]
    rfl
  · cases hon : s.isOn dAON
    · exact .inr rfl
    · exact .inl (congrArg _ (lockSet_ptb hon))
  · cases hon : s.isOn dAON
    · exact .inr rfl
    · exact .inl (congrArg _ (lockSet_pcc hon))
  · intro hlock hmapped
    obtain ⟨hbit, hptb, hpcc⟩ := lockBit_of_block a.toNat hlock
    refine ⟨_, rfl, ?_⟩
    rw [lockSet_flag hbit hptb hpcc hmapped]
    exact flagged_flag0 s a.toNat

end Sys2Proof.Proofs
end

section
/-! SUPPORT. What a store of a KZ core does to memory, to its own core and to the others' reservations (R332, R333, R366). -/

namespace Sys2Proof.Machine

/-! ### Folds over the state -/

/-- What every step keeps of the state before it, a whole fold keeps. -/
theorem foldS_keeps {α σ : Type} {R : σ → σ → Prop} (refl : ∀ s, R s s) (trans : ∀ {s t u}, R s t → R t u → R s u) {f : α → σ → σ}
    (step : ∀ x s, R s (f x s)) (l : List α) (s : σ) : R s (foldS f l s) := by
  induction l generalizing s with
  | nil => exact refl s
  | cons x l ih => exact trans (step x s) (ih (f x s))

/-! ### The core after an instruction in sequence (R339) -/

/-- An instruction that leaves PC, the loop and the cycle count to the frame goes on as R339 says. -/
theorem kzOnward_advance {k k₁ : Core} (n : Nat) (h : { k₁ with pc := k.pc, lc := k.lc, ls := k.ls, le := k.le, cycle := k.cycle } = k₁) :
    KzOnward k (k₁.tick n).advance n := by
  rw [← h]
  unfold KzOnward Core.advance Core.tick
  dsimp only
  by_cases hloop : k.pc = k.le ∧ k.lc ≠ 0
  · rw [if_pos hloop, if_pos hloop]
    by_cases hlast : k.lc = 1
    · rw [if_pos hlast, if_pos hlast, hlast]
      exact ⟨rfl, rfl, rfl⟩
    · rw [if_neg hlast, if_neg hlast]
      exact ⟨rfl, rfl, rfl⟩
  · rw [if_neg hloop, if_neg hloop]
    exact ⟨rfl, rfl, rfl⟩

/-- Beside PC, LC and CYCLE the frame changes nothing. -/
theorem advance_frame (k : Core) (n : Nat) (pc lc : BitVec 32) (cycle : BitVec 64) :
    { (k.tick n).advance with pc := pc, lc := lc, cycle := cycle } = { k with pc := pc, lc := lc, cycle := cycle } := by
  unfold Core.advance Core.tick
  dsimp only
  split
  · split <;> rfl
  · rfl

theorem kzOnly_advance (k : Core) (n : Nat) : KzOnly k (k.tick n).advance := advance_frame k n _ _ _

@[simp] theorem advance_sw (k : Core) (n : Nat) : (k.tick n).advance.sw = k.sw := by
  have h := congrArg Core.sw (advance_frame k n k.pc k.lc k.cycle)
  exact h

@[simp] theorem advance_resv (k : Core) (n : Nat) : (k.tick n).advance.resv = k.resv := by
  have h := congrArg Core.resv (advance_frame k n k.pc k.lc k.cycle)
  exact h

@[simp] theorem advance_gr (k : Core) (n : Nat) (r : Gr) : (k.tick n).advance.gr r = k.gr r := by
  have h := congrArg (fun c : Core => c.gr r) (advance_frame k n k.pc k.lc k.cycle)
  exact h

/-! ### The bytes of a store (R18) -/

theorem leBytes_getD {n i : Nat} (h : i < n) (v : Nat) : (leBytes n v).getD i 0 = BitVec.ofNat 8 (v / 256 ^ i) := by
  induction n generalizing i v with
  | zero => omega
  | succ n ih =>
    cases i with
    | zero => simp [leBytes]
    | succ i =>
      rw [leBytes, List.getD_cons_succ, ih (by omega), Nat.div_div_eq_div_mul, ← Nat.pow_succ']

/-- Byte `i` of the low `n` bytes of a word. -/
theorem lowBytes_getD {n i : Nat} (h : i < n) (v : BitVec 32) : (leBytes n (v.toNat % 2 ^ (8 * n))).getD i 0 = v.extractLsb' (8 * i) 8 := by
  rw [leBytes_getD h]
  apply BitVec.eq_of_getLsbD_eq
  intro j hj
  have hbits : (256 : Nat) ^ i = 2 ^ (8 * i) := by rw [Nat.pow_mul]
  have hin : 8 * i + j < 8 * n := by omega
  simp only [BitVec.getLsbD_ofNat, BitVec.getLsbD_extractLsb', hj, decide_true, Bool.true_and, hbits, Nat.testBit_div_two_pow,
    Nat.testBit_mod_two_pow, Nat.add_comm j, hin]
  rfl

theorem rd8_wrN (s : State) (a n v y : Nat) :
    (s.wrN a n v).rd8 y = if a ≤ y ∧ y < a + n then (leBytes n v).getD (y - a) 0 else s.rd8 y := by
  have h := read_writeN (leBytes n v) s.mem.cells a y
  rw [leBytes_length] at h
  exact h

/-! ### Reservations that a store ends (R333) -/

/-- Physical cores other than `by_` may have lost their reservation; nothing else of the machine has changed. -/
structure OnlyReservations (by_ : Nat) (s t : State) : Prop where
  frame : { t with kz := { t.kz with phys := s.kz.phys } } = s
  cores : ∀ q, { vget t.kz.phys q with resv := none } = { vget s.kz.phys q with resv := none }
  own : ∀ q : Fin 6, q.1 = by_ → vget t.kz.phys q = vget s.kz.phys q

theorem OnlyReservations.refl (by_ : Nat) (s : State) : OnlyReservations by_ s s := ⟨rfl, fun _ => rfl, fun _ _ => rfl⟩

theorem OnlyReservations.trans {by_ : Nat} {s t u : State} (h : OnlyReservations by_ s t) (h' : OnlyReservations by_ t u) :
    OnlyReservations by_ s u where
  frame := by
    have hu := h'.frame
    have ht := h.frame
    rw [← hu] at ht
    exact ht
  cores q := (h'.cores q).trans (h.cores q)
  own q hq := (h'.own q hq).trans (h.own q hq)

theorem onlyReservations_lose {by_ : Nat} {i : Fin 6} (h : i.1 ≠ by_) (s : State) :
    OnlyReservations by_ s { s with kz := { s.kz with phys := vmod s.kz.phys i (fun k => { k with resv := none }) } } where
  frame := rfl
  cores q := by
    by_cases hq : i = q
    · subst hq
      simp
    · simp [vget_vmod, hq]
  own q hq := by
    have hne : i ≠ q := fun e => h (e ▸ hq)
    simp [vget_vmod, hne]

theorem breakReservations_frame (by_ a n : Nat) (s : State) : OnlyReservations by_ s (breakReservations by_ a n s) := by
  refine foldS_keeps (OnlyReservations.refl by_) OnlyReservations.trans ?_ (fins 6) s
  intro i s
  dsimp only
  split
  · split
    · rename_i b _ hlost
      exact onlyReservations_lose hlost.1 s
    · exact .refl by_ s
  · exact .refl by_ s

/-! ### A store that no cause prevents -/

/-- A write mends errors of the words it covers, and does nothing else (R366, R382). -/
theorem mendOnWrite_frame (a n : Nat) (s : State) : ∃ b p, mendOnWrite a n s = { s with mem := { s.mem with bad := b, poison := p } } := by
  unfold mendOnWrite mmod
  dsimp only
  split <;> split <;> exact ⟨_, _, rfl⟩

theorem storeGo_plain {x : Acc1} {s : State} (h : plainRegion (s.region x.a.toNat)) (v : Nat) :
    storeGo x v s = breakReservations x.p.1 x.a.toNat x.n (mendOnWrite x.a.toNat x.n (s.wrN x.a.toNat x.n v)) := by
  unfold storeGo
  rcases h with h | ⟨d, h⟩ | ⟨d, h⟩ <;> simp only [h]

/-- Memory holds the low `n` bytes of `v` from `a` on, core `p` is `k'`, other cores have lost at most a reservation, errors may be mended, and
nothing else has changed. -/
structure StoredAt (s t : State) (p : Fin 6) (a n : Nat) (v : BitVec 32) (k' : Core) : Prop where
  bytes : ∀ y, t.rd8 y = if a ≤ y ∧ y < a + n then v.extractLsb' (8 * (y - a)) 8 else s.rd8 y
  own : vget t.kz.phys p = k'
  others : ∀ q, q ≠ p → { vget t.kz.phys q with resv := none } = { vget s.kz.phys q with resv := none }
  frame : { t with mem := s.mem, kz := { t.kz with phys := s.kz.phys } } = s
  memory : { t.mem with cells := s.mem.cells, bad := s.mem.bad, poison := s.mem.poison } = s.mem

/-- The storing core may itself go on from there. -/
theorem StoredAt.kmod {s t : State} {p : Fin 6} {a n : Nat} {v : BitVec 32} {k' : Core} (h : StoredAt s t p a n v k') (f : Core → Core) :
    StoredAt s (kmod p f t) p a n v (f k') where
  bytes := h.bytes
  own := by rw [kmod_phys_self, h.own]
  others q hq := by rw [kmod_phys_ne f t (Ne.symm hq), h.others q hq]
  frame := h.frame
  memory := h.memory

/-- What the storing core changed of itself before the store is its own. -/
theorem StoredAt.of_kmod {s t : State} {p : Fin 6} {a n : Nat} {v : BitVec 32} {k' : Core} {f : Core → Core}
    (h : StoredAt (Machine.kmod p f s) t p a n v k') : StoredAt s t p a n v k' where
  bytes := h.bytes
  own := h.own
  others q hq := by rw [h.others q hq, kmod_phys_ne f s (Ne.symm hq)]
  frame := congrArg (fun u : State => { u with kz := { u.kz with phys := s.kz.phys } }) h.frame
  memory := h.memory

theorem storedAt_storeGo {x : Acc1} {s : State} (h : plainRegion (s.region x.a.toNat)) (v : BitVec 32) :
    StoredAt s (storeGo x (v.toNat % 2 ^ (8 * x.n)) s) x.p x.a.toNat x.n v (vget s.kz.phys x.p) := by
  rw [storeGo_plain h]
  obtain ⟨b, p, hmend⟩ := mendOnWrite_frame x.a.toNat x.n (s.wrN x.a.toNat x.n (v.toNat % 2 ^ (8 * x.n)))
  rw [hmend]
  obtain ⟨hframe, hcores, hown⟩ := breakReservations_frame x.p.1 x.a.toNat x.n
    { s.wrN x.a.toNat x.n (v.toNat % 2 ^ (8 * x.n)) with
      mem := { (s.wrN x.a.toNat x.n (v.toNat % 2 ^ (8 * x.n))).mem with bad := b, poison := p } }
  generalize breakReservations x.p.1 x.a.toNat x.n _ = t at hframe hcores hown
  have hmem := congrArg State.mem hframe
  dsimp only at hmem
  refine ⟨fun y => ?_, hown x.p rfl, fun q _ => hcores q, ?_, ?_⟩
  · have hread : t.rd8 y = (s.wrN x.a.toNat x.n (v.toNat % 2 ^ (8 * x.n))).rd8 y := by
      unfold State.rd8
      rw [hmem]
    rw [hread, rd8_wrN]
    by_cases hy : x.a.toNat ≤ y ∧ y < x.a.toNat + x.n
    · rw [if_pos hy, if_pos hy, lowBytes_getD (by omega)]
    · rw [if_neg hy, if_neg hy]
  · exact congrArg (fun u : State => { u with mem := s.mem }) hframe
  · rw [hmem]
    rfl

/-- A store without a cause completes; `done` must leave the PC to the frame. -/
theorem storeAt_plain {x : Acc1} {s : State} (h : KzWrites s x) (v : BitVec 32) {done : Core → Core}
    (hpc : (done (vget s.kz.phys x.p)).pc = (vget s.kz.phys x.p).pc) :
    ∃ t, storeAt x v done s = .next t ∧ StoredAt s t x.p x.a.toNat x.n v (done (vget s.kz.phys x.p)) := by
  have hplain : plainRegion ((kmod x.p done s).region x.a.toNat) := h.plain
  have hstored := storedAt_storeGo hplain v
  refine ⟨storeGo x (v.toNat % 2 ^ (8 * x.n)) (kmod x.p done s), ?_, ?_⟩
  · simp only [storeAt, h.cause, afterAccess]
    rw [if_pos]
    rw [hstored.own, kmod_phys_self, hpc]
  · rw [kmod_phys_self] at hstored
    exact hstored.of_kmod

/-- A store instruction whose fetch passes, by what it changes in its own core. -/
theorem kzStored_of_storeAt {s : State} {c p : Fin 6} (hr : KzReady s c p) {i : Instr} {x : Acc1} {f : Fin 6 → State → KzRes} {v : BitVec 32}
    {done : Core → Core} {post : Core → Core → Prop} (hexec : exec i s = .next (kzRun c 1 f s)) (hp : x.p = p) (hf : f p s = storeAt x v done s)
    (hw : KzWrites s x)
    (hdone : ∀ k : Core, { done k with pc := k.pc, lc := k.lc, ls := k.ls, le := k.le, cycle := k.cycle } = done k)
    (hpost : post (vget s.kz.phys p) ((done (vget s.kz.phys p)).tick 1).advance) :
    KzStored s p i x.a.toNat x.n v post := by
  subst hp
  have hpc : (done (vget s.kz.phys x.p)).pc = (vget s.kz.phys x.p).pc := (congrArg Core.pc (hdone _)).symm
  obtain ⟨t, hstore, hstored⟩ := storeAt_plain hw v hpc
  obtain ⟨hbytes, hown, hothers, hframe, hmemory⟩ := hstored.kmod (fun k => (k.tick 1).advance)
  refine ⟨_, hexec.trans (congrArg _ ?_), hbytes, ?_, ?_, hothers, hframe, hmemory⟩
  · rw [kzRun_ready hr, hf, hstore]
  · rw [hown]
    exact hpost
  · rw [hown]
    exact kzOnward_advance 1 (hdone _)

/-! ### STW, STH, STB and SC -/

/-- A store instruction of the I format. -/
theorem kzStored_plain {s : State} {c p : Fin 6} (hr : KzReady s c p) {i : Instr} {rd ra : Gr} {imm : BitVec 18} {n : Nat}
    (hexec : exec i s = .next (kzStore c rd ra imm n s)) (hw : KzWrites s (.ofEa c p ra imm n s)) :
    KzStored s p i ((vget s.kz.phys p).gr ra + imm.signExtend 32).toNat n ((vget s.kz.phys p).gr rd) KzOnly :=
  kzStored_of_storeAt hr hexec rfl rfl hw (fun _ => rfl) (kzOnly_advance _ 1)

/-- What SC does to its own core: rd tells how it went, and the reservation ends. -/
def Core.scDone (rd : Gr) (w : BitVec 32) (k : Core) : Core := { k.setGr rd w with resv := none }

theorem scDone_onward (rd : Gr) (w : BitVec 32) (k : Core) :
    { k.scDone rd w with pc := k.pc, lc := k.lc, ls := k.ls, le := k.le, cycle := k.cycle } = k.scDone rd w := by
  unfold Core.scDone Core.setGr
  split <;> rfl

theorem scDone_post (rd : Gr) (w : BitVec 32) (k : Core) :
    KzWrote k ((k.scDone rd w).tick 1).advance rd w ∧ ((k.scDone rd w).tick 1).advance.sw = k.sw ∧
      ((k.scDone rd w).tick 1).advance.resv = none ∧ KzKeeps k { ((k.scDone rd w).tick 1).advance with resv := k.resv } := by
  have hgr : ∀ x, (k.scDone rd w).gr x = (k.setGr rd w).gr x := fun _ => rfl
  have hframe : { k.scDone rd w with g := k.g, sw := k.sw, pc := k.pc, lc := k.lc, cycle := k.cycle, resv := k.resv } = k := by
    unfold Core.scDone Core.setGr
    split <;> rfl
  have hsw : (k.scDone rd w).sw = k.sw := by
    unfold Core.scDone Core.setGr
    split <;> rfl
  refine ⟨⟨?_, fun x hx => ?_⟩, ?_, ?_, ?_⟩
  · rw [advance_gr, hgr, gr_setGr, if_pos rfl]
  · rw [advance_gr, hgr, gr_setGr, if_neg hx]
  · rw [advance_sw, hsw]
  · exact advance_resv _ 1
  · have h := congrArg (fun c : Core => { c with g := k.g, sw := k.sw, resv := k.resv }) (advance_frame (k.scDone rd w) 1 k.pc k.lc k.cycle)
    exact h.trans hframe

/-- In shared SRAM SC meets no cause of its own. -/
theorem sramOnly_none {x : Acc1} {s : State} (h : s.region x.a.toNat = .sram) : sramOnly x none s = none := by
  simp only [sramOnly, h, Bool.false_eq_true, if_false]

end Sys2Proof.Machine

namespace Sys2Proof.Proofs

open Sys2Proof.Machine

/-- Settles O6: each form is a store at its address with what it changes in its own core; SC without the reservation stores nothing. -/
theorem kzStores : Obligations.KzStores := by
  unfold Obligations.KzStores
  intro s c p rd ra imm hr
  refine ⟨fun hw => kzStored_plain hr rfl hw, fun hw => kzStored_plain hr rfl hw, fun hw => kzStored_plain hr rfl hw, ?_, ?_⟩
  · intro hw hsram hresv
    refine kzStored_of_storeAt (x := .ofEa c p ra imm 4 s) (done := (·.scDone rd 0)) hr rfl rfl ?_ hw (scDone_onward rd 0) (scDone_post rd 0 _)
    have hcause : storeCause (.ofEa c p ra imm 4 s) s = none := hw.cause
    have hbus : sramOnly (.ofEa c p ra imm 4 s) none s = none := sramOnly_none hsram
    have hcovers : (vget s.kz.phys p).resv = some (rowOf (Acc1.ofEa c p ra imm 4 s).a.toNat) := hresv
    simp only [hcause, hbus, hcovers, if_true]
    rfl
  · intro hw hsram hresv
    have hcause : storeCause (.ofEa c p ra imm 4 s) s = none := hw.cause
    have hbus : sramOnly (.ofEa c p ra imm 4 s) none s = none := sramOnly_none hsram
    have hcovers : (vget s.kz.phys p).resv ≠ some (rowOf (Acc1.ofEa c p ra imm 4 s).a.toNat) := hresv
    obtain ⟨hwrote, hsw, hnone, hkeeps⟩ := scDone_post rd 1 (vget s.kz.phys p)
    refine ⟨_, ?_, hwrote, hsw, hnone, kzOnward_advance 1 (scDone_onward rd 1 _), hkeeps⟩
    have hrun : kzSc c rd ra imm s = kmod p (fun k => (k.tick 1).advance) (kmod p (·.scDone rd 1) s) := by
      unfold kzSc
      rw [kzRun_ready hr]
      simp only [hcause, hbus, hcovers, if_false]
      rfl
    change Host.Outcome.next (kzSc c rd ra imm s) = _
    rw [hrun, kmod_kmod, kmod_const]

end Sys2Proof.Proofs
end

section
/-! SUPPORT. A WRITE that a host link asks and main firmware executes at once: its checks, and the response behind whatever else the link has to
send (R27, R31, R32). -/

namespace Sys2Proof.Machine

/-! ### From the request to the entry -/

theorem asks_answers {s : State} {src : Src} (h : Asks s src) : answers src s = true := by
  obtain ⟨-, hserving, -, l, hlink, hup⟩ := h
  simp only [answers, hlink, hup, hserving, Bool.and_self]

theorem asks_notSubset {s : State} {src : Src} (h : Asks s src) : subsetOnly src s = false := by
  obtain ⟨-, hserving, huart, -⟩ := h
  simp [subsetOnly, hserving, huart]

/-- A host link has the access class of the host. -/
theorem asks_classAcc {s : State} {src : Src} (h : Asks s src) (r : DictRow) : classAcc src r = r.host := by
  obtain ⟨-, -, -, l, hlink, -⟩ := h
  cases src <;> simp [classAcc, linkNum] at hlink ⊢

/-- A WRITE of an entry of the device itself reaches the entry. -/
theorem serve_write {s : State} {src : Src} (h : Asks s src) {i : BitVec 16} (hi : i.toNat < 0x5000) (e : Ext) (tid x : Byte) (v : List Byte) :
    serve e { src := src, pdu := writePdu tid i x v } s =
      ({ st := (writeEntry src e i.toNat x.toNat v s).1 }, (writeEntry src e i.toNat x.toNat v s).2) := by
  have hwindow : ¬(0x5000 ≤ i.toNat ∧ i.toNat < 0x6000) := by omega
  have hproxy : ¬(0x6000 ≤ i.toNat ∧ i.toNat < 0x7000) := by omega
  simp [serve, writePdu, asks_notSubset h, writeTarget, hwindow, hproxy]

/-! ### From the entry to the response -/

/-- The response leaves on the link that asked, whatever the request has done. -/
theorem respondTo_asks {s : State} {src : Src} (h : Asks s src) (p q : Pdu) (t : State) :
    ∃ l a, linkNum src = some l ∧ a.pdu = p ∧ respondTo s { src := src, pdu := q } p t = t.push l a := by
  obtain ⟨-, -, -, l, hlink, hup⟩ := h
  refine ⟨l, sentTo { src := src, pdu := q } p s, hlink, ?_, ?_⟩
  · cases src <;> rfl
  · simp only [respondTo, hlink, hup, if_true]

/-- A WRITE answered: the entry's status goes to the link that asked; for entries whose write starts nothing behind the response. -/
theorem hostWrite_push {s : State} {src : Src} (h : Asks s src) {i : BitVec 16} {x : Byte} {v : List Byte} (hi : i.toNat < 0x5000)
    (hreset : resetsDevice i.toNat x.toNat v s = false) (hafter : ∀ t, afterResponse src i.toNat x.toNat v t = t) (e : Ext) (tid : Byte) :
    ∃ l a, linkNum src = some l ∧ a.pdu = writeResp tid i x (writeEntry src e i.toNat x.toNat v s).1 ∧
      hostWrite e src tid i x v s = (writeEntry src e i.toNat x.toNat v s).2.push l a := by
  obtain ⟨l, a, hlink, hpdu, hpush⟩ := respondTo_asks h (writeResp tid i x (writeEntry src e i.toNat x.toNat v s).1) (writePdu tid i x v)
    (writeEntry src e i.toNat x.toNat v s).2
  refine ⟨l, a, hlink, hpdu, ?_⟩
  have hreset' : resetsDevice (writePdu tid i x v).index.toNat (writePdu tid i x v).sub.toNat (writePdu tid i x v).data s = false := hreset
  have hafter' : ∀ t, afterResponse src (writePdu tid i x v).index.toNat (writePdu tid i x v).sub.toNat (writePdu tid i x v).data t = t := hafter
  rw [hostWrite_now h.1, asks_answers h, if_pos rfl, ← hpush]
  simp only [execute, serve_write h hi, hreset', hafter', Bool.and_false, Bool.false_eq_true, if_false, ite_self]
  rfl

theorem spoke_push {s t : State} {src : Src} {l : Fin 5} {a : Sent} (hlink : linkNum src = some l) (ht : t.links.outbox = s.links.outbox) :
    Spoke s (t.push l a) src a.pdu :=
  ⟨l, a, hlink, rfl, by rw [← ht]; rfl⟩

/-- A response behind what a request has already told the same link. -/
theorem replied_push {s t : State} {src : Src} {l : Fin 5} {a : Sent} (hlink : linkNum src = some l)
    (ht : vget s.links.outbox l <+: vget t.links.outbox l) : Replied s (t.push l a) src a.pdu := by
  obtain ⟨y, hy⟩ := ht
  refine ⟨l, y, [], a, hlink, ?_, rfl⟩
  simp [State.push, hy]

end Sys2Proof.Machine
end

section
/-! SUPPORT. What starting and stopping a role leaves alone: power, timers, and what the host links already had to send. -/

namespace Sys2Proof.Machine

/-! ### A change aside from the links' requests -/

/-- Power and timers stand as they were, and what the links had to send stands before anything new. -/
structure Kept (s t : State) : Prop where
  power : t.pcc = s.pcc
  timers : t.tmr = s.tmr
  told : ∀ l, vget s.links.outbox l <+: vget t.links.outbox l

theorem Kept.trans {s t u : State} (h : Kept s t) (h' : Kept t u) : Kept s u :=
  ⟨h'.power.trans h.power, h'.timers.trans h.timers, fun l => (h.told l).trans (h'.told l)⟩

/-- The same, and Causeway's inbox and the proxy's requests stand as they were. -/
structure Aside (s t : State) : Prop extends Kept s t where
  inbox : t.cwy.inbox = s.cwy.inbox
  proxies : t.links.proxies = s.links.proxies

theorem Aside.refl (s : State) : Aside s s := ⟨⟨rfl, rfl, fun _ => List.prefix_rfl⟩, rfl, rfl⟩

theorem Aside.trans {s t u : State} (h : Aside s t) (h' : Aside t u) : Aside s u :=
  ⟨h.toKept.trans h'.toKept, h'.inbox.trans h.inbox, h'.proxies.trans h.proxies⟩

/-- Nothing of power, timers, Causeway or the links has changed at all. -/
theorem Aside.of_eq {s t : State} (hp : t.pcc = s.pcc) (ht : t.tmr = s.tmr) (hc : t.cwy = s.cwy) (hl : t.links = s.links) : Aside s t :=
  ⟨⟨hp, ht, fun l => by rw [hl]⟩, by rw [hc], by rw [hl]⟩

theorem aside_foldl {α : Type} {f : State → α → State} (step : ∀ s x, Aside s (f s x)) (l : List α) (s : State) : Aside s (l.foldl f s) := by
  induction l generalizing s with
  | nil => exact .refl s
  | cons x l ih => exact (step s x).trans (ih (f s x))

theorem aside_foldS {α : Type} {f : α → State → State} (step : ∀ x s, Aside s (f x s)) (l : List α) (s : State) : Aside s (foldS f l s) :=
  foldS_keeps Aside.refl Aside.trans step l s

theorem aside_ite {c : Prop} [Decidable c] {s t u : State} (ht : Aside s t) (hu : Aside s u) : Aside s (if c then t else u) := by
  split
  · exact ht
  · exact hu

/-! ### What the links are told -/

theorem aside_push (s : State) (l : Fin 5) (p : Sent) : Aside s (s.push l p) := by
  refine ⟨⟨rfl, rfl, fun k => ?_⟩, rfl, rfl⟩
  by_cases h : l = k
  · subst h
    simp [State.push]
  · simp [State.push, vget_vmod, h]

theorem aside_notifyAt (s : State) (x y : Nat) (node : BitVec 18) (st : Status) (d : List Byte) : Aside s (s.notifyAt x y node st d) := by
  unfold State.notifyAt
  dsimp only
  refine aside_ite (.refl s) ?_
  have told : ∀ (b : Bool) (l : Fin 5) (p : Sent) (t : State), Aside s t → Aside s (if b = true then t.push l p else t) :=
    fun _ l p t h => aside_ite (h.trans (aside_push t l p)) h
  exact told _ _ _ _ (told _ _ _ _ (told _ _ _ _ (told _ _ _ _ (.refl s))))

theorem aside_notify (s : State) (x y : Nat) (st : Status) (d : List Byte) : Aside s (s.notify x y st d) := aside_notifyAt s x y 0 st d

theorem notify_lnk (s : State) (x y : Nat) (st : Status) (d : List Byte) : (s.notify x y st d).lnk = s.lnk := by
  obtain ⟨o, h⟩ := notifyAt_frame s x y 0 st d
  have hl := congrArg State.lnk h
  exact hl

theorem aside_fire (p : Nat) (s : State) : Aside s (fire p s) := by
  obtain ⟨e, h⟩ := fire_frame p s
  rw [h]
  exact .of_eq rfl rfl rfl rfl

/-! ### The timebase, the registers and the synchronisation of a role (R3, R64, R67, R236) -/

/-- Gearing entered changes the timebase and the fabric alone. -/
theorem gearEnter_frame (g : GearState) (s : State) : ∃ p e, gearEnter g s = { s with ptb := p, evf := e } := by
  unfold gearEnter
  split
  · exact ⟨s.ptb, s.evf, rfl⟩
  · dsimp only
    split
    · exact ⟨_, s.evf, rfl⟩
    · rename_i n _
      obtain ⟨e, h⟩ := fire_frame n (ptbMod (fun p => { p with gear := g }) s)
      exact ⟨_, e, h⟩

theorem pd1SourceChanged_frame (s : State) : ∃ p e, pd1SourceChanged s = { s with ptb := p, evf := e } := by
  unfold pd1SourceChanged
  split <;> exact (gearEnter_frame _ _).imp fun _ h => h

theorem rootRoleStart_frame (s : State) : ∃ p b, rootRoleStart s = { s with ptb := p, bkp := b } := by
  unfold rootRoleStart bkpCycleStore
  dsimp only
  split <;> exact ⟨_, _, rfl⟩

/-- Registers are all that has changed. -/
def OnlyRegs (s t : State) : Prop := { t with regs := s.regs } = s

theorem OnlyRegs.eq {s t : State} (h : OnlyRegs s t) : { t with regs := s.regs } = s := h

theorem OnlyRegs.refl (s : State) : OnlyRegs s s := rfl

theorem OnlyRegs.setRegN {s t : State} (h : OnlyRegs s t) (a v : Nat) : OnlyRegs s (t.setRegN a v) := h

theorem OnlyRegs.setRegF {s t : State} (h : OnlyRegs s t) (a hi lo v : Nat) : OnlyRegs s (t.setRegF a hi lo v) := h

theorem OnlyRegs.ite {c : Prop} [Decidable c] {s t u : State} (ht : OnlyRegs s t) (hu : OnlyRegs s u) : OnlyRegs s (if c then t else u) := by
  split
  · exact ht
  · exact hu

theorem onlyRegs_layoutSet (s : State) : OnlyRegs s (layoutSet s) := by
  unfold layoutSet
  extract_lets small s₁ s₂ s₃ n s₄
  have h₁ : OnlyRegs s s₁ := ((OnlyRegs.refl s).setRegN _ _).setRegN _ _
  have h₂ : OnlyRegs s s₂ := (h₁.setRegN _ _).setRegN _ _
  have h₃ : OnlyRegs s s₃ := (h₂.setRegN _ _).setRegN _ _
  have h₄ : OnlyRegs s s₄ := (h₃.setRegN _ _).setRegN _ _
  exact (h₄.setRegN _ _).setRegN _ _

theorem onlyRegs_roleEnable (s : State) : OnlyRegs s (roleEnable s) := by
  unfold roleEnable
  extract_lets r s₁ s₂ s₃ s₄
  have h₁ : OnlyRegs s s₁ := ((OnlyRegs.refl s).setRegF _ _ _ _).ite (.refl s)
  have h₂ : OnlyRegs s s₂ := ((h₁.setRegF _ _ _ _).setRegF _ _ _ _).ite h₁
  have h₃ : OnlyRegs s s₃ := (h₂.setRegF _ _ _ _).ite h₂
  have h₄ : OnlyRegs s s₄ := ((h₃.setRegF _ _ _ _).setRegF _ _ _ _).ite h₃
  exact (h₄.setRegF _ _ _ _).ite h₄

theorem OnlyRegs.aside {s t : State} (h : OnlyRegs s t) : Aside s t := by
  have hp := congrArg State.pcc h.eq
  have ht := congrArg State.tmr h.eq
  have hc := congrArg State.cwy h.eq
  have hl := congrArg State.links h.eq
  exact .of_eq hp ht hc hl

theorem OnlyRegs.dict {s t : State} (h : OnlyRegs s t) : t.dict = s.dict := by
  have hd := congrArg State.dict h.eq
  exact hd

theorem aside_syncEnter (x : Sync) (s : State) : Aside s (syncEnter x s) := by
  unfold syncEnter
  extract_lets was s₁ s₂ st
  have h₁ : Aside s s₁ := .of_eq rfl rfl rfl rfl
  have h₂ : Aside s s₂ := aside_ite (h₁.trans (.of_eq rfl rfl rfl rfl)) h₁
  have hset : Aside s (s₂.dSet 0x2300 0x0D [st]) := h₂.trans (.of_eq rfl rfl rfl rfl)
  exact aside_ite h₂ (hset.trans (aside_notify ..))

theorem syncEnter_sync (x : Sync) (s : State) : (syncEnter x s).lnk.sync = x := by
  unfold syncEnter
  extract_lets was s₁ s₂ st
  have h₂ : s₂.lnk.sync = x := by
    dsimp only [s₂]
    split <;> rfl
  split
  · exact h₂
  · rw [notify_lnk]
    exact h₂

theorem aside_fnNotices (before : Vector Byte 20) (s : State) : Aside s (fnNotices before s) :=
  aside_foldS (fun _ s => aside_ite (.refl s) (aside_notify ..)) _ s

theorem fnNotices_lnk (before : Vector Byte 20) (s : State) : (fnNotices before s).lnk = s.lnk := by
  refine foldS_keeps (R := fun s t => t.lnk = s.lnk) (fun _ => rfl) (fun {s t u} (h : t.lnk = s.lnk) (h' : u.lnk = t.lnk) => h'.trans h) (fun n s => ?_) _ s
  split
  · rfl
  · exact notify_lnk ..

/-! ### The role entry taken -/

theorem role_dPut (s : State) (r : Nat) : (s.dPut 0x1200 1 r).role = r % 256 := dU_dPut_self s 0x1200 1 r

theorem role_congr {s t : State} (h : t.dict = s.dict) : t.role = s.role := by
  unfold State.role State.dU State.dGet
  rw [h]

theorem aside_syncBegin (s : State) : Aside s (syncBegin s) := aside_syncEnter _ s

theorem syncBegin_sync (s : State) : (syncBegin s).lnk.sync = if s.role = 1 ∨ s.role = 2 then .lost else .ref := syncEnter_sync _ s

theorem pd1SourceChanged_dict (s : State) : (pd1SourceChanged s).dict = s.dict := by
  obtain ⟨p, e, h⟩ := pd1SourceChanged_frame s
  rw [h]

theorem aside_pd1SourceChanged (s : State) : Aside s (pd1SourceChanged s) := by
  obtain ⟨p, e, h⟩ := pd1SourceChanged_frame s
  rw [h]
  exact .of_eq rfl rfl rfl rfl

theorem aside_dPut (s : State) (x y v : Nat) : Aside s (s.dPut x y v) := .of_eq rfl rfl rfl rfl

theorem aside_roleTake (r : Nat) (s : State) : Aside s (roleTake r s) := by
  unfold roleTake
  extract_lets before s₁ s₂ s₃
  have h₁ : Aside s s₁ := (aside_dPut s 0x1200 1 r).trans (aside_pd1SourceChanged _)
  clear_value s₁
  have h₂ : Aside s s₂ := ((h₁.trans (onlyRegs_layoutSet s₁).aside).trans (onlyRegs_roleEnable (layoutSet s₁)).aside).trans (aside_syncBegin _)
  clear_value s₂
  have h₃ : Aside s s₃ := aside_ite (h₂.trans (.of_eq rfl rfl rfl rfl)) h₂
  exact h₃.trans (aside_fnNotices before s₃)

/-- Between the write of the role entry and the start of its synchronisation no entry changes. -/
theorem role_roleEnable {r : Nat} (hr : r < 256) (s : State) : (roleEnable (layoutSet (pd1SourceChanged (s.dPut 0x1200 1 r)))).role = r := by
  have hdict : (roleEnable (layoutSet (pd1SourceChanged (s.dPut 0x1200 1 r)))).dict = (s.dPut 0x1200 1 r).dict :=
    ((onlyRegs_roleEnable _).dict.trans (onlyRegs_layoutSet _).dict).trans (pd1SourceChanged_dict _)
  rw [role_congr hdict, role_dPut, Nat.mod_eq_of_lt hr]

/-- A leaf or a relay begins LOST, another role as the reference (R236). -/
theorem roleTake_sync {r : Nat} (hr : r < 256) (s : State) : (roleTake r s).lnk.sync = if r = 1 ∨ r = 2 then .lost else .ref := by
  unfold roleTake
  extract_lets before s₁ s₂ s₃
  have h₂ : s₂.lnk.sync = if r = 1 ∨ r = 2 then .lost else .ref := by
    rw [syncBegin_sync, role_roleEnable hr]
  clear_value s₂
  rw [fnNotices_lnk]
  dsimp only [s₃]
  split <;> exact h₂

/-! ### A restored key change (R538) -/

/-- Of the machine only the key store, its entries and its registers have changed. -/
def KeyStoreOnly (s t : State) : Prop := { t with sec := s.sec, dict := s.dict, regs := s.regs } = s

theorem KeyStoreOnly.eq {s t : State} (h : KeyStoreOnly s t) : { t with sec := s.sec, dict := s.dict, regs := s.regs } = s := h

theorem KeyStoreOnly.refl (s : State) : KeyStoreOnly s s := rfl

theorem KeyStoreOnly.trans {s t u : State} (h : KeyStoreOnly s t) (h' : KeyStoreOnly t u) : KeyStoreOnly s u := by
  have hu : { u with sec := s.sec, dict := s.dict, regs := s.regs } = ({ t with sec := s.sec, dict := s.dict, regs := s.regs } : State) :=
    congrArg (fun x : State => { x with sec := s.sec, dict := s.dict, regs := s.regs }) h'.eq
  exact hu.trans h

theorem KeyStoreOnly.setRegN {s t : State} (h : KeyStoreOnly s t) (a v : Nat) : KeyStoreOnly s (t.setRegN a v) := h

theorem KeyStoreOnly.dPut {s t : State} (h : KeyStoreOnly s t) (x y v : Nat) : KeyStoreOnly s (t.dPut x y v) := h

theorem keyStoreOnly_secMod (f : Sec → Sec) (s : State) : KeyStoreOnly s (secMod f s) := rfl

theorem keyStoreOnly_foldS {α : Type} {f : α → State → State} (step : ∀ x s, KeyStoreOnly s (f x s)) (l : List α) (s : State) : KeyStoreOnly s (foldS f l s) :=
  foldS_keeps KeyStoreOnly.refl KeyStoreOnly.trans step l s

theorem keyStoreOnly_syncKeys (s : State) : KeyStoreOnly s (syncKeys s) := by
  unfold syncKeys
  extract_lets e s₁ c s₂ s₃
  have h₁ : KeyStoreOnly s s₁ := keyStoreOnly_foldS (fun _ s => (KeyStoreOnly.refl s).setRegN _ _) _ _
  clear_value s₁
  exact (((h₁.setRegN _ _).setRegN _ _).dPut _ _ _).dPut _ _ _

theorem keyStoreOnly_storeArea (s : State) : KeyStoreOnly s (storeArea s) := by
  unfold storeArea
  exact (keyStoreOnly_secMod _ s).trans (keyStoreOnly_syncKeys _)

theorem keyStoreOnly_eraseThird (w : Nat) (s : State) : KeyStoreOnly s (eraseThird w s) := keyStoreOnly_foldS (fun _ s => keyStoreOnly_secMod _ s) _ s

theorem keyStoreOnly_erasePrev (s : State) : KeyStoreOnly s (erasePrev s) :=
  ((keyStoreOnly_eraseThird 1 s).trans (keyStoreOnly_secMod _ _)).trans (keyStoreOnly_storeArea _)

theorem keyStoreOnly_rotate (s : State) : KeyStoreOnly s (rotate s) := by
  unfold rotate
  split
  · exact .refl s
  · extract_lets at_ s₁ s₂ was s₃ s₄
    have h₁ : KeyStoreOnly s s₁ := by
      dsimp only [s₁]
      split
      · exact .refl s
      · exact keyStoreOnly_secMod _ s
    clear_value s₁
    have h₃ : KeyStoreOnly s s₃ := (h₁.trans (keyStoreOnly_eraseThird 1 s₁)).trans (keyStoreOnly_secMod _ _)
    clear_value s₃
    have h₄ : KeyStoreOnly s s₄ := (h₃.dPut 0x3000 0x0A 0).trans (keyStoreOnly_storeArea _)
    clear_value s₄
    split
    · split
      · exact h₄.trans (keyStoreOnly_erasePrev s₄)
      · exact h₄
    · exact h₄

theorem keyStoreOnly_keyRotation (s : State) : KeyStoreOnly s (keyRotation s) := by
  unfold keyRotation
  split
  · split
    · exact keyStoreOnly_rotate s
    · exact .refl s
  · exact .refl s

theorem keyStoreOnly_previousEpochErase (s : State) : KeyStoreOnly s (previousEpochErase s) := by
  unfold previousEpochErase
  split
  · split
    · exact keyStoreOnly_erasePrev s
    · exact .refl s
  · exact .refl s

theorem keyStoreOnly_keyRearm (s : State) : KeyStoreOnly s (keyRearm s) := by
  unfold keyRearm
  split
  · exact ((keyStoreOnly_secMod _ s).trans (keyStoreOnly_keyRotation _)).trans (keyStoreOnly_previousEpochErase _)
  · exact .refl s

theorem KeyStoreOnly.aside {s t : State} (h : KeyStoreOnly s t) : Aside s t := by
  have hp := congrArg State.pcc h.eq
  have ht := congrArg State.tmr h.eq
  have hc := congrArg State.cwy h.eq
  have hl := congrArg State.links h.eq
  exact .of_eq hp ht hc hl

theorem KeyStoreOnly.lnk {s t : State} (h : KeyStoreOnly s t) : t.lnk = s.lnk := by
  have hl := congrArg State.lnk h.eq
  exact hl

/-! ### A role starts -/

theorem aside_roleStart (r : Nat) (s : State) : Aside s (roleStart r s) := by
  unfold roleStart
  extract_lets s₁
  have hroot : Aside s (if r = 3 then rootRoleStart s else s) := by
    obtain ⟨p, b, h⟩ := rootRoleStart_frame s
    rw [h]
    exact aside_ite (.of_eq rfl rfl rfl rfl) (.refl s)
  have h₁ : Aside s s₁ := hroot.trans (aside_roleTake r _)
  clear_value s₁
  exact aside_ite (h₁.trans (keyStoreOnly_keyRearm s₁).aside) h₁

theorem roleStart_sync {r : Nat} (hr : r < 256) (s : State) : (roleStart r s).lnk.sync = if r = 1 ∨ r = 2 then .lost else .ref := by
  unfold roleStart
  extract_lets s₁
  have h₁ : s₁.lnk.sync = if r = 1 ∨ r = 2 then .lost else .ref := by
    dsimp only [s₁]
    exact roleTake_sync hr _
  clear_value s₁
  split
  · rw [(keyStoreOnly_keyRearm s₁).lnk]
    exact h₁
  · exact h₁

end Sys2Proof.Machine
end

section
/-! SUPPORT. What role 0 stops (R3): the link controller's group, reception, the burst, queued frames, and the proxy's requests. -/

namespace Sys2Proof.Machine

/-! ### Blocks that only their own operations change -/

theorem aside_rxMod (f : Rx → Rx) (s : State) : Aside s (rxMod f s) := .of_eq rfl rfl rfl rfl

theorem aside_rfMod (f : Rf → Rf) (s : State) : Aside s (rfMod f s) := .of_eq rfl rfl rfl rfl

theorem aside_lnkMod (f : Lnk → Lnk) (s : State) : Aside s (lnkMod f s) := .of_eq rfl rfl rfl rfl

theorem aside_txmMod (f : Txm → Txm) (s : State) : Aside s (txmMod f s) := .of_eq rfl rfl rfl rfl

theorem aside_sluMod (f : Slu → Slu) (s : State) : Aside s (sluMod f s) := .of_eq rfl rfl rfl rfl

theorem aside_bktMod (f : Buckets → Buckets) (s : State) : Aside s (bktMod f s) := .of_eq rfl rfl rfl rfl

theorem aside_setRegN (s : State) (a v : Nat) : Aside s (s.setRegN a v) := .of_eq rfl rfl rfl rfl

theorem aside_setRegF (s : State) (a hi lo v : Nat) : Aside s (s.setRegF a hi lo v) := .of_eq rfl rfl rfl rfl

theorem aside_flag (s : State) (a i : Nat) : Aside s (s.flag a i) := .of_eq rfl rfl rfl rfl

theorem aside_bump (s : State) (a : Nat) : Aside s (s.bump a) := .of_eq rfl rfl rfl rfl

/-! ### Reception and the burst (R128, R209) -/

theorem aside_laneFree (id : Nat) (s : State) : Aside s (laneFree id s) := aside_rxMod _ s

theorem aside_frameGone (id : Nat) (s : State) : Aside s (frameGone id s) := (aside_rxMod _ s).trans (aside_laneFree id _)

theorem aside_shadowsLost (id : Nat) (s : State) : Aside s (shadowsLost id s) := by
  refine aside_foldl ?_ _ s
  intro s f
  exact (aside_frameGone f.id s).trans (aside_bump _ _)

theorem aside_rxDiscard (s : State) : Aside s (rxDiscard s) := by
  refine aside_foldl ?_ _ s
  intro s f
  exact (aside_frameGone f.id s).trans (aside_shadowsLost f.id _)

theorem aside_clearValid (s : State) : Aside s (clearValid s) := by
  refine aside_foldS ?_ _ s
  intro c s
  exact aside_setRegF s _ _ _ _

theorem aside_burstOver (s : State) : Aside s (burstOver s) :=
  ((aside_txmMod _ s).trans (aside_setRegF _ _ _ _ _)).trans (aside_clearValid _)

theorem aside_burstCut (st : Status) (s : State) : Aside s (burstCut st s) := by
  unfold burstCut
  split
  · exact aside_burstOver s
  · extract_lets st' s₁
    have h₁ : Aside s s₁ := by
      refine aside_foldl ?_ _ s
      intro s k
      exact aside_setRegF s _ _ _ _
    clear_value s₁
    exact ((h₁.trans (aside_txmMod _ s₁)).trans (aside_flag _ _ _)).trans (aside_burstOver _)

theorem aside_rfAbort (ret : Fin 4) (s : State) : Aside s (rfAbort ret s) := by
  unfold rfAbort
  extract_lets s₁ s₂
  have h₁ : Aside s s₁ := aside_ite (.refl s) (aside_burstCut _ s)
  clear_value s₁
  have h₂ : Aside s s₂ := aside_ite (h₁.trans (aside_rxDiscard s₁)) h₁
  clear_value s₂
  exact (h₂.trans (aside_rfMod _ s₂)).trans (aside_rfMod _ _)

/-! ### Memory and the queues (R253, R276) -/

theorem OnlyReservations.aside {by_ : Nat} {s t : State} (h : OnlyReservations by_ s t) : Aside s t := by
  have hp := congrArg State.pcc h.frame
  have ht := congrArg State.tmr h.frame
  have hc := congrArg State.cwy h.frame
  have hl := congrArg State.links h.frame
  exact .of_eq hp ht hc hl

theorem aside_mendOnWrite (a n : Nat) (s : State) : Aside s (mendOnWrite a n s) := by
  obtain ⟨b, p, h⟩ := mendOnWrite_frame a n s
  rw [h]
  exact .of_eq rfl rfl rfl rfl

theorem aside_wrBytes (s : State) (a : Nat) (bs : List Byte) : Aside s (s.wrBytes a bs) := .of_eq rfl rfl rfl rfl

theorem aside_dmaWrite (s : State) (a : Nat) (bs : List Byte) : Aside s (s.dmaWrite a bs) :=
  ((aside_wrBytes s a bs).trans (aside_mendOnWrite ..)).trans (breakReservations_frame ..).aside

theorem aside_recPut (k off n v : Nat) (s : State) : Aside s (recPut k off n v s) := aside_dmaWrite s _ _

theorem aside_syncDownlinks (n : Nat) (s : State) : Aside s (syncDownlinks n s) := by
  unfold syncDownlinks
  split
  · exact .refl s
  · extract_lets l o s₁ s₂
    have h₁ : Aside s s₁ := aside_recPut _ _ _ _ s
    clear_value s₁
    have h₂ : Aside s s₂ := h₁.trans (aside_recPut _ _ _ _ s₁)
    clear_value s₂
    exact h₂.trans (aside_recPut _ _ _ _ s₂)

theorem aside_unqueue (id : Nat) (s : State) : Aside s (unqueue id s) := by
  unfold unqueue
  split
  · exact .refl s
  · exact (aside_sluMod _ s).trans (aside_syncDownlinks _ _)

theorem aside_completion (f : QFrame) (st : Status) (q : Fin 20) (renewed : Bool) (s : State) : Aside s (completion f st q renewed s) := by
  unfold completion
  split
  · exact .refl s
  · extract_lets wr next s₁
    split
    · exact aside_flag s _ _
    · have h₁ : Aside s s₁ := aside_dmaWrite s _ _
      clear_value s₁
      exact ((h₁.trans (aside_setRegN s₁ _ _)).trans (aside_flag _ _ _)).trans (aside_fire _ _)

theorem aside_frameOut (id : Nat) (st : Status) (s : State) : Aside s (frameOut id st s) := by
  unfold frameOut
  split
  · exact .refl s
  · exact (aside_unqueue id s).trans (aside_completion ..)

theorem aside_framesDropped (s : State) : Aside s (framesDropped s) := by
  refine aside_foldl ?_ _ s
  intro s f
  exact aside_frameOut f.id _ s

/-! ### The link controller -/

theorem aside_lnkReinit (s : State) : Aside s (lnkReinit s) := by
  unfold lnkReinit
  extract_lets s₁
  have h₁ : Aside s s₁ := by
    refine aside_foldl (fun s c => aside_ite (.refl s) ?_) _ s
    refine Aside.trans ?_ (aside_bktMod _ _)
    split
    · exact aside_bktMod _ s
    · exact .refl s
  clear_value s₁
  exact (h₁.trans (aside_rfMod _ s₁)).trans (aside_lnkMod _ _)

/-- Every radio function stops with Causeway's inbox empty (R3). -/
theorem radioStop_inbox (s : State) : (radioStop s).cwy.inbox = [] := rfl

theorem kept_radioStop (s : State) : Kept s (radioStop s) := by
  unfold radioStop
  extract_lets s₁ s₂ s₃ s₄
  have h₂ : Aside s s₂ := ((aside_lnkReinit s).trans (aside_rxDiscard s₁)).trans (aside_rfAbort 0 _)
  clear_value s₂
  have h₄ : Aside s s₄ := (h₂.trans (aside_framesDropped s₂)).trans (aside_rfMod _ s₃)
  clear_value s₄
  exact h₄.toKept.trans ⟨rfl, rfl, fun _ => List.prefix_rfl⟩

/-! ### The proxy (R45 to R47) -/

/-- A change of the links that touches neither what they send nor the proxy's requests. -/
theorem aside_linksMod {f : Links → Links} {s : State} (ho : (f s.links).outbox = s.links.outbox) (hp : (f s.links).proxies = s.links.proxies) :
    Aside s (linksMod f s) :=
  ⟨⟨rfl, rfl, fun l => by simp [linksMod, ho]⟩, rfl, hp⟩

theorem aside_produce (s : State) (x y : Nat) (v : List Byte) : Aside s (s.produce x y v) := .of_eq rfl rfl rfl rfl

theorem aside_airOutcome (r : ProxyReq) (p : Pdu) (s : State) : Aside s (airOutcome r p s) := by
  unfold airOutcome
  extract_lets s₁
  have h₁ : Aside s s₁ := aside_linksMod rfl rfl
  clear_value s₁
  exact (h₁.trans (aside_produce s₁ _ _ _)).trans (aside_notify ..)

theorem aside_proxyStore (v : ProxyVal) (s : State) : Aside s (proxyStore v s) := aside_linksMod rfl rfl

theorem aside_proxyFail (r : ProxyReq) (st : Status) (s : State) : Aside s (proxyFail r st s) := by
  unfold proxyFail
  split
  · exact aside_airOutcome ..
  · extract_lets v s₁
    have h₁ : Aside s s₁ := aside_ite (.refl s) (aside_proxyStore _ s)
    clear_value s₁
    exact h₁.trans (aside_notifyAt ..)

/-- No request is left, and each has been told. -/
theorem aside_proxiesReset (s : State) : Aside (linksMod (fun l => { l with proxies := [] }) s) (proxiesReset s) := by
  refine aside_foldl ?_ _ _
  intro s r
  exact aside_proxyFail r _ s

theorem proxiesReset_proxies (s : State) : (proxiesReset s).links.proxies = [] := (aside_proxiesReset s).proxies

theorem proxiesReset_inbox (s : State) : (proxiesReset s).cwy.inbox = s.cwy.inbox := (aside_proxiesReset s).inbox

theorem kept_proxiesReset (s : State) : Kept s (proxiesReset s) := by
  have h : Kept s (linksMod (fun l => { l with proxies := [] }) s) := ⟨rfl, rfl, fun _ => List.prefix_rfl⟩
  exact h.trans (aside_proxiesReset s).toKept

/-! ### Role 0 -/

/-- What role 0 leaves: power and timers; the links told of what ended; no request of the proxy and nothing that came over the air. -/
structure RoleStopped (s t : State) : Prop where
  kept : Kept s t
  proxies : t.links.proxies = []
  inbox : t.cwy.inbox = []
  sync : t.lnk.sync = .ref
  standby : s.isOn dRADIO = true → t.rf.moving = some 2

theorem roleStop_stopped (s : State) : RoleStopped s (roleStop s) := by
  unfold roleStop
  extract_lets s₁
  have htake : Aside (proxiesReset (radioStop s)) s₁ := aside_roleTake 0 _
  have hkept : Kept s s₁ := ((kept_radioStop s).trans (kept_proxiesReset _)).trans htake.toKept
  have hproxies : s₁.links.proxies = [] := htake.proxies.trans (proxiesReset_proxies _)
  have hinbox : s₁.cwy.inbox = [] := htake.inbox.trans ((proxiesReset_inbox _).trans (radioStop_inbox s))
  have hsync : s₁.lnk.sync = .ref := by
    dsimp only [s₁]
    rw [roleTake_sync (by omega)]
    rfl
  clear_value s₁
  split
  · exact ⟨hkept.trans (aside_rfMod _ s₁).toKept, hproxies, hinbox, hsync, fun _ => rfl⟩
  · rename_i hoff
    refine ⟨hkept, hproxies, hinbox, hsync, fun hon => absurd ?_ hoff⟩
    unfold State.isOn at hon ⊢
    rw [hkept.power]
    exact hon

end Sys2Proof.Machine
end

section
/-! SUPPORT. A write of the role entry: what its row lets through, what the role entry does with a number, and the response (R2, R3, R20). -/

namespace Sys2Proof.Machine

/-! ### The role entry and its row -/

/-- The row of the role entry. -/
def roleRow : DictRow := { lo := 1, hi := 1, ty := .u8, host := .rw, remote := .ro, fw := .ro, dflt := 0, range := .between 0 5 }

theorem dictRow_role : dictRow 0x1200 1 = some roleRow := rfl

theorem leNat_byte (v : Byte) : leNat [v] = v.toNat := by simp [leNat]

theorem valueCheck_role (v : Byte) : valueCheck roleRow [v] = if v.toNat ≤ 5 then stOk else stRange := by
  have hu8 : valueCheck roleRow [v] = if (encodingOk .u8 [v] && scalarOk .u8 (.between 0 5) [v]) = true then stOk else stRange := rfl
  have hscalar : scalarOk .u8 (.between 0 5) [v] = decide (v.toNat ≤ 5) := by
    simp [scalarOk, Ty.isSigned, leNat_byte]
  rw [hu8, hscalar]
  simp [encodingOk]

/-- A host link finds the role entry and may write it. -/
theorem findEntry_role {s : State} {src : Src} (h : Asks s src) :
    findEntry src 0x1200 1 s = some { idx := 0x1200, sub := 1, row := roleRow, acc := .rw } := by
  simp [findEntry, aliasOf, dictRow_role, asks_classAcc h, roleRow]

/-- The role entry is stored when its action answers OK, and only then. -/
theorem entryStore_role (e : Ext) (v : Byte) (s : State) : entryStore e 0x1200 1 roleRow [v] s =
    if (roleSet v.toNat s).1 = stOk then (stOk, (roleSet v.toNat s).2.dSet 0x1200 1 [v]) else roleSet v.toNat s := by
  have hact : entryAct e 0x1200 1 [v] s = roleSet v.toNat s := congrArg (roleSet · s) (leNat_byte v)
  have heffect : ∀ t, storedEffect 0x1200 1 [v] t = t := fun _ => rfl
  have hstored : notStored 0x1200 1 = false := rfl
  have hfirst : storedFirst 0x1200 1 = false := rfl
  have hrequest : roleRow.request = false := rfl
  unfold entryStore
  rw [hact, hstored, hfirst, hrequest]
  obtain ⟨st, t⟩ := roleSet v.toNat s
  by_cases hok : st = stOk <;> simp [hok, heffect]

/-! ### What the role entry does with a number (R2, R3) -/

theorem roleSet_range {r : Nat} {s : State} (h : 5 < r) : roleSet r s = (stRange, s) := if_pos h

theorem roleSet_same {r : Nat} {s : State} (hr : r ≤ 5) (h : r = s.role) : roleSet r s = (stOk, s) := by
  rw [roleSet, if_neg (by omega), if_pos h]

theorem roleSet_stop {s : State} (h : s.role ≠ 0) : roleSet 0 s = (stOk, roleStop s) := by
  rw [roleSet, if_neg (by omega), if_neg h.symm, if_pos rfl]

theorem roleSet_busy {r : Nat} {s : State} (hr : r ≤ 5) (h0 : r ≠ 0) (hs : s.role ≠ 0) (hne : r ≠ s.role) : roleSet r s = (stBusy, s) := by
  rw [roleSet, if_neg (by omega), if_neg hne, if_neg h0, if_pos hs]

theorem roleSet_missing {r : Nat} {s : State} {d : Fin 24} (hr : r ≤ 5) (h0 : r ≠ 0) (hs : s.role = 0) (h : s.missingDomain r = some d) :
    roleSet r s = (stNotReady, s.dPut 0x1200 2 d.1) := by
  rw [roleSet, if_neg (by omega), if_neg (by omega), if_neg h0, if_neg (by omega), h]

theorem roleSet_start {r : Nat} {s : State} (hr : r ≤ 5) (h0 : r ≠ 0) (hs : s.role = 0) (h : s.missingDomain r = none) :
    roleSet r s = (stOk, roleStart r s) := by
  rw [roleSet, if_neg (by omega), if_neg (by omega), if_neg h0, if_neg (by omega), h]

theorem roleDomains_ascending (r : Nat) : (roleDomains r).Pairwise (· < ·) := by
  unfold roleDomains
  split
  · decide
  · decide
  · decide
  · exact List.pairwise_lt_finRange 24

/-- In an ascending list the least element with a property is the first one with it. -/
theorem find?_of_least {n : Nat} {p : Fin n → Bool} {d : Fin n} : ∀ {l : List (Fin n)}, l.Pairwise (· < ·) → d ∈ l → p d = true →
    (∀ e ∈ l, e < d → p e = false) → l.find? p = some d
  | [], _, hd, _, _ => absurd hd List.not_mem_nil
  | x :: l, hl, hd, hp, hleast => by
    obtain ⟨hx, hl⟩ := List.pairwise_cons.1 hl
    rcases List.mem_cons.1 hd with rfl | hd
    · exact List.find?_cons_of_pos hp
    · have hpx : p x = false := hleast x List.mem_cons_self (hx d hd)
      rw [List.find?_cons_of_neg (by simp [hpx])]
      exact find?_of_least hl hd hp fun e he => hleast e (List.mem_cons_of_mem x he)

theorem missingDomain_some {s : State} {r : Nat} {d : Fin 24} (hd : d ∈ roleDomains r) (hoff : s.isOn d = false)
    (hlow : ∀ e ∈ roleDomains r, e < d → s.isOn e = true) : s.missingDomain r = some d :=
  find?_of_least (roleDomains_ascending r) hd (by simp [hoff]) fun e he hlt => by simp [hlow e he hlt]

theorem missingDomain_none {s : State} {r : Nat} (h : ∀ d ∈ roleDomains r, s.isOn d = true) : s.missingDomain r = none :=
  List.find?_eq_none.2 fun d hd => by simp [h d hd]

/-! ### The write and its response -/

theorem writeEntry_role {s : State} {src : Src} (h : Asks s src) (e : Ext) (v : Byte) : writeEntry src e 0x1200 1 [v] s =
    if (roleSet v.toNat s).1 = stOk then (stOk, (roleSet v.toNat s).2.dSet 0x1200 1 [v]) else roleSet v.toNat s := by
  have hused : indexUsed 0x1200 s = true := rfl
  have hcheck : entryCheck 0x1200 1 [v] s = stOk := rfl
  have hrole0 : roleRow.role0 = false := rfl
  by_cases hv : v.toNat ≤ 5
  · simp [writeEntry, hused, findEntry_role h, Acc.writes, valueCheck_role, hv, hrole0, hcheck, entryStore_role]
  · have hok : stRange ≠ stOk := by decide
    simp [writeEntry, hused, findEntry_role h, Acc.writes, valueCheck_role, hv, roleSet_range (Nat.lt_of_not_le hv), hok]

theorem execRoleWrite_push {s : State} {src : Src} (h : Asks s src) (tid v : Byte) :
    ∃ l a, linkNum src = some l ∧ a.pdu = writeResp tid 0x1200 1 (writeEntry src {} 0x1200 1 [v] s).1 ∧
      exec (.roleWrite src tid v) s = .next ((writeEntry src {} 0x1200 1 [v] s).2.push l a) := by
  obtain ⟨l, a, hlink, hpdu, hwrite⟩ := hostWrite_push h (i := 0x1200) (x := 1) (v := [v]) (by decide) rfl (fun _ => rfl) {} tid
  exact ⟨l, a, hlink, hpdu, congrArg Host.Outcome.next hwrite⟩

/-- A role that is refused: the status goes to the link that asked. -/
theorem execRoleWrite_refused {s t : State} {src : Src} {v : Byte} {st : Status} (h : Asks s src) (hset : roleSet v.toNat s = (st, t)) (hst : st ≠ stOk)
    (tid : Byte) : ∃ l a, linkNum src = some l ∧ a.pdu = writeResp tid 0x1200 1 st ∧ exec (.roleWrite src tid v) s = .next (t.push l a) := by
  have hentry : writeEntry src {} 0x1200 1 [v] s = (st, t) := by
    rw [writeEntry_role h, hset, if_neg hst]
  obtain ⟨l, a, hlink, hpdu, hexec⟩ := execRoleWrite_push h tid v
  rw [hentry] at hpdu hexec
  exact ⟨l, a, hlink, hpdu, hexec⟩

/-- A role that is taken: the entry holds it and OK goes to the link that asked. -/
theorem execRoleWrite_taken {s t : State} {src : Src} {v : Byte} (h : Asks s src) (hset : roleSet v.toNat s = (stOk, t)) (tid : Byte) :
    ∃ l a, linkNum src = some l ∧ a.pdu = writeResp tid 0x1200 1 stOk ∧
      exec (.roleWrite src tid v) s = .next ((t.dSet 0x1200 1 [v]).push l a) := by
  have hentry : writeEntry src {} 0x1200 1 [v] s = (stOk, t.dSet 0x1200 1 [v]) := by
    rw [writeEntry_role h, hset, if_pos rfl]
  obtain ⟨l, a, hlink, hpdu, hexec⟩ := execRoleWrite_push h tid v
  rw [hentry] at hpdu hexec
  exact ⟨l, a, hlink, hpdu, hexec⟩

theorem role_written (s : State) (v : Byte) (l : Fin 5) (a : Sent) : ((s.dSet 0x1200 1 [v]).push l a).role = v.toNat := by
  rw [role_congr (State.push_dict ..)]
  simp [State.role, State.dU, leNat_byte]

/-! ### The outcomes -/

theorem refused_push {s : State} {src : Src} {l : Fin 5} {a : Sent} {tid : Byte} {st : Status} (hlink : linkNum src = some l)
    (hpdu : a.pdu = writeResp tid 0x1200 1 st) : Refused s (s.push l a) src tid 0x1200 1 st :=
  ⟨hpdu ▸ spoke_push hlink rfl, rfl⟩

theorem answered_push {s t : State} {src : Src} {l : Fin 5} {a : Sent} {tid : Byte} {st : Status} {v : List Byte} (hlink : linkNum src = some l)
    (hpdu : a.pdu = writeResp tid 0x1200 1 st) (h : Kept s t) : Answered s ((t.dSet 0x1200 1 v).push l a) src tid 0x1200 1 st := by
  rw [Answered, ← hpdu]
  exact replied_push hlink (h.told l)

end Sys2Proof.Machine

namespace Sys2Proof.Proofs
open Sys2Proof.Machine

/-- Settles O29: each number runs into one case of the role entry; starting a role leaves power, timers and what the links have to send alone, and
role 0 leaves no request of the proxy and nothing that came over the air. -/
theorem roleWrites : Obligations.RoleWrites := by
  intro s src tid v hasks same
  refine ⟨fun hv => ?_, fun hv hsame => ?_, fun hv h0 hs hne => ?_, fun hv h0 hs d hd hoff hlow => ?_, fun hv h0 hs hon => ?_, fun hs => ?_⟩
  · obtain ⟨l, a, hlink, hpdu, hexec⟩ := execRoleWrite_refused hasks (roleSet_range hv) (by decide) tid
    exact ⟨_, hexec, refused_push hlink hpdu⟩
  · obtain ⟨l, a, hlink, hpdu, hexec⟩ := execRoleWrite_taken hasks (roleSet_same hv hsame) tid
    refine ⟨_, hexec, (role_written s v l a).trans hsame, fun i j hkey => dGet_dSet_ne s _ hkey, ?_, rfl⟩
    rw [show (0 : Status) = stOk from rfl, ← hpdu]
    exact spoke_push hlink rfl
  · have h0' : v.toNat ≠ 0 := fun h => h0 (BitVec.eq_of_toNat_eq h)
    obtain ⟨l, a, hlink, hpdu, hexec⟩ := execRoleWrite_refused hasks (roleSet_busy hv h0' hs hne) (by decide) tid
    exact ⟨_, hexec, refused_push hlink hpdu⟩
  · have h0' : v.toNat ≠ 0 := fun h => h0 (BitVec.eq_of_toNat_eq h)
    have hset := roleSet_missing hv h0' hs (missingDomain_some hd hoff hlow)
    obtain ⟨l, a, hlink, hpdu, hexec⟩ := execRoleWrite_refused hasks hset (by decide) tid
    refine ⟨_, hexec, ?_, ?_, fun i j hkey => dGet_dPut_ne s _ hkey, ?_, rfl⟩
    · have hrole : (s.dPut 0x1200 2 d.1).dGet 0x1200 1 = s.dGet 0x1200 1 := dGet_dPut_ne s _ (by decide)
      exact (congrArg leNat hrole).trans hs
    · have hmissing : (s.dPut 0x1200 2 d.1).dU 0x1200 2 = d.1 % 256 := dU_dPut_self s 0x1200 2 d.1
      exact hmissing.trans (Nat.mod_eq_of_lt (by omega))
    · rw [show (2 : Status) = stNotReady from rfl, ← hpdu]
      exact spoke_push hlink rfl
  · have h0' : v.toNat ≠ 0 := fun h => h0 (BitVec.eq_of_toNat_eq h)
    have hset := roleSet_start hv h0' hs (missingDomain_none hon)
    have hkept := (aside_roleStart v.toNat s).toKept
    have hsync : (roleStart v.toNat s).lnk.sync = if v = 1 ∨ v = 2 then .lost else .ref := by
      rw [roleStart_sync v.isLt]
      simp [BitVec.toNat_eq]
    obtain ⟨l, a, hlink, hpdu, hexec⟩ := execRoleWrite_taken hasks hset tid
    exact ⟨_, hexec, role_written _ v l a, answered_push hlink hpdu hkept, hkept.power, hkept.timers, hsync⟩
  · have hstop := roleStop_stopped s
    have hset := roleSet_stop hs
    generalize roleStop s = t at hstop hset
    obtain ⟨l, a, hlink, hpdu, hexec⟩ := execRoleWrite_taken hasks (v := 0) hset tid
    exact ⟨_, hexec, role_written _ 0 l a, answered_push hlink hpdu hstop.kept, hstop.kept.power, hstop.kept.timers, hstop.sync, hstop.proxies,
      hstop.inbox, hstop.standby⟩

end Sys2Proof.Proofs
end

section
/-! SUPPORT. The wire forms read back: fields packed into bytes (R101, R102, R106), the bytes of a PDU (R27), and the frame form with its CRC
(R41). -/

namespace Sys2Proof.Machine

/-! ### Fields packed into a number (R101) -/

/-- The number that fields, each a width and a value, spell, the first in the most significant place. -/
def packed (l : List (Nat × Nat)) : Nat := l.foldl (fun a p => packF a p.1 p.2) 0

/-- The bits that fields take together. -/
def widths (l : List (Nat × Nat)) : Nat := (l.map (·.1)).sum

theorem foldl_packF (l : List (Nat × Nat)) (a : Nat) : l.foldl (fun a p => packF a p.1 p.2) a = a * 2 ^ widths l + packed l := by
  induction l generalizing a with
  | nil => simp [widths, packed]
  | cons p l ih =>
    have hwidth : widths (p :: l) = p.1 + widths l := rfl
    have hpacked : packed (p :: l) = packF 0 p.1 p.2 * 2 ^ widths l + packed l := ih _
    rw [List.foldl_cons, ih, hpacked, hwidth, packF, packF, Nat.pow_add]
    ring

theorem packed_append (l₁ l₂ : List (Nat × Nat)) : packed (l₁ ++ l₂) = packed l₁ * 2 ^ widths l₂ + packed l₂ := by
  rw [packed, List.foldl_append, foldl_packF]
  rfl

theorem packed_cons (p : Nat × Nat) (l : List (Nat × Nat)) : packed (p :: l) = p.2 % 2 ^ p.1 * 2 ^ widths l + packed l := by
  have h := packed_append [p] l
  simpa [packed, packF] using h

theorem packed_lt (l : List (Nat × Nat)) : packed l < 2 ^ widths l := by
  induction l with
  | nil => simp [packed, widths]
  | cons p l ih =>
    have hwidth : widths (p :: l) = p.1 + widths l := rfl
    have hvalue : p.2 % 2 ^ p.1 < 2 ^ p.1 := Nat.mod_lt _ (Nat.two_pow_pos _)
    rw [packed_cons, hwidth, Nat.pow_add]
    nlinarith

/-- A field reads back as the low bits of its value. -/
theorem packed_field (l₁ l₂ : List (Nat × Nat)) (w v : Nat) : packed (l₁ ++ (w, v) :: l₂) / 2 ^ widths l₂ % 2 ^ w = v % 2 ^ w := by
  have hwidth : widths ((w, v) :: l₂) = w + widths l₂ := rfl
  have hpacked : packed (l₁ ++ (w, v) :: l₂) = packed l₂ + 2 ^ widths l₂ * (packed l₁ * 2 ^ w + v % 2 ^ w) := by
    rw [packed_append, packed_cons, hwidth, Nat.pow_add]
    ring
  rw [hpacked, Nat.add_mul_div_left _ _ (Nat.two_pow_pos _), Nat.div_eq_of_lt (packed_lt l₂), Nat.zero_add, Nat.mul_add_mod', Nat.mod_mod]

/-! ### Bytes sent most significant first -/

@[simp] theorem beBytes_length (n v : Nat) : (beBytes n v).length = n := by
  simp [beBytes, leBytes_length]

theorem beNat_beBytes (n v : Nat) : beNat (beBytes n v) = v % 256 ^ n := by
  simp [beNat, beBytes, leNat_leBytes]

/-- A field of a header of whole bytes reads back from its place. -/
theorem headerField {l l₁ l₂ : List (Nat × Nat)} {n w v : Nat} (hl : l = l₁ ++ (w, v) :: l₂) (hn : widths l = 8 * n) :
    beNat ((beBytes n (packed l)).take n) / 2 ^ (8 * n - widths l₁ - w) % 2 ^ w = v % 2 ^ w := by
  have hsum : widths l = widths l₁ + (w + widths l₂) := by
    simp [hl, widths]
  have hplace : 8 * n - widths l₁ - w = widths l₂ := by omega
  have hfits : packed l < 256 ^ n := by
    rw [show (256 : Nat) = 2 ^ 8 from rfl, ← Nat.pow_mul, ← hn]
    exact packed_lt l
  rw [List.take_of_length_le (by simp), beNat_beBytes, Nat.mod_eq_of_lt hfits, hplace, hl]
  exact packed_field l₁ l₂ w v

/-! ### The PHY header and the link header (R102, R106) -/

/-- The fields of a PHY header in sending order. -/
def hdrFields (h : Hdr) : List (Nat × Nat) :=
  [(2, 0), (4, h.type), (1, b2n h.ack), (1, b2n h.retry), (16, h.net), (18, h.tx), (18, h.rx), (8, h.slotLow), (8, h.len),
    (2, h.zsel), (2, h.rate), (4, h.epochLow), (6, h.power), (8, h.fb), (14, 0)]

theorem widths_hdrFields (h : Hdr) : widths (hdrFields h) = 8 * 14 := by
  simp [widths, hdrFields]

theorem hdr_bytes_eq (h : Hdr) : h.bytes = beBytes 14 (packed (hdrFields h)) := rfl

/-- A field that fits its width reads back from its place. -/
theorem hdrField_of_lt {h : Hdr} {l₂ : List (Nat × Nat)} {i w v : Nat} (l₁ : List (Nat × Nat)) (hl : hdrFields h = l₁ ++ (w, v) :: l₂)
    (hv : v < 2 ^ w) (hi : widths l₁ = i := by simp [widths, hdrFields]) : hdrField h.bytes i w = v := by
  rw [hdrField, ← hi, show 112 = 8 * 14 from rfl, hdr_bytes_eq, headerField hl (widths_hdrFields h), Nat.mod_eq_of_lt hv]

theorem b2n_lt_two (b : Bool) : b2n b < 2 := by
  cases b <;> decide

theorem b2n_beq_one (b : Bool) : (b2n b == 1) = b := by
  cases b <;> rfl

theorem hdr_ofBytes_bytes {h : Hdr} (hfits : h.fits) : Hdr.ofBytes h.bytes = h := by
  obtain ⟨htype, hnet, htx, hrx, hslot, hlen, hzsel, hrate, hepoch, hpower, hfb⟩ := hfits
  have type : hdrField h.bytes 2 4 = h.type := hdrField_of_lt ((hdrFields h).take 1) rfl htype
  have ack : hdrField h.bytes 6 1 = b2n h.ack := hdrField_of_lt ((hdrFields h).take 2) rfl (b2n_lt_two _)
  have retry : hdrField h.bytes 7 1 = b2n h.retry := hdrField_of_lt ((hdrFields h).take 3) rfl (b2n_lt_two _)
  have net : hdrField h.bytes 8 16 = h.net := hdrField_of_lt ((hdrFields h).take 4) rfl hnet
  have tx : hdrField h.bytes 24 18 = h.tx := hdrField_of_lt ((hdrFields h).take 5) rfl htx
  have rx : hdrField h.bytes 42 18 = h.rx := hdrField_of_lt ((hdrFields h).take 6) rfl hrx
  have slot : hdrField h.bytes 60 8 = h.slotLow := hdrField_of_lt ((hdrFields h).take 7) rfl hslot
  have len : hdrField h.bytes 68 8 = h.len := hdrField_of_lt ((hdrFields h).take 8) rfl hlen
  have zsel : hdrField h.bytes 76 2 = h.zsel := hdrField_of_lt ((hdrFields h).take 9) rfl hzsel
  have rate : hdrField h.bytes 78 2 = h.rate := hdrField_of_lt ((hdrFields h).take 10) rfl hrate
  have epoch : hdrField h.bytes 80 4 = h.epochLow := hdrField_of_lt ((hdrFields h).take 11) rfl hepoch
  have power : hdrField h.bytes 84 6 = h.power := hdrField_of_lt ((hdrFields h).take 12) rfl hpower
  have fb : hdrField h.bytes 90 8 = h.fb := hdrField_of_lt ((hdrFields h).take 13) rfl hfb
  rw [Hdr.ofBytes, type, ack, retry, net, tx, rx, slot, len, zsel, rate, epoch, power, fb, b2n_beq_one, b2n_beq_one]

/-- The fields of a link header in sending order. -/
def lhFields (seq source dest hops port : Nat) : List (Nat × Nat) := [(16, seq), (18, source), (18, dest), (4, hops), (8, port)]

theorem lhField_linkHeader {seq source dest hops port i w v : Nat} {l₂ : List (Nat × Nat)} (l₁ : List (Nat × Nat))
    (hl : lhFields seq source dest hops port = l₁ ++ (w, v) :: l₂) (hi : widths l₁ = i) :
    lhField (linkHeader seq source dest hops port) i w = v % 2 ^ w := by
  rw [lhField, ← hi, show 64 = 8 * 8 from rfl]
  exact headerField hl rfl

section
variable (seq source dest hops port : Nat)

theorem lhSeq_linkHeader : lhField (linkHeader seq source dest hops port) 0 16 = seq % 2 ^ 16 := lhField_linkHeader [] rfl rfl

theorem lhSource_linkHeader : lhSource (linkHeader seq source dest hops port) = source % 2 ^ 18 := lhField_linkHeader [(16, seq)] rfl rfl

theorem lhDest_linkHeader : lhDest (linkHeader seq source dest hops port) = dest % 2 ^ 18 := lhField_linkHeader [(16, seq), (18, source)] rfl rfl

theorem lhHops_linkHeader : lhHops (linkHeader seq source dest hops port) = hops % 2 ^ 4 :=
  lhField_linkHeader [(16, seq), (18, source), (18, dest)] rfl rfl

theorem lhPort_linkHeader : lhPort (linkHeader seq source dest hops port) = port % 2 ^ 8 :=
  lhField_linkHeader [(16, seq), (18, source), (18, dest), (4, hops)] rfl rfl

end

/-! ### A PDU (R27) -/

theorem pduBytes_length (p : Pdu) : (pduBytes p).length = 12 + p.data.length := by
  simp [pduBytes, leBytes]
  omega

/-- The first byte of a PDU holds OP and its three flags, with bit 2 clear. -/
theorem pdu_firstByte (op : BitVec 4) (fresh last seg : Bool) :
    let g := (BitVec.ofNat 8 (op.toNat * 16 + b2n fresh * 8 + b2n last * 2 + b2n seg)).toNat
    BitVec.ofNat 4 (g / 16) = op ∧ bit g 3 = fresh ∧ bit g 1 = last ∧ bit g 0 = seg ∧ bit g 2 = false := by
  revert op fresh last seg
  decide

theorem ofNat_16_bytes (x : BitVec 16) : BitVec.ofNat 16 (x.toNat % 256 + 256 * (x.toNat / 256 % 256)) = x := by
  apply BitVec.eq_of_toNat_eq
  rw [BitVec.toNat_ofNat]
  omega

theorem ofNat_18_bytes (x : BitVec 18) : BitVec.ofNat 18 (x.toNat % 256 + 256 * (x.toNat / 256 % 256) + 65536 * (x.toNat / 256 / 256 % 256)) = x := by
  apply BitVec.eq_of_toNat_eq
  rw [BitVec.toNat_ofNat]
  omega

/-- Twelve header bytes and the data that LEN claims are taken apart; what follows is left over. -/
theorem pduOf_header (b₀ tid i₀ i₁ sub n₀ n₁ n₂ st z l₀ l₁ : Byte) (data rest : List Byte) (hlen : l₀.toNat + 256 * l₁.toNat = data.length) :
    pduOf (b₀ :: tid :: i₀ :: i₁ :: sub :: n₀ :: n₁ :: n₂ :: st :: z :: l₀ :: l₁ :: (data ++ rest)) =
      some ({ op := BitVec.ofNat 4 (b₀.toNat / 16), fresh := bit b₀.toNat 3, last := bit b₀.toNat 1, seg := bit b₀.toNat 0
              rsv := bit b₀.toNat 2 || z.toNat != 0 || decide (4 ≤ n₂.toNat), tid := tid, index := BitVec.ofNat 16 (i₀.toNat + 256 * i₁.toNat)
              sub := sub, node := BitVec.ofNat 18 (n₀.toNat + 256 * n₁.toNat + 65536 * n₂.toNat), status := st, data := data }, rest) := by
  have hrest : (b₀ :: tid :: i₀ :: i₁ :: sub :: n₀ :: n₁ :: n₂ :: st :: z :: l₀ :: l₁ :: (data ++ rest)).drop (12 + data.length) = rest := by
    rw [← List.drop_drop]
    exact List.drop_left
  have hclaimed : ¬data.length + rest.length + 12 < 12 + data.length := by omega
  simp [pduOf, hlen, hclaimed, hrest]

theorem pduOf_pduBytes {p : Pdu} (hrsv : p.rsv = false) (hdata : p.data.length ≤ 1024) (rest : List Byte) :
    pduOf (pduBytes p ++ rest) = some (p, rest) := by
  have hlen : (BitVec.ofNat 8 p.data.length).toNat + 256 * (BitVec.ofNat 8 (p.data.length / 256)).toNat = p.data.length := by
    simp only [BitVec.toNat_ofNat]
    omega
  have hreserved : (false || (0 : Byte).toNat != 0 || decide (4 ≤ (BitVec.ofNat 8 (p.node.toNat / 256 / 256)).toNat)) = p.rsv := by
    have htop : ¬4 ≤ p.node.toNat / 256 / 256 % 256 := by omega
    simp [hrsv, htop]
  obtain ⟨hop, hfresh, hlast, hseg, hbit⟩ := pdu_firstByte p.op p.fresh p.last p.seg
  have hform := pduOf_header (BitVec.ofNat 8 (p.op.toNat * 16 + b2n p.fresh * 8 + b2n p.last * 2 + b2n p.seg)) p.tid (BitVec.ofNat 8 p.index.toNat)
    (BitVec.ofNat 8 (p.index.toNat / 256)) p.sub (BitVec.ofNat 8 p.node.toNat) (BitVec.ofNat 8 (p.node.toNat / 256))
    (BitVec.ofNat 8 (p.node.toNat / 256 / 256)) p.status 0 (BitVec.ofNat 8 p.data.length) (BitVec.ofNat 8 (p.data.length / 256)) p.data rest hlen
  rw [hop, hfresh, hlast, hseg, hbit, hreserved] at hform
  simp only [BitVec.toNat_ofNat, Nat.reducePow, ofNat_16_bytes, ofNat_18_bytes] at hform
  simpa [pduBytes, leBytes] using hform

/-! ### The frame form (R41) -/

theorem crcBit_lt {p r : Nat} (hp : p < 2 ^ 32) (hr : r < 2 ^ 32) : crcBit p r < 2 ^ 32 := by
  have hhalf : r / 2 < 2 ^ 32 := by omega
  unfold crcBit
  split
  · exact Nat.xor_lt_two_pow hhalf hp
  · exact hhalf

theorem iter_lt {f : Nat → Nat} {m : Nat} (hf : ∀ r, r < m → f r < m) (n : Nat) {r : Nat} (hr : r < m) : iter f n r < m := by
  induction n generalizing r with
  | zero => exact hr
  | succ n ih => exact ih (hf r hr)

theorem crcByte_lt {p r : Nat} (hp : p < 2 ^ 32) (hr : r < 2 ^ 32) (b : Byte) : crcByte p r b < 2 ^ 32 :=
  iter_lt (fun _ h => crcBit_lt hp h) 8 (Nat.xor_lt_two_pow hr (by omega))

theorem crc32_lt (bs : List Byte) : crc32 bs < 2 ^ 32 := by
  have hfold : ∀ (bs : List Byte) (r : Nat), r < 2 ^ 32 → bs.foldl (crcByte 0xEDB88320) r < 2 ^ 32 := by
    intro bs
    induction bs with
    | nil => exact fun r hr => hr
    | cons b bs ih => exact fun r hr => ih _ (crcByte_lt (by decide) hr b)
  exact Nat.xor_lt_two_pow (hfold bs _ (by decide)) (by decide)

theorem frameOf_length (b : List Byte) : (frameOf b).length = b.length + 6 := by
  simp [frameOf, leBytes_length]
  omega

/-- A frame begins with the number of its bytes. -/
theorem frameOf_count {b : List Byte} (hb : b.length < 65536) : leNat ((frameOf b).take 2) = b.length := by
  have htake : (frameOf b).take 2 = leBytes 2 b.length := by
    rw [frameOf, List.append_assoc]
    exact List.take_left' (leBytes_length 2 _)
  rw [htake, leNat_leBytes]
  exact Nat.mod_eq_of_lt hb

/-- A whole frame passes its length and its CRC, and its PDUs are read. -/
theorem readFrame_frameOf {b : List Byte} {ps : List Pdu} (hb : b.length ≤ 2044) (hps : pduAll b.length b = some ps) :
    readFrame (frameOf b) = .pdus ps := by
  have hcount : leNat ((frameOf b).take 2) = b.length := frameOf_count (by omega)
  have hhead : (leBytes 2 b.length ++ b).length = 2 + b.length := by simp [leBytes_length]
  have hcrc : leNat (((frameOf b).drop (2 + b.length)).take 4) = crc32 ((frameOf b).take (2 + b.length)) := by
    rw [frameOf, List.drop_left' hhead, List.take_left' hhead, List.take_of_length_le (by simp [leBytes_length]), leNat_leBytes]
    exact Nat.mod_eq_of_lt (crc32_lt _)
  have hbody : ((frameOf b).drop 2).take b.length = b := by
    rw [frameOf, List.append_assoc, List.drop_left' (leBytes_length 2 _), List.take_left' rfl]
  have hlong : ¬(2 ≤ b.length + 6 ∧ 2044 < b.length) := by omega
  have hwhole : ¬(b.length + 6 < 2 ∨ b.length + 6 < 2 + b.length + 4) := by omega
  simp only [readFrame, hcount, frameOf_length, hlong, hwhole, hcrc, hbody, hps, ne_eq, not_true_eq_false, if_false]

theorem pduAll_flatMap {ps : List Pdu} (hps : ∀ p ∈ ps, p.rsv = false ∧ p.data.length ≤ 1024) {n : Nat} (hn : ps.length ≤ n) :
    pduAll n (ps.flatMap pduBytes) = some ps := by
  induction ps generalizing n with
  | nil => cases n <;> rfl
  | cons p ps ih =>
    obtain ⟨hp, hrest⟩ := List.forall_mem_cons.1 hps
    cases n with
    | zero => simp at hn
    | succ n =>
      have hfirst := pduOf_pduBytes hp.1 hp.2 (ps.flatMap pduBytes)
      have hnext := ih hrest (Nat.le_of_succ_le_succ hn)
      have hcons : (p :: ps).flatMap pduBytes = pduBytes p ++ ps.flatMap pduBytes := rfl
      have hne : pduBytes p ++ ps.flatMap pduBytes ≠ [] := by
        intro h
        have hl := congrArg List.length h
        simp [pduBytes_length] at hl
      rw [hcons]
      generalize pduBytes p ++ ps.flatMap pduBytes = bytes at hfirst hne
      cases bytes with
      | nil => exact absurd rfl hne
      | cons b bytes => simp [pduAll, hfirst, hnext]

theorem length_le_flatMap_pduBytes (ps : List Pdu) : ps.length ≤ (ps.flatMap pduBytes).length := by
  induction ps with
  | nil => exact Nat.le_refl 0
  | cons p ps ih =>
    rw [List.flatMap_cons, List.length_append, pduBytes_length, List.length_cons]
    omega

/-- A frame of PDUs reads back as those PDUs. -/
theorem readFrame_pdus {ps : List Pdu} (hps : ∀ p ∈ ps, p.rsv = false ∧ p.data.length ≤ 1024) (hlen : (ps.flatMap pduBytes).length ≤ 2044) :
    readFrame (frameOf (ps.flatMap pduBytes)) = .pdus ps :=
  readFrame_frameOf hlen (pduAll_flatMap hps (length_le_flatMap_pduBytes ps))

end Sys2Proof.Machine

namespace Sys2Proof.Proofs
open Sys2Proof.Machine

/-- Settles O26: a packed field is a digit of a mixed-radix number; a PDU's bytes are taken apart one by one, and its frame list by induction. -/
theorem wireForms : Obligations.WireForms := by
  refine ⟨fun p rest hrsv hdata => pduOf_pduBytes hrsv hdata rest, fun ps hps hlen => readFrame_pdus hps hlen, fun h hfits => ?_,
    fun seq source dest hops port hseq hsource hdest hhops hport => ?_⟩
  · exact ⟨beBytes_length 14 _, hdr_ofBytes_bytes hfits, hdrField_of_lt [] rfl (by decide)⟩
  · exact ⟨beBytes_length 8 _, (lhSeq_linkHeader ..).trans (Nat.mod_eq_of_lt hseq), (lhSource_linkHeader ..).trans (Nat.mod_eq_of_lt hsource),
      (lhDest_linkHeader ..).trans (Nat.mod_eq_of_lt hdest), (lhHops_linkHeader ..).trans (Nat.mod_eq_of_lt hhops),
      (lhPort_linkHeader ..).trans (Nat.mod_eq_of_lt hport)⟩

end Sys2Proof.Proofs
end

section
/-! SUPPORT. A request that a host link asks and main firmware executes at once: its way through the server, and its response (R27, R28, R31, R32). -/

namespace Sys2Proof.Machine

/-! ### One step (R32) -/

theorem step_cons (c : Instr) (rest : List Instr) (s : State) : step { s with pending := c :: rest } = exec c { s with pending := rest } := rfl

theorem step_empty {s : State} (h : s.pending = []) : step s = .next (serveOne s) := by
  unfold step idle
  rw [h]

/-! ### From the request to the response -/

/-- A response leaves on a host link that is up. -/
theorem respondTo_up {s₀ : State} {q : Req} {l : Fin 5} (hlink : linkNum q.src = some l) (hup : s₀.linkUp l = true) (p : Pdu) (s : State) :
    respondTo s₀ q p s = s.push l (sentTo q p s₀) := by
  simp only [respondTo, hlink, hup, if_true]

/-- What a request has come to leaves as its response, and behind it what a write of a link's own settings starts. -/
theorem request_executed {s t : State} {src : Src} {e : Ext} {p : Pdu} {a : Res} (h : Asks s src) (hserve : serve e { src := src, pdu := p } s = (a, t)) :
    ∃ l x, linkNum src = some l ∧ x = sentTo { src := src, pdu := p } (answer p a.st a.fresh a.data) s ∧
      request e { src := src, pdu := p } s =
        (let done := p.op == 2 && !p.seg && a.st == stOk
        if done && resetsDevice p.index.toNat p.sub.toNat p.data s then t
        else if done && changes { src := src, pdu := p } s then afterResponse src p.index.toNat p.sub.toNat p.data (t.push l x)
        else t.push l x) := by
  obtain ⟨hwaiting, -, -, l, hlink, hup⟩ := id h
  refine ⟨l, _, hlink, rfl, ?_⟩
  rw [request_now hwaiting, asks_answers h, if_pos rfl, execute, hserve]
  dsimp only
  rw [respondTo_up (q := { src := src, pdu := p }) hlink hup]
  rfl

@[simp] theorem sentTo_pdu (q : Req) (p : Pdu) (s : State) : (sentTo q p s).pdu = p := by
  unfold sentTo
  split <;> rfl

/-- A request that is no write of a whole value, or is refused: its response is all that leaves. -/
theorem request_push {s t : State} {src : Src} {e : Ext} {p : Pdu} {a : Res} (h : Asks s src) (hserve : serve e { src := src, pdu := p } s = (a, t))
    (hdone : (p.op == 2 && !p.seg && a.st == stOk) = false) :
    ∃ l x, linkNum src = some l ∧ x.pdu = answer p a.st a.fresh a.data ∧ request e { src := src, pdu := p } s = t.push l x := by
  obtain ⟨l, x, hlink, hx, hrequest⟩ := request_executed h hserve
  refine ⟨l, x, hlink, by rw [hx, sentTo_pdu], ?_⟩
  rw [hrequest, hdone]
  rfl

/-- A write that neither resets the device nor acts behind its response. -/
theorem request_push_quiet {s t : State} {src : Src} {e : Ext} {p : Pdu} {a : Res} (h : Asks s src)
    (hserve : serve e { src := src, pdu := p } s = (a, t)) (hreset : resetsDevice p.index.toNat p.sub.toNat p.data s = false)
    (hafter : ∀ u, afterResponse src p.index.toNat p.sub.toNat p.data u = u) :
    ∃ l x, linkNum src = some l ∧ x.pdu = answer p a.st a.fresh a.data ∧ request e { src := src, pdu := p } s = t.push l x := by
  obtain ⟨l, x, hlink, hx, hrequest⟩ := request_executed h hserve
  refine ⟨l, x, hlink, by rw [hx, sentTo_pdu], ?_⟩
  simp only [hrequest, hreset, hafter, Bool.and_false, Bool.false_eq_true, if_false, ite_self]

/-- A response given behind the outbox of `s` is all that the links say. -/
theorem spoke_of_push {s t : State} {src : Src} {l : Fin 5} {x : Sent} {p : Pdu} (hlink : linkNum src = some l) (hpdu : x.pdu = p)
    (ht : t.links.outbox = s.links.outbox) : Spoke s (t.push l x) src p :=
  hpdu ▸ spoke_push hlink ht

/-! ### What a request names (R19, R43, R475) -/

/-- An entry of a proper number is found where it is asked for, or where an entry of 0x1020 stands for it. -/
theorem findEntry_cases {src : Src} {i x : Nat} {s : State} {f : Found} (h : findEntry src i x s = some f) :
    (dictRow i x = some f.row ∧ f.idx = i ∧ f.sub = x ∧ f.acc = classAcc src f.row) ∨
      (i = 0x1020 ∧ (s.role = 1 ∨ s.role = 2) ∧ (f.idx = 0x3100 ∨ f.idx = 0x3500)) := by
  unfold findEntry at h
  split at h
  · rename_i j k halias
    obtain ⟨r, -, rfl⟩ := Option.map_eq_some_iff.1 h
    unfold aliasOf at halias
    split at halias
    · rename_i hnode
      refine .inr ⟨hnode.1, hnode.2.1, ?_⟩
      have hpair := Option.some.inj halias
      split at hpair <;> simp [← (Prod.mk.inj hpair).1]
    · cases halias
  · obtain ⟨r, hr, rfl⟩ := Option.map_eq_some_iff.1 h
    exact .inl ⟨hr, rfl, rfl, rfl⟩

theorem dictIndex_ne_nil {i x : Nat} {r : DictRow} (h : dictRow i x = some r) : dictIndex i ≠ [] := by
  intro hempty
  rw [dictRow, hempty] at h
  cases h

theorem findEntry_used {src : Src} {i x : Nat} {s : State} {f : Found} (h : findEntry src i x s = some f) : indexUsed i s = true := by
  rcases findEntry_cases h with ⟨hrow, -⟩ | ⟨rfl, hrole, -⟩
  · simp [indexUsed, dictIndex_ne_nil hrow]
  · rcases hrole with hrole | hrole <;> simp [indexUsed, hrole]

/-! ### The server's first checks (R28, R42) -/

theorem serve_op {s : State} {src : Src} (h : Asks s src) {p : Pdu} (hrsv : p.rsv = false)
    (hwindow : p.node = 0 ∨ (0x5000 ≤ p.index.toNat ∧ p.index.toNat < 0x7000)) (e : Ext) (hop : p.op = 1 ∨ p.op = 2 ∨ p.op = 8) :
    serve e { src := src, pdu := p } s =
      if p.op = 8 then ({ st := (abortXfer { src := src, pdu := p } s).1 }, (abortXfer { src := src, pdu := p } s).2)
      else if p.op = 1 then serveRead { src := src, pdu := p } s
      else if p.seg then ({ st := (segWrite e { src := src, pdu := p } s).1 }, (segWrite e { src := src, pdu := p } s).2)
      else ({ st := (writeTarget e { src := src, pdu := p } p.data s).1 }, (writeTarget e { src := src, pdu := p } p.data s).2) := by
  have hknown : (p.op == 1 || p.op == 2 || p.op == 8) = true := by
    rcases hop with h | h | h <;> simp [h]
  have hnode : ¬(p.node ≠ 0 ∧ ¬(0x5000 ≤ p.index.toNat ∧ p.index.toNat < 0x7000)) := by tauto
  simp only [serve, hrsv, hknown, asks_notSubset h, hnode, Bool.not_true, Bool.or_self, Bool.false_and, Bool.false_eq_true, if_false]

/-- An entry of the device itself, or an index past the windows, is no window and no proxy index. -/
theorem own_index {i : Nat} (h : i < 0x5000 ∨ 0x7000 ≤ i) : ¬(0x5000 ≤ i ∧ i < 0x6000) ∧ ¬(0x6000 ≤ i ∧ i < 0x7000) := by omega

theorem execRead_push {s t : State} {src : Src} (h : Asks s src) {i : BitVec 16} {x : Byte} {a : Res} (hi : i.toNat < 0x5000 ∨ 0x7000 ≤ i.toNat)
    (hread : readEntry src none i.toNat x.toNat s = (a, t)) (tid : Byte) :
    ∃ l y, linkNum src = some l ∧ y.pdu = { op := 3, fresh := a.fresh, tid := tid, index := i, sub := x, status := a.st, data := a.data } ∧
      exec (.read src tid i x 0) s = .next (t.push l y) := by
  obtain ⟨hnowindow, hnoproxy⟩ := own_index hi
  have hserve : serve {} { src := src, pdu := { op := 1, tid := tid, index := i, sub := x } } s = (a, t) := by
    rw [serve_op h rfl (.inl rfl) {} (.inl rfl)]
    simp [serveRead, hnowindow, hnoproxy, hread]
  obtain ⟨l, y, hlink, hpdu, hrequest⟩ := request_push h hserve rfl
  exact ⟨l, y, hlink, hpdu, congrArg Host.Outcome.next hrequest⟩

theorem leNat_word (off : BitVec 32) : leNat (leBytes 4 off.toNat) = off.toNat := by
  rw [leNat_leBytes, Nat.mod_eq_of_lt]
  exact off.isLt

theorem execSegRead_push {s t : State} {src : Src} (h : Asks s src) {i : BitVec 16} {x : Byte} {off : BitVec 32} {a : Res} (hi : i.toNat < 0x5000)
    (hread : readEntry src (some off.toNat) i.toNat x.toNat s = (a, t)) (hdata : a.data ≠ []) (tid : Byte) :
    ∃ l y, linkNum src = some l ∧ y.pdu = { op := 3, seg := true, fresh := a.fresh, tid := tid, index := i, sub := x, status := a.st, data := a.data } ∧
      exec (.segRead src tid i x 0 off) s = .next (t.push l y) := by
  obtain ⟨hnowindow, hnoproxy⟩ := own_index (.inl hi)
  have hserve : serve {} { src := src, pdu := { op := 1, seg := true, tid := tid, index := i, sub := x, data := leBytes 4 off.toNat } } s = (a, t) := by
    rw [serve_op h rfl (.inl rfl) {} (.inl rfl)]
    simp [serveRead, leBytes_length, leNat_word, hnowindow, hnoproxy, hread]
  obtain ⟨l, y, hlink, hpdu, hrequest⟩ := request_push h hserve rfl
  exact ⟨l, y, hlink, by simp [hpdu, answer, hdata], congrArg Host.Outcome.next hrequest⟩

/-- A write that is refused changes what the refusal has changed, and its status is all that leaves. -/
theorem execWrite_refused {s t : State} {src : Src} (h : Asks s src) {i : BitVec 16} {x : Byte} {v : List Byte} {st : Status}
    (hi : i.toNat < 0x5000 ∨ 0x7000 ≤ i.toNat) (hwrite : writeEntry src {} i.toNat x.toNat v s = (st, t)) (hst : st ≠ stOk) (tid : Byte) :
    ∃ l y, linkNum src = some l ∧ y.pdu = writeResp tid i x st ∧ exec (.write src tid i x 0 v) s = .next (t.push l y) := by
  obtain ⟨hnowindow, hnoproxy⟩ := own_index hi
  have hserve : serve {} { src := src, pdu := writePdu tid i x v } s = ({ st := st }, t) := by
    rw [serve_op h rfl (.inl rfl) {} (.inr (.inl rfl))]
    simp [writePdu, writeTarget, hnowindow, hnoproxy, hwrite]
  obtain ⟨l, y, hlink, hpdu, hrequest⟩ := request_push h hserve (by simp [hst])
  exact ⟨l, y, hlink, hpdu, congrArg Host.Outcome.next hrequest⟩

end Sys2Proof.Machine

namespace Sys2Proof.Proofs
open Sys2Proof.Machine

/-- Settles O56: a step is its command's exec, or the server's turn. -/
theorem frontCommandRuns : Obligations.FrontCommandRuns := by
  intro c rest s
  refine ⟨step_cons c rest s, fun hpending hwaiting => ?_, step_empty⟩
  rw [step_empty hpending, serveOne, hwaiting]

end Sys2Proof.Proofs
end

section
/-! SUPPORT. A READ of an entry of the device itself (R19, R25 to R29). -/

namespace Sys2Proof.Machine

theorem readEntry_sub0 {src : Src} {i : Nat} {s : State} (hi : i < 0x5000) (hused : indexUsed i s = true) :
    readEntry src none i 0 s = ({ st := stOk, data := [BitVec.ofNat 8 (if i = 0x1020 then 11 else topSub i)] }, s) := by
  have hlow : ¬0x8000 ≤ i := by omega
  simp [readEntry, hlow, hused]

/-- An entry that the reader may read is read as a result or as a value. -/
theorem readEntry_found {src : Src} {off : Option Nat} {i x : Nat} {s : State} {f : Found} (hi : i < 0x5000) (hx : x ≠ 0)
    (hf : findEntry src i x s = some f) (hacc : f.acc.reads = true) (hoff : off.isSome = true → f.row.ty.segmented = true) :
    readEntry src off i x s = if f.row.result then readResult src off f.idx f.sub s
      else (sliceRes src off stOk false (s.entryBytes f.idx f.sub),
        if (sliceRes src off stOk false (s.entryBytes f.idx f.sub)).st = stOk then readDraws f.idx f.sub s else s) := by
  have hlow : ¬0x8000 ≤ i := by omega
  have hshape : (off.isSome && !f.row.ty.segmented) = false := by
    cases hsome : off.isSome
    · rfl
    · simp [hoff hsome]
  simp [readEntry, hlow, findEntry_used hf, hx, hf, hacc, hshape]

/-- Outside 0x3300 a value is read without a change. -/
theorem readEntry_value {src : Src} {off : Option Nat} {i x : Nat} {s : State} {f : Found} (hi : i < 0x5000) (hx : x ≠ 0)
    (hf : findEntry src i x s = some f) (hacc : f.acc.reads = true) (hoff : off.isSome = true → f.row.ty.segmented = true)
    (hvalue : f.row.result = false) (hplain : f.idx ≠ 0x3300) :
    readEntry src off i x s = (sliceRes src off stOk false (s.entryBytes f.idx f.sub), s) := by
  have hdraws : readDraws f.idx f.sub s = s := if_neg fun h => hplain h.1
  rw [readEntry_found hi hx hf hacc hoff, hvalue, hdraws, ite_self]
  rfl

theorem sliceRes_short {src : Src} {v : List Byte} (h : v.length ≤ dataLimit src) (st : Status) (fresh : Bool) :
    sliceRes src none st fresh v = { st := st, fresh := fresh, data := v } := if_neg (by omega)

theorem sliceRes_long {src : Src} {v : List Byte} (h : dataLimit src < v.length) (st : Status) (fresh : Bool) :
    sliceRes src none st fresh v = { st := stBadLength } := if_pos h

/-! ### Result entries (R25, R26) -/

theorem readResult_unproduced {src : Src} {off : Option Nat} {x y : Nat} {s : State} (h : (s.resOf x y).produced = false) :
    readResult src off x y s = ({ st := if (s.resOf x y).pending then stNotReady else stOk }, s) := by
  simp [readResult, h]

/-- The state with a reader's FRESH flag of a result cleared. -/
def seenResult (src : Src) (x y : Nat) (s : State) : State :=
  { s with results := alPut s.results (key x y) { s.resOf x y with fresh := (s.resOf x y).fresh &&& ~~~readerBit src } }

theorem readResult_produced {src : Src} {x y : Nat} {s : State} (h : (s.resOf x y).produced = true) (hlen : (s.entryBytes x y).length ≤ dataLimit src) :
    readResult src none x y s = ({ st := if (s.resOf x y).pending then stNotReady else stOk, fresh := (s.resOf x y).fresh.getLsbD (srcNum src)
                                   data := s.entryBytes x y }, seenResult src x y s) := by
  have hst : (if (s.resOf x y).pending then stNotReady else stOk) ≠ stBadLength := by
    split <;> decide
  unfold readResult
  dsimp only
  rw [if_neg (by simp [h]), sliceRes_short hlen, if_neg hst]
  rfl

theorem resOf_seenResult (src : Src) (x y : Nat) (s : State) :
    (seenResult src x y s).resOf x y = { s.resOf x y with fresh := (s.resOf x y).fresh &&& ~~~readerBit src } := by
  simp [seenResult, State.resOf, alGet_alPut_self]

theorem resOf_seenResult_ne (src : Src) {x y i j : Nat} (s : State) (h : key i j ≠ key x y) : (seenResult src x y s).resOf i j = s.resOf i j := by
  simp [seenResult, State.resOf, alGet_alPut_ne _ _ h]

/-- Clearing a reader's bit leaves every other reader's. -/
theorem readerBit_clear (src : Src) (b : BitVec 7) (k : Nat) : (b &&& ~~~readerBit src).getLsbD k = (b.getLsbD k && k != srcNum src) := by
  by_cases hk : k < 7
  · have hbit : (readerBit src).getLsbD k = decide (k = srcNum src) := by
      revert hk
      cases src <;> revert k <;> decide
    simp only [BitVec.getLsbD_and, BitVec.getLsbD_not, hk, hbit, decide_true, Bool.true_and]
    rfl
  · simp [BitVec.getLsbD_of_ge b k (by omega)]

end Sys2Proof.Machine

namespace Sys2Proof.Proofs
open Sys2Proof.Machine

/-- Settles O19: the entry is found once, its row says whether a value or a result is read, and the answer leaves on the link that asked. -/
theorem dictionaryReads : Obligations.DictionaryReads := by
  intro s src tid index sub off f hasks hindex resp only
  refine ⟨fun hsub hused => ?_, ?_⟩
  · subst hsub
    obtain ⟨l, y, hlink, hpdu, hexec⟩ := execRead_push (x := 0) hasks (.inl hindex) (readEntry_sub0 hindex hused) tid
    refine ⟨_, hexec, rfl, spoke_of_push hlink (hpdu.trans ?_) rfl⟩
    simp [resp, stOk, BitVec.toNat_eq]
  intro hsub hf hacc v r st
  have hsub' : sub.toNat ≠ 0 := fun h => hsub (BitVec.eq_of_toNat_eq h)
  refine ⟨fun hvalue hplain hlen => ?_, fun hvalue hplain hlen => ?_, fun hvalue hplain hseg => ?_, fun hresult hproduced => ?_,
    fun hresult hproduced hlen => ?_⟩
  · have hread := readEntry_value (off := none) hindex hsub' hf hacc nofun hvalue hplain
    rw [sliceRes_short hlen] at hread
    obtain ⟨l, y, hlink, hpdu, hexec⟩ := execRead_push hasks (.inl hindex) hread tid
    exact ⟨_, hexec, rfl, spoke_of_push hlink hpdu rfl⟩
  · have hread := readEntry_value (off := none) hindex hsub' hf hacc nofun hvalue hplain
    rw [sliceRes_long hlen] at hread
    obtain ⟨l, y, hlink, hpdu, hexec⟩ := execRead_push hasks (.inl hindex) hread tid
    exact ⟨_, hexec, rfl, spoke_of_push hlink hpdu rfl⟩
  · have hread := readEntry_value (off := some off.toNat) hindex hsub' hf hacc (fun _ => hseg) hvalue hplain
    obtain ⟨l, y, hlink, hpdu, hexec⟩ := execSegRead_push hasks hindex hread (by simp [sliceRes, leBytes]) tid
    exact ⟨_, hexec, rfl, spoke_of_push hlink hpdu rfl⟩
  · have hread := readEntry_found (off := none) hindex hsub' hf hacc nofun
    rw [hresult, if_pos rfl, readResult_unproduced hproduced] at hread
    obtain ⟨l, y, hlink, hpdu, hexec⟩ := execRead_push hasks (.inl hindex) hread tid
    exact ⟨_, hexec, rfl, spoke_of_push hlink hpdu rfl⟩
  · have hread := readEntry_found (off := none) hindex hsub' hf hacc nofun
    rw [hresult, if_pos rfl, readResult_produced hproduced hlen] at hread
    obtain ⟨l, y, hlink, hpdu, hexec⟩ := execRead_push hasks (.inl hindex) hread tid
    have hseen : ((seenResult src f.idx f.sub s).push l y).resOf f.idx f.sub = _ := resOf_seenResult src f.idx f.sub s
    refine ⟨_, hexec, spoke_of_push hlink hpdu rfl, fun k => ?_, by rw [hseen], fun i j hkey => resOf_seenResult_ne src s hkey, rfl⟩
    rw [hseen]
    exact readerBit_clear src r.fresh k

end Sys2Proof.Proofs
end

section
/-! SUPPORT. A WRITE of an entry of the device itself, check by check (R19 to R21, R28, R34, R35). -/

namespace Sys2Proof.Machine

/-! ### The checks of a read and of a write -/

theorem readEntry_customer {src : Src} {off : Option Nat} {i x : Nat} {s : State} (h : 0x8000 ≤ i) :
    readEntry src off i x s = ({ st := stNotReady }, s) := if_pos h

theorem readEntry_unused {src : Src} {off : Option Nat} {i x : Nat} {s : State} (hi : i < 0x5000) (h : indexUsed i s = false) :
    readEntry src off i x s = ({ st := stNoEntry }, s) := by
  have hlow : ¬0x8000 ≤ i := by omega
  simp [readEntry, hlow, h]

theorem readEntry_absent {src : Src} {off : Option Nat} {i x : Nat} {s : State} (hi : i < 0x5000) (hx : x ≠ 0) (hused : indexUsed i s = true)
    (h : findEntry src i x s = none) : readEntry src off i x s = ({ st := stNoEntry }, s) := by
  have hlow : ¬0x8000 ≤ i := by omega
  simp [readEntry, hlow, hused, hx, h]

theorem readEntry_denied {src : Src} {off : Option Nat} {i x : Nat} {s : State} {f : Found} (hi : i < 0x5000) (hx : x ≠ 0)
    (hf : findEntry src i x s = some f) (h : f.acc.reads = false) : readEntry src off i x s = ({ st := stDenied }, s) := by
  have hlow : ¬0x8000 ≤ i := by omega
  simp [readEntry, hlow, findEntry_used hf, hx, hf, h]

section
variable {src : Src} {e : Ext} {i x : Nat} {v : List Byte} {s : State} {f : Found}

theorem writeEntry_customer (h : 0x8000 ≤ i) : writeEntry src e i x v s = (stNotReady, s) := if_pos h

theorem writeEntry_unused (hi : i < 0x5000) (h : indexUsed i s = false) : writeEntry src e i x v s = (stNoEntry, s) := by
  have hlow : ¬0x8000 ≤ i := by omega
  simp [writeEntry, hlow, h]

theorem writeEntry_sub0 (hi : i < 0x5000) (hused : indexUsed i s = true) : writeEntry src e i 0 v s = (stDenied, s) := by
  have hlow : ¬0x8000 ≤ i := by omega
  simp [writeEntry, hlow, hused]

theorem writeEntry_absent (hi : i < 0x5000) (hx : x ≠ 0) (hused : indexUsed i s = true) (h : findEntry src i x s = none) :
    writeEntry src e i x v s = (stNoEntry, s) := by
  have hlow : ¬0x8000 ≤ i := by omega
  simp [writeEntry, hlow, hused, hx, h]

/-- The checks of a found entry, in order: access, value, role 0, and the entry's own. -/
theorem writeEntry_found (hi : i < 0x5000) (hx : x ≠ 0) (hf : findEntry src i x s = some f) :
    writeEntry src e i x v s =
      if f.acc.writes = false then (stDenied, s)
      else if valueCheck f.row v ≠ stOk then (valueCheck f.row v, s)
      else if f.row.role0 = true ∧ s.role ≠ 0 then (stBusy, s)
      else if entryCheck f.idx f.sub v s ≠ stOk then (entryCheck f.idx f.sub v s, s) else entryStore e f.idx f.sub f.row v s := by
  have hlow : ¬0x8000 ≤ i := by omega
  simp [writeEntry, hlow, findEntry_used hf, hx, hf]

/-- A value that passes every check is stored as its entry does. -/
theorem writeEntry_passed (hi : i < 0x5000) (hx : x ≠ 0) (hf : findEntry src i x s = some f) (hacc : f.acc.writes = true)
    (hvalue : valueCheck f.row v = stOk) (hrole : f.row.role0 = true → s.role = 0) (hentry : entryCheck f.idx f.sub v s = stOk) :
    writeEntry src e i x v s = entryStore e f.idx f.sub f.row v s := by
  have hnotBusy : ¬(f.row.role0 = true ∧ s.role ≠ 0) := fun h => h.2 (hrole h.1)
  rw [writeEntry_found hi hx hf, hacc, if_neg (by decide), hvalue, if_neg (by decide), if_neg hnotBusy, hentry, if_neg (by decide)]

theorem writeEntry_denied (hi : i < 0x5000) (hx : x ≠ 0) (hf : findEntry src i x s = some f) (hacc : f.acc.writes = false) :
    writeEntry src e i x v s = (stDenied, s) := by
  rw [writeEntry_found hi hx hf, if_pos hacc]

theorem writeEntry_badValue (hi : i < 0x5000) (hx : x ≠ 0) (hf : findEntry src i x s = some f) (hacc : f.acc.writes = true) {st : Status}
    (hvalue : valueCheck f.row v = st) (hst : st ≠ stOk) : writeEntry src e i x v s = (st, s) := by
  rw [writeEntry_found hi hx hf, if_neg (by simp [hacc]), hvalue, if_pos hst]

theorem writeEntry_busy (hi : i < 0x5000) (hx : x ≠ 0) (hf : findEntry src i x s = some f) (hacc : f.acc.writes = true)
    (hvalue : valueCheck f.row v = stOk) (hrow : f.row.role0 = true) (hrole : s.role ≠ 0) : writeEntry src e i x v s = (stBusy, s) := by
  rw [writeEntry_found hi hx hf, if_neg (by simp [hacc]), if_neg (by simp [hvalue]), if_pos ⟨hrow, hrole⟩]

end

/-! ### Legal values (R20) -/

theorem valueCheck_segmented {r : DictRow} (h : r.ty.segmented = true) (v : List Byte) :
    valueCheck r v = if lengthOk r.range v.length then stOk else stRange := if_pos h

theorem valueCheck_scalar {r : DictRow} (h : r.ty.segmented = false) (v : List Byte) :
    valueCheck r v = if v.length ≠ r.ty.width then stBadLength else if encodingOk r.ty v && scalarOk r.ty r.range v then stOk else stRange :=
  if_neg (by simp [h])

/-! ### Requests refused before they name an entry (R28) -/

theorem execBadOp_push {s : State} {src : Src} (h : Asks s src) {op : BitVec 4} (h1 : op ≠ 1) (h2 : op ≠ 2) (h8 : op ≠ 8) (tid : Byte) (i : BitVec 16)
    (x : Byte) (node : BitVec 18) :
    ∃ l y, linkNum src = some l ∧ y.pdu = { op := 4, tid := tid, index := i, sub := x, node := node, status := stBadOp } ∧
      exec (.badOpRequest src op tid i x node) s = .next (s.push l y) := by
  have hserve : serve {} { src := src, pdu := { op := op, tid := tid, index := i, sub := x, node := node } } s = ({ st := stBadOp }, s) := by
    have hunknown : (op == 1 || op == 2 || op == 8) = false := by
      rw [beq_eq_false_iff_ne.2 h1, beq_eq_false_iff_ne.2 h2, beq_eq_false_iff_ne.2 h8]
      rfl
    simp only [serve]
    rw [if_neg nofun, if_pos (by rw [hunknown]; rfl)]
  obtain ⟨l, y, hlink, hpdu, hrequest⟩ := request_push h hserve (by rw [beq_eq_false_iff_ne.2 h2]; rfl)
  refine ⟨l, y, hlink, hpdu.trans ?_, congrArg Host.Outcome.next hrequest⟩
  simp only [answer, if_neg h1, beq_eq_false_iff_ne.2 h1, Bool.false_and]

theorem execWrite_outsideWindow {s : State} {src : Src} (h : Asks s src) {node : BitVec 18} {i : BitVec 16} (hnode : node ≠ 0)
    (hi : i.toNat < 0x5000 ∨ 0x7000 ≤ i.toNat) (tid x : Byte) (v : List Byte) :
    ∃ l y, linkNum src = some l ∧ y.pdu = { op := 4, tid := tid, index := i, sub := x, node := node, status := stRange } ∧
      exec (.write src tid i x node v) s = .next (s.push l y) := by
  have hwindow : ¬(0x5000 ≤ i.toNat ∧ i.toNat < 0x7000) := by omega
  have hserve : serve {} { src := src, pdu := { op := 2, tid := tid, index := i, sub := x, node := node, data := v } } s = ({ st := stRange }, s) := by
    simp only [serve, asks_notSubset h]
    rw [if_neg nofun, if_neg (by decide), if_neg (by simp), if_pos ⟨hnode, hwindow⟩]
  obtain ⟨l, y, hlink, hpdu, hrequest⟩ := request_push h hserve (by rfl)
  exact ⟨l, y, hlink, hpdu, congrArg Host.Outcome.next hrequest⟩

end Sys2Proof.Machine

namespace Sys2Proof.Proofs
open Sys2Proof.Machine

/-- Settles O21: each check has its own lemma about `readEntry` or `writeEntry`, and a refusal is a response and nothing else. -/
theorem refusedRequests : Obligations.RefusedRequests := by
  intro s src tid index sub node op f v hasks resp only reads writes
  have hreads : ∀ st : Status, (index.toNat < 0x5000 ∨ 0x7000 ≤ index.toNat) →
      readEntry src none index.toNat sub.toNat s = ({ st := st }, s) → reads st := by
    intro st hi hread
    obtain ⟨l, y, hlink, hpdu, hexec⟩ := execRead_push hasks hi hread tid
    exact ⟨_, hexec, rfl, spoke_of_push hlink hpdu rfl⟩
  have hwrites : ∀ st : Status, (index.toNat < 0x5000 ∨ 0x7000 ≤ index.toNat) → st ≠ stOk →
      writeEntry src {} index.toNat sub.toNat v s = (st, s) → writes st := by
    intro st hi hst hwrite
    obtain ⟨l, y, hlink, hpdu, hexec⟩ := execWrite_refused hasks hi hwrite hst tid
    exact ⟨_, hexec, rfl, spoke_of_push hlink hpdu rfl⟩
  refine ⟨fun h1 h2 h8 => ?_, fun hnode hi => ?_, fun hi => ?_, fun hi hused => ?_, fun hi hused hx => ?_, fun hi hused hx hnone => ?_,
    fun hi hx hf => ?_⟩
  · obtain ⟨l, y, hlink, hpdu, hexec⟩ := execBadOp_push hasks h1 h2 h8 tid index sub node
    exact ⟨_, hexec, rfl, spoke_of_push hlink hpdu rfl⟩
  · obtain ⟨l, y, hlink, hpdu, hexec⟩ := execWrite_outsideWindow hasks hnode hi tid sub v
    exact ⟨_, hexec, rfl, spoke_of_push hlink hpdu rfl⟩
  · exact ⟨hreads _ (.inr (by omega)) (readEntry_customer hi), hwrites _ (.inr (by omega)) (by decide) (writeEntry_customer hi)⟩
  · exact ⟨hreads _ (.inl hi) (readEntry_unused hi hused), hwrites _ (.inl hi) (by decide) (writeEntry_unused hi hused)⟩
  · subst hx
    exact hwrites _ (.inl hi) (by decide) (writeEntry_sub0 hi hused)
  all_goals have hx' : sub.toNat ≠ 0 := fun h => hx (BitVec.eq_of_toNat_eq h)
  · exact ⟨hreads _ (.inl hi) (readEntry_absent hi hx' hused hnone), hwrites _ (.inl hi) (by decide) (writeEntry_absent hi hx' hused hnone)⟩
  · have hbad : ∀ st : Status, f.acc.writes = true → st ≠ stOk → valueCheck f.row v = st → writes st := fun st hacc hst hvalue =>
      hwrites _ (.inl hi) hst (writeEntry_badValue hi hx' hf hacc hvalue hst)
    refine ⟨fun hacc => ?_, fun hacc => ?_, fun hacc hty hlen => ?_, fun hacc hty hlen => ?_, fun hacc hty hlen hok => ?_, fun hacc hvalue hrow hrole => ?_⟩
    · exact hreads _ (.inl hi) (readEntry_denied hi hx' hf hacc)
    · exact hwrites _ (.inl hi) (by decide) (writeEntry_denied hi hx' hf hacc)
    · exact hbad _ hacc (by decide) (by rw [valueCheck_scalar hty, if_pos hlen]; rfl)
    · exact hbad _ hacc (by decide) (by rw [valueCheck_segmented hty, hlen]; rfl)
    · exact hbad _ hacc (by decide) (by rw [valueCheck_scalar hty, if_neg (by simp [hlen]), hok]; rfl)
    · exact hwrites _ (.inl hi) (by decide) (writeEntry_busy hi hx' hf hacc hvalue hrow hrole)

end Sys2Proof.Proofs
end

section
/-! SUPPORT. A WRITE whose entry starts nothing: what it stores, and that nothing follows its response (R20, R24, R29). -/

namespace Sys2Proof.Machine

/-! ### Entries that start nothing when they are written -/

theorem actSecurity_plain {sub : Nat} (h : sub ∉ [6, 9, 0x10, 0x11, 0x12, 0x13, 0x14, 0x15, 0x16, 0x17, 0x21, 0x34]) (v : List Byte) (s : State) :
    actSecurity sub v s = (stOk, s) := by
  unfold actSecurity
  split
  all_goals simp at h
  rw [if_neg (by omega)]

theorem actUpdate_plain {sub : Nat} (h : sub ∉ [1, 2, 3, 0x10, 0x16, 0x23, 0x32, 0x35]) (e : Ext) (v : List Byte) (s : State) :
    actUpdate e sub v s = (stOk, s) := by
  unfold actUpdate
  split
  all_goals simp at h
  rfl

theorem actModem_rf_plain {sub : Nat} (h : sub ∉ [0x11, 0x22, 0x24]) (v : List Byte) (s : State) : actModem 0x2100 sub v s = (stOk, s) := by
  unfold actModem
  rw [if_pos rfl]
  split
  all_goals simp at h
  rfl

theorem actModem_wave_plain {sub : Nat} (h : sub ∉ [1, 2, 0x15, 0x45, 0x46]) (v : List Byte) (s : State) : actModem 0x2200 sub v s = (stOk, s) := by
  unfold actModem
  rw [if_neg (by decide)]
  split
  all_goals simp at h
  rfl

theorem entryAct_plain {idx sub : Nat} (h : actsOnWrite idx sub = false) (e : Ext) (v : List Byte) (s : State) : entryAct e idx sub v s = (stOk, s) := by
  unfold entryAct
  split
  all_goals simp [actsOnWrite] at h
  case h_9 => exact actModem_rf_plain (by simpa using h) v s
  case h_10 => exact actModem_wave_plain (by simpa using h) v s
  case h_14 => exact actSecurity_plain (by simpa using h) v s
  case h_21 => exact actUpdate_plain (by simpa using h) e v s
  all_goals simp [h]

theorem notStored_plain {idx sub : Nat} (h : actsOnWrite idx sub = false) : notStored idx sub = false := by
  by_contra hstored
  simp only [notStored, Bool.not_eq_false, Bool.or_eq_true, Bool.and_eq_true, beq_iff_eq, decide_eq_true_eq, or_assoc, and_assoc] at hstored
  rcases hstored with rfl | rfl | rfl | rfl | rfl | rfl | ⟨rfl, hlow, hhigh⟩ | ⟨rfl, rfl⟩ | ⟨rfl, -⟩
  all_goals simp [actsOnWrite] at h
  omega

theorem storedFirst_plain {idx sub : Nat} (h : actsOnWrite idx sub = false) : storedFirst idx sub = false := by
  by_contra hfirst
  simp only [storedFirst, Bool.not_eq_false, Bool.or_eq_true, Bool.and_eq_true, beq_iff_eq, or_assoc] at hfirst
  rcases hfirst with ⟨rfl, rfl⟩ | ⟨rfl, rfl⟩ | ⟨rfl, rfl⟩
  all_goals simp [actsOnWrite] at h

theorem storedEffect_plain {idx sub : Nat} (h : actsOnWrite idx sub = false) (v : List Byte) (s : State) : storedEffect idx sub v s = s := by
  have hphase : ¬(idx = 0x2000 ∧ sub = 4) := by rintro ⟨rfl, rfl⟩; simp [actsOnWrite] at h
  have hshadow : ¬(idx = 0x2401 ∧ sub = 1) := by rintro ⟨rfl, rfl⟩; simp [actsOnWrite] at h
  have hpeer : ¬(idx = 0x3700 ∧ sub = 1 ∧ v = [0]) := by rintro ⟨rfl, rfl, -⟩; simp [actsOnWrite] at h
  have htwin : ¬(idx = 0x3700 ∧ (sub = 0x10 ∨ sub = 0x11)) := by rintro ⟨rfl, rfl | rfl⟩ <;> simp [actsOnWrite] at h
  rw [storedEffect, if_neg hphase, if_neg hshadow, if_neg hpeer, if_neg htwin]

theorem resetsDevice_plain {idx sub : Nat} (h : actsOnWrite idx sub = false) (v : List Byte) (s : State) : resetsDevice idx sub v s = false := by
  have hreset : idx ≠ 0x1203 := by rintro rfl; simp [actsOnWrite] at h
  simp [resetsDevice, hreset]

theorem afterResponse_plain {idx sub : Nat} (h : actsOnWrite idx sub = false) (src : Src) (v : List Byte) (s : State) :
    afterResponse src idx sub v s = s := by
  have hreinit : idx ≠ 0x1202 := by rintro rfl; simp [actsOnWrite] at h
  have hcycle : ¬(idx = 0x3300 ∧ sub = 8) := by rintro ⟨rfl, rfl⟩; simp [actsOnWrite] at h
  unfold afterResponse
  rw [if_neg hreinit, if_neg hcycle]
  split
  · rename_i hlinks
    subst hlinks
    split
    all_goals simp [actsOnWrite] at h
    rfl
  · rfl

/-- What 0x1020 shows of a node starts nothing behind its response. -/
theorem actsOnWrite_alias (sub : Nat) : actsOnWrite 0x1020 sub = false := by
  simp [actsOnWrite]

/-- An entry that starts nothing takes the value; as a request number that it holds already it stays as it is. -/
theorem entryStore_plain {idx sub : Nat} (h : actsOnWrite idx sub = false) (e : Ext) (row : DictRow) (v : List Byte) (s : State) :
    entryStore e idx sub row v s = (stOk, if row.request = true ∧ v = s.dGet idx sub then s else s.dSet idx sub v) := by
  unfold entryStore
  rw [storedFirst_plain h, notStored_plain h]
  by_cases hheld : row.request = true ∧ v = s.dGet idx sub
  · rw [if_pos hheld, if_pos hheld]
  · rw [if_neg hheld, if_neg hheld]
    simp [entryAct_plain h, storedEffect_plain h]

/-! ### What a plain write leaves -/

/-- Of the machine only the entry has changed, and it holds the value. -/
structure EntryHolds (s t : State) (idx sub : Nat) (v : List Byte) : Prop where
  value : t.dGet idx sub = v
  others : OtherEntries s t idx sub
  frame : { t with dict := s.dict } = s

theorem entryHolds_dSet (s : State) (idx sub : Nat) (v : List Byte) : EntryHolds s (s.dSet idx sub v) idx sub v :=
  ⟨dGet_dSet_self s idx sub v, fun _ _ hkey => dGet_dSet_ne s v hkey, rfl⟩

theorem EntryHolds.links {s t : State} {idx sub : Nat} {v : List Byte} (h : EntryHolds s t idx sub v) : t.links = s.links := by
  have hl := congrArg State.links h.frame
  exact hl

/-- A write that passes its checks and starts nothing is answered OK. -/
theorem writeEntry_settable {src : Src} {i : BitVec 16} {x : Byte} {f : Found} {v : List Byte} {s : State} (h : Settable s src i x f v) (e : Ext) :
    ∃ t, writeEntry src e i.toNat x.toNat v s = (stOk, t) ∧ EntryHolds s t f.idx f.sub v := by
  obtain ⟨hi, hx, hf, hacc, hplain, hvalue, hrole, hentry⟩ := h
  have hx' : x.toNat ≠ 0 := fun h => hx (BitVec.eq_of_toNat_eq h)
  refine ⟨_, (writeEntry_passed hi hx' hf hacc hvalue hrole hentry).trans (entryStore_plain hplain ..), ?_⟩
  split
  · rename_i hheld
    exact ⟨hheld.2.symm, fun _ _ _ => rfl, rfl⟩
  · exact entryHolds_dSet s _ _ v

/-- Where an entry that starts nothing is asked for, no response is followed by anything. -/
theorem settable_quiet {src : Src} {i : BitVec 16} {x : Byte} {f : Found} {v : List Byte} {s : State} (h : Settable s src i x f v) :
    actsOnWrite i.toNat x.toNat = false := by
  obtain ⟨-, -, hf, -, hplain, -⟩ := h
  rcases findEntry_cases hf with ⟨-, hidx, hsub, -⟩ | ⟨halias, -⟩
  · rw [← hidx, ← hsub]
    exact hplain
  · rw [halias]
    exact actsOnWrite_alias _

theorem asks_notAir {s : State} {src : Src} (h : Asks s src) : src ≠ .air ∧ src ≠ .firmware := by
  obtain ⟨-, -, -, l, hlink, -⟩ := h
  constructor <;> (rintro rfl; cases hlink)

/-! ### A request number that its entry holds already (R24) -/

theorem entryStore_held {e : Ext} {idx sub : Nat} {row : DictRow} {v : List Byte} {s : State} (h : row.request = true ∧ v = s.dGet idx sub) :
    entryStore e idx sub row v s = (stOk, s) := if_pos h

/-- SPI_QUAD and UART_RATE, which act on any write, are no request numbers (R48). -/
theorem settings_notRequest {i : BitVec 16} {x : Byte} {r : DictRow} (hrow : dictRow i.toNat x.toNat = some r) (hrequest : r.request = true) :
    (i == 0x1100 && (x == 0x31 || x == 0x41)) = false := by
  by_contra h
  simp only [Bool.not_eq_false, Bool.and_eq_true, Bool.or_eq_true, beq_iff_eq] at h
  obtain ⟨rfl, rfl | rfl⟩ := h
  all_goals
    obtain rfl := Option.some.inj hrow
    cases hrequest

/-- A request number written again does nothing and is answered OK. -/
theorem execWrite_held {s : State} {src : Src} (h : Asks s src) {i : BitVec 16} {x : Byte} {r : DictRow} {v : List Byte} (hi : i.toNat < 0x5000)
    (hrow : dictRow i.toNat x.toNat = some r) (hrequest : r.request = true) (hheld : v = s.dGet i.toNat x.toNat)
    (hwrite : writeEntry src {} i.toNat x.toNat v s = (stOk, s)) (tid : Byte) :
    ∃ l y, linkNum src = some l ∧ y.pdu = writeResp tid i x stOk ∧ exec (.write src tid i x 0 v) s = .next (s.push l y) := by
  have hserve : serve {} { src := src, pdu := writePdu tid i x v } s = ({ st := stOk }, s) := by
    rw [serve_write h hi, hwrite]
  have hreset : resetsDevice (writePdu tid i x v).index.toNat (writePdu tid i x v).sub.toNat (writePdu tid i x v).data s = false := by
    by_contra hreset
    simp only [resetsDevice, writePdu, Bool.not_eq_false, Bool.and_eq_true, beq_iff_eq, bne_iff_ne] at hreset
    obtain ⟨⟨hidx, hsub⟩, hnew⟩ := hreset
    rw [hidx, hsub] at hheld
    exact hnew hheld
  have hchanges : changes { src := src, pdu := writePdu tid i x v } s = false := by
    simp only [changes, writePdu, ← hheld, settings_notRequest hrow hrequest, bne_self_eq_false, Bool.or_self]
  obtain ⟨l, y, hlink, hy, hexec⟩ := request_executed h hserve
  simp only [hreset, hchanges, Bool.and_false, Bool.false_eq_true, if_false] at hexec
  exact ⟨l, y, hlink, by rw [hy, sentTo_pdu]; rfl, congrArg Host.Outcome.next hexec⟩

/-- A plain write answered OK. -/
theorem execWrite_settable {s : State} {src : Src} (h : Asks s src) {i : BitVec 16} {x : Byte} {f : Found} {v : List Byte}
    (hset : Settable s src i x f v) (tid : Byte) :
    ∃ t l y, EntryHolds s t f.idx f.sub v ∧ linkNum src = some l ∧ y.pdu = writeResp tid i x stOk ∧
      exec (.write src tid i x 0 v) s = .next (t.push l y) := by
  obtain ⟨t, hwrite, hholds⟩ := writeEntry_settable hset {}
  have hquiet := settable_quiet hset
  obtain ⟨l, y, hlink, hpdu, hexec⟩ := hostWrite_push h hset.1 (resetsDevice_plain hquiet v s) (afterResponse_plain hquiet src v) {} tid
  rw [hwrite] at hpdu hexec
  exact ⟨t, l, y, hholds, hlink, hpdu, congrArg Host.Outcome.next hexec⟩

end Sys2Proof.Machine
end

section
/-! SUPPORT. A WRITE in segments: the transfer it continues, and what its segment comes to (R29, R30). -/

namespace Sys2Proof.Machine

/-! ### The transfer that a segment names -/

/-- A host link's segment names a transfer by its link, TID, INDEX and SUB. -/
theorem named_iff {q : Req} (hsrc : q.src ≠ .air) (x : Xfer) :
    x.named q = true ↔ x.src = q.src ∧ x.tid = q.pdu.tid ∧ x.index = q.pdu.index ∧ x.sub = q.pdu.sub := by
  simp [Xfer.named, hsrc, and_assoc]

section
variable {q : Req} {buf : List Byte} {l pre post : List Xfer} (hsrc : q.src ≠ .air)
include hsrc

theorem find_named (hpre : ∀ y ∈ pre ++ post, ¬(y.src = q.src ∧ y.tid = q.pdu.tid ∧ y.index = q.pdu.index ∧ y.sub = q.pdu.sub)) :
    (pre ++ xferOf q.src q.pdu.tid q.pdu.index q.pdu.sub buf :: post).find? (fun x => x.named q) =
      some (xferOf q.src q.pdu.tid q.pdu.index q.pdu.sub buf) := by
  refine List.find?_eq_some_iff_append.2 ⟨(named_iff hsrc _).2 ⟨rfl, rfl, rfl, rfl⟩, pre, post, rfl, fun y hy => ?_⟩
  rw [Bool.not_eq_true', ← Bool.not_eq_true, named_iff hsrc]
  exact hpre y (List.mem_append_left post hy)

theorem drop_unnamed (hl : ∀ y ∈ l, ¬(y.src = q.src ∧ y.tid = q.pdu.tid ∧ y.index = q.pdu.index ∧ y.sub = q.pdu.sub)) :
    l.filter (fun x => !x.named q) = l := by
  refine List.filter_eq_self.2 fun y hy => ?_
  rw [Bool.not_eq_true', ← Bool.not_eq_true, named_iff hsrc]
  exact hl y hy

theorem drop_named (hpre : ∀ y ∈ pre ++ post, ¬(y.src = q.src ∧ y.tid = q.pdu.tid ∧ y.index = q.pdu.index ∧ y.sub = q.pdu.sub)) :
    (pre ++ xferOf q.src q.pdu.tid q.pdu.index q.pdu.sub buf :: post).filter (fun x => !x.named q) = pre ++ post := by
  have hnamed : (xferOf q.src q.pdu.tid q.pdu.index q.pdu.sub buf).named q = true := (named_iff hsrc _).2 ⟨rfl, rfl, rfl, rfl⟩
  rw [List.filter_append, List.filter_cons_of_neg (by simp [hnamed]), ← List.filter_append, drop_unnamed hsrc hpre]

theorem find_unnamed (hl : ∀ y ∈ l, ¬(y.src = q.src ∧ y.tid = q.pdu.tid ∧ y.index = q.pdu.index ∧ y.sub = q.pdu.sub)) :
    l.find? (fun x => x.named q) = none :=
  List.find?_eq_none.2 fun y hy => by
    rw [named_iff hsrc]
    exact hl y hy

end

/-! ### What a segment comes to -/

/-- The state with these transfers open. -/
def withXfers (l : List Xfer) (s : State) : State := linksMod (fun k => { k with xfers := l }) s

theorem xferDrop_eq {q : Req} {s : State} {l : List Xfer} (h : s.links.xfers.filter (fun y => !y.named q) = l) : xferDrop q s = withXfers l s := by
  subst h
  rfl

/-- The request of a segment. -/
def segReq (src : Src) (tid : Byte) (i : BitVec 16) (x : Byte) (off : BitVec 32) (last : Bool) (data : List Byte) : Req :=
  { src := src, pdu := segPdu tid i x 0 off last data }

/-- An entry that a link may write in segments, and that is not the staging slot. -/
structure Segmentable (s : State) (src : Src) (i : BitVec 16) (x : Byte) (f : Found) : Prop where
  index : i.toNat < 0x5000
  sub : x ≠ 0
  found : findEntry src i.toNat x.toNat s = some f
  writes : f.acc.writes = true
  segmented : f.row.ty.segmented = true
  notStaged : ¬(f.idx = 0x3500 ∧ f.sub = 2)

section
variable {s : State} {src : Src} {i : BitVec 16} {x : Byte} {f : Found} (h : Segmentable s src i x f) (tid : Byte) (off : BitVec 32) (last : Bool)
  (data : List Byte)
include h

theorem segTarget_ok : segTarget (segReq src tid i x off last data) s = stOk := by
  obtain ⟨hi, hx, hf, hacc, hseg, -⟩ := h
  have hx' : x.toNat ≠ 0 := fun h => hx (BitVec.eq_of_toNat_eq h)
  have hlow : ¬0x8000 ≤ i.toNat := by omega
  obtain ⟨hnowindow, hnoproxy⟩ := own_index (.inl hi)
  simp only [segTarget, segReq, segPdu, hnowindow, hnoproxy, hlow, findEntry_used hf, hx', hf, hacc, hseg, Bool.not_true, Bool.false_eq_true, if_false,
    if_true]

theorem isStageData_segReq : isStageData (segReq src tid i x off last data) s = false := by
  obtain ⟨-, -, hf, -, -, hstage⟩ := h
  simp only [isStageData, segReq, segPdu, hf]
  simpa using hstage

/-- A segment of an entry that takes segments is held against the transfer it names. -/
theorem segWrite_open (e : Ext) : segWrite e (segReq src tid i x off last data) s =
    match s.links.xfers.find? (fun y => y.named (segReq src tid i x off last data)) with
    | some y => if off.toNat = y.buf.length then segAccept e (segReq src tid i x off last data) y.buf data s
        else (stAborted, xferDrop (segReq src tid i x off last data) s)
    | none => if off.toNat ≠ 0 then (stAborted, s)
        else if s.links.xfers.any (fun y => y.index == i && y.sub == x && y.node == 0) then (stBusy, s)
        else segAccept e (segReq src tid i x off last data) [] data s := by
  have hoff : leNat ((segReq src tid i x off last data).pdu.data.take 4) = off.toNat := by
    have htake : (segReq src tid i x off last data).pdu.data.take 4 = leBytes 4 off.toNat := List.take_left' (leBytes_length 4 _)
    rw [htake, leNat_word]
  have hdata : (segReq src tid i x off last data).pdu.data.drop 4 = data := List.drop_left' (leBytes_length 4 _)
  have hlong : ¬(segReq src tid i x off last data).pdu.data.length < 4 := by
    simp [segReq, segPdu, leBytes_length]
  unfold segWrite
  simp only [hoff, hdata, hlong, segTarget_ok h, ne_eq, not_true_eq_false, if_false]
  rfl

theorem segAccept_more (e : Ext) (buf : List Byte) {l : List Xfer}
    (hdrop : s.links.xfers.filter (fun y => !y.named (segReq src tid i x off false data)) = l) :
    segAccept e (segReq src tid i x off false data) buf data s = (stOk, withXfers (l ++ [xferOf src tid i x (buf ++ data)]) s) := by
  subst hdrop
  simp only [segAccept, isStageData_segReq h, Bool.false_eq_true, if_false, ne_eq, not_true_eq_false]
  rfl

theorem segAccept_last (e : Ext) (buf : List Byte) : segAccept e (segReq src tid i x off true data) buf data s =
    writeEntry src e i.toNat x.toNat (buf ++ data) (xferDrop (segReq src tid i x off true data) s) := by
  obtain ⟨hnowindow, hnoproxy⟩ := own_index (.inl h.index)
  have hwhole : ∀ (v : List Byte) (t : State), writeTarget e (segReq src tid i x off true data) v t = writeEntry src e i.toNat x.toNat v t := by
    intro v t
    simp only [writeTarget, segReq, segPdu, hnowindow, hnoproxy, if_false]
  simp only [segAccept, isStageData_segReq h, Bool.false_eq_true, if_false, ne_eq, not_true_eq_false, hwhole]
  rfl

end

/-- A segment's status is all that leaves. -/
theorem execSegWrite_push {s t : State} {src : Src} (h : Asks s src) {tid x : Byte} {i : BitVec 16} {off : BitVec 32} {last : Bool} {data : List Byte}
    {st : Status} (hwrite : segWrite {} (segReq src tid i x off last data) s = (st, t)) :
    ∃ l y, linkNum src = some l ∧ y.pdu = writeResp tid i x st ∧ exec (.segWrite src tid i x 0 off last data) s = .next (t.push l y) := by
  have hserve : serve {} { src := src, pdu := segPdu tid i x 0 off last data } s = ({ st := st }, t) := by
    rw [serve_op h rfl (.inl rfl) {} (.inr (.inl rfl))]
    rw [segReq] at hwrite
    simp only [hwrite]
    rfl
  obtain ⟨l, y, hlink, hpdu, hrequest⟩ := request_push h hserve rfl
  exact ⟨l, y, hlink, hpdu, congrArg Host.Outcome.next hrequest⟩

theorem execDtpAbort_push {s t : State} {src : Src} (h : Asks s src) {tid x : Byte} {i : BitVec 16} {st : Status}
    (habort : abortXfer { src := src, pdu := { op := 8, tid := tid, index := i, sub := x } } s = (st, t)) :
    ∃ l y, linkNum src = some l ∧ y.pdu = writeResp tid i x st ∧ exec (.dtpAbort src tid i x 0) s = .next (t.push l y) := by
  have hserve : serve {} { src := src, pdu := { op := 8, tid := tid, index := i, sub := x } } s = ({ st := st }, t) := by
    rw [serve_op h rfl (.inl rfl) {} (.inr (.inr rfl)), habort]
    rfl
  obtain ⟨l, y, hlink, hpdu, hrequest⟩ := request_push h hserve rfl
  exact ⟨l, y, hlink, hpdu, congrArg Host.Outcome.next hrequest⟩

end Sys2Proof.Machine

namespace Sys2Proof.Proofs
open Sys2Proof.Machine

/-- Settles O20: a value that passes every check is stored where nothing starts; a request number held already is not stored again; the last segment
drops the transfer and writes the whole value. -/
theorem dictionaryWrites : Obligations.DictionaryWrites := by
  intro s src tid index sub f v w hasks
  refine ⟨fun hset _ => ?_, fun hi hx hf hacc hrequest hvalue hrole hentry hheld hidx hsub => ?_, fun hset hseg hxfers hlen => ?_⟩
  · obtain ⟨t, l, y, hholds, hlink, hpdu, hexec⟩ := execWrite_settable hasks hset tid
    have ho : t.links.outbox = s.links.outbox := by rw [hholds.links]
    have hframe := congrArg (fun u : State => { u with links := { u.links with outbox := s.links.outbox } }) hholds.frame
    exact ⟨_, hexec, hholds.value, hholds.others, spoke_of_push hlink hpdu ho, hframe⟩
  · have hx' : sub.toNat ≠ 0 := fun h => hx (BitVec.eq_of_toNat_eq h)
    have hwrite := writeEntry_passed (e := {}) hi hx' hf hacc hvalue hrole hentry
    rw [entryStore_held ⟨hrequest, hheld⟩] at hwrite
    have hrow : dictRow index.toNat sub.toNat = some f.row := by
      rcases findEntry_cases hf with ⟨hrow, -⟩ | ⟨halias, -, htarget⟩
      · exact hrow
      · omega
    rw [← hidx, ← hsub] at hheld
    obtain ⟨l, y, hlink, hpdu, hexec⟩ := execWrite_held hasks hi hrow hrequest hheld hwrite tid
    exact ⟨_, hexec, spoke_of_push hlink hpdu rfl, rfl⟩
  · have hsrc := (asks_notAir hasks).1
    have hopen : Segmentable s src index sub f := by
      obtain ⟨hi, hx, hf, hacc, hplain, -⟩ := hset
      refine ⟨hi, hx, hf, hacc, hseg, ?_⟩
      rintro ⟨hidx, hsub⟩
      rw [hidx, hsub] at hplain
      exact absurd hplain (by decide)
    have hoff : (BitVec.ofNat 32 v.length).toNat = v.length := by
      rw [BitVec.toNat_ofNat, Nat.mod_eq_of_lt hlen]
    let q := segReq src tid index sub (BitVec.ofNat 32 v.length) true w
    have hset' : Settable (xferDrop q s) src index sub f (v ++ w) := hset
    obtain ⟨t, hwrite, hholds⟩ := writeEntry_settable hset' {}
    have hsegment : segWrite {} q s = (stOk, t) := by
      have hfind : s.links.xfers.find? (fun y => y.named q) = some (xferOf src tid index sub v) := by
        rw [hxfers]
        exact find_named (q := q) (pre := []) (post := []) hsrc nofun
      rw [segWrite_open hopen, hfind]
      exact (if_pos hoff).trans ((segAccept_last hopen tid _ w {} v).trans hwrite)
    obtain ⟨l, y, hlink, hpdu, hexec⟩ := execSegWrite_push hasks hsegment
    have hlinks : t.links = (xferDrop q s).links := hholds.links
    have ho : t.links.outbox = s.links.outbox := by rw [hlinks]; rfl
    have hx : t.links.xfers = [] := by
      rw [hlinks]
      have hdrop : (xferDrop q s).links.xfers = s.links.xfers.filter (fun y => !y.named q) := rfl
      rw [hdrop, hxfers]
      exact drop_named (q := q) (pre := []) (post := []) hsrc nofun
    have hframe := congrArg (fun u : State => { u with links := s.links }) hholds.frame
    exact ⟨_, hexec, hholds.value, hholds.others, hx, spoke_of_push hlink hpdu ho, hframe⟩

end Sys2Proof.Proofs
end

section
/-! SUPPORT. How a segmented write goes on and how it ends (R29, R30). -/

namespace Sys2Proof.Machine

/-! ### Transfers that end -/

theorem abortXfer_named {q : Req} {s : State} {x : Xfer} (h : s.links.xfers.find? (fun y => y.named q) = some x) :
    abortXfer q s = (stAborted, xferDrop q s) := by
  have hnamed := List.find?_some h
  have hany : s.links.xfers.any (fun y => y.named q) = true :=
    List.any_eq_true.2 ⟨x, List.mem_of_find?_eq_some h, hnamed⟩
  exact if_pos hany

theorem abortXfer_unnamed {q : Req} {s : State} (h : s.links.xfers.find? (fun y => y.named q) = none) : abortXfer q s = (stOk, s) := by
  have hany : ¬s.links.xfers.any (fun y => y.named q) = true := by
    rw [List.any_eq_true]
    rintro ⟨x, hx, hnamed⟩
    exact List.find?_eq_none.1 h x hx hnamed
  exact if_neg hany

theorem takeFirst_of_first {α : Type} {p : α → Bool} {pre post : List α} {x : α} (hpre : ∀ y ∈ pre, p y = false) (hx : p x = true) :
    takeFirst p (pre ++ x :: post) = some (x, pre ++ post) := by
  induction pre with
  | nil => simp [takeFirst, hx]
  | cons y pre ih =>
    obtain ⟨hy, hpre⟩ := List.forall_mem_cons.1 hpre
    simp [takeFirst, hy, ih hpre]

/-- The oldest transfer of a link and TID is dropped, and an ABORT PDU goes to its link. -/
theorem execSegmentTimeout_push {s : State} {src : Src} {tid : Byte} {l : Fin 5} {x : Xfer} {pre post : List Xfer} (hlink : linkNum src = some l)
    (hup : s.linkUp l = true) (hxfers : s.links.xfers = pre ++ x :: post) (hsrc : x.src = src) (htid : x.tid = tid)
    (hpre : ∀ z ∈ pre, ¬(z.src = src ∧ z.tid = tid)) :
    ∃ y : Sent, y.pdu = { op := 8, tid := tid, index := x.index, sub := x.sub, node := x.node, status := stAborted } ∧
      exec (.segmentTimeout src tid) s = .next ((withXfers (pre ++ post) s).push l y) := by
  have htake : takeFirst (fun y : Xfer => y.src == src && y.tid == tid) s.links.xfers = some (x, pre ++ post) := by
    rw [hxfers]
    exact takeFirst_of_first (fun z hz => by simpa using hpre z hz) (by simp [hsrc, htid])
  let p : Pdu := { op := 8, tid := tid, index := x.index, sub := x.sub, node := x.node, status := stAborted }
  refine ⟨sentTo { src := src, pdu := p, mac := x.mac } p s, sentTo_pdu _ _ s, congrArg Host.Outcome.next ?_⟩
  unfold segmentTimeout
  simp only [htake]
  exact respondTo_up (q := { src := src, pdu := p, mac := x.mac }) hlink hup p _

/-! ### Segments in and out of order -/

section
variable {s : State} {src : Src} {i : BitVec 16} {x : Byte} {f : Found} {tid : Byte} {buf data : List Byte} {off : BitVec 32} {pre post : List Xfer}

theorem segWrite_first (h : Segmentable s src i x f) (hsrc : src ≠ .air) (hfree : ∀ y ∈ s.links.xfers, ¬(y.index = i ∧ y.sub = x)) :
    segWrite {} (segReq src tid i x 0 false data) s = (stOk, withXfers (s.links.xfers ++ [xferOf src tid i x data]) s) := by
  have hothers : ∀ y ∈ s.links.xfers, ¬(y.src = src ∧ y.tid = tid ∧ y.index = i ∧ y.sub = x) := fun y hy h => hfree y hy ⟨h.2.2.1, h.2.2.2⟩
  have hunheld : ¬s.links.xfers.any (fun y => y.index == i && y.sub == x && y.node == 0) = true := by
    rw [List.any_eq_true]
    rintro ⟨y, hy, hheld⟩
    simp only [Bool.and_eq_true, beq_iff_eq] at hheld
    exact hfree y hy hheld.1
  have hfind : s.links.xfers.find? (fun y => y.named (segReq src tid i x 0 false data)) = none := find_unnamed hsrc hothers
  rw [segWrite_open h, hfind]
  exact (if_neg (by decide)).trans ((if_neg hunheld).trans (segAccept_more h _ _ _ _ _ (drop_unnamed hsrc hothers)))

variable (hsrc : src ≠ .air) (hxfers : s.links.xfers = pre ++ xferOf src tid i x buf :: post)
  (hothers : ∀ y ∈ pre ++ post, ¬(y.src = src ∧ y.tid = tid ∧ y.index = i ∧ y.sub = x))
include hsrc hxfers hothers

theorem xfers_find {q : Req} (hq : q.src = src ∧ q.pdu.tid = tid ∧ q.pdu.index = i ∧ q.pdu.sub = x) :
    s.links.xfers.find? (fun y => y.named q) = some (xferOf src tid i x buf) := by
  obtain ⟨rfl, rfl, rfl, rfl⟩ := hq
  rw [hxfers]
  exact find_named hsrc hothers

theorem xfers_drop {q : Req} (hq : q.src = src ∧ q.pdu.tid = tid ∧ q.pdu.index = i ∧ q.pdu.sub = x) :
    s.links.xfers.filter (fun y => !y.named q) = pre ++ post := by
  obtain ⟨rfl, rfl, rfl, rfl⟩ := hq
  rw [hxfers]
  exact drop_named hsrc hothers

theorem segWrite_next (h : Segmentable s src i x f) (hoff : off.toNat = buf.length) :
    segWrite {} (segReq src tid i x off false data) s = (stOk, withXfers (pre ++ post ++ [xferOf src tid i x (buf ++ data)]) s) := by
  let q := segReq src tid i x off false data
  have hfind := xfers_find (q := q) hsrc hxfers hothers ⟨rfl, rfl, rfl, rfl⟩
  have hdrop := xfers_drop (q := q) hsrc hxfers hothers ⟨rfl, rfl, rfl, rfl⟩
  rw [segWrite_open h, hfind]
  exact (if_pos hoff).trans (segAccept_more h _ _ _ _ _ hdrop)

theorem segWrite_astray (h : Segmentable s src i x f) (hoff : off.toNat ≠ buf.length) :
    segWrite {} (segReq src tid i x off false data) s = (stAborted, withXfers (pre ++ post) s) := by
  let q := segReq src tid i x off false data
  have hfind := xfers_find (q := q) hsrc hxfers hothers ⟨rfl, rfl, rfl, rfl⟩
  have hdrop := xfers_drop (q := q) hsrc hxfers hothers ⟨rfl, rfl, rfl, rfl⟩
  rw [segWrite_open h, hfind]
  exact (if_neg hoff).trans (congrArg _ (xferDrop_eq hdrop))

end

end Sys2Proof.Machine

namespace Sys2Proof.Proofs
open Sys2Proof.Machine

/-- Settles O22: a segment's fate turns on the transfer that it names and the offset reached, and only the link's transfers change. -/
theorem segmentedTransfers : Obligations.SegmentedTransfers := by
  intro s src tid index sub off f buf data pre post x only open_
  have hopened : open_ → Segmentable s src index sub f := fun ⟨hi, hx, hf, hacc, hseg, hstage⟩ => ⟨hi, hx, hf, hacc, hseg, hstage⟩
  refine ⟨fun hasks hopen hfree => ?_, fun hasks hxfers hothers => ?_, fun hasks hi hothers => ?_, fun l y hlink hup hxfers hsrc htid hpre => ?_⟩
  · have hwrite := segWrite_first (tid := tid) (data := data) (hopened hopen) (asks_notAir hasks).1 hfree
    obtain ⟨l, y, hlink, hpdu, hexec⟩ := execSegWrite_push hasks hwrite
    exact ⟨_, hexec, rfl, spoke_of_push hlink hpdu rfl, rfl⟩
  · have hsrc := (asks_notAir hasks).1
    refine ⟨fun hopen hoff => ?_, fun hopen hoff => ?_, fun hi => ?_⟩
    · have hwrite := segWrite_next (data := data) hsrc hxfers hothers (hopened hopen) hoff
      obtain ⟨l, y, hlink, hpdu, hexec⟩ := execSegWrite_push hasks hwrite
      exact ⟨_, hexec, rfl, spoke_of_push hlink hpdu rfl, rfl⟩
    · have hwrite := segWrite_astray (data := data) hsrc hxfers hothers (hopened hopen) hoff
      obtain ⟨l, y, hlink, hpdu, hexec⟩ := execSegWrite_push hasks hwrite
      exact ⟨_, hexec, rfl, spoke_of_push hlink hpdu rfl, rfl⟩
    · let q : Req := { src := src, pdu := { op := 8, tid := tid, index := index, sub := sub } }
      have hq : q.src = src ∧ q.pdu.tid = tid ∧ q.pdu.index = index ∧ q.pdu.sub = sub := ⟨rfl, rfl, rfl, rfl⟩
      have habort := abortXfer_named (xfers_find hsrc hxfers hothers hq)
      rw [xferDrop_eq (xfers_drop hsrc hxfers hothers hq)] at habort
      obtain ⟨l, y, hlink, hpdu, hexec⟩ := execDtpAbort_push hasks habort
      exact ⟨_, hexec, rfl, spoke_of_push hlink hpdu rfl, rfl⟩
  · let q : Req := { src := src, pdu := { op := 8, tid := tid, index := index, sub := sub } }
    have habort := abortXfer_unnamed (find_unnamed (q := q) (asks_notAir hasks).1 hothers)
    obtain ⟨l, y, hlink, hpdu, hexec⟩ := execDtpAbort_push hasks habort
    exact ⟨_, hexec, spoke_of_push hlink hpdu rfl, rfl⟩
  · obtain ⟨z, hpdu, hexec⟩ := execSegmentTimeout_push hlink hup hxfers hsrc htid hpre
    exact ⟨_, hexec, rfl, rfl, spoke_of_push hlink hpdu rfl⟩

end Sys2Proof.Proofs
end

section
/-! SUPPORT. Frames of the host links: the requests they carry, and what becomes of a frame that carries none (R31, R36 to R42, R537). -/

namespace Sys2Proof.Machine

/-! ### Counters of bad frames (R449) -/

/-- A U32 counter counts up by one and stops at its top. -/
theorem dU_dBump {x y : Nat} (hwidth : entryWidth x y = 4) (s : State) : (s.dBump x y).dU x y = min (s.dU x y + 1) (2 ^ 32 - 1) := by
  rw [State.dBump, dU_dPut_self, hwidth, sat32, satAdd]
  split <;> omega

theorem otherEntries_dBump (s : State) (x y : Nat) : OtherEntries s (s.dBump x y) x y := fun _ _ hkey => dGet_dPut_ne s _ hkey

/-! ### Requests taken (R31) -/

/-- The state in which a request waits behind the others. -/
def withWaiting (q : Req) (s : State) : State := linksMod (fun l => { l with waiting := l.waiting ++ [q] }) s

theorem takeReq_room {q : Req} {s : State} (hanswers : answers q.src s = true) (hroom : (s.links.waiting.filter (fun r => r.src == q.src)).length < 4) :
    takeReq q s = withWaiting q s := by
  unfold takeReq
  rw [hanswers, if_neg (by decide), if_neg (by omega)]
  rfl

/-- The fifth request of a link is answered BUSY at once. -/
theorem takeReq_full {q : Req} {s : State} (hanswers : answers q.src s = true) (hfull : ¬(s.links.waiting.filter (fun r => r.src == q.src)).length < 4) :
    takeReq q s = respondTo s q (answer q.pdu stBusy false []) s := by
  unfold takeReq
  rw [hanswers, if_neg (by decide), if_pos (by omega)]
  rfl

/-- A frame of one request. -/
theorem takeAll_one (src : Src) (mac : BitVec 48) (p : Pdu) (s : State) : takeAll src mac [p] s = takeReq { src := src, pdu := p, mac := mac } s := rfl

theorem answers_main {src : Src} {l : Fin 5} {s : State} (hlink : linkNum src = some l) (hup : s.linkUp l = true) (hserving : s.links.serving = .main) :
    answers src s = true := by
  simp [answers, hlink, hup, hserving]

/-- The boot ROM answers on the UART too (R42). -/
theorem answers_uart {s : State} (hup : s.linkUp 4 = true) (hserving : s.links.serving ≠ .none) : answers .uart s = true := by
  unfold answers linkNum
  cases h : s.links.serving <;> simp_all

/-! ### CAN FD (R36, R37) -/

/-- The link of a CAN FD controller. -/
theorem linkNum_can (c : Bool) : linkNum (if c then .can1 else .can0) = some (if c then 1 else 0) := by
  cases c <;> rfl

theorem canFrameReceive_other {c : Bool} {ident : BitVec 11} {s : State}
    (h : s.linkUp (if c then 1 else 0) = false ∨ ident.toNat ≠ 0x300 + (vget s.links.can (if c then 1 else 0)).address) (data : List Byte) :
    canFrameReceive c ident data s = s := by
  refine if_pos ?_
  rcases h with h | h <;> simp [h]

theorem canFrameReceive_own {c : Bool} {ident : BitVec 11} {s : State} (hup : s.linkUp (if c then 1 else 0) = true)
    (hident : ident.toNat = 0x300 + (vget s.links.can (if c then 1 else 0)).address) (data : List Byte) :
    canFrameReceive c ident data s = match canReq (if c then .can1 else .can0) data with
      | none => s.dBump 0x1100 0x18
      | some q => takeReq q s := by
  refine if_neg ?_
  simp [hup, hident]

theorem canReq_pdu {src : Src} {p : Pdu} (hrsv : p.rsv = false) (hdata : p.data.length ≤ 1024) (pad : List Byte) :
    canReq src (pduBytes p ++ pad) = some { src := src, pdu := p } := by
  rw [canReq, pduOf_pduBytes hrsv hdata]

/-- A frame shorter than a header carries no request. -/
theorem canReq_short {src : Src} {data : List Byte} (h : data.length < 12) : canReq src data = none := by
  have hnone : pduOf data = none := if_pos h
  unfold canReq
  rw [hnone]
  dsimp only
  split
  · rw [if_pos h]
  · rfl

/-! ### 10BASE-T1S (R39) -/

theorem t1sRequests_one {p : Pdu} (hrsv : p.rsv = false) (hdata : p.data.length ≤ 1024) (pad : List Byte) :
    t1sRequests ([1, 0] ++ (pduBytes p ++ pad)) = some [p] := by
  have hdrop : ([1, 0] ++ (pduBytes p ++ pad) : List Byte).drop 2 = pduBytes p ++ pad := rfl
  have hcount : leNat (([1, 0] ++ (pduBytes p ++ pad) : List Byte).take 2) = 1 := rfl
  have hwhole : ¬1500 < 2 + 12 + p.data.length := by omega
  have hpdus : t1sPdus ([1, 0] ++ (pduBytes p ++ pad)) 1 2 = some [p] := by
    rw [t1sPdus]
    simp only [Nat.reduceMod, Nat.reduceAdd, hdrop, pduOf_pduBytes hrsv hdata]
    rw [if_neg hwhole, t1sPdus]
    rfl
  unfold t1sRequests
  simp only [hcount, hpdus]
  exact if_neg (by simp)

/-- The parts of an Ethernet frame. -/
theorem ethernet_parts {dst src : Nat} {ether payload : List Byte} (hether : ether.length = 2) (hdst : dst < 256 ^ 6) (hsrc : src < 256 ^ 6) :
    let frame := beBytes 6 dst ++ (beBytes 6 src ++ (ether ++ payload))
    beNat (frame.take 6) = dst ∧ beNat ((frame.drop 6).take 6) = src ∧ (frame.drop 12).take 2 = ether ∧ frame.drop 14 = payload ∧ 14 ≤ frame.length := by
  have hdrop : (beBytes 6 dst ++ (beBytes 6 src ++ (ether ++ payload))).drop 12 = ether ++ payload := by
    rw [show 12 = 6 + 6 from rfl, ← List.drop_drop, List.drop_left' (beBytes_length 6 dst), List.drop_left' (beBytes_length 6 src)]
  refine ⟨?_, ?_, ?_, ?_, ?_⟩
  · rw [List.take_left' (beBytes_length 6 dst), beNat_beBytes, Nat.mod_eq_of_lt hdst]
  · rw [List.drop_left' (beBytes_length 6 dst), List.take_left' (beBytes_length 6 src), beNat_beBytes, Nat.mod_eq_of_lt hsrc]
  · rw [hdrop, List.take_left' hether]
  · rw [show 14 = 12 + 2 from rfl, ← List.drop_drop, hdrop, List.drop_left' hether]
  · simp [hether]
    omega

/-- A DTP frame of one request to the port's own address. -/
theorem t1sFrameReceive_request {s : State} {p : Pdu} (hrsv : p.rsv = false) (hdata : p.data.length ≤ 1024) (hup : s.linkUp 2 = true)
    (hown : s.links.t1s.mac.toNat ≠ 0xFFFFFFFFFFFF) (mac : BitVec 48) (pad : List Byte) :
    t1sFrameReceive (beBytes 6 s.links.t1s.mac.toNat ++ beBytes 6 mac.toNat ++ [0x88, 0xB5, 1, 0] ++ pduBytes p ++ pad) s =
      takeReq { src := .t1s, pdu := p, mac := mac } s := by
  have hform : beBytes 6 s.links.t1s.mac.toNat ++ beBytes 6 mac.toNat ++ [0x88, 0xB5, 1, 0] ++ pduBytes p ++ pad =
      beBytes 6 s.links.t1s.mac.toNat ++ (beBytes 6 mac.toNat ++ ([0x88, 0xB5] ++ ([1, 0] ++ (pduBytes p ++ pad)))) := by
    simp
  obtain ⟨hdst, hsrc, hether, hpayload, hlen⟩ := ethernet_parts (dst := s.links.t1s.mac.toNat) (src := mac.toNat) (ether := [0x88, 0xB5])
    (payload := [1, 0] ++ (pduBytes p ++ pad)) rfl (by omega) (by omega)
  have hbroadcast : s.links.t1s.mac.toNat ≠ t1sBroadcast := hown
  have hdtp : beNat [0x88, 0xB5] = 0x88B5 := rfl
  rw [hform]
  unfold t1sFrameReceive
  simp only [hdst, hsrc, hether, hpayload, hup, t1sRequests_one hrsv hdata, hdtp]
  rw [if_neg (by simpa using hlen), if_neg (by simp), if_neg (by simp), if_neg hbroadcast, takeAll_one, BitVec.ofNat_toNat]
  rfl

theorem t1sFrameReceive_firmware {s : State} {frame : List Byte} (hup : s.linkUp 2 = true) (hlen : 14 ≤ frame.length)
    (hether : beNat ((frame.drop 12).take 2) ≠ 0x88B5) :
    t1sFrameReceive frame s = linksMod (fun l => { l with t1sRx := l.t1sRx ++ [frame] }) s := by
  have hlong : ¬((!s.linkUp 2 || decide (frame.length < 14)) = true) := by
    simpa [hup] using hlen
  unfold t1sFrameReceive
  dsimp only
  rw [if_neg hlong, if_pos hether]

/-! ### The UART (R42) -/

/-- A frame of one PDU reads back as that PDU. -/
theorem readFrame_one {p : Pdu} (hrsv : p.rsv = false) (hdata : p.data.length ≤ 1024) : readFrame (frameOf (pduBytes p)) = .pdus [p] := by
  have h := readFrame_pdus (ps := [p]) (by simp [hrsv, hdata])
    (by simp only [List.flatMap_cons, List.flatMap_nil, List.append_nil, pduBytes_length]; omega)
  simpa using h

theorem uartFrameReceive_request {s : State} {frame : List Byte} {p : Pdu} (hrsv : p.rsv = false) (hdata : p.data.length ≤ 1024)
    (hanswers : answers .uart s = true) (hframe : unescape frame = some (frameOf (pduBytes p))) :
    uartFrameReceive frame s = takeReq { src := .uart, pdu := p } s := by
  have hcount : leNat ((frameOf (pduBytes p)).take 2) = (pduBytes p).length := frameOf_count (by rw [pduBytes_length]; omega)
  unfold uartFrameReceive
  simp only [hanswers, hframe, readFrame_one hrsv hdata, hcount, frameOf_length, Bool.not_true, Bool.false_eq_true, if_false, if_true]
  rfl

end Sys2Proof.Machine

namespace Sys2Proof.Proofs
open Sys2Proof.Machine

/-- Settles O24: each frame's bytes are read back as the request they carry, and the request is taken where there is room. -/
theorem hostFrames : Obligations.HostFrames := by
  intro s c ident p pad frame mac hrsv hdata src k room taken
  refine ⟨fun hup hserving hident => ?_, fun hother => ?_, rfl, fun hup hserving hroom hown => ?_, fun hup hlen hether => ?_,
    fun hup hserving hroom hframe => ?_⟩
  · have hanswers : answers src s = true := answers_main (linkNum_can c) hup hserving
    have hframe : canFrameReceive c ident (pduBytes p ++ pad) s = takeReq { src := src, pdu := p } s := by
      rw [canFrameReceive_own hup hident, canReq_pdu hrsv hdata]
    refine ⟨fun hroom => congrArg Host.Outcome.next (hframe.trans (takeReq_room hanswers hroom)), fun hfull => ?_, fun hshort => ?_⟩
    · have hbusy := hframe.trans (takeReq_full hanswers hfull)
      rw [respondTo_up (q := { src := src, pdu := p }) (linkNum_can c) hup] at hbusy
      exact ⟨_, congrArg Host.Outcome.next hbusy, spoke_of_push (linkNum_can c) (sentTo_pdu _ _ s) rfl, rfl⟩
    · have hcounted : canFrameReceive c ident frame s = s.dBump 0x1100 0x18 := by
        rw [canFrameReceive_own hup hident, canReq_short hshort]
      exact ⟨_, congrArg Host.Outcome.next hcounted, dU_dBump rfl s, otherEntries_dBump s _ _, rfl⟩
  · exact congrArg Host.Outcome.next (canFrameReceive_other hother frame)
  · have hanswers : answers .t1s s = true := answers_main rfl hup hserving
    exact congrArg Host.Outcome.next ((t1sFrameReceive_request hrsv hdata hup hown mac pad).trans (takeReq_room hanswers hroom))
  · exact congrArg Host.Outcome.next (t1sFrameReceive_firmware hup hlen hether)
  · have hanswers := answers_uart hup hserving
    exact congrArg Host.Outcome.next ((uartFrameReceive_request hrsv hdata hanswers hframe).trans (takeReq_room hanswers hroom))

end Sys2Proof.Proofs
end

section
/-! SUPPORT. The host SPI port: its status, its write and read frames, and a command it does not know (R40, R41, R537). -/

namespace Sys2Proof.Machine

/-- The state with what the port drives on SPI_IO1. -/
def withMiso (b : List Byte) (s : State) : State := linksMod (fun l => { l with miso := b }) s

/-! ### A port that does not answer -/

section
variable {s : State} (h : spiAnswers s = false)
include h

theorem spiReadStatus_dark : spiReadStatus s = withMiso [] s := if_pos (by rw [h]; rfl)

theorem spiWriteFrame_dark (bytes : List Byte) : spiWriteFrame bytes s = withMiso [] s := if_pos (by rw [h]; rfl)

theorem spiReadFrame_dark (n : Nat) : spiReadFrame n s = withMiso [] s := if_pos (by rw [h]; rfl)

theorem spiUnknownCommand_dark (c : Byte) : spiUnknownCommand c s = withMiso [] s := if_pos (by rw [h]; rfl)

end

/-! ### Status -/

/-- Seven flags from bit 7 down to bit 1, with bit 0 clear. -/
theorem sevenFlags (b₇ b₆ b₅ b₄ b₃ b₂ b₁ : Bool) :
    let b := BitVec.ofNat 8 (128 * b2n b₇ + 64 * b2n b₆ + 32 * b2n b₅ + 16 * b2n b₄ + 8 * b2n b₃ + 4 * b2n b₂ + 2 * b2n b₁)
    b.getLsbD 7 = b₇ ∧ b.getLsbD 6 = b₆ ∧ b.getLsbD 5 = b₅ ∧ b.getLsbD 4 = b₄ ∧ b.getLsbD 3 = b₃ ∧ b.getLsbD 2 = b₂ ∧ b.getLsbD 1 = b₁ ∧
      b.getLsbD 0 = false := by
  revert b₇ b₆ b₅ b₄ b₃ b₂ b₁
  decide

theorem rxReady_eq (s : State) : rxReady s = decide (vget s.links.outbox 3 ≠ []) := by
  unfold rxReady
  cases vget s.links.outbox 3 <;> rfl

theorem bne_eq_decide {α : Type} [DecidableEq α] (a b : α) : (a != b) = decide (a ≠ b) := by
  by_cases h : a = b <;> simp [h]

theorem spiReadStatus_answers {s : State} (h : spiAnswers s = true) :
    spiReadStatus s = linksMod (fun l => { l with miso := [spiStatus s], crcErr := false, ovr := false, fmtErr := false }) s :=
  if_neg (by rw [h]; decide)

/-! ### Write frames -/

theorem spiInFree_iff (s : State) : spiInFree s = true ↔ s.links.serving ≠ .none := by
  simp [spiInFree]

theorem spiWriteFrame_noServer {s : State} (h : spiAnswers s = true) (hserving : s.links.serving = .none) (bytes : List Byte) :
    spiWriteFrame bytes s = (linksMod (fun l => { l with miso := [], ovr := true }) s).dBump 0x1100 0x32 := by
  have hfull : spiInFree (withMiso [] s) = false := by
    simp [spiInFree, withMiso, hserving]
  refine (if_neg (by rw [h]; decide)).trans ?_
  exact if_pos (by rw [← withMiso, hfull]; rfl)

theorem spiWriteFrame_read {s : State} (h : spiAnswers s = true) (hserving : s.links.serving ≠ .none) (bytes : List Byte) :
    spiWriteFrame bytes s = match readFrame bytes with
      | .pdus ps => takeAll .spi 0 ps (withMiso [] s)
      | .crc => (linksMod (fun l => { l with crcErr := true }) (withMiso [] s)).dBump 0x1100 0x32
      | .format => (linksMod (fun l => { l with fmtErr := true }) (withMiso [] s)).dBump 0x1100 0x32 := by
  have hfree : spiInFree (withMiso [] s) = true := (spiInFree_iff _).2 hserving
  refine (if_neg (by rw [h]; decide)).trans ?_
  refine (if_neg (by rw [← withMiso, hfree]; decide)).trans ?_
  rfl

/-- A frame that ends before its last byte fails its CRC. -/
theorem readFrame_cut {b : List Byte} {n : Nat} (hb : b.length ≤ 2044) (hn : n < (frameOf b).length) : readFrame ((frameOf b).take n) = .crc := by
  have hlen : ((frameOf b).take n).length = n := by
    rw [List.length_take]
    omega
  rw [frameOf_length] at hn
  by_cases htwo : n < 2
  · have hcut : n < 2 ∨ n < 2 + leNat (((frameOf b).take n).take 2) + 4 := .inl htwo
    unfold readFrame
    simp only [hlen]
    rw [if_neg (by omega), if_pos hcut]
  · have hcount : leNat (((frameOf b).take n).take 2) = b.length := by
      rw [List.take_take, Nat.min_eq_left (by omega), frameOf_count (by omega)]
    unfold readFrame
    simp only [hlen, hcount]
    rw [if_neg (by omega), if_pos (by omega)]

/-! ### Read frames -/

/-- One waiting PDU of a length that a link carries fits a read frame. -/
theorem fitCount_one {a : Sent} (h : a.pdu.data.length ≤ 1024) : fitCount [a] 2044 = 1 := by
  have hfits : (pduBytes a.pdu).length ≤ 2044 := by
    rw [pduBytes_length]
    omega
  simp [fitCount, hfits]

theorem spiReadFrame_one {s : State} {a : Sent} (h : spiAnswers s = true) (hserving : s.links.serving ≠ .none) (hbox : vget s.links.outbox 3 = [a])
    (hdata : a.pdu.data.length ≤ 1024) (n : Nat) :
    spiReadFrame n s = if n < (frameOf (pduBytes a.pdu)).length then withMiso ((frameOf (pduBytes a.pdu)).take n) s
      else linksMod (fun l => { l with outbox := vset l.outbox 3 [], quad := a.quad.getD l.quad }) (withMiso ((frameOf (pduBytes a.pdu)).take n) s) := by
  refine (if_neg (by rw [h]; decide)).trans ?_
  simp only [(spiInFree_iff s).2 hserving, hbox, if_true, fitCount_one hdata, List.take_succ_cons, List.take_zero, List.flatMap_cons, List.flatMap_nil,
    List.append_nil, List.foldl_cons, List.foldl_nil, List.drop_succ_cons, List.drop_zero]
  rfl

theorem spiUnknownCommand_answers {s : State} {c : Byte} (h : spiAnswers s = true) (h2 : c ≠ 2) (h3 : c ≠ 3) (h5 : c ≠ 5) :
    spiUnknownCommand c s = linksMod (fun l => { l with miso := [0], fmtErr := true }) s := by
  unfold spiUnknownCommand
  rw [if_neg (by rw [h]; decide), if_neg h5, if_neg h2, if_neg h3]

end Sys2Proof.Machine

namespace Sys2Proof.Proofs
open Sys2Proof.Machine

/-- Settles O25: the port's answer turns on whether it answers, whether somebody serves the dictionary, and what a frame's bytes read as. -/
theorem spiPort : Obligations.SpiPort := by
  intro s p c bytes n a hrsv hdata hsent f counted
  refine ⟨fun hport => ⟨?_, fun hserving hup hroom => ?_, fun hserving hcut => ?_, fun hserving => ?_, fun hserving hbox => ?_, fun h2 h3 h5 => ?_⟩, ?_⟩
  · have hbits := sevenFlags (rxReady s) (spiInFree s) s.links.crcErr s.links.ovr s.links.quad (s.links.serving != .main) s.links.fmtErr
    have hfree : spiInFree s = decide (s.links.serving ≠ .none) := bne_eq_decide ..
    rw [rxReady_eq, hfree, bne_eq_decide] at hbits
    exact ⟨spiStatus s, congrArg Host.Outcome.next (spiReadStatus_answers hport), by
      rw [spiStatus, rxReady_eq, hfree, bne_eq_decide]
      exact hbits⟩
  · have hread := spiWriteFrame_read hport (by simp [hserving]) (frameOf (pduBytes p))
    rw [readFrame_one hrsv hdata] at hread
    have hanswers : answers .spi (withMiso [] s) = true := answers_main (l := 3) rfl hup hserving
    exact congrArg Host.Outcome.next (hread.trans (takeReq_room hanswers hroom))
  · have hread := spiWriteFrame_read hport hserving ((frameOf (pduBytes p)).take n)
    rw [readFrame_cut (by rw [pduBytes_length]; omega) hcut] at hread
    exact ⟨_, congrArg Host.Outcome.next hread, rfl, dU_dBump rfl _, otherEntries_dBump _ _ _, rfl⟩
  · exact ⟨_, congrArg Host.Outcome.next (spiWriteFrame_noServer hport hserving bytes), rfl, dU_dBump rfl _, otherEntries_dBump _ _ _, rfl⟩
  · have hread := spiReadFrame_one hport hserving hbox hsent n
    refine ⟨fun hlast => ?_, fun hcut => congrArg Host.Outcome.next (hread.trans (if_pos hcut))⟩
    have htake : (frameOf (pduBytes a.pdu)).take n = frameOf (pduBytes a.pdu) := List.take_of_length_le hlast
    rw [if_neg (Nat.not_lt.2 hlast)] at hread
    refine congrArg Host.Outcome.next (hread.trans ?_)
    rw [htake]
    rfl
  · exact congrArg Host.Outcome.next (spiUnknownCommand_answers hport h2 h3 h5)
  · intro hport dark
    exact ⟨congrArg Host.Outcome.next (spiReadStatus_dark hport), congrArg Host.Outcome.next (spiWriteFrame_dark hport bytes),
      congrArg Host.Outcome.next (spiReadFrame_dark hport n), congrArg Host.Outcome.next (spiUnknownCommand_dark hport c)⟩

end Sys2Proof.Proofs
end

section
/-! SUPPORT. Writes of request numbers and settings of the device itself, and what follows their response (R20, R24, R34, R48). -/

namespace Sys2Proof.Machine

/-! ### A number or setting that any host writes in any role -/

theorem findEntry_own {i x : Nat} {r : DictRow} (halias : i ≠ 0x1020) (hrow : dictRow i x = some r) (src : Src) (s : State) :
    findEntry src i x s = some { idx := i, sub := x, row := r, acc := classAcc src r } := by
  have hown : aliasOf i x s = none := if_neg fun h => halias h.1
  simp [findEntry, hown, hrow]

/-- An entry that takes the value `v` from a host at any time. -/
structure Takes (i x : Nat) (r : DictRow) (v : List Byte) : Prop where
  low : i < 0x5000
  sub : x ≠ 0
  proper : i ≠ 0x1020
  row : dictRow i x = some r
  host : r.host.writes = true
  value : valueCheck r v = stOk
  role : r.role0 = false
  free : ∀ s, entryCheck i x v s = stOk

theorem Takes.write {s : State} {src : Src} {i x : Nat} {r : DictRow} {v : List Byte} (ht : Takes i x r v) (h : Asks s src) (e : Ext) :
    writeEntry src e i x v s = entryStore e i x r v s := by
  refine writeEntry_passed ht.low ht.sub (findEntry_own ht.proper ht.row src s) ?_ ht.value ?_ (ht.free s)
  · simp [asks_classAcc h, ht.host]
  · simp [ht.role]

/-- Four bytes are a legal value of a U32 of any value. -/
theorem valueCheck_number {r : DictRow} (hty : r.ty = .u32) (hrange : r.range = .any) (n : Nat) : valueCheck r (leBytes 4 n) = stOk := by
  rw [valueCheck_scalar (by rw [hty]; rfl), hty, hrange]
  rfl

/-! ### What the entry does with the value -/

section
variable {e : Ext} {i x : Nat} {r : DictRow} {v : List Byte} {s : State}

/-- A new value of an entry that acts before it stores. -/
theorem entryStore_act {t : State} {st : Status} (hnew : r.request = true → v ≠ s.dGet i x) (hfirst : storedFirst i x = false)
    (hact : entryAct e i x v s = (st, t)) :
    entryStore e i x r v s = if st ≠ stOk then (st, t) else (stOk, if notStored i x then t else storedEffect i x v (t.dSet i x v)) := by
  have hfresh : ¬(r.request = true ∧ v = s.dGet i x) := fun h => hnew h.1 h.2
  unfold entryStore
  rw [if_neg hfresh, hfirst, if_neg nofun, hact]

/-- A new value of an entry that stores before it acts. -/
theorem entryStore_first {t : State} {st : Status} (hnew : r.request = true → v ≠ s.dGet i x) (hfirst : storedFirst i x = true)
    (hact : entryAct e i x v (s.dSet i x v) = (st, t)) :
    entryStore e i x r v s = (st, if st = stOk then t else t.dSet i x (s.dGet i x)) := by
  have hfresh : ¬(r.request = true ∧ v = s.dGet i x) := fun h => hnew h.1 h.2
  unfold entryStore
  rw [if_neg hfresh, hfirst, if_pos rfl, hact]

end

/-! ### The response and what follows it -/

theorem hostWrite_executed {s t : State} {src : Src} {i : BitVec 16} {x : Byte} {v : List Byte} {st : Status} (h : Asks s src) (hi : i.toNat < 0x5000)
    (hwrite : writeEntry src {} i.toNat x.toNat v s = (st, t)) (tid : Byte) :
    ∃ l y, linkNum src = some l ∧ y = sentTo { src := src, pdu := writePdu tid i x v } (writeResp tid i x st) s ∧
      hostWrite {} src tid i x v s =
        (if st == stOk && resetsDevice i.toNat x.toNat v s then t
        else if st == stOk && changes { src := src, pdu := writePdu tid i x v } s then afterResponse src i.toNat x.toNat v (t.push l y)
        else t.push l y) := by
  have hserve : serve {} { src := src, pdu := writePdu tid i x v } s = ({ st := st }, t) := by
    rw [serve_write h hi, hwrite]
  obtain ⟨l, y, hlink, hy, hrequest⟩ := request_executed h hserve
  exact ⟨l, y, hlink, hy, hrequest⟩

/-- A setting stored and answered OK, behind which it comes into force. -/
theorem hostWrite_followed {s t : State} {src : Src} {i : BitVec 16} {x : Byte} {v : List Byte} (h : Asks s src) (hi : i.toNat < 0x5000)
    (hwrite : writeEntry src {} i.toNat x.toNat v s = (stOk, t)) (hreset : resetsDevice i.toNat x.toNat v s = false) (tid : Byte)
    (hchanges : changes { src := src, pdu := writePdu tid i x v } s = true) :
    ∃ l y, linkNum src = some l ∧ y = sentTo { src := src, pdu := writePdu tid i x v } (writeResp tid i x stOk) s ∧
      hostWrite {} src tid i x v s = afterResponse src i.toNat x.toNat v (t.push l y) := by
  obtain ⟨l, y, hlink, hy, hexec⟩ := hostWrite_executed h hi hwrite tid
  rw [hreset, hchanges] at hexec
  exact ⟨l, y, hlink, hy, hexec⟩

theorem changes_new {s : State} {src : Src} {i : BitVec 16} {x : Byte} {v : List Byte} (hnew : v ≠ s.dGet i.toNat x.toNat) (tid : Byte) :
    changes { src := src, pdu := writePdu tid i x v } s = true := by
  simp [changes, writePdu, hnew]

end Sys2Proof.Machine
end

section
/-! SUPPORT. The settings of the host links, saving, the heartbeat, and the reset that a host asks for (R22, R23, R40, R48 to R50, R450, R451). -/

namespace Sys2Proof.Machine

/-! ### Saving (R23) -/

theorem takes_save (v : BitVec 32) : ∃ r, Takes 0x1100 3 r (leBytes 4 v.toNat) :=
  ⟨_, by decide, by decide, by decide, rfl, rfl, valueCheck_number rfl rfl _, rfl, fun _ => rfl⟩

theorem saveStart_idle {s : State} (h : s.links.saving = false) :
    saveStart s = (stOk, (linksMod (fun l => { l with saving := true }) s).resPend 0x1100 4) := if_neg (by simp [h])

theorem saveStart_busy {s : State} (h : s.links.saving = true) : saveStart s = (stBusy, s.produceSt 0x1100 4 stBusy) := if_pos h

/-- A save asked for with a new number. -/
theorem execSaveSettings_push {s t : State} {src : Src} (h : Asks s src) {v : BitVec 32} (hnew : leBytes 4 v.toNat ≠ s.dGet 0x1100 3) {st : Status}
    (hstart : saveStart s = (st, t)) (tid : Byte) :
    ∃ l y, linkNum src = some l ∧ y.pdu = writeResp tid 0x1100 3 st ∧
      exec (.saveSettings src tid v) s = .next ((if st = stOk then t.dSet 0x1100 3 (leBytes 4 v.toNat) else t).push l y) := by
  obtain ⟨r, htakes⟩ := takes_save v
  have hact : entryAct {} 0x1100 3 (leBytes 4 v.toNat) s = (st, t) := hstart
  have hwrite : writeEntry src {} 0x1100 3 (leBytes 4 v.toNat) s = (st, if st = stOk then t.dSet 0x1100 3 (leBytes 4 v.toNat) else t) := by
    rw [htakes.write h, entryStore_act (fun _ => hnew) rfl hact]
    by_cases hst : st = stOk
    · rw [if_neg (not_not_intro hst), if_pos hst, hst]
      rfl
    · rw [if_pos hst, if_neg hst]
  obtain ⟨l, y, hlink, hy, hexec⟩ := hostWrite_push h (i := 0x1100) (x := 3) (v := leBytes 4 v.toNat) (by decide) rfl (fun _ => rfl) {} tid
  have hwrite' : writeEntry src {} (0x1100 : BitVec 16).toNat (3 : Byte).toNat (leBytes 4 v.toNat) s = _ := hwrite
  rw [hwrite'] at hy hexec
  exact ⟨l, y, hlink, hy, congrArg Host.Outcome.next hexec⟩

theorem mem_saveNow (s : State) (k : Nat) (w : List Byte) :
    (k, w) ∈ (saveNow s).saved ↔ (k, w) ∈ s.dict ∧ ∃ r, dictRow (k / 256) (k % 256) = some r ∧ r.ret = true := by
  unfold saveNow
  rw [List.mem_filter]
  cases dictRow (k / 256) (k % 256) <;> simp

/-! ### Settings that come into force behind their response -/

theorem canSettings_dSet (k : Fin 2) (s : State) {x : Nat} (v : List Byte) (hx : x = 0x15 ∨ x = 0x1F) :
    canSettings k (s.dSet 0x1100 x v) = canSettings k s := by
  have hkey : ∀ j, j = 0x10 + 10 * k.1 ∨ j = 0x10 + 10 * k.1 + 1 ∨ j = 0x10 + 10 * k.1 + 2 ∨ j = 0x10 + 10 * k.1 + 3 ∨ j = 0x10 + 10 * k.1 + 4 →
      (s.dSet 0x1100 x v).dU 0x1100 j = s.dU 0x1100 j := by
    intro j hj
    refine congrArg leNat (dGet_dSet_ne s v ?_)
    unfold key
    omega
  simp only [canSettings, hkey _ (.inl rfl), hkey _ (.inr (.inl rfl)), hkey _ (.inr (.inr (.inl rfl))), hkey _ (.inr (.inr (.inr (.inl rfl)))),
    hkey _ (.inr (.inr (.inr (.inr rfl))))]

theorem t1sSettings_dSet (s : State) (v : List Byte) : t1sSettings (s.dSet 0x1100 0x25 v) = t1sSettings s := by
  have hkey : ∀ j ∈ [0x20, 0x21, 0x22, 0x23, 0x24, 0x27], (s.dSet 0x1100 0x25 v).dU 0x1100 j = s.dU 0x1100 j := by
    intro j hj
    refine congrArg leNat (dGet_dSet_ne s v ?_)
    have hne : j ≠ 0x25 := by rintro rfl; exact absurd hj (by decide)
    unfold key
    omega
  simp only [t1sSettings, hkey 0x20 (by decide), hkey 0x21 (by decide), hkey 0x22 (by decide), hkey 0x23 (by decide), hkey 0x24 (by decide),
    hkey 0x27 (by decide)]

/-- The subindex of a CAN controller's APPLY. -/
def canApplySub (q : Bool) : Byte := if q then 0x1F else 0x15

theorem afterResponse_can (q : Bool) (src : Src) (v : List Byte) (s : State) : afterResponse src 0x1100 (canApplySub q).toNat v s =
    linksMod (fun l => { l with can := vset l.can (if q then 1 else 0) (canSettings (if q then 1 else 0) s) }) s := by
  cases q <;> rfl

theorem takes_canApply (q : Bool) (v : BitVec 32) : ∃ r, Takes 0x1100 (canApplySub q).toNat r (leBytes 4 v.toNat) := by
  cases q
  · exact ⟨_, by decide, by decide, by decide, rfl, rfl, valueCheck_number rfl rfl _, rfl, fun _ => rfl⟩
  · exact ⟨_, by decide, by decide, by decide, rfl, rfl, valueCheck_number rfl rfl _, rfl, fun _ => rfl⟩

theorem takes_t1sApply (v : BitVec 32) : ∃ r, Takes 0x1100 0x25 r (leBytes 4 v.toNat) :=
  ⟨_, by decide, by decide, by decide, rfl, rfl, valueCheck_number rfl rfl _, rfl, fun _ => rfl⟩

/-- An APPLY stores its number, answers OK, and starts what follows. -/
theorem hostWrite_apply {s : State} {src : Src} (h : Asks s src) {x : Byte} {r : DictRow} {v : List Byte} (htakes : Takes 0x1100 x.toNat r v)
    (hx : x ≠ 3) (hnew : r.request = true → v ≠ s.dGet 0x1100 x.toNat) (tid : Byte)
    (hchanges : changes { src := src, pdu := writePdu tid 0x1100 x v } s = true) :
    ∃ l y, linkNum src = some l ∧ y = sentTo { src := src, pdu := writePdu tid 0x1100 x v } (writeResp tid 0x1100 x stOk) s ∧
      hostWrite {} src tid 0x1100 x v s = afterResponse src 0x1100 x.toNat v ((s.dSet 0x1100 x.toNat v).push l y) := by
  have hact : entryAct {} 0x1100 x.toNat v s = (stOk, s) := if_neg fun h => hx (BitVec.eq_of_toNat_eq h)
  have hstore : entryStore {} 0x1100 x.toNat r v s = (stOk, s.dSet 0x1100 x.toNat v) := entryStore_act hnew rfl hact
  exact hostWrite_followed h (i := 0x1100) (by decide) ((htakes.write h {}).trans hstore) rfl tid hchanges

theorem takes_uartRate {v : BitVec 32} (hlo : 9600 ≤ v.toNat) (hhi : v.toNat ≤ 921600) : 
    ∃ r, r.request = false ∧ Takes 0x1100 0x41 r (leBytes 4 v.toNat) := by
  refine ⟨_, ?_, by decide, by decide, by decide, rfl, rfl, ?_, rfl, fun _ => rfl⟩
  · rfl
  have hrange : ((9600 : Int) ≤ leNat (leBytes 4 v.toNat) ∧ (leNat (leBytes 4 v.toNat) : Int) ≤ 921600) := by
    rw [leNat_word]
    omega
  rw [valueCheck_scalar rfl]
  simp [leBytes_length, Ty.width, encodingOk, scalarOk, Ty.isSigned, hrange]

/-- The byte of SPI_QUAD. -/
def quadByte (q : Bool) : List Byte := [if q then 1 else 0]

theorem takes_spiQuad (q : Bool) : ∃ r, r.request = false ∧ Takes 0x1100 0x31 r (quadByte q) := by
  refine ⟨_, ?_, by decide, by decide, by decide, rfl, rfl, ?_, rfl, fun _ => rfl⟩
  · rfl
  · cases q <;> rfl

theorem execSpiQuadWrite_eq (src : Src) (tid : Byte) (q : Bool) (s : State) :
    exec (.spiQuadWrite src tid q) s = .next (hostWrite {} src tid 0x1100 0x31 (quadByte q) s) := by
  cases q <;> rfl

theorem afterResponse_quad {src : Src} (h : src ≠ .spi) (q : Bool) (s : State) :
    afterResponse src 0x1100 0x31 (quadByte q) s = linksMod (fun l => { l with quad := q }) s := by
  refine (if_neg h).trans ?_
  cases q <;> rfl

/-- Over SPI itself the mode waits in the response that was just given. -/
theorem afterResponse_quad_spi (q : Bool) (y : Sent) (s : State) : (afterResponse .spi 0x1100 0x31 (quadByte q) (s.push 3 y)) =
    s.push 3 { y with quad := some q } := by
  have hbyte : (quadByte q == [1]) = q := by cases q <;> rfl
  have hlast : afterResponse .spi 0x1100 0x31 (quadByte q) (s.push 3 y) =
      linksMod (fun l => { l with outbox := vmod l.outbox 3 (fun w => match w.reverse with
        | x :: r => (r.reverse ++ [{ x with quad := some (quadByte q == [1]) }])
        | [] => []) }) (s.push 3 y) := rfl
  rw [hlast, hbyte]
  simp [State.push, linksMod, vmod_eq]

theorem execCanApply_push {s : State} {src : Src} (h : Asks s src) {q : Bool} {v : BitVec 32} (hnew : leBytes 4 v.toNat ≠ s.dGet 0x1100 (canApplySub q).toNat)
    (tid : Byte) : ∃ l y, linkNum src = some l ∧ y.pdu = writeResp tid 0x1100 (canApplySub q) stOk ∧
      exec (.canApply src tid q v) s = .next (linksMod (fun l => { l with can := vset l.can (if q then 1 else 0) (canSettings (if q then 1 else 0) s) })
        ((s.dSet 0x1100 (canApplySub q).toNat (leBytes 4 v.toNat)).push l y)) := by
  obtain ⟨r, htakes⟩ := takes_canApply q v
  have hsub : canApplySub q ≠ 3 ∧ ((canApplySub q).toNat = 0x15 ∨ (canApplySub q).toNat = 0x1F) := by cases q <;> decide
  obtain ⟨l, y, hlink, hy, hexec⟩ := hostWrite_apply h htakes hsub.1 (fun _ => hnew) tid (changes_new (i := 0x1100) hnew tid)
  refine ⟨l, y, hlink, by rw [hy, sentTo_pdu], congrArg Host.Outcome.next (hexec.trans ?_)⟩
  rw [afterResponse_can]
  exact congrArg (fun c => linksMod (fun l => { l with can := vset l.can (if q then 1 else 0) c }) _) (canSettings_dSet _ s _ hsub.2)

theorem execT1sApply_push {s : State} {src : Src} (h : Asks s src) {v : BitVec 32} (hnew : leBytes 4 v.toNat ≠ s.dGet 0x1100 0x25) (tid : Byte) :
    ∃ l y, linkNum src = some l ∧ y.pdu = writeResp tid 0x1100 0x25 stOk ∧
      exec (.t1sApply src tid v) s = .next (linksMod (fun l => { l with t1s := t1sSettings s }) ((s.dSet 0x1100 0x25 (leBytes 4 v.toNat)).push l y)) := by
  obtain ⟨r, htakes⟩ := takes_t1sApply v
  obtain ⟨l, y, hlink, hy, hexec⟩ := hostWrite_apply h (x := 0x25) htakes (by decide) (fun _ => hnew) tid (changes_new (i := 0x1100) (x := 0x25) hnew tid)
  refine ⟨l, y, hlink, by rw [hy, sentTo_pdu], congrArg Host.Outcome.next (hexec.trans ?_)⟩
  exact congrArg (fun c => linksMod (fun l => { l with t1s := c }) _) (t1sSettings_dSet s _)

/-- UART_RATE and SPI_QUAD act on any write, their old value's too (R48). -/
theorem changes_setting {s : State} {src : Src} {x : Byte} (hx : x = 0x31 ∨ x = 0x41) (tid : Byte) (v : List Byte) :
    changes { src := src, pdu := writePdu tid 0x1100 x v } s = true := by
  rcases hx with rfl | rfl <;> simp [changes, writePdu]

theorem execUartRateWrite_push {s : State} {src : Src} (h : Asks s src) {v : BitVec 32} (hlo : 9600 ≤ v.toNat) (hhi : v.toNat ≤ 921600) (tid : Byte) :
    ∃ l y, linkNum src = some l ∧ y.pdu = writeResp tid 0x1100 0x41 stOk ∧
      exec (.uartRateWrite src tid v) s = .next (linksMod (fun l => { l with uartRate := v.toNat }) ((s.dSet 0x1100 0x41 (leBytes 4 v.toNat)).push l y)) := by
  obtain ⟨r, hrequest, htakes⟩ := takes_uartRate hlo hhi
  obtain ⟨l, y, hlink, hy, hexec⟩ := hostWrite_apply h (x := 0x41) htakes (by decide) (by simp [hrequest]) tid (changes_setting (.inr rfl) tid _)
  refine ⟨l, y, hlink, by rw [hy, sentTo_pdu], congrArg Host.Outcome.next (hexec.trans ?_)⟩
  exact congrArg (fun n => linksMod (fun l => { l with uartRate := n }) _) (leNat_word v)

theorem execSpiQuadWrite_push {s : State} {src : Src} (h : Asks s src) (q : Bool) (tid : Byte) :
    ∃ l y, linkNum src = some l ∧ y.pdu = writeResp tid 0x1100 0x31 stOk ∧
      exec (.spiQuadWrite src tid q) s = .next (afterResponse src 0x1100 0x31 (quadByte q) ((s.dSet 0x1100 0x31 (quadByte q)).push l y)) := by
  obtain ⟨r, hrequest, htakes⟩ := takes_spiQuad q
  obtain ⟨l, y, hlink, hy, hexec⟩ := hostWrite_apply h (x := 0x31) htakes (by decide) (by simp [hrequest]) tid (changes_setting (.inl rfl) tid _)
  exact ⟨l, y, hlink, by rw [hy, sentTo_pdu], (execSpiQuadWrite_eq ..).trans (congrArg Host.Outcome.next hexec)⟩

/-! ### A host link re-initialised (R50) -/

theorem linkReinit_idle {s : State} (h : s.links.waiting = []) (l : Src) :
    linkReinit l s = linksMod (fun x => { x with
      waiting := [], xfers := x.xfers.filter (fun t => t.src != l), quad := x.quad && l != .spi
      canBusOff := if l = .can0 then vset x.canBusOff 0 false else if l = .can1 then vset x.canBusOff 1 false else x.canBusOff }) s := by
  simp only [linkReinit, h, List.filter_nil, List.foldl_nil]
  simp [linksMod, h]

theorem fnLink_isSome : ∀ n : Fin 20, 15 ≤ n.1 → (fnLink (n.1 + 1)).isSome = true := by decide

theorem takes_fnReinit (n : Fin 20) (v : BitVec 32) : ∃ r, Takes 0x1202 (n.1 + 1) r (leBytes 4 v.toNat) := by
  have hrow : dictRow 0x1202 (n.1 + 1) = dictRow 0x1202 1 := by
    revert n
    decide
  exact ⟨_, by decide, by omega, by decide, hrow, rfl, valueCheck_number rfl rfl _, rfl, fun _ => rfl⟩

theorem fnSub (n : Fin 20) : (BitVec.ofNat 8 (n.1 + 1)).toNat = n.1 + 1 := by
  revert n
  decide

/-- The re-initialise of a host link stores its number, answers OK, and behind the response ends what the link has open. -/
theorem hostWrite_linkReinit {s : State} {src : Src} (h : Asks s src) {n : Fin 20} (hn : 15 ≤ n.1) {v : BitVec 32} {link : Src}
    (hlink : fnLink (n.1 + 1) = some link) (hnew : leBytes 4 v.toNat ≠ s.dGet 0x1202 (n.1 + 1)) (tid : Byte) :
    ∃ l y, linkNum src = some l ∧ y.pdu = writeResp tid 0x1202 (BitVec.ofNat 8 (n.1 + 1)) stOk ∧
      exec (.fnReinit src tid n v) s = .next (linkReinit link ((s.dSet 0x1202 (n.1 + 1) (leBytes 4 v.toNat)).push l y)) := by
  obtain ⟨r, htakes⟩ := takes_fnReinit n v
  have hact : entryAct {} 0x1202 (n.1 + 1) (leBytes 4 v.toNat) s = (stOk, s) := if_pos (by omega)
  have hstore : entryStore {} 0x1202 (n.1 + 1) r (leBytes 4 v.toNat) s = (stOk, s.dSet 0x1202 (n.1 + 1) (leBytes 4 v.toNat)) :=
    entryStore_act (fun _ => hnew) rfl hact
  have hwrite := (htakes.write h {}).trans hstore
  rw [← fnSub n] at hwrite hnew
  obtain ⟨l, y, hl, hy, hexec⟩ := hostWrite_followed h (i := 0x1202) (by decide) hwrite rfl tid (changes_new hnew tid)
  refine ⟨l, y, hl, by rw [hy, sentTo_pdu], (congrArg Host.Outcome.next hexec).trans ?_⟩
  have hafter : ∀ u, afterResponse src 0x1202 (n.1 + 1) (leBytes 4 v.toNat) u = linkReinit link u := by
    intro u
    have hreinit : afterResponse src 0x1202 (n.1 + 1) (leBytes 4 v.toNat) u =
        (match fnLink (n.1 + 1) with | some l => linkReinit l u | none => u) := rfl
    rw [hreinit, hlink]
  rw [fnSub]
  exact congrArg Host.Outcome.next (hafter _)

/-! ### The device reset that a host asks for (R22, R450, R451) -/

/-- What a reset begins with, the cut of a running operation and the loss of what DRAM does not keep, reaches only memory, registers, and
entries other than DEVICE_RESET. -/
structure NumberKept (s t : State) : Prop where
  number : t.dGet 0x1203 1 = s.dGet 0x1203 1
  frame : { t with dict := s.dict, regs := s.regs, mem := s.mem, drawn := s.drawn } = s

theorem NumberKept.refl (s : State) : NumberKept s s := ⟨rfl, rfl⟩

theorem NumberKept.trans {s t u : State} (h : NumberKept s t) (h' : NumberKept t u) : NumberKept s u := by
  refine ⟨h'.number.trans h.number, ?_⟩
  have htwice := congrArg (fun w : State => { w with dict := s.dict, regs := s.regs, mem := s.mem, drawn := s.drawn }) h'.frame
  exact htwice.trans h.frame

theorem NumberKept.fold {α : Type} {f : State → α → State} (h : ∀ s a, NumberKept s (f s a)) (l : List α) (s : State) : NumberKept s (l.foldl f s) := by
  induction l generalizing s with
  | nil => exact NumberKept.refl s
  | cons a l ih => exact (h s a).trans (ih _)

theorem numberKept_setReg (a : Nat) (v : BitVec 32) (s : State) : NumberKept s (s.setReg a v) := ⟨rfl, rfl⟩

theorem numberKept_mmod (f : Mem → Mem) (s : State) : NumberKept s (mmod f s) := ⟨rfl, rfl⟩

theorem numberKept_dPut {x y : Nat} (h : key 0x1203 1 ≠ key x y) (v : Nat) (s : State) : NumberKept s (s.dPut x y v) := ⟨dGet_dPut_ne s v h, rfl⟩

theorem numberKept_syncPoison (s : State) : NumberKept s (syncPoison s) := (numberKept_setReg _ _ s).trans (numberKept_dPut (by decide) _ _)

theorem numberKept_syncRecords (s : State) : NumberKept s (syncRecords s) :=
  (numberKept_syncPoison s).trans ((numberKept_dPut (by decide) _ _).trans (numberKept_dPut (by decide) _ _))

theorem numberKept_cellsLost (lo hi : Nat) (s : State) : NumberKept s (cellsLost lo hi s) := ⟨rfl, rfl⟩

theorem numberKept_wrBytes (a : Nat) (bs : List Byte) (s : State) : NumberKept s (s.wrBytes a bs) := ⟨rfl, rfl⟩

theorem numberKept_drawN (n : Nat) (s : State) : NumberKept s (s.drawN n) := ⟨rfl, rfl⟩

theorem numberKept_draw (s : State) : NumberKept s s.draw := ⟨rfl, rfl⟩

theorem numberKept_flashCut (op : FlashOp) (s : State) : NumberKept s (flashCut op s) := by
  unfold flashCut
  split
  · exact (numberKept_wrBytes _ _ _).trans (numberKept_drawN _ _)
  · refine ((numberKept_wrBytes op.addr (s.freshBytes 16) s).trans (numberKept_drawN 16 _)).trans ?_
    dsimp only
    split
    · exact (numberKept_draw _).trans (numberKept_mmod _ _)
    · exact numberKept_draw _

theorem numberKept_domRetain (d : Fin 24) (s : State) : NumberKept s (domRetain d s) := by
  unfold domRetain
  split
  · refine NumberKept.fold (fun u i => ?_) _ s
    split
    · exact NumberKept.refl u
    · exact numberKept_cellsLost _ _ u
  · split
    · refine (NumberKept.fold (fun u i => ?_) _ s).trans ((numberKept_syncPoison _).trans (numberKept_syncRecords _))
      split
      · exact numberKept_cellsLost _ _ u
      · exact NumberKept.refl u
    · exact NumberKept.refl s

theorem numberKept_putMap (a none_ : Nat) (l : List (Option Nat)) (s : State) : NumberKept s (putMap a none_ l s) := by
  unfold putMap
  induction List.range (l.length / 4) generalizing s with
  | nil => exact NumberKept.refl s
  | cons i r ih => exact (numberKept_setReg _ _ s).trans (ih _)

theorem numberKept_syncRx (s : State) : NumberKept s (syncRx s) := by
  unfold syncRx
  refine NumberKept.trans ?_ (numberKept_dPut (by decide) _ _)
  refine NumberKept.trans ?_ (numberKept_dPut (by decide) _ _)
  refine NumberKept.trans ?_ (numberKept_dPut (by decide) _ _)
  refine NumberKept.trans ?_ (numberKept_setReg _ _ _)
  refine NumberKept.trans ?_ (numberKept_putMap _ _ _ _)
  refine NumberKept.trans ?_ ((numberKept_setReg _ _ _).trans ((numberKept_setReg _ _ _).trans (numberKept_setReg _ _ _)))
  refine NumberKept.trans ?_ (numberKept_putMap _ _ _ _)
  refine NumberKept.trans ?_ ((numberKept_setReg _ _ _).trans ((numberKept_setReg _ _ _).trans (numberKept_setReg _ _ _)))
  exact numberKept_putMap _ _ _ _

theorem numberKept_resetShow (s : State) : NumberKept s (resetShow s) := (numberKept_syncRx s).trans ((numberKept_setReg _ _ _).trans (numberKept_setReg _ _ _))

/-- What a soft reset starts from: a running program or erase is cut, and DRAM loses what RETAINED does not keep. -/
def resetBegin (s : State) : State :=
  let u := match s.mem.flcOp with
    | some op => if op.cmd = 1 ∨ op.cmd = 2 then (flashCut op s).setRegN 0x40060050 (flashIntr op) else s
    | none => s
  if u.isOn dDRAM then domRetain dDRAM u else u

/-- What a soft reset makes of that before maps and retirements are shown again. -/
def resetFrom (u : State) : State :=
  let r := if u.owns dDRAM then { (dramKept u (resetState u)) with boot := { (resetState u).boot with kept := true } } else resetState u
  (r.setReg 0x40060050 (u.reg 0x40060050)).setRegF flcStat 9 9 (b2n (bit (u.reg 0x40060050).toNat 31))

theorem softReset_eq (c : ResetCause) (s : State) : softReset c s =
    ((resetShow (resetFrom (resetBegin s))).dPut 0x1200 5 c.toNat).dPut 0x1203 1 ((resetBegin s).dU 0x1203 1) := rfl

theorem numberKept_resetBegin (s : State) : NumberKept s (resetBegin s) := by
  have hdram : ∀ u, NumberKept u (if u.isOn dDRAM then domRetain dDRAM u else u) := by
    intro u
    split
    · exact numberKept_domRetain _ u
    · exact NumberKept.refl u
  unfold resetBegin
  refine NumberKept.trans ?_ (hdram _)
  cases s.mem.flcOp with
  | none => exact NumberKept.refl s
  | some op =>
    dsimp only
    split
    · exact (numberKept_flashCut op s).trans (numberKept_setReg _ _ _)
    · exact NumberKept.refl s

/-- A DRAM that lives through the reset shows in registers, power, memory and the boot's flag alone. -/
theorem resetFrom_frame (u : State) : { resetFrom u with regs := [], pcc := u.pcc, mem := u.mem, boot := u.boot } =
    { resetState u with regs := [], pcc := u.pcc, mem := u.mem, boot := u.boot } := by
  unfold resetFrom
  cases u.owns dDRAM <;> rfl

/-- What a device reset by request leaves (R22, R34, R451). -/
structure ResetLeaves (s t : State) (number : List Byte) : Prop where
  links : t.links = {}
  cause : t.dU 0x1200 5 = 2
  number : t.dGet 0x1203 1 = number
  saved : t.saved = s.saved
  backup : t.bkp = s.bkp
  otp : t.sec.otp = s.sec.otp
  pending : t.pending = s.pending
  events : t.evf = State.reset.evf
  timers : t.tmr = State.reset.tmr

section
variable {s t : State} (h : NumberKept s t)
include h

theorem NumberKept.links : t.links = s.links := (congrArg State.links h.frame :)
theorem NumberKept.saved : t.saved = s.saved := (congrArg State.saved h.frame :)
theorem NumberKept.bkp : t.bkp = s.bkp := (congrArg State.bkp h.frame :)
theorem NumberKept.sec : t.sec = s.sec := (congrArg State.sec h.frame :)
theorem NumberKept.pending : t.pending = s.pending := (congrArg State.pending h.frame :)
theorem NumberKept.evf : t.evf = s.evf := (congrArg State.evf h.frame :)
theorem NumberKept.tmr : t.tmr = s.tmr := (congrArg State.tmr h.frame :)

end

theorem resetLeaves_resetFrom (u : State) :
    (resetFrom u).links = {} ∧ (resetFrom u).saved = u.saved ∧ (resetFrom u).bkp = u.bkp ∧ (resetFrom u).sec.otp = u.sec.otp ∧
      (resetFrom u).pending = u.pending ∧ (resetFrom u).evf = State.reset.evf ∧ (resetFrom u).tmr = State.reset.tmr := by
  have hframe := resetFrom_frame u
  have hsec : (resetFrom u).sec = (resetState u).sec := (congrArg State.sec hframe :)
  exact ⟨(congrArg State.links hframe :), (congrArg State.saved hframe :), (congrArg State.bkp hframe :), (congrArg Sec.otp hsec :),
    (congrArg State.pending hframe :), (congrArg State.evf hframe :), (congrArg State.tmr hframe :)⟩

theorem resetLeaves_deviceReset (s : State) (v : BitVec 32) :
    ResetLeaves s (deviceReset rcDevice (s.dSet 0x1203 1 (leBytes 4 v.toNat))) (leBytes 4 v.toNat) := by
  have hsoft : deviceReset rcDevice (s.dSet 0x1203 1 (leBytes 4 v.toNat)) =
      ((resetShow (resetFrom (resetBegin (s.dSet 0x1203 1 (leBytes 4 v.toNat))))).dPut 0x1200 5 2).dPut 0x1203 1
        ((resetBegin (s.dSet 0x1203 1 (leBytes 4 v.toNat))).dU 0x1203 1) := softReset_eq rcDevice _
  have hbegin := numberKept_resetBegin (s.dSet 0x1203 1 (leBytes 4 v.toNat))
  generalize resetBegin (s.dSet 0x1203 1 (leBytes 4 v.toNat)) = u at hbegin hsoft
  obtain ⟨hlinks, hsaved, hbkp, hotp, hpending, hevf, htmr⟩ := resetLeaves_resetFrom u
  have hshow := numberKept_resetShow (resetFrom u)
  generalize resetShow (resetFrom u) = r at hshow hsoft
  have hnumber : u.dU 0x1203 1 = v.toNat := by
    rw [State.dU, hbegin.number, dGet_dSet_self, leNat_word]
  rw [hsoft, hnumber]
  constructor
  case links => exact hshow.links.trans hlinks
  case cause =>
    have hcause : ((r.dPut 0x1200 5 2).dPut 0x1203 1 v.toNat).dGet 0x1200 5 = (r.dPut 0x1200 5 2).dGet 0x1200 5 := dGet_dPut_ne _ _ (by decide)
    exact (congrArg leNat hcause).trans (dU_dPut_self r 0x1200 5 2)
  case number => exact dGet_dPut_self _ _ _ _
  case saved => exact (hshow.saved.trans hsaved).trans hbegin.saved
  case backup => exact (hshow.bkp.trans hbkp).trans hbegin.bkp
  case otp => exact ((congrArg Sec.otp hshow.sec).trans hotp).trans (congrArg Sec.otp hbegin.sec)
  case pending => exact (hshow.pending.trans hpending).trans hbegin.pending
  case events => exact hshow.evf.trans hevf
  case timers => exact hshow.tmr.trans htmr

theorem takes_deviceReset (v : BitVec 32) : ∃ r, Takes 0x1203 1 r (leBytes 4 v.toNat) :=
  ⟨_, by decide, by decide, by decide, rfl, rfl, valueCheck_number rfl rfl _, rfl, fun _ => rfl⟩

section
variable {s : State} {src : Src} (h : Asks s src) {v : BitVec 32} (hnew : leBytes 4 v.toNat ≠ s.dGet 0x1203 1) (tid : Byte)
include h hnew

/-- With the key the reset is the only answer (R34). -/
theorem execDeviceResetWrite_key (hkey : v.toNat / 65536 = 0xA5C3) :
    exec (.deviceResetWrite src tid v) s = .next (deviceReset rcDevice (s.dSet 0x1203 1 (leBytes 4 v.toNat))) := by
  obtain ⟨r, htakes⟩ := takes_deviceReset v
  have hact : entryAct {} 0x1203 1 (leBytes 4 v.toNat) (s.dSet 0x1203 1 (leBytes 4 v.toNat)) =
      (stOk, deviceReset rcDevice (s.dSet 0x1203 1 (leBytes 4 v.toNat))) := if_pos (by rw [leNat_word, hkey])
  have hstore := entryStore_first (r := r) (fun _ => hnew) rfl hact
  rw [if_pos rfl] at hstore
  obtain ⟨l, y, -, -, hexec⟩ := hostWrite_executed h (i := 0x1203) (x := 1) (by decide) ((htakes.write h {}).trans hstore) tid
  have hreset : (stOk == stOk && resetsDevice 0x1203 1 (leBytes 4 v.toNat) s) = true := by
    simpa [resetsDevice] using hnew
  exact congrArg Host.Outcome.next (hexec.trans (if_pos hreset))

theorem execDeviceResetWrite_refused (hkey : v.toNat / 65536 ≠ 0xA5C3) :
    ∃ l y, linkNum src = some l ∧ y.pdu = writeResp tid 0x1203 1 stRange ∧
      exec (.deviceResetWrite src tid v) s = .next (((s.dSet 0x1203 1 (leBytes 4 v.toNat)).dSet 0x1203 1 (s.dGet 0x1203 1)).push l y) := by
  obtain ⟨r, htakes⟩ := takes_deviceReset v
  have hact : entryAct {} 0x1203 1 (leBytes 4 v.toNat) (s.dSet 0x1203 1 (leBytes 4 v.toNat)) =
      (stRange, s.dSet 0x1203 1 (leBytes 4 v.toNat)) := if_neg (by rwa [leNat_word])
  have hstore := entryStore_first (r := r) (fun _ => hnew) rfl hact
  rw [if_neg (by decide)] at hstore
  obtain ⟨l, y, hlink, hy, hexec⟩ := hostWrite_executed h (i := 0x1203) (x := 1) (by decide) ((htakes.write h {}).trans hstore) tid
  exact ⟨l, y, hlink, by rw [hy, sentTo_pdu], congrArg Host.Outcome.next hexec⟩

end

/-- An entry given a value and then its old value again. -/
theorem dGet_dSet_back (s : State) {x y j : Nat} (v : List Byte) (hy : y < 256) (hj : j < 256) (i : Nat) :
    ((s.dSet x y v).dSet x y (s.dGet x y)).dGet i j = s.dGet i j := by
  by_cases h : key i j = key x y
  · obtain ⟨rfl, rfl⟩ := (key_inj hj hy).1 h
    exact dGet_dSet_self _ _ _ _
  · rw [dGet_dSet_ne _ _ h, dGet_dSet_ne _ _ h]

/-! ### The heartbeat (R48, R49) -/

theorem heartbeatRuns_iff (s : State) :
    heartbeatRuns s = true ↔ s.links.serving = .main ∧ s.links.checksOk = true ∧ s.hlt.expired.getLsbD 0 = false := by
  simp [heartbeatRuns, and_assoc]

theorem heartbeatTick_runs {s : State} (h : heartbeatRuns s = true) : ∃ o,
    heartbeatTick s = { s.dPut 0x1200 3 ((s.dU 0x1200 3 + 1) % 2 ^ 32) with links := { s.links with outbox := o } } ∧
      (s.dU 0x1100 2 ≠ 1 → o = s.links.outbox) := by
  unfold heartbeatTick
  rw [if_neg (by simp [h])]
  dsimp only
  have hsame : (s.dPut 0x1200 3 ((s.dU 0x1200 3 + 1) % 2 ^ 32)).dU 0x1100 2 = s.dU 0x1100 2 := congrArg leNat (dGet_dPut_ne s _ (by decide))
  rw [hsame]
  split
  · rename_i hon
    obtain ⟨o, ho⟩ := notifyAt_frame (s.dPut 0x1200 3 ((s.dU 0x1200 3 + 1) % 2 ^ 32)) 0x1200 3 0 stOk
      ((s.dPut 0x1200 3 ((s.dU 0x1200 3 + 1) % 2 ^ 32)).dGet 0x1200 3)
    exact ⟨o, ho, fun hoff => absurd hon hoff⟩
  · exact ⟨s.links.outbox, rfl, fun _ => rfl⟩

end Sys2Proof.Machine

namespace Sys2Proof.Proofs
open Sys2Proof.Machine

/-- Settles O23: each setting is one entry stored and answered, behind whose response it comes into force; a reset by request starts from the reset state
and keeps what no reset touches. -/
theorem linkSettings : Obligations.LinkSettings := by
  intro s src tid v q b ext
  refine ⟨fun h hnew hidle => ?_, fun h hnew hbusy => ?_, fun hsaving => ?_, fun h hnew => ?_, fun h hnew => ?_, fun h hlo hhi => ?_, fun h hsrc => ?_,
    fun h => ?_, fun n hn h hnew => ?_, fun h hnew hkey => ?_, fun h hnew hkey => ?_, fun hmain hchecks hdog => ?_, fun hstill => ?_⟩
  · obtain ⟨l, y, hlink, hy, hexec⟩ := execSaveSettings_push h hnew (saveStart_idle hidle) tid
    refine ⟨_, hexec, rfl, rfl, ?_, dGet_dSet_self _ _ _ _, fun i j hkey => dGet_dSet_ne _ _ hkey, spoke_of_push hlink hy rfl, rfl⟩
    exact congrArg ResultRec.pending (resOf_resPend_self _ 0x1100 4)
  · obtain ⟨l, y, hlink, hy, hexec⟩ := execSaveSettings_push h hnew (saveStart_busy hbusy) tid
    rw [if_neg (by decide)] at hexec
    exact ⟨_, hexec, hbusy, rfl, dGet_produce_self s 0x1100 4 [stBusy], fun i j hkey => dGet_produce_ne s [stBusy] hkey, spoke_of_push hlink hy rfl, rfl⟩
  · have hdone : saveDone s = (linksMod (fun l => { l with saving := false }) (saveNow s)).produceSt 0x1100 4 stOk := if_neg (by simp [hsaving])
    refine ⟨_, congrArg Host.Outcome.next hdone, rfl, dGet_produce_self _ _ _ _, ?_, mem_saveNow s, fun i j hkey => dGet_produce_ne _ _ hkey, rfl⟩
    exact congrArg ResultRec.fresh (resOf_produce_self _ 0x1100 4 _)
  · have hsub : (canApplySub q).toNat = if q then 0x1F else 0x15 := by cases q <;> rfl
    obtain ⟨l, y, hlink, hy, hexec⟩ := execCanApply_push h (hsub ▸ hnew) tid
    refine ⟨_, hexec, spoke_of_push hlink hy rfl, rfl, ?_⟩
    intro c e
    have hc : c = canSettings (if q then 1 else 0) s := vget_vset_self _ _ _
    rw [hc]
    cases q
    · exact ⟨beq_eq_decide .., rfl, rfl, rfl, rfl, vget_vset_ne (by decide)⟩
    · exact ⟨beq_eq_decide .., rfl, rfl, rfl, rfl, vget_vset_ne (by decide)⟩
  · obtain ⟨l, y, hlink, hy, hexec⟩ := execT1sApply_push h hnew tid
    exact ⟨_, hexec, spoke_of_push hlink hy rfl, rfl, rfl, beq_eq_decide .., rfl, rfl, rfl, rfl, rfl⟩
  · obtain ⟨l, y, hlink, hy, hexec⟩ := execUartRateWrite_push h hlo hhi tid
    exact ⟨_, hexec, rfl, dGet_dSet_self _ _ _ _, fun i j hkey => dGet_dSet_ne _ _ hkey, spoke_of_push hlink hy rfl, rfl⟩
  · obtain ⟨l, y, hlink, hy, hexec⟩ := execSpiQuadWrite_push h q tid
    rw [afterResponse_quad hsrc] at hexec
    exact ⟨_, hexec, rfl, dGet_dSet_self _ _ _ _, spoke_of_push hlink hy rfl, rfl⟩
  · obtain ⟨l, y, hlink, hy, hexec⟩ := execSpiQuadWrite_push h q tid
    obtain rfl : 3 = l := Option.some.inj hlink
    rw [afterResponse_quad_spi] at hexec
    exact ⟨_, { y with quad := some q }, hexec, rfl, dGet_dSet_self _ _ _ _, vget_vmod_self _ _ _, hy, rfl, rfl⟩
  · obtain ⟨link, hlink⟩ := Option.isSome_iff_exists.1 (fnLink_isSome n hn)
    obtain ⟨l, y, hl, hy, hexec⟩ := hostWrite_linkReinit h hn hlink hnew tid
    have hwaiting : ((s.dSet 0x1202 (n.1 + 1) b).push l y).links.waiting = [] := h.1
    rw [linkReinit_idle hwaiting] at hexec
    refine ⟨_, link, hlink, hexec, rfl, ?_, ?_, ?_, dGet_dSet_self _ _ _ _, fun i j hkey => dGet_dSet_ne _ _ hkey, spoke_of_push hl hy rfl, rfl⟩
    all_goals
      rintro rfl
      obtain rfl := Option.some.inj hlink
      simp [linksMod]
  · have hleaves := resetLeaves_deviceReset s v
    exact ⟨_, execDeviceResetWrite_key h hnew tid hkey, hleaves.links, hleaves.cause, hleaves.number, hleaves.saved, hleaves.backup, hleaves.otp,
      hleaves.pending, hleaves.events, hleaves.timers⟩
  · obtain ⟨l, y, hlink, hy, hexec⟩ := execDeviceResetWrite_refused h hnew tid hkey
    exact ⟨_, hexec, fun i j hj => dGet_dSet_back s _ (by decide) hj i, spoke_of_push hlink hy rfl, rfl⟩
  · obtain ⟨o, htick, hquiet⟩ := heartbeatTick_runs ((heartbeatRuns_iff s).2 ⟨hmain, hchecks, hdog⟩)
    refine ⟨_, congrArg Host.Outcome.next htick, ?_, fun i j hkey => dGet_dPut_ne s _ hkey, rfl, fun hoff => ?_⟩
    · exact (dU_dPut_self s 0x1200 3 _).trans (Nat.mod_mod _ _)
    · rw [hquiet hoff]
  · have hstops : heartbeatRuns s = false := by
      rw [Bool.eq_false_iff, ne_eq, heartbeatRuns_iff]
      rintro ⟨hmain, hchecks, hdog⟩
      rcases hstill with hs | hs | hs
      · exact hs hmain
      · exact absurd (hchecks.symm.trans hs) (by decide)
      · exact absurd (hdog.symm.trans hs) (by decide)
    exact congrArg Host.Outcome.next (if_pos (by rw [hstops]; rfl))

end Sys2Proof.Proofs
end

section
/-! SUPPORT. A request to a remote node on its way into Sluice's queue 1, and the values of the proxy (R45, R46, R269). -/

namespace Sys2Proof.Machine

/-! ### What a write by a master that is no core changes -/

/-- Nothing but memory and the cores' reservations has changed. -/
structure MemoryOnly (s t : State) : Prop where
  frame : { t with mem := s.mem, kz := s.kz } = s

theorem MemoryOnly.trans {s t u : State} (h : MemoryOnly s t) (h' : MemoryOnly t u) : MemoryOnly s u := by
  have htwice := congrArg (fun w : State => { w with mem := s.mem, kz := s.kz }) h'.frame
  exact ⟨htwice.trans h.frame⟩

theorem OnlyReservations.memoryOnly {n : Nat} {s t : State} (h : OnlyReservations n s t) : MemoryOnly s t := by
  have hmem := congrArg (fun w : State => { w with mem := s.mem, kz := s.kz }) h.frame
  exact ⟨hmem⟩

theorem memoryOnly_wrBytes (a : Nat) (bs : List Byte) (s : State) : MemoryOnly s (s.wrBytes a bs) := ⟨rfl⟩

theorem memoryOnly_mendOnWrite (a n : Nat) (s : State) : MemoryOnly s (mendOnWrite a n s) := by
  obtain ⟨b, p, h⟩ := mendOnWrite_frame a n s
  rw [h]
  exact ⟨rfl⟩

theorem memoryOnly_dmaWrite (a : Nat) (bs : List Byte) (s : State) : MemoryOnly s (s.dmaWrite a bs) :=
  ((memoryOnly_wrBytes a bs s).trans (memoryOnly_mendOnWrite ..)).trans (breakReservations_frame ..).memoryOnly

/-- A node's record of the frames that wait for it is memory (R253). -/
theorem memoryOnly_syncDownlinks (n : Nat) (s : State) : MemoryOnly s (syncDownlinks n s) := by
  unfold syncDownlinks
  split
  · exact ⟨rfl⟩
  · exact ((memoryOnly_dmaWrite ..).trans (memoryOnly_dmaWrite ..)).trans (memoryOnly_dmaWrite ..)

/-! ### A frame of the device's own -/

/-- One frame more waits behind queue 1, with the next number; besides Sluice the SEQ, memory and reservations may have changed. -/
structure Originated (s t : State) (dest h : Nat) (p : Pdu) : Prop where
  queued : Queued s t dest h p
  next : t.slu.nextId = s.slu.nextId + 1
  frame : { t with slu := s.slu, lnk := s.lnk, mem := s.mem, kz := s.kz } = s

theorem Originated.links {s t : State} {dest h : Nat} {p : Pdu} (ho : Originated s t dest h p) : t.links = s.links := (congrArg State.links ho.frame :)

theorem Originated.dict {s t : State} {dest h : Nat} {p : Pdu} (ho : Originated s t dest h p) : t.dict = s.dict := (congrArg State.dict ho.frame :)

theorem Originated.outbox {s t : State} {dest h : Nat} {p : Pdu} (ho : Originated s t dest h p) : t.links.outbox = s.links.outbox :=
  congrArg Links.outbox ho.links

/-- The state of Sluice and the link controller is what `u` says, and besides them only memory has changed since `s`. -/
theorem originated_of {s t u : State} {dest h : Nat} {p : Pdu} (hbase : { u with slu := s.slu, lnk := s.lnk, mem := s.mem, kz := s.kz } = s)
    (hmem : MemoryOnly u t) (hqueued : Queued s u dest h p) (hnext : u.slu.nextId = s.slu.nextId + 1) : Originated s t dest h p := by
  have hslu : t.slu = u.slu := (congrArg State.slu hmem.frame :)
  have hframe := congrArg (fun w : State => { w with slu := s.slu, lnk := s.lnk, mem := s.mem, kz := s.kz }) hmem.frame
  refine ⟨?_, by rw [hslu, hnext], hframe.trans hbase⟩
  unfold Queued
  rw [hslu]
  exact hqueued

/-- A frame behind queue 1, once its slot and SEQ are taken and its bytes are in the store. -/
theorem enqueueFrame_originated {s u v : State} {f : QFrame} {dest h : Nat} {p : Pdu}
    (hbase : { u with slu := s.slu, lnk := s.lnk, mem := s.mem, kz := s.kz } = s) (hqueues : u.slu.queues = s.slu.queues)
    (hid : u.slu.nextId = s.slu.nextId) (hmem : MemoryOnly u v) (hnode : f.node = h) (hdest : lhDest f.lh = dest) (hport : lhPort f.lh = 1)
    (hpayload : f.payload = pduBytes p) : Originated s (enqueueFrame 1 false f v) dest h p := by
  have hframe := congrArg (fun w : State => { w with slu := s.slu, lnk := s.lnk, mem := s.mem, kz := s.kz }) hmem.frame
  have hslu : v.slu = u.slu := (congrArg State.slu hmem.frame :)
  have hid' : v.slu.nextId = s.slu.nextId := (congrArg Slu.nextId hslu).trans hid
  have hqueues' : v.slu.queues = s.slu.queues := (congrArg Slu.queues hslu).trans hqueues
  refine originated_of ?_ (memoryOnly_syncDownlinks f.node _) ?_ ?_
  · exact hframe.trans hbase
  · refine ⟨{ f with id := v.slu.nextId, finish := 0 }, ?_, hid', hnode, hdest, hport, hpayload, fun q hq => ?_⟩
    · rw [← hqueues']
      exact vget_vmod_self _ _ _
    · rw [← hqueues']
      exact vget_vset_ne (Ne.symm hq)
  · rw [← hid']
    rfl

theorem originate_request {s : State} (hslot : s.freeSlot.isSome = true) (hroom : s.qFull 1 = false) {dest : Nat} (hdest : dest < 2 ^ 18) (h : Nat)
    (p : Pdu) : ∃ t, originate 1 h dest 1 0 1 false 15 (pduBytes p) s = some t ∧ Originated s t dest h p := by
  obtain ⟨k, hk⟩ := Option.isSome_iff_exists.1 hslot
  unfold originate
  rw [hk]
  simp only [hroom]
  rw [if_neg nofun]
  refine ⟨_, rfl, enqueueFrame_originated ?_ ?_ ?_ (memoryOnly_dmaWrite ..) rfl ?_ (lhPort_linkHeader ..) rfl⟩
  · rfl
  · rfl
  · rfl
  · exact (lhDest_linkHeader ..).trans (Nat.mod_eq_of_lt hdest)

/-! ### The proxy's requests and values -/

theorem proxyBarred_none {s : State} (hrole : s.bigRole = true) (hcore : (s.physOf 1).isSome = true) (hproxies : s.links.proxies = []) :
    proxyBarred s = none := by
  have hrunning : (s.physOf 1).isNone = false := by
    rw [← Option.not_isSome, hcore]
    rfl
  simp [proxyBarred, hrole, hrunning, hproxies]

/-- A host names a node that it may name: only the role and the pending requests can refuse. -/
theorem proxyCheck_named {s : State} {src : Src} (h : Asks s src) {wr : Bool} {node : Nat} (hnode : node ≠ 0) (hunicast : wr = false → node ≠ 0x3FFFF) :
    proxyCheck src wr node s = (proxyBarred s).getD stOk := by
  obtain ⟨hair, hfirmware⟩ := asks_notAir h
  have hrange : ¬(node = 0 ∨ ((!wr) = true ∧ node = 0x3FFFF)) := by
    rintro (h0 | ⟨hread, hall⟩)
    · exact hnode h0
    · exact hunicast (by simpa using hread) hall
  simp only [proxyCheck, hair, hfirmware, or_self, if_false, hrange]

theorem proxyCheck_ready {s : State} {src : Src} (h : Asks s src) {wr : Bool} {node : Nat} (hnode : node ≠ 0) (hunicast : wr = false → node ≠ 0x3FFFF)
    (hbarred : proxyBarred s = none) : proxyCheck src wr node s = stOk := by
  rw [proxyCheck_named h hnode hunicast, hbarred]
  rfl

theorem proxyCheck_notRoot {s : State} {src : Src} (h : Asks s src) {wr : Bool} {node : Nat} (hnode : node ≠ 0)
    (hunicast : wr = false → node ≠ 0x3FFFF) (hrole : s.bigRole = false) : proxyCheck src wr node s = stNotReady := by
  rw [proxyCheck_named h hnode hunicast, proxyBarred, hrole]
  rfl

/-- A request for a node whose next hop is known goes to Sluice at once and is pending. -/
theorem proxySend_now {s : State} {r : ProxyReq} {h : Nat} (hsend : CanSend s r.node.toNat h) : ∃ t, Originated s t r.node.toNat h r.pdu ∧
    proxySend r s = some (linksMod (fun l => { l with proxies := [{ r with frames := [s.slu.nextId] }] }) t) := by
  obtain ⟨-, hproxies, -, hhops, hslot, hroom⟩ := hsend
  obtain ⟨t, horiginate, ht⟩ := originate_request hslot hroom r.node.isLt h r.pdu
  refine ⟨t, ht, ?_⟩
  have hheld : proxyHeld r s = false := by simp [proxyHeld, hproxies]
  have hnumber : t.slu.nextId - 1 = s.slu.nextId := by
    rw [ht.next, Nat.add_sub_cancel]
  simp only [proxySend, hheld, hhops, proxyQueue, horiginate, Bool.false_eq_true, if_false, hnumber, List.nil_append, linksMod, ht.links, hproxies]

theorem proxyVal_store (v : ProxyVal) (s : State) : (proxyStore v s).proxyVal v.node v.index v.sub = some v := by
  unfold State.proxyVal proxyStore linksMod
  rw [List.find?_append, List.find?_eq_none.2]
  · simp
  · intro w hw
    have hother := (List.mem_filter.1 hw).2
    rw [Bool.not_eq_true'] at hother
    simp [hother]

/-- A value that its reader has now seen. -/
def seenVal (src : Src) (v : ProxyVal) : ProxyVal := { v with fresh := v.fresh &&& ~~~readerBit src, seen := v.seen &&& ~~~readerBit src }

theorem proxySeen_fresh {src : Src} {v : ProxyVal} (h : v.fresh.getLsbD (srcNum src) = true) (s : State) :
    proxySeen src v s = proxyStore (seenVal src v) s := congrArg (fun w => proxyStore w s) (if_pos h)

theorem proxyVal_key {s : State} {node : BitVec 18} {index : BitVec 16} {sub : Byte} {v : ProxyVal} (h : s.proxyVal node index sub = some v) :
    v.node = node ∧ v.index = index ∧ v.sub = sub := by
  have hkey := List.find?_some h
  simpa [and_assoc] using hkey

/-! ### A proxy READ and WRITE (R45, R46) -/

section
variable {s : State} {src : Src} {i : BitVec 16} {x : Byte} {node : BitVec 18}

/-- The request that a proxy READ or WRITE makes. -/
def proxyAsk (node : BitVec 18) (i : Nat) (x : Byte) (write : Bool) (data : List Byte) : ProxyReq :=
  { node := node, index := BitVec.ofNat 16 (remoteIndex i), sub := x, write := write, data := data }

theorem none_pending (hproxies : s.links.proxies = []) (p : ProxyReq → Bool) : s.links.proxies.any p = false := by
  rw [hproxies]
  rfl

/-- An item with no value: the request goes out. -/
theorem proxyRead_new {t : State} (hproxies : s.links.proxies = []) (hcheck : proxyCheck src false node.toNat s = stOk)
    (hval : s.proxyVal node (BitVec.ofNat 16 (remoteIndex i.toNat)) x = none) (hsend : proxySend (proxyAsk node i.toNat x false []) s = some t) :
    proxyRead src none i.toNat x.toNat node.toNat s = ({ st := stNotReady }, t) := by
  unfold proxyAsk at hsend
  simp only [proxyRead, none_pending hproxies, BitVec.ofNat_toNat, BitVec.setWidth_eq, hcheck, hval, hsend, Bool.false_eq_true, false_and, if_false,
    ne_eq, not_true_eq_false]

/-- A value that the reader has not seen yet. -/
theorem proxyRead_value {v : ProxyVal} (hproxies : s.links.proxies = []) (hcheck : proxyCheck src false node.toNat s = stOk)
    (hval : s.proxyVal node (BitVec.ofNat 16 (remoteIndex i.toNat)) x = some v) (hlate : v.late = false) (hfresh : v.fresh.getLsbD (srcNum src) = true)
    (hdata : v.data ≠ []) (hlen : v.data.length ≤ dataLimit src) :
    proxyRead src none i.toNat x.toNat node.toNat s = ({ st := stOk, fresh := true, data := v.data }, proxyStore (seenVal src v) s) := by
  have hst : ¬(stOk = stBadLength) := by decide
  simp [proxyRead, none_pending hproxies, hcheck, hval, hlate, hfresh, hdata, sliceRes_short hlen, hst, proxySeen_fresh hfresh]

theorem proxyWrite_new {t : State} {data : List Byte} (hproxies : s.links.proxies = []) (hcheck : proxyCheck src true node.toNat s = stOk)
    (hlen : data.length ≤ 228) (hsend : proxySend (proxyAsk node i.toNat x true data) s = some t) :
    proxyWrite src i.toNat x.toNat node.toNat data s = (stOk, t) := by
  have hfits : ¬228 < data.length := by omega
  unfold proxyAsk at hsend
  simp only [proxyWrite, hproxies, BitVec.ofNat_toNat, BitVec.setWidth_eq, hcheck, hfits, dataLimit, hsend, List.find?_nil, if_false, ne_eq,
    not_true_eq_false, false_and]

theorem proxyWrite_refused {data : List Byte} {st : Status} (hcheck : proxyCheck src true node.toNat s = st) (hok : st ≠ stOk) (hbusy : st ≠ stBusy) :
    proxyWrite src i.toNat x.toNat node.toNat data s = (st, s) := by
  simp [proxyWrite, hcheck, hok, hbusy]

/-! ### From the request to the proxy and back -/

section
variable (h : Asks s src) (hlow : 0x6000 ≤ i.toNat) (hhigh : i.toNat < 0x7000)
include h hlow hhigh

theorem execProxyRead_push {t : State} {a : Res} (hread : proxyRead src none i.toNat x.toNat node.toNat s = (a, t)) (tid : Byte) :
    ∃ l y, linkNum src = some l ∧ y.pdu = { op := 3, tid := tid, index := i, sub := x, node := node, fresh := a.fresh, status := a.st, data := a.data } ∧
      exec (.proxyRead src tid i x node) s = .next (t.push l y) := by
  have hwindow : ¬(0x5000 ≤ i.toNat ∧ i.toNat < 0x6000) := by omega
  have hserve : serve {} { src := src, pdu := { op := 1, tid := tid, index := i, sub := x, node := node } } s = (a, t) := by
    rw [serve_op h rfl (.inr ⟨Nat.le_trans (by decide) hlow, hhigh⟩) {} (.inl rfl)]
    simp [serveRead, hwindow, hlow, hhigh, hread]
  obtain ⟨l, y, hlink, hpdu, hrequest⟩ := request_push h hserve rfl
  exact ⟨l, y, hlink, hpdu, congrArg Host.Outcome.next hrequest⟩

theorem execProxyWrite_push {t : State} {st : Status} {data : List Byte} (hwrite : proxyWrite src i.toNat x.toNat node.toNat data s = (st, t))
    (tid : Byte) : ∃ l y, linkNum src = some l ∧ y.pdu = { op := 4, tid := tid, index := i, sub := x, node := node, status := st } ∧
      exec (.proxyWrite src tid i x node data) s = .next (t.push l y) := by
  have hwindow : ¬(0x5000 ≤ i.toNat ∧ i.toNat < 0x6000) := by omega
  have hserve : serve {} { src := src, pdu := { op := 2, tid := tid, index := i, sub := x, node := node, data := data } } s = ({ st := st }, t) := by
    rw [serve_op h rfl (.inr ⟨Nat.le_trans (by decide) hlow, hhigh⟩) {} (.inr (.inl rfl))]
    simp [writeTarget, hwindow, hlow, hhigh, hwrite]
  have hreset : resetsDevice i.toNat x.toNat data s = false := by
    have hidx : i.toNat ≠ 0x1203 := by omega
    simp [resetsDevice, hidx]
  have hafter : ∀ u, afterResponse src i.toNat x.toNat data u = u := by
    intro u
    have hlinks : i.toNat ≠ 0x1100 ∧ i.toNat ≠ 0x1202 ∧ i.toNat ≠ 0x3300 := by omega
    simp only [afterResponse, hlinks, if_false, false_and]
  obtain ⟨l, y, hlink, hpdu, hrequest⟩ := request_push_quiet h hserve hreset hafter
  exact ⟨l, y, hlink, hpdu, congrArg Host.Outcome.next hrequest⟩

end

end

end Sys2Proof.Machine

namespace Sys2Proof.Proofs
open Sys2Proof.Machine

/-- Settles O27: a proxy request is refused, answered from the value in hand, or becomes one frame of Sluice's queue 1 and one pending request. -/
theorem proxyRequests : Obligations.ProxyRequests := by
  intro s src tid index sub node data h hasks hlow hhigh hnode rem resp ask
  have hnode' : node.toNat ≠ 0 := fun h0 => hnode (BitVec.eq_of_toNat_eq h0)
  have hunicast' : node ≠ 0x3FFFF → node.toNat ≠ 0x3FFFF := fun hne hall => hne (BitVec.eq_of_toNat_eq hall)
  refine ⟨fun hunicast hsend hval => ?_, fun hunicast hrole hcore hproxies v hval hlate hfresh hdata hlen => ?_, fun hsend hlen hunicast => ?_,
    fun hsend hlen => ?_, fun hrole hunicast => ?_⟩
  · have hcheck : proxyCheck src false node.toNat s = stOk :=
      proxyCheck_ready hasks hnode' (fun _ => hunicast' hunicast) (proxyBarred_none hsend.1 hsend.2.2.1 hsend.2.1)
    obtain ⟨t, ht, hsent⟩ := proxySend_now (r := proxyAsk node index.toNat sub false []) hsend
    obtain ⟨l, y, hlink, hy, hexec⟩ := execProxyRead_push hasks hlow hhigh (proxyRead_new hsend.2.1 hcheck hval hsent) tid
    exact ⟨_, hexec, rfl, ht.queued, spoke_of_push hlink hy ht.outbox, ht.dict⟩
  · have hcheck : proxyCheck src false node.toNat s = stOk :=
      proxyCheck_ready hasks hnode' (fun _ => hunicast' hunicast) (proxyBarred_none hrole hcore hproxies)
    obtain ⟨l, y, hlink, hy, hexec⟩ := execProxyRead_push hasks hlow hhigh (proxyRead_value hproxies hcheck hval hlate hfresh hdata hlen) tid
    obtain ⟨hn, hi, hx⟩ := proxyVal_key hval
    refine ⟨_, seenVal src v, hexec, spoke_of_push hlink hy rfl, ?_, rfl, ?_, rfl⟩
    · rw [← hn, ← hi, ← hx]
      exact proxyVal_store (seenVal src v) s
    · exact readerBit_clear src v.fresh
  · have hcheck : proxyCheck src true node.toNat s = stOk := proxyCheck_ready hasks hnode' nofun (proxyBarred_none hsend.1 hsend.2.2.1 hsend.2.1)
    obtain ⟨t, ht, hsent⟩ := proxySend_now (r := proxyAsk node index.toNat sub true data) hsend
    obtain ⟨l, y, hlink, hy, hexec⟩ := execProxyWrite_push hasks hlow hhigh (proxyWrite_new hsend.2.1 hcheck hlen hsent) tid
    exact ⟨_, hexec, rfl, ht.queued, spoke_of_push hlink hy ht.outbox, ht.dict⟩
  · have hcheck : proxyCheck src true (0x3FFFF : BitVec 18).toNat s = stOk :=
      proxyCheck_ready hasks (by decide) nofun (proxyBarred_none hsend.1 hsend.2.2.1 hsend.2.1)
    obtain ⟨t, ht, hsent⟩ := proxySend_now (r := proxyAsk 0x3FFFF index.toNat sub true data) hsend
    obtain ⟨l, y, hlink, hy, hexec⟩ := execProxyWrite_push hasks hlow hhigh (proxyWrite_new hsend.2.1 hcheck hlen hsent) tid
    exact ⟨_, hexec, rfl, ht.queued, spoke_of_push hlink hy ht.outbox, ht.dict⟩
  · have hcheck : proxyCheck src true node.toNat s = stNotReady := proxyCheck_notRoot hasks hnode' nofun hrole
    obtain ⟨l, y, hlink, hy, hexec⟩ := execProxyWrite_push hasks hlow hhigh (data := data) (proxyWrite_refused hcheck (by decide) (by decide)) tid
    exact ⟨_, hexec, spoke_of_push hlink hy rfl, rfl⟩

end Sys2Proof.Proofs
end

section
/-! SUPPORT. How proxied and tunnelled requests begin and end, and a request that came over the air (R21, R45 to R47). -/

namespace Sys2Proof.Machine

/-! ### The one pending request taken -/

theorem takeFirst_one {α : Type} {p : α → Bool} {x : α} (h : p x = true) : takeFirst p [x] = some (x, []) :=
  takeFirst_of_first (pre := []) nofun h

theorem proxyTake_one {s : State} {r : ProxyReq} (hproxies : s.links.proxies = [r]) {p : ProxyReq → Bool} (h : p r = true) :
    proxyTake p s = some (r, linksMod (fun l => { l with proxies := [] }) s) := by
  unfold proxyTake
  rw [hproxies, takeFirst_one h]
  rfl

/-- The next frame of Causeway taken, where it is the only one. -/
def inboxTaken (s : State) : State := cwyMod (fun c => { c with inbox := [] }) s

/-! ### Outcomes -/

/-- What the links have to send replaced. -/
def withOutbox (o : Vector (List Sent) 5) (s : State) : State := linksMod (fun l => { l with outbox := o }) s

theorem notifyAt_told (s : State) (x y : Nat) (node : BitVec 18) (st : Status) (d : List Byte) : ∃ o, s.notifyAt x y node st d = withOutbox o s :=
  notifyAt_frame s x y node st d

/-- The value of a proxied item that a READ gave, new to every reader. -/
def readVal (r : ProxyReq) (data : List Byte) : ProxyVal := { node := r.node, index := r.index, sub := r.sub, data := data, fresh := 0x7F }

/-- The value of an item whose last READ timed out. -/
def lateVal (r : ProxyReq) (s : State) : ProxyVal :=
  { (s.proxyVal r.node r.index r.sub).getD { node := r.node, index := r.index, sub := r.sub } with late := true }

theorem lateVal_key (r : ProxyReq) (s : State) : (lateVal r s).node = r.node ∧ (lateVal r s).index = r.index ∧ (lateVal r s).sub = r.sub := by
  unfold lateVal
  cases h : s.proxyVal r.node r.index r.sub with
  | none => exact ⟨rfl, rfl, rfl⟩
  | some v => exact (proxyVal_key h :)

section
variable {r : ProxyReq} (hslot : r.slot = 0)
include hslot

theorem proxyAnswer_read (hread : r.write = false) {p : Pdu} (hst : p.status = stOk) (s : State) :
    ∃ o, proxyAnswer r p s = withOutbox o (proxyStore (readVal r p.data) s) := by
  obtain ⟨o, ho⟩ := notifyAt_told (proxyStore (readVal r p.data) s) (proxyIndex r.index) r.sub.toNat r.node p.status []
  refine ⟨o, Eq.trans ?_ ho⟩
  unfold proxyAnswer
  rw [if_neg (not_not_intro hslot), hread, hst]
  rfl

theorem proxyFail_badTag (s : State) : ∃ o, proxyFail r stAuthFail s = withOutbox o s := by
  obtain ⟨o, ho⟩ := notifyAt_told s (proxyIndex r.index) r.sub.toNat r.node stAuthFail []
  refine ⟨o, Eq.trans ?_ ho⟩
  have hlate : (r.write || stAuthFail != stLate) = true := Bool.or_true _
  unfold proxyFail
  rw [if_neg (not_not_intro hslot), hlate]
  rfl

theorem proxyFail_late (hread : r.write = false) (s : State) : ∃ o, proxyFail r stLate s = withOutbox o (proxyStore (lateVal r s) s) := by
  obtain ⟨o, ho⟩ := notifyAt_told (proxyStore (lateVal r s) s) (proxyIndex r.index) r.sub.toNat r.node stLate []
  refine ⟨o, Eq.trans ?_ ho⟩
  unfold proxyFail
  rw [if_neg (not_not_intro hslot), hread]
  rfl

end

/-- What AIR_RESULT holds once a tunnelled request has ended, before the links are told. -/
def tunnelEnded (r : ProxyReq) (p : Pdu) (s : State) : State :=
  (linksMod (fun l => { l with airWait := l.airWait &&& ~~~(1#16 <<< (r.slot - 1)) }) s).produce 0x1102 r.slot (leBytes 4 r.node.toNat ++ pduBytes p)

theorem airOutcome_told (r : ProxyReq) (p : Pdu) (s : State) : ∃ o, airOutcome r p s = withOutbox o (tunnelEnded r p s) :=
  notifyAt_told (tunnelEnded r p s) 0x1102 r.slot 0 stOk []

theorem bit_cleared (b : BitVec 16) (k : Fin 16) : (b &&& ~~~(1#16 <<< k.1)).getLsbD k.1 = false := by
  simp [k.isLt]

/-- A request over which nothing waits in Sluice any more has waited its time. -/
theorem proxyLate_unicast {r : ProxyReq} (hframes : r.frames = []) (hnode : r.node ≠ 0x3FFFF) (s : State) : proxyLate r s = proxyFail r stLate s := by
  unfold proxyLate
  rw [hframes, if_neg hnode]
  rfl

theorem proxyFail_slot {r : ProxyReq} (hslot : r.slot ≠ 0) (st : Status) (s : State) : proxyFail r st s = airOutcome r (r.outcome st) s := if_pos hslot

theorem proxyAnswer_slot {r : ProxyReq} (hslot : r.slot ≠ 0) (p : Pdu) (s : State) : proxyAnswer r p s = airOutcome r p s := if_pos hslot

/-- Besides the links and Causeway's inbox `u` is `s`, and no request is pending. -/
structure RequestEnded (s u : State) : Prop where
  proxies : u.links.proxies = []
  frame : { u with links := s.links, cwy := { u.cwy with inbox := s.cwy.inbox } } = s

/-- A tunnel slot that has its outcome: the node and the response PDU (R47). -/
structure TunnelDone (s t : State) (slot : Fin 16) (node : BitVec 18) (q : Pdu) : Prop where
  proxies : t.links.proxies = []
  frame : { t with links := s.links, dict := s.dict, results := s.results, cwy := { t.cwy with inbox := s.cwy.inbox } } = s
  idle : t.links.airWait.getLsbD slot.1 = false
  value : t.dGet 0x1102 (slot.1 + 1) = leBytes 4 node.toNat ++ pduBytes q
  result : t.resOf 0x1102 (slot.1 + 1) = { produced := true, pending := false, fresh := 0x7F }

theorem airOutcome_done {s u : State} (hu : RequestEnded s u) {r : ProxyReq} {slot : Fin 16} (hslot : r.slot = slot.1 + 1) (q : Pdu) :
    TunnelDone s (airOutcome r q u) slot r.node q := by
  obtain ⟨o, ho⟩ := airOutcome_told r q u
  rw [ho]
  constructor
  case proxies => exact hu.proxies
  case frame => exact (congrArg (fun w : State => { w with dict := s.dict, results := s.results }) hu.frame :)
  case idle =>
    have hbit : (withOutbox o (tunnelEnded r q u)).links.airWait = u.links.airWait &&& ~~~(1#16 <<< slot.1) := by
      have hk : r.slot - 1 = slot.1 := by omega
      rw [← hk]
      rfl
    rw [hbit]
    exact bit_cleared _ slot
  case value =>
    rw [← hslot]
    exact dGet_produce_self _ 0x1102 r.slot (leBytes 4 r.node.toNat ++ pduBytes q)
  case result =>
    rw [← hslot]
    exact resOf_produce_self _ 0x1102 r.slot (leBytes 4 r.node.toNat ++ pduBytes q)

theorem RequestEnded.told {s u : State} (h : RequestEnded s u) (o : Vector (List Sent) 5) : RequestEnded s (withOutbox o u) := ⟨h.proxies, h.frame⟩

theorem RequestEnded.stored {s u : State} (h : RequestEnded s u) (v : ProxyVal) : RequestEnded s (proxyStore v u) := ⟨h.proxies, h.frame⟩

theorem requestEnded_taken (s : State) : RequestEnded s (linksMod (fun l => { l with proxies := [] }) s) := ⟨rfl, rfl⟩

theorem requestEnded_inboxTaken (s : State) : RequestEnded s (linksMod (fun l => { l with proxies := [] }) (inboxTaken s)) := ⟨rfl, rfl⟩

/-! ### Requests that end without a reply -/

section
variable {s : State} {r : ProxyReq} (hproxies : s.links.proxies = [r])
include hproxies

theorem proxyReply_badTag (hslot : r.slot = 0) (hleft : r.left = true) :
    proxyReply (some r.node) s = proxyFail r stAuthFail (linksMod (fun l => { l with proxies := [] }) s) := by
  have htake := proxyTake_one hproxies (p := fun q => q.slot == 0 && q.left && q.node == r.node) (by simp [hslot, hleft])
  simp only [proxyReply, htake]

theorem proxyTimeout_one (hslot : r.slot = 0) : proxyTimeout s = proxyLate r (linksMod (fun l => { l with proxies := [] }) s) := by
  have htake := proxyTake_one hproxies (p := fun q => q.slot == 0) (by simp [hslot])
  simp only [proxyTimeout, htake]

theorem airResult_late {n : Nat} (hslot : r.slot = n) : airResult n .late s = proxyLate r (linksMod (fun l => { l with proxies := [] }) s) := by
  have htake := proxyTake_one hproxies (p := fun q => q.slot == n) (by simp [hslot])
  simp only [airResult, htake]

theorem airResult_badTag {n : Nat} (hslot : r.slot = n) (hleft : r.left = true) :
    airResult n .badTag s = proxyFail r stAuthFail (linksMod (fun l => { l with proxies := [] }) s) := by
  have htake := proxyTake_one hproxies (p := fun q => q.slot == n && q.left) (by simp [hslot, hleft])
  simp only [airResult, htake]

end

/-! ### A response in Causeway's inbox -/

theorem isReply_response {f : MeshFrame} {p : Pdu} (hf : framePdu f = some p) (hop : p.op = 3 ∨ p.op = 4) : isReply f = true := by
  unfold isReply
  rw [hf]
  rcases hop with h | h <;> simp [h]

theorem isReply_request {f : MeshFrame} {p : Pdu} (hf : framePdu f = some p) (hop : p.op = 2) : isReply f = false := by
  unfold isReply
  rw [hf]
  simp [hop]

/-- A request that has left awaits the response of its item from its node. -/
theorem awaits_response {r : ProxyReq} {f : MeshFrame} {p : Pdu} (hf : framePdu f = some p) (hleft : r.left = true)
    (hnode : r.node = BitVec.ofNat 18 (lhSource f.lh)) (hindex : r.index = p.index) (hsub : r.sub = p.sub) (hop : p.op = if r.write then 4 else 3) :
    r.awaits f = true := by
  unfold ProxyReq.awaits
  rw [hf]
  simp [hleft, ProxyReq.same, hnode, hindex, hsub, hop]

section
variable {s : State} {r : ProxyReq} {f : MeshFrame} {p : Pdu} (hproxies : s.links.proxies = [r]) (hinbox : s.cwy.inbox = [f])
  (hf : framePdu f = some p) (hawaits : r.awaits f = true)
include hproxies hinbox hf hawaits

/-- The response of a proxy request. -/
theorem proxyReply_awaited (hslot : r.slot = 0) (hop : p.op = 3 ∨ p.op = 4) :
    proxyReply none s = proxyAnswer r p (linksMod (fun l => { l with proxies := [] }) (inboxTaken s)) := by
  have hframe : takeFirst (fun f => isReply f && !s.links.proxies.any (fun r => r.slot != 0 && r.awaits f)) s.cwy.inbox = some (f, []) := by
    rw [hinbox]
    exact takeFirst_one (by simp [isReply_response hf hop, hproxies, hslot])
  have htake := proxyTake_one (s := inboxTaken s) hproxies (p := fun r => r.slot == 0 && r.awaits f) (by simp [hslot, hawaits])
  unfold inboxTaken at htake ⊢
  simp only [proxyReply, hframe, htake, hf]

/-- The response of a tunnelled request. -/
theorem airResult_awaited {n : Nat} (hslot : r.slot = n) :
    airResult n .reply s = proxyAnswer r p (linksMod (fun l => { l with proxies := [] }) (inboxTaken s)) := by
  have hframe : takeFirst (fun f => s.links.proxies.any (fun r => r.slot == n && r.awaits f)) s.cwy.inbox = some (f, []) := by
    rw [hinbox]
    exact takeFirst_one (by simp [hproxies, hslot, hawaits])
  have htake := proxyTake_one (s := inboxTaken s) hproxies (p := fun r => r.slot == n && r.awaits f) (by simp [hslot, hawaits])
  unfold inboxTaken at htake ⊢
  simp only [airResult, hframe, htake, hf]

end

/-! ### A tunnelled request (R47) -/

/-- The value that AIR_REQUEST takes: the node and the PDU. -/
def tunnelValue (n : BitVec 18) (p : Pdu) : List Byte := leBytes 4 n.toNat ++ pduBytes p

theorem tunnelValue_length (n : BitVec 18) (p : Pdu) : (tunnelValue n p).length = 16 + p.data.length := by
  rw [tunnelValue, List.length_append, leBytes_length, pduBytes_length]
  omega

theorem tunnelValue_node (n : BitVec 18) (p : Pdu) : leNat ((tunnelValue n p).take 4) = n.toNat := by
  have htake : (tunnelValue n p).take 4 = leBytes 4 n.toNat := List.take_left' (leBytes_length 4 _)
  rw [htake, leNat_leBytes, Nat.mod_eq_of_lt]
  exact n.isLt.trans (by decide)

theorem tunnelValue_pdu (n : BitVec 18) (p : Pdu) : (tunnelValue n p).drop 4 = pduBytes p := List.drop_left' (leBytes_length 4 _)

/-- A request that R47 lets through the tunnel. -/
structure Tunnels (p : Pdu) : Prop where
  rsv : p.rsv = false
  node : p.node = 0
  status : p.status = 0
  fresh : p.fresh = false
  seg : p.seg = false
  op : p.op = 2 ∨ (p.op = 1 ∧ p.data = [])
  short : p.data.length ≤ 228

theorem Tunnels.pdu {p : Pdu} (ht : Tunnels p) : tunnelPdu (pduBytes p) = some p := by
  have hread : pduOf (pduBytes p) = some (p, []) := by
    have happend := pduOf_pduBytes ht.rsv (ht.short.trans (by decide)) []
    rwa [List.append_nil] at happend
  unfold tunnelPdu
  rw [hread]
  rcases ht.op with hop | ⟨hop, hdata⟩
  · simp [ht.rsv, ht.node, ht.status, ht.fresh, ht.seg, hop]
  · simp [ht.rsv, ht.node, ht.status, ht.fresh, ht.seg, hop, hdata]

/-- The pending request that a tunnelled PDU becomes. -/
def tunnelReq (n : BitVec 18) (slot : Nat) (p : Pdu) : ProxyReq :=
  { node := n, index := p.index, sub := p.sub, write := p.op == 2, data := p.data, slot := slot, tid := p.tid, seg := p.seg, last := p.last }

theorem Tunnels.sent {p : Pdu} (ht : Tunnels p) (n : BitVec 18) (slot : Nat) : (tunnelReq n slot p).pdu = p := by
  have hop : (if (p.op == 2) = true then (2 : BitVec 4) else 1) = p.op := by
    rcases ht.op with hop | ⟨hop, -⟩ <;> simp [hop]
  obtain ⟨hrsv, hnode, hstatus, hfresh, -, -, -⟩ := ht
  cases p
  simp_all [ProxyReq.pdu, tunnelReq]

/-- The tunnel slot waits. -/
def slotWaits (slot : Fin 16) (s : State) : State :=
  (linksMod (fun l => { l with airWait := l.airWait ||| (1#16 <<< slot.1) }) s).resPend 0x1102 (slot.1 + 1)

theorem airRequest_sent {s t : State} {n : BitVec 18} {h : Nat} {p : Pdu} {slot : Fin 16} (ht : Tunnels p) (hsend : CanSend s n.toNat h) (hn : n ≠ 0)
    (hunicast : n ≠ 0x3FFFF) (hidle : s.links.airWait.getLsbD slot.1 = false)
    (hgo : proxySend (tunnelReq n (slot.1 + 1) p) (slotWaits slot s) = some t) : airRequest (slot.1 + 1) (tunnelValue n p) s = (stOk, t) := by
  obtain ⟨hrole, hproxies, hcore, -⟩ := hsend
  have hrange : ¬(n.toNat = 0 ∨ 0x3FFFF < n.toNat ∨ 240 < (tunnelValue n p).length - 4) := by
    have hn' : n.toNat ≠ 0 := fun h0 => hn (BitVec.eq_of_toNat_eq h0)
    have hlt := n.isLt
    have hshort := ht.short
    rw [tunnelValue_length]
    omega
  have hnotAll : ¬(n.toNat = 0x3FFFF ∧ p.op = 1) := fun hall => hunicast (BitVec.eq_of_toNat_eq hall.1)
  unfold tunnelReq slotWaits at hgo
  simp only [airRequest, tunnelValue_node, tunnelValue_pdu, ht.pdu, Nat.add_sub_cancel, hidle, hrange, hnotAll, proxyBarred_none hrole hcore hproxies,
    none_pending hproxies, BitVec.ofNat_toNat, BitVec.setWidth_eq, Bool.false_eq_true, if_false, false_and, hgo]

theorem takes_airRequest (slot : Fin 16) {n : BitVec 18} {p : Pdu} (ht : Tunnels p) :
    ∃ r, r.request = false ∧ Takes 0x1101 (slot.1 + 1) r (tunnelValue n p) := by
  have hrow : dictRow 0x1101 (slot.1 + 1) = dictRow 0x1101 1 := by
    revert slot
    decide
  refine ⟨_, ?_, by decide, by omega, by decide, hrow, rfl, ?_, rfl, fun _ => rfl⟩
  · rfl
  · have hshort := ht.short
    rw [valueCheck_segmented rfl, tunnelValue_length]
    exact if_pos (by simp [lengthOk]; omega)

theorem airSub (slot : Fin 16) : (BitVec.ofNat 8 (slot.1 + 1)).toNat = slot.1 + 1 := by
  revert slot
  decide

theorem execAirRequest_push {s t : State} {src : Src} (h : Asks s src) {n : BitVec 18} {p : Pdu} {slot : Fin 16} (ht : Tunnels p)
    (hact : airRequest (slot.1 + 1) (tunnelValue n p) s = (stOk, t)) (tid : Byte) :
    ∃ l y, linkNum src = some l ∧ y.pdu = writeResp tid 0x1101 (BitVec.ofNat 8 (slot.1 + 1)) stOk ∧
      exec (.airRequest src tid slot (tunnelValue n p)) s = .next (t.push l y) := by
  obtain ⟨r, hrequest, htakes⟩ := takes_airRequest slot (n := n) ht
  have hact' : entryAct {} 0x1101 (slot.1 + 1) (tunnelValue n p) s = (stOk, t) := hact
  have hstore : entryStore {} 0x1101 (slot.1 + 1) r (tunnelValue n p) s = (stOk, t) := entryStore_act (by simp [hrequest]) rfl hact'
  have hwrite := (htakes.write h {}).trans hstore
  rw [← airSub slot] at hwrite
  obtain ⟨l, y, hlink, hy, hexec⟩ := hostWrite_push h (i := 0x1101) (x := BitVec.ofNat 8 (slot.1 + 1)) (v := tunnelValue n p) (by decide) rfl
    (fun _ => rfl) {} tid
  have hwrite' : writeEntry src {} (0x1101 : BitVec 16).toNat (BitVec.ofNat 8 (slot.1 + 1)).toNat (tunnelValue n p) s = (stOk, t) := hwrite
  rw [hwrite'] at hy hexec
  exact ⟨l, y, hlink, hy, congrArg Host.Outcome.next hexec⟩

/-! ### A broadcast WRITE that came over the air (R21) -/

/-- A write by the remote class is executed as a host's is, and nobody is answered. -/
theorem execute_broadcast {s t : State} {p : Pdu} (hmain : s.links.serving = .main) (hop : p.op = 2) (hseg : p.seg = false) (hrsv : p.rsv = false)
    (hnode : p.node = 0) (hindex : p.index.toNat < 0x5000) (hquiet : actsOnWrite p.index.toNat p.sub.toNat = false)
    (hwrite : writeEntry .air {} p.index.toNat p.sub.toNat p.data s = (stOk, t)) : execute {} { src := .air, pdu := p } s = t := by
  obtain ⟨hnowindow, hnoproxy⟩ := own_index (.inl hindex)
  have hserve : serve {} { src := .air, pdu := p } s = ({ st := stOk }, t) := by
    simp [serve, hrsv, hop, subsetOnly, hmain, hnode, hseg, writeTarget, hnowindow, hnoproxy, hwrite]
  have hsilent : ∀ q : Pdu, respondTo s { src := .air, pdu := p } q t = t := fun _ => rfl
  simp only [execute, hserve, hsilent, resetsDevice_plain hquiet, afterResponse_plain hquiet, Bool.and_false, Bool.false_eq_true, ite_self]

theorem remoteDtpRequest_broadcast {s t : State} {f : MeshFrame} {p : Pdu} (hinbox : s.cwy.inbox = [f]) (hf : framePdu f = some p) (hop : p.op = 2)
    (hdest : lhDest f.lh = 0x3FFFF) (hwaiting : s.links.waiting = []) (hmain : s.links.serving = .main)
    (hexec : execute {} { src := .air, pdu := p } (inboxTaken s) = t) : remoteDtpRequest s = t := by
  have hframe : takeFirst (fun f => !isReply f) s.cwy.inbox = some (f, []) := by
    rw [hinbox]
    exact takeFirst_one (by rw [isReply_request hf hop]; rfl)
  have hserved : serveAll (inboxTaken s) = inboxTaken s := by
    have hnone : (inboxTaken s).links.waiting = [] := hwaiting
    rw [serveAll, hnone]
    rfl
  have hanswers : answers .air (inboxTaken s) = true := by
    have hserving : (inboxTaken s).links.serving = .main := hmain
    simp [answers, linkNum, hserving]
  unfold inboxTaken at hserved hanswers hexec
  simp only [remoteDtpRequest, hframe, hserved, hf, hanswers, hdest, hop, hexec, Bool.not_true, Bool.false_eq_true, if_false, if_true]

/-! ### Each end of a request, from its command -/

section
variable {s : State} {r : ProxyReq} (hproxies : s.links.proxies = [r])
include hproxies

/-- A READ's response gives every reader a new value. -/
theorem execProxyReply_value {f : MeshFrame} {p : Pdu} (hslot : r.slot = 0) (hread : r.write = false) (hinbox : s.cwy.inbox = [f])
    (hf : framePdu f = some p) (hawaits : r.awaits f = true) (hop : p.op = 3) (hst : p.status = stOk) :
    ∃ t, exec (.proxyReply none) s = .next t ∧ RequestEnded s t ∧ t.cwy.inbox = [] ∧ t.proxyVal r.node r.index r.sub = some (readVal r p.data) := by
  obtain ⟨o, ho⟩ := proxyAnswer_read hslot hread hst (linksMod (fun l => { l with proxies := [] }) (inboxTaken s))
  have hreply := (proxyReply_awaited hproxies hinbox hf hawaits hslot (.inl hop)).trans ho
  exact ⟨_, congrArg Host.Outcome.next hreply, ((requestEnded_inboxTaken s).stored _).told o, rfl, proxyVal_store (readVal r p.data) _⟩

theorem execProxyReply_badTag (hslot : r.slot = 0) (hleft : r.left = true) :
    ∃ t, exec (.proxyReply (some r.node)) s = .next t ∧ RequestEnded s t ∧ t.links.proxyVals = s.links.proxyVals := by
  obtain ⟨o, ho⟩ := proxyFail_badTag hslot (linksMod (fun l => { l with proxies := [] }) s)
  exact ⟨_, congrArg Host.Outcome.next ((proxyReply_badTag hproxies hslot hleft).trans ho), (requestEnded_taken s).told o, rfl⟩

theorem execProxyTimeout_late (hslot : r.slot = 0) (hread : r.write = false) (hunicast : r.node ≠ 0x3FFFF) (hframes : r.frames = []) :
    ∃ t v, exec .proxyTimeout s = .next t ∧ RequestEnded s t ∧ t.proxyVal r.node r.index r.sub = some v ∧ v.late = true := by
  have hended := requestEnded_taken s
  have htimeout := (proxyTimeout_one hproxies hslot).trans (proxyLate_unicast hframes hunicast _)
  generalize linksMod (fun l => { l with proxies := [] }) s = u at hended htimeout
  obtain ⟨o, ho⟩ := proxyFail_late hslot hread u
  obtain ⟨hnode, hindex, hsub⟩ := lateVal_key r u
  have hstored := proxyVal_store (lateVal r u) u
  rw [hnode, hindex, hsub] at hstored
  exact ⟨_, lateVal r u, congrArg Host.Outcome.next (htimeout.trans ho), (hended.stored _).told o, hstored, rfl⟩

variable {slot : Fin 16} (hslot : r.slot = slot.1 + 1)
include hslot

theorem execAirResult_late (hunicast : r.node ≠ 0x3FFFF) (hframes : r.frames = []) :
    ∃ t, exec (.airResult slot .late) s = .next t ∧ TunnelDone s t slot r.node (r.outcome stLate) := by
  have hlate := (airResult_late hproxies hslot).trans ((proxyLate_unicast hframes hunicast _).trans (proxyFail_slot (by omega) stLate _))
  exact ⟨_, congrArg Host.Outcome.next hlate, airOutcome_done (requestEnded_taken s) hslot _⟩

theorem execAirResult_badTag (hleft : r.left = true) :
    ∃ t, exec (.airResult slot .badTag) s = .next t ∧ TunnelDone s t slot r.node (r.outcome stAuthFail) := by
  have hbad := (airResult_badTag hproxies hslot hleft).trans (proxyFail_slot (by omega) stAuthFail _)
  exact ⟨_, congrArg Host.Outcome.next hbad, airOutcome_done (requestEnded_taken s) hslot _⟩

theorem execAirResult_reply {f : MeshFrame} {p : Pdu} (hinbox : s.cwy.inbox = [f]) (hf : framePdu f = some p) (hawaits : r.awaits f = true) :
    ∃ t, exec (.airResult slot .reply) s = .next t ∧ TunnelDone s t slot r.node p ∧ t.cwy.inbox = [] := by
  have hreply := (airResult_awaited hproxies hinbox hf hawaits hslot).trans (proxyAnswer_slot (by omega) p _)
  obtain ⟨o, ho⟩ := airOutcome_told r p (linksMod (fun l => { l with proxies := [] }) (inboxTaken s))
  refine ⟨_, congrArg Host.Outcome.next hreply, airOutcome_done (requestEnded_inboxTaken s) hslot p, ?_⟩
  rw [ho]
  rfl

end

/-- A tunnelled request that can be sent at once. -/
theorem execAirRequest_sent {s : State} {src : Src} (hasks : Asks s src) {n : BitVec 18} {h : Nat} {p : Pdu} {slot : Fin 16} (htunnels : Tunnels p)
    (hsend : CanSend s n.toNat h) (hn : n ≠ 0) (hunicast : n ≠ 0x3FFFF) (hidle : s.links.airWait.getLsbD slot.1 = false) (tid : Byte) :
    ∃ t, exec (.airRequest src tid slot (tunnelValue n p)) s = .next t ∧ t.links.airWait = s.links.airWait ||| (1#16 <<< slot.1) ∧
      Queued s t n.toNat h p ∧ (t.resOf 0x1102 (slot.1 + 1)).pending = true ∧
      Spoke s t src (writeResp tid 0x1101 (BitVec.ofNat 8 (slot.1 + 1)) stOk) ∧ t.dict = s.dict := by
  have hsend' : CanSend (slotWaits slot s) n.toNat h := hsend
  obtain ⟨t, ht, hgo⟩ := proxySend_now (r := tunnelReq n (slot.1 + 1) p) hsend'
  obtain ⟨l, y, hlink, hy, hexec⟩ := execAirRequest_push hasks htunnels (airRequest_sent htunnels hsend hn hunicast hidle hgo) tid
  have hqueued := ht.queued
  rw [htunnels.sent] at hqueued
  have hresults : t.results = (slotWaits slot s).results := (congrArg State.results ht.frame :)
  have hrecord : t.resOf 0x1102 (slot.1 + 1) = (slotWaits slot s).resOf 0x1102 (slot.1 + 1) := by
    simp only [State.resOf, hresults]
  have hpending := congrArg ResultRec.pending (hrecord.trans (resOf_resPend_self _ 0x1102 (slot.1 + 1)))
  exact ⟨_, hexec, (congrArg Links.airWait ht.links :), hqueued, hpending, spoke_of_push hlink hy ht.outbox, ht.dict⟩

/-- A broadcast WRITE that the remote class may make stores its value and is answered by nothing. -/
theorem execRemoteDtpRequest_settable {s : State} {f : MeshFrame} {p : Pdu} {e : Found} (hinbox : s.cwy.inbox = [f]) (hf : framePdu f = some p)
    (hop : p.op = 2) (hseg : p.seg = false) (hrsv : p.rsv = false) (hnode : p.node = 0) (hdest : lhDest f.lh = 0x3FFFF)
    (hwaiting : s.links.waiting = []) (hmain : s.links.serving = .main) (hset : Settable s .air p.index p.sub e p.data) :
    ∃ t, exec .remoteDtpRequest s = .next t ∧ EntryHolds (inboxTaken s) t e.idx e.sub p.data := by
  have hset' : Settable (inboxTaken s) .air p.index p.sub e p.data := hset
  obtain ⟨t, hwrite, hholds⟩ := writeEntry_settable hset' {}
  have hexecute := execute_broadcast (s := inboxTaken s) hmain hop hseg hrsv hnode hset.1 (settable_quiet hset') hwrite
  exact ⟨t, congrArg Host.Outcome.next (remoteDtpRequest_broadcast hinbox hf hop hdest hwaiting hmain hexecute), hholds⟩

end Sys2Proof.Machine

namespace Sys2Proof.Proofs
open Sys2Proof.Machine

/-- Settles O28: a request that ends leaves the list, and leaves a value, a result or nothing but the word to the links; one that begins is one frame of
queue 1; one that came over the air is an ordinary write. -/
theorem proxyOutcomes : Obligations.ProxyOutcomes := by
  intro s src tid slot r p f n h ends endsR
  have hends : ∀ {t : State}, RequestEnded s t → ends t := fun ht => ⟨ht.proxies, ht.frame⟩
  refine ⟨fun hproxies hslot => ⟨fun hinbox hf hop hst hread hleft hnode hindex hsub => ?_, fun hleft => ?_, fun hread hunicast hframes => ?_⟩,
    fun hasks hsend hn hunicast hidle hrsv hnode hst hfresh hseg hop hlen => ?_, fun hproxies hslot hframes => ?_,
    fun e hinbox hf hop hseg hrsv hnode hdest hwaiting hmain hset _ => ?_⟩
  · have hawaits := awaits_response hf hleft hnode hindex hsub (by rw [hop, hread]; rfl)
    obtain ⟨t, hexec, hended, hempty, hval⟩ := execProxyReply_value hproxies hslot hread hinbox hf hawaits hop hst
    exact ⟨t, hexec, hends hended, hempty, hval⟩
  · obtain ⟨t, hexec, hended, hvals⟩ := execProxyReply_badTag hproxies hslot hleft
    exact ⟨t, hexec, hends hended, hvals⟩
  · obtain ⟨t, v, hexec, hended, hval, hlate⟩ := execProxyTimeout_late hproxies hslot hread hunicast hframes
    exact ⟨t, v, hexec, hends hended, hval, hlate⟩
  · exact execAirRequest_sent hasks ⟨hrsv, hnode, hst, hfresh, hseg, hop, hlen⟩ hsend hn hunicast hidle tid
  · intro done made
    have hdone : ∀ {t : State} {q : Pdu}, TunnelDone s t slot r.node q → done t q := by
      intro t q hd
      exact ⟨⟨hd.proxies, hd.frame⟩, hd.idle, hd.value, congrArg ResultRec.pending hd.result, congrArg ResultRec.fresh hd.result⟩
    refine ⟨fun hunicast => ?_, fun hleft => ?_, fun hinbox hf hleft hnode hindex hsub hop => ?_⟩
    · obtain ⟨t, hexec, hd⟩ := execAirResult_late hproxies hslot hunicast hframes
      exact ⟨t, hexec, hdone hd⟩
    · obtain ⟨t, hexec, hd⟩ := execAirResult_badTag hproxies hslot hleft
      exact ⟨t, hexec, hdone hd⟩
    · obtain ⟨t, hexec, hd, hempty⟩ := execAirResult_reply hproxies hslot hinbox hf (awaits_response hf hleft hnode hindex hsub hop)
      exact ⟨t, hexec, hdone hd, hempty⟩
  · obtain ⟨t, hexec, hholds⟩ := execRemoteDtpRequest_settable hinbox hf hop hseg hrsv hnode hdest hwaiting hmain hset
    have hcwy : t.cwy = (inboxTaken s).cwy := (congrArg State.cwy hholds.frame :)
    refine ⟨t, hexec, hholds.value, hholds.others, congrArg Cwy.inbox hcwy, ?_⟩
    exact (congrArg (fun w : State => { w with cwy := s.cwy }) hholds.frame :)

end Sys2Proof.Proofs
end

section
/-! SUPPORT. Phase domains in motion: the position that a domain is given, and what ordinary travel, steps and comparators change (R52, R75 to R82). -/

namespace Sys2Proof.Machine

/-! ### Positions modulo 2^84 (R52) -/

theorem unsigned_natCast (n p : Nat) : unsigned n (p : Int) = p % 2 ^ n := by
  unfold unsigned
  norm_cast

theorem unsigned_lt (n : Nat) (p : Int) : unsigned n p < 2 ^ n := by
  have hpos : (0 : Int) < ((2 ^ n : Nat) : Int) := by positivity
  have hlow := Int.emod_nonneg p hpos.ne'
  have hhigh := Int.emod_lt_of_pos p hpos
  unfold unsigned
  omega

theorem unsigned_emod (n : Nat) (p : Int) : (unsigned n p : Int) = p % 2 ^ n := by
  have hpos : (0 : Int) < ((2 ^ n : Nat) : Int) := by positivity
  unfold unsigned
  rw [Int.toNat_of_nonneg (Int.emod_nonneg p hpos.ne')]
  norm_cast

/-- A domain at a position has that position. -/
theorem pos_at (d : PhaseDom) (p : Int) : (d.at_ p).pos = unsigned 84 p := by
  have hlt := unsigned_lt 84 p
  simp only [PhaseDom.at_, PhaseDom.pos, BitVec.toNat_ofNat]
  omega

theorem phase_at (d : PhaseDom) (p : Int) : (d.at_ p).phase = BitVec.ofNat 32 (unsigned 84 p / 2 ^ 24) := rfl

/-- A signed difference stands for the same residue. -/
theorem signed_unsigned_emod (n : Nat) (x : Int) : signed n (unsigned n x) % 2 ^ n = x % 2 ^ n := by
  have hlt := unsigned_lt n x
  have hx := unsigned_emod n x
  unfold signed
  rw [Nat.mod_eq_of_lt hlt]
  dsimp only
  split
  · rw [hx, Int.emod_emod]
  · rw [hx]
    push_cast
    rw [Int.sub_emod_right, Int.emod_emod]

/-- The signed way from one position to another leads there. -/
theorem add_shortWay (a : Nat) (p : Int) : unsigned 84 ((a : Int) + shortWay a (unsigned 84 p)) = unsigned 84 p := by
  have hway : shortWay a (unsigned 84 p) % 2 ^ 84 = ((unsigned 84 p : Int) - a) % 2 ^ 84 := signed_unsigned_emod 84 _
  have hgoal := unsigned_emod 84 p
  have hsum := unsigned_emod 84 ((a : Int) + shortWay a (unsigned 84 p))
  omega

/-- Where a position lies on the revolution. -/
theorem phase_of_congr (d : PhaseDom) {p : Int} {x : Nat} (h : p % 2 ^ 56 = (x * 2 ^ 24 : Nat) % 2 ^ 56) : (d.at_ p).phase = BitVec.ofNat 32 x := by
  have hp := unsigned_emod 84 p
  rw [phase_at]
  apply BitVec.eq_of_toNat_eq
  simp only [BitVec.toNat_ofNat]
  omega

/-! ### What comparators change (R77 to R82) -/

/-- Only comparators and the fabric have changed. -/
def OnlyComparators (s t : State) : Prop := ∃ c e, t = { s with ptb := { s.ptb with cmp := c }, evf := e }

theorem OnlyComparators.refl (s : State) : OnlyComparators s s := ⟨s.ptb.cmp, s.evf, rfl⟩

theorem OnlyComparators.trans {s t u : State} (h : OnlyComparators s t) (h' : OnlyComparators t u) : OnlyComparators s u := by
  obtain ⟨c, e, rfl⟩ := h
  obtain ⟨c', e', rfl⟩ := h'
  exact ⟨c', e', rfl⟩

theorem onlyComparators_cmpMod (m : Fin 16) (f : Comparator → Comparator) (s : State) : OnlyComparators s (cmpMod m f s) := ⟨_, s.evf, rfl⟩

/-- A comparator once it has fired. -/
def Comparator.afterFiring (index : Nat) (c : Comparator) : Comparator :=
  { c with
    ovr := c.ovr || c.fired, fired := true, en := if c.mode = 0 then false else c.en,
    index := if c.mode = 2 then BitVec.ofNat 16 index else c.index }

theorem comparatorFire_eq (m : Fin 16) (index : Nat) (s : State) : comparatorFire m index s = fire m.1 (cmpMod m (.afterFiring index) s) := rfl

theorem onlyComparators_fire (m : Fin 16) (index : Nat) (s : State) : OnlyComparators s (comparatorFire m index s) := by
  obtain ⟨e, h⟩ := fire_frame m.1 (cmpMod m (.afterFiring index) s)
  exact (onlyComparators_cmpMod m _ s).trans ⟨_, e, h⟩

theorem onlyComparators_travelCmp (n : Fin 4) (p d : Int) (m : Fin 16) (s : State) : OnlyComparators s (travelCmp n p d m s) := by
  unfold travelCmp
  extract_lets c x s₁
  have h₁ : OnlyComparators s s₁ := onlyComparators_cmpMod m _ s
  split
  · exact .refl s
  · split
    · exact h₁.trans (onlyComparators_fire m _ s₁)
    · exact h₁

theorem onlyComparators_stepCmp (n : Fin 4) (p d : Int) (m : Fin 16) (s : State) : OnlyComparators s (stepCmp n p d m s) := by
  unfold stepCmp
  extract_lets c x s₁ s₂
  have h₁ : OnlyComparators s s₁ := onlyComparators_cmpMod m _ s
  have h₂ : OnlyComparators s s₂ := h₁.trans (onlyComparators_cmpMod m _ s₁)
  split
  · exact .refl s
  · split
    · exact h₁
    · split
      · exact h₂
      · exact h₂.trans (onlyComparators_fire m _ s₂)

theorem onlyComparators_foldS {f : Fin 16 → State → State} (step : ∀ m s, OnlyComparators s (f m s)) (l : List (Fin 16)) (s : State) :
    OnlyComparators s (foldS f l s) := foldS_keeps OnlyComparators.refl OnlyComparators.trans step l s

/-! ### A domain in motion -/

/-- Of the phase domains only `n` has changed, and neither clock nor rate. -/
structure DomainMoved (n : Fin 4) (s t : State) : Prop where
  others : ∀ m, m ≠ n → vget t.ptb.pd m = vget s.ptb.pd m
  lf : t.ptb.lf = s.ptb.lf
  lfTrim : t.ptb.lfTrim = s.ptb.lfTrim
  rate : t.ptb.rate1 = s.ptb.rate1
  only : OnlyTimebase s t

theorem OnlyTimebase.trans {s t u : State} (h : OnlyTimebase s t) (h' : OnlyTimebase t u) : OnlyTimebase s u := by
  have hu : { u with ptb := s.ptb, evf := s.evf, bkp := s.bkp } = ({ t with ptb := s.ptb, evf := s.evf, bkp := s.bkp } : State) :=
    congrArg (fun x : State => { x with ptb := s.ptb, evf := s.evf, bkp := s.bkp }) h'
  exact hu.trans h

theorem DomainMoved.refl (n : Fin 4) (s : State) : DomainMoved n s s := ⟨fun _ _ => rfl, rfl, rfl, rfl, rfl⟩

theorem DomainMoved.trans {n : Fin 4} {s t u : State} (h : DomainMoved n s t) (h' : DomainMoved n t u) : DomainMoved n s u :=
  ⟨fun m hm => (h'.others m hm).trans (h.others m hm), h'.lf.trans h.lf, h'.lfTrim.trans h.lfTrim, h'.rate.trans h.rate, h.only.trans h'.only⟩

theorem domainMoved_pdMod (n : Fin 4) (f : PhaseDom → PhaseDom) (s : State) : DomainMoved n s (pdMod n f s) :=
  ⟨fun _ hm => by simp [pdMod, vget_vmod, hm.symm], rfl, rfl, rfl, rfl⟩

@[simp] theorem vget_pdMod_self (n : Fin 4) (f : PhaseDom → PhaseDom) (s : State) : vget (pdMod n f s).ptb.pd n = f (vget s.ptb.pd n) := by
  simp [pdMod]

/-- Domains, clock and rate stand as they were. -/
theorem DomainMoved.of_ptb {n : Fin 4} {s t : State} (hpd : t.ptb.pd = s.ptb.pd) (hlf : t.ptb.lf = s.ptb.lf) (htrim : t.ptb.lfTrim = s.ptb.lfTrim)
    (hrate : t.ptb.rate1 = s.ptb.rate1) (honly : OnlyTimebase s t) : DomainMoved n s t :=
  ⟨fun _ _ => by rw [hpd], hlf, htrim, hrate, honly⟩

theorem OnlyComparators.moved {s t : State} (h : OnlyComparators s t) (n : Fin 4) : DomainMoved n s t := by
  obtain ⟨c, e, rfl⟩ := h
  exact .of_ptb rfl rfl rfl rfl rfl

theorem OnlyComparators.pd {s t : State} (h : OnlyComparators s t) : t.ptb.pd = s.ptb.pd := by
  obtain ⟨c, e, rfl⟩ := h
  rfl

theorem domainMoved_fire (n : Fin 4) (p : Nat) (s : State) : DomainMoved n s (fire p s) := by
  obtain ⟨e, h⟩ := fire_frame p s
  rw [h]
  exact .of_ptb rfl rfl rfl rfl rfl

theorem fire_ptb (p : Nat) (s : State) : (fire p s).ptb = s.ptb := by
  obtain ⟨e, h⟩ := fire_frame p s
  rw [h]

theorem bkpCycleStore_ptb (s : State) : (bkpCycleStore s).ptb = s.ptb := by
  unfold bkpCycleStore
  split <;> rfl

theorem domainMoved_bkpCycleStore (n : Fin 4) (s : State) : DomainMoved n s (bkpCycleStore s) := by
  unfold bkpCycleStore
  split
  · exact .of_ptb rfl rfl rfl rfl rfl
  · exact .refl n s

/-- A domain set to a new place past its comparators, as ordinary travel and steps both do it; PD1 may store its cycle count. -/
theorem domain_past {n : Fin 4} {g : PhaseDom → PhaseDom} {s t : State} (h : OnlyComparators (pdMod n g s) t) (c : Prop) [Decidable c] :
    DomainMoved n s (if c then bkpCycleStore t else t) ∧ vget (if c then bkpCycleStore t else t).ptb.pd n = g (vget s.ptb.pd n) := by
  have hmoved : DomainMoved n s t := (domainMoved_pdMod n g s).trans (h.moved n)
  have hdomain : vget t.ptb.pd n = g (vget s.ptb.pd n) := by rw [h.pd, vget_pdMod_self]
  split
  · exact ⟨hmoved.trans (domainMoved_bkpCycleStore n t), by rw [bkpCycleStore_ptb, hdomain]⟩
  · exact ⟨hmoved, hdomain⟩

/-- Ordinary travel moves its domain by its distance. -/
theorem travel_spec (n : Fin 4) (d : Int) (s : State) :
    DomainMoved n s (travel n d s) ∧ vget (travel n d s).ptb.pd n = (vget s.ptb.pd n).at_ (((vget s.ptb.pd n).pos : Int) + d) := by
  unfold travel
  extract_lets old p u s₁ s₂
  have h₂ : OnlyComparators (pdMod n (fun x => x.at_ p) s) s₂ := onlyComparators_foldS (onlyComparators_travelCmp n _ _) _ s₁
  clear_value s₂
  exact domain_past h₂ _

/-- A step moves its domain in one command and sets STEPPED. -/
theorem stepOnce_spec (n : Fin 4) (d : Int) (s : State) :
    DomainMoved n s (stepOnce n d s) ∧
      vget (stepOnce n d s).ptb.pd n = { (vget s.ptb.pd n).at_ (((vget s.ptb.pd n).pos : Int) + d * 2 ^ 24) with stepped := true } := by
  unfold stepOnce
  extract_lets old s₁ s₂
  have h₂ : OnlyComparators (pdMod n (fun x => { x.at_ ((old.pos : Int) + d * 2 ^ 24) with stepped := true }) s) s₂ :=
    onlyComparators_foldS (onlyComparators_stepCmp n _ _) _ s₁
  clear_value s₂
  exact domain_past h₂ _

theorem domainMoved_travel (n : Fin 4) (d : Int) (s : State) : DomainMoved n s (travel n d s) := (travel_spec n d s).1

theorem travel_domain (n : Fin 4) (d : Int) (s : State) :
    vget (travel n d s).ptb.pd n = (vget s.ptb.pd n).at_ ((posOf s n : Int) + d) := (travel_spec n d s).2

theorem domainMoved_stepOnce (n : Fin 4) (d : Int) (s : State) : DomainMoved n s (stepOnce n d s) := (stepOnce_spec n d s).1

theorem stepOnce_domain (n : Fin 4) (d : Int) (s : State) :
    vget (stepOnce n d s).ptb.pd n = { (vget s.ptb.pd n).at_ ((posOf s n : Int) + d * 2 ^ 24) with stepped := true } := (stepOnce_spec n d s).2

theorem posOf_travel (n : Fin 4) (d : Int) (s : State) : posOf (travel n d s) n = unsigned 84 ((posOf s n : Int) + d) := by
  rw [posOf, travel_domain, pos_at]

theorem posOf_stepOnce (n : Fin 4) (d : Int) (s : State) : posOf (stepOnce n d s) n = unsigned 84 ((posOf s n : Int) + d * 2 ^ 24) := by
  rw [posOf, stepOnce_domain]
  exact pos_at (vget s.ptb.pd n) _

end Sys2Proof.Machine

namespace Sys2Proof.Proofs
open Sys2Proof.Machine

/-- Settles O59: OVR takes what FIRED was, and the producer fires once the flags stand. -/
theorem firingAgainSetsOverrun : Obligations.FiringAgainSetsOverrun := by
  intro s m index c t d
  have hptb : t.ptb = (cmpMod m (.afterFiring index) s).ptb := fire_ptb m.1 _
  have hd : d = c.afterFiring index := by
    dsimp only [d]
    rw [hptb]
    exact vget_vmod_self s.ptb.cmp m _
  refine ⟨by rw [hd]; rfl, by rw [hd]; rfl, fun x hx => ?_, ?_, ?_⟩
  · rw [hptb]
    exact (vget_vmod s.ptb.cmp m x _).trans (if_neg hx.symm)
  · rw [hptb]
    exact comparatorFire_eq m index s
  · obtain ⟨_, _, ht⟩ := onlyComparators_fire m index s
    dsimp only [t]
    rw [ht]

end Sys2Proof.Proofs
end

section
/-! SUPPORT. A tick of the clock in use: what it adds to PD0 and PD1, and that it leaves each domain to its own drive (R53, R54, R59). -/

namespace Sys2Proof.Machine

theorem domainMoved_driveTick (n : Fin 4) (rate : Nat) (s : State) : DomainMoved n s (driveTick n rate s) := by
  unfold driveTick
  split
  · exact (domainMoved_pdMod n _ s).trans (domainMoved_travel n _ _)
  · exact domainMoved_travel n _ s

theorem domainMoved_refTick (n : Fin 4) (w : Nat) (s : State) : DomainMoved n s (refTick n w s) := by
  unfold refTick
  extract_lets s₁ d
  have h₁ : DomainMoved n s s₁ := domainMoved_pdMod n _ s
  split
  · exact .refl n s
  · split
    · exact h₁
    · exact h₁.trans (domainMoved_travel n _ s₁)

/-- On the crystal a domain advances by its rate. -/
theorem posOf_driveTick_crystal {s : State} (h : s.ptb.lf = false) (n : Fin 4) (rate : Nat) :
    posOf (driveTick n rate s) n = (posOf s n + rate) % 2 ^ 84 := by
  have hdrive : driveTick n rate s = travel n rate s := if_neg (by simp [h])
  rw [hdrive, posOf_travel, ← Nat.cast_add, unsigned_natCast]

/-- On the 32.768 kHz clock the whole units of an advance move the domain, and the rest is carried on. -/
theorem driveTick_lf {s : State} (h : s.ptb.lf = true) (n : Fin 4) (rate : Nat) :
    posOf (driveTick n rate s) n = (posOf s n + (lfAdvance rate s.ptb.lfTrim (vget s.ptb.pd n).lfRem).1) % 2 ^ 84 ∧
      (vget (driveTick n rate s).ptb.pd n).lfRem = (lfAdvance rate s.ptb.lfTrim (vget s.ptb.pd n).lfRem).2 := by
  have hdrive : driveTick n rate s = travel n (lfAdvance rate s.ptb.lfTrim (vget s.ptb.pd n).lfRem).1
      (pdMod n (fun d => { d with lfRem := (lfAdvance rate s.ptb.lfTrim (vget s.ptb.pd n).lfRem).2 }) s) := if_pos h
  rw [hdrive]
  constructor
  · rw [posOf_travel, posOf, vget_pdMod_self, ← Nat.cast_add, unsigned_natCast]
    rfl
  · rw [travel_domain, vget_pdMod_self]
    rfl

/-- The advance and what is left of it are the exact product (R53). -/
theorem lfAdvance_exact (rate rem : Nat) {trim : Int} (h : -1000000000 ≤ trim) :
    (16000000000 * (lfAdvance rate trim rem).1 + (lfAdvance rate trim rem).2 : Int) = rate * 15625 * (1000000000 + trim) + rem := by
  obtain ⟨k, hk⟩ := Int.eq_ofNat_of_zero_le (by omega : 0 ≤ 1000000000 + trim)
  have hdiv := Nat.div_add_mod (rate * 15625 * k + rem) 16000000000
  simp only [lfAdvance, hk, Int.toNat_natCast]
  exact_mod_cast hdiv

theorem lfAdvance_rem_lt (rate : Nat) (trim : Int) (rem : Nat) : (lfAdvance rate trim rem).2 < 16000000000 := Nat.mod_lt _ (by decide)

/-- A tick drives PD0, then PD1 at the rate in force; PD2 and PD3 follow their references. -/
theorem ptbTick_domains (s : State) :
    vget (ptbTick s).ptb.pd 0 = vget (driveTick 0 (rateFor (s.dU 0x2000 1)) s).ptb.pd 0 ∧
    vget (ptbTick s).ptb.pd 1 = vget (driveTick 1 s.ptb.rate1 (driveTick 0 (rateFor (s.dU 0x2000 1)) s)).ptb.pd 1 ∧
    (ptbTick s).ptb.rate1 = s.ptb.rate1 ∧ OnlyTimebase s (ptbTick s) := by
  unfold ptbTick
  extract_lets w s₁ s₂
  have h₁ : DomainMoved 0 s s₁ := domainMoved_driveTick 0 _ s
  have h₂ : DomainMoved 1 s₁ s₂ := domainMoved_driveTick 1 _ s₁
  have h₃ : DomainMoved 2 s₂ (refTick 2 w s₂) := domainMoved_refTick 2 w s₂
  have h₄ : DomainMoved 3 (refTick 2 w s₂) (refTick 3 w (refTick 2 w s₂)) := domainMoved_refTick 3 w _
  have hs₂ : s₂ = driveTick 1 s.ptb.rate1 s₁ := congrArg (fun r => driveTick 1 r s₁) h₁.rate
  refine ⟨?_, ?_, ?_, ?_⟩
  · rw [h₄.others 0 (by decide), h₃.others 0 (by decide), h₂.others 0 (by decide)]
  · rw [h₄.others 1 (by decide), h₃.others 1 (by decide), hs₂]
  · rw [h₄.rate, h₃.rate, h₂.rate, h₁.rate]
  · exact ((h₁.only.trans h₂.only).trans h₃.only).trans h₄.only

theorem posOf_congr {s t : State} {n : Fin 4} (h : vget t.ptb.pd n = vget s.ptb.pd n) : posOf t n = posOf s n := congrArg PhaseDom.pos h

theorem clampI_eq (lo hi x : Int) (h : lo ≤ hi) : clampI lo hi x = max lo (min hi x) := by
  unfold clampI
  omega

end Sys2Proof.Machine

namespace Sys2Proof.Proofs
open Sys2Proof.Machine

/-- Settles O15: PD1 is driven after PD0 and by no other part of the tick, and the two halves of an advance on the 32.768 kHz clock are the quotient
and the remainder of one division. -/
theorem phaseAdvance : Obligations.PhaseAdvance := by
  intro s lf ppb
  obtain ⟨hpd0, hpd1, hrate, honly⟩ := ptbTick_domains s
  have h₀ := domainMoved_driveTick 0 (rateFor (s.dU 0x2000 1)) s
  have hbefore := h₀.others 1 (by decide)
  refine ⟨fun hlf => ?_, fun hlf _ htrim => ?_, ?_, fun hlf hxo => ?_⟩
  · refine ⟨ptbTick s, rfl, ?_, ?_, hrate, honly⟩
    · rw [posOf_congr hpd0, posOf_driveTick_crystal hlf]
    · rw [posOf_congr hpd1, posOf_driveTick_crystal (h₀.lf.trans hlf), posOf_congr hbefore]
  · obtain ⟨hpos, hrem⟩ := driveTick_lf (h₀.lf.trans hlf) 1 s.ptb.rate1
    rw [h₀.lfTrim, hbefore] at hpos hrem
    refine ⟨ptbTick s, (lfAdvance s.ptb.rate1 s.ptb.lfTrim (vget s.ptb.pd 1).lfRem).1, rfl, ?_, ?_, ?_, honly⟩
    · rw [posOf_congr hpd1, hpos, posOf_congr hbefore]
    · rw [hpd1, hrem]
      exact lfAdvance_rem_lt _ _ _
    · rw [hpd1, hrem]
      exact lfAdvance_exact _ _ htrim
  · exact ⟨_, rfl, rfl, rfl, rfl⟩
  · have hmeasure : exec (.lfTrimMeasure ppb) s = .next (ptbMod (fun p => { p with lfTrim := clampI (-500000) 500000 ppb }) s) :=
      congrArg Host.Outcome.next (if_neg (by simp [hlf, hxo]))
    exact ⟨_, hmeasure, clampI_eq _ _ _ (by decide), rfl, rfl⟩

end Sys2Proof.Proofs
end

section
/-! SUPPORT. External references: where an accepted edge, an index edge and a stall put the phase, and what they leave alone (R56 to R63). -/

namespace Sys2Proof.Machine

/-! ### An accepted edge (R59, R62) -/

theorem at_congr {p q : Int} (h : unsigned 84 p = unsigned 84 q) (d : PhaseDom) : d.at_ p = d.at_ q := by
  unfold PhaseDom.at_
  rw [h]

/-- A domain on which an edge has been accepted at a position. -/
def PhaseDom.atEdge (d : PhaseDom) (target : Int) : PhaseDom :=
  { d.at_ target with
    edgePos := unsigned 84 target, sinceEdge := 0, edges := if d.stalled then 1 else d.edges + 1,
    intervals := if d.stalled ∨ d.edges = 0 then [] else (d.sinceEdge :: d.intervals).take 15,
    stalled := false, resumeEv := d.resumeEv || d.stalled }

theorem travel_shortWay (n : Fin 4) (target : Int) (s : State) :
    vget (travel n (shortWay (vget s.ptb.pd n).pos (unsigned 84 target)) s).ptb.pd n = (vget s.ptb.pd n).at_ target := by
  rw [travel_domain]
  exact at_congr (add_shortWay (posOf s n) target) _

/-- An accepted edge moves its domain to the edge's own position. -/
theorem acceptEdge_spec (n : Fin 4) (target : Int) (s : State) :
    DomainMoved n s (acceptEdge n target s) ∧ vget (acceptEdge n target s).ptb.pd n = (vget s.ptb.pd n).atEdge target := by
  unfold acceptEdge
  extract_lets d p s₁ s₂ s₃ ok
  have hdomain₁ : vget s₁.ptb.pd n = d.at_ target := travel_shortWay n target s
  have h₁ : DomainMoved n s s₁ := domainMoved_travel n _ s
  clear_value s₁
  have hdomain₂ : vget s₂.ptb.pd n = d.atEdge target := by
    dsimp only [s₂]
    rw [vget_pdMod_self, hdomain₁]
    rfl
  have h₂ : DomainMoved n s s₂ := h₁.trans (domainMoved_pdMod n _ s₁)
  clear_value s₂
  have h₃ : DomainMoved n s s₃ ∧ s₃.ptb.pd = s₂.ptb.pd := by
    dsimp only [s₃]
    split
    · exact ⟨h₂.trans (domainMoved_fire n _ s₂), by rw [fire_ptb]⟩
    · exact ⟨h₂, rfl⟩
  clear_value s₃
  obtain ⟨hmoved, hpd⟩ := h₃
  rw [← hpd] at hdomain₂
  split
  · exact ⟨hmoved.trans (.of_ptb rfl rfl rfl rfl rfl), hdomain₂⟩
  · exact ⟨hmoved, hdomain₂⟩

theorem phase_atEdge (d : PhaseDom) {target : Int} {x : Nat} (h : target % 2 ^ 56 = (x * 2 ^ 24 : Nat) % 2 ^ 56) :
    (d.atEdge target).phase = BitVec.ofNat 32 x := phase_of_congr d h

/-! ### A quadrature transition (R57, R61) -/

/-- The count goes back where the new levels stand one place before the old ones. -/
theorem gray_back (a b x y : Bool) : ((gray a b + 4 - gray x y) % 4 == 3) = decide (gray x y = (gray a b + 1) % 4) := by
  revert a b x y
  decide

/-- A transition of one level is an accepted edge one increment on, in the direction that its levels show. -/
theorem quadTransition_edge {refB a b : Bool} {s : State} (hvio : s.pcc.vio = true) (hsrc : s.refSrc (refDom refB) = 1)
    (hone : (vget s.ptb.pd (refDom refB)).a = a ↔ (vget s.ptb.pd (refDom refB)).b ≠ b) {back : Bool}
    (hback : decide (gray (vget s.ptb.pd (refDom refB)).a (vget s.ptb.pd (refDom refB)).b = (gray a b + 1) % 4) = back) :
    ∃ u, quadTransition refB a b s = acceptEdge (refDom refB) (((vget s.ptb.pd (refDom refB)).edgePos : Int) +
        (if back then -(s.refIncr (refDom refB) : Int) else s.refIncr (refDom refB))) u ∧
      DomainMoved (refDom refB) s u ∧ (vget u.ptb.pd (refDom refB)).backward = back ∧ (vget u.ptb.pd (refDom refB)).a = a ∧
      (vget u.ptb.pd (refDom refB)).b = b := by
  unfold quadTransition
  rw [← gray_back] at hback
  extract_lets n d back' step s₁ s₂
  subst hback
  have hmoves : ¬(s.refSrc n ≠ 1 ∨ (!s.pcc.vio) = true ∨ d.a = a ∧ d.b = b) := by
    rintro (h | h | ⟨ha, hb⟩)
    · exact h hsrc
    · simp [hvio] at h
    · exact hone.1 ha hb
  have hnotBoth : ¬(d.a ≠ a ∧ d.b ≠ b) := fun h => h.1 (hone.2 h.2)
  have h₁ : DomainMoved n s s₁ := domainMoved_pdMod n _ s
  have hdomain₁ : vget s₁.ptb.pd n = { d with a := a, b := b } := vget_pdMod_self n _ s
  clear_value s₁
  rw [if_neg hmoves, if_neg hnotBoth]
  split
  · have hdomain₂ : vget s₂.ptb.pd n = { d with a := a, b := b, backward := back', intervals := [], edges := 0 } := by
      dsimp only [s₂]
      rw [vget_pdMod_self, hdomain₁]
    exact ⟨s₂, rfl, h₁.trans (domainMoved_pdMod n _ s₁), by rw [hdomain₂], by rw [hdomain₂], by rw [hdomain₂]⟩
  · rename_i hsame
    have hsame' : back' = d.backward := by simpa using hsame
    exact ⟨s₁, rfl, h₁, by rw [hdomain₁, ← hsame'], by rw [hdomain₁], by rw [hdomain₁]⟩

theorem quadTransition_both {refB a b : Bool} {s : State} (hvio : s.pcc.vio = true) (hsrc : s.refSrc (refDom refB) = 1)
    (ha : (vget s.ptb.pd (refDom refB)).a ≠ a) (hb : (vget s.ptb.pd (refDom refB)).b ≠ b) :
    quadTransition refB a b s = pdMod (refDom refB) (fun x => { x with qerr := true, a := a, b := b }) s := by
  have hmoves : ¬(s.refSrc (refDom refB) ≠ 1 ∨ (!s.pcc.vio) = true ∨
      (vget s.ptb.pd (refDom refB)).a = a ∧ (vget s.ptb.pd (refDom refB)).b = b) := by
    simp [hsrc, hvio, ha]
  exact (if_neg hmoves).trans (if_pos ⟨ha, hb⟩)

/-! ### An index edge (R58) -/

/-- A correction of any size, as steps, moves its domain alone and leaves its index flag. -/
theorem stepSeries_moved (n : Fin 4) (fuel : Nat) (d : Int) (s : State) :
    DomainMoved n s (stepSeries n fuel d s) ∧ (vget (stepSeries n fuel d s).ptb.pd n).indexEv = (vget s.ptb.pd n).indexEv := by
  induction fuel generalizing d s with
  | zero => exact ⟨.refl n s, rfl⟩
  | succ fuel ih =>
    unfold stepSeries
    extract_lets part s₁
    have hmoved : DomainMoved n s s₁ := domainMoved_stepOnce n part s
    have hindex : (vget s₁.ptb.pd n).indexEv = (vget s.ptb.pd n).indexEv := (congrArg PhaseDom.indexEv (stepOnce_domain n part s) :)
    clear_value s₁
    split
    · exact ⟨hmoved, hindex⟩
    · obtain ⟨hrest, hindex'⟩ := ih (d - part) s₁
      exact ⟨hmoved.trans hrest, hindex'.trans hindex⟩

theorem stepBy_moved (n : Fin 4) (d : Int) (s : State) :
    DomainMoved n s (stepBy n d s) ∧ (vget (stepBy n d s).ptb.pd n).indexEv = (vget s.ptb.pd n).indexEv := stepSeries_moved n _ d s

/-- A domain put at its goal behind the steps of a correction. -/
theorem stepBy_at (n : Fin 4) (d : Int) {p : Int} {x : Nat} (h : p % 2 ^ 56 = (x * 2 ^ 24 : Nat) % 2 ^ 56) (s : State) :
    DomainMoved n s (pdMod n (fun y => y.at_ p) (stepBy n d s)) ∧
      (vget (pdMod n (fun y => y.at_ p) (stepBy n d s)).ptb.pd n).phase = BitVec.ofNat 32 x ∧
      (vget (pdMod n (fun y => y.at_ p) (stepBy n d s)).ptb.pd n).indexEv = (vget s.ptb.pd n).indexEv := by
  obtain ⟨hmoved, hindex⟩ := stepBy_moved n d s
  refine ⟨hmoved.trans (domainMoved_pdMod n _ _), ?_, ?_⟩
  · rw [vget_pdMod_self, phase_of_congr _ h]
  · rw [vget_pdMod_self]
    exact hindex

/-- Off the mark while the count moves forward, the phase goes to INDEX_PHASE. -/
theorem indexEdge_home {refB : Bool} {s : State} (hvio : s.pcc.vio = true) (hsrc : s.refSrc (refDom refB) = 1)
    (hforward : (vget s.ptb.pd (refDom refB)).backward = false)
    (hoff : (vget s.ptb.pd (refDom refB)).edgePos % 2 ^ 56 ≠ s.refIndexPhase (refDom refB) * 2 ^ 24 % 2 ^ 56) :
    DomainMoved (refDom refB) s (indexEdge refB s) ∧
      (vget (indexEdge refB s).ptb.pd (refDom refB)).phase = BitVec.ofNat 32 (s.refIndexPhase (refDom refB)) ∧
      (vget (indexEdge refB s).ptb.pd (refDom refB)).indexEv = true := by
  unfold indexEdge
  extract_lets n d err s₁ goal s₂
  have hedge : ¬(s.refSrc n ≠ 1 ∨ (!s.pcc.vio) = true ∨ d.backward = true) := by
    have hforward' : d.backward = false := hforward
    simp [hvio, hforward', show s.refSrc n = 1 from hsrc]
  have herr : err % 2 ^ 56 = ((d.edgePos : Int) - (s.refIndexPhase n * 2 ^ 24 : Nat)) % 2 ^ 56 := signed_unsigned_emod 56 _
  have hgoal : (goal : Int) = ((d.edgePos : Int) - err) % 2 ^ 84 := unsigned_emod 84 _
  have hoff' : d.edgePos % 2 ^ 56 ≠ s.refIndexPhase n * 2 ^ 24 % 2 ^ 56 := hoff
  clear_value err goal d
  have hhome : (goal : Int) % 2 ^ 56 = (s.refIndexPhase n * 2 ^ 24 : Nat) % 2 ^ 56 := by omega
  have hstep : err ≠ 0 := by
    rintro rfl
    omega
  have h₂ : DomainMoved n s s₂ := (domainMoved_pdMod n _ s).trans (domainMoved_pdMod n _ s₁)
  have hindex : (vget s₂.ptb.pd n).indexEv = true := by
    dsimp only [s₂, s₁]
    rw [vget_pdMod_self, vget_pdMod_self]
  clear_value s₂
  rw [if_neg hedge, if_neg hstep]
  obtain ⟨hmoved, hphase, hkept⟩ := stepBy_at n (shortWay (d.pos / 2 ^ 24 * 2 ^ 24) (goal / 2 ^ 24 * 2 ^ 24) / 2 ^ 24) hhome s₂
  exact ⟨h₂.trans hmoved, hphase, hkept.trans hindex⟩

/-! ### An edge of a one-edge or two-edge source (R56, R63) -/

/-- Where an edge puts the phase: INDEX_PHASE, half a revolution on for a falling edge. -/
def edgeHome (n : Fin 4) (rising : Bool) (s : State) : Nat := s.refIndexPhase n + (if rising then 0 else 2 ^ 31)

theorem edgeHome_phase (n : Fin 4) (rising : Bool) (s : State) : BitVec.ofNat 32 (edgeHome n rising s) =
    if rising then BitVec.ofNat 32 (s.refIndexPhase n) else BitVec.ofNat 32 (s.refIndexPhase n) + 0x80000000#32 := by
  cases rising
  · exact BitVec.ofNat_add _ _
  · rfl

/-- With GLITCH clear an edge of these sources is accepted at its home. -/
theorem refEdge_edge {refB rising : Bool} {s : State} (hvio : s.pcc.vio = true)
    (hsrc : s.refSrc (refDom refB) = 3 ∨ (s.refSrc (refDom refB) = 2 ∧ rising = true)) (hfilter : s.dU 0x2000 (refEntry (refDom refB) 5) ≠ 1) :
    ∃ target : Int, refEdge refB rising s = acceptEdge (refDom refB) target s ∧
      target % 2 ^ 56 = (edgeHome (refDom refB) rising s * 2 ^ 24 : Nat) % 2 ^ 56 := by
  unfold refEdge
  extract_lets n d src early soon want ahead
  have hedge : ¬((!s.pcc.vio) = true ∨ src ≠ 2 ∧ src ≠ 3 ∨ src = 2 ∧ (!rising) = true) := by
    rcases hsrc with h | ⟨h, hrising⟩
    · simp [hvio, show src = 3 from h]
    · simp [hvio, show src = 2 from h, hrising]
  have hpass : ¬((decide (s.dU 0x2000 (refEntry n 5) = 1) && (!d.stalled && early || soon)) = true) := by
    rw [decide_eq_false hfilter]
    simp
  have hahead : (ahead : Int) % 2 ^ 56 = ((want : Int) - (d.edgePos % 2 ^ 56 : Nat)) % 2 ^ 56 := by
    dsimp only [ahead]
    omega
  have hwant : want = edgeHome (refDom refB) rising s % 2 ^ 32 * 2 ^ 24 := rfl
  clear_value ahead want
  rw [if_neg hedge, if_neg hpass]
  refine ⟨_, rfl, ?_⟩
  split <;> omega

/-! ### A stall (R62) -/

theorem domainStall_running {refB : Bool} {s : State} (hsrc : s.refSrc (refDom refB) ≠ 0) (hruns : (vget s.ptb.pd (refDom refB)).stalled = false) :
    domainStall refB s = fire (0x10 + (refDom refB).1) (pdMod (refDom refB) (fun x => { x with
      stalled := true, stallEv := true, intervals := [], edges := 0, sinceEdge := 0 }) s) :=
  if_neg (by simp [hsrc, hruns])

end Sys2Proof.Machine

namespace Sys2Proof.Proofs
open Sys2Proof.Machine

/-- Settles O16: each edge is an accepted edge, a series of steps or a flag, of which the first two put the domain where the edge says. -/
theorem phaseReferences : Obligations.PhaseReferences := by
  intro s refB a b rising n d inc home back
  refine ⟨fun hvio hsrc hone => ?_, fun hvio hsrc ha hb => ?_, fun hvio hsrc hforward hoff => ?_, fun hvio hsrc hfilter => ?_, fun hsrc hruns => ?_⟩
  · obtain ⟨u, hquad, hmoved, hback, ha, hb⟩ := quadTransition_edge hvio hsrc hone (back := back) rfl
    obtain ⟨hedge, hdomain⟩ := acceptEdge_spec n ((d.edgePos : Int) + (if back then -(inc : Int) else inc)) u
    have hpos : posOf (acceptEdge n ((d.edgePos : Int) + (if back then -(inc : Int) else inc)) u) n = _ :=
      (congrArg PhaseDom.pos hdomain).trans (pos_at (vget u.ptb.pd n) _)
    refine ⟨_, congrArg Host.Outcome.next hquad, ?_, ?_, ?_, ?_, ?_, (hmoved.trans hedge).others, (hmoved.trans hedge).only⟩
    · exact (congrArg PhaseDom.backward hdomain).trans hback
    · exact (congrArg PhaseDom.a hdomain).trans ha
    · exact (congrArg PhaseDom.b hdomain).trans hb
    · rw [hpos]
      exact unsigned_emod 84 _
    · rw [hpos]
      exact congrArg PhaseDom.edgePos hdomain
  · refine ⟨_, congrArg Host.Outcome.next (quadTransition_both hvio hsrc ha hb), ?_, ?_, rfl⟩
    · rw [vget_pdMod_self]
    · rw [posOf, vget_pdMod_self]
      rfl
  · obtain ⟨hmoved, hphase, hindex⟩ := indexEdge_home hvio hsrc hforward hoff
    exact ⟨_, rfl, hphase, hindex, hmoved.others, hmoved.only⟩
  · obtain ⟨target, hedge, htarget⟩ := refEdge_edge hvio hsrc hfilter
    obtain ⟨hmoved, hdomain⟩ := acceptEdge_spec n target s
    refine ⟨_, congrArg Host.Outcome.next hedge, ?_, congrArg PhaseDom.stalled hdomain, hmoved.others, hmoved.only⟩
    rw [hdomain, phase_atEdge _ htarget]
    exact edgeHome_phase n rising s
  · obtain ⟨e, hfire⟩ := fire_frame (0x10 + n.1) (pdMod n (fun x => { x with
      stalled := true, stallEv := true, intervals := [], edges := 0, sinceEdge := 0 }) s)
    refine ⟨_, congrArg Host.Outcome.next ((domainStall_running hsrc hruns).trans hfire), ?_, ?_, ?_, rfl⟩
    · dsimp only
      rw [vget_pdMod_self]
    · dsimp only
      rw [vget_pdMod_self]
    · dsimp only [posOf]
      rw [vget_pdMod_self]
      rfl

end Sys2Proof.Proofs
end

section
/-! SUPPORT. Steps, snapshots, the network cycle and gearing: what each of them writes into the timebase (R69 to R75, R85). -/

namespace Sys2Proof.Machine

/-! ### A step (R75) -/

/-- PD1 takes no step from a source other than the air and the Peer Link. -/
theorem pdStepWrite_ignored {s : State} (h : s.pd1Source = .free ∨ s.pd1Source = .geared) (v : BitVec 32) : pdStepWrite 1 v s = s := by
  refine if_pos (.inl ⟨rfl, ?_⟩)
  rcases h with h | h <;> simp [h]

theorem pdStepWrite_taken {n : Fin 4} {v : BitVec 32} {s : State} (hzero : v ≠ 0) (hmin : v ≠ 0x80000000)
    (hsource : n = 1 → s.pd1Source = .air ∨ s.pd1Source = .peer) : pdStepWrite n v s = stepOnce n v.toInt s := by
  have hzero' : v.toInt ≠ 0 := fun h => hzero (BitVec.toInt_inj.1 h)
  have hmin' : v.toInt ≠ -(2 ^ 31) := fun h => hmin (BitVec.toInt_inj.1 h)
  refine if_neg ?_
  rintro (⟨hn, hair, hpeer⟩ | h | h)
  · exact (hsource hn).elim hair hpeer
  · exact hmin' h
  · exact hzero' h

/-! ### Snapshots (R85) -/

/-- Changes of single domains in turn are a change of the timebase. -/
theorem foldS_pdMod_only (f : Fin 4 → PhaseDom → PhaseDom) (l : List (Fin 4)) (s : State) :
    { foldS (fun n t => pdMod n (f n) t) l s with ptb := s.ptb } = s := by
  induction l generalizing s with
  | nil => rfl
  | cons n l ih => exact congrArg (fun x : State => { x with ptb := s.ptb }) (ih (pdMod n (f n) s))

/-- A change of each domain in turn leaves every domain with its own. -/
theorem foldS_pdMod_domain (f : Fin 4 → PhaseDom → PhaseDom) (s : State) (m : Fin 4) :
    vget (foldS (fun n t => pdMod n (f n) t) (fins 4) s).ptb.pd m = f m (vget s.ptb.pd m) := by
  have hfins : fins 4 = [0, 1, 2, 3] := by decide
  have hpd : (foldS (fun n t => pdMod n (f n) t) [0, 1, 2, 3] s).ptb.pd =
      vmod (vmod (vmod (vmod s.ptb.pd 0 (f 0)) 1 (f 1)) 2 (f 2)) 3 (f 3) := rfl
  rw [hfins, hpd]
  fin_cases m <;> simp [vget_vmod]

/-- A read of the phase changes its own domain alone: the snap that waited is gone, and its position stands. -/
theorem pdPhaseRead_spec (n : Fin 4) (s : State) :
    { pdPhaseRead n s with ptb := s.ptb } = s ∧ (∀ m, m ≠ n → vget (pdPhaseRead n s).ptb.pd m = vget s.ptb.pd m) ∧
      (vget (pdPhaseRead n s).ptb.pd n).snap = none ∧ posOf (pdPhaseRead n s) n = posOf s n := by
  refine ⟨rfl, (domainMoved_pdMod n _ s).others, ?_, ?_⟩
  all_goals
    unfold pdPhaseRead
    simp only [posOf, vget_pdMod_self]
    cases (vget s.ptb.pd n).snap <;> rfl

/-- The shadows take the present count and velocity, or the snap's where one waits. -/
theorem pdPhaseRead_shadows (n : Fin 4) (s : State) :
    ((vget s.ptb.pd n).snap = none →
      (vget (pdPhaseRead n s).ptb.pd n).cycleShadow = (vget s.ptb.pd n).rev ∧ (vget (pdPhaseRead n s).ptb.pd n).velShadow = s.velWord n) ∧
    ∀ x y z, (vget s.ptb.pd n).snap = some (x, y, z) →
      (vget (pdPhaseRead n s).ptb.pd n).cycleShadow = y ∧ (vget (pdPhaseRead n s).ptb.pd n).velShadow = z := by
  unfold pdPhaseRead
  refine ⟨fun h => ?_, fun x y z h => ?_⟩
  all_goals
    rw [vget_pdMod_self, h]
    exact ⟨rfl, rfl⟩

/-! ### The network cycle (R69) -/

theorem netCycleChange_due {s : State} (hpending : s.ptb.cyclePending = true) (hbegun : cycleAhead s.cycle (s.dU 0x2000 3) = false) :
    netCycleChange s = ptbMod (fun p => { p with
      cyclePending := false, cycleUs := s.dU 0x2000 2, nominal1 := rateFor (s.dU 0x2000 2),
      rate1 := scaleRate p.rate1 (rateFor (s.dU 0x2000 2)) p.nominal1,
      rateAtEdge := scaleRate p.rateAtEdge (rateFor (s.dU 0x2000 2)) p.nominal1 }) s :=
  if_neg (by simp [hpending, hbegun])

/-! ### Gearing (R71, R72) -/

/-- Entering a state of gearing changes nothing else of the timebase. -/
theorem gearEnter_ptb (g : GearState) (s : State) : (gearEnter g s).ptb = { s.ptb with gear := g } := by
  unfold gearEnter
  split
  · rename_i h
    rw [← h]
  · dsimp only
    split
    · rfl
    · rw [fire_ptb]
      rfl

/-- Entering a state of gearing, be it behind another change of the timebase, changes the timebase and the fabric. -/
theorem gearEnter_only (g : GearState) (s : State) : { gearEnter g s with ptb := s.ptb, evf := s.evf } = s := by
  obtain ⟨p, e, h⟩ := gearEnter_frame g s
  rw [h]

theorem gearEnter_ptbMod_only (g : GearState) (f : Ptb → Ptb) (s : State) : { gearEnter g (ptbMod f s) with ptb := s.ptb, evf := s.evf } = s :=
  congrArg (fun x : State => { x with ptb := s.ptb }) (gearEnter_only g (ptbMod f s))

theorem roundDiv_mono {a b : Int} (h : a ≤ b) (c : Nat) : roundDiv a c ≤ roundDiv b c := by
  unfold roundDiv
  split
  · exact le_rfl
  · exact Int.ediv_le_ediv (by omega) (by omega)

theorem roundDiv_nonneg {a : Int} (h : 0 ≤ a) (c : Nat) : 0 ≤ roundDiv a c := by
  unfold roundDiv
  split
  · exact le_rfl
  · exact Int.ediv_nonneg (by omega) (by omega)

/-- With a slew of at most 100 % the band of R71 is one of rates. -/
theorem band_nonneg {s : State} (h : s.dU 0x2000 7 ≤ 1000000) : 0 ≤ bandLo s :=
  roundDiv_nonneg (mul_nonneg (by omega) (by omega)) _

theorem band_ordered (s : State) : bandLo s ≤ bandHi s :=
  roundDiv_mono (mul_le_mul_of_nonneg_left (by omega) (by omega)) _

theorem clampI_mem {lo hi : Int} (h : lo ≤ hi) (x : Int) : lo ≤ clampI lo hi x ∧ clampI lo hi x ≤ hi := by
  unfold clampI
  omega

/-- The recomputed rate lies in the band; at an edge of it gearing is LIMITED, else LOCKED. -/
theorem gearRate_band (s : State) : ∃ (rate : Int) (err : Int), bandLo s ≤ rate ∧ rate ≤ bandHi s ∧
    gearRate s = gearEnter (if rate = bandLo s ∨ rate = bandHi s then .limited else .locked)
      (ptbMod (fun q => { q with rate1 := rate.toNat, gearErr := err }) s) := by
  unfold gearRate
  extract_lets p n pd2 pd1 err ticks tau want stepMax want' rate
  obtain ⟨hlo, hhi⟩ := clampI_mem (band_ordered s) want'
  exact ⟨rate, err, hlo, hhi, rfl⟩

end Sys2Proof.Machine

namespace Sys2Proof.Proofs
open Sys2Proof.Machine

/-- Settles O17: each command is one change of the timebase; a step is proved to move its domain alone, and a recomputed rate to be held in the band. -/
theorem phaseSteps : Obligations.PhaseSteps := by
  intro s n v
  refine ⟨fun hzero hmin hsource => ?_, fun hsource => ?_, ?_, ?_, fun hpending hbegun hnominal => ?_, fun hsource => ?_, fun hsource hdue => ?_,
    fun hsource hdue hgear hslew => ?_⟩
  · have hmoved := domainMoved_stepOnce n v.toInt s
    refine ⟨_, congrArg Host.Outcome.next (pdStepWrite_taken hzero hmin hsource), ?_, ?_, hmoved.others, hmoved.only⟩
    · rw [posOf_stepOnce]
      exact unsigned_emod 84 _
    · rw [stepOnce_domain]
  · exact congrArg Host.Outcome.next (pdStepWrite_ignored hsource v)
  · exact ⟨ptbSnap s, rfl, foldS_pdMod_only _ _ s, foldS_pdMod_domain _ s⟩
  · obtain ⟨hframe, hothers, hsnap, hpos⟩ := pdPhaseRead_spec n s
    obtain ⟨hnow, hsnapped⟩ := pdPhaseRead_shadows n s
    exact ⟨pdPhaseRead n s, rfl, hframe, hothers, hsnap, hpos, hnow, hsnapped⟩
  · refine ⟨_, congrArg Host.Outcome.next (netCycleChange_due hpending hbegun), rfl, rfl, ?_, rfl, rfl, rfl⟩
    exact if_neg hnominal
  · have hnext : exec .gearUpdate s = .next (gearEnter .notGeared s) := congrArg Host.Outcome.next (if_pos hsource)
    refine ⟨_, hnext, ?_, ?_, ?_, gearEnter_only _ s⟩
    all_goals rw [gearEnter_ptb]
  · have hnext : exec .gearUpdate s = .next (gearEnter .flywheel (ptbMod (fun p =>
        { p with rate1 := if p.gear = .flywheel then p.rate1 else p.rateAtEdge, inBand := 0 }) s)) :=
      congrArg Host.Outcome.next ((if_neg (not_not_intro hsource)).trans (if_pos hdue))
    refine ⟨_, hnext, ?_, ?_, ?_, gearEnter_ptbMod_only _ _ s⟩
    all_goals rw [gearEnter_ptb]
    all_goals rfl
  · have hidle : ¬(s.ptb.gear = .flywheel ∨ s.ptb.gear = .notGeared) := by
      rcases hgear with h | h <;> simp [h]
    have hrate : gearUpdate s = gearRate s :=
      ((if_neg (not_not_intro hsource)).trans (if_neg (by simp [hdue]))).trans (if_neg hidle)
    obtain ⟨rate, err, hlo, hhi, heq⟩ := gearRate_band s
    have hnonneg : ((rate.toNat : Nat) : Int) = rate := Int.toNat_of_nonneg ((band_nonneg hslew).trans hlo)
    refine ⟨_, congrArg Host.Outcome.next (hrate.trans heq), ?_, ?_, ?_, ?_, gearEnter_ptbMod_only _ _ s⟩
    all_goals rw [gearEnter_ptb]
    · exact hnonneg.symm ▸ hlo
    · exact hnonneg.symm ▸ hhi
    · rfl
    · dsimp only
      split
      · exact .inr rfl
      · exact .inl rfl

end Sys2Proof.Proofs
end

section
/-! SUPPORT. Writes of the region's plan, the network ID, the channel mask and the network cycle (R69, R88, R90, R243). -/

namespace Sys2Proof.Machine

/-! ### From a write to its response -/

section
variable {s : State} {src : Src} (h : Asks s src)
include h

/-- An entry of the device itself that a host may write takes a value that passes its checks. -/
theorem writeEntry_own {i x : Nat} {r : DictRow} {v : List Byte} (hi : i < 0x5000) (hx : x ≠ 0) (hproper : i ≠ 0x1020) (hrow : dictRow i x = some r)
    (hhost : r.host.writes = true) (hvalue : valueCheck r v = stOk) (hrole : r.role0 = true → s.role = 0) (hentry : entryCheck i x v s = stOk)
    (e : Ext) : writeEntry src e i x v s = entryStore e i x r v s :=
  writeEntry_passed hi hx (findEntry_own hproper hrow src s) (by simp [asks_classAcc h, hhost]) hvalue hrole hentry

/-- What a write has come to leaves as its response alone. -/
theorem hostWrite_answered {t : State} {i : BitVec 16} {x : Byte} {v : List Byte} {st : Status} (hi : i.toNat < 0x5000)
    (hreset : resetsDevice i.toNat x.toNat v s = false) (hafter : ∀ u, afterResponse src i.toNat x.toNat v u = u)
    (hwrite : writeEntry src {} i.toNat x.toNat v s = (st, t)) (tid : Byte) :
    ∃ l a, linkNum src = some l ∧ a.pdu = writeResp tid i x st ∧ hostWrite {} src tid i x v s = t.push l a := by
  obtain ⟨l, a, hlink, hpdu, hpush⟩ := hostWrite_push h hi hreset hafter {} tid
  rw [hwrite] at hpdu hpush
  exact ⟨l, a, hlink, hpdu, hpush⟩

end

/-- An entry that acts on each write, and stores a value that its action takes. -/
theorem entryStore_acted {e : Ext} {i x : Nat} {r : DictRow} {v : List Byte} {s t : State} {st : Status} (hrequest : r.request = false)
    (hfirst : storedFirst i x = false) (hstored : notStored i x = false) (heffect : ∀ u, storedEffect i x v u = u) (hact : entryAct e i x v s = (st, t)) :
    entryStore e i x r v s = (st, if st = stOk then t.dSet i x v else t) := by
  rw [entryStore_act (by simp [hrequest]) hfirst hact, hstored, heffect]
  by_cases hst : st = stOk <;> simp [hst]

/-- A number within the range of an unsigned scalar. -/
theorem valueCheck_between {r : DictRow} {lo hi : Nat} {v : List Byte} (hscalar : r.ty.segmented = false) (hunsigned : r.ty.isSigned = false)
    (hrange : r.range = .between lo hi) (hwidth : v.length = r.ty.width) (hcode : encodingOk r.ty v = true) (hlo : lo ≤ leNat v) (hhi : leNat v ≤ hi) :
    valueCheck r v = stOk := by
  have hin : scalarOk r.ty r.range v = true := by
    simp [scalarOk, hunsigned, hrange, hlo, hhi]
  rw [valueCheck_scalar hscalar, if_neg (not_not_intro hwidth), hcode, hin]
  rfl

/-! ### The region's plan (R88, R243) -/

/-- A byte put together flag by flag shows each of its flags. -/
theorem getLsbD_flags (f : Nat → Bool) {n i : Nat} (hn : n ≤ 8) :
    ((List.range n).foldl (fun (b : Byte) j => if f j then b ||| (1#8 <<< j) else b) 0).getLsbD i = (decide (i < n) && f i) := by
  induction n with
  | zero => simp
  | succ n ih =>
    rw [List.range_succ, List.foldl_append, List.foldl_cons, List.foldl_nil]
    by_cases hi : i = n
    · subst hi
      have hlow := ih (by omega)
      have hone : (1#8 <<< i).getLsbD i = true := by simp; omega
      split <;> simp_all
    · have hlow := ih (by omega)
      have hone : (1#8 <<< n).getLsbD i = false := by
        simp
        omega
      have hle : i < n + 1 ↔ i < n := by omega
      split <;> simp_all

/-- A plan's mask enables exactly the channels that the plan lets the device use. -/
theorem maskBit_planMask (p : Nat) {n : Nat} (hn : n < 128) : maskBit (planMask p) n = usable p n := by
  have hbyte : n / 8 < 16 := by omega
  have hplace : 8 * (n / 8) + n % 8 = n := by omega
  have hflag : n % 8 < 8 := by omega
  unfold maskBit planMask
  simp only [List.getD_eq_getElem?_getD, List.getElem?_map, List.getElem?_range hbyte, Option.map_some, Option.getD_some,
    getLsbD_flags (fun j => usable p (8 * (n / 8) + j)) le_rfl, hplace, hflag, decide_true, Bool.true_and]

/-- Entries of one index put in turn. -/
theorem dGet_foldS_dPut (x b : Nat) (v : Nat → Nat) (l : List Nat) (s : State) (k : Nat) :
    (foldS (fun k s => s.dPut x (b + k) (v k)) l s).dGet x (b + k) = if k ∈ l then leBytes (entryWidth x (b + k)) (v k) else s.dGet x (b + k) := by
  induction l generalizing s with
  | nil => rfl
  | cons j l ih =>
    rw [foldS, ih]
    by_cases hj : k = j
    · subst hj
      simp
    · have hkey : key x (b + k) ≠ key x (b + j) := by
        unfold key
        omega
      simp [hj, dGet_dPut_ne _ _ hkey]

theorem dGet_foldS_dPut_ne {x b i j : Nat} (v : Nat → Nat) {l : List Nat} (h : ∀ k ∈ l, key i j ≠ key x (b + k)) (s : State) :
    (foldS (fun k s => s.dPut x (b + k) (v k)) l s).dGet i j = s.dGet i j := by
  induction l generalizing s with
  | nil => rfl
  | cons k l ih =>
    rw [foldS, ih (fun m hm => h m (List.mem_cons_of_mem k hm)), dGet_dPut_ne _ _ (h k List.mem_cons_self)]

/-- Of the machine only entries of the dictionary have changed. -/
def OnlyEntries (s t : State) : Prop := ∃ d, t = { s with dict := d }

theorem onlyEntries_foldS_dPut (x b : Nat) (v : Nat → Nat) (l : List Nat) (s : State) :
    OnlyEntries s (foldS (fun k s => s.dPut x (b + k) (v k)) l s) := by
  induction l generalizing s with
  | nil => exact ⟨s.dict, rfl⟩
  | cons k l ih =>
    obtain ⟨d, h⟩ := ih (s.dPut x (b + k) (v k))
    exact ⟨d, h⟩

theorem onlyEntries_loadRegulatory (p : Nat) (s : State) : OnlyEntries s (loadRegulatory p s) := by
  obtain ⟨d, h⟩ := onlyEntries_foldS_dPut 0x2300 0x20 (fun k => (dutyDefaults p).getD k 0) (List.range 6) s
  unfold loadRegulatory
  rw [h]
  exact ⟨_, rfl⟩

theorem dGet_loadRegulatory_ne {i j : Nat} (hj : j < 256) (hi : i ≠ 0x2300) (p : Nat) (s : State) : (loadRegulatory p s).dGet i j = s.dGet i j := by
  have hkey : ∀ x, x < 256 → key i j ≠ key 0x2300 x := fun x hx h => hi ((key_inj hj hx).1 h).1
  unfold loadRegulatory
  simp only [dGet_dPut_ne _ _ (hkey 0x13 (by decide)), dGet_dPut_ne _ _ (hkey 0x10 (by decide)), dGet_dPut_ne _ _ (hkey 0x2A (by decide)),
    dGet_dPut_ne _ _ (hkey 0x29 (by decide))]
  refine dGet_foldS_dPut_ne _ (fun k hk => hkey _ ?_) s
  have hk6 := List.mem_range.1 hk
  omega

theorem dutyDefaults_le (p k : Nat) : (dutyDefaults p).getD k 0 ≤ 1000 := by
  have hall : ∀ p', ∀ x ∈ dutyDefaults p', x ≤ 1000 := by
    intro p' x hx
    unfold dutyDefaults at hx
    split at hx
    · fin_cases hx <;> decide
    · split at hx
      · exact (List.eq_of_mem_replicate hx).le
      · split at hx
        · exact (List.eq_of_mem_replicate hx).trans_le (by decide)
        · exact (List.eq_of_mem_replicate hx).trans_le (by decide)
  rw [List.getD_eq_getElem?_getD]
  cases hk : (dutyDefaults p)[k]? with
  | none => simp
  | some x => exact hall p x (List.mem_of_getElem? hk)

theorem dU_loadRegulatory_duty (p : Nat) {k : Nat} (hk : k < 6) (s : State) : (loadRegulatory p s).dU 0x2300 (0x20 + k) = (dutyDefaults p).getD k 0 := by
  have hkey : ∀ x, x = 0x13 ∨ x = 0x10 ∨ x = 0x2A ∨ x = 0x29 → key 0x2300 (0x20 + k) ≠ key 0x2300 x := by
    intro x hx
    unfold key
    omega
  have hwidth : entryWidth 0x2300 (0x20 + k) = 2 := by
    interval_cases k <;> rfl
  have hsmall := dutyDefaults_le p k
  unfold State.dU loadRegulatory
  rw [dGet_dPut_ne _ _ (hkey _ (by decide)), dGet_dPut_ne _ _ (hkey _ (by decide)), dGet_dPut_ne _ _ (hkey _ (by decide)),
    dGet_dPut_ne _ _ (hkey _ (by decide)), dGet_foldS_dPut, if_pos (List.mem_range.2 hk), hwidth, leNat_leBytes, Nat.mod_eq_of_lt (by omega)]

/-- The plan's defaults for the dwell limit and for listening before talking. -/
theorem dU_loadRegulatory_rest (p : Nat) (s : State) : (loadRegulatory p s).dU 0x2300 0x29 = 0 ∧ (loadRegulatory p s).dU 0x2300 0x2A = 20000 ∧
    (loadRegulatory p s).dU 0x2300 0x10 = 0 ∧ (loadRegulatory p s).dU 0x2300 0x13 = 0 := by
  unfold loadRegulatory
  generalize foldS (fun k s => s.dPut 0x2300 (0x20 + k) ((dutyDefaults p).getD k 0)) (List.range 6) s = t
  unfold State.dU
  refine ⟨?_, ?_, ?_, ?_⟩
  · rw [dGet_dPut_ne _ _ (by decide), dGet_dPut_ne _ _ (by decide), dGet_dPut_ne _ _ (by decide), dGet_dPut_self]
    rfl
  · rw [dGet_dPut_ne _ _ (by decide), dGet_dPut_ne _ _ (by decide), dGet_dPut_self]
    rfl
  · rw [dGet_dPut_ne _ _ (by decide), dGet_dPut_self]
    rfl
  · rw [dGet_dPut_self]
    rfl

theorem dGet_waveMod (f : Wave → Wave) (s : State) (i j : Nat) : (waveMod f s).dGet i j = s.dGet i j := rfl

theorem dGet_bucketsEmpty (s : State) (i j : Nat) : (bucketsEmpty s).dGet i j = s.dGet i j := rfl

/-- What a new plan changes beside the entries: the mask in force and the buckets. -/
theorem regionPlanSet_frame (p : Nat) (s : State) : ∃ d, regionPlanSet p s = { s with
    dict := d
    wave := { s.wave with mask := planMask p, maskNext := none }
    bkt := { s.bkt with duty := .replicate 6 0, dwell := .replicate 128 0 } } := by
  unfold regionPlanSet
  extract_lets s₁ s₂ s₃
  obtain ⟨d, h⟩ := onlyEntries_loadRegulatory p s₃
  rw [h]
  exact ⟨d, rfl⟩

/-- The plan's channel count and first frequency. -/
theorem dU_regionPlanSet_channels {p : Nat} (hp : p ≤ 5) (s : State) :
    (regionPlanSet p s).dU 0x2200 4 = planK p ∧ (regionPlanSet p s).dU 0x2200 5 = planF0 p := by
  have hk : planK p < 256 := by interval_cases p <;> decide
  have hf : planF0 p < 256 ^ 4 := by interval_cases p <;> decide
  have hentry : ∀ j, j < 256 → j ≠ 2 → (regionPlanSet p s).dU 0x2200 j =
      (((s.dPut 0x2200 1 p).dPut 0x2200 4 (planK p)).dPut 0x2200 5 (planF0 p)).dU 0x2200 j := by
    intro j hj hmask
    have hkey : key 0x2200 j ≠ key 0x2200 2 := fun h => hmask ((key_inj hj (by decide)).1 h).2
    unfold regionPlanSet State.dU
    rw [dGet_bucketsEmpty, dGet_loadRegulatory_ne hj (by decide), dGet_waveMod, dGet_dSet_ne _ _ hkey]
  constructor
  · rw [hentry 4 (by decide) (by decide), State.dU, dGet_dPut_ne _ _ (by decide)]
    exact (dU_dPut_self _ 0x2200 4 _).trans (Nat.mod_eq_of_lt hk)
  · rw [hentry 5 (by decide) (by decide)]
    exact (dU_dPut_self _ 0x2200 5 _).trans (Nat.mod_eq_of_lt hf)

theorem dU_regionPlanSet_regulatory (p : Nat) (s : State) : (∀ k, k < 6 → (regionPlanSet p s).dU 0x2300 (0x20 + k) = (dutyDefaults p).getD k 0) ∧
    (regionPlanSet p s).dU 0x2300 0x29 = 0 ∧ (regionPlanSet p s).dU 0x2300 0x2A = 20000 ∧ (regionPlanSet p s).dU 0x2300 0x10 = 0 ∧
    (regionPlanSet p s).dU 0x2300 0x13 = 0 := by
  have hentry : ∀ t i j, (bucketsEmpty t).dU i j = t.dU i j := fun t i j => congrArg leNat (dGet_bucketsEmpty t i j)
  unfold regionPlanSet
  simp only [hentry]
  exact ⟨fun _ hk => dU_loadRegulatory_duty p hk _, dU_loadRegulatory_rest p _⟩

/-- The state behind a plan's write: the plan is stored once more as the entry's value. -/
def planWritten (p : Byte) (s : State) : State := (regionPlanSet p.toNat s).dSet 0x2200 1 [p]

theorem planWritten_frame (p : Byte) (s : State) : ∃ d, planWritten p s = { s with
    dict := d
    wave := { s.wave with mask := planMask p.toNat, maskNext := none }
    bkt := { s.bkt with duty := .replicate 6 0, dwell := .replicate 128 0 } } := by
  obtain ⟨d, h⟩ := regionPlanSet_frame p.toNat s
  unfold planWritten
  rw [h]
  exact ⟨_, rfl⟩

/-- The entries behind a plan's write: the plan, its channels, and its regulatory defaults. -/
structure PlanEntries (p : Nat) (t : State) : Prop where
  plan : t.plan = p
  channels : t.dU 0x2200 4 = planK p
  first : t.dU 0x2200 5 = planF0 p
  duty : ∀ k, k < 6 → t.dU 0x2300 (0x20 + k) = (dutyDefaults p).getD k 0
  dwell : t.dU 0x2300 0x29 = 0
  window : t.dU 0x2300 0x2A = 20000
  listen : t.dU 0x2300 0x10 = 0
  listenAck : t.dU 0x2300 0x13 = 0

theorem planWritten_entries {p : Byte} (hp : p.toNat ≤ 5) (s : State) : PlanEntries p.toNat (planWritten p s) := by
  obtain ⟨hchannels, hfirst⟩ := dU_regionPlanSet_channels hp s
  obtain ⟨hduty, hdwell, hwindow, hlisten, hlistenAck⟩ := dU_regionPlanSet_regulatory p.toNat s
  have hentry : ∀ i j, key i j ≠ key 0x2200 1 → (planWritten p s).dU i j = (regionPlanSet p.toNat s).dU i j :=
    fun _ _ hkey => congrArg leNat (dGet_dSet_ne _ _ hkey)
  refine ⟨?_, ?_, ?_, fun k hk => ?_, ?_, ?_, ?_, ?_⟩
  · rw [State.plan, State.dU, planWritten, dGet_dSet_self, leNat_byte]
  · rw [hentry _ _ (by decide), hchannels]
  · rw [hentry _ _ (by decide), hfirst]
  · have hkey : key 0x2300 (0x20 + k) ≠ key 0x2200 1 := by
      unfold key
      omega
    rw [hentry _ _ hkey, hduty k hk]
  · rw [hentry _ _ (by decide), hdwell]
  · rw [hentry _ _ (by decide), hwindow]
  · rw [hentry _ _ (by decide), hlisten]
  · rw [hentry _ _ (by decide), hlistenAck]

theorem PlanEntries.push {p : Nat} {t : State} (h : PlanEntries p t) (l : Fin 5) (a : Sent) : PlanEntries p (t.push l a) := by
  obtain ⟨plan, channels, first, duty, dwell, window, listen, listenAck⟩ := h
  exact ⟨plan, channels, first, duty, dwell, window, listen, listenAck⟩

theorem writeEntry_plan {s : State} {src : Src} (h : Asks s src) (hrole : s.role = 0) {p : Byte} (hp : p.toNat ≤ 5) (e : Ext) :
    writeEntry src e 0x2200 1 [p] s = (stOk, planWritten p s) := by
  have hvalue : valueCheck { lo := 1, hi := 1, ty := .u8, host := .rw, remote := .ro, fw := .ro, dflt := 0, range := .between 0 5, role0 := true } [p] =
      stOk := valueCheck_between rfl rfl (lo := 0) rfl rfl rfl (Nat.zero_le _) (by rwa [leNat_byte])
  have hact : entryAct e 0x2200 1 [p] s = (stOk, regionPlanSet p.toNat s) := congrArg (fun n => (stOk, regionPlanSet n s)) (leNat_byte p)
  rw [writeEntry_own h (by decide) (by decide) (by decide) rfl rfl hvalue (fun _ => hrole) rfl, entryStore_acted rfl rfl rfl (fun _ => rfl) hact, if_pos rfl]
  rfl

theorem execRegionPlanWrite_taken {s : State} {src : Src} (h : Asks s src) (hrole : s.role = 0) {p : Byte} (hp : p.toNat ≤ 5) (tid : Byte) :
    ∃ l a, linkNum src = some l ∧ a.pdu = writeResp tid 0x2200 1 stOk ∧ exec (.regionPlanWrite src tid p) s = .next ((planWritten p s).push l a) := by
  obtain ⟨l, a, hlink, hpdu, hexec⟩ := hostWrite_answered h (i := 0x2200) (x := 1) (by decide) rfl (fun _ => rfl) (writeEntry_plan h hrole hp {}) tid
  exact ⟨l, a, hlink, hpdu, congrArg Host.Outcome.next hexec⟩

/-! ### The network ID (R90) -/

theorem leNat_half (v : BitVec 16) : leNat (leBytes 2 v.toNat) = v.toNat := by
  rw [leNat_leBytes, Nat.mod_eq_of_lt]
  exact v.isLt

theorem writeEntry_networkId {s : State} {src : Src} (h : Asks s src) (hrole : s.role = 0) {v : BitVec 16} (hv : v ≠ 0) (e : Ext) :
    writeEntry src e 0x2200 3 (leBytes 2 v.toNat) s = (stOk, s.dSet 0x2200 3 (leBytes 2 v.toNat)) := by
  have hpos : 1 ≤ v.toNat := Nat.one_le_iff_ne_zero.2 fun h0 => hv (BitVec.eq_of_toNat_eq h0)
  have hvalue : valueCheck { lo := 3, hi := 3, ty := .u16, host := .rw, remote := .ro, fw := .ro, dflt := 0, range := .between 1 65535, role0 := true }
      (leBytes 2 v.toNat) = stOk :=
    valueCheck_between rfl rfl (lo := 1) (hi := 65535) rfl (leBytes_length 2 _) rfl (by rwa [leNat_half]) (by rw [leNat_half]; omega)
  rw [writeEntry_own h (by decide) (by decide) (by decide) rfl rfl hvalue (fun _ => hrole) rfl, entryStore_plain rfl]
  rfl

theorem execNetworkIdWrite_taken {s : State} {src : Src} (h : Asks s src) (hrole : s.role = 0) {v : BitVec 16} (hv : v ≠ 0) (tid : Byte) :
    ∃ l a, linkNum src = some l ∧ a.pdu = writeResp tid 0x2200 3 stOk ∧
      exec (.networkIdWrite src tid v) s = .next ((s.dSet 0x2200 3 (leBytes 2 v.toNat)).push l a) := by
  obtain ⟨l, a, hlink, hpdu, hexec⟩ := hostWrite_answered h (i := 0x2200) (x := 3) (by decide) rfl (fun _ => rfl) (writeEntry_networkId h hrole hv {}) tid
  exact ⟨l, a, hlink, hpdu, congrArg Host.Outcome.next hexec⟩

/-! ### The channel mask (R90) -/

/-- A mask enables a channel outside the plan. -/
def maskOutside (m : List Byte) (s : State) : Bool := (List.range 128).any fun n => maskBit m n && !usable s.plan n

theorem maskOutside_iff (m : List Byte) (s : State) : maskOutside m s = true ↔ ∃ n, n < 128 ∧ maskBit m n = true ∧ usable s.plan n = false := by
  simp only [maskOutside, List.any_eq_true, List.mem_range, Bool.and_eq_true, Bool.not_eq_true']

theorem channelMaskSet_eq {m : List Byte} (hm : m.length = 16) (s : State) : channelMaskSet m s =
    if maskOutside m s then (stRange, s) else (stOk, waveMod (fun w => { w with maskNext := some m }) (s.dSet 0x2200 2 m)) :=
  if_neg (not_not_intro hm)

theorem writeEntry_mask {s : State} {src : Src} (h : Asks s src) {m : List Byte} (hm : m.length = 16) (e : Ext) : writeEntry src e 0x2200 2 m s =
    if maskOutside m s then (stRange, s)
    else (stOk, (waveMod (fun w => { w with maskNext := some m }) (s.dSet 0x2200 2 m)).dSet 0x2200 2 m) := by
  have hvalue : valueCheck { lo := 2, hi := 2, ty := .domain, host := .rw, remote := .ro, fw := .ro, dflt := 0, range := .len 16 16 } m = stOk := by
    rw [valueCheck_segmented rfl, hm]
    rfl
  have hact : entryAct e 0x2200 2 m s = channelMaskSet m s := rfl
  rw [writeEntry_own h (by decide) (by decide) (by decide) rfl rfl hvalue nofun rfl]
  rw [channelMaskSet_eq hm] at hact
  by_cases hout : maskOutside m s = true
  · rw [if_pos hout] at hact ⊢
    exact entryStore_acted rfl rfl rfl (fun _ => rfl) hact
  · rw [if_neg hout] at hact ⊢
    exact entryStore_acted rfl rfl rfl (fun _ => rfl) hact

theorem execChannelMaskWrite_push {s t : State} {src : Src} {m : List Byte} {st : Status} (h : Asks s src)
    (hwrite : writeEntry src {} 0x2200 2 m s = (st, t)) (tid : Byte) :
    ∃ l a, linkNum src = some l ∧ a.pdu = writeResp tid 0x2200 2 st ∧ exec (.channelMaskWrite src tid m) s = .next (t.push l a) := by
  obtain ⟨l, a, hlink, hpdu, hexec⟩ := hostWrite_answered h (i := 0x2200) (x := 2) (by decide) rfl (fun _ => rfl) hwrite tid
  exact ⟨l, a, hlink, hpdu, congrArg Host.Outcome.next hexec⟩

/-! ### The network cycle (R69) -/

/-- The subindex of NET_CYCLE_AT or NET_CYCLE. -/
def cycleSub (at_ : Bool) : Byte := if at_ then 3 else 2

/-- The cycle that a write names, or the one held. -/
def namedCycle (at_ : Bool) (n : Nat) (s : State) : Nat := if at_ then n else s.dU 0x2000 3

theorem takes_cycle {at_ : Bool} {x : BitVec 32} (hx : if at_ then x.toNat < 2 ^ 28 else 1024000 ≤ x.toNat ∧ x.toNat ≤ 655360000) :
    ∃ r, r.request = false ∧ Takes 0x2000 (cycleSub at_).toNat r (leBytes 4 x.toNat) := by
  cases at_
  · obtain ⟨hlo, hhi⟩ := hx
    refine ⟨_, ?_, by decide, by decide, by decide, rfl, rfl, ?_, rfl, fun _ => rfl⟩
    · rfl
    · exact valueCheck_between rfl rfl (lo := 1024000) (hi := 655360000) rfl (leBytes_length 4 _) rfl (by rwa [leNat_word]) (by rwa [leNat_word])
  · have hhi : x.toNat ≤ 268435455 := Nat.le_of_lt_succ hx
    refine ⟨_, ?_, by decide, by decide, by decide, rfl, rfl, ?_, rfl, fun _ => rfl⟩
    · rfl
    · exact valueCheck_between rfl rfl (lo := 0) (hi := 268435455) rfl (leBytes_length 4 _) rfl (Nat.zero_le _) (by rwa [leNat_word])

theorem netCycleWrite_eq (at_ : Bool) (n : Nat) (s : State) : netCycleWrite at_ n s =
    if cycleAhead s.cycle (namedCycle at_ n s) then (stOk, ptbMod (fun p => { p with cyclePending := true }) s) else (stLate, s) := by
  unfold netCycleWrite namedCycle
  dsimp only
  cases cycleAhead s.cycle (if at_ then n else s.dU 0x2000 3) <;> rfl

theorem entryAct_cycle (e : Ext) (at_ : Bool) (v : List Byte) (s : State) :
    entryAct e 0x2000 (cycleSub at_).toNat v s = netCycleWrite at_ (leNat v) s := by
  cases at_ <;> simp [entryAct, cycleSub]

theorem storedEffect_cycle (at_ : Bool) (v : List Byte) (s : State) : storedEffect 0x2000 (cycleSub at_).toNat v s = s := by
  cases at_ <;> rfl

theorem writeEntry_cycle {s : State} {src : Src} (h : Asks s src) {at_ : Bool} {x : BitVec 32}
    (hx : if at_ then x.toNat < 2 ^ 28 else 1024000 ≤ x.toNat ∧ x.toNat ≤ 655360000) (e : Ext) :
    writeEntry src e 0x2000 (cycleSub at_).toNat (leBytes 4 x.toNat) s =
      if cycleAhead s.cycle (namedCycle at_ x.toNat s) then
        (stOk, (ptbMod (fun p => { p with cyclePending := true }) s).dSet 0x2000 (cycleSub at_).toNat (leBytes 4 x.toNat))
      else (stLate, s) := by
  obtain ⟨r, hrequest, htakes⟩ := takes_cycle hx
  have hact := entryAct_cycle e at_ (leBytes 4 x.toNat) s
  rw [leNat_word, netCycleWrite_eq] at hact
  rw [htakes.write h]
  by_cases hahead : cycleAhead s.cycle (namedCycle at_ x.toNat s) = true
  · rw [if_pos hahead] at hact ⊢
    exact entryStore_acted hrequest rfl rfl (storedEffect_cycle at_ _) hact
  · rw [if_neg hahead] at hact ⊢
    exact entryStore_acted hrequest rfl rfl (storedEffect_cycle at_ _) hact

theorem execNetCycleWrite_push {s t : State} {src : Src} {at_ : Bool} {x : BitVec 32} {st : Status} (h : Asks s src)
    (hwrite : writeEntry src {} 0x2000 (cycleSub at_).toNat (leBytes 4 x.toNat) s = (st, t)) (tid : Byte) :
    ∃ l a, linkNum src = some l ∧ a.pdu = writeResp tid 0x2000 (cycleSub at_) st ∧ exec (.netCycleWrite src tid at_ x) s = .next (t.push l a) := by
  obtain ⟨l, a, hlink, hpdu, hexec⟩ := hostWrite_answered h (i := 0x2000) (x := cycleSub at_) (by decide) rfl (fun _ => rfl) hwrite tid
  exact ⟨l, a, hlink, hpdu, congrArg Host.Outcome.next hexec⟩

theorem cycleAhead_iff (now named : Nat) :
    cycleAhead now named = true ↔ 0 < (named + 2 ^ 28 - now) % 2 ^ 28 ∧ (named + 2 ^ 28 - now) % 2 ^ 28 < 2 ^ 27 := by
  simp only [cycleAhead, Bool.and_eq_true, decide_eq_true_eq]

end Sys2Proof.Machine
end

section
/-! SUPPORT. A waiting channel mask brought into force (R90, R129), and the refill of the buckets (R240, R273, R274). -/

namespace Sys2Proof.Machine

/-! ### The mask at a slot boundary -/

/-- With no transmission of the link controller on its way nothing is settled. -/
theorem settle_idle {s : State} (h : s.lnk.sending = []) : settle s = s := by
  have hmark : markLeft s = s := by
    unfold markLeft
    split
    · unfold lnkMod
      dsimp only
      rw [h, List.map_nil, ← h]
    · rfl
  unfold settle
  rw [hmark]
  exact if_pos (by simp [h])

theorem channelMaskApply_none {s : State} (h : s.wave.maskNext = none) : channelMaskApply s = s := by
  unfold channelMaskApply
  rw [h]

/-- The mask `m` in force, and none waiting. -/
def maskInForce (m : List Byte) (s : State) : State := waveMod (fun w => { w with mask := m, maskNext := none }) s

theorem channelMaskApply_idle {s : State} {m : List Byte} (h : s.wave.maskNext = some m) (hpend : s.rf.pend = none) :
    channelMaskApply s = maskInForce m s := by
  unfold channelMaskApply
  rw [h]
  dsimp only
  rw [waveMod_rf, hpend]
  rfl

/-- A waiting TX command none of whose carriers is left is dropped with REFUSED_REGULATORY. -/
theorem channelMaskApply_dropped {s : State} {m : List Byte} {c : RfCmd} (h : s.wave.maskNext = some m) (hpend : s.rf.pend = some c) (hkind : c.kind = 5)
    (hempty : (burstMask (maskInForce m s)).txm.burst = []) :
    channelMaskApply s = (rfMod (fun r => { r with pend := none }) (burstMask (maskInForce m s))).flag rfsStat 6 := by
  unfold channelMaskApply
  rw [h]
  dsimp only
  rw [waveMod_rf, hpend]
  dsimp only
  rw [if_neg (not_not_intro hkind)]
  exact if_pos (List.isEmpty_iff.2 hempty)

theorem carStatus_txm (c : Fin 8) (st : Status) (s : State) : (carStatus c st s).txm = s.txm := State.setRegF_txm ..

/-- The only carrier of a burst leaves it when its channel is closed. -/
theorem burstMask_only {s : State} {k : Carrier} (hburst : s.txm.burst = [k]) (hclosed : s.channelOpen k.chan = false) :
    burstMask s = { carStatus k.num stRegulatory s with txm := { s.txm with burst := [] } } := by
  have hgone : s.txm.burst.filter (fun k => !s.channelOpen k.chan) = [k] := by simp [hburst, hclosed]
  have hleft : s.txm.burst.filter (fun x => !List.contains [k] x) = [] := by simp [hburst]
  unfold burstMask txmMod
  rw [hgone]
  dsimp only [List.foldl_cons, List.foldl_nil]
  rw [carStatus_txm, hleft]

/-! ### Fields that the hardware sets -/

theorem field_putField_status (v x : Nat) (hx : x < 256) : field (putField v 23 16 x % 2 ^ 32) 23 16 = x := by
  simp only [field, putField]
  omega

theorem testBit_putField_refused (v : Nat) : (putField v 6 6 1).testBit 6 = true := by
  simp only [Nat.testBit_eq_decide_div_mod_eq, putField, field, decide_eq_true_eq]
  omega

/-- A carrier's status reads back. -/
theorem regF_carStatus (c : Fin 8) (st : Status) (s : State) : (carStatus c st s).regF (carStat c) 23 16 = st.toNat := by
  unfold carStatus State.setRegF State.regF State.regN
  rw [reg_setRegN_self, BitVec.toNat_ofNat, field_putField_status _ _ st.isLt]

theorem regF_flag_ne (s : State) {a b : Nat} (n hi lo : Nat) (h : b ≠ a) : (s.flag a n).regF b hi lo = s.regF b hi lo := by
  unfold State.regF State.regN
  rw [reg_flag_ne s n h]

/-- REFUSED_REGULATORY stands in the sequencer's status once it is flagged. -/
theorem regB_flag_refused (s : State) (a : Nat) : (s.flag a 6).regB a 6 = true := by
  rw [State.flag, State.setRegF, regB_setRegN_self, testBit_putField_refused]
  rfl

theorem carStat_ne_rfsStat (c : Fin 8) : carStat c ≠ rfsStat := by
  unfold carStat carCfg rfsStat
  omega

theorem flag_frame (s : State) (a n : Nat) : ∃ r, s.flag a n = { s with regs := r } := ⟨_, rfl⟩

theorem carStatus_frame (c : Fin 8) (st : Status) (s : State) : ∃ r, carStatus c st s = { s with regs := r } := ⟨_, rfl⟩

/-- A TX command that loses its only carrier with the mask is dropped, and the sequencer and the carrier say why. -/
theorem execChannelMaskApply_dropped {s : State} {m : List Byte} {c : RfCmd} {k : Carrier} (hidle : s.lnk.sending = [])
    (hwaits : s.wave.maskNext = some m) (hpend : s.rf.pend = some c) (hkind : c.kind = 5) (hburst : s.txm.burst = [k])
    (hclosed : (usable s.plan k.chan && maskBit m k.chan) = false) :
    ∃ t r, exec .channelMaskApply s = .next t ∧ t.regF (carStat k.num) 23 16 = 5 ∧ t.regB rfsStat 6 = true ∧
      t = { s with wave := { s.wave with mask := m, maskNext := none }, rf := { s.rf with pend := none }, txm := { s.txm with burst := [] }, regs := r } := by
  have hmask := burstMask_only (s := maskInForce m s) hburst hclosed
  have hdropped := channelMaskApply_dropped hwaits hpend hkind (by rw [hmask])
  obtain ⟨r, hr⟩ := carStatus_frame k.num stRegulatory (maskInForce m s)
  have hstatus := regF_carStatus k.num stRegulatory (maskInForce m s)
  rw [hmask] at hdropped
  generalize carStatus k.num stRegulatory (maskInForce m s) = u at hr hstatus hdropped
  subst hr
  obtain ⟨r', hframe⟩ := flag_frame (rfMod (fun r => { r with pend := none })
    { s with wave := { s.wave with mask := m, maskNext := none }, txm := { s.txm with burst := [] }, regs := r }) rfsStat 6
  refine ⟨channelMaskApply s, r', congrArg Host.Outcome.next (settle_idle ?_), ?_, ?_, ?_⟩
  · rw [hdropped, State.flag_lnk]
    exact hidle
  · rw [hdropped, regF_flag_ne _ 6 23 16 (carStat_ne_rfsStat k.num)]
    exact hstatus
  · rw [hdropped, regB_flag_refused]
  · exact hdropped.trans hframe

/-! ### The buckets (R240, R273, R274) -/

theorem bucketRefill_off {s : State} (h : s.isOn dRADIO = false) (n : Nat) : bucketRefill n s = s := if_pos (by simp [h])

/-- While RADIO is ON a refill changes the buckets alone, each as its own settings say. -/
theorem bucketRefill_on {s : State} (h : s.isOn dRADIO = true) (n : Nat) : ∃ b, bucketRefill n s = { s with bkt := b } ∧ b.dwellLim = s.dU 0x2300 0x29 ∧
    (∀ k, vget b.duty k = min (dutyCap s k) (vget s.bkt.duty k + n * refillTick (dutyCap s k) (s.dU 0x2300 0x28 * 1000))) ∧
    (∀ k, vget b.dutyLim k = s.dU 0x2300 (0x20 + k.1)) ∧
    (∀ c, vget b.dwell c = min (dwellCap s) (vget s.bkt.dwell c + n * refillTick (dwellCap s) (s.dU 0x2300 0x2A))) ∧
    ∀ i, vget b.shape i = min (shapeBurst s i * 65536) (vget s.bkt.shape i + n * (shapeRate s i * 65536 * 1024 / 1000000)) := by
  unfold bucketRefill
  rw [if_neg (by simp [h])]
  refine ⟨_, rfl, rfl, ?_, ?_, ?_, ?_⟩
  all_goals
    intro i
    simp only [vget, Vector.getElem_ofFn, Vector.getElem_map]

end Sys2Proof.Machine

namespace Sys2Proof.Proofs
open Sys2Proof.Machine

/-- Settles O30: each write is its entry's action behind the checks that every write passes, with its status as the only response; a waiting mask
comes into force where nothing is on its way; each bucket is refilled on its own. -/
theorem regionAndMask : Obligations.RegionAndMask := by
  refine ⟨fun s src tid p v m => ⟨fun hasks hrole hp => ?_, fun hasks hrole hv => ?_, fun hasks hm => ⟨fun hin => ?_, fun hout => ?_⟩,
    fun hidle => ⟨fun hnone => ?_, fun hwaits => ⟨fun hpend => ?_, fun c k hpend hkind hburst hclosed => ?_⟩⟩, fun at_ x hasks hx => ⟨fun hahead => ?_,
    fun hbegun => ?_⟩⟩, fun s n => ⟨fun hon => ?_, fun hoff => ?_⟩⟩
  · obtain ⟨l, a, hlink, hpdu, hexec⟩ := execRegionPlanWrite_taken hasks hrole hp tid
    obtain ⟨hplan, hchannels, hfirst, hduty, hdwell, hwindow, hlisten, hlistenAck⟩ := (planWritten_entries hp s).push l a
    obtain ⟨d, hframe⟩ := planWritten_frame p s
    refine ⟨_, hexec, hplan, hchannels, hfirst, fun n hn => ?_, ?_, ?_, ?_, ?_, ?_, hduty, hdwell, hwindow, hlisten, hlistenAck,
      spoke_of_push hlink hpdu (by rw [hframe]), ?_⟩
    all_goals rw [hframe]
    · exact maskBit_planMask p.toNat hn
    all_goals rfl
  · obtain ⟨l, a, hlink, hpdu, hexec⟩ := execNetworkIdWrite_taken hasks hrole hv tid
    exact ⟨_, hexec, dGet_dSet_self s _ _ _, fun i j hkey => dGet_dSet_ne s _ hkey, spoke_of_push hlink hpdu rfl, rfl⟩
  · have houtside : ¬maskOutside m s = true := by
      rw [maskOutside_iff]
      rintro ⟨n, hn, hbit, hunusable⟩
      rw [hin n hn hbit] at hunusable
      cases hunusable
    obtain ⟨l, a, hlink, hpdu, hexec⟩ := execChannelMaskWrite_push hasks ((writeEntry_mask hasks hm {}).trans (if_neg houtside)) tid
    refine ⟨_, hexec, rfl, dGet_dSet_self _ _ _ m, fun i j hkey => ?_, spoke_of_push hlink hpdu rfl, rfl⟩
    exact (dGet_dSet_ne (waveMod (fun w => { w with maskNext := some m }) (s.dSet 0x2200 2 m)) m hkey).trans (dGet_dSet_ne s m hkey)
  · obtain ⟨l, a, hlink, hpdu, hexec⟩ :=
      execChannelMaskWrite_push hasks ((writeEntry_mask hasks hm {}).trans (if_pos ((maskOutside_iff m s).2 hout))) tid
    exact ⟨_, hexec, spoke_of_push hlink hpdu rfl, rfl⟩
  · exact congrArg Host.Outcome.next ((congrArg settle (channelMaskApply_none hnone)).trans (settle_idle hidle))
  · exact congrArg Host.Outcome.next ((congrArg settle (channelMaskApply_idle hwaits hpend)).trans (settle_idle (s := maskInForce m s) hidle))
  · obtain ⟨t, r, hexec, hstatus, hflag, hframe⟩ := execChannelMaskApply_dropped hidle hwaits hpend hkind hburst hclosed
    exact ⟨t, hexec, by rw [hframe], by rw [hframe], by rw [hframe], hstatus, hflag, by rw [hframe]⟩
  · have hnamed : cycleAhead s.cycle (namedCycle at_ x.toNat s) = true := (cycleAhead_iff _ _).2 hahead
    obtain ⟨l, a, hlink, hpdu, hexec⟩ := execNetCycleWrite_push hasks ((writeEntry_cycle hasks hx {}).trans (if_pos hnamed)) tid
    refine ⟨_, hexec, rfl, ?_, ?_, spoke_of_push hlink hpdu rfl, rfl⟩
    · exact dGet_dSet_self (ptbMod (fun p => { p with cyclePending := true }) s) 0x2000 (cycleSub at_).toNat (leBytes 4 x.toNat)
    · exact fun i j hkey => dGet_dSet_ne (ptbMod (fun p => { p with cyclePending := true }) s) (leBytes 4 x.toNat) hkey
  · have hnamed : ¬cycleAhead s.cycle (namedCycle at_ x.toNat s) = true := fun h => hbegun ((cycleAhead_iff _ _).1 h)
    obtain ⟨l, a, hlink, hpdu, hexec⟩ := execNetCycleWrite_push hasks ((writeEntry_cycle hasks hx {}).trans (if_neg hnamed)) tid
    exact ⟨_, hexec, spoke_of_push hlink hpdu rfl, rfl⟩
  · obtain ⟨b, hrefill, hlim, hduty, hdutyLim, hdwell, hshape⟩ := bucketRefill_on hon n
    exact ⟨_, congrArg Host.Outcome.next hrefill, rfl, hlim, fun k => ⟨hduty k, hdutyLim k⟩, hdwell, hshape⟩
  · exact congrArg Host.Outcome.next (bucketRefill_off hoff n)

end Sys2Proof.Proofs
end

section
/-! SUPPORT. The chip recurrence (R95), the length and the head of a codeword (R110 to R112), and where the interleaver puts each bit (R113). -/

namespace Sys2Proof.Machine

/-! ### Chips (R95) -/

theorem chips_length (n r : Nat) : (chips n r).length = n := by
  induction n generalizing r with
  | zero => rfl
  | succ n ih => simp [chips, ih]

theorem chipStep_lt {r : Nat} (h : r < 2 ^ 15) : chipStep r < 2 ^ 15 := by
  unfold chipStep
  omega

/-- A step moves each bit down by one. -/
theorem testBit_chipStep {r i : Nat} (h : r < 2 ^ 15) (hi : i < 14) : (chipStep r).testBit i = r.testBit (i + 1) := by
  rw [chipStep, Nat.add_comm, Nat.mul_comm, Nat.testBit_two_pow_mul_add _ (by omega), if_pos hi, Nat.testBit_succ]

/-- The bit that a step brings in is the XOR of the two lowest. -/
theorem testBit_chipStep_top {r : Nat} (h : r < 2 ^ 15) : (chipStep r).testBit 14 = xor (r.testBit 0) (r.testBit 1) := by
  rw [chipStep, Nat.add_comm, Nat.mul_comm, Nat.testBit_two_pow_mul_add _ (by omega), if_neg (lt_irrefl 14), Nat.sub_self]
  simp only [Nat.testBit_eq_decide_div_mod_eq, pow_zero, pow_one, Nat.div_one, Nat.mod_mod]
  rcases Nat.mod_two_eq_zero_or_one r with h0 | h0 <;> rcases Nat.mod_two_eq_zero_or_one (r / 2) with h1 | h1 <;> simp [h0, h1]

/-- The first fifteen chips are the seed's bits. -/
theorem getElem?_chips_seed {n r i : Nat} (h : r < 2 ^ 15) (hi : i < 15) (hn : i < n) : (chips n r)[i]? = some (r.testBit i) := by
  induction i generalizing n r with
  | zero =>
    obtain ⟨n, rfl⟩ := Nat.exists_eq_add_one.2 hn
    simp [chips, Nat.testBit_zero, beq_eq_decide]
  | succ i ih =>
    obtain ⟨n, rfl⟩ := Nat.exists_eq_add_one.2 (Nat.zero_lt_of_lt hn)
    rw [chips, List.getElem?_cons_succ, ih (chipStep_lt h) (by omega) (by omega), testBit_chipStep h (by omega)]

theorem chips_recurrence {n r i : Nat} (h : r < 2 ^ 15) (hn : i + 15 < n) :
    ∃ a b, (chips n r)[i]? = some a ∧ (chips n r)[i + 1]? = some b ∧ (chips n r)[i + 15]? = some (xor a b) := by
  obtain ⟨n, rfl⟩ := Nat.exists_eq_add_one.2 (Nat.zero_lt_of_lt hn)
  induction i generalizing n r with
  | zero =>
    refine ⟨_, _, getElem?_chips_seed h (by omega) (by omega), getElem?_chips_seed h (by omega) (by omega), ?_⟩
    rw [chips, List.getElem?_cons_succ, getElem?_chips_seed (chipStep_lt h) (by omega) (by omega), testBit_chipStep_top h]
  | succ i ih =>
    obtain ⟨n, rfl⟩ := Nat.exists_eq_add_one.2 (show 0 < n by omega)
    exact ih (chipStep_lt h) n (by omega)

/-! ### The codeword (R110 to R112) -/

theorem rowSum_length (z : Nat) (row : List (Option Nat)) {u : List Bool} (h : row.length * z ≤ u.length) : (rowSum z row u).length = z := by
  induction row generalizing u with
  | nil => exact List.length_replicate
  | cons x row ih =>
    have hblock : (row.length + 1) * z = row.length * z + z := Nat.succ_mul _ _
    rw [List.length_cons, hblock] at h
    have hrest : (rowSum z row (u.drop z)).length = z := ih (by rw [List.length_drop]; omega)
    cases x with
    | none => exact hrest
    | some k =>
      have hrot : (rotBits (k % z) (u.take z)).length = z := by
        simp only [rotBits, List.length_append, List.length_drop, List.length_take]
        omega
      rw [rowSum, xorBits, List.length_zipWith, hrest, hrot, min_self]

theorem parity_length {z : Nat} {u : List Bool} (hu : u.length = 8 * z) {rows : List (List (Option Nat))} (hrows : ∀ row ∈ rows, row.length = 8)
    {prev : List Bool} (hprev : prev.length = z) : (parity z u rows prev).length = rows.length * z := by
  induction rows generalizing prev with
  | nil => simp [parity]
  | cons row rows ih =>
    have hsum : (rowSum z row u).length = z := rowSum_length z row (by rw [hrows row List.mem_cons_self, hu])
    have hblock : (xorBits (rowSum z row u) prev).length = z := by
      rw [xorBits, List.length_zipWith, hsum, hprev, min_self]
    have hrest := ih (fun r hr => hrows r (List.mem_cons_of_mem row hr)) hblock
    rw [parity, List.length_append, hblock, hrest, List.length_cons, Nat.succ_mul, Nat.add_comm]

theorem shiftTable_rows : ∀ row ∈ shiftTable, row.length = 8 := by decide

theorem length_parityRows (rate : Nat) : (shiftTable.take (parityBlocks rate)).length = parityBlocks rate := by
  have hrows : parityBlocks rate ≤ shiftTable.length := by
    change parityBlocks rate ≤ 16
    unfold parityBlocks
    split
    · exact le_rfl
    · split <;> decide
  exact List.length_take_of_le hrows

theorem take_codeword {z : Nat} {u : List Bool} (hu : u.length = 8 * z) (rate : Nat) : (codeword z rate u).take (8 * z) = u := by
  rw [codeword, ← hu, List.take_left]

theorem codeword_length {z : Nat} {u : List Bool} (hu : u.length = 8 * z) (rate : Nat) :
    (codeword z rate u).length = (8 + parityBlocks rate) * z := by
  have hrows : ∀ row ∈ shiftTable.take (parityBlocks rate), row.length = 8 := fun row hrow => shiftTable_rows row (List.mem_of_mem_take hrow)
  rw [codeword, List.length_append, parity_length hu hrows List.length_replicate, length_parityRows, hu, Nat.add_mul]

/-! ### The interleaver (R113) -/

theorem getElem?_every16 {n j : Nat} (hj : j < n) (l : List Bool) : (every16 n l)[j]? = l[16 * j]? := by
  induction n generalizing l j with
  | zero => exact absurd hj (Nat.not_lt_zero j)
  | succ n ih =>
    cases l with
    | nil => simp [every16]
    | cons b l =>
      cases j with
      | zero => rfl
      | succ j =>
        rw [every16, List.getElem?_cons_succ, ih (by omega), List.getElem?_drop]
        congr 1
        omega

theorem every16_length {n : Nat} {l : List Bool} (h : 16 * n ≤ l.length + 15) : (every16 n l).length = n := by
  induction n generalizing l with
  | zero => rfl
  | succ n ih =>
    cases l with
    | nil => simp at h; omega
    | cons b l =>
      rw [every16, List.length_cons, ih]
      simp only [List.length_drop, List.length_cons] at h ⊢
      omega

/-- Blocks of one length one after another: where the block of an element stands. -/
theorem getElem?_flatMap_block {f : Nat → List Bool} {l : List Nat} {m k j : Nat} (hf : ∀ x ∈ l, (f x).length = m) (hk : k ∈ l) (hj : j < m) :
    (l.flatMap f)[l.idxOf k * m + j]? = (f k)[j]? := by
  induction l with
  | nil => cases hk
  | cons x l ih =>
    have hx : (f x).length = m := hf x List.mem_cons_self
    rw [List.flatMap_cons]
    by_cases h : x = k
    · subst h
      rw [List.idxOf_cons_self, Nat.zero_mul, Nat.zero_add, List.getElem?_append_left (by omega)]
    · have hmem : k ∈ l := (List.mem_cons.1 hk).resolve_left fun h' => h h'.symm
      have hplace : l.idxOf k * m + m + j - m = l.idxOf k * m + j := by omega
      rw [List.idxOf_cons_ne l h, Nat.succ_mul, List.getElem?_append_right (by omega), hx, hplace]
      exact ih (fun y hy => hf y (List.mem_cons_of_mem x hy)) hmem

theorem mem_columns_iff (k : Nat) : k ∈ columns ↔ k < 16 := by
  have hperm : columns.Perm (List.range 16) := by decide
  rw [hperm.mem_iff, List.mem_range]

section
variable {bits : List Bool} {m : Nat} (h : bits.length = 16 * m)
include h

/-- Each column of a string of `m` rows holds `m` bits. -/
theorem column_length : ∀ k ∈ columns, (every16 (bits.length / 16) (bits.drop k)).length = m := by
  intro k hk
  have hk16 := (mem_columns_iff k).1 hk
  have hrows : bits.length / 16 = m := by omega
  rw [hrows, every16_length]
  rw [List.length_drop]
  omega

theorem interleave_length : (interleave bits).length = bits.length := by
  rw [interleave, List.length_flatMap, List.sum_eq_card_nsmul _ m (by simpa using column_length h), List.length_map, h]
  rfl

/-- Bit `k` of row `j` becomes bit `j` of column `k`. -/
theorem getElem?_interleave {k j : Nat} (hk : k < 16) (hj : j < m) : (interleave bits)[columns.idxOf k * m + j]? = bits[16 * j + k]? := by
  have hrows : bits.length / 16 = m := by omega
  rw [interleave, getElem?_flatMap_block (column_length h) ((mem_columns_iff k).2 hk) hj,
    getElem?_every16 (by omega), List.getElem?_drop, Nat.add_comm]

end

end Sys2Proof.Machine
end

section
/-! SUPPORT. A waveform test asked for and completed (R116). -/

namespace Sys2Proof.Machine

/-! ### The request -/

/-- The test that the settings ask for. -/
def testAsked (s : State) : WaveTest :=
  { mode := s.dU 0x2200 0x10, z := s.dU 0x2200 0x11, rate := s.dU 0x2200 0x12, seed := s.dU 0x2200 0x13, input := s.dGet 0x2200 0x14 }

/-- The state once the test that the settings ask for has started: its output and its status are pending. -/
def testStarted (s : State) : State := ((waveMod (fun w => { w with test := some (testAsked s) }) s).resPend 0x2200 0x16).resPend 0x2200 0x17

/-- A test's status and output produced. -/
def testEnded (st : Status) (output : List Byte) (s : State) : State := (s.produceSt 0x2200 0x17 st).produce 0x2200 0x16 output

theorem testInputOk_iff (s : State) : testInputOk s = true ↔
    if s.dU 0x2200 0x10 = 0 then (s.dGet 0x2200 0x14).length = zOf (s.dU 0x2200 0x11)
    else if s.dU 0x2200 0x10 = 1 then (s.dGet 0x2200 0x14).length = 14 else True := by
  unfold testInputOk
  dsimp only
  split
  · exact beq_iff_eq
  · split
    · exact beq_iff_eq
    · simp

/-- The request number is none of a test's settings. -/
theorem dGet_testNumber {j : Nat} (hj : j < 0x15) (s : State) (n : Nat) : (s.dPut 0x2200 0x15 n).dGet 0x2200 j = s.dGet 0x2200 j := by
  refine dGet_dPut_ne s n ?_
  unfold key
  omega

theorem testInputOk_testNumber (s : State) (n : Nat) : testInputOk (s.dPut 0x2200 0x15 n) = testInputOk s := by
  have hnumber : ∀ j, j < 0x15 → (s.dPut 0x2200 0x15 n).dGet 0x2200 j = s.dGet 0x2200 j := fun _ hj => dGet_testNumber hj s n
  unfold testInputOk State.dU
  rw [hnumber 0x10 (by decide), hnumber 0x11 (by decide), hnumber 0x14 (by decide)]

theorem testAsked_testNumber (s : State) (n : Nat) : testAsked (s.dPut 0x2200 0x15 n) = testAsked s := by
  simp (disch := decide) only [testAsked, State.dU, dGet_testNumber]

theorem waveTestSet_busy {s : State} (h : s.wave.test.isSome = true) (n : Nat) : waveTestSet n s = (stBusy, s) := if_pos h

section
variable {s : State} (hidle : s.wave.test = none)
include hidle

theorem waveTestSet_fits (hfits : testInputOk s = true) (n : Nat) : waveTestSet n s = (stOk, testStarted (s.dPut 0x2200 0x15 n)) := by
  have hrun : ¬s.wave.test.isSome = true := by simp [hidle]
  have hok : ¬(!testInputOk (s.dPut 0x2200 0x15 n)) = true := by simp [testInputOk_testNumber, hfits]
  rw [waveTestSet, if_neg hrun]
  exact if_neg hok

theorem waveTestSet_unfit (hfits : ¬testInputOk s = true) (n : Nat) :
    waveTestSet n s = (stOk, testEnded stRange [] (s.dPut 0x2200 0x15 n)) := by
  have hrun : ¬s.wave.test.isSome = true := by simp [hidle]
  have hbad : (!testInputOk (s.dPut 0x2200 0x15 n)) = true := by simp [testInputOk_testNumber, hfits]
  rw [waveTestSet, if_neg hrun]
  exact if_pos hbad

end

theorem takes_testRequest (v : BitVec 32) : ∃ r, Takes 0x2200 0x15 r (leBytes 4 v.toNat) :=
  ⟨_, by decide, by decide, by decide, rfl, rfl, valueCheck_number rfl rfl _, rfl, fun _ => rfl⟩

/-- A new number does what `waveTestSet` says, and is stored where it is taken. -/
theorem execWaveformTestRequest_push {s t : State} {src : Src} {v : BitVec 32} {st : Status} (h : Asks s src)
    (hnew : leBytes 4 v.toNat ≠ s.dGet 0x2200 0x15) (hset : waveTestSet v.toNat s = (st, t)) (tid : Byte) :
    ∃ l a, linkNum src = some l ∧ a.pdu = writeResp tid 0x2200 0x15 st ∧
      exec (.waveformTestRequest src tid v) s = .next ((if st = stOk then t.dSet 0x2200 0x15 (leBytes 4 v.toNat) else t).push l a) := by
  obtain ⟨r, htakes⟩ := takes_testRequest v
  have hact : entryAct {} 0x2200 0x15 (leBytes 4 v.toNat) s = (st, t) := by
    rw [← hset]
    exact congrArg (fun n => waveTestSet n s) (leNat_word v)
  have hwrite : writeEntry src {} 0x2200 0x15 (leBytes 4 v.toNat) s = (st, if st = stOk then t.dSet 0x2200 0x15 (leBytes 4 v.toNat) else t) := by
    rw [htakes.write h, entryStore_act (fun _ => hnew) rfl hact]
    by_cases hst : st = stOk
    · rw [if_neg (not_not_intro hst), if_pos hst, hst]
      rfl
    · rw [if_pos hst, if_neg hst]
  obtain ⟨l, a, hlink, hpdu, hexec⟩ := hostWrite_answered h (i := 0x2200) (x := 0x15) (by decide) rfl (fun _ => rfl) hwrite tid
  exact ⟨l, a, hlink, hpdu, congrArg Host.Outcome.next hexec⟩

/-! ### A test that has ended -/

/-- What a completed test leaves in its output and its status. -/
structure TestShows (t : State) (st : Status) (output : List Byte) : Prop where
  output : t.dGet 0x2200 0x16 = output
  status : t.dGet 0x2200 0x17 = [st]
  complete : (t.resOf 0x2200 0x17).pending = false
  freshOutput : (t.resOf 0x2200 0x16).fresh = 0x7F
  freshStatus : (t.resOf 0x2200 0x17).fresh = 0x7F

/-- The order in which the two entries are produced does not matter. -/
theorem testShows_produce (s : State) (st : Status) (output : List Byte) :
    TestShows (testEnded st output s) st output ∧ TestShows ((s.produce 0x2200 0x16 output).produceSt 0x2200 0x17 st) st output := by
  have hkey : key 0x2200 0x16 ≠ key 0x2200 0x17 := by decide
  unfold testEnded State.produceSt
  constructor
  · refine ⟨dGet_produce_self .., ?_, ?_, ?_, ?_⟩
    · rw [dGet_produce_ne _ _ hkey.symm, dGet_produce_self]
    · rw [resOf_produce_ne _ _ hkey.symm, resOf_produce_self]
    · rw [resOf_produce_self]
    · rw [resOf_produce_ne _ _ hkey.symm, resOf_produce_self]
  · refine ⟨?_, dGet_produce_self .., ?_, ?_, ?_⟩
    · rw [dGet_produce_ne _ _ hkey, dGet_produce_self]
    · rw [resOf_produce_self]
    · rw [resOf_produce_ne _ _ hkey, resOf_produce_self]
    · rw [resOf_produce_self]

/-- An entry written beside the two. -/
theorem TestShows.dSet {t : State} {st : Status} {output : List Byte} (h : TestShows t st output) (v : List Byte) :
    TestShows (t.dSet 0x2200 0x15 v) st output := by
  obtain ⟨hout, hstatus, hcomplete, hfreshOut, hfreshStatus⟩ := h
  exact ⟨by rw [dGet_dSet_ne _ _ (by decide), hout], by rw [dGet_dSet_ne _ _ (by decide), hstatus], hcomplete, hfreshOut, hfreshStatus⟩

theorem waveTestDone_running {s : State} {x : WaveTest} (h : s.wave.test = some x) : waveTestDone s =
    ((waveMod (fun w => { w with test := none }) s).produce 0x2200 0x16 x.output).produceSt 0x2200 0x17 stOk := by
  rw [waveTestDone, h]

/-- The bits that a test shows, and in how many bytes. -/
def WaveTest.bits (x : WaveTest) : List Bool :=
  if x.mode = 0 then payloadCode x.z x.rate x.input else if x.mode = 1 then headerCode x.input else chips 1024 x.seed

def WaveTest.size (x : WaveTest) : Nat := if x.mode = 0 then x.bits.length / 8 else if x.mode = 1 then 48 else 128

theorem waveTest_output (x : WaveTest) : x.output = bytesOfBits x.size x.bits := by
  unfold WaveTest.output WaveTest.size WaveTest.bits
  by_cases h0 : x.mode = 0
  · simp only [if_pos h0]
  · by_cases h1 : x.mode = 1
    · simp only [if_neg h0, if_pos h1]
    · simp only [if_neg h0, if_neg h1]

end Sys2Proof.Machine

namespace Sys2Proof.Proofs
open Sys2Proof.Machine

/-- Settles O31: the recurrence by induction on the place of the chip, the codeword row by row of the shift table, the interleaver column by column;
a new test request is taken or refused as `waveTestSet` says, and its number stored behind it. -/
theorem codeAndTests : Obligations.CodeAndTests := by
  refine ⟨fun n r i hr hi => ⟨chips_length n r, fun h15 => getElem?_chips_seed hr h15 hi, fun a b hn ha hb => ?_⟩,
    fun z rate u hu => ⟨take_codeword hu rate, codeword_length hu rate⟩, fun c m k j hc hk hj => ⟨interleave_length hc, ?_⟩,
    fun s src tid v => ⟨fun hasks hnew => ⟨fun hidle hfits => ?_, fun hidle hfits => ?_, fun hbusy => ?_⟩, fun x hx => ?_⟩⟩
  · obtain ⟨a', b', ha', hb', hxor⟩ := chips_recurrence hr hn
    obtain rfl := Option.some.inj (ha'.symm.trans ha)
    obtain rfl := Option.some.inj (hb'.symm.trans hb)
    exact hxor
  · rw [List.getD_eq_getElem?_getD, List.getD_eq_getElem?_getD, getElem?_interleave hc hk hj]
  · have hset := waveTestSet_fits hidle ((testInputOk_iff s).2 hfits) v.toNat
    obtain ⟨l, a, hlink, hpdu, hexec⟩ := execWaveformTestRequest_push hasks hnew hset tid
    refine ⟨_, hexec, dGet_dSet_self .., ?_, ?_, hpdu ▸ spoke_push hlink rfl, rfl, ?_⟩
    · exact congrArg ResultRec.pending ((resOf_resPend_ne _ (by decide)).trans (resOf_resPend_self _ 0x2200 0x16))
    · exact congrArg ResultRec.pending (resOf_resPend_self _ 0x2200 0x17)
    · exact congrArg (fun x => { s.wave with test := some x }) (testAsked_testNumber s v.toNat)
  · have hset := waveTestSet_unfit hidle (fun h => hfits ((testInputOk_iff s).1 h)) v.toNat
    obtain ⟨l, a, hlink, hpdu, hexec⟩ := execWaveformTestRequest_push hasks hnew hset tid
    obtain ⟨hout, hstatus, hcomplete, hfreshOut, hfreshStatus⟩ :=
      (testShows_produce (s.dPut 0x2200 0x15 v.toNat) stRange []).1.dSet (leBytes 4 v.toNat)
    exact ⟨_, hexec, dGet_dSet_self .., rfl, hout, hstatus, hcomplete, hfreshOut, hfreshStatus, hpdu ▸ spoke_push hlink rfl, rfl⟩
  · obtain ⟨l, a, hlink, hpdu, hexec⟩ := execWaveformTestRequest_push hasks hnew (waveTestSet_busy hbusy v.toNat) tid
    exact ⟨_, hexec, hpdu ▸ spoke_push hlink rfl, rfl⟩
  · obtain ⟨hout, hstatus, hcomplete, hfreshOut, hfreshStatus⟩ :=
      (testShows_produce (waveMod (fun w => { w with test := none }) s) stOk x.output).2
    exact ⟨_, congrArg Host.Outcome.next (waveTestDone_running hx), rfl, hout.trans (waveTest_output x), hstatus,
      hcomplete, hfreshOut, hfreshStatus, rfl⟩

end Sys2Proof.Proofs
end

section
/-! SUPPORT. Counting registers and flags read back, and what the receiver's counters and entries leave alone. -/

namespace Sys2Proof.Machine

/-! ### Registers read back -/

theorem regN_setRegN_self {v : Nat} (h : v < 2 ^ 32) (s : State) (a : Nat) : (s.setRegN a v).regN a = v := by
  rw [State.regN, reg_setRegN_self, BitVec.toNat_ofNat, Nat.mod_eq_of_lt h]

theorem regN_setRegN_ne (s : State) {a b : Nat} (v : Nat) (h : b ≠ a) : (s.setRegN a v).regN b = s.regN b :=
  congrArg BitVec.toNat (reg_setRegN_ne s v h)

theorem satAdd_eq_min (top a b : Nat) : satAdd top a b = min (a + b) top := by
  unfold satAdd
  split <;> omega

/-- A counting register counts up by one and stops at its top (R424). -/
theorem regN_bump_self (s : State) (a : Nat) : (s.bump a).regN a = min (s.regN a + 1) 0xFFFFFFFF := by
  rw [State.bump, sat32, satAdd_eq_min]
  exact regN_setRegN_self (by omega) s a

/-- A one-bit field that has been set shows. -/
theorem testBit_putField_one (v n : Nat) : (putField v n n 1).testBit n = true := by
  have hone : n + 1 - n = 1 := by omega
  have hsplit := Nat.div_add_mod v (2 ^ n)
  have hlow : v % 2 ^ n < 2 ^ n := Nat.mod_lt _ (Nat.two_pow_pos n)
  have hput : putField v n n 1 = 2 ^ n * (v / 2 ^ n / 2 * 2 + 1) + v % 2 ^ n := by
    have hbit : 2 ^ n * (v / 2 ^ n) = 2 ^ n * (v / 2 ^ n / 2 * 2) + v / 2 ^ n % 2 * 2 ^ n := by
      rw [Nat.mul_comm (v / 2 ^ n % 2), ← Nat.mul_add, Nat.div_add_mod']
    rw [putField, field, hone, Nat.pow_one, Nat.mul_add]
    omega
  rw [hput, Nat.testBit_two_pow_mul_add _ hlow, if_neg (lt_irrefl n), Nat.sub_self, Nat.testBit_zero]
  simp

theorem regB_flag_self (s : State) (a : Nat) {n : Nat} (hn : n < 32) : (s.flag a n).regB a n = true := by
  rw [State.flag, State.setRegF, regB_setRegN_self, testBit_putField_one]
  simpa using hn

theorem regB_setRegN_ne (s : State) {a b : Nat} (v i : Nat) (h : b ≠ a) : (s.setRegN a v).regB b i = s.regB b i :=
  regB_congr (reg_setRegN_ne s v h) i

/-- An entry changed changes no register. -/
theorem regN_dPut (s : State) (x y v a : Nat) : (s.dPut x y v).regN a = s.regN a := rfl

theorem regB_dPut (s : State) (x y v a i : Nat) : (s.dPut x y v).regB a i = s.regB a i := rfl

/-! ### Counters and measurements -/

/-- Of the machine only registers and entries other than the role's have changed. -/
structure OnlyShown (s t : State) : Prop where
  role : t.role = s.role
  frame : { t with regs := s.regs, dict := s.dict } = s

theorem OnlyShown.trans {s t u : State} (h : OnlyShown s t) (h' : OnlyShown t u) : OnlyShown s u := by
  refine ⟨h'.role.trans h.role, ?_⟩
  have htwice := congrArg (fun w : State => { w with regs := s.regs, dict := s.dict }) h'.frame
  exact htwice.trans h.frame

section
variable {s t : State} (h : OnlyShown s t)
include h

theorem OnlyShown.rx : t.rx = s.rx := (congrArg State.rx h.frame :)
theorem OnlyShown.pcc : t.pcc = s.pcc := (congrArg State.pcc h.frame :)
theorem OnlyShown.wide : t.wide = s.wide := by
  unfold State.wide State.bigRole
  rw [h.role]

end

theorem onlyShown_setRegN (s : State) (a v : Nat) : OnlyShown s (s.setRegN a v) := ⟨rfl, rfl⟩

theorem onlyShown_setRegF (s : State) (a hi lo v : Nat) : OnlyShown s (s.setRegF a hi lo v) := ⟨rfl, rfl⟩

theorem onlyShown_flag (s : State) (a n : Nat) : OnlyShown s (s.flag a n) := ⟨rfl, rfl⟩

theorem onlyShown_bump (s : State) (a : Nat) : OnlyShown s (s.bump a) := ⟨rfl, rfl⟩

theorem onlyShown_dSet {y : Nat} (hy : y < 256) (v : List Byte) (s : State) : OnlyShown s (s.dSet 0x2200 y v) := by
  have hkey : key 0x1200 1 ≠ key 0x2200 y := fun h => absurd ((key_inj (by decide) hy).1 h).1 (by decide)
  exact ⟨congrArg leNat (dGet_dSet_ne s v hkey), rfl⟩

theorem onlyShown_dPut {y : Nat} (hy : y < 256) (v : Nat) (s : State) : OnlyShown s (s.dPut 0x2200 y v) := onlyShown_dSet hy _ s

theorem onlyShown_countBoth (a : Nat) {y : Nat} (hy : y < 256) (s : State) : OnlyShown s (countBoth a y s) :=
  (onlyShown_bump s a).trans (onlyShown_dPut hy _ _)

theorem regN_countBoth (s : State) (a y : Nat) : (countBoth a y s).regN a = min (s.regN a + 1) 0xFFFFFFFF := by
  rw [countBoth, State.dBump, regN_dPut, regN_bump_self]

theorem onlyShown_laneFull (s : State) : OnlyShown s (laneFull s) := (onlyShown_flag s _ _).trans (onlyShown_countBoth _ (by decide) _)

/-- A detection dropped for want of a lane shows (R161). -/
theorem regB_laneFull (s : State) : (laneFull s).regB 0x40110020 2 = true := by
  rw [laneFull, countBoth, State.dBump, regB_dPut, State.bump, regB_setRegN_ne _ _ _ (by decide), regB_flag_self s _ (by decide)]

theorem onlyShown_noiseReport (ch : Nat) (v : Int) (s : State) : OnlyShown s (noiseReport ch v s) :=
  (onlyShown_setRegF s _ _ _ _).trans (onlyShown_dSet (by decide) _ _)

end Sys2Proof.Machine
end

section
/-! SUPPORT. The receiver while it holds no frame or one: frames changed, lanes given and freed, frames that end and frames that go. -/

namespace Sys2Proof.Machine

/-! ### What else changes with the receiver -/

/-- Of the machine only the receiver itself has changed. -/
def OnlyRx (s t : State) : Prop := { t with rx := s.rx } = s

theorem onlyRx_rxMod (f : Rx → Rx) (s : State) : OnlyRx s (rxMod f s) := rfl

theorem onlyRx_frameGone (id : Nat) (s : State) : OnlyRx s (frameGone id s) := rfl

section
variable {s t u : State}

/-- Counters and entries shown before or after the receiver changes. -/
theorem OnlyShown.onlyReceiver (h : OnlyShown s t) (h' : OnlyRx t u) : OnlyReceiver s u := by
  have hlast := congrArg (fun w : State => { w with rx := s.rx, regs := s.regs, dict := s.dict }) h'
  have hfirst := congrArg (fun w : State => { w with rx := s.rx }) h.frame
  exact hlast.trans hfirst

theorem OnlyRx.onlyReceiver (h : OnlyRx s t) (h' : OnlyShown t u) : OnlyReceiver s u := by
  have hlast := congrArg (fun w : State => { w with rx := s.rx, regs := s.regs, dict := s.dict }) h'.frame
  have hfirst := congrArg (fun w : State => { w with regs := s.regs, dict := s.dict }) h
  exact hlast.trans hfirst

theorem OnlyRx.trans (h : OnlyRx s t) (h' : OnlyRx t u) : OnlyRx s u := by
  have hlast := congrArg (fun w : State => { w with rx := s.rx }) h'
  exact hlast.trans h

theorem OnlyRegs.withRx (h : OnlyRegs s t) (h' : OnlyRx t u) : { u with rx := s.rx, regs := s.regs } = s := by
  have hlast := congrArg (fun w : State => { w with rx := s.rx, regs := s.regs }) h'
  have hfirst := congrArg (fun w : State => { w with rx := s.rx }) h
  exact hlast.trans hfirst

end

theorem onlyRegs_flag (s : State) (a n : Nat) : OnlyRegs s (s.flag a n) := rfl

theorem onlyRegs_bump (s : State) (a : Nat) : OnlyRegs s (s.bump a) := rfl

/-! ### Lanes -/

/-- The lanes once those of frame `id` are free. -/
def lanesWithout (id : Nat) (v : Vector (Option Nat) 32) : Vector (Option Nat) 32 := v.map fun x => if x = some id then none else x

theorem vget_lanesWithout (id : Nat) (v : Vector (Option Nat) 32) (m : Fin 32) :
    vget (lanesWithout id v) m = if vget v m = some id then none else vget v m := by
  change (v.map _)[m.1] = _
  rw [Vector.getElem_map]
  rfl

theorem OneFrame.freed {s t : State} {l : Fin 32} {f : RxFrame} (h : OneFrame s l f) (ht : t.rx.lanes = lanesWithout f.id s.rx.lanes) :
    Freed s t l := by
  obtain ⟨-, hlane, hothers⟩ := h
  refine ⟨?_, fun m hm => ?_⟩
  · rw [ht, vget_lanesWithout, if_pos hlane]
  · rw [ht, vget_lanesWithout, if_neg (hothers m hm)]

/-- Whether a lane is free depends on the receiver, on power and on the role alone. -/
theorem freeLane_congr {s t : State} (hrx : t.rx = s.rx) (hpcc : t.pcc = s.pcc) (hwide : t.wide = s.wide) : t.freeLane = s.freeLane := by
  unfold State.freeLane State.laneServes State.isOn
  rw [hrx, hpcc, hwide]

theorem OnlyShown.freeLane {s t : State} (h : OnlyShown s t) : t.freeLane = s.freeLane := freeLane_congr h.rx h.pcc h.wide

theorem onLane_ne_shadow {st : RxStage} (h : st.onLane = true) : st ≠ .shadow := by
  rintro rfl
  cases h

/-! ### Frames -/

theorem frame_only {s : State} {f : RxFrame} (h : s.rx.frames = [f]) : s.frame f.id = some f := by
  simp [State.frame, h]

theorem OneFrame.laneFrame {s : State} {l : Fin 32} {f : RxFrame} (h : OneFrame s l f) : s.laneFrame l = some f := by
  obtain ⟨hframes, hlane, -⟩ := h
  unfold State.laneFrame
  rw [hlane]
  exact frame_only hframes

theorem frameMod_only {s : State} {f : RxFrame} (h : s.rx.frames = [f]) (g : RxFrame → RxFrame) :
    frameMod f.id g s = rxMod (fun r => { r with frames := [g f] }) s := by
  have hmap : s.rx.frames.map (fun x => if x.id = f.id then g x else x) = [g f] := by simp [h]
  exact congrArg (fun fs => rxMod (fun r => { r with frames := fs }) s) hmap

theorem frameGone_only {s : State} {f : RxFrame} (h : s.rx.frames = [f]) : (frameGone f.id s).rx.frames = [] := by
  change s.rx.frames.filter (fun g => g.id != f.id) = []
  simp [h]

/-- With no shadow candidate none is lost. -/
theorem shadowsLost_none {s : State} (h : ∀ f ∈ s.rx.frames, f.stage ≠ .shadow) (id : Nat) : shadowsLost id s = s := by
  have hnone : s.rx.frames.filter (fun f => f.stage == .shadow && f.under == some id) = [] := by
    rw [List.filter_eq_nil_iff]
    intro f hf
    simp [h f hf]
  rw [shadowsLost, hnone, List.foldl_nil]

/-- A frame without a number that leaves takes no candidate with it. -/
theorem shadowsLost_frameGone {s : State} {f : RxFrame} (h : s.rx.frames = [f]) (id : Nat) :
    shadowsLost id (frameGone f.id s) = frameGone f.id s := by
  refine shadowsLost_none ?_ id
  rw [frameGone_only h]
  simp

theorem listenEnd_wide {s : State} (h : s.wide = true) : listenEnd s = s := if_pos h

/-- The receiver once its one frame `f` has ended with an outcome. -/
def frameDone (f : RxFrame) (outcome : Nat) (r : Rx) : Rx :=
  { r with frames := [{ f with stage := .done, outcome := outcome }], lanes := lanesWithout f.id r.lanes, ready := r.ready ++ [f.id] }

theorem frameEnd_numbered {s : State} {f : RxFrame} (h : s.rx.frames = [f]) (hnumbered : f.numbered = true) (hstage : f.stage ≠ .shadow) (outcome : Nat) :
    frameEnd f.id outcome s = rxMod (frameDone f outcome) s := by
  have hframes : (laneFree f.id s).rx.frames = [f] := h
  have hshadows : shadowsLost f.id (laneFree f.id s) = laneFree f.id s := by
    refine shadowsLost_none ?_ f.id
    rw [hframes]
    simpa using hstage
  have hended := frameMod_only hframes fun f => { f with stage := .done, outcome := outcome }
  unfold frameEnd
  rw [frame_only h]
  dsimp only
  rw [if_neg (by simp [hnumbered]), hshadows, ite_self, hended]
  rfl

/-- A numbered frame on its lane that ends is complete, its lane is free, and nothing but the receiver has changed. -/
theorem OneFrame.frameEnd {s : State} {l : Fin 32} {f : RxFrame} (h : OneFrame s l f) (hnumbered : f.numbered = true) (hstage : f.stage ≠ .shadow)
    (outcome : Nat) : Completed s (frameEnd f.id outcome s) f outcome ∧ Freed s (frameEnd f.id outcome s) l ∧ OnlyReceiver s (frameEnd f.id outcome s) := by
  rw [frameEnd_numbered h.1 hnumbered hstage]
  exact ⟨⟨rfl, _, rfl, rfl, rfl, rfl⟩, h.freed rfl, rfl⟩

/-- The receiver once it has found its one frame, the detection `d`, and given it lane `l`. -/
def frameFound (d : RxFrame) (l : Fin 32) (r : Rx) : Rx :=
  { r with
    frames := [{ d with id := r.nextId, stage := .sync, lane := l, replay := false }]
    nextId := r.nextId + 1
    lanes := vset r.lanes l (some r.nextId) }

theorem laneGive_frameAdd {s : State} (h : s.rx.frames = []) (d : RxFrame) (l : Fin 32) :
    laneGive l s.rx.nextId false (frameAdd d s) = rxMod (frameFound d l) s := by
  have hframes : (frameAdd d s).rx.frames = [{ d with id := s.rx.nextId }] := by
    change s.rx.frames ++ [{ d with id := s.rx.nextId }] = _
    rw [h, List.nil_append]
  have hgiven := frameMod_only hframes fun f => { f with stage := .sync, lane := l, replay := false }
  unfold laneGive
  rw [hgiven]
  rfl

theorem laneGive_only {s : State} {f : RxFrame} (h : s.rx.frames = [f]) (l : Fin 32) (replay : Bool) :
    laneGive l f.id replay s = rxMod (fun r => { r with
      frames := [{ f with stage := .sync, lane := l, replay := replay }], lanes := vset r.lanes l (some f.id) }) s := by
  unfold laneGive
  rw [frameMod_only h]
  rfl

theorem firstOf_only {s : State} {f : RxFrame} (h : s.rx.frames = [f]) {st : RxStage} (hstage : f.stage = st) : s.firstOf st = some f := by
  simp [State.firstOf, h, hstage]

end Sys2Proof.Machine
end

section
/-! SUPPORT. Capture and acquisition: the wideband gain, a gap of the record, and where a detection goes (R150, R153, R156 to R161, R182). -/

namespace Sys2Proof.Machine

/-! ### Gain (R150) -/

/-- The gain step that a slot leads to. -/
def gainNext (loud quiet : Bool) (g : Nat) : Nat := if loud then min 5 (g + 1) else if quiet then g - 1 else g

theorem gainNext_le {loud quiet : Bool} {g : Nat} (h : g ≤ 5) : gainNext loud quiet g ≤ 5 := by
  unfold gainNext
  split
  · exact min_le_left _ _
  · split <;> omega

/-- Its register and its entry. -/
def gainShown (g : Nat) (s : State) : State := (s.setRegN 0x4011000C g).dPut 0x2200 0x3F g

theorem onlyShown_gainShown (g : Nat) (s : State) : OnlyShown s (gainShown g s) := (onlyShown_setRegN s _ _).trans (onlyShown_dPut (by decide) _ _)

theorem regN_gainShown {g : Nat} (h : g ≤ 5) (s : State) : (gainShown g s).regN 0x4011000C = g := by
  rw [gainShown, regN_dPut, regN_setRegN_self (by omega)]

theorem regN_gainShown_ne {a : Nat} (h : a ≠ 0x4011000C) (g : Nat) (s : State) : (gainShown g s).regN a = s.regN a := by
  rw [gainShown, regN_dPut, regN_setRegN_ne s g h]

theorem dU_gainShown {g : Nat} (h : g ≤ 5) (s : State) : (gainShown g s).dU 0x2200 0x3F = g :=
  (dU_dPut_self _ 0x2200 0x3F g).trans (Nat.mod_eq_of_lt (show g < 256 by omega))

/-- Samples that stood at full scale: the flag, the count and its entry. -/
def clippedShown (clipped : Nat) (s : State) : State :=
  let t := (s.flag 0x40110020 0).setRegN 0x40110070 (satAdd 0xFFFFFFFF (s.regN 0x40110070) clipped)
  t.dPut 0x2200 0x39 (satAdd 0xFFFFFFFF (t.dU 0x2200 0x39) clipped)

theorem onlyShown_clippedShown (clipped : Nat) (s : State) : OnlyShown s (clippedShown clipped s) :=
  ((onlyShown_flag s _ _).trans (onlyShown_setRegN _ _ _)).trans (onlyShown_dPut (by decide) _ _)

theorem regB_clippedShown (clipped : Nat) (s : State) : (clippedShown clipped s).regB 0x40110020 0 = true := by
  rw [clippedShown, regB_dPut, regB_setRegN_ne _ _ _ (by decide), regB_flag_self s _ (by decide)]

theorem regN_clippedShown (clipped : Nat) (s : State) :
    (clippedShown clipped s).regN 0x40110070 = min (s.regN 0x40110070 + clipped) 0xFFFFFFFF := by
  have hcount : satAdd 0xFFFFFFFF (s.regN 0x40110070) clipped < 2 ^ 32 := by
    rw [satAdd_eq_min]
    omega
  rw [clippedShown, regN_dPut, regN_setRegN_self hcount, satAdd_eq_min]

theorem agcStep_off {s : State} (h : s.captureOn = false) (loud quiet : Bool) (clipped : Nat) (hit : List (Fin 32)) :
    agcStep loud quiet clipped hit s = s := if_pos (by simp [h])

section
variable {s : State} (h : s.captureOn = true) (loud quiet : Bool)
include h

theorem agcStep_unclipped (hit : List (Fin 32)) : agcStep loud quiet 0 hit s = gainShown (gainNext loud quiet (s.regN 0x4011000C)) s :=
  (if_neg (by simp [h])).trans (if_pos rfl)

theorem agcStep_clipped {clipped : Nat} (hclipped : 0 < clipped) :
    agcStep loud quiet clipped [] s = clippedShown clipped (gainShown (gainNext loud quiet (s.regN 0x4011000C)) s) := by
  unfold agcStep
  rw [if_neg (by simp [h])]
  dsimp only
  rw [if_neg hclipped.ne']
  rfl

end

/-! ### A gap of the record (R153) -/

/-- The gap marked. -/
def gapMarked (a b : Nat) (s : State) : State := rxMod (fun r => { r with gaps := r.gaps ++ [(a, b)] }) (s.flag 0x40110020 5)

theorem onlyRx_gapMarked (a b : Nat) (s : State) : OnlyRx (s.flag 0x40110020 5) (gapMarked a b s) := onlyRx_rxMod _ _

theorem recordGap_on {s : State} (hcapture : s.captureOn = true) (hrecord : s.recordOn = true) (a b : Nat) : recordGap a b s =
    (s.rx.frames.filter (fun f => f.stage.onLane && f.replay && spansMeet f.t0 f.last a b)).foldl (fun s f => frameEnd f.id 5 s) (gapMarked a b s) :=
  if_neg (by simp [hcapture, hrecord])

theorem recordGap_empty {s : State} (hcapture : s.captureOn = true) (hrecord : s.recordOn = true) (h : s.rx.frames = []) (a b : Nat) :
    recordGap a b s = gapMarked a b s := by
  rw [recordGap_on hcapture hrecord, h, List.filter_nil, List.foldl_nil]

theorem recordGap_replay {s : State} {f : RxFrame} (hcapture : s.captureOn = true) (hrecord : s.recordOn = true) (h : s.rx.frames = [f])
    (hlane : f.stage.onLane = true) (hreplay : f.replay = true) {a b : Nat} (hstart : f.t0 ≤ b) (hend : a ≤ f.last) :
    recordGap a b s = frameEnd f.id 5 (gapMarked a b s) := by
  have hhit : s.rx.frames.filter (fun f => f.stage.onLane && f.replay && spansMeet f.t0 f.last a b) = [f] := by
    simp [h, hlane, hreplay, spansMeet, hstart, hend]
  rw [recordGap_on hcapture hrecord, hhit, List.foldl_cons, List.foldl_nil]

/-! ### Detections (R156 to R161) -/

/-- What a search of the live stream reports. -/
def liveDetection (ch : Nat) (m : Fin 6) (t0 : Nat) (freq power snr noise : Int) : RxFrame :=
  { id := 0, chan := ch, m := m.1, t0 := t0, freq := freq, power := power, snr := snr, noise := noise, stage := .sync }

theorem preambleDetection_closed {s : State} {ch : Nat} (h : s.channelOpen ch = false) (m : Fin 6) (t0 : Nat) (freq power snr noise : Int) (gain : Fin 6)
    (under : Option Nat) : preambleDetection ch m t0 freq power snr noise gain under s = s := if_pos (by simp [h])

theorem preambleDetection_live {s : State} {ch : Nat} {freq : Int} {m : Fin 6} (hopen : s.channelOpen ch = true) (hfreq : freqOk ch freq s = true)
    (hlive : liveSearch ch m.1 s = true) (t0 : Nat) (power snr noise : Int) (gain : Fin 6) :
    preambleDetection ch m t0 freq power snr noise gain none s =
      if s.wide then detectWide (liveDetection ch m t0 freq power snr noise) s else detectNarrow (liveDetection ch m t0 freq power snr noise) gain s :=
  (if_neg (by simp [hopen, hfreq])).trans (if_neg (by simp [hlive]))

/-- A wideband detection counted, and its channel's noise floor shown. -/
def detectionShown (d : RxFrame) (s : State) : State := noiseReport d.chan d.noise (countBoth 0x40110030 0x30 s)

theorem onlyShown_detectionShown (d : RxFrame) (s : State) : OnlyShown s (detectionShown d s) :=
  (onlyShown_countBoth _ (by decide) s).trans (onlyShown_noiseReport _ _ _)

/-- The threshold that a shadow candidate must keep below is none of the entries shown. -/
theorem dU_detectionShown (d : RxFrame) (s : State) : (detectionShown d s).dU 0x2200 0x22 = s.dU 0x2200 0x22 := by
  have hnoise : (detectionShown d s).dGet 0x2200 0x22 = (countBoth 0x40110030 0x30 s).dGet 0x2200 0x22 := dGet_dSet_ne _ _ (by decide)
  have hcount : (countBoth 0x40110030 0x30 s).dGet 0x2200 0x22 = s.dGet 0x2200 0x22 := dGet_dPut_ne _ _ (by decide)
  exact congrArg leNat (hnoise.trans hcount)

theorem place_free {s : State} {l : Fin 32} {d : RxFrame} (h : s.freeLane = some l) (hreplay : d.replay = false) :
    place d s = laneGive l s.rx.nextId false (frameAdd d s) := by
  unfold place
  rw [h]
  dsimp only
  rw [hreplay]
  rfl

section
variable {d : RxFrame} {s : State} (hnew : duplicate d (detectionShown d s) = false) (hstack : (stackOf d (detectionShown d s)).length < 4)
include hnew hstack

theorem detectWide_placed (hshadow : shadowOf d (detectionShown d s) = none) : detectWide d s = place d (detectionShown d s) := by
  unfold detectionShown at *
  unfold detectWide
  dsimp only
  rw [hnew, if_neg (by decide), if_neg (Nat.not_le.2 hstack), hshadow]

theorem detectWide_candidate {f : RxFrame} (hshadow : shadowOf d (detectionShown d s) = some f) :
    detectWide d s = frameAdd { d with stage := .shadow, under := some f.id } (detectionShown d s) := by
  unfold detectionShown at *
  unfold detectWide
  dsimp only
  rw [hnew, if_neg (by decide), if_neg (Nat.not_le.2 hstack), hshadow]

end

/-- Where the receiver holds no frame, a wideband detection takes the free lane. -/
theorem detectWide_alone {s : State} {l : Fin 32} {d : RxFrame} (hframes : s.rx.frames = []) (hfree : s.freeLane = some l) (hreplay : d.replay = false) :
    detectWide d s = rxMod (frameFound d l) (detectionShown d s) := by
  have hshown := onlyShown_detectionShown d s
  have hnone : (detectionShown d s).rx.frames = [] := by rw [hshown.rx, hframes]
  rw [detectWide_placed, place_free (hshown.freeLane.trans hfree) hreplay, laneGive_frameAdd hnone]
  · simp [duplicate, hnone]
  · simp [stackOf, hnone]
  · simp [shadowOf, hnone]

/-- A weaker detection on the channel and spreading factor of the one frame, more than one chip and at most four from it, is its shadow candidate. -/
theorem detectWide_shadow {s : State} {f d : RxFrame} (hframes : s.rx.frames = [f]) (hlane : f.stage.onLane = true) (hchan : f.chan = d.chan)
    (hm : f.m = d.m) (hfar : 8 < ((f.t0 : Int) - d.t0).natAbs) (hnear : ((f.t0 : Int) - d.t0).natAbs ≤ 32)
    (hweak : d.power + 4 * (s.dU 0x2200 0x22 : Int) ≤ f.power) :
    detectWide d s = frameAdd { d with stage := .shadow, under := some f.id } (detectionShown d s) := by
  have hshown := onlyShown_detectionShown d s
  have hone : (detectionShown d s).rx.frames = [f] := by rw [hshown.rx, hframes]
  have hapart : ¬((f.t0 : Int) - d.t0).natAbs ≤ 8 := by omega
  refine detectWide_candidate ?_ ?_ ?_
  · simp [duplicate, hone, hapart]
  · refine (List.length_filter_le _ _).trans_lt ?_
    rw [hone, List.length_singleton]
    decide
  · simp [shadowOf, hone, hlane, hchan, hm, hnear, hweak, dU_detectionShown]

/-- A narrowband detection counted, and its gain step shown. -/
def narrowShown (gain : Fin 6) (s : State) : State := gainShown gain.1 (countBoth 0x40110030 0x30 s)

theorem onlyShown_narrowShown (gain : Fin 6) (s : State) : OnlyShown s (narrowShown gain s) :=
  (onlyShown_countBoth _ (by decide) s).trans (onlyShown_gainShown _ _)

/-- Where the receiver holds no frame, a narrowband detection takes lane 0, and the listen window has its frame. -/
theorem detectNarrow_alone {s : State} (hframes : s.rx.frames = []) (h : vget s.rx.lanes 0 = none) (d : RxFrame) (gain : Fin 6) :
    detectNarrow d gain s = rfMod (fun r => { r with frame := true }) (rxMod (frameFound d 0) (narrowShown gain s)) := by
  have hnone : (narrowShown gain s).rx.frames = [] := by rw [(onlyShown_narrowShown gain s).rx, hframes]
  have hfree : ¬(vget (countBoth 0x40110030 0x30 s).rx.lanes 0).isSome = true := by
    rw [(onlyShown_countBoth 0x40110030 (by decide) s).rx, h]
    decide
  rw [← laneGive_frameAdd hnone]
  exact if_neg hfree

end Sys2Proof.Machine
end

section
/-! SUPPORT. The work of a lane on its one frame: waiting for a lane, sync, header, payload and replay (R98, R161 to R167). -/

namespace Sys2Proof.Machine

/-! ### Waiting for a lane (R161, R162) -/

section
variable {s : State} {f : RxFrame} (h : s.rx.frames = [f]) (hstage : f.stage = .queued)
include h hstage

theorem allocTimeout_spill (hrecord : s.recordOn = true) (hmode : s.dU 0x2200 0x26 = 1) :
    allocTimeout s = rxMod (fun r => { r with frames := [{ f with stage := .spilled }] }) s := by
  have hspilled : (s.rx.frames.filter (fun g => g.stage == .spilled)).length = 0 := by simp [h, hstage]
  have hroom : (s.recordOn && s.dU 0x2200 0x26 == 1 && decide ((s.rx.frames.filter (fun g => g.stage == .spilled)).length < 64)) = true := by
    rw [hrecord, hmode, hspilled]
    rfl
  unfold allocTimeout
  rw [firstOf_only h hstage]
  exact (if_pos hroom).trans (frameMod_only h _)

theorem allocTimeout_drop (hrecord : s.recordOn = false) : allocTimeout s = laneFull (frameGone f.id s) := by
  unfold allocTimeout
  rw [firstOf_only h hstage]
  exact if_neg (by simp [hrecord])

/-- Nothing is removed from the spill list while it is empty and the record has no gap. -/
theorem spillPrune_still (hgaps : s.rx.gaps = []) (now : Nat) : spillPrune now s = s := by
  have hnone : s.rx.frames.filter (fun f => f.stage == .spilled && !s.recHolds f.t0 now) = [] := by simp [h, hstage]
  have hleft : s.rx.gaps.filter (fun g => s.recHolds g.2 now) = s.rx.gaps := by simp [hgaps]
  unfold spillPrune
  rw [hnone]
  exact congrArg (fun g => rxMod (fun r => { r with gaps := g }) s) hleft

theorem laneAssign_queued {l : Fin 32} (hfree : s.freeLane = some l) (hgaps : s.rx.gaps = []) (now : Nat) : laneAssign now s =
    rxMod (fun r => { r with frames := [{ f with stage := .sync, lane := l, replay := false }], lanes := vset r.lanes l (some f.id) }) s := by
  unfold laneAssign
  dsimp only
  rw [spillPrune_still h hstage hgaps, hfree, firstOf_only h hstage]
  exact laneGive_only h l false

end

/-! ### Sync and header (R163, R164) -/

section
variable {s : State} {l : Fin 32} {f : RxFrame} (h : OneFrame s l f)
include h

theorem syncCheck_pass (hstage : f.stage = .sync) : syncCheck l true s = rxMod (fun r => { r with frames := [{ f with stage := .header }] }) s := by
  unfold syncCheck
  rw [h.laneFrame]
  dsimp only
  rw [if_neg (not_not_intro hstage), if_pos rfl]
  exact frameMod_only h.1 _

/-- A false detection in wideband mode is counted, and its frame goes. -/
theorem syncCheck_fail (hstage : f.stage = .sync) (hnumbered : f.numbered = false) (hwide : s.wide = true) :
    syncCheck l false s = frameGone f.id (s.bump 0x40110034) := by
  have hframes : (s.bump 0x40110034).rx.frames = [f] := h.1
  have hwide' : (frameGone f.id (s.bump 0x40110034)).wide = true := hwide
  unfold syncCheck
  rw [h.laneFrame]
  dsimp only
  rw [if_neg (not_not_intro hstage), if_neg nofun, if_neg (by simp [hnumbered]), shadowsLost_frameGone hframes, listenEnd_wide hwide']

theorem headerDemodulated_queues (hstage : f.stage = .header) :
    headerDemodulated l s = enqueue f.id true 0 (rxMod (fun r => { r with frames := [{ f with stage := .headerSent }] }) s) := by
  unfold headerDemodulated
  rw [h.laneFrame]
  dsimp only
  rw [if_pos hstage, frameMod_only h.1]

/-- The header of a frame without a number is discarded in wideband mode: it is counted, and the frame goes. -/
theorem headerResult_bad (hstage : f.stage = .headerBack) (hbad : headerBad (s.dU 0x2200 3) f.hdr (beNat (f.hdr.drop 14)) = true)
    (hnumbered : f.numbered = false) (hwide : s.wide = true) (est : Nat) : headerResult l est s = frameGone f.id (countBoth 0x4012A070 0x31 s) := by
  have hframes : (countBoth 0x4012A070 0x31 s).rx.frames = [f] := h.1
  have hwide' : (frameGone f.id (countBoth 0x4012A070 0x31 s)).wide = true := (onlyShown_countBoth 0x4012A070 (by decide) s).wide.trans hwide
  unfold headerResult
  rw [h.laneFrame]
  dsimp only
  rw [if_neg (not_not_intro hstage), if_pos (.inr hbad), if_neg (by simp [hnumbered]), shadowsLost_frameGone hframes, listenEnd_wide hwide']

end

/-- The frame `f` with an accepted header: its number, and its S from the expected slot. -/
def headerTaken (f : RxFrame) (n : BitVec 32) (est : Nat) : RxFrame :=
  { f with stage := .payload, hdr := f.hdr.take 14, number := n, numbered := true, slot := slotOfLow est (Hdr.ofBytes f.hdr).slotLow }

/-- An urgent job asked for changes the key store and its count alone (R302). -/
theorem urgentAsk_frame (pg : Fin 2) (lane : Fin 33) (blocks : Nat) (s : State) :
    ∃ x r, urgentAsk pg lane blocks s = { s with sec := x, regs := r } :=
  ⟨_, _, rfl⟩

/-- An accepted header numbers the frame; beyond the receiver at most a node key is asked for. -/
theorem headerResult_good {s : State} {l : Fin 32} {f : RxFrame} (h : OneFrame s l f) (hstage : f.stage = .headerBack) (hlength : f.hdr.length = 16)
    (hgood : headerBad (s.dU 0x2200 3) f.hdr (beNat (f.hdr.drop 14)) = false) (hnumbered : f.numbered = false) (est : Nat) :
    ∃ x r, headerResult l est s = { s with
      rx := { s.rx with frameNo := s.rx.frameNo + 1, frames := [headerTaken f s.rx.frameNo est] }
      sec := x
      regs := r } := by
  have hok : ¬(f.hdr.length ≠ 16 ∨ headerBad (s.dU 0x2200 3) f.hdr (beNat (f.hdr.drop 14)) = true) := by
    rw [hgood]
    rintro (hshort | hbad)
    · exact hshort hlength
    · cases hbad
  have hframes : (rxMod (fun r => { r with frameNo := s.rx.frameNo + 1 }) s).rx.frames = [f] := h.1
  unfold headerResult
  rw [h.laneFrame]
  dsimp only
  rw [if_neg (not_not_intro hstage), if_neg hok, hnumbered, if_neg nofun, frameMod_only hframes]
  simp only [hnumbered, Bool.false_eq_true, if_false]
  split
  · split
    · exact urgentAsk_frame _ _ _ _
    · exact ⟨s.sec, s.regs, rfl⟩
  · exact ⟨s.sec, s.regs, rfl⟩

/-- S lies within the window of 256 slots around the expected slot, and its low byte is SLOT_LOW (R98). -/
theorem slotOfLow_window {e low : Nat} (hlo : 128 ≤ e) (hhi : e < 2 ^ 40 - 128) (hlow : low < 256) :
    slotOfLow e low % 256 = low ∧ e ≤ slotOfLow e low + 128 ∧ slotOfLow e low ≤ e + 127 := by
  unfold slotOfLow unsigned signed
  dsimp only
  split <;> omega

theorem slotLow_lt (b : List Byte) : (Hdr.ofBytes b).slotLow < 256 := Nat.mod_lt _ (by decide)

/-! ### Payload and replay (R165 to R167) -/

section
variable {s : State} {l : Fin 32} {f : RxFrame} (h : OneFrame s l f)
include h

theorem payloadDemodulated_queues (hstage : f.stage = .payload) (hwide : s.wide = true) (rssi snr freq endErr : Int) (blanked : Bool) :
    payloadDemodulated l rssi snr freq endErr blanked s = laneFree f.id (enqueue f.id false f.slot (rxMod (fun r => { r with
      frames := [{ f with stage := .decode, power := rssi, snr := snr, freq := freq, endErr := endErr, blanked := f.blanked || blanked }] }) s)) := by
  unfold payloadDemodulated
  rw [h.laneFrame]
  dsimp only
  rw [if_neg (not_not_intro hstage), frameMod_only h.1]
  exact listenEnd_wide hwide

theorem replayLost_replay (hreplay : f.replay = true) : replayLost l s = frameEnd f.id 5 s := by
  unfold replayLost
  rw [h.laneFrame]
  exact if_pos hreplay

theorem replayLost_live (hreplay : f.replay = false) : replayLost l s = s := by
  unfold replayLost
  rw [h.laneFrame]
  exact if_neg (by simp [hreplay])

end

end Sys2Proof.Machine

namespace Sys2Proof.Proofs
open Sys2Proof.Machine

/-- Settles O35: each event is one change of the receiver's one frame, or of the frame that it brings, besides counters and entries that are shown. -/
theorem receiverLanes : Obligations.ReceiverLanes := by
  intro s l f loud quiet pass now clipped a b est rssi snr freq endErr power noise ch m gain
  refine ⟨fun hcapture hg => ?_, fun hcapture hclipped => ?_, fun hoff => ?_,
    fun hcapture hrecord => ⟨fun hnone => ?_, fun hone hstage hreplay hnumbered hstart hend => ?_⟩,
    fun hopen hfreq hlive => ⟨fun hwide hnone hfree => ?_, fun hwide hone hlane hchan hm hfar hnear hweak => ?_, fun hnarrow hnone hfree => ?_⟩,
    fun hclosed => ?_, fun hone hstage => ⟨fun hrecord hmode => ?_, fun hrecord => ?_, fun hfree hgaps => ?_⟩,
    fun hone => ⟨fun hstage => ?_, fun hstage ⟨hnumbered, hwide⟩ => ?_, fun hstage => ?_,
      fun hstage hlength => ⟨fun ⟨hnumbered, hwide⟩ hbad => ?_, fun hnumbered hgood hlo hhi => ?_⟩,
      fun hstage hwide => ?_, fun hreplay hnumbered hlane => ?_, fun hlive => ?_⟩⟩
  · have hle := gainNext_le (loud := loud) (quiet := quiet) hg
    exact ⟨_, congrArg Host.Outcome.next (agcStep_unclipped hcapture loud quiet []), regN_gainShown hle s,
      (dU_gainShown hle s).trans (regN_gainShown hle s).symm, (onlyShown_gainShown _ s).frame⟩
  · refine ⟨_, congrArg Host.Outcome.next (agcStep_clipped hcapture loud quiet hclipped), regB_clippedShown _ _, ?_, ?_⟩
    · rw [regN_clippedShown, regN_gainShown_ne (by decide)]
    · exact ((onlyShown_gainShown _ s).trans (onlyShown_clippedShown _ _)).frame
  · exact congrArg Host.Outcome.next (agcStep_off hoff ..)
  · exact ⟨_, congrArg Host.Outcome.next (recordGap_empty hcapture hrecord hnone a b), rfl, regB_flag_self s _ (by decide),
      (onlyRegs_flag s _ _).withRx (onlyRx_gapMarked a b s)⟩
  · have hlane : f.stage.onLane = true := by rw [hstage]; rfl
    have hmarked : OneFrame (gapMarked a b s) l f := hone
    have hstage' : f.stage ≠ .shadow := onLane_ne_shadow hlane
    refine ⟨_, congrArg Host.Outcome.next (recordGap_replay hcapture hrecord hone.1 hlane hreplay hstart hend), ?_⟩
    rw [frameEnd_numbered hmarked.1 hnumbered hstage']
    exact ⟨⟨rfl, _, rfl, rfl, rfl, rfl⟩, hone.freed rfl,
      (onlyShown_flag s _ _).onlyReceiver ((onlyRx_gapMarked a b s).trans (onlyRx_rxMod _ _))⟩
  · have hexec := preambleDetection_live hopen hfreq hlive a power snr noise gain
    rw [if_pos hwide, detectWide_alone hnone hfree rfl] at hexec
    exact ⟨_, _, congrArg Host.Outcome.next hexec, rfl, rfl, rfl, rfl, rfl, rfl, rfl, vget_vset_self _ _ _, rfl,
      (onlyShown_detectionShown _ s).onlyReceiver (onlyRx_rxMod _ _)⟩
  · have hexec := preambleDetection_live hopen hfreq hlive a power snr noise gain
    rw [if_pos hwide, detectWide_shadow hone.1 hlane hchan hm hfar hnear hweak] at hexec
    exact ⟨_, _, congrArg Host.Outcome.next hexec, congrArg (· ++ [_]) hone.1, rfl, rfl, rfl,
      (onlyShown_detectionShown _ s).onlyReceiver (onlyRx_rxMod _ _)⟩
  · have hexec := preambleDetection_live hopen hfreq hlive a power snr noise gain
    rw [if_neg (by simp [hnarrow]), detectNarrow_alone hnone hfree] at hexec
    exact ⟨_, _, congrArg Host.Outcome.next hexec, rfl, rfl, vget_vset_self _ _ _, rfl, regN_gainShown (by omega) _, rfl⟩
  · exact congrArg Host.Outcome.next (preambleDetection_closed hclosed ..)
  · exact congrArg Host.Outcome.next (allocTimeout_spill hone hstage hrecord hmode)
  · exact ⟨_, congrArg Host.Outcome.next (allocTimeout_drop hone hstage hrecord), frameGone_only hone, regB_laneFull _,
      (onlyRx_frameGone f.id s).onlyReceiver (onlyShown_laneFull _)⟩
  · exact congrArg Host.Outcome.next (laneAssign_queued hone hstage hfree hgaps now)
  · exact congrArg Host.Outcome.next (syncCheck_pass hone hstage)
  · exact ⟨_, congrArg Host.Outcome.next (syncCheck_fail hone hstage hnumbered hwide), frameGone_only hone.1, hone.freed rfl,
      regN_bump_self s _, (onlyRegs_bump s _).withRx (onlyRx_frameGone _ _)⟩
  · exact congrArg Host.Outcome.next (headerDemodulated_queues hone hstage)
  · exact ⟨_, congrArg Host.Outcome.next (headerResult_bad hone hstage hbad hnumbered hwide est.toNat), frameGone_only hone.1, hone.freed rfl, rfl,
      regN_countBoth s _ 0x31, (onlyShown_countBoth _ (by decide) s).onlyReceiver (onlyRx_frameGone _ _)⟩
  · obtain ⟨x, r, hexec⟩ := headerResult_good hone hstage hlength hgood hnumbered est.toNat
    obtain ⟨hlow, hleast, hmost⟩ := slotOfLow_window hlo hhi (slotLow_lt f.hdr)
    exact ⟨_, _, congrArg Host.Outcome.next hexec, rfl, rfl, rfl, rfl, rfl, hlow, hleast, hmost, rfl, rfl⟩
  · exact ⟨_, _, congrArg Host.Outcome.next (payloadDemodulated_queues hone hstage hwide rssi snr freq endErr pass), rfl, rfl, rfl, rfl, rfl, rfl, rfl,
      hone.freed rfl, rfl, rfl⟩
  · exact ⟨_, congrArg Host.Outcome.next (replayLost_replay hone hreplay), hone.frameEnd hnumbered (onLane_ne_shadow hlane) 5⟩
  · exact congrArg Host.Outcome.next (replayLost_live hone hlive)

end Sys2Proof.Proofs
end

section
/-! SUPPORT. Words written to RFS_CMD, and what the sequencer does with a command: refused, started, pending, armed, or dropped by ABORT (R124 to
R129, R145, R536). -/

namespace Sys2Proof.Machine

/-! ### Flags -/

theorem putField_bit (v n : Nat) : putField v n n 1 = 2 ^ n * putField (v / 2 ^ n) 0 0 1 + v % 2 ^ n := by
  have hone : n + 1 - n = 1 := by omega
  have hsplit := Nat.div_add_mod v (2 ^ n)
  have hlow : 2 ^ n * (v / 2 ^ n) = 2 ^ n * (v / 2 ^ n - v / 2 ^ n % 2) + v / 2 ^ n % 2 * 2 ^ n := by
    rw [Nat.mul_comm (v / 2 ^ n % 2), ← Nat.mul_add, Nat.sub_add_cancel (Nat.mod_le _ _)]
  have htop : putField (v / 2 ^ n) 0 0 1 = v / 2 ^ n - v / 2 ^ n % 2 + 1 := by simp [putField, field]
  rw [htop, putField, field, hone, Nat.pow_one, Nat.mul_add]
  omega

/-- Setting a one-bit field changes that bit alone. -/
theorem testBit_putField_bit (v n j : Nat) : (putField v n n 1).testBit j = (decide (j = n) || v.testBit j) := by
  rw [putField_bit, Nat.testBit_two_pow_mul_add _ (Nat.mod_lt _ (Nat.two_pow_pos n)), putField_bit0, Nat.testBit_mod_two_pow, Nat.testBit_div_two_pow]
  by_cases hj : j < n
  · simp [hj, hj.ne]
  · have heq : j - n = 0 ↔ j = n := by omega
    simp [hj, heq, Nat.sub_add_cancel (Nat.le_of_not_lt hj)]

/-- A flag set changes nothing else. -/
theorem flagged_flag (s : State) (a : Nat) {n : Nat} (hn : n < 32) : Flagged s (s.flag a n) a n := by
  refine ⟨regB_flag_self s a hn, fun b j h => ?_, rfl⟩
  by_cases hb : b = a
  · subst hb
    have hj : j ≠ n := h.resolve_left (· rfl)
    rw [State.flag, State.setRegF, regB_setRegN_self, testBit_putField_bit]
    by_cases hw : j < 32
    · simp [hw, hj, State.regB, bit]
    · simp [hw, regB_of_le (s := s) (a := b) (Nat.le_of_not_lt hw)]
  · exact regB_congr (reg_flag_ne s n hb) j

/-! ### The word of a command -/

section
variable {k : Nat} (hk : k < 8) (v : BitVec 32)
include hk

theorem withCmd_eq : withCmd k v = v.toNat / 8 * 8 + k := by
  simp only [withCmd, putField, field]
  omega

theorem field_withCmd : field (withCmd k v) 2 0 = k := by
  rw [withCmd_eq hk]
  simp only [field]
  omega

/-- CMD lies below every other field. -/
theorem withCmd_above {lo : Nat} (hlo : 3 ≤ lo) : withCmd k v / 2 ^ lo = v.toNat / 2 ^ lo := by
  have hpow : 2 ^ lo = 8 * 2 ^ (lo - 3) := by
    rw [show (8 : Nat) = 2 ^ 3 from rfl, ← Nat.pow_add, Nat.add_sub_cancel' hlo]
  rw [withCmd_eq hk, hpow, ← Nat.div_div_eq_div_mul, ← Nat.div_div_eq_div_mul]
  congr 1
  omega

theorem field_withCmd_above {hi lo : Nat} (hlo : 3 ≤ lo) : field (withCmd k v) hi lo = v.toNat / 2 ^ lo % 2 ^ (hi + 1 - lo) := by
  rw [field, withCmd_above hk v hlo]

theorem bit_withCmd {i : Nat} (hi : 3 ≤ i) : bit (withCmd k v) i = v.getLsbD i := by
  rw [bit, BitVec.getLsbD, Nat.testBit_eq_decide_div_mod_eq, Nat.testBit_eq_decide_div_mod_eq, withCmd_above hk v hi]

end

theorem toNat_extract (v : BitVec 32) (lo n : Nat) : (v.extractLsb' lo n).toNat = v.toNat / 2 ^ lo % 2 ^ n := by
  rw [BitVec.extractLsb'_toNat, Nat.shiftRight_eq_div_pow]

/-- The auto-return state that a word names. -/
theorem rfWord_ret (k : Fin 6) (v : BitVec 32) (s : State) : (rfWord (withCmd k v) s).ret.1 = (v.extractLsb' 4 2).toNat := by
  rw [toNat_extract]
  refine (Nat.mod_eq_of_lt ?_).trans (field_withCmd_above (by omega) v (by decide))
  exact Nat.mod_lt _ (by decide)

theorem rfWord_kind (k : Fin 6) (v : BitVec 32) (s : State) : (rfWord (withCmd k v) s).kind = k :=
  Fin.ext ((congrArg (· % 6) (field_withCmd (by omega) v)).trans (Nat.mod_eq_of_lt k.isLt))

/-- A word spells the command that the sequencer reads from it. -/
theorem rfSpelt_rfWord (k : Fin 6) (v : BitVec 32) (s : State) : RfSpelt (rfWord (withCmd k v) s) k v := by
  refine ⟨rfWord_kind k v s, ?_, rfWord_ret k v s, ?_⟩
  · rw [toNat_extract]
    exact field_withCmd_above (by omega) v (by decide)
  · rw [toNat_extract]
    refine (Nat.mod_eq_of_lt ?_).trans (field_withCmd_above (by omega) v (by decide))
    exact Nat.mod_lt _ (by decide)

/-! ### Refused commands -/

theorem rfRefuse_none {c : RfCmd} {s : State} (htx : c.kind = 5 → txRefused c s = false)
    (hrx : c.kind = 4 → rxRefused c s = false) : rfRefuse c s = none := by
  unfold rfRefuse
  rw [if_neg (fun h => by simp [htx h.1] at h), if_neg (fun h => by simp [hrx h.1] at h)]

/-- A change of state is never refused. -/
theorem rfRefuse_stateChange {c : RfCmd} (h4 : c.kind ≠ 4) (h5 : c.kind ≠ 5) (s : State) : rfRefuse c s = none :=
  rfRefuse_none (fun h => absurd h h5) (fun h => absurd h h4)

theorem rfRefuse_tx {c : RfCmd} {s : State} (hkind : c.kind = 5) (h : txRefused c s = true) :
    rfRefuse c s = some (s.flag rfsStat 6) := if_pos ⟨hkind, h⟩

theorem rfRefuse_rx {c : RfCmd} {s : State} (hkind : c.kind = 4) (h : rxRefused c s = true) : rfRefuse c s = some (s.flag rfsStat 10) := by
  unfold rfRefuse
  rw [if_neg (by simp [hkind]), if_pos ⟨hkind, h⟩]

theorem txRefused_noPlan {s : State} (h : s.plan = 0) (c : RfCmd) : txRefused c s = true := by simp [txRefused, h]

theorem rxRefused_noPlan {s : State} (h : s.plan = 0) (c : RfCmd) : rxRefused c s = true := by simp [rxRefused, h]

/-! ### Commands that start or wait -/

/-- The sequencer after it has begun a command's transition. -/
def rfBegun (c : RfCmd) (wide : Bool) (r : Rf) : Rf :=
  { r with cur := some c, chan := if wide && c.kind != 5 then r.chan else c.chan, moving := some c.kind, frame := false }

theorem rfStart_eq {s : State} (hcal : s.rf.calBegun = false) (c : RfCmd) : rfStart c s = rfMod (rfBegun c s.wide) s := by
  have hkept : calAbandon s = s := if_pos (by simp [hcal])
  rw [rfStart, hkept]
  rfl

theorem rfIdle_iff (s : State) : s.rfIdle = true ↔ s.rf.moving = none ∧ s.rf.frame = false := by
  simp [State.rfIdle]

section
variable {c : RfCmd} {s : State} (hok : rfRefuse c s = none)
include hok

theorem rfAct_idle (h5 : c.kind ≠ 5) (hidle : s.rfIdle = true) (hpend : s.rf.pend = none) : rfAct c s = rfStart c s := by
  unfold rfAct
  rw [hok]
  dsimp only
  rw [if_pos (by simp [hidle, hpend]), if_neg h5]

theorem rfAct_waits (h5 : c.kind ≠ 5) (hbusy : s.rfIdle = false) (hpend : s.rf.pend = none) :
    rfAct c s = rfMod (fun r => { r with pend := some c }) s := by
  unfold rfAct
  rw [hok]
  dsimp only
  rw [if_neg (by simp [hbusy]), if_neg (by simp [hpend]), if_neg (fun h => h5 h.1)]

theorem rfAct_full (hpend : s.rf.pend.isSome = true) : rfAct c s = s.flag rfsStat 1 := by
  unfold rfAct
  rw [hok]
  dsimp only
  rw [if_neg (by simp [Option.ne_none_iff_isSome, hpend]), if_pos hpend]

end

/-! ### A write of RFS_CMD -/

theorem rfCommand_off {s : State} (h : s.isOn dRADIO = false) {lnk : Bool} {w : Nat} (hw : lnk = false → field w 2 0 ≠ 5) : rfCommand lnk w s = s := by
  unfold rfCommand
  rw [if_neg (by cases lnk <;> simp_all), if_pos (by simp [h])]

theorem rfCommand_denied {s : State} (h : s.isOn dRADIO = true) {w : Nat} (hw : field w 2 0 ≠ 5) : rfCommand false w s = s.flag rfsStat 7 := by
  unfold rfCommand
  rw [if_neg (by simp [hw]), if_neg (by simp [h]), if_pos (show (!false) = true from rfl)]

theorem rfCommand_firmwareTx {w : Nat} (hw : field w 2 0 = 5) (s : State) : rfCommand false w s = s.flag rfsStat 6 := if_pos (by simp [hw])

theorem rfCommand_link {s : State} (h : s.isOn dRADIO = true) (w : Nat) : rfCommand true w s = rfTake w s := by
  unfold rfCommand
  rw [if_neg (by simp), if_neg (by simp [h]), if_neg (by simp)]

theorem rfTake_bad {w : Nat} (hw : 6 ≤ field w 2 0) (s : State) : rfTake w s = s.flag rfsStat 8 := if_pos hw

/-- ABORT with nothing to send and nothing being received. -/
theorem rfAbort_quiet {s : State} (hburst : s.txm.burst = []) (hst : s.rf.st ≠ 4) (ret : Fin 4) : rfAbort ret s =
    rfMod (fun r => { r with pend := none, cur := none, frame := false, moving := some (returnState s ret) }) s := by
  unfold rfAbort
  rw [if_pos (List.isEmpty_iff.2 hburst)]
  dsimp only
  rw [if_neg hst]
  rfl

theorem rfTake_abort (v : BitVec 32) (s : State) : rfTake (withCmd 0 v) s = rfAbort (rfWord (withCmd 0 v) s).ret s := by
  unfold rfTake
  dsimp only
  rw [field_withCmd (by decide), if_neg (by decide), if_pos rfl]

section
variable {k : Fin 6} {v : BitVec 32} {s : State}

theorem rfTake_refused (hk : k ≠ 0) {t : State} (h : rfRefuse (rfWord (withCmd k v) s) s = some t) : rfTake (withCmd k v) s = t := by
  unfold rfTake
  dsimp only
  rw [field_withCmd (by omega), if_neg (by omega), if_neg (fun h0 : k.1 = 0 => hk (Fin.ext h0)), h]

/-- A command that may run acts at once, or is armed on its trigger. -/
theorem rfTake_accepted (hk : k ≠ 0) (h : rfRefuse (rfWord (withCmd k v) s) s = none) : rfTake (withCmd k v) s =
    if v.getLsbD 23 then rfAct (rfWord (withCmd k v) s) s
    else if 4 ≤ s.rf.armed.length then s.flag rfsStat 1
    else rfMod (fun r => { r with armed := r.armed ++ [rfWord (withCmd k v) s] }) s := by
  unfold rfTake
  dsimp only
  rw [field_withCmd (by omega), if_neg (by omega), if_neg (fun h0 : k.1 = 0 => hk (Fin.ext h0)), h, bit_withCmd (by omega) v (by decide)]

theorem rfTake_acts (hk : k ≠ 0) (h : rfRefuse (rfWord (withCmd k v) s) s = none) (hbit : v.getLsbD 23 = true) :
    rfTake (withCmd k v) s = rfAct (rfWord (withCmd k v) s) s := (rfTake_accepted hk h).trans (if_pos hbit)

end

/-! ### Commands of the link controller and of a core, with no transmission of the link controller on its way -/

theorem rfRefuse_word {k : Fin 6} (h4 : k ≠ 4) (h5 : k ≠ 5) (v : BitVec 32) (s : State) : rfRefuse (rfWord (withCmd k v) s) s = none :=
  rfRefuse_stateChange (by rwa [rfWord_kind]) (by rwa [rfWord_kind]) s

section
variable {s : State} (hidle : s.lnk.sending = [])
include hidle

theorem command_flags {lnk : Bool} {w n : Nat} (hn : n < 32) (h : rfCommand lnk w s = s.flag rfsStat n) :
    ∃ t, (.next (settle (rfCommand lnk w s)) : Out) = .next t ∧ Flagged s t rfsStat n :=
  ⟨_, congrArg Host.Outcome.next (by rw [h, settle_idle (by rw [State.flag_lnk, hidle])]), flagged_flag s _ hn⟩

/-- While RADIO is not ON no command but firmware's TX does anything. -/
theorem command_off (hoff : s.isOn dRADIO = false) {k : Nat} (hk : k < 8) {lnk : Bool} (h : lnk = false → k ≠ 5) (v : BitVec 32) :
    (.next (settle (rfCommand lnk (withCmd k v) s)) : Out) = .next s := by
  rw [rfCommand_off hoff (fun hl => by rw [field_withCmd hk]; exact h hl), settle_idle hidle]

variable (hon : s.isOn dRADIO = true)
include hon

theorem command_denied {k : Nat} (hk : k < 8) (h5 : k ≠ 5) (v : BitVec 32) :
    ∃ t, (.next (settle (rfCommand false (withCmd k v) s)) : Out) = .next t ∧ Flagged s t rfsStat 7 :=
  command_flags hidle (by decide) (rfCommand_denied hon (by rwa [field_withCmd hk]))

theorem command_settled {w : Nat} {t : State} (htake : rfTake w s = t) (ht : t.lnk = s.lnk) : settle (rfCommand true w s) = t := by
  rw [rfCommand_link hon, htake, settle_idle (by rw [ht, hidle])]

variable {k : Fin 6} {v : BitVec 32} (hk : k ≠ 0)
include hk

theorem command_refused {n : Nat} (hn : n < 32) (h : rfRefuse (rfWord (withCmd k v) s) s = some (s.flag rfsStat n)) :
    ∃ t, (.next (settle (rfCommand true (withCmd k v) s)) : Out) = .next t ∧ Flagged s t rfsStat n :=
  command_flags hidle hn ((rfCommand_link hon _).trans (rfTake_refused hk h))

variable (hok : rfRefuse (rfWord (withCmd k v) s) s = none)
include hok

theorem command_arms (hbit : v.getLsbD 23 = false) (hroom : s.rf.armed.length < 4) : ∃ c, RfSpelt c k v ∧
    (.next (settle (rfCommand true (withCmd k v) s)) : Out) = .next { s with rf := { s.rf with armed := s.rf.armed ++ [c] } } := by
  have htake := rfTake_accepted hk hok
  rw [hbit, if_neg (by simp), if_neg (by omega)] at htake
  exact ⟨_, rfSpelt_rfWord k v s, congrArg Host.Outcome.next (command_settled hidle hon htake rfl)⟩

theorem command_fifth (hbit : v.getLsbD 23 = false) (hfull : 4 ≤ s.rf.armed.length) :
    ∃ t, (.next (settle (rfCommand true (withCmd k v) s)) : Out) = .next t ∧ Flagged s t rfsStat 1 := by
  have htake := rfTake_accepted hk hok
  rw [hbit, if_neg (by simp), if_pos hfull] at htake
  exact command_flags hidle (by decide) ((rfCommand_link hon _).trans htake)

variable (hbit : v.getLsbD 23 = true)
include hbit

theorem command_starts (h5 : k ≠ 5) (hrest : s.rfIdle = true) (hpend : s.rf.pend = none) (hcal : s.rf.calBegun = false) :
    ∃ t c, RfSpelt c k v ∧ (.next (settle (rfCommand true (withCmd k v) s)) : Out) = .next t ∧ RfBegins s t c ∧
      t.rf.chan = (if s.wide then s.rf.chan else c.chan) ∧ t.rf.armed = s.rf.armed ∧ { t with rf := s.rf } = s := by
  have hkind : (rfWord (withCmd k v) s).kind ≠ 5 := by rwa [rfWord_kind]
  have htake := (rfTake_acts hk hok hbit).trans ((rfAct_idle hok hkind hrest hpend).trans (rfStart_eq hcal _))
  refine ⟨_, _, rfSpelt_rfWord k v s, congrArg Host.Outcome.next (command_settled hidle hon htake rfl), ⟨rfl, rfl, rfl, rfl⟩, ?_, rfl, rfl⟩
  simp [rfBegun, hkind]

theorem command_waits (h5 : k ≠ 5) (hbusy : s.rfIdle = false) (hpend : s.rf.pend = none) : ∃ c, RfSpelt c k v ∧
    (.next (settle (rfCommand true (withCmd k v) s)) : Out) = .next { s with rf := { s.rf with pend := some c } } := by
  have hkind : (rfWord (withCmd k v) s).kind ≠ 5 := by rwa [rfWord_kind]
  have htake := (rfTake_acts hk hok hbit).trans (rfAct_waits hok hkind hbusy hpend)
  exact ⟨_, rfSpelt_rfWord k v s, congrArg Host.Outcome.next (command_settled hidle hon htake rfl)⟩

theorem command_busy (hpend : s.rf.pend.isSome = true) :
    ∃ t, (.next (settle (rfCommand true (withCmd k v) s)) : Out) = .next t ∧ Flagged s t rfsStat 1 :=
  command_flags hidle (by decide) ((rfCommand_link hon _).trans ((rfTake_acts hk hok hbit).trans (rfAct_full hok hpend)))

end

theorem field_badCommand (v : BitVec 32) : 6 ≤ field (withCmd (6 + field v.toNat 0 0) v) 2 0 := by
  have hbit : field v.toNat 0 0 < 2 := Nat.mod_lt _ (by decide)
  rw [field_withCmd (by omega)]
  omega

end Sys2Proof.Machine

namespace Sys2Proof.Proofs
open Sys2Proof.Machine

/-- Settles O32: a write of RFS_CMD is refused, denied or ignored by who writes it and whether RADIO is ON, and else read as the command that it spells,
which its trigger bit and the sequencer's standing arm, start, make pending or refuse. -/
theorem sequencerCommands : Obligations.SequencerCommands := by
  intro s v hidle stat flags arms starts waits
  have sleep := rfRefuse_word (k := 1) (by decide) (by decide) v s
  have standby := rfRefuse_word (k := 2) (by decide) (by decide) v s
  have synth := rfRefuse_word (k := 3) (by decide) (by decide) v s
  have rx (h : rxRefused (rfWord (withCmd 4 v) s) s = false) : rfRefuse (rfWord (withCmd (4 : Fin 6) v) s) s = none :=
    rfRefuse_none (fun h5 => absurd ((rfWord_kind 4 v s).symm.trans h5) (by decide)) (fun _ => h)
  have tx (h : txRefused (rfWord (withCmd 5 v) s) s = false) : rfRefuse (rfWord (withCmd (5 : Fin 6) v) s) s = none :=
    rfRefuse_none (fun _ => h) (fun h4 => absurd ((rfWord_kind 5 v s).symm.trans h4) (by decide))
  have hbad : field (withCmd (6 + field v.toNat 0 0) v) 2 0 ≠ 5 := Nat.ne_of_gt (field_badCommand v)
  refine ⟨?_, fun hon => ?_, fun hoff l => ?_, fun hon => ?_, fun hon hplan => ⟨?_, ?_⟩, fun hon hburst hst => ?_, fun hon hbit hroom => ?_,
    fun hon hbit hfull => ?_, fun hon hbit hmoving hframe hpend hcal => ?_, fun hon hbit hbusy => ⟨fun hpend => ?_, fun hpend => ?_⟩⟩
  · exact command_flags hidle (by decide) (rfCommand_firmwareTx (field_withCmd (by decide) v) s)
  · have denied {k : Nat} (hk : k < 8) (h5 : k ≠ 5) := command_denied hidle hon hk h5 v
    exact ⟨denied (by decide) (by decide), denied (by decide) (by decide), denied (by decide) (by decide), denied (by decide) (by decide),
      denied (by decide) (by decide), _, congrArg Host.Outcome.next (rfCommand_denied hon hbad), flagged_flag s _ (by decide)⟩
  · have off {k : Nat} (hk : k < 8) (h5 : k ≠ 5) := command_off hidle hoff hk (lnk := l) (fun _ => h5) v
    exact ⟨off (by decide) (by decide), off (by decide) (by decide), off (by decide) (by decide), off (by decide) (by decide),
      off (by decide) (by decide), congrArg Host.Outcome.next (rfCommand_off hoff fun _ => hbad),
      command_off hidle hoff (k := 5) (by decide) (lnk := true) (by decide) v⟩
  · exact ⟨_, congrArg Host.Outcome.next ((rfCommand_link hon _).trans (rfTake_bad (field_badCommand v) s)), flagged_flag s _ (by decide)⟩
  · exact command_refused hidle hon (k := 5) (by decide) (by decide) (rfRefuse_tx (rfWord_kind 5 v s) (txRefused_noPlan hplan _))
  · exact command_refused hidle hon (k := 4) (by decide) (by decide) (rfRefuse_rx (rfWord_kind 4 v s) (rxRefused_noPlan hplan _))
  · have htake := (rfTake_abort v s).trans (rfAbort_quiet hburst hst _)
    have hret : returnState s (rfWord (withCmd 0 v) s).ret = if s.wide then 4 else Fin.ofNat 6 ((v.extractLsb' 4 2).toNat + 1) := by
      rw [returnState]
      exact congrArg (fun n => if s.wide then (4 : Fin 6) else Fin.ofNat 6 (n + 1)) (rfWord_ret 0 v s)
    rw [hret] at htake
    exact congrArg Host.Outcome.next (command_settled hidle hon htake rfl)
  · have armed (k : Fin 6) (hk : k ≠ 0) (hok) := command_arms (v := v) hidle hon hk hok hbit hroom
    exact ⟨armed 1 (by decide) sleep, armed 2 (by decide) standby, armed 3 (by decide) synth, fun h => armed 4 (by decide) (rx h),
      fun h => armed 5 (by decide) (tx h)⟩
  · have fifth (k : Fin 6) (hk : k ≠ 0) (hok) := command_fifth (v := v) hidle hon hk hok hbit hfull
    exact ⟨fifth 1 (by decide) sleep, fifth 2 (by decide) standby, fifth 3 (by decide) synth⟩
  · have begins (k : Fin 6) (hk : k ≠ 0) (h5 : k ≠ 5) (hok) :=
      command_starts (v := v) hidle hon hk hok hbit h5 ((rfIdle_iff s).2 ⟨hmoving, hframe⟩) hpend hcal
    exact ⟨begins 1 (by decide) (by decide) sleep, begins 2 (by decide) (by decide) standby, begins 3 (by decide) (by decide) synth,
      fun h => begins 4 (by decide) (by decide) (rx h)⟩
  · have hnotIdle : s.rfIdle = false := by
      rcases hbusy with h | h
      · simp [State.rfIdle, h]
      · simp [State.rfIdle, Option.isNone_eq_false_iff.2 h]
    have waiting (k : Fin 6) (hk : k ≠ 0) (h5 : k ≠ 5) (hok) := command_waits (v := v) hidle hon hk hok hbit h5 hnotIdle hpend
    exact ⟨waiting 1 (by decide) (by decide) sleep, waiting 2 (by decide) (by decide) standby, waiting 3 (by decide) (by decide) synth⟩
  · have busy (k : Fin 6) (hk : k ≠ 0) (hok) := command_busy (v := v) hidle hon hk hok hbit hpend
    exact ⟨busy 1 (by decide) sleep, busy 2 (by decide) standby, busy 3 (by decide) synth⟩

end Sys2Proof.Proofs
end

section
/-! SUPPORT. What the ends of transmissions and receptions leave as it was: registers of other meaning, the rest of the machine, and the role
(R120, R138 to R143, R198, R209). -/

namespace Sys2Proof.Machine

/-! ### Folds over the state -/

/-- What every step keeps of the state before it, a whole fold keeps. -/
theorem foldl_keeps {α σ : Type} {R : σ → σ → Prop} (refl : ∀ s, R s s) (trans : ∀ {s t u}, R s t → R t u → R s u) {f : σ → α → σ}
    (step : ∀ s x, R s (f s x)) (l : List α) (s : σ) : R s (l.foldl f s) := by
  induction l generalizing s with
  | nil => exact refl s
  | cons x l ih => exact trans (step s x) (ih (f s x))

/-! ### The role and what follows from it -/

theorem wide_congr {s t : State} (h : t.role = s.role) : t.wide = s.wide := by
  unfold State.wide State.bigRole
  rw [h]

theorem returnState_congr {s t : State} (h : t.role = s.role) (ret : Fin 4) : returnState t ret = returnState s ret := by
  unfold returnState
  rw [wide_congr h]

theorem role_dSet_ne {x y : Nat} (h : key 0x1200 1 ≠ key x y) (v : List Byte) (s : State) : (s.dSet x y v).role = s.role :=
  congrArg leNat (dGet_dSet_ne s v h)

theorem key_role_ne_radio {y : Nat} (hy : y < 256) : key 0x1200 1 ≠ key 0x2100 y :=
  fun h => absurd ((key_inj (by decide) hy).1 h).1 (by decide)

/-! ### Only registers, by name -/

theorem OnlyRegs.trans {s t u : State} (h : OnlyRegs s t) (h' : OnlyRegs t u) : OnlyRegs s u := by
  have htwice := congrArg (fun w : State => { w with regs := s.regs }) h'.eq
  exact htwice.trans h

theorem OnlyRegs.exists_eq {s t : State} (h : OnlyRegs s t) : ∃ r, t = { s with regs := r } := by
  have hagain := congrArg (fun w : State => { w with regs := t.regs }) h.eq
  exact ⟨t.regs, hagain⟩

theorem setRegF_frame (s : State) (a hi lo v : Nat) : ∃ r, s.setRegF a hi lo v = { s with regs := r } := ⟨_, rfl⟩

theorem bump_frame (s : State) (a : Nat) : ∃ r, s.bump a = { s with regs := r } := ⟨_, rfl⟩

theorem dBump_frame (s : State) (x y : Nat) : ∃ d, s.dBump x y = { s with dict := d } := ⟨_, rfl⟩

/-! ### The end of a burst -/

theorem carCfg_ge (c : Fin 8) : 0x40140100 ≤ carCfg c := Nat.le_add_right _ _

theorem carStat_ne_carCfg (c d : Fin 8) : carStat c ≠ carCfg d := by
  unfold carStat carCfg
  omega

/-- Every register below the descriptors is no carrier's status. -/
theorem carStat_ne {a : Nat} (h : a < 0x40140100) (c : Fin 8) : carStat c ≠ a := by
  unfold carStat carCfg
  omega

theorem reg_setRegF_ne (s : State) {a b : Nat} (hi lo v : Nat) (h : b ≠ a) : (s.setRegF a hi lo v).reg b = s.reg b := reg_setRegN_ne s _ h

theorem onlyRegs_clearValid (s : State) : OnlyRegs s (clearValid s) :=
  foldS_keeps (R := OnlyRegs) OnlyRegs.refl OnlyRegs.trans (fun _ s => (OnlyRegs.refl s).setRegF _ _ _ _) _ s

theorem reg_clearValid {a : Nat} (h : ∀ c, a ≠ carCfg c) (s : State) : (clearValid s).reg a = s.reg a := by
  refine foldS_keeps (R := fun s t : State => t.reg a = s.reg a) (fun _ => rfl) ?_ ?_ _ s
  · intro s t u h h'
    exact h'.trans h
  · intro c s
    exact reg_setRegF_ne s _ _ _ (h c)

/-- The transmitter with nothing to send. -/
def burstGone (s : State) : State := txmMod (fun t => { t with burst := [], onAir := false, burstGrant := none }) s

theorem burstOver_frame (s : State) : ∃ r, burstOver s = { burstGone s with regs := r } :=
  (((OnlyRegs.refl (burstGone s)).setRegF _ _ _ _).trans (onlyRegs_clearValid _)).exists_eq

theorem reg_burstOver {a : Nat} (hcount : a ≠ 0x40140004) (h : ∀ c, a ≠ carCfg c) (s : State) : (burstOver s).reg a = s.reg a :=
  (reg_clearValid h _).trans (reg_setRegF_ne (burstGone s) _ _ _ hcount)

theorem reg_burstOver_carStat (c : Fin 8) (s : State) : (burstOver s).reg (carStat c) = s.reg (carStat c) :=
  reg_burstOver (carStat_ne (by decide) c) (carStat_ne_carCfg c) s

theorem reg_burstOver_rfsStat (s : State) : (burstOver s).reg rfsStat = s.reg rfsStat :=
  reg_burstOver (by decide) (fun c => ((show rfsStat < 0x40140100 by decide).trans_le (carCfg_ge c)).ne) s

/-- A burst of one carrier cut short (R209). -/
theorem burstCut_one {s : State} {k : Carrier} (h : s.txm.burst = [k]) (st : Status) : burstCut st s =
    burstOver ((txmMod (fun t => { t with fit := none }) (carStatus k.num (if s.txm.onAir then st else stLate) s)).flag txmStat 3) := by
  unfold burstCut
  rw [h]
  rfl

/-! ### What a loss of lock or an early end keeps -/

/-- RFS_STAT and the link controller are as they were. -/
structure KeepsStat (s t : State) : Prop where
  stat : t.reg rfsStat = s.reg rfsStat
  lnk : t.lnk = s.lnk

theorem KeepsStat.refl (s : State) : KeepsStat s s := ⟨rfl, rfl⟩

theorem KeepsStat.trans {s t u : State} (h : KeepsStat s t) (h' : KeepsStat t u) : KeepsStat s u := ⟨h'.stat.trans h.stat, h'.lnk.trans h.lnk⟩

theorem keepsStat_setRegF {a : Nat} (h : rfsStat ≠ a) (hi lo v : Nat) (s : State) :
    KeepsStat s (s.setRegF a hi lo v) := ⟨reg_setRegF_ne s _ _ _ h, rfl⟩

theorem keepsStat_burstOver (s : State) : KeepsStat s (burstOver s) :=
  ⟨reg_burstOver_rfsStat s, (congrArg State.lnk (burstOver_frame s).choose_spec :)⟩

theorem keepsStat_carStatus (c : Fin 8) (st : Status) (s : State) : KeepsStat s (carStatus c st s) :=
  keepsStat_setRegF (carStat_ne (by decide) c).symm _ _ _ s

theorem keepsStat_burstCut (st : Status) (s : State) : KeepsStat s (burstCut st s) := by
  unfold burstCut
  split
  · exact keepsStat_burstOver s
  · extract_lets st' s₁
    have h₁ : KeepsStat s s₁ := foldl_keeps KeepsStat.refl KeepsStat.trans (fun s (k : Carrier) => keepsStat_carStatus k.num st' s) _ s
    clear_value s₁
    have h₂ : KeepsStat s₁ (txmMod (fun t => { t with fit := none }) s₁) := ⟨rfl, rfl⟩
    exact ((h₁.trans h₂).trans (keepsStat_setRegF (by decide) _ _ _ _)).trans (keepsStat_burstOver _)

theorem keepsStat_shadowsLost (id : Nat) (s : State) : KeepsStat s (shadowsLost id s) := by
  refine foldl_keeps KeepsStat.refl KeepsStat.trans (fun s f => ?_) _ s
  exact ⟨reg_bump_ne _ (by decide), rfl⟩

theorem keepsStat_rxDiscard (s : State) : KeepsStat s (rxDiscard s) := by
  refine foldl_keeps KeepsStat.refl KeepsStat.trans (fun s f => ?_) _ s
  exact KeepsStat.trans (t := frameGone f.id s) ⟨rfl, rfl⟩ (keepsStat_shadowsLost f.id _)

/-! ### What a measured transmission keeps -/

/-- Of the machine only the sequencer, the transmitter, registers, entries and the event fabric have changed. -/
def OnlyRadio (s t : State) : Prop := { t with rf := s.rf, txm := s.txm, regs := s.regs, dict := s.dict, evf := s.evf } = s

theorem OnlyRadio.trans {s t u : State} (h : OnlyRadio s t) (h' : OnlyRadio t u) : OnlyRadio s u := by
  have htwice := congrArg (fun w : State => { w with rf := s.rf, txm := s.txm, regs := s.regs, dict := s.dict, evf := s.evf }) h'
  exact htwice.trans h

section
variable {s t : State} (h : OnlyRadio s t)
include h

theorem OnlyRadio.tmr : t.tmr = s.tmr := (congrArg State.tmr h :)
theorem OnlyRadio.pcc : t.pcc = s.pcc := (congrArg State.pcc h :)
theorem OnlyRadio.rx : t.rx = s.rx := (congrArg State.rx h :)
theorem OnlyRadio.slu : t.slu = s.slu := (congrArg State.slu h :)
theorem OnlyRadio.lnk : t.lnk = s.lnk := (congrArg State.lnk h :)

end

/-- A measurement has been taken of a transmission: the role, the transmitter, every carrier's status, and the sequencer's commands are as they were. -/
structure Measured (s t : State) : Prop where
  radio : OnlyRadio s t
  role : t.role = s.role
  txm : t.txm = s.txm
  cur : t.rf.cur = s.rf.cur
  pend : t.rf.pend = s.rf.pend
  status : ∀ c, t.reg (carStat c) = s.reg (carStat c)

theorem Measured.refl (s : State) : Measured s s := ⟨rfl, rfl, rfl, rfl, rfl, fun _ => rfl⟩

theorem Measured.trans {s t u : State} (h : Measured s t) (h' : Measured t u) : Measured s u :=
  ⟨h.radio.trans h'.radio, h'.role.trans h.role, h'.txm.trans h.txm, h'.cur.trans h.cur, h'.pend.trans h.pend,
    fun c => (h'.status c).trans (h.status c)⟩

theorem Measured.ite {p : Prop} [Decidable p] {s t u : State} (ht : Measured s t) (hu : Measured s u) : Measured s (if p then t else u) := by
  split
  · exact ht
  · exact hu

theorem measured_setRegN {a : Nat} (ha : a < 0x40140100) (v : Nat) (s : State) : Measured s (s.setRegN a v) :=
  ⟨rfl, rfl, rfl, rfl, rfl, fun c => reg_setRegN_ne s v (carStat_ne ha c)⟩

theorem measured_flag {a : Nat} (ha : a < 0x40140100) (n : Nat) (s : State) : Measured s (s.flag a n) := measured_setRegN ha _ s

theorem measured_dSet {x y : Nat} (h : key 0x1200 1 ≠ key x y) (v : List Byte) (s : State) : Measured s (s.dSet x y v) :=
  ⟨rfl, role_dSet_ne h v s, rfl, rfl, rfl, fun _ => rfl⟩

/-- An entry of the radio. -/
theorem measured_dPut {y : Nat} (hy : y < 256) (v : Nat) (s : State) : Measured s (s.dPut 0x2100 y v) := measured_dSet (key_role_ne_radio hy) _ s

theorem measured_rfMod {f : Rf → Rf} (s : State) (hcur : ∀ r, (f r).cur = r.cur := by exact fun _ => rfl)
    (hpend : ∀ r, (f r).pend = r.pend := by exact fun _ => rfl) : Measured s (rfMod f s) :=
  ⟨rfl, rfl, rfl, hcur _, hpend _, fun _ => rfl⟩

theorem measured_fire (p : Nat) (s : State) : Measured s (fire p s) := by
  obtain ⟨e, h⟩ := fire_frame p s
  rw [h]
  exact ⟨rfl, rfl, rfl, rfl, rfl, fun _ => rfl⟩

theorem measured_healthEvent (id unit act : Nat) (inj : Bool) (s : State) : Measured s (healthEvent id unit act inj s) :=
  ((measured_dSet (by decide) _ s).trans (measured_setRegN (by decide) _ _)).trans (measured_fire _ _)

theorem measured_gammaReport (g : BitVec 32) (s : State) : Measured s (gammaReport g s) :=
  (measured_setRegN (by decide) _ s).trans (measured_dPut (by decide) _ _)

theorem measured_setTune (a b : Nat) (s : State) : Measured s (setTune a b s) :=
  (measured_setRegN (by decide) _ s).trans (measured_dPut (by decide) _ _)

theorem measured_bankStep (b up : Bool) (s : State) : Measured s (bankStep b up s) := .ite (measured_setTune _ _ s) (measured_setTune _ _ s)

theorem measured_antTune (g : Nat) (s : State) : Measured s (antTune g s) := by
  have hold : Measured s (rfMod (fun r => { r with gamma2 := g, stepped := false }) s) := measured_rfMod s
  refine .ite hold (.ite hold (.ite ?_ ?_))
  · exact (measured_bankStep _ _ s).trans (measured_rfMod _)
  · exact (measured_bankStep _ _ s).trans (measured_rfMod _)

theorem measured_antMismatch (g : Nat) (s : State) : Measured s (antMismatch g s) := by
  refine .ite (.refl s) (.ite ?_ (measured_rfMod s))
  have hcounted : Measured s (rfMod (fun r => { r with antRun := s.rf.antRun + 1 }) s) := measured_rfMod s
  refine .ite (hcounted.trans ?_) hcounted
  exact ((measured_rfMod _).trans (measured_flag (a := rfsStat) (by decide) _ _)).trans (measured_fire _ _)

theorem measured_antFaultSet (s : State) : Measured s (antFaultSet s) :=
  ((measured_flag (by decide) _ s).trans (measured_dPut (by decide) _ _)).trans (measured_healthEvent ..)

theorem measured_epaFeedback (fb : Byte) (s : State) : Measured s (epaFeedback fb s) := by
  have hlevel : Measured s (s.setRegN 0x40100078 fb.toNat) := measured_setRegN (by decide) _ s
  exact .ite (hlevel.trans (measured_antFaultSet _)) hlevel

theorem measured_txMeasured (gamma : BitVec 32) (fb : Byte) (s : State) : Measured s (txMeasured gamma fb s) :=
  (((measured_gammaReport gamma s).trans (measured_antMismatch _ _)).trans (measured_antTune _ _)).trans (measured_epaFeedback fb _)

/-! ### A health event beside registers and entries -/

theorem healthEvent_logged (id unit act : Nat) (inj : Bool) (s : State) :
    ∃ v e, healthEvent id unit act inj s = { (s.dSet 0x3600 0x80 v).bump 0x400A00C0 with evf := e } := by
  unfold healthEvent
  dsimp only
  obtain ⟨e, he⟩ := fire_frame 0xB1 ((s.dSet 0x3600 0x80
    (((slotBytes s ++ [BitVec.ofNat 8 id, BitVec.ofNat 8 unit, BitVec.ofNat 8 act, BitVec.ofNat 8 (b2n inj)] ++ List.replicate 7 0) ++
      s.dGet 0x3600 0x80).take 256)).bump 0x400A00C0)
  exact ⟨_, e, he⟩

theorem reg_healthEvent {a : Nat} (h : a ≠ 0x400A00C0) (id unit act : Nat) (inj : Bool) (s : State) :
    (healthEvent id unit act inj s).reg a = s.reg a := by
  obtain ⟨v, e, he⟩ := healthEvent_logged id unit act inj s
  rw [he]
  exact reg_bump_ne (s.dSet 0x3600 0x80 v) h

theorem dGet_healthEvent {i j : Nat} (h : key i j ≠ key 0x3600 0x80) (id unit act : Nat) (inj : Bool) (s : State) :
    (healthEvent id unit act inj s).dGet i j = s.dGet i j := by
  obtain ⟨v, e, he⟩ := healthEvent_logged id unit act inj s
  rw [he]
  exact dGet_dSet_ne s v h

end Sys2Proof.Machine
end

section
/-! SUPPORT. The sequencer's events: triggers, pending commands, transitions, and the ends of transmissions and receptions (R120 to R127, R140, R198). -/

namespace Sys2Proof.Machine

/-! ### Commands that start -/

/-- The one armed command taken, and its firing. -/
def disarmed (rest : List Evt) (s : State) : State := { s with evf := { s.evf with rfsTrigs := rest }, rf := { s.rf with armed := [] } }

theorem rfTrigger_one {s : State} {ch : Fin 64} {h : Nat} {rest : List Evt} {c : RfCmd} (hon : s.isOn dRADIO = true)
    (htrigs : s.evf.rfsTrigs = { ch := ch, hop := h } :: rest) (harmed : s.rf.armed = [c]) (htrig : c.trig = ch) :
    rfTrigger ch s = rfAct c (disarmed rest s) := by
  have htake : takeFirst (fun e : Evt => e.ch == ch) s.evf.rfsTrigs = some ({ ch := ch, hop := h }, rest) := by
    rw [htrigs]
    exact if_pos (beq_self_eq_true ch)
  have hon' : ({ s with evf := { s.evf with rfsTrigs := rest } } : State).isOn dRADIO = true := hon
  unfold rfTrigger
  rw [htake]
  dsimp only
  rw [if_neg (by simp [hon']), harmed]
  simp [rfMod, htrig, harmed, disarmed]

/-- A firing starts the one armed change of state on an idle sequencer. -/
theorem rfTrigger_starts {s : State} {ch : Fin 64} {h : Nat} {rest : List Evt} {c : RfCmd} (hon : s.isOn dRADIO = true)
    (htrigs : s.evf.rfsTrigs = { ch := ch, hop := h } :: rest) (harmed : s.rf.armed = [c]) (htrig : c.trig = ch) (h4 : c.kind ≠ 4) (h5 : c.kind ≠ 5)
    (hidle : s.rfIdle = true) (hpend : s.rf.pend = none) (hcal : s.rf.calBegun = false) :
    rfTrigger ch s = rfMod (rfBegun c (disarmed rest s).wide) (disarmed rest s) := by
  have hact := rfAct_idle (rfRefuse_stateChange h4 h5 (disarmed rest s)) h5 hidle hpend
  rw [rfTrigger_one hon htrigs harmed htrig, hact, rfStart_eq (s := disarmed rest s) hcal]

section
variable {s : State} {c : RfCmd} {delay : Nat} (hon : s.isOn dRADIO = true) (hidle : s.rfIdle = true) (hpend : s.rf.pend = some c)
include hon hidle hpend

theorem pendingStart_late (hlate : c.late delay = true) : pendingStart delay s = rfLate c (rfMod (fun r => { r with pend := none }) s) := by
  unfold pendingStart
  rw [hpend]
  dsimp only
  rw [if_neg (by simp [hon, hidle]), if_pos hlate]

/-- A change of state in time starts. -/
theorem pendingStart_intime (hlate : c.late delay = false) (h4 : c.kind ≠ 4) (h5 : c.kind ≠ 5) :
    pendingStart delay s = rfStart c (rfMod (fun r => { r with pend := none }) s) := by
  unfold pendingStart
  rw [hpend]
  dsimp only
  rw [if_neg (by simp [hon, hidle]), if_neg (by simp [hlate]), rfRefuse_stateChange h4 h5]

end

theorem late_stateChange {c : RfCmd} (h4 : c.kind ≠ 4) (delay : Nat) : c.late delay = true ↔ c.latest ≠ 0xFFFF ∧ c.latest < delay := by
  unfold RfCmd.late
  rw [if_neg h4]
  simp

/-- A command has been dropped as LATE: flag and count show it, and its auto-return has begun. -/
structure DroppedLate (s t : State) (ret : Fin 4) : Prop where
  moving : t.rf.moving = some (returnState s ret)
  pend : t.rf.pend = s.rf.pend
  flag : t.regB rfsStat 2 = true
  count : t.regN 0x40100024 = min (s.regN 0x40100024 + 1) 0xFFFFFFFF
  frame : { t with rf := s.rf, evf := s.evf, regs := s.regs, dict := s.dict } = s

/-- What shows that a command has been dropped as LATE. -/
def lateShown (s : State) : State := ((s.flag rfsStat 2).bump 0x40100024).dBump 0x2100 3

theorem lateShown_frame (s : State) : ∃ r d, lateShown s = { s with regs := r, dict := d } := by
  obtain ⟨r, hflag⟩ := flag_frame s rfsStat 2
  obtain ⟨r', hbump⟩ := bump_frame { s with regs := r } 0x40100024
  obtain ⟨d, hentry⟩ := dBump_frame { s with regs := r' } 0x2100 3
  rw [lateShown, hflag, hbump]
  exact ⟨r', d, hentry⟩

theorem role_lateShown (s : State) : (lateShown s).role = s.role := by
  rw [lateShown, State.dBump, State.dPut, role_dSet_ne (key_role_ne_radio (by decide)), role_congr (State.bump_dict ..), role_congr (State.flag_dict ..)]

theorem regB_lateShown (s : State) : (lateShown s).regB rfsStat 2 = true := by
  rw [lateShown, State.dBump, regB_dPut, regB_congr (reg_bump_ne _ (by decide)), regB_flag_self s _ (by decide)]

theorem regN_lateShown (s : State) : (lateShown s).regN 0x40100024 = min (s.regN 0x40100024 + 1) 0xFFFFFFFF := by
  rw [lateShown, State.dBump, regN_dPut, regN_bump_self, State.regN, reg_flag_ne s 2 (by decide)]
  rfl

theorem rfLate_stateChange {c : RfCmd} (h5 : c.kind ≠ 5) (s : State) : DroppedLate s (rfLate c s) c.ret := by
  have hlate : rfLate c s = autoReturn c.ret (fire 0x41 (lateShown s)) := by
    unfold rfLate
    rw [if_neg h5]
    rfl
  have hrole := role_lateShown s
  have hflag := regB_lateShown s
  have hcount := regN_lateShown s
  obtain ⟨r, d, hframe⟩ := lateShown_frame s
  rw [hlate]
  rw [hframe] at hrole hflag hcount ⊢
  obtain ⟨e, he⟩ := fire_frame 0x41 { s with regs := r, dict := d }
  rw [he]
  exact ⟨congrArg some (returnState_congr hrole c.ret), rfl, hflag, hcount, rfl⟩

/-! ### Transitions -/

theorem planF0_le (p : Nat) : planF0 p ≤ 915100 := by
  by_cases hp : p < 6
  · interval_cases p <;> decide
  · exact (List.getD_eq_default _ _ (Nat.le_of_not_lt hp)).trans_le (by decide)

theorem planK_le (p : Nat) : planK p ≤ 128 := by
  by_cases hp : p < 6
  · interval_cases p <;> decide
  · exact (List.getD_eq_default _ _ (Nat.le_of_not_lt hp)).trans_le (by decide)

/-- The frequency of the LO fits its register and its entry. -/
theorem loFor_lt {ch : Nat} (hch : ch < 256) (s : State) : s.loFor ch < 2 ^ 32 := by
  have hf0 := planF0_le s.plan
  have hk := planK_le s.plan
  unfold State.loFor loWide loNarrow
  split
  · decide
  · split <;> omega

/-- A transition has ended in the state `x`. -/
structure Entered (x : Fin 6) (s t : State) : Prop where
  st : t.rf.st = x
  still : t.rf.moving = none
  locked : t.rf.locked = decide (3 ≤ x.1)
  lo : 3 ≤ x.1 → s.rf.chan < 256 → t.dU 0x2100 2 = s.loFor s.rf.chan ∧ t.regN 0x40100030 = s.loFor s.rf.chan
  frame : { t with rf := s.rf, evf := s.evf, regs := s.regs, dict := s.dict } = s

/-- The state that a transition leads to, entered. -/
def entered (x : Fin 6) (s : State) : State := rfMod (fun r => { r with st := x, moving := none, locked := decide (3 ≤ x.1) }) s

/-- The same with the LO placed from SYNTH_READY up. -/
def arrived (x : Fin 6) (s : State) : State := if 3 ≤ x.1 then placeLo s.rf.chan (entered x s) else entered x s

theorem arrived_entered (x : Fin 6) (s : State) : Entered x s (arrived x s) := by
  unfold arrived
  split
  · rename_i hx
    refine ⟨rfl, rfl, (decide_eq_true hx).symm, fun _ hch => ⟨?_, ?_⟩, rfl⟩
    · exact (dU_dPut_self _ 0x2100 2 _).trans (Nat.mod_eq_of_lt (loFor_lt hch s))
    · exact regN_setRegN_self (loFor_lt hch s) _ _
  · rename_i hx
    exact ⟨rfl, rfl, rfl, fun h => absurd h hx, rfl⟩

theorem arrived_frame (x : Fin 6) (s : State) : ∃ f r d, arrived x s = { s with rf := f, regs := r, dict := d } := by
  unfold arrived
  split
  · exact ⟨_, _, _, rfl⟩
  · exact ⟨_, s.regs, s.dict, rfl⟩

theorem arrived_cur (x : Fin 6) (s : State) : (arrived x s).rf.cur = s.rf.cur := by
  unfold arrived
  split <;> rfl

/-- A command completed: DONE, its producer, and no command under way. -/
theorem rfDone_frame (s : State) : ∃ r e, rfDone s = { s with rf := { s.rf with cur := none }, regs := r, evf := e } := by
  obtain ⟨r, hflag⟩ := flag_frame (rfMod (fun r => { r with cur := none }) s) rfsStat 0
  obtain ⟨e, hfire⟩ := fire_frame 0x40 ((rfMod (fun r => { r with cur := none }) s).flag rfsStat 0)
  rw [hflag] at hfire
  rw [rfDone, hflag]
  exact ⟨r, e, hfire⟩

theorem rfDone_eq (s : State) : ∃ e, rfDone s = { (rfMod (fun r => { r with cur := none }) s).flag rfsStat 0 with evf := e } :=
  fire_frame 0x40 _

theorem reg_rfDone {a : Nat} (h : a ≠ rfsStat) (s : State) : (rfDone s).reg a = s.reg a := by
  obtain ⟨e, hdone⟩ := rfDone_eq s
  rw [hdone]
  exact reg_flag_ne (rfMod (fun r => { r with cur := none }) s) 0 h

theorem regB_rfDone (s : State) : (rfDone s).regB rfsStat 0 = true := by
  obtain ⟨e, h⟩ := rfDone_eq s
  rw [h]
  exact regB_flag_self (rfMod (fun r => { r with cur := none }) s) rfsStat (by decide)

theorem Entered.done {x : Fin 6} {s t : State} (h : Entered x s t) : Entered x s (rfDone t) := by
  obtain ⟨e, hdone⟩ := rfDone_eq t
  obtain ⟨hst, hstill, hlocked, hlo, hframe⟩ := h
  rw [hdone]
  refine ⟨hst, hstill, hlocked, fun hx hch => ?_, hframe⟩
  obtain ⟨hentry, hreg⟩ := hlo hx hch
  exact ⟨hentry,
    (congrArg BitVec.toNat (reg_flag_ne (rfMod (fun r => { r with cur := none }) t) (a := rfsStat) (b := 0x40100030) 0 (by decide))).trans hreg⟩

section
variable {x : Fin 6} {s : State} (hmoving : s.rf.moving = some x)
include hmoving

/-- The end of a transition puts a burst on air, or completes the change of state under way, or neither. -/
theorem transitionDone_eq : transitionDone s =
    if x = 5 then burstOnAir (rfMod (fun r => { r with frame := true }) (arrived x s))
    else if s.rf.cur.any (fun c => decide (x.1 ≤ 3 ∧ c.kind = x)) then rfDone (arrived x s) else arrived x s := by
  unfold transitionDone
  rw [hmoving, ← arrived_cur x s]
  change (if x = 5 then burstOnAir (rfMod (fun r => { r with frame := true }) (arrived x s))
    else match (arrived x s).rf.cur with
      | some c => if x.1 ≤ 3 ∧ c.kind = x then rfDone (arrived x s) else arrived x s
      | none => arrived x s) = _
  cases (arrived x s).rf.cur with
  | none => rfl
  | some c => simp

theorem transitionDone_enters (h5 : x ≠ 5) : Entered x s (transitionDone s) := by
  rw [transitionDone_eq hmoving, if_neg h5]
  split
  · exact (arrived_entered x s).done
  · exact arrived_entered x s

theorem transitionDone_completes {c : RfCmd} (h5 : x ≠ 5) (hx : x.1 ≤ 3) (hcur : s.rf.cur = some c) (hkind : c.kind = x) :
    transitionDone s = rfDone (arrived x s) := by
  rw [transitionDone_eq hmoving, if_neg h5, hcur]
  exact if_pos (decide_eq_true ⟨hx, hkind⟩)

end

theorem transitionDone_tx {s : State} (hmoving : s.rf.moving = some 5) :
    transitionDone s = burstOnAir (rfMod (fun r => { r with frame := true }) (arrived 5 s)) :=
  (transitionDone_eq hmoving).trans (if_pos rfl)

/-- The first chips of a burst leave. -/
theorem burstOnAir_some {s : State} (h : s.txm.burst ≠ []) :
    ∃ r d, burstOnAir s = { s with txm := { s.txm with onAir := true }, regs := r, dict := d } := by
  unfold burstOnAir
  rw [if_neg (by simpa using h)]
  dsimp only
  obtain ⟨r, hcount⟩ := setRegF_frame (txmMod (fun t => { t with onAir := true }) s) 0x40140004 3 0 s.txm.burst.length
  obtain ⟨r', hbump⟩ := bump_frame { txmMod (fun t => { t with onAir := true }) s with regs := r } 0x40140024
  obtain ⟨d, hentry⟩ := dBump_frame { txmMod (fun t => { t with onAir := true }) s with regs := r' } 0x2200 0x4B
  rw [txmMod_txm, hcount, hbump]
  exact ⟨r', d, hentry⟩

/-- The transition to TX has ended: the burst is on air. -/
theorem transitionDone_onAir {s : State} (hmoving : s.rf.moving = some 5) (hburst : s.txm.burst ≠ []) : ∃ f r d,
    transitionDone s = { s with rf := f, txm := { s.txm with onAir := true }, regs := r, dict := d } ∧
      f.st = 5 ∧ f.frame = true ∧ f.moving = none := by
  obtain ⟨hst, hstill, -, -, -⟩ := arrived_entered 5 s
  obtain ⟨f, r, d, harrived⟩ := arrived_frame 5 s
  rw [transitionDone_tx hmoving]
  rw [harrived] at hst hstill ⊢
  obtain ⟨r', d', hair⟩ := burstOnAir_some (s := rfMod (fun r => { r with frame := true }) { s with rf := f, regs := r, dict := d }) hburst
  exact ⟨{ f with frame := true }, r', d', hair, hst, rfl, hstill⟩

/-! ### The end of a burst -/

/-- Nothing is on air and the auto-return of the command has begun. -/
structure BurstEnded (s t : State) (ret : Fin 4) : Prop where
  burst : t.txm.burst = []
  silent : t.txm.onAir = false
  frame : t.rf.frame = false
  cur : t.rf.cur = none
  moving : t.rf.moving = some (returnState s ret)
  others : OnlyRadio s t

theorem burstEnded_autoReturn {s w : State} (hothers : OnlyRadio s w) (hrole : w.role = s.role) (hburst : w.txm.burst = []) (hsilent : w.txm.onAir = false)
    (hcur : w.rf.cur = none) (ret : Fin 4) : BurstEnded s (autoReturn ret w) ret :=
  ⟨hburst, hsilent, rfl, hcur, congrArg some (returnState_congr hrole ret), hothers⟩

theorem BurstEnded.trans {s u t : State} {ret : Fin 4} (h : BurstEnded u t ret) (hothers : OnlyRadio s u) (hrole : u.role = s.role) :
    BurstEnded s t ret := by
  obtain ⟨hburst, hsilent, hframe, hcur, hmoving, hrest⟩ := h
  exact ⟨hburst, hsilent, hframe, hcur, hmoving.trans (congrArg some (returnState_congr hrole ret)), hothers.trans hrest⟩

/-- The burst over, and its command completed. -/
theorem rfDone_burstOver (s : State) : ∃ r e, rfDone ((burstOver s).flag txmStat 0) =
    { burstGone s with rf := { s.rf with cur := none }, regs := r, evf := e } := by
  obtain ⟨r, hover⟩ := burstOver_frame s
  obtain ⟨r', hflag⟩ := flag_frame (burstOver s) txmStat 0
  rw [hflag, hover]
  exact rfDone_frame _

theorem reg_rfDone_burstOver (c : Fin 8) (s : State) : (rfDone ((burstOver s).flag txmStat 0)).reg (carStat c) = s.reg (carStat c) := by
  rw [reg_rfDone (carStat_ne (by decide) c), reg_flag_ne _ 0 (carStat_ne (by decide) c), reg_burstOver_carStat]

theorem reg_autoReturn (ret : Fin 4) (s : State) (a : Nat) : (autoReturn ret s).reg a = s.reg a := rfl

section
variable {s : State} {c : RfCmd} (hcur : s.rf.cur = some c) (hpend : s.rf.pend = none) (gamma : BitVec 32) (fb : Byte)
include hcur hpend

theorem txEnded_eq : txEnded gamma fb s = autoReturn c.ret (txMeasured gamma fb (rfDone ((burstOver s).flag txmStat 0))) := by
  have hmeasured := measured_txMeasured gamma fb (rfDone ((burstOver s).flag txmStat 0))
  obtain ⟨r, e, hdone⟩ := rfDone_burstOver s
  have hpend' : (txMeasured gamma fb (rfDone ((burstOver s).flag txmStat 0))).rf.pend = none := by
    rw [hmeasured.pend, hdone]
    exact hpend
  unfold txEnded
  rw [hcur]
  dsimp only
  rw [if_neg (by simp [hpend'])]

theorem txEnded_ended : BurstEnded s (txEnded gamma fb s) c.ret := by
  have hmeasured := measured_txMeasured gamma fb (rfDone ((burstOver s).flag txmStat 0))
  rw [txEnded_eq hcur hpend]
  obtain ⟨r, e, hdone⟩ := rfDone_burstOver s
  generalize rfDone ((burstOver s).flag txmStat 0) = v at hdone hmeasured ⊢
  obtain ⟨hradio, hrole, htxm, hnone, -, -⟩ := hmeasured
  have hover : OnlyRadio s v := by rw [hdone]; rfl
  have hstill : v.role = s.role := by rw [hdone]; rfl
  have hgone : v.txm.burst = [] ∧ v.txm.onAir = false ∧ v.rf.cur = none := by rw [hdone]; exact ⟨rfl, rfl, rfl⟩
  obtain ⟨hburst, hsilent, hcleared⟩ := hgone
  exact burstEnded_autoReturn (hover.trans hradio) (hrole.trans hstill)
    (by rw [htxm]; exact hburst) (by rw [htxm]; exact hsilent) (hnone.trans hcleared) c.ret

theorem txEnded_status (k : Fin 8) : (txEnded gamma fb s).reg (carStat k) = s.reg (carStat k) := by
  rw [txEnded_eq hcur hpend, reg_autoReturn, (measured_txMeasured gamma fb _).status k, reg_rfDone_burstOver]

end

theorem regF_congr {s t : State} {a : Nat} (h : t.reg a = s.reg a) (hi lo : Nat) : t.regF a hi lo = s.regF a hi lo := by
  unfold State.regF State.regN
  rw [h]

/-- The last carrier taken from the burst, with its status OK. -/
def lastLeft (k : Carrier) (s : State) : State := (carStatus k.num stOk (txmMod (fun t => { t with burst := [] }) s)).setRegF 0x40140004 3 0 0

theorem lastLeft_frame (k : Carrier) (s : State) : ∃ x r, lastLeft k s = { s with txm := x, regs := r } := by
  obtain ⟨r, hstatus⟩ := carStatus_frame k.num stOk (txmMod (fun t => { t with burst := [] }) s)
  rw [lastLeft, hstatus]
  exact ⟨_, setRegF_frame _ 0x40140004 3 0 0⟩

section
variable {s : State} {c : RfCmd} {k : Carrier} (hcur : s.rf.cur = some c) (hpend : s.rf.pend = none) (hburst : s.txm.burst = [k])
  (gamma : BitVec 32) (fb : Byte)
include hcur hpend

/-- The same from a state in which the last carrier's status has been set. -/
theorem txEnded_from {u : State} (hu : ∃ x r, u = { s with txm := x, regs := r }) (hstatus : u.regF (carStat k.num) 23 16 = 0) :
    BurstEnded s (txEnded gamma fb u) c.ret ∧ (txEnded gamma fb u).regF (carStat k.num) 23 16 = 0 := by
  obtain ⟨x, r, rfl⟩ := hu
  have hended := txEnded_ended (s := { s with txm := x, regs := r }) hcur hpend gamma fb
  have hkept := txEnded_status (s := { s with txm := x, regs := r }) hcur hpend gamma fb k.num
  exact ⟨hended.trans rfl rfl, (regF_congr hkept 23 16).trans hstatus⟩

include hburst

theorem txFrameEnd_one (hst : s.rf.st = 5) (hframe : s.rf.frame = true) :
    BurstEnded s (txFrameEnd gamma fb s) c.ret ∧ (txFrameEnd gamma fb s).regF (carStat k.num) 23 16 = 0 := by
  have hexec : txFrameEnd gamma fb s = txEnded gamma fb (carStatus k.num stOk s) := by
    unfold txFrameEnd
    rw [if_neg (by simp [hst, hframe]), hburst]
    rfl
  obtain ⟨r, hr⟩ := carStatus_frame k.num stOk s
  rw [hexec]
  exact txEnded_from hcur hpend gamma fb ⟨s.txm, r, hr⟩ (regF_carStatus k.num stOk s)

theorem carrierEnd_last (hair : s.txm.onAir = true) :
    BurstEnded s (carrierEnd k.num gamma fb s) c.ret ∧ (carrierEnd k.num gamma fb s).regF (carStat k.num) 23 16 = 0 := by
  have hlast : s.txm.burst.filter (fun j => j.num != k.num) = [] := by simp [hburst]
  have hexec : carrierEnd k.num gamma fb s = txEnded gamma fb (lastLeft k s) := by
    unfold carrierEnd
    rw [if_neg (by simp [hair, hburst]), txmMod, hlast]
    exact if_pos rfl
  have hstatus : (lastLeft k s).regF (carStat k.num) 23 16 = 0 := by
    rw [lastLeft, regF_congr (reg_setRegF_ne _ _ _ _ (carStat_ne (by decide) k.num)), regF_carStatus]
    rfl
  rw [hexec]
  exact txEnded_from hcur hpend gamma fb (lastLeft_frame k s) hstatus

end

/-! ### ANT_FAULT, a closed listen window, and a lost lock -/

theorem antFault_healthEvent (id unit act : Nat) (inj : Bool) (s : State) : (healthEvent id unit act inj s).antFault = s.antFault := by
  unfold State.antFault State.dU
  rw [dGet_healthEvent (by decide)]

theorem antFaultSet_fault (s : State) : (antFaultSet s).antFault = true := by
  rw [antFaultSet, antFault_healthEvent, State.antFault, dU_dPut_self]
  rfl

theorem regB_antFaultSet (s : State) : (antFaultSet s).regB rfsStat 5 = true := by
  rw [antFaultSet, regB_congr (reg_healthEvent (by decide) ..), regB_dPut, regB_flag_self s rfsStat (by decide)]

/-- The state in which the fault is set, before the burst is cut. -/
def faulted (gamma : BitVec 32) (s : State) : State := antFaultSet (gammaReport gamma s)

theorem measured_faulted (gamma : BitVec 32) (s : State) : Measured s (faulted gamma s) :=
  (measured_gammaReport gamma s).trans (measured_antFaultSet _)

/-- A burst of one carrier has been cut. -/
structure Cut (st : Status) (k : Carrier) (s t : State) : Prop where
  burst : t.txm.burst = []
  silent : t.txm.onAir = false
  seq : t.rf = s.rf
  dict : t.dict = s.dict
  others : OnlyRadio s t
  status : t.regF (carStat k.num) 23 16 = (if s.txm.onAir then st else stLate).toNat
  stat : t.reg rfsStat = s.reg rfsStat

/-- Of a burst cut short, before it is over. -/
def cutting (st : Status) (k : Carrier) (s : State) : State :=
  (txmMod (fun t => { t with fit := none }) (carStatus k.num (if s.txm.onAir then st else stLate) s)).flag txmStat 3

theorem cutting_frame (st : Status) (k : Carrier) (s : State) : ∃ r, cutting st k s = { s with txm := { s.txm with fit := none }, regs := r } := by
  obtain ⟨r, hstatus⟩ := carStatus_frame k.num (if s.txm.onAir then st else stLate) s
  rw [cutting, hstatus]
  exact flag_frame _ txmStat 3

theorem regF_txmMod (f : Txm → Txm) (s : State) (a hi lo : Nat) : (txmMod f s).regF a hi lo = s.regF a hi lo := rfl

theorem regF_cutting (st : Status) (k : Carrier) (s : State) :
    (cutting st k s).regF (carStat k.num) 23 16 = (if s.txm.onAir then st else stLate).toNat := by
  rw [cutting, regF_flag_ne _ 3 23 16 (carStat_ne (by decide) k.num), regF_txmMod, regF_carStatus]

theorem burstCut_cut {s : State} {k : Carrier} (h : s.txm.burst = [k]) (st : Status) : Cut st k s (burstCut st s) := by
  have hstat := (keepsStat_burstCut st s).stat
  have hcut : burstCut st s = burstOver (cutting st k s) := burstCut_one h st
  have hstatus := (regF_congr (reg_burstOver_carStat k.num _) 23 16).trans (regF_cutting st k s)
  obtain ⟨r, hcutting⟩ := cutting_frame st k s
  obtain ⟨r', hover⟩ := burstOver_frame (cutting st k s)
  rw [hcut] at hstat ⊢
  rw [hover, hcutting] at hstat hstatus ⊢
  exact ⟨rfl, rfl, rfl, rfl, rfl, hstatus, hstat⟩

theorem antFault_congr {s t : State} (h : t.dict = s.dict) : t.antFault = s.antFault := by
  unfold State.antFault State.dU State.dGet
  rw [h]

section
variable {s : State} {c : RfCmd} {gamma : BitVec 32} (hcur : s.rf.cur = some c)
include hcur

theorem antFaultTrip_eq (hst : s.rf.st = 5) (hepa : s.epa = false) (hover : gammaOver (gammaSq gamma) 800 = true)
    (hkept : (burstCut stRegulatory (faulted gamma s)).rf.pend = none) : antFaultTrip gamma s =
    autoReturn c.ret (rfMod (fun r => { r with cur := none, frame := false }) (burstCut stRegulatory (faulted gamma s))) := by
  unfold antFaultTrip
  rw [if_neg (by simp [hst, hepa, hover]), hcur]
  dsimp only
  refine if_neg ?_
  rw [rfMod_rf]
  dsimp only
  rw [← faulted, hkept]
  simp

/-- |Γ| above 0.8 ends the burst and sets ANT_FAULT. -/
theorem antFaultTrip_one {k : Carrier} (hpend : s.rf.pend = none) (hburst : s.txm.burst = [k]) (hst : s.rf.st = 5) (hepa : s.epa = false)
    (hover : gammaOver (gammaSq gamma) 800 = true) :
    BurstEnded s (antFaultTrip gamma s) c.ret ∧ (antFaultTrip gamma s).antFault = true ∧ (antFaultTrip gamma s).regB rfsStat 5 = true ∧
      (antFaultTrip gamma s).regF (carStat k.num) 23 16 = (if s.txm.onAir then 5 else 3) := by
  obtain ⟨hradio, hrole, htxm, -, hwaits, -⟩ := measured_faulted gamma s
  have hfault : (faulted gamma s).antFault = true := antFaultSet_fault _
  have hshown : (faulted gamma s).regB rfsStat 5 = true := regB_antFaultSet _
  have hexec := antFaultTrip_eq (gamma := gamma) hcur hst hepa hover
  obtain ⟨hgone, hsilent, hseq, hdict, hothers, hstatus, hstat⟩ := burstCut_cut (s := faulted gamma s) (by rw [htxm, hburst]) stRegulatory
  generalize burstCut stRegulatory (faulted gamma s) = u at hexec hgone hsilent hseq hdict hothers hstatus hstat
  rw [hexec (by rw [hseq, hwaits, hpend])]
  refine ⟨burstEnded_autoReturn (w := rfMod (fun r => { r with cur := none, frame := false }) u)
    (hradio.trans hothers) ((role_congr hdict).trans hrole) hgone hsilent rfl c.ret, ?_, ?_, ?_⟩
  · exact (antFault_congr hdict).trans hfault
  · exact (regB_congr hstat 5).trans hshown
  · rw [htxm] at hstatus
    refine hstatus.trans ?_
    split <;> rfl

end

/-- A listen window closes with nothing found. -/
theorem rxWindowClose_empty {s : State} {c : RfCmd} (hst : s.rf.st = 4) (hcur : s.rf.cur = some c) (hkind : c.kind = 4) (hwindow : c.window ≠ 0)
    (hframe : s.rf.frame = false) (hwide : s.wide = false) (hpend : s.rf.pend = none) : rxWindowClose s = autoReturn c.ret (rfDone s) := by
  unfold rxWindowClose
  rw [hcur]
  dsimp only
  rw [if_pos (by simp [hst, hkind, hwindow, hframe, hwide]), if_neg (by simp [hpend])]

/-- The loss of the lock logged, before what was on air is given up. -/
def lockLost (s : State) : State := healthEvent 0x0F 0 0 false (s.flag rfsStat 3)

/-- A lost lock in RX or TX: what changes beside the sequencer. -/
theorem synthUnlock_lost {s : State} (h : s.rf.st = 4 ∨ s.rf.st = 5) : ∃ u, KeepsStat (lockLost s) u ∧ Aside (lockLost s) u ∧
    synthUnlock s = rfMod (fun r => { r with moving := some 2, cur := none, frame := false, locked := false }) u := by
  refine ⟨if (lockLost s).rf.st = 5 then burstCut stRegulatory (lockLost s) else rxDiscard (lockLost s), ?_, ?_, ?_⟩
  · split
    · exact keepsStat_burstCut _ _
    · exact keepsStat_rxDiscard _
  · exact aside_ite (aside_burstCut _ _) (aside_rxDiscard _)
  · unfold synthUnlock
    refine if_neg ?_
    rintro ⟨h4, h5⟩
    exact h.elim h4 h5

theorem synthUnlock_spec {s : State} (h : s.rf.st = 4 ∨ s.rf.st = 5) : (synthUnlock s).rf.moving = some 2 ∧ (synthUnlock s).rf.locked = false ∧
    (synthUnlock s).rf.frame = false ∧ (synthUnlock s).rf.cur = none ∧ (synthUnlock s).regB rfsStat 3 = true ∧ (synthUnlock s).tmr = s.tmr ∧
    (synthUnlock s).pcc = s.pcc ∧ (synthUnlock s).lnk = s.lnk := by
  have hflag : (lockLost s).regB rfsStat 3 = true := by
    rw [lockLost, regB_congr (reg_healthEvent (by decide) ..), regB_flag_self s _ (by decide)]
  have hlogged : OnlyRadio s (lockLost s) := OnlyRadio.trans (t := s.flag rfsStat 3) rfl (measured_healthEvent ..).radio
  obtain ⟨u, ⟨hstat, hlnk⟩, haside, hu⟩ := synthUnlock_lost h
  rw [hu]
  exact ⟨rfl, rfl, rfl, rfl, (regB_congr hstat 3).trans hflag, haside.timers.trans hlogged.tmr, haside.power.trans hlogged.pcc, hlnk.trans hlogged.lnk⟩

end Sys2Proof.Machine

namespace Sys2Proof.Proofs
open Sys2Proof.Machine

/-- Settles O33: each event is the start, the drop, the arrival or the end that the sequencer's state makes of it, and the auto-return that follows. -/
theorem sequencerEvents : Obligations.SequencerEvents := by
  intro s ch c delay gamma fb k h rest hidle hon home bursted
  have ended {t : State} (hend : BurstEnded s t c.ret) : bursted t := by
    obtain ⟨hburst, hsilent, hframe, hcur, hmoving, hothers⟩ := hend
    exact ⟨hburst, hsilent, hframe, hcur, hmoving, hothers.tmr, hothers.pcc, hothers.rx, hothers.slu⟩
  have changes (hkind : c.kind = 1 ∨ c.kind = 2 ∨ c.kind = 3) : c.kind ≠ 4 ∧ c.kind ≠ 5 := by
    rcases hkind with h | h | h <;> rw [h] <;> decide
  have next {t : State} (ht : t.lnk = s.lnk) : (.next (settle t) : Out) = .next t := by rw [settle_idle (by rw [ht, hidle])]
  refine ⟨fun hkind hmoving hframe hcal => ⟨fun htrigs hpend harmed htrig => ?_, fun hpend hlatest => ?_, fun hpend hbound hlate => ?_⟩,
    fun x hmoving h5 => ?_, fun hmoving hburst => ?_, fun hst hframe hcur hpend hburst => ⟨?_, fun hair => ?_, fun hepa hover => ?_⟩,
    fun hst hcur hkind hwindow hframe hwide hpend => ?_, fun hst => ?_⟩
  · obtain ⟨h4, h5⟩ := changes hkind
    have hstart := rfTrigger_starts hon htrigs harmed htrig h4 h5 ((rfIdle_iff s).2 ⟨hmoving, hframe⟩) hpend hcal
    exact ⟨_, congrArg Host.Outcome.next ((congrArg settle hstart).trans (settle_idle hidle)), ⟨rfl, rfl, rfl, rfl⟩, rfl, rfl, rfl⟩
  · obtain ⟨h4, h5⟩ := changes hkind
    have hlate : c.late delay = false := by
      rw [← Bool.not_eq_true, late_stateChange h4]
      omega
    have hstart := pendingStart_intime hon ((rfIdle_iff s).2 ⟨hmoving, hframe⟩) hpend hlate h4 h5
    rw [rfStart_eq (s := rfMod (fun r => { r with pend := none }) s) hcal] at hstart
    exact ⟨_, congrArg Host.Outcome.next ((congrArg settle hstart).trans (settle_idle hidle)), ⟨rfl, rfl, rfl, rfl⟩, rfl, rfl⟩
  · obtain ⟨h4, h5⟩ := changes hkind
    have hdrop := pendingStart_late hon ((rfIdle_iff s).2 ⟨hmoving, hframe⟩) hpend ((late_stateChange h4 delay).2 ⟨hbound, hlate⟩)
    obtain ⟨hhome, hnone, hflag, hcount, hothers⟩ := rfLate_stateChange h5 (rfMod (fun r => { r with pend := none }) s)
    rw [← hdrop] at hhome hnone hflag hcount hothers
    have hrest := congrArg (fun w : State => { w with rf := s.rf }) hothers
    exact ⟨_, next (congrArg State.lnk hrest :), hnone, hhome, hflag, hcount, hrest⟩
  · obtain ⟨hst, hstill, hlocked, hlo, hothers⟩ := transitionDone_enters hmoving h5
    refine ⟨_, next (congrArg State.lnk hothers :), hst, hstill, hlocked, hlo, fun hx hcur hkind => ?_, hothers⟩
    rw [transitionDone_completes hmoving h5 hx hcur hkind]
    obtain ⟨r, e, hdone⟩ := rfDone_frame (arrived x s)
    exact ⟨by rw [hdone], regB_rfDone _⟩
  · obtain ⟨f, r, d, hair, hst, hframe, hstill⟩ := transitionDone_onAir hmoving hburst
    exact ⟨_, congrArg Host.Outcome.next ((congrArg settle hair).trans (settle_idle hidle)), hst, hframe, hstill, rfl, rfl⟩
  · obtain ⟨hend, hstatus⟩ := txFrameEnd_one hcur hpend hburst gamma fb hst hframe
    exact ⟨_, next hend.others.lnk, ended hend, hstatus⟩
  · obtain ⟨hend, hstatus⟩ := carrierEnd_last hcur hpend hburst gamma fb hair
    exact ⟨_, next hend.others.lnk, ended hend, hstatus⟩
  · obtain ⟨hend, hfault, hflag, hstatus⟩ := antFaultTrip_one hcur hpend hburst hst hepa hover
    exact ⟨_, next hend.others.lnk, ended hend, hfault, hflag, hstatus⟩
  · have hclose := rxWindowClose_empty hst hcur hkind hwindow hframe hwide hpend
    have hflag := regB_rfDone s
    obtain ⟨r, e, hdone⟩ := rfDone_frame s
    rw [hdone] at hclose hflag
    exact ⟨_, congrArg Host.Outcome.next hclose, rfl, rfl, hflag, rfl⟩
  · obtain ⟨hmoving, hlocked, hframe, hcur, hflag, htmr, hpcc, hlnk⟩ := synthUnlock_spec hst
    exact ⟨_, next hlnk, hmoving, hlocked, hframe, hcur, hflag, htmr, hpcc⟩

end Sys2Proof.Proofs
end

section
/-! SUPPORT. Calibration: requests, steps, results and automatic triggers (R132 to R137), and ANT_FAULT cleared by a write (R140). -/

namespace Sys2Proof.Machine

/-! ### A request -/

theorem calBits_frame (done : Nat) (s : State) : ∃ r, calBits done s = { s with regs := r } := by
  obtain ⟨r, hdone⟩ := setRegF_frame s 0x40100044 21 16 done
  rw [calBits, hdone]
  exact setRegF_frame _ 0x40100044 13 8 _

theorem calAsk_off {s : State} (h : s.isOn dRADIO = false) (set : Nat) : calAsk set s = calEnd stNotReady s := if_pos (by simp [h])

/-- A set of calibrations asked for, and its outcome pending. -/
def calAsked (set : Nat) (s : State) : State := rfMod (fun r => { r with calPend := r.calPend ||| BitVec.ofNat 6 set }) (s.resPend 0x2100 0x12)

theorem calPend_asked {set : Nat} (hset : set % 64 ≠ 0) (p : BitVec 6) : p ||| BitVec.ofNat 6 set ≠ 0#6 := by
  rw [Ne, BitVec.or_eq_zero_iff]
  rintro ⟨-, h⟩
  exact hset (congrArg BitVec.toNat h)

/-- Outside wideband RX every calibration that is asked for is still to run. -/
theorem calAsk_on {s : State} {set : Nat} (hon : s.isOn dRADIO = true) (hrest : s.wide = false ∨ s.rf.st ≠ 4) (hset : set % 64 ≠ 0) :
    calAsk set s = calBits 0 (calAsked set s) := by
  have hlive : (s.wide && s.rf.st == 4) = false := by
    rcases hrest with h | h <;> simp [h]
  have hlive' : ((s.resPend 0x2100 0x12).wide && (s.resPend 0x2100 0x12).rf.st == 4) = false := hlive
  have hwant : BitVec.ofNat 6 (set % 64) = BitVec.ofNat 6 set := BitVec.eq_of_toNat_eq (by simp)
  obtain ⟨r, hbits⟩ := calBits_frame 0 (calAsked set s)
  unfold calAsk
  rw [if_neg (by simp [hon])]
  dsimp only
  rw [hlive', if_neg Bool.false_ne_true, Nat.sub_zero, hwant, ← calAsked, hbits]
  exact if_neg (calPend_asked hset _)

theorem takes_calRequest (v : BitVec 32) : ∃ r, Takes 0x2100 0x11 r (leBytes 4 v.toNat) :=
  ⟨_, by decide, by decide, by decide, rfl, rfl, valueCheck_number rfl rfl _, rfl, fun _ => rfl⟩

/-- A new number asks for the selected set, and is stored. -/
theorem execCalRequest_push {s : State} {src : Src} (h : Asks s src) {v : BitVec 32} (hnew : leBytes 4 v.toNat ≠ s.dGet 0x2100 0x11) (tid : Byte) :
    ∃ l a, linkNum src = some l ∧ a.pdu = writeResp tid 0x2100 0x11 0 ∧
      exec (.calRequest src tid v) s = .next (((calAsk (s.dU 0x2100 0x10) s).dSet 0x2100 0x11 (leBytes 4 v.toNat)).push l a) := by
  obtain ⟨r, htakes⟩ := takes_calRequest v
  have hact : entryAct {} 0x2100 0x11 (leBytes 4 v.toNat) s = (stOk, calAsk (s.dU 0x2100 0x10) s) := rfl
  have hwrite : writeEntry src {} 0x2100 0x11 (leBytes 4 v.toNat) s =
      (stOk, (calAsk (s.dU 0x2100 0x10) s).dSet 0x2100 0x11 (leBytes 4 v.toNat)) := by
    rw [htakes.write h, entryStore_act (fun _ => hnew) rfl hact]
    rfl
  obtain ⟨l, a, hlink, hpdu, hexec⟩ := hostWrite_answered h (i := 0x2100) (x := 0x11) (by decide) rfl (fun _ => rfl) hwrite tid
  exact ⟨l, a, hlink, hpdu, congrArg Host.Outcome.next hexec⟩

/-! ### A set that has ended -/

/-- The outcome of a calibration set stands in CAL_STATUS. -/
structure CalEnded (st : Status) (s t : State) : Prop where
  status : t.dGet 0x2100 0x12 = [st]
  complete : (t.resOf 0x2100 0x12).pending = false
  frame : ∃ d r x, t = { s with dict := d, results := r, regs := x }

theorem calEnd_ended (st : Status) (s : State) : CalEnded st s (calEnd st s) := by
  obtain ⟨r, hr⟩ := setRegF_frame s 0x40100044 7 0 st.toNat
  rw [calEnd, hr]
  refine ⟨dGet_produce_self .., ?_, _, _, r, rfl⟩
  rw [State.produceSt, resOf_produce_self]

/-! ### A step -/

theorem calNext_lowest {s : State} {i : Nat} (hi : i < 6) (hset : s.rf.calPend.getLsbD i = true) (hlow : ∀ j, j < i → s.rf.calPend.getLsbD j = false) :
    s.calNext = some i := by
  rw [State.calNext, List.find?_range_eq_some]
  exact ⟨hset, List.mem_range.2 hi, fun j hj => by simp [hlow j hj]⟩

theorem calIdle_rest {s : State} (hon : s.isOn dRADIO = true) (hpend : s.rf.pend = none) (hmoving : s.rf.moving = none)
    (hst : s.rf.st = 2 ∨ s.rf.st = 3) (i : Nat) : s.calIdle i = true := by
  rcases hst with h | h <;> simp [State.calIdle, hon, hpend, hmoving, h]

section
variable {s : State} {i : Nat} (hi : i < 5) (hnext : s.calNext = some i) (hidle : s.calIdle i = true) (r : BitVec 32) (rej : BitVec 16) (gamma : BitVec 32)
include hi hnext hidle

/-- A calibration other than the antenna-match probe is never skipped. -/
theorem calStep_runs (finishes : Bool) : calStep finishes r rej gamma s =
    if finishes then calLeave i none (calResult i r rej gamma s) else rfMod (fun q => { q with calBegun := true }) s := by
  have hprobe : i ≠ 5 := by omega
  unfold calStep
  rw [hnext]
  dsimp only
  rw [if_neg (by simp [hidle]), if_neg (fun h => hprobe h.1), if_neg (fun h => hprobe h.1)]

end

theorem dI_dPut_ne (s : State) {x y i j : Nat} (v : Nat) (h : key i j ≠ key x y) : (s.dPut x y v).dI i j = s.dI i j := by
  unfold State.dI
  rw [dGet_dPut_ne s v h]

/-- The temperature and the supply noted at a run of bits 0 to 3 (R135). -/
def calNoted (s : State) : State := rfMod (fun q => { q with calTemp := s.dI 0x3600 0x33, calSupply := s.pcc.vmain }) s

/-- Bits 0 to 3 change the corrections in force, and note the temperature and the supply. -/
theorem calResult_noted {i : Nat} (hi : i < 4) (r : BitVec 32) (rej : BitVec 16) (gamma : BitVec 32) (s : State) :
    ∃ x d, calResult i r rej gamma s = { calNoted s with regs := x, dict := d } := by
  have htemp : (s.dPut 0x2100 0x16 (s.dU 0x3600 0x33)).dI 0x3600 0x33 = s.dI 0x3600 0x33 := dI_dPut_ne s _ (by decide)
  unfold calResult
  simp only [hi, if_true, htemp]
  interval_cases i
  · exact ⟨_, _, rfl⟩
  · exact ⟨_, _, rfl⟩
  · exact ⟨_, _, rfl⟩
  · exact ⟨_, _, rfl⟩

theorem calResult_bit4 (r : BitVec 32) (rej : BitVec 16) (gamma : BitVec 32) (s : State) : calResult 4 r rej gamma s = s := rfl

/-- A sequencer at rest stays or enters RX. -/
theorem wideRest_frame (s : State) : ∃ m, wideRest s = rfMod (fun r => { r with moving := m }) s := by
  unfold wideRest
  split
  · exact ⟨some 4, rfl⟩
  · exact ⟨s.rf.moving, rfl⟩

/-- A calibration has completed and left the set. -/
structure CalLeft (i : Nat) (s t : State) : Prop where
  left : t.rf.calPend = s.rf.calPend &&& ~~~(1#6 <<< i)
  begun : t.rf.calBegun = false
  ended : t.rf.calPend = 0 → t.dGet 0x2100 0x12 = [0] ∧ (t.resOf 0x2100 0x12).pending = false
  temp : t.rf.calTemp = s.rf.calTemp
  supply : t.rf.calSupply = s.rf.calSupply
  frame : { t with rf := s.rf, regs := s.regs, dict := s.dict, results := s.results } = s

/-- A calibration taken from those still to run. -/
def calTaken (i : Nat) (s : State) : State :=
  rfMod (fun r => { r with calPend := r.calPend &&& ~~~(1#6 <<< i), calBegun := false, calAband := 0 }) s

/-- The same, shown as done. -/
def calWithout (i : Nat) (s : State) : State := calBits (s.regF 0x40100044 21 16 ||| 2 ^ i) (calTaken i s)

theorem calWithout_frame (i : Nat) (s : State) : ∃ x, calWithout i s = { calTaken i s with regs := x } := calBits_frame _ _

theorem calLeave_done (i : Nat) (s : State) :
    calLeave i none s = if (calWithout i s).rf.calPend = 0 then wideRest (calEnd stOk (calWithout i s)) else calWithout i s := rfl

theorem calLeave_left (i : Nat) (s : State) : CalLeft i s (calLeave i none s) := by
  obtain ⟨hstatus, hcomplete, d, r, y, hend⟩ := calEnd_ended stOk (calWithout i s)
  obtain ⟨m, hrest⟩ := wideRest_frame (calEnd stOk (calWithout i s))
  obtain ⟨x, hwithout⟩ := calWithout_frame i s
  rw [calLeave_done]
  split
  · rw [hrest]
    rw [hend, hwithout] at hstatus hcomplete ⊢
    exact ⟨rfl, rfl, fun _ => ⟨hstatus, hcomplete⟩, rfl, rfl, rfl⟩
  · rename_i hleft
    rw [hwithout] at hleft ⊢
    exact ⟨rfl, rfl, fun h => absurd h hleft, rfl, rfl, rfl⟩

/-! ### Automatic triggers, and the image rejection -/

section
variable {s : State}

theorem calAuto_moved (hmoved : 100 < (s.dI 0x3600 0x33 - s.rf.calTemp).natAbs ∨ 30 < ((s.pcc.vmain : Int) - s.rf.calSupply).natAbs)
    (hon : s.isOn dRADIO = true) : ∃ r, calAuto s =
      { rfMod (fun r => { r with calPend := r.calPend ||| (if s.wide then 3#6 else 15#6) }) s with regs := r } := by
  unfold calAuto
  dsimp only
  rw [if_pos ⟨hmoved, hon⟩]
  exact calBits_frame _ _

theorem calAuto_still (htemp : (s.dI 0x3600 0x33 - s.rf.calTemp).natAbs ≤ 100) (hsupply : ((s.pcc.vmain : Int) - s.rf.calSupply).natAbs ≤ 30) :
    calAuto s = s := by
  refine if_neg ?_
  rintro ⟨h, -⟩
  omega

theorem imageRejUpdate_off (h : s.wide = false ∨ s.rf.st ≠ 4) (gain phase : Int) : imageRejUpdate gain phase s = s := by
  refine if_pos ?_
  rcases h with h | h <;> simp [h]

/-- The correction's fields, one above the other. -/
theorem field_correction {p g : Nat} (hp : p < 2 ^ 12) (hg : g < 2 ^ 12) : field (p + g * 0x10000) 27 16 = g ∧ field (p + g * 0x10000) 11 0 = p := by
  simp only [field]
  omega

/-- A field of the correction moved toward its estimate by at most `d`. -/
def corrected (d old new : Int) : Nat := unsigned 12 (old + clampI (-d) d (new - old))

theorem corrected_eq {d : Int} (hd : 0 ≤ d) (old new : Int) : corrected d old new = unsigned 12 (old + max (-d) (min d (new - old))) := by
  rw [corrected, clampI_eq _ _ _ (by omega)]

/-- A register and an entry that show a value. -/
theorem shown_frame (s : State) (a v x y n : Nat) : { (s.setRegN a v).dPut x y n with regs := s.regs, dict := s.dict } = s := rfl

/-- The word of the correction as it is moved. -/
def correction (gain phase : Int) (s : State) : Nat :=
  corrected 30 (signed 12 (s.regF 0x40100050 11 0)) phase + corrected 5 (signed 12 (s.regF 0x40100050 27 16)) gain * 0x10000

theorem imageRejUpdate_on (hwide : s.wide = true) (hst : s.rf.st = 4) (h2 : (vget s.kz.map 2).isSome = true) (h3 : (vget s.kz.map 3).isSome = true)
    (gain phase : Int) : imageRejUpdate gain phase s =
      (s.setRegN 0x40100050 (correction gain phase s)).dPut 0x2100 0x14 (c24Of (correction gain phase s)) :=
  if_neg (by simp [hwide, hst, Option.isNone_eq_false_iff.2 h2, Option.isNone_eq_false_iff.2 h3])

theorem regF_correction (gain phase : Int) (n : Nat) :
    let t := (s.setRegN 0x40100050 (correction gain phase s)).dPut 0x2100 0x14 n
    t.regF 0x40100050 27 16 = corrected 5 (signed 12 (s.regF 0x40100050 27 16)) gain ∧
      t.regF 0x40100050 11 0 = corrected 30 (signed 12 (s.regF 0x40100050 11 0)) phase := by
  intro t
  have hgain : corrected 5 (signed 12 (s.regF 0x40100050 27 16)) gain < 2 ^ 12 := unsigned_lt _ _
  have hphase : corrected 30 (signed 12 (s.regF 0x40100050 11 0)) phase < 2 ^ 12 := unsigned_lt _ _
  have hword : t.regN 0x40100050 = correction gain phase s := by
    rw [regN_dPut, regN_setRegN_self]
    unfold correction
    omega
  unfold State.regF
  rw [hword]
  exact field_correction hphase hgain

end

/-! ### ANT_FAULT cleared -/

/-- The row of ANT_FAULT. -/
def antFaultRow : DictRow := { lo := 0x24, hi := 0x24, ty := .bool, host := .rw, remote := .ro, fw := .rw, dflt := 0, range := .any }

theorem takes_antFault : Takes 0x2100 0x24 antFaultRow [0] :=
  ⟨by decide, by decide, by decide, rfl, rfl, rfl, rfl, fun _ => rfl⟩

theorem execAntFaultClear_push {s : State} {src : Src} (h : Asks s src) (tid : Byte) : ∃ l a, linkNum src = some l ∧
    a.pdu = writeResp tid 0x2100 0x24 0 ∧ exec (.antFaultClear src tid) s = .next (((s.dPut 0x2100 0x24 0).dSet 0x2100 0x24 [0]).push l a) := by
  have hact : entryAct {} 0x2100 0x24 [0] s = (stOk, s.dPut 0x2100 0x24 0) := rfl
  have hwrite : writeEntry src {} 0x2100 0x24 [0] s = (stOk, (s.dPut 0x2100 0x24 0).dSet 0x2100 0x24 [0]) := by
    rw [takes_antFault.write h, entryStore_acted rfl rfl rfl (fun _ => rfl) hact]
    rfl
  obtain ⟨l, a, hlink, hpdu, hexec⟩ := hostWrite_answered h (i := 0x2100) (x := 0x24) (by decide) rfl (fun _ => rfl) hwrite tid
  exact ⟨l, a, hlink, hpdu, congrArg Host.Outcome.next hexec⟩

end Sys2Proof.Machine

namespace Sys2Proof.Proofs
open Sys2Proof.Machine

/-- Settles O34: a request adds to the set that the steps work off from the lowest bit, and a drift adds to it of itself. -/
theorem radioCalibration : Obligations.RadioCalibration := by
  intro s src tid v r gamma rej gain phase
  refine ⟨fun hasks hnew => ⟨fun hon hrest hset => ?_, fun hoff => ?_⟩,
    fun i hi hbit hlow hon hpend hmoving hst => ⟨?_, ?_⟩, fun hmoved hon => ?_,
    fun htemp hsupply => ?_, fun hwide hst h2 h3 => ?_, fun hoff => ?_, fun hasks => ?_⟩
  · obtain ⟨l, a, hlink, hpdu, hexec⟩ := execCalRequest_push hasks hnew tid
    obtain ⟨x, hbits⟩ := calBits_frame 0 (calAsked (s.dU 0x2100 0x10) s)
    rw [calAsk_on hon hrest hset, hbits] at hexec
    have hpending : ((calAsked (s.dU 0x2100 0x10) s).resOf 0x2100 0x12).pending = true := congrArg ResultRec.pending (resOf_resPend_self s 0x2100 0x12)
    exact ⟨_, hexec, rfl, hpending, dGet_dSet_self .., hpdu ▸ spoke_push hlink rfl, rfl⟩
  · obtain ⟨l, a, hlink, hpdu, hexec⟩ := execCalRequest_push hasks hnew tid
    obtain ⟨hstatus, hcomplete, d, results, x, hend⟩ := calEnd_ended stNotReady s
    rw [calAsk_off hoff, hend] at hexec
    rw [hend] at hstatus hcomplete
    exact ⟨_, hexec, rfl, (dGet_dSet_ne _ _ (by decide)).trans hstatus, hcomplete, hpdu ▸ spoke_push hlink rfl, rfl⟩
  · exact congrArg Host.Outcome.next (calStep_runs hi (calNext_lowest (by omega) hbit hlow) (calIdle_rest hon hpend hmoving hst i) r rej gamma false)
  · have hstep := calStep_runs hi (calNext_lowest (by omega) hbit hlow) (calIdle_rest hon hpend hmoving hst i) r rej gamma true
    obtain ⟨hleft, hbegun, hended, htemp, hsupply, hframe⟩ := calLeave_left i (calResult i r rej gamma s)
    rw [if_pos rfl] at hstep
    by_cases hnoted : i < 4
    · obtain ⟨x, d, hresult⟩ := calResult_noted hnoted r rej gamma s
      rw [← hstep] at hleft hbegun hended htemp hsupply hframe
      rw [hresult] at hleft htemp hsupply hframe
      have hrest := congrArg (fun w : State => { w with rf := s.rf, regs := s.regs, dict := s.dict }) hframe
      exact ⟨_, rfl, hleft, hbegun, hended, fun _ => ⟨htemp, hsupply⟩, hrest⟩
    · obtain rfl : i = 4 := by omega
      rw [← hstep] at hleft hbegun hended hframe
      rw [calResult_bit4] at hleft hframe
      exact ⟨_, rfl, hleft, hbegun, hended, fun h => absurd h hnoted, hframe⟩
  · obtain ⟨x, hauto⟩ := calAuto_moved hmoved hon
    exact ⟨_, congrArg Host.Outcome.next hauto, rfl, rfl⟩
  · exact congrArg Host.Outcome.next (calAuto_still htemp hsupply)
  · obtain ⟨hgain, hphase⟩ := regF_correction (s := s) gain phase (c24Of (correction gain phase s))
    exact ⟨_, congrArg Host.Outcome.next (imageRejUpdate_on hwide hst h2 h3 gain phase), hgain.trans (corrected_eq (by decide) _ _),
      hphase.trans (corrected_eq (by decide) _ _), shown_frame s _ _ _ _ _⟩
  · exact congrArg Host.Outcome.next (imageRejUpdate_off hoff gain phase)
  · obtain ⟨l, a, hlink, hpdu, hexec⟩ := execAntFaultClear_push hasks tid
    refine ⟨_, hexec, ?_, fun i j hkey => ?_, hpdu ▸ spoke_push hlink rfl, rfl⟩
    · exact congrArg (fun b => leNat b == 1) (dGet_dSet_self (s.dPut 0x2100 0x24 0) 0x2100 0x24 [0])
    · exact (dGet_dSet_ne (s.dPut 0x2100 0x24 0) [0] hkey).trans (dGet_dPut_ne s 0 hkey)

end Sys2Proof.Proofs
end

section
/-! SUPPORT. Decoding: which codeword an engine takes, what it returns, what the checker passes on, and where a tag result goes (R168 to R170). -/

namespace Sys2Proof.Machine

/-! ### The next codeword (R168) -/

/-- Of two codewords the later arrival goes first only as a header before a payload, or as a payload of an earlier S. -/
theorem before_later {x y : Codeword} (h : x.arrival < y.arrival) :
    y.before x = true ↔ ¬(x.header = true ∨ (y.header = false ∧ x.slot ≤ y.slot)) := by
  have hlate : ¬y.arrival < x.arrival := Nat.not_lt.2 h.le
  unfold Codeword.before
  cases hx : x.header <;> cases hy : y.header
  · by_cases hslot : y.slot = x.slot
    · simp [hslot, hlate]
    · simp [hslot]
  · simp
  · simp
  · simp [hlate]

/-- Engine `e` has taken codeword `c`. -/
def codewordTaken (e : Fin 4) (c : Codeword) (r : Rx) : Rx :=
  { r with queue := r.queue.filter (fun z => z.arrival != c.arrival), engines := vset r.engines e (some c) }

section
variable {s : State} {e : Fin 4} (hserves : s.engineServes e = true) (hfree : vget s.rx.engines e = none)
  (hlow : ∀ d, d < e → s.engineServes d = false ∨ (vget s.rx.engines d).isSome = true)
include hserves hfree hlow

/-- The engine that takes the next codeword. -/
theorem freeEngine_lowest : (fins 4).find? (fun d => s.engineServes d && (vget s.rx.engines d).isNone) = some e := by
  refine find?_of_least (List.pairwise_lt_finRange 4) (List.mem_finRange e) (by simp [hserves, hfree]) fun d _ hd => ?_
  rcases hlow d hd with hout | hbusy
  · simp [hout]
  · simp [hbusy]

section
variable {x y : Codeword} (hqueue : s.rx.queue = [x, y])
include hqueue

theorem decodeStart_two : decodeStart s = rxMod (codewordTaken e (if y.before x then y else x)) s := by
  unfold decodeStart
  rw [freeEngine_lowest hserves hfree hlow, hqueue, List.foldl_cons, List.foldl_cons, List.foldl_nil]
  dsimp only
  rw [← apply_ite some]
  rfl

variable (harrival : x.arrival < y.arrival)
include harrival

theorem decodeStart_earlier (h : x.header = true ∨ (y.header = false ∧ x.slot ≤ y.slot)) :
    decodeStart s = rxMod (fun r => { r with queue := [y], engines := vset r.engines e (some x) }) s := by
  have hbefore : ¬y.before x = true := fun hy => (before_later harrival).1 hy h
  rw [decodeStart_two hserves hfree hlow hqueue, if_neg hbefore]
  simp [rxMod, codewordTaken, hqueue, harrival.ne']

theorem decodeStart_later (h : ¬(x.header = true ∨ (y.header = false ∧ x.slot ≤ y.slot))) :
    decodeStart s = rxMod (fun r => { r with queue := [x], engines := vset r.engines e (some y) }) s := by
  rw [decodeStart_two hserves hfree hlow hqueue, if_pos ((before_later harrival).2 h)]
  simp [rxMod, codewordTaken, hqueue, harrival.ne]

end

end

/-! ### What else changes with the receiver -/

/-- A change of the receiver changes no register. -/
theorem regN_rxMod (f : Rx → Rx) (s : State) (a : Nat) : (rxMod f s).regN a = s.regN a := rfl

theorem regB_rxMod (f : Rx → Rx) (s : State) (a i : Nat) : (rxMod f s).regB a i = s.regB a i := rfl

/-- Of the machine only the receiver and registers have changed. -/
def OnlyRxRegs (s t : State) : Prop := { t with rx := s.rx, regs := s.regs } = s

section
variable {s t : State}

theorem OnlyRxRegs.rxMod (h : OnlyRxRegs s t) (g : Rx → Rx) : OnlyRxRegs s (rxMod g t) := h

theorem OnlyRxRegs.setRegN (h : OnlyRxRegs s t) (a v : Nat) : OnlyRxRegs s (t.setRegN a v) := h

theorem OnlyRxRegs.bump (h : OnlyRxRegs s t) (a : Nat) : OnlyRxRegs s (t.bump a) := h

theorem OnlyRxRegs.onlyReceiver (h : OnlyRxRegs s t) : OnlyReceiver s t :=
  (congrArg (fun w : State => { w with dict := s.dict }) h :)

theorem OnlyReceiver.rxMod (h : OnlyReceiver s t) (g : Rx → Rx) : OnlyReceiver s (rxMod g t) := h

theorem OnlyReceiver.dBump (h : OnlyReceiver s t) (x y : Nat) : OnlyReceiver s (t.dBump x y) := h

end

/-! ### The end of a decoding (R169) -/

/-- The engine is free again, and a decoding of `n` iterations counted. -/
def engineDone (e : Fin 4) (n : Nat) (s : State) : State :=
  let t := rxMod (fun r => { r with engines := vset r.engines e none }) (s.bump 0x40130030)
  t.setRegN 0x40130038 (satAdd 0xFFFFFFFF (t.regN 0x40130038) n)

/-- The same, and the decoding counted as failed. -/
def engineFailed (e : Fin 4) (s : State) : State := (engineDone e s.maxIter s).bump 0x40130034

theorem onlyRxRegs_engineDone (e : Fin 4) (n : Nat) (s : State) : OnlyRxRegs s (engineDone e n s) :=
  have hcounted : OnlyRxRegs s (s.bump 0x40130030) := rfl
  (hcounted.rxMod _).setRegN _ _

theorem onlyRxRegs_engineFailed (e : Fin 4) (s : State) : OnlyRxRegs s (engineFailed e s) := (onlyRxRegs_engineDone e _ s).bump _

theorem regN_engineDone (e : Fin 4) (n : Nat) (s : State) : (engineDone e n s).regN 0x40130030 = min (s.regN 0x40130030 + 1) 0xFFFFFFFF :=
  (regN_setRegN_ne _ _ (by decide)).trans (regN_bump_self s _)

theorem regN_engineFailed_ended (e : Fin 4) (s : State) : (engineFailed e s).regN 0x40130030 = min (s.regN 0x40130030 + 1) 0xFFFFFFFF :=
  (regN_setRegN_ne _ _ (by decide)).trans (regN_engineDone e _ s)

theorem regN_engineFailed_failed (e : Fin 4) (s : State) : (engineFailed e s).regN 0x40130034 = min (s.regN 0x40130034 + 1) 0xFFFFFFFF := by
  have hdone : (engineDone e s.maxIter s).regN 0x40130034 = s.regN 0x40130034 :=
    (regN_setRegN_ne _ _ (by decide)).trans (regN_setRegN_ne s _ (by decide))
  rw [engineFailed, regN_bump_self, hdone]

section
variable {s : State} {e : Fin 4} {c : Codeword} (h : vget s.rx.engines e = some c) (k : Nat) (bytes : List Byte) (weak : Nat)
include h

theorem decodeDone_headerConverged (hheader : c.header = true) : decodeDone e true k bytes weak s =
    rxMod (fun r => { r with
      checking := r.checking ++ [{ engine := e, cw := c, bytes := bytes, iter := max 1 (min s.maxIter k), weak := weak }] })
      (engineDone e (max 1 (min s.maxIter k)) s) := by
  unfold decodeDone
  rw [h]
  simp only [hheader, if_true]
  rfl

theorem decodeDone_headerFailed (hheader : c.header = true) : decodeDone e false k bytes weak s =
    frameMod c.frame (fun f => { f with stage := .headerBack, hdr := [] }) (engineFailed e s) := by
  unfold decodeDone
  rw [h]
  simp only [hheader, Bool.false_eq_true, if_false, if_true]
  rfl

theorem decodeDone_payloadFailed (hheader : c.header = false) : decodeDone e false k bytes weak s =
    frameEnd c.frame 1 ((frameMod c.frame (fun f => { f with engine := e, iter := s.maxIter, weak := weak }) (engineFailed e s)).dBump
      0x2200 0x35) := by
  unfold decodeDone
  rw [h]
  simp only [hheader, Bool.false_eq_true, if_false]
  rfl

end

/-- A payload that has failed ends the receiver's one frame with DECODE_FAIL. -/
theorem decodeDone_frameFailed {s : State} {f : RxFrame} {e : Fin 4} {c : Codeword} (hone : s.rx.frames = [f]) (h : vget s.rx.engines e = some c)
    (hframe : c.frame = f.id) (hheader : c.header = false) (hnumbered : f.numbered = true) (hstage : f.stage ≠ .shadow) (k : Nat)
    (bytes : List Byte) (weak : Nat) : decodeDone e false k bytes weak s =
      rxMod (frameDone { f with engine := e, iter := s.maxIter, weak := weak } 1) ((rxMod (fun r => { r with
        frames := [{ f with engine := e, iter := s.maxIter, weak := weak }] }) (engineFailed e s)).dBump 0x2200 0x35) := by
  have hfailed : (engineFailed e s).rx.frames = [f] := hone
  rw [decodeDone_payloadFailed h k bytes weak hheader, hframe, frameMod_only hfailed]
  exact frameEnd_numbered (f := { f with engine := e, iter := s.maxIter, weak := weak }) rfl hnumbered hstage 1

/-- A failed payload is counted, whatever becomes of its frame. -/
theorem regN_payloadFailed (g g' : Rx → Rx) (e : Fin 4) (s : State) : (rxMod g ((rxMod g' (engineFailed e s)).dBump 0x2200 0x35)).regN 0x40130034 =
    min (s.regN 0x40130034 + 1) 0xFFFFFFFF := by
  have hregs : (rxMod g ((rxMod g' (engineFailed e s)).dBump 0x2200 0x35)).regs = (engineFailed e s).regs := by
    rw [rxMod_regs, State.dBump_regs, rxMod_regs]
  rw [← regN_engineFailed_failed e s, State.regN, State.reg, hregs]
  rfl

theorem onlyReceiver_payloadFailed (g g' : Rx → Rx) (e : Fin 4) (s : State) :
    OnlyReceiver s (rxMod g ((rxMod g' (engineFailed e s)).dBump 0x2200 0x35)) :=
  ((((onlyRxRegs_engineFailed e s).rxMod g').onlyReceiver).dBump _ _).rxMod g

/-! ### The tag result (R170, R218, R255, R262) -/

/-- Counters, and what the link controller and Causeway have to take, may have changed; the receiver has not. -/
structure Released (s t : State) : Prop where
  rx : t.rx = s.rx
  frame : { t with regs := s.regs, dict := s.dict, lnk := s.lnk, cwy := s.cwy } = s

theorem Released.refl (s : State) : Released s s := ⟨rfl, rfl⟩

theorem Released.trans {s t u : State} (h : Released s t) (h' : Released t u) : Released s u := by
  have htwice := congrArg (fun w : State => { w with regs := s.regs, dict := s.dict, lnk := s.lnk, cwy := s.cwy }) h'.frame
  exact ⟨h'.rx.trans h.rx, htwice.trans h.frame⟩

theorem Released.ite {c : Prop} [Decidable c] {s t u : State} (ht : Released s t) (hu : Released s u) : Released s (if c then t else u) := by
  split
  · exact ht
  · exact hu

/-- A step of a release that happens or not. -/
theorem released_when {c : Prop} [Decidable c] {s t : State} (h : Released s t) : Released s (if c then t else s) := .ite h (.refl s)

theorem Released.rxMod {s t : State} (h : Released s t) (g : Rx → Rx) : Released (rxMod g s) (rxMod g t) :=
  ⟨congrArg g h.rx, congrArg (Machine.rxMod g) h.frame⟩

theorem released_lnk (x : Lnk) (s : State) : Released s { s with lnk := x } := ⟨rfl, rfl⟩

theorem released_cwy (x : Cwy) (s : State) : Released s { s with cwy := x } := ⟨rfl, rfl⟩

theorem released_setRegN (a v : Nat) (s : State) : Released s (s.setRegN a v) := ⟨rfl, rfl⟩

theorem released_dBump (x y : Nat) (s : State) : Released s (s.dBump x y) := ⟨rfl, rfl⟩

theorem released_tagLate (s : State) : Released s (tagLate s) :=
  ((((released_setRegN _ _ s).trans (released_dBump ..)).trans (released_setRegN ..)).trans (released_dBump ..)).trans (released_setRegN ..)

/-- The one frame marked as acknowledged or late. -/
def tagMarked (f : RxFrame) (inAck late : Bool) (s : State) : State :=
  rxMod (fun r => { r with frames := [{ f with inAck := inAck, late := late }] }) s

/-- The tag result of the receiver's one frame marks it and goes to the link controller and to Causeway. -/
theorem tagRelease_released {s : State} {f : RxFrame} (h : s.rx.frames = [f]) :
    ∃ inAck late, Released (tagMarked f inAck late s) (tagRelease f s) := by
  unfold tagRelease
  extract_lets hd here late inAck s₁ s₂ t good _ s₃ _ s₄ _ s₅ _ s₆ _
  have hcounted : Released s s₁ := released_when (released_tagLate s)
  have hmarked : Released (tagMarked f inAck late s) s₂ := by
    have hone : s₁.rx.frames = [f] := by rw [hcounted.rx, h]
    have hmod : s₂ = tagMarked f inAck late s₁ := frameMod_only hone _
    rw [hmod]
    exact hcounted.rxMod _
  have htagged : Released s₂ s₃ := released_when (released_lnk _ _)
  have hheard : Released s₃ s₄ := released_when (released_lnk _ _)
  have hlevel : Released s₄ s₅ := released_when (released_lnk _ _)
  have hlive : Released s₅ s₆ := released_when (released_cwy _ _)
  exact ⟨inAck, late, ((((hmarked.trans htagged).trans hheard).trans hlevel).trans hlive).trans (released_when (released_cwy _ _))⟩

/-! ### The checker's verdict (R170) -/

/-- The checker has taken its only result. -/
def checkTaken (s : State) : State := rxMod (fun r => { r with checking := [] }) s

section
variable {s : State} {c : Check} (h : s.rx.checking = [c])
include h

theorem syndromeCheckDone_only (pass : Bool) (us : Int) : syndromeCheckDone c.engine pass us s =
    if !pass then checkMismatch c (checkTaken s)
    else if c.cw.header then frameMod c.cw.frame (fun f => { f with stage := .headerBack, hdr := c.bytes.take 16 }) (checkTaken s)
    else payloadChecked c.cw.frame us (checkTaken s) := by
  have htaken : takeFirst (fun x : Check => x.engine == c.engine) [c] = some (c, []) := takeFirst_one (beq_self_eq_true c.engine)
  unfold syndromeCheckDone
  rw [h, htaken]
  rfl

theorem syndromeCheckDone_header (hheader : c.cw.header = true) (us : Int) : syndromeCheckDone c.engine true us s =
    frameMod c.cw.frame (fun f => { f with stage := .headerBack, hdr := c.bytes.take 16 }) (checkTaken s) :=
  (syndromeCheckDone_only h true us).trans (if_pos hheader)

theorem syndromeCheckDone_payload (hheader : c.cw.header = false) (us : Int) :
    syndromeCheckDone c.engine true us s = payloadChecked c.cw.frame us (checkTaken s) :=
  (syndromeCheckDone_only h true us).trans (if_neg fun hx => Bool.false_ne_true (hheader.symm.trans hx))

theorem syndromeCheckDone_mismatch (us : Int) : syndromeCheckDone c.engine false us s = checkMismatch c (checkTaken s) :=
  syndromeCheckDone_only h false us

end

/-- The frame `f` with its tag's outcome. -/
def frameChecked (f : RxFrame) (us : Int) (s : State) : RxFrame :=
  { f with slot := tagSlot f s, outcome := tagOutcome f (tagSlot f s) s, doneUs := clampI (-32768) 32767 us }

/-- A checked payload completes the receiver's one frame with its tag's outcome, besides the release of the tag result. -/
theorem payloadChecked_completes {s : State} {f : RxFrame} (h : s.rx.frames = [f]) (hnumbered : f.numbered = true)
    (hstage : f.stage ≠ .shadow) (us : Int) : ∃ inAck late t, Released (tagMarked (frameChecked f us s) inAck late s) t ∧ payloadChecked f.id us s =
      rxMod (frameDone { frameChecked f us s with inAck := inAck, late := late } (tagOutcome f (tagSlot f s) s)) t := by
  have hmod := frameMod_only h fun _ => frameChecked f us s
  obtain ⟨inAck, late, hreleased⟩ := tagRelease_released (s := rxMod (fun r => { r with frames := [frameChecked f us s] }) s) rfl
  have hframes := congrArg Rx.frames hreleased.rx
  have hexec : payloadChecked f.id us s = frameEnd f.id (frameChecked f us s).outcome (tagRelease (frameChecked f us s)
      (frameMod f.id (fun _ => frameChecked f us s) s)) := by
    unfold payloadChecked
    rw [frame_only h]
    rfl
  rw [hmod] at hexec
  refine ⟨inAck, late, _, hreleased, hexec.trans ?_⟩
  exact frameEnd_numbered (f := { frameChecked f us s with inAck := inAck, late := late }) hframes hnumbered hstage _

theorem OneFrame.payloadChecked {s : State} {l : Fin 32} {f : RxFrame} (h : OneFrame s l f) (hnumbered : f.numbered = true)
    (hstage : f.stage ≠ .shadow) (us : Int) :
    ∃ t, Machine.payloadChecked f.id us s = t ∧ Completed s t f (tagOutcome f (tagSlot f s) s) ∧ Freed s t l ∧ t.rx.checking = s.rx.checking ∧
      { t with rx := s.rx, regs := s.regs, dict := s.dict, lnk := s.lnk, cwy := s.cwy } = s := by
  obtain ⟨inAck, late, t, ⟨hrx, hrest⟩, hexec⟩ := payloadChecked_completes h.1 hnumbered hstage us
  have hready : t.rx.ready = s.rx.ready := (congrArg Rx.ready hrx :)
  have hlanes : t.rx.lanes = s.rx.lanes := (congrArg Rx.lanes hrx :)
  refine ⟨_, hexec, ⟨congrArg (· ++ [f.id]) hready, _, rfl, rfl, rfl, rfl⟩, h.freed (congrArg (lanesWithout f.id) hlanes),
    (congrArg Rx.checking hrx :), ?_⟩
  exact congrArg (fun w : State => { w with rx := s.rx }) hrest

end Sys2Proof.Machine
end

section
/-! SUPPORT. Cancellation and reports while the receiver holds one frame (R172, R173, R177, R178). -/

namespace Sys2Proof.Machine

/-! ### Cancellation (R172, R173) -/

/-- The receiver once the subtraction of its one frame has ended and left it as `g`. -/
def regenOver (g : RxFrame) (r : Rx) : Rx := { r with frames := [g], regens := [] }

section
variable {s : State} {l : Fin 32} {f : RxFrame} (h : s.rx.frames = [f]) (hruns : s.rx.regens = [f.id])
include h hruns

theorem regenOver_only (g : RxFrame → RxFrame) :
    rxMod (fun r => { r with regens := r.regens.filter (fun x => x != f.id) }) (frameMod f.id g s) = rxMod (regenOver (g f)) s := by
  rw [frameMod_only h]
  simp [rxMod, regenOver, hruns]

variable (hlane : f.lane = l) (hidle : s.rx.checking = [])
include hlane hidle

theorem regenOn_only {g : Regen} (hregen : f.regen = g) : s.regenOn l g = some f := by
  have hframe := frame_only h
  simp [State.regenOn, h, hlane, hruns, hidle, hregen, hframe]

theorem regenCheckWindow_goes {fall : Int} (hregen : f.regen = .window) (hfall : (s.dU 0x2200 0x25 : Int) ≤ fall) (hstage : f.stage ≠ .shadow) :
    regenCheckWindow l fall s =
      rxMod (fun r => { r with frames := [{ f with regen := .subtract, research := s.dU 0x2200 0x23 == 1 }] }) s := by
  unfold regenCheckWindow
  rw [regenOn_only h hruns hlane hidle hregen]
  dsimp only
  rw [if_pos hfall, frameMod_only h]
  simp [rxMod, hstage]

/-- The window added back: the frame is not regenerated, and no subtraction runs. -/
theorem regenCheckWindow_poor {fall : Int} (hregen : f.regen = .window) (hfall : fall < (s.dU 0x2200 0x25 : Int)) (hstage : f.stage ≠ .shadow) :
    regenCheckWindow l fall s = countBoth 0x4012A080 0x36 (rxMod (regenOver { f with regen := .over, poor := true }) s) := by
  have hnone : ∀ g ∈ [{ f with regen := .over, poor := true }], g.stage ≠ .shadow := fun g hg => by
    obtain rfl := List.mem_singleton.1 hg
    exact hstage
  unfold regenCheckWindow
  rw [regenOn_only h hruns hlane hidle hregen]
  dsimp only
  rw [if_neg (not_le.2 hfall), regenOver_only h hruns]
  exact shadowsLost_none hnone f.id

theorem regenDone_cancels (hregen : f.regen = .subtract) :
    regenDone l s = (rxMod (regenOver { f with regen := .over, cancelled := true }) s).bump 0x4012A07C := by
  unfold regenDone
  rw [regenOn_only h hruns hlane hidle hregen]
  dsimp only
  rw [regenOver_only h hruns]

end

/-! ### The ring (R177, R190) -/

theorem ringSize_bounds (s : State) : 0 < s.ringSize ∧ s.ringSize ≤ 2 ^ 16 := by
  unfold State.ringSize
  dsimp only
  refine ⟨Nat.two_pow_pos _, Nat.pow_le_pow_right (by decide) ?_⟩
  split <;> omega

/-- The place behind the next report. -/
def State.ringNext (s : State) : Nat := (s.regN 0x4012A05C + 1) % s.ringSize

theorem ringNext_lt (s : State) : s.ringNext < 2 ^ 32 := by
  obtain ⟨hpos, hle⟩ := ringSize_bounds s
  have hlt : s.ringNext < s.ringSize := Nat.mod_lt _ hpos
  omega

theorem report_length (f : RxFrame) (s : State) : (report f s).length = 64 := by
  unfold report
  simp only [List.length_append, leBytes_length, List.length_replicate]

/-! ### Bytes that a master other than a core writes -/

theorem MemoryOnly.rx {s t : State} (h : MemoryOnly s t) : t.rx = s.rx := (congrArg State.rx h.frame :)

theorem OnlyReservations.mem {n : Nat} {s t : State} (h : OnlyReservations n s t) : t.mem = s.mem := (congrArg State.mem h.frame :)

theorem cells_dmaWrite (s : State) (a : Nat) (bs : List Byte) : (s.dmaWrite a bs).mem.cells = Memory.writeN s.mem.cells a bs := by
  obtain ⟨b, p, hmend⟩ := mendOnWrite_frame a bs.length (s.wrBytes a bs)
  rw [State.dmaWrite, (breakReservations_frame ..).mem, hmend]
  rfl

theorem rdBytes_dmaWrite (s : State) (a : Nat) (bs : List Byte) : (s.dmaWrite a bs).rdBytes a bs.length = bs := by
  rw [State.rdBytes, cells_dmaWrite, readN_writeN_self]

theorem rd8_dmaWrite_ne (s : State) {a x : Nat} {bs : List Byte} (h : x < a ∨ a + bs.length ≤ x) : (s.dmaWrite a bs).rd8 x = s.rd8 x := by
  rw [State.rd8, cells_dmaWrite, read_writeN, if_neg (by omega)]
  rfl

/-! ### Reports (R177, R178) -/

/-- Where the next report and its block are written. -/
def State.reportAddr (s : State) : Nat := s.regN 0x4012A050 + 64 * s.regN 0x4012A05C

def State.blockAddr (s : State) : Nat := s.regN 0x4012A054 + 256 * s.regN 0x4012A05C

/-- The receiver whose one frame `f` has been reported. -/
def frameReported (f : RxFrame) (s : State) : State := rxMod (fun r => { r with frames := [{ f with stage := .reported }], ready := [] }) s

/-- The same, with the frame's block and its report in memory. -/
def reportStored (f : RxFrame) (s : State) : State :=
  ((frameReported f s).dmaWrite s.blockAddr f.block).dmaWrite s.reportAddr (report f s)

/-- Memory as it stands with the block and the report of `f`; beside memory and reservations, only the frame has been reported. -/
structure ReportStored (f : RxFrame) (s t : State) : Prop where
  only : MemoryOnly (frameReported f s) t
  written : t.rdBytes s.reportAddr 64 = report f s
  kept : ∀ a, (a < s.reportAddr ∨ s.reportAddr + 64 ≤ a) → (a < s.blockAddr ∨ s.blockAddr + f.block.length ≤ a) → t.rd8 a = s.rd8 a

theorem reportStored_stored (f : RxFrame) (s : State) : ReportStored f s (reportStored f s) := by
  have hread := rdBytes_dmaWrite ((frameReported f s).dmaWrite s.blockAddr f.block) s.reportAddr (report f s)
  rw [report_length] at hread
  refine ⟨(memoryOnly_dmaWrite ..).trans (memoryOnly_dmaWrite ..), hread, fun a hring hblock => ?_⟩
  have hbehind : a < s.reportAddr ∨ s.reportAddr + (report f s).length ≤ a := by rwa [report_length]
  rw [reportStored, rd8_dmaWrite_ne _ hbehind, rd8_dmaWrite_ne _ hblock]
  rfl

/-- A reported frame that nothing refers to leaves the receiver. -/
theorem framePrune_reported {s : State} {f : RxFrame} (h : s.rx.frames = [f]) (hstage : f.stage = .reported) (hresearch : f.research = false) :
    framePrune s = rxMod (fun r => { r with frames := [] }) s := by
  simp [framePrune, rxMod, h, hstage, hresearch]

section
variable {s : State} {f : RxFrame} (h : s.rx.frames = [f]) (hready : s.rx.ready = [f.id]) (hbeneath : f.beneath = []) (hregen : f.regen = .none)
include h hready hbeneath hregen

/-- The one frame, complete with nothing above it, is reported where the ring has room. -/
theorem receptionReport_only : receptionReport s = framePrune
    (if s.ringNext = s.regN 0x4012A060 % s.ringSize then countBoth 0x4012A084 0x38 (frameReported f s)
     else fire 0x48 ((reportStored f s).setRegN 0x4012A05C s.ringNext)) := by
  have hdue : s.reportable f = true := by simp [State.reportable, State.masks, hbeneath, hregen]
  have htaken : rxMod (fun r => { r with ready := r.ready.filter (fun x => x != f.id) }) (frameMod f.id (fun f => { f with stage := .reported }) s) =
      frameReported f s := by
    rw [frameMod_only h]
    simp [frameReported, rxMod, hready]
  unfold receptionReport
  rw [hready, List.findSome?_cons, frame_only h]
  dsimp only
  rw [if_pos hdue]
  dsimp only
  rw [htaken, apply_ite framePrune]
  rfl

variable (hresearch : f.research = false)
include hresearch

theorem receptionReport_lost (hfull : s.ringNext = s.regN 0x4012A060 % s.ringSize) :
    receptionReport s = rxMod (fun r => { r with frames := [] }) (countBoth 0x4012A084 0x38 (frameReported f s)) := by
  have hgone := framePrune_reported (s := countBoth 0x4012A084 0x38 (frameReported f s)) (f := { f with stage := .reported }) rfl rfl hresearch
  rw [receptionReport_only h hready hbeneath hregen, if_pos hfull, hgone]

theorem receptionReport_written (hroom : s.ringNext ≠ s.regN 0x4012A060 % s.ringSize) :
    ∃ m e, ReportStored f s m ∧ receptionReport s = rxMod (fun r => { r with frames := [] }) { m.setRegN 0x4012A05C s.ringNext with evf := e } := by
  have hstored := reportStored_stored f s
  have hexec := receptionReport_only h hready hbeneath hregen
  rw [if_neg hroom] at hexec
  generalize reportStored f s = m at hstored hexec
  obtain ⟨e, hfire⟩ := fire_frame 0x48 (m.setRegN 0x4012A05C s.ringNext)
  have hframes := congrArg Rx.frames hstored.only.rx
  refine ⟨m, e, hstored, hexec.trans ?_⟩
  rw [hfire]
  exact framePrune_reported (f := { f with stage := .reported }) hframes rfl hresearch

end

end Sys2Proof.Machine
end

section
/-! SUPPORT. The receiver's spares: the first one takes the logical number of a unit that has failed, and the health block shows it (R186, R187). -/

namespace Sys2Proof.Machine

/-! ### What a spare taken shows -/

/-- The receiver and LDC_STAT stand as they were. -/
structure RxStands (s t : State) : Prop where
  rx : t.rx = s.rx
  stat : t.reg 0x40130020 = s.reg 0x40130020

theorem RxStands.trans {s t u : State} (h : RxStands s t) (h' : RxStands t u) : RxStands s u := ⟨h'.rx.trans h.rx, h'.stat.trans h.stat⟩

theorem rxStands_setRegN {a : Nat} (h : 0x40130020 ≠ a) (v : Nat) (s : State) : RxStands s (s.setRegN a v) := ⟨rfl, reg_setRegN_ne s v h⟩

theorem rxStands_dPut (x y v : Nat) (s : State) : RxStands s (s.dPut x y v) := ⟨rfl, rfl⟩

theorem rxStands_notify (x y : Nat) (st : Status) (d : List Byte) (s : State) : RxStands s (s.notify x y st d) := by
  obtain ⟨o, h⟩ := notifyAt_frame s x y 0 st d
  rw [State.notify, h]
  exact ⟨rfl, rfl⟩

theorem rxStands_healthEvent (id unit act : Nat) (inj : Bool) (s : State) : RxStands s (healthEvent id unit act inj s) := by
  refine ⟨?_, reg_healthEvent (by decide) id unit act inj s⟩
  obtain ⟨d, r, e, h⟩ := healthEvent_frame id unit act inj s
  rw [h]

section
variable {k : Nat} (hk : k < 10) (s : State)
include hk

theorem rxStands_syncGrade : RxStands s (syncGrade k s) := rxStands_setRegN (by omega) _ s

theorem rxStands_raiseGrade (g : Nat) : RxStands s (raiseGrade k g s) := by
  unfold raiseGrade
  split
  · exact rxStands_syncGrade hk s
  · exact ((rxStands_dPut _ _ _ s).trans (rxStands_syncGrade hk _)).trans (rxStands_notify ..)

theorem rxStands_spareTaken : RxStands s (spareTaken k s) := ((rxStands_dPut _ _ _ s).trans (rxStands_dPut ..)).trans (rxStands_raiseGrade hk _ _)

end

/-- A map whose registers end before LDC_STAT. -/
theorem rxStands_putMap {a : Nat} {l : List (Option Nat)} (h : a + l.length ≤ 0x40130020) (none_ : Nat) (s : State) : RxStands s (putMap a none_ l s) := by
  have hbelow : ∀ i ∈ List.range (l.length / 4), 0x40130020 ≠ a + 4 * i := fun i hi => by
    have := List.mem_range.1 hi
    omega
  unfold putMap
  generalize List.range (l.length / 4) = places at hbelow ⊢
  induction places generalizing s with
  | nil => exact ⟨rfl, rfl⟩
  | cons i r ih =>
    exact (rxStands_setRegN (hbelow i List.mem_cons_self) _ s).trans (ih _ fun j hj => hbelow j (List.mem_cons_of_mem i hj))

theorem rxStands_syncRx (s : State) : RxStands s (syncRx s) := by
  unfold syncRx
  refine RxStands.trans ?_ (rxStands_dPut ..)
  refine RxStands.trans ?_ (rxStands_dPut ..)
  refine RxStands.trans ?_ (rxStands_dPut ..)
  refine RxStands.trans ?_ (rxStands_setRegN (by decide) _ _)
  refine RxStands.trans ?_ (rxStands_putMap (by simp) _ _)
  refine RxStands.trans ?_ (rxStands_setRegN (by decide) _ _)
  refine RxStands.trans ?_ (rxStands_setRegN (by decide) _ _)
  refine RxStands.trans ?_ (rxStands_setRegN (by decide) _ _)
  refine RxStands.trans ?_ (rxStands_putMap (by simp) _ _)
  refine RxStands.trans ?_ (rxStands_setRegN (by decide) _ _)
  refine RxStands.trans ?_ (rxStands_setRegN (by decide) _ _)
  refine RxStands.trans ?_ (rxStands_setRegN (by decide) _ _)
  exact rxStands_putMap (by simp) _ _

/-- A spare taken is logged, counted and shown. -/
theorem rxStands_replaced {k : Nat} (hk : k < 10) (id unit act : Nat) (inj : Bool) (s : State) :
    RxStands s (syncRx (spareTaken k (healthEvent id unit act inj s))) :=
  ((rxStands_healthEvent id unit act inj s).trans (rxStands_spareTaken hk _)).trans (rxStands_syncRx _)

/-- No unit comes back while no rolling test runs. -/
theorem rollReturn_none {s : State} (h : s.hlt.roll = none) (cls : Nat) : rollReturn cls s = s := by
  unfold rollReturn
  rw [h]

/-! ### Lanes -/

theorem laneLost_free {s : State} {l : Fin 32} (h : vget s.rx.lanes l = none) (now : Nat) : laneLost l now s = s := by
  unfold laneLost State.laneFrame
  rw [h]

/-- Spare lane `q` in the place of lane `p` under logical number `l`. -/
def laneReplaced (l : Fin 32) (p q : Fin 36) (rest : List (Fin 36)) (r : Rx) : Rx :=
  { r with laneMap := vset r.laneMap l (some q), laneSpare := rest, laneRetired := p :: r.laneRetired }

theorem rx_retireLane {s : State} {l : Fin 32} {p q : Fin 36} {rest : List (Fin 36)} (hroll : s.hlt.roll = none) (hmap : vget s.rx.laneMap l = some p)
    (hspare : s.rx.laneSpare = q :: rest) (hfree : vget s.rx.lanes l = none) (residue inj : Bool) (now : Nat) :
    (retireLane l residue false inj now s).rx = laneReplaced l p q rest s.rx := by
  have hlost : ∀ a v, laneLost l now (s.setRegN a v) = s.setRegN a v := fun a v => laneLost_free (s := s.setRegN a v) hfree now
  unfold retireLane
  rw [rollReturn_none hroll]
  dsimp only
  rw [hmap]
  dsimp only
  rw [if_neg Bool.false_ne_true, hlost]
  dsimp only [rxMod_rx, State.setRegN_rx]
  rw [hspare]
  exact (rxStands_replaced (by decide) _ _ _ _ _).rx

/-! ### Slices -/

/-- Spare slice `q` in the place of slice `p` under logical number `l`; it searches the record where there is one. -/
def sliceReplaced (l : Fin 32) (p q : Fin 34) (rest : List (Fin 34)) (record : Bool) (r : Rx) : Rx :=
  { r with
    sliceMap := vset r.sliceMap l (some q)
    sliceSpare := rest
    sliceRetired := p :: r.sliceRetired
    searching := if record then r.searching.filter (fun x => x.slice != l) ++ [{ slice := l, phys := q.1 }] else r.searching }

theorem rx_retireSlice {s : State} {l : Fin 32} {p q : Fin 34} {rest : List (Fin 34)} (hroll : s.hlt.roll = none) (hmap : vget s.rx.sliceMap l = some p)
    (hspare : s.rx.sliceSpare = q :: rest) (inj : Bool) : (retireSlice l inj s).rx = sliceReplaced l p q rest s.recordOn s.rx := by
  unfold retireSlice
  rw [rollReturn_none hroll]
  dsimp only
  rw [hmap]
  dsimp only [rxMod_rx, State.flag_rx]
  rw [hspare]
  refine (rxStands_replaced (by decide) _ _ _ _ _).rx.trans ?_
  cases hrecord : s.recordOn
  · exact congrArg State.rx (if_neg (by rw [Bool.not_eq_true]; exact hrecord))
  · exact congrArg State.rx (if_pos hrecord)

/-! ### Engines -/

theorem engineLost_free {s : State} {e : Fin 4} (h : vget s.rx.engines e = none) : engineLost e s = s := by
  unfold engineLost
  rw [h]

/-- The codeword of a lost engine waits in the queue again; nothing else has changed. -/
theorem engineLost_frame (e : Fin 4) (s : State) :
    ∃ x, engineLost e s = rxMod (fun r => { r with engines := vset r.engines e none, queue := r.queue ++ x }) s := by
  cases hheld : vget s.rx.engines e with
  | none =>
    have hkeep : vset s.rx.engines e none = s.rx.engines := by rw [← hheld, vset_vget]
    refine ⟨[], ?_⟩
    rw [engineLost_free hheld, rxMod, hkeep, List.append_nil]
  | some c =>
    refine ⟨[c], ?_⟩
    unfold engineLost
    rw [hheld]

/-- Spare engine `q` in the place of engine `p` under logical number `e`. -/
def engineReplaced (e : Fin 4) (p q : Fin 5) (rest : List (Fin 5)) (s : State) : State :=
  rxMod (fun r => { r with engMap := vset r.engMap e (some q), engSpare := rest })
    (engineLost e ((rxMod (fun r => { r with engRetired := p :: r.engRetired }) s).flag 0x40130020 1))

theorem retireEngine_spare {s : State} {e : Fin 4} {p q : Fin 5} {rest : List (Fin 5)} (hroll : s.hlt.roll = none) (hmap : vget s.rx.engMap e = some p)
    (hspare : s.rx.engSpare = q :: rest) (id : Nat) (inj : Bool) : RxStands (engineReplaced e p q rest s) (retireEngine id e inj s) := by
  unfold retireEngine engineReplaced
  obtain ⟨x, hlost⟩ := engineLost_frame e ((rxMod (fun r => { r with engRetired := p :: r.engRetired }) s).flag 0x40130020 1)
  rw [rollReturn_none hroll]
  dsimp only
  rw [hmap]
  dsimp only
  rw [hlost]
  dsimp only [rxMod_rx, State.flag_rx]
  rw [hspare]
  exact rxStands_replaced (by decide) _ _ _ _ _

/-- The receiver, its engine `p` replaced by `q`, and the codeword it held back in the queue. -/
def engineSwapped (e : Fin 4) (p q : Fin 5) (rest : List (Fin 5)) (x : List Codeword) (r : Rx) : Rx :=
  { r with
    engines := vset r.engines e none
    queue := r.queue ++ x
    engMap := vset r.engMap e (some q)
    engSpare := rest
    engRetired := p :: r.engRetired }

theorem engineReplaced_frame (e : Fin 4) (p q : Fin 5) (rest : List (Fin 5)) (s : State) :
    ∃ x, engineReplaced e p q rest s = rxMod (engineSwapped e p q rest x) (s.flag 0x40130020 1) := by
  obtain ⟨x, hlost⟩ := engineLost_frame e ((rxMod (fun r => { r with engRetired := p :: r.engRetired }) s).flag 0x40130020 1)
  refine ⟨x, ?_⟩
  rw [engineReplaced, hlost]
  rfl

/-- A free engine holds no codeword that would have to wait again. -/
theorem engineReplaced_free {s : State} {e : Fin 4} (h : vget s.rx.engines e = none) (p q : Fin 5) (rest : List (Fin 5)) :
    engineReplaced e p q rest s = rxMod (fun r => { r with engMap := vset r.engMap e (some q), engSpare := rest, engRetired := p :: r.engRetired })
      (s.flag 0x40130020 1) := by
  have hlost : engineLost e ((rxMod (fun r => { r with engRetired := p :: r.engRetired }) s).flag 0x40130020 1) =
      (rxMod (fun r => { r with engRetired := p :: r.engRetired }) s).flag 0x40130020 1 := engineLost_free h
  rw [engineReplaced, hlost]
  rfl

/-- A result whose check has failed leaves the checker, and its codeword waits in the queue again. -/
def codewordBack (c : Check) (s : State) : State :=
  rxMod (fun r => { r with queue := r.queue ++ [c.cw], regens := r.regens.filter (fun x => x != c.cw.frame) })
    ((checkTaken s).flag 0x40130020 0)

/-- The failed check shows beside the retirement. -/
theorem codewordBack_flagged (c : Check) (s : State) : ((codewordBack c s).flag 0x40130020 1).regB 0x40130020 0 = true := by
  obtain ⟨-, hothers, -⟩ := flagged_flag (codewordBack c s) 0x40130020 (n := 1) (by decide)
  rw [hothers _ _ (.inr (by decide)), codewordBack, regB_rxMod]
  exact regB_flag_self _ _ (by decide)

theorem syndromeCheckDone_headerMismatch {s : State} {c : Check} (h : s.rx.checking = [c]) (hheader : c.cw.header = true) (us : Int) :
    syndromeCheckDone c.engine false us s = retireEngine 0x0E c.engine false (codewordBack c s) :=
  (syndromeCheckDone_mismatch h us).trans (congrArg (retireEngine 0x0E c.engine false) (if_pos hheader))

end Sys2Proof.Machine

namespace Sys2Proof.Proofs
open Sys2Proof.Machine

/-- Settles O36: each event finds the one codeword, frame or unit that it concerns, and is that one's change besides counters, the tag result's
release and the health block's record. -/
theorem receiverDecoding : Obligations.ReceiverDecoding := by
  intro s l e f x y c k weak now bytes us fall residue
  refine ⟨fun hserves hfree hlow hqueue harrival => ⟨fun hfirst => ?_, fun hfirst => ?_⟩,
    fun hone hengine hframe => ⟨fun hheader => ⟨?_, ?_⟩, fun hheader hnumbered hstage => ?_⟩,
    fun hone hchecking he hframe => ⟨fun hheader => ?_, fun hheader hnumbered hstage => ?_, fun p q rest hheader hroll hmap hspare hfree => ?_⟩,
    fun hone hlane hruns hidle => ⟨fun hregen hfall hstage => ?_, fun hregen hfall hstage => ?_, fun hregen => ?_⟩,
    fun hone hready hbeneath hregen hresearch _ => ⟨fun hroom => ?_, fun hfull => ?_⟩,
    fun hroll => ⟨fun p q rest hmap hspare hfree => ?_, fun p q rest hmap hspare => ?_, fun p q rest hmap hspare => ?_⟩, rfl⟩
  · exact congrArg Host.Outcome.next (decodeStart_earlier hserves hfree hlow hqueue harrival hfirst)
  · exact congrArg Host.Outcome.next (decodeStart_later hserves hfree hlow hqueue harrival hfirst)
  · have hexec := decodeDone_headerFailed hengine k bytes weak hheader
    have hfailed : (engineFailed e s).rx.frames = [f] := hone.1
    rw [hframe, frameMod_only hfailed] at hexec
    exact ⟨_, congrArg Host.Outcome.next hexec, rfl, vget_vset_self _ _ _, (regN_rxMod ..).trans (regN_engineFailed_ended e s),
      (regN_rxMod ..).trans (regN_engineFailed_failed e s), (onlyRxRegs_engineFailed e s).rxMod _⟩
  · exact ⟨_, congrArg Host.Outcome.next (decodeDone_headerConverged hengine k bytes weak hheader), hone.1, vget_vset_self _ _ _,
      (regN_rxMod ..).trans (regN_engineDone e _ s), rfl, (onlyRxRegs_engineDone e _ s).rxMod _⟩
  · have hstage' : f.stage ≠ .shadow := by simp [hstage]
    exact ⟨_, congrArg Host.Outcome.next (decodeDone_frameFailed hone.1 hengine hframe hheader hnumbered hstage' k bytes weak),
      ⟨rfl, _, rfl, rfl, rfl, rfl⟩, vget_vset_self _ _ _, hone.freed rfl, regN_payloadFailed _ _ e s,
      onlyReceiver_payloadFailed _ _ e s⟩
  · subst he
    have hexec := syndromeCheckDone_header hchecking hheader us
    rw [hframe, frameMod_only (s := checkTaken s) hone.1] at hexec
    exact congrArg Host.Outcome.next hexec
  · subst he
    have hstage' : f.stage ≠ .shadow := by simp [hstage]
    have hone' : OneFrame (checkTaken s) l f := hone
    obtain ⟨t, hexec, hcompleted, hfreed, hnone, hrest⟩ := hone'.payloadChecked hnumbered hstage' us
    rw [← hframe] at hexec
    exact ⟨t, congrArg Host.Outcome.next ((syndromeCheckDone_payload hchecking hheader us).trans hexec), hcompleted, hfreed, hnone,
      congrArg (fun w : State => { w with rx := s.rx }) hrest⟩
  · subst he
    obtain ⟨hrx, hstat⟩ := retireEngine_spare (s := codewordBack c s) hroll hmap hspare 0x0E false
    rw [engineReplaced_free (s := codewordBack c s) hfree] at hrx hstat
    refine ⟨_, congrArg Host.Outcome.next (syndromeCheckDone_headerMismatch hchecking hheader us), ?_⟩
    rw [regB_congr hstat, regB_congr hstat, hrx]
    exact ⟨rfl, rfl, vget_vset_self _ _ _, rfl, rfl, codewordBack_flagged c s, regB_flag_self (codewordBack c s) _ (by decide)⟩
  · exact congrArg Host.Outcome.next (regenCheckWindow_goes hone hruns hlane hidle hregen hfall hstage)
  · exact ⟨_, congrArg Host.Outcome.next (regenCheckWindow_poor hone hruns hlane hidle hregen hfall hstage), rfl, regN_countBoth _ _ _,
      (onlyRx_rxMod _ s).onlyReceiver (onlyShown_countBoth _ (by decide) _)⟩
  · exact ⟨_, congrArg Host.Outcome.next (regenDone_cancels hone hruns hlane hidle hregen), rfl, regN_bump_self _ _, rfl⟩
  · obtain ⟨m, v, ⟨honly, hwritten, hkept⟩, hexec⟩ := receptionReport_written hone hready hbeneath hregen hresearch hroom
    exact ⟨_, congrArg Host.Outcome.next hexec, congrArg Rx.ready honly.rx, rfl, regN_setRegN_self (ringNext_lt s) m _, hwritten,
      report_length f s, hkept⟩
  · exact ⟨_, congrArg Host.Outcome.next (receptionReport_lost hone hready hbeneath hregen hresearch hfull), rfl, rfl, regN_countBoth _ _ 0x38,
      ((onlyRx_rxMod _ s).onlyReceiver (onlyShown_countBoth _ (by decide) _)).rxMod _⟩
  · refine ⟨_, rfl, ?_⟩
    rw [rx_retireLane hroll hmap hspare hfree]
    exact ⟨vget_vset_self _ _ _, fun m hm => vget_vset_ne hm.symm, rfl, rfl, rfl⟩
  · refine ⟨_, rfl, ?_⟩
    rw [rx_retireSlice hroll hmap hspare]
    refine ⟨vget_vset_self _ _ _, fun m hm => vget_vset_ne hm.symm, rfl, rfl, fun hrecord => ?_⟩
    simp [sliceReplaced, hrecord]
  · obtain ⟨hrx, hstat⟩ := retireEngine_spare hroll hmap hspare 0x0D false
    obtain ⟨z, hswap⟩ := engineReplaced_frame e p q rest s
    rw [hswap] at hrx hstat
    refine ⟨_, rfl, ?_⟩
    rw [regB_congr hstat, regB_rxMod, hrx]
    exact ⟨vget_vset_self _ _ _, fun m hm => vget_vset_ne hm.symm, rfl, vget_vset_self _ _ _, regB_flag_self s _ (by decide)⟩

end Sys2Proof.Proofs
end

section
/-! SUPPORT. Fields of registers, and the registers of the transmitter's power bands: coefficient sets and ceilings (R203, R210). -/

namespace Sys2Proof.Machine

/-! ### Fields of a register -/

/-- A number's bits below, within and above a field. -/
theorem field_split {hi lo : Nat} (h : lo ≤ hi) (v : Nat) :
    v = v % 2 ^ lo + 2 ^ lo * (field v hi lo + 2 ^ (hi + 1 - lo) * (v / 2 ^ (hi + 1))) := by
  have hpow : 2 ^ (hi + 1) = 2 ^ lo * 2 ^ (hi + 1 - lo) := by
    rw [← pow_add]
    congr 1
    omega
  have hmid : field v hi lo + 2 ^ (hi + 1 - lo) * (v / 2 ^ (hi + 1)) = v / 2 ^ lo := by
    rw [hpow, ← Nat.div_div_eq_div_mul]
    exact Nat.mod_add_div _ _
  rw [hmid]
  exact (Nat.mod_add_div _ _).symm

theorem putField_split {hi lo : Nat} (h : lo ≤ hi) (v x : Nat) :
    putField v hi lo x = 2 ^ lo * (2 ^ (hi + 1 - lo) * (v / 2 ^ (hi + 1)) + x % 2 ^ (hi + 1 - lo)) + v % 2 ^ lo := by
  have hv := field_split h v
  unfold putField
  rw [Nat.mul_add] at hv ⊢
  rw [Nat.mul_comm (field v hi lo), Nat.mul_comm (x % _)]
  omega

theorem testBit_putField {hi lo : Nat} (h : lo ≤ hi) (v x j : Nat) :
    (putField v hi lo x).testBit j = if lo ≤ j ∧ j ≤ hi then x.testBit (j - lo) else v.testBit j := by
  rw [putField_split h, Nat.testBit_two_pow_mul_add _ (Nat.mod_lt _ (Nat.two_pow_pos lo)),
    Nat.testBit_two_pow_mul_add _ (Nat.mod_lt _ (Nat.two_pow_pos _)), Nat.testBit_mod_two_pow, Nat.testBit_mod_two_pow, Nat.testBit_div_two_pow]
  by_cases hlow : j < lo
  · simp [hlow, Nat.not_le.2 hlow]
  · by_cases hhigh : j ≤ hi
    · have hin : j - lo < hi + 1 - lo := by omega
      simp [hlow, hin, Nat.le_of_not_lt hlow, hhigh]
    · have hout : ¬j - lo < hi + 1 - lo := by omega
      have hplace : j - lo - (hi + 1 - lo) + (hi + 1) = j := by omega
      simp [hlow, hout, hhigh, hplace]

theorem regB_setRegF {hi lo : Nat} (h : lo ≤ hi) (hhi : hi < 32) (s : State) (a v j : Nat) :
    (s.setRegF a hi lo v).regB a j = if lo ≤ j ∧ j ≤ hi then v.testBit (j - lo) else s.regB a j := by
  rw [State.setRegF, regB_setRegN_self, testBit_putField h]
  by_cases hj : j < 32
  · simp [hj, State.regB, bit]
  · have hout : ¬(lo ≤ j ∧ j ≤ hi) := by omega
    simp [hj, hout, regB_of_le (s := s) (a := a) (Nat.le_of_not_lt hj)]

theorem testBit_regF (s : State) (a hi lo j : Nat) : (s.regF a hi lo).testBit j = (decide (j < hi + 1 - lo) && s.regB a (lo + j)) := by
  rw [State.regF, field, Nat.testBit_mod_two_pow, Nat.testBit_div_two_pow, Nat.add_comm j lo]
  rfl

/-- A field given a value holds its low bits. -/
theorem regF_setRegF_self {hi lo : Nat} (h : lo ≤ hi) (hhi : hi < 32) (s : State) (a v : Nat) :
    (s.setRegF a hi lo v).regF a hi lo = v % 2 ^ (hi + 1 - lo) := by
  refine Nat.eq_of_testBit_eq fun j => ?_
  rw [testBit_regF, regB_setRegF h hhi, Nat.testBit_mod_two_pow]
  by_cases hj : j < hi + 1 - lo
  · have hin : lo + j ≤ hi := by omega
    simp [hin]
  · simp [hj]

/-- Fields that do not meet are set independently. -/
theorem regF_setRegF_apart {hi lo hi' lo' : Nat} (h : lo ≤ hi) (hhi : hi < 32) (hapart : hi' < lo ∨ hi < lo') (s : State) (a v : Nat) :
    (s.setRegF a hi lo v).regF a hi' lo' = s.regF a hi' lo' := by
  refine Nat.eq_of_testBit_eq fun j => ?_
  rw [testBit_regF, testBit_regF, regB_setRegF h hhi]
  by_cases hj : j < hi' + 1 - lo'
  · have hout : ¬(lo ≤ lo' + j ∧ lo' + j ≤ hi) := by omega
    rw [if_neg hout]
  · simp [hj]

/-! ### Registers set in turn -/

theorem onlyRegs_setReg (s : State) (a : Nat) (v : BitVec 32) : OnlyRegs s (s.setReg a v) := rfl

section
variable {f : Nat → Nat} (v : Nat → BitVec 32) (l : List Nat) (s : State)

theorem reg_foldS_setReg (hf : Function.Injective f) (i : Nat) :
    (foldS (fun i s => s.setReg (f i) (v i)) l s).reg (f i) = if i ∈ l then v i else s.reg (f i) := by
  induction l generalizing s with
  | nil => rfl
  | cons j l ih =>
    rw [foldS, ih]
    by_cases hj : i = j
    · subst hj
      simp
    · simp [hj, reg_setReg_ne s _ (hf.ne hj)]

theorem reg_foldS_setReg_ne {a : Nat} (h : ∀ i ∈ l, a ≠ f i) : (foldS (fun i s => s.setReg (f i) (v i)) l s).reg a = s.reg a := by
  induction l generalizing s with
  | nil => rfl
  | cons j l ih =>
    rw [foldS, ih _ (fun i hi => h i (List.mem_cons_of_mem j hi)), reg_setReg_ne s _ (h j List.mem_cons_self)]

end

/-! ### Where the bands' registers lie -/

theorem coefReg_injective (b : Fin 4) : Function.Injective (coefReg b) := by
  intro i j h
  unfold coefReg at h
  omega

theorem coefReg_ne_coefReg {b c : Fin 4} (h : b ≠ c) {i j : Nat} (hi : i < 15) (hj : j < 15) : coefReg b i ≠ coefReg c j := by
  have hval : b.1 ≠ c.1 := fun hbc => h (Fin.ext hbc)
  unfold coefReg
  omega

theorem coefReg_ne {a : Nat} (h : a < 0x40140800) (b : Fin 4) (i : Nat) : a ≠ coefReg b i := by
  unfold coefReg
  omega

theorem bandReg_lt (b : Fin 4) : bandReg b < 0x40140800 := by
  unfold bandReg
  omega

theorem bandReg_ne_bandReg {b c : Fin 4} (h : b ≠ c) : bandReg b ≠ bandReg c := by
  have hval : b.1 ≠ c.1 := fun hbc => h (Fin.ext hbc)
  unfold bandReg
  omega

/-- Outside the four band registers. -/
theorem ne_bandReg {a : Nat} (h : a < 0x40140050 ∨ 0x40140060 ≤ a) (b : Fin 4) : a ≠ bandReg b := by
  unfold bandReg
  omega

/-! ### Coefficient sets -/

section
variable (b : Fin 4) (l : List (BitVec 32)) (s : State)

theorem reg_putCoefs {i : Nat} (hi : i < 15) : (putCoefs b l s).reg (coefReg b i) = l.getD i 0 := by
  rw [putCoefs, reg_foldS_setReg _ _ _ (coefReg_injective b), if_pos (List.mem_range.2 hi)]

theorem reg_putCoefs_ne {a : Nat} (h : ∀ i, i < 15 → a ≠ coefReg b i) : (putCoefs b l s).reg a = s.reg a :=
  reg_foldS_setReg_ne _ _ _ fun i hi => h i (List.mem_range.1 hi)

theorem reg_putCoefs_below {a : Nat} (h : a < 0x40140800) : (putCoefs b l s).reg a = s.reg a :=
  reg_putCoefs_ne b l s fun i _ => coefReg_ne h b i

theorem onlyRegs_putCoefs : OnlyRegs s (putCoefs b l s) := by
  unfold putCoefs
  exact foldS_keeps (R := OnlyRegs) OnlyRegs.refl OnlyRegs.trans (fun i s => onlyRegs_setReg s (coefReg b i) (l.getD i 0)) _ s

end

theorem getD_map_range {n i : Nat} (h : i < n) (f : Nat → BitVec 32) : ((List.range n).map f).getD i 0 = f i := by
  simp [h]

/-! ### Ceilings -/

theorem signed_unsigned_byte {v : Int} (hlo : -128 ≤ v) (hhi : v < 128) : signed 8 (unsigned 8 v) = v := by
  simp only [signed, unsigned]
  omega

theorem ceiling_eq_field (s : State) (b : Fin 4) : s.ceiling b = signed 8 (s.regF (bandReg b) 7 0) := by
  simp [State.ceiling, State.regF, field, signed]

theorem ceiling_range (s : State) (b : Fin 4) : -128 ≤ s.ceiling b ∧ s.ceiling b < 128 := by
  simp only [State.ceiling, signed]
  omega

theorem ceiling_congr {s t : State} {b : Fin 4} (h : t.reg (bandReg b) = s.reg (bandReg b)) : t.ceiling b = s.ceiling b := by
  rw [ceiling_eq_field, ceiling_eq_field, regF_congr h]

section
variable (b : Fin 4) (v : Int) (s : State)

theorem ceiling_setCeiling (hlo : -128 ≤ v) (hhi : v < 128) : (setCeiling b v s).ceiling b = v := by
  rw [ceiling_eq_field, setCeiling, regF_setRegF_self (by decide) (by decide), Nat.mod_eq_of_lt (unsigned_lt 8 v), signed_unsigned_byte hlo hhi]

/-- The other fields of a band's register do not hold its ceiling. -/
theorem ceiling_setRegF {hi lo x : Nat} (h : lo ≤ hi) (hhi : hi < 32) (hlo : 8 ≤ lo) : (s.setRegF (bandReg b) hi lo x).ceiling b = s.ceiling b := by
  rw [ceiling_eq_field, ceiling_eq_field, regF_setRegF_apart h hhi (.inl hlo)]

theorem run_setCeiling : (setCeiling b v s).regF (bandReg b) 9 8 = s.regF (bandReg b) 9 8 :=
  regF_setRegF_apart (by decide) (by decide) (by decide) s _ _

theorem reg_setCeiling_ne {a : Nat} (h : a ≠ bandReg b) : (setCeiling b v s).reg a = s.reg a := reg_setRegF_ne s _ _ _ h

end

theorem reg_dPut (s : State) (x y v a : Nat) : (s.dPut x y v).reg a = s.reg a := rfl

theorem reg_syncBands (s : State) (a : Nat) : (syncBands s).reg a = s.reg a := by
  unfold syncBands
  rw [reg_dPut, reg_dPut]

end Sys2Proof.Machine
end

section
/-! SUPPORT. Grants of the transmitter with its own PA, and the window that starts a fit (R199, R201, R206). -/

namespace Sys2Proof.Machine

/-! ### A request -/

theorem grantRequest_taken {lnk : Bool} {s : State} (h : lnk = true ∨ s.owns dRADIO = false) (v : BitVec 32) :
    grantRequest lnk v s = grantFor (signed 8 v.toNat) ((v.extractLsb' 8 3).toNat + 1) (s.setReg 0x40140008 (v &&& 0x7FF)) := by
  have hcount : field v.toNat 10 8 = (v.extractLsb' 8 3).toNat := by
    simp [field, Nat.shiftRight_eq_div_pow]
  have hnot : ¬(!lnk && s.owns dRADIO) = true := by
    rcases h with rfl | h
    · simp
    · simp [h]
  rw [grantRequest, if_neg hnot, hcount]

theorem grantRequest_ignored {s : State} (h : s.owns dRADIO = true) (v : BitVec 32) : grantRequest false v s = s :=
  if_pos (by simp [h])

/-! ### A grant -/

/-- The power that is left of a request `p` for `n` carriers in a band: no more than the ceiling for two or more outside band 0 (R199). -/
def ceiledPower (n : Nat) (band : Fin 4) (s : State) (p : Int) : Int := if 2 ≤ n ∧ band ≠ 0 ∧ s.ceiling band < p then s.ceiling band else p

section
variable {s : State} (hepa : s.epa = false)
include hepa

theorem bandOf_onChip (p : Int) : bandOf s p = if p < 16 then 0 else if p < 28 then 1 else 2 := by
  simp [bandOf, hepa]

theorem powerRange_onChip : powerRange s = (-40, 40) := by
  simp [powerRange, hepa]

/-- With no external PA, no mismatch and nothing on air a grant is the least of the request and TX_MAX_POWER, under the ceiling and in the range. -/
theorem grantFor_onChip (hmatch : s.rf.mismatch = false) (hair : s.txm.onAir = false) (p : Int) (n : Nat) :
    ∃ g, g.n = n ∧ g.band = bandOf s (min p (s.dI 0x2200 0x40)) ∧
      g.power = max (-40) (min 40 (ceiledPower n g.band s (min p (s.dI 0x2200 0x40)))) ∧
      OnlyRegs (txmMod (fun t => { t with grant := some g }) s) (grantFor p n s) := by
  have hstats : ∀ (shares : List Int) (l : List (Fin 8)) (t : State),
      OnlyRegs t (foldS (fun c s => s.setRegF (carStat c) 31 24 (unsigned 8 (shares.getD c.1 0))) l t) := fun shares l t =>
    foldS_keeps (R := OnlyRegs) OnlyRegs.refl OnlyRegs.trans (fun c s => (OnlyRegs.refl s).setRegF (carStat c) _ _ _) l t
  unfold grantFor
  simp only [hepa, hmatch, hair, Bool.false_eq_true, if_false]
  refine ⟨_, ?_, ?_, ?_, (((OnlyRegs.refl _).setRegN _ _).trans (hstats _ _ _)).trans (.ite (onlyRegs_flag _ _ _) (.refl _))⟩
  · rfl
  · rfl
  · rw [powerRange_onChip hepa]
    refine (clampI_eq (-40) 40 _ (by decide)).trans ?_
    simp [ceiledPower, and_assoc]

end

/-- What GRANT_REQUEST comes to (R199). -/
theorem grantRequest_onChip {lnk : Bool} {s : State} (h : lnk = true ∨ s.owns dRADIO = false) (hepa : s.epa = false)
    (hmatch : s.rf.mismatch = false) (hair : s.txm.onAir = false) (v : BitVec 32) :
    ∃ g, g.n = (v.extractLsb' 8 3).toNat + 1 ∧ g.band = bandOf s (min (signed 8 v.toNat) (s.dI 0x2200 0x40)) ∧
      g.power = max (-40) (min 40 (ceiledPower g.n g.band s (min (signed 8 v.toNat) (s.dI 0x2200 0x40)))) ∧
      OnlyRegs (txmMod (fun t => { t with grant := some g }) s) (grantRequest lnk v s) := by
  obtain ⟨g, hn, hband, hpower, honly⟩ := grantFor_onChip (s := s.setReg 0x40140008 (v &&& 0x7FF)) hepa hmatch hair (signed 8 v.toNat)
    ((v.extractLsb' 8 3).toNat + 1)
  have hceiling : ∀ b, (s.setReg 0x40140008 (v &&& 0x7FF)).ceiling b = s.ceiling b := fun b =>
    ceiling_congr (reg_setReg_ne s _ (ne_bandReg (.inl (by decide)) b).symm)
  rw [ceiledPower, hceiling] at hpower
  rw [grantRequest_taken h]
  refine ⟨g, hn, hband, ?_, (onlyRegs_setReg (txmMod _ s) _ _).trans honly⟩
  rw [hpower, hn]
  rfl

/-! ### The feedback window -/

theorem dpdWindow_opens {s : State} {b : Fin 4} (h : predistorted s = some b) (hair : s.txm.onAir = true) (hadapt : s.dU 0x2200 0x47 = 1) :
    dpdWindow s = (txmMod (fun t => { t with fit := some (b, decide (2 ≤ t.count)) }) s).setRegF 0x40140004 5 5 1 := by
  simp [dpdWindow, h, hair, hadapt]

theorem dpdWindow_undistorted {s : State} (h : predistorted s = none) : dpdWindow s = s := by
  rw [dpdWindow, h]

end Sys2Proof.Machine
end

section
/-! SUPPORT. The end of a fit: the set adapts, and the verdict of a burst of several carriers moves the band's ceiling (R206, R207). -/

namespace Sys2Proof.Machine

/-! ### What a fit's end keeps -/

/-- Of the machine only the transmitter, registers and entries have changed, and the fit under way and TXM_CFG are as they were. -/
structure KeepsFit (s t : State) : Prop where
  fit : t.txm.fit = s.txm.fit
  config : t.reg 0x40140004 = s.reg 0x40140004
  frame : { t with txm := s.txm, regs := s.regs, dict := s.dict } = s

theorem KeepsFit.trans {s t u : State} (h : KeepsFit s t) (h' : KeepsFit t u) : KeepsFit s u := by
  obtain ⟨fit, config, frame⟩ := h
  obtain ⟨fit', config', frame'⟩ := h'
  have htwice := congrArg (fun w : State => { w with txm := s.txm, regs := s.regs, dict := s.dict }) frame'
  exact ⟨fit'.trans fit, config'.trans config, htwice.trans frame⟩

theorem OnlyRegs.keepsFit {s t : State} (h : OnlyRegs s t) (hconfig : t.reg 0x40140004 = s.reg 0x40140004) : KeepsFit s t := by
  obtain ⟨r, rfl⟩ := h.exists_eq
  exact ⟨rfl, hconfig, rfl⟩

theorem keepsFit_setReg {a : Nat} (h : 0x40140004 ≠ a) (v : BitVec 32) (s : State) : KeepsFit s (s.setReg a v) :=
  (onlyRegs_setReg s a v).keepsFit (reg_setReg_ne s v h)

theorem keepsFit_dSet (x y : Nat) (v : List Byte) (s : State) : KeepsFit s (s.dSet x y v) := ⟨rfl, rfl, rfl⟩

theorem keepsFit_band (b : Fin 4) (hi lo v : Nat) (s : State) : KeepsFit s (s.setRegF (bandReg b) hi lo v) :=
  keepsFit_setReg (ne_bandReg (.inl (by decide)) b) _ s

theorem keepsFit_setCeiling (b : Fin 4) (v : Int) (s : State) : KeepsFit s (setCeiling b v s) := keepsFit_band b _ _ _ s

theorem keepsFit_putCoefs (b : Fin 4) (l : List (BitVec 32)) (s : State) : KeepsFit s (putCoefs b l s) :=
  (onlyRegs_putCoefs b l s).keepsFit (reg_putCoefs_below b l s (by decide))

theorem keepsFit_syncBands (s : State) : KeepsFit s (syncBands s) := by
  unfold syncBands
  exact (keepsFit_dSet _ _ _ s).trans (keepsFit_dSet ..)

/-! ### The verdicts (R207) -/

/-- The length of the run of passes shown, and CONVERGED with the third. -/
def runShown (b : Fin 4) (run : Nat) (s : State) : State :=
  let s := s.setRegF (bandReg b) 9 8 run
  if run = 3 then s.setRegF (bandReg b) 31 31 1 else s

/-- A pass in the band's register: a higher ceiling and a longer run. -/
def passShown (b : Fin 4) (s : State) : State :=
  runShown b (min 3 (s.regF (bandReg b) 9 8 + 1)) (setCeiling b (min (bandMax s b) (s.ceiling b + 1)) s)

theorem dpdPass_eq (b : Fin 4) (new : List (BitVec 32)) (s : State) :
    dpdPass b new s = putCoefs b new (txmMod (fun t => { t with lastGood := vset t.lastGood b new }) (passShown b s)) := by
  simp only [dpdPass, passShown, runShown, run_setCeiling]

/-- A fail in the band's register: a lower ceiling, no run, and no CONVERGED. -/
def failShown (b : Fin 4) (s : State) : State :=
  ((setCeiling b (max (bandFloor s b) (s.ceiling b - 2)) s).setRegF (bandReg b) 9 8 0).setRegF (bandReg b) 31 31 0

/-- A fail counted, with its alarm. -/
def failCounted (s : State) : State := ((s.flag txmStat 2).bump 0x4014002C).dBump 0x2200 0x4D

theorem txm_failShown (b : Fin 4) (s : State) : (failShown b s).txm = s.txm :=
  (State.setRegF_txm ..).trans ((State.setRegF_txm ..).trans (State.setRegF_txm ..))

theorem dpdFail_eq (b : Fin 4) (s : State) : dpdFail b s = putCoefs b (vget s.txm.lastGood b) (failCounted (failShown b s)) := by
  rw [← txm_failShown b s]
  rfl

theorem keepsFit_failCounted (s : State) : KeepsFit s (failCounted s) :=
  ((keepsFit_setReg (by decide) _ s).trans (keepsFit_setReg (by decide) _ _)).trans (keepsFit_dSet ..)

theorem reg_failCounted (b : Fin 4) (s : State) : (failCounted s).reg (bandReg b) = s.reg (bandReg b) :=
  (reg_bump_ne _ (ne_bandReg (.inl (by decide)) b).symm).trans (reg_flag_ne s 2 (ne_bandReg (.inl (by decide)) b).symm)

theorem runShown_shows {b : Fin 4} {run : Nat} (hrun : run < 4) (s : State) :
    (runShown b run s).ceiling b = s.ceiling b ∧ (runShown b run s).regF (bandReg b) 9 8 = run ∧ KeepsFit s (runShown b run s) := by
  have hfield : (s.setRegF (bandReg b) 9 8 run).regF (bandReg b) 9 8 = run :=
    (regF_setRegF_self (by decide) (by decide) s _ run).trans (Nat.mod_eq_of_lt hrun)
  have hceiling : (s.setRegF (bandReg b) 9 8 run).ceiling b = s.ceiling b := ceiling_setRegF b s (by decide) (by decide) (by decide)
  have hkeeps := keepsFit_band b 9 8 run s
  unfold runShown
  dsimp only
  split
  · exact ⟨(ceiling_setRegF b _ (by decide) (by decide) (by decide)).trans hceiling,
      (regF_setRegF_apart (by decide) (by decide) (by decide) _ _ _).trans hfield, hkeeps.trans (keepsFit_band ..)⟩
  · exact ⟨hceiling, hfield, hkeeps⟩

section
variable {b : Fin 4} (hb : b ≠ 3) (s : State)
include hb

/-- The bands of the on-chip PA have ceilings that a byte holds. -/
theorem bandLimits : 0 ≤ bandMax s b ∧ bandMax s b ≤ 40 ∧ 0 ≤ bandFloor s b ∧ bandFloor s b ≤ 28 := by
  match b with
  | 0 => simp [bandMax, bandFloor]
  | 1 => simp [bandMax, bandFloor]
  | 2 => simp [bandMax, bandFloor]
  | 3 => exact absurd rfl hb

theorem bandMax_onChip (t : State) : bandMax t b = bandMax s b := by
  match b with
  | 0 | 1 | 2 => rfl
  | 3 => exact absurd rfl hb

theorem bandFloor_onChip (t : State) : bandFloor t b = bandFloor s b := by
  match b with
  | 0 | 1 | 2 => rfl
  | 3 => exact absurd rfl hb

theorem passShown_shows : (passShown b s).ceiling b = min (bandMax s b) (s.ceiling b + 1) ∧
    (passShown b s).regF (bandReg b) 9 8 = min 3 (s.regF (bandReg b) 9 8 + 1) ∧ KeepsFit s (passShown b s) := by
  obtain ⟨hmax, hmax', -⟩ := bandLimits hb s
  have hrange := ceiling_range s b
  obtain ⟨hceiling, hrun, hkeeps⟩ := runShown_shows (b := b) (run := min 3 (s.regF (bandReg b) 9 8 + 1)) (by omega)
    (setCeiling b (min (bandMax s b) (s.ceiling b + 1)) s)
  exact ⟨hceiling.trans (ceiling_setCeiling b _ s (by omega) (by omega)), hrun, (keepsFit_setCeiling b _ s).trans hkeeps⟩

theorem failShown_shows : (failShown b s).ceiling b = max (bandFloor s b) (s.ceiling b - 2) ∧ (failShown b s).regF (bandReg b) 9 8 = 0 ∧
    (failShown b s).regB (bandReg b) 31 = false ∧ KeepsFit s (failShown b s) := by
  obtain ⟨-, -, hfloor, hfloor'⟩ := bandLimits hb s
  have hrange := ceiling_range s b
  have hceiling := ceiling_setCeiling b (max (bandFloor s b) (s.ceiling b - 2)) s (by omega) (by omega)
  have hkeeps := keepsFit_setCeiling b (max (bandFloor s b) (s.ceiling b - 2)) s
  unfold failShown
  refine ⟨?_, ?_, ?_, (hkeeps.trans (keepsFit_band ..)).trans (keepsFit_band ..)⟩
  · rw [ceiling_setRegF b _ (by decide) (by decide) (by decide), ceiling_setRegF b _ (by decide) (by decide) (by decide), hceiling]
  · rw [regF_setRegF_apart (by decide) (by decide) (by decide), regF_setRegF_self (by decide) (by decide), Nat.zero_mod]
  · rw [regB_setRegF (by decide) (by decide), if_pos (by decide)]
    rfl

end

/-! ### The end of a fit (R206) -/

/-- No fit is under way any more. -/
def fitEnded (s : State) : State := (txmMod (fun t => { t with fit := none }) s).setRegF 0x40140004 5 5 0

/-- The emission measured is shown. -/
def fitMeasured (aclr : BitVec 16) (s : State) : State := ((fitEnded s).setRegN 0x40140030 aclr.toNat).dPut 0x2200 0x4A aclr.toNat

/-- A band's set moved toward the fit. -/
def adapted (b : Fin 4) (fit : List (BitVec 32)) (s : State) : List (BitVec 32) :=
  (List.range 15).map fun i => adaptWord (muDiv s) (s.reg (coefReg b i)) (fit.getD i 0)

theorem adapted_getD (b : Fin 4) (fit : List (BitVec 32)) (s : State) {i : Nat} (hi : i < 15) :
    (adapted b fit s).getD i 0 = adaptWord (muDiv s) (s.reg (coefReg b i)) (fit.getD i 0) := getD_map_range hi _

theorem reg_fitEnded {a : Nat} (h : a ≠ 0x40140004) (s : State) : (fitEnded s).reg a = s.reg a :=
  reg_setRegF_ne (txmMod _ s) _ _ _ h

theorem reg_fitMeasured {a : Nat} (hconfig : a ≠ 0x40140004) (haclr : a ≠ 0x40140030) (aclr : BitVec 16) (s : State) :
    (fitMeasured aclr s).reg a = s.reg a :=
  (reg_setRegN_ne (fitEnded s) _ haclr).trans (reg_fitEnded hconfig s)

theorem ceiling_fitEnded (b : Fin 4) (s : State) : (fitEnded s).ceiling b = s.ceiling b :=
  ceiling_congr (reg_fitEnded (ne_bandReg (.inl (by decide)) b).symm s)

theorem reg_fitMeasured_band (b : Fin 4) (aclr : BitVec 16) (s : State) : (fitMeasured aclr s).reg (bandReg b) = s.reg (bandReg b) :=
  reg_fitMeasured (ne_bandReg (.inl (by decide)) b).symm (ne_bandReg (.inl (by decide)) b).symm aclr s

/-- The fit is over and TXM_CFG shows it; beside the transmitter, registers and entries nothing has changed. -/
structure FitDone (s t : State) : Prop where
  fit : t.txm.fit = none
  shown : t.regB 0x40140004 5 = false
  frame : { t with txm := s.txm, regs := s.regs, dict := s.dict } = s

theorem fitDone_fitEnded (s : State) : FitDone s (fitEnded s) := by
  refine ⟨rfl, ?_, rfl⟩
  unfold fitEnded
  rw [regB_setRegF (by decide) (by decide), if_pos (by decide)]
  rfl

theorem FitDone.keeps {s t u : State} (h : FitDone s t) (h' : KeepsFit t u) : FitDone s u := by
  obtain ⟨fit, shown, frame⟩ := h
  obtain ⟨fit', config, frame'⟩ := h'
  have htwice := congrArg (fun w : State => { w with txm := s.txm, regs := s.regs, dict := s.dict }) frame'
  exact ⟨fit'.trans fit, (regB_congr config 5).trans shown, htwice.trans frame⟩

theorem fitDone_fitMeasured (aclr : BitVec 16) (s : State) : FitDone s (fitMeasured aclr s) :=
  (fitDone_fitEnded s).keeps ((keepsFit_setReg (by decide) _ _).trans (keepsFit_dSet ..))

section
variable {s : State} {b : Fin 4} {multi : Bool} (h : s.txm.fit = some (b, multi)) (fit : List (BitVec 32)) (aclr : BitVec 16)
include h

theorem dpdFitDone_levelOff : dpdFitDone fit aclr true s = fitEnded s := by
  simp only [dpdFitDone, h, if_true]
  rfl

/-- With the level right the set is adapted from what the fit's start left, and the verdict is one of three. -/
theorem dpdFitDone_level : dpdFitDone fit aclr false s =
    if multi = false then putCoefs b (adapted b fit s) (fitMeasured aclr s)
    else if aclr.toInt ≤ -4 * (s.dU 0x2200 0x42 : Int) then syncBands (dpdPass b (adapted b fit s) (fitMeasured aclr s))
    else if -120 < aclr.toInt then syncBands (dpdFail b (fitMeasured aclr s))
    else putCoefs b (adapted b fit s) ((fitMeasured aclr s).setRegF (bandReg b) 9 8 0) := by
  have hset : adapted b fit (fitEnded s) = adapted b fit s := by
    have hword : ∀ i, (fitEnded s).reg (coefReg b i) = s.reg (coefReg b i) := fun i => reg_fitEnded (coefReg_ne (by decide) b i).symm s
    simp only [adapted, hword]
    rfl
  have htarget : (fitMeasured aclr s).dU 0x2200 0x42 = s.dU 0x2200 0x42 := congrArg leNat (dGet_dPut_ne _ _ (by decide))
  rw [← hset, ← htarget]
  unfold dpdFitDone
  rw [h]
  cases multi
  · rfl
  · rfl

end

/-! ### What each outcome leaves -/

/-- The set and the ceiling of a band whose set has been replaced last. -/
theorem coefs_syncBands_putCoefs (b : Fin 4) (l : List (BitVec 32)) (t : State) {i : Nat} (hi : i < 15) :
    (syncBands (putCoefs b l t)).reg (coefReg b i) = l.getD i 0 :=
  (reg_syncBands _ _).trans (reg_putCoefs b l t hi)

theorem reg_syncBands_putCoefs_band (b : Fin 4) (l : List (BitVec 32)) (t : State) :
    (syncBands (putCoefs b l t)).reg (bandReg b) = t.reg (bandReg b) :=
  (reg_syncBands _ _).trans (reg_putCoefs_below b l t (bandReg_lt b))

section
variable {s : State} {b : Fin 4} {multi : Bool} (h : s.txm.fit = some (b, multi)) (fit : List (BitVec 32)) (aclr : BitVec 16)
include h

theorem dpdFitDone_discarded : FitDone s (dpdFitDone fit aclr true s) ∧
    (∀ i, (dpdFitDone fit aclr true s).reg (coefReg b i) = s.reg (coefReg b i)) ∧ (dpdFitDone fit aclr true s).ceiling b = s.ceiling b := by
  rw [dpdFitDone_levelOff h]
  exact ⟨fitDone_fitEnded s, fun i => reg_fitEnded (coefReg_ne (by decide) b i).symm s, ceiling_fitEnded b s⟩

theorem dpdFitDone_single (hmulti : multi = false) : FitDone s (dpdFitDone fit aclr false s) ∧
    (∀ i, i < 15 → (dpdFitDone fit aclr false s).reg (coefReg b i) = adaptWord (muDiv s) (s.reg (coefReg b i)) (fit.getD i 0)) ∧
    (dpdFitDone fit aclr false s).ceiling b = s.ceiling b := by
  rw [dpdFitDone_level h, if_pos hmulti]
  refine ⟨(fitDone_fitMeasured aclr s).keeps (keepsFit_putCoefs ..), fun i hi => ?_, ?_⟩
  · rw [reg_putCoefs _ _ _ hi, adapted_getD b fit s hi]
  · exact ceiling_congr ((reg_putCoefs_below b _ _ (bandReg_lt b)).trans (reg_fitMeasured_band b aclr s))

section
variable (hb : b ≠ 3) (hmulti : multi = true)
include hb hmulti

theorem dpdFitDone_pass (hpass : aclr.toInt ≤ -4 * (s.dU 0x2200 0x42 : Int)) : FitDone s (dpdFitDone fit aclr false s) ∧
    (∀ i, i < 15 → (dpdFitDone fit aclr false s).reg (coefReg b i) = adaptWord (muDiv s) (s.reg (coefReg b i)) (fit.getD i 0)) ∧
    (dpdFitDone fit aclr false s).ceiling b = min (bandMax s b) (s.ceiling b + 1) ∧
    (dpdFitDone fit aclr false s).regF (bandReg b) 9 8 = min 3 (s.regF (bandReg b) 9 8 + 1) := by
  obtain ⟨hceiling, hrun, hkeeps⟩ := passShown_shows hb (fitMeasured aclr s)
  have hband := reg_fitMeasured_band b aclr s
  have hmax : bandMax (fitMeasured aclr s) b = bandMax s b := bandMax_onChip hb _ _
  rw [hmax, ceiling_congr hband] at hceiling
  rw [regF_congr hband] at hrun
  have hdone := (fitDone_fitMeasured aclr s).keeps hkeeps
  rw [dpdFitDone_level h, if_neg (by simp [hmulti]), if_pos hpass, dpdPass_eq]
  generalize passShown b (fitMeasured aclr s) = u at hceiling hrun hdone ⊢
  have hreg := reg_syncBands_putCoefs_band b (adapted b fit s) (txmMod (fun t => { t with lastGood := vset t.lastGood b (adapted b fit s) }) u)
  refine ⟨(hdone.keeps ?_).keeps ((keepsFit_putCoefs ..).trans (keepsFit_syncBands _)), fun i hi => ?_, ?_, ?_⟩
  · exact ⟨rfl, rfl, rfl⟩
  · rw [coefs_syncBands_putCoefs _ _ _ hi, adapted_getD b fit s hi]
  · exact (ceiling_congr hreg).trans hceiling
  · exact (regF_congr hreg 9 8).trans hrun

theorem dpdFitDone_fail (hnot : -4 * (s.dU 0x2200 0x42 : Int) < aclr.toInt) (hfail : -120 < aclr.toInt) :
    FitDone s (dpdFitDone fit aclr false s) ∧
    (∀ i, i < 15 → (dpdFitDone fit aclr false s).reg (coefReg b i) = (vget s.txm.lastGood b).getD i 0) ∧
    (dpdFitDone fit aclr false s).ceiling b = max (bandFloor s b) (s.ceiling b - 2) ∧
    (dpdFitDone fit aclr false s).regF (bandReg b) 9 8 = 0 ∧ (dpdFitDone fit aclr false s).regB (bandReg b) 31 = false := by
  obtain ⟨hceiling, hrun, hconverged, hkeeps⟩ := failShown_shows hb (fitMeasured aclr s)
  have hfloor : bandFloor (fitMeasured aclr s) b = bandFloor s b := bandFloor_onChip hb _ _
  rw [hfloor, ceiling_congr (reg_fitMeasured_band b aclr s)] at hceiling
  have hdone := (fitDone_fitMeasured aclr s).keeps (hkeeps.trans (keepsFit_failCounted _))
  rw [dpdFitDone_level h, if_neg (by simp [hmulti]), if_neg (by omega), if_pos hfail, dpdFail_eq]
  have hgood : (fitMeasured aclr s).txm.lastGood = s.txm.lastGood := rfl
  rw [hgood]
  have hreg := (reg_syncBands_putCoefs_band b (vget s.txm.lastGood b) (failCounted (failShown b (fitMeasured aclr s)))).trans (reg_failCounted b _)
  refine ⟨hdone.keeps ((keepsFit_putCoefs ..).trans (keepsFit_syncBands _)), fun i hi => ?_, ?_, ?_, ?_⟩
  · exact coefs_syncBands_putCoefs _ _ _ hi
  · exact (ceiling_congr hreg).trans hceiling
  · exact (regF_congr hreg 9 8).trans hrun
  · exact (regB_congr hreg 31).trans hconverged

end

end

end Sys2Proof.Machine
end

section
/-! SUPPORT. The sets of converged bands copied into DPD_COEF with a save, and DPD_COEF loaded into the bands (R207, R211). -/

namespace Sys2Proof.Machine

/-! ### Beside entries and responses -/

theorem reg_dSet (s : State) (x y : Nat) (v : List Byte) (a : Nat) : (s.dSet x y v).reg a = s.reg a := rfl

theorem dSet_frame (s : State) (x y : Nat) (v : List Byte) : ∃ d, s.dSet x y v = { s with dict := d } := ⟨_, rfl⟩

/-! ### DPD_SAVE -/

/-- Where blocks of one length follow one another, each is found by its place. -/
theorem block_flatMap {α β : Type} {f : α → List β} {m : Nat} (hf : ∀ x, (f x).length = m) {l : List α} {i : Nat} {x : α} (hx : l[i]? = some x) :
    ((l.flatMap f).drop (m * i)).take m = f x := by
  induction l generalizing i with
  | nil => simp at hx
  | cons y l ih =>
    rw [List.flatMap_cons]
    cases i with
    | zero =>
      obtain rfl : y = x := by simpa using hx
      exact List.take_left' (hf y)
    | succ i =>
      have hskip : m * (i + 1) = (f y).length + m * i := by
        rw [hf]
        ring
      rw [hskip, ← List.drop_drop, List.drop_left]
      exact ih (by simpa using hx)

theorem bandBytes_length (b : Fin 4) (s : State) : (bandBytes b s).length = 64 := by
  simp [bandBytes, State.coefSet, leBytes_length, Function.comp_def]

/-- A band's block of DPD_COEF: its set and ceiling where it has converged, else what the entry held. -/
theorem dpdCopy_block {s : State} (h : (s.dGet 0x2200 0x45).length = 256) (c : Fin 4) :
    (((dpdCopy s).dGet 0x2200 0x45).drop (64 * c.1)).take 64 =
      if s.regB (bandReg c) 31 then bandBytes c s else ((s.dGet 0x2200 0x45).drop (64 * c.1)).take 64 := by
  unfold dpdCopy
  dsimp only
  rw [if_pos h, dGet_dSet_self]
  refine block_flatMap (f := fun b : Fin 4 => if s.regB (bandReg b) 31 then bandBytes b s else ((s.dGet 0x2200 0x45).drop (64 * b.1)).take 64)
    (fun b => ?_) (x := c) (by simp [fins])
  split
  · exact bandBytes_length b s
  · rw [List.length_take, List.length_drop, h]
    omega

/-- The save begun behind the copy. -/
def saveBegun (s : State) : State := (linksMod (fun l => { l with saving := true }) s).resPend 0x1100 4

theorem dpdSave_idle {s : State} (h : s.links.saving = false) : dpdSave s = saveBegun (dpdCopy s) :=
  congrArg Prod.snd (saveStart_idle (s := dpdCopy s) h)

/-- What a new request number of DPD_SAVE leaves, before its response. -/
def saveWritten (v : BitVec 32) (s : State) : State := (saveBegun (dpdCopy s)).dSet 0x2200 0x46 (leBytes 4 v.toNat)

theorem saveWritten_block {s : State} (h : (s.dGet 0x2200 0x45).length = 256) (v : BitVec 32) (c : Fin 4) :
    (((saveWritten v s).dGet 0x2200 0x45).drop (64 * c.1)).take 64 =
      if s.regB (bandReg c) 31 then bandBytes c s else ((s.dGet 0x2200 0x45).drop (64 * c.1)).take 64 := by
  have hcopy : (saveBegun (dpdCopy s)).dGet 0x2200 0x45 = (dpdCopy s).dGet 0x2200 0x45 := rfl
  rw [saveWritten, dGet_dSet_ne _ _ (by decide), hcopy, dpdCopy_block h]

theorem saveWritten_frame (v : BitVec 32) (s : State) :
    ∃ d, saveWritten v s = { saveBegun s with dict := d } := ⟨_, rfl⟩

theorem saveBegun_pending (s : State) : ((saveBegun s).resOf 0x1100 4).pending = true := by
  rw [saveBegun, resOf_resPend_self]

theorem takes_dpdSave (v : BitVec 32) : ∃ r, Takes 0x2200 0x46 r (leBytes 4 v.toNat) :=
  ⟨_, by decide, by decide, by decide, rfl, rfl, valueCheck_number rfl rfl _, rfl, fun _ => rfl⟩

theorem execDpdSave_push {s : State} {src : Src} (h : Asks s src) {v : BitVec 32} (hnew : leBytes 4 v.toNat ≠ s.dGet 0x2200 0x46)
    (hidle : s.links.saving = false) (tid : Byte) :
    ∃ l a, linkNum src = some l ∧ a.pdu = writeResp tid 0x2200 0x46 stOk ∧
      exec (.dpdSave src tid v) s = .next ((saveWritten v s).push l a) := by
  obtain ⟨r, htakes⟩ := takes_dpdSave v
  have hact : entryAct {} 0x2200 0x46 (leBytes 4 v.toNat) s = (stOk, saveBegun (dpdCopy s)) := congrArg (Prod.mk stOk) (dpdSave_idle hidle)
  have hwrite : writeEntry src {} 0x2200 0x46 (leBytes 4 v.toNat) s = (stOk, saveWritten v s) := by
    rw [htakes.write h, entryStore_act (fun _ => hnew) rfl hact]
    rfl
  obtain ⟨l, a, hlink, hpdu, hexec⟩ := hostWrite_answered h (i := 0x2200) (x := 0x46) (by decide) rfl (fun _ => rfl) hwrite tid
  exact ⟨l, a, hlink, hpdu, congrArg Host.Outcome.next hexec⟩

/-! ### DPD_COEF -/

/-- The set that DPD_COEF holds for a band. -/
def coefsOf (d : List Byte) (b : Fin 4) : List (BitVec 32) :=
  (List.range 15).map fun i => BitVec.ofNat 32 (leNat ((d.drop (64 * b.1 + 4 * i)).take 4))

/-- One band loaded, its ceiling at the band maximum. -/
def bandLoaded (d : List Byte) (b : Fin 4) (s : State) : State := setCeiling b (bandMax s b) (putCoefs b (coefsOf d b) s)

/-- Bands 1 to 3 loaded, one after another. -/
def bandsLoaded (d : List Byte) (s : State) : State := bandLoaded d 3 (bandLoaded d 2 (bandLoaded d 1 s))

theorem dpdLoad_eq (d : List Byte) (s : State) : dpdLoad d s = syncBands (bandsLoaded d (s.dSet 0x2200 0x45 d)) := rfl

/-- A band's set and ceiling are as they were. -/
structure BandKept (c : Fin 4) (s t : State) : Prop where
  band : t.reg (bandReg c) = s.reg (bandReg c)
  coefs : ∀ i, i < 15 → t.reg (coefReg c i) = s.reg (coefReg c i)

theorem BandKept.trans {c : Fin 4} {s t u : State} (h : BandKept c s t) (h' : BandKept c t u) : BandKept c s u :=
  ⟨h'.band.trans h.band, fun i hi => (h'.coefs i hi).trans (h.coefs i hi)⟩

theorem coefReg_ne_bandReg (b c : Fin 4) (i : Nat) : coefReg b i ≠ bandReg c := (coefReg_ne (bandReg_lt c) b i).symm

section
variable (d : List Byte) (s : State)

theorem bandKept_bandLoaded {b c : Fin 4} (h : c ≠ b) : BandKept c s (bandLoaded d b s) := by
  refine ⟨?_, fun i hi => ?_⟩
  · exact (reg_setCeiling_ne _ _ _ (bandReg_ne_bandReg h)).trans (reg_putCoefs_below _ _ _ (bandReg_lt c))
  · exact (reg_setCeiling_ne _ _ _ (coefReg_ne_bandReg c b i)).trans (reg_putCoefs_ne _ _ _ fun j hj => coefReg_ne_coefReg h hi hj)

theorem bandLoaded_coefs (b : Fin 4) {i : Nat} (hi : i < 15) :
    (bandLoaded d b s).reg (coefReg b i) = BitVec.ofNat 32 (leNat ((d.drop (64 * b.1 + 4 * i)).take 4)) := by
  refine (reg_setCeiling_ne _ _ _ (coefReg_ne_bandReg b b i)).trans ((reg_putCoefs b _ _ hi).trans ?_)
  exact getD_map_range hi _

theorem bandLoaded_ceiling {b : Fin 4} (hb : b ≠ 3) : (bandLoaded d b s).ceiling b = bandMax s b := by
  obtain ⟨hlo, hhi, -⟩ := bandLimits hb s
  exact ceiling_setCeiling b _ _ (by omega) (by omega)

theorem onlyRegs_bandLoaded (b : Fin 4) : OnlyRegs s (bandLoaded d b s) := (onlyRegs_putCoefs b (coefsOf d b) s).setRegF _ _ _ _

theorem onlyRegs_bandsLoaded : OnlyRegs s (bandsLoaded d s) :=
  ((onlyRegs_bandLoaded d s 1).trans (onlyRegs_bandLoaded d _ 2)).trans (onlyRegs_bandLoaded d _ 3)

/-- What follows the loading of bands 1 and 2 does not touch them. -/
theorem bandKept_after1 : BandKept 1 (bandLoaded d 1 s) (bandsLoaded d s) :=
  (bandKept_bandLoaded d _ (by decide)).trans (bandKept_bandLoaded d _ (by decide))

theorem bandKept_after2 : BandKept 2 (bandLoaded d 2 (bandLoaded d 1 s)) (bandsLoaded d s) := bandKept_bandLoaded d _ (by decide)

theorem bandKept_bandsLoaded : BandKept 0 s (bandsLoaded d s) :=
  ((bandKept_bandLoaded d s (by decide)).trans (bandKept_bandLoaded d _ (by decide))).trans (bandKept_bandLoaded d _ (by decide))

theorem bandsLoaded_coefs {c : Fin 4} (hc : c ≠ 0) {i : Nat} (hi : i < 15) :
    (bandsLoaded d s).reg (coefReg c i) = BitVec.ofNat 32 (leNat ((d.drop (64 * c.1 + 4 * i)).take 4)) := by
  match c with
  | 0 => exact absurd rfl hc
  | 1 => exact ((bandKept_after1 d s).coefs i hi).trans (bandLoaded_coefs d _ 1 hi)
  | 2 => exact ((bandKept_after2 d s).coefs i hi).trans (bandLoaded_coefs d _ 2 hi)
  | 3 => exact bandLoaded_coefs d _ 3 hi

theorem bandsLoaded_ceilings : (bandsLoaded d s).ceiling 1 = 27 ∧ (bandsLoaded d s).ceiling 2 = 40 ∧ (bandsLoaded d s).ceiling 0 = s.ceiling 0 :=
  ⟨(ceiling_congr (bandKept_after1 d s).band).trans (bandLoaded_ceiling d s (by decide)),
    (ceiling_congr (bandKept_after2 d s).band).trans (bandLoaded_ceiling d _ (by decide)), ceiling_congr (bandKept_bandsLoaded d s).band⟩

end

/-- What a write of DPD_COEF leaves, before its response. -/
def coefWritten (d : List Byte) (s : State) : State := (dpdLoad d s).dSet 0x2200 0x45 d

theorem reg_coefWritten (d : List Byte) (s : State) (a : Nat) : (coefWritten d s).reg a = (bandsLoaded d (s.dSet 0x2200 0x45 d)).reg a := by
  rw [coefWritten, reg_dSet, dpdLoad_eq, reg_syncBands]

theorem syncBands_frame (s : State) : ∃ d, syncBands s = { s with dict := d } := by
  unfold syncBands
  exact ⟨_, rfl⟩

theorem coefWritten_frame (d : List Byte) (s : State) : ∃ x r, coefWritten d s = { s with dict := x, regs := r } := by
  obtain ⟨x, hx⟩ := dSet_frame s 0x2200 0x45 d
  obtain ⟨r, hr⟩ := (onlyRegs_bandsLoaded d (s.dSet 0x2200 0x45 d)).exists_eq
  obtain ⟨y, hy⟩ := syncBands_frame (bandsLoaded d (s.dSet 0x2200 0x45 d))
  obtain ⟨z, hz⟩ := dSet_frame (syncBands (bandsLoaded d (s.dSet 0x2200 0x45 d))) 0x2200 0x45 d
  refine ⟨z, r, ?_⟩
  rw [coefWritten, dpdLoad_eq, hz, hy, hr, hx]

theorem coefRow : ∃ r, dictRow 0x2200 0x45 = some r ∧ r.host.writes = true ∧ r.request = false ∧ r.ty.segmented = true ∧ r.range = .len 256 256 :=
  ⟨_, rfl, rfl, rfl, rfl, rfl⟩

theorem execDpdCoefWrite_taken {s : State} {src : Src} (h : Asks s src) (hrole : s.role = 0) {d : List Byte} (hd : d.length = 256) (tid : Byte) :
    ∃ l a, linkNum src = some l ∧ a.pdu = writeResp tid 0x2200 0x45 stOk ∧ exec (.dpdCoefWrite src tid d) s = .next ((coefWritten d s).push l a) := by
  obtain ⟨r, hrow, hhost, hrequest, hsegmented, hrange⟩ := coefRow
  have hvalue : valueCheck r d = stOk := by
    rw [valueCheck_segmented hsegmented, hrange, hd]
    rfl
  have hact : entryAct {} 0x2200 0x45 d s = (stOk, dpdLoad d s) := rfl
  have hwrite : writeEntry src {} 0x2200 0x45 d s = (stOk, coefWritten d s) := by
    rw [writeEntry_own h (by decide) (by decide) (by decide) hrow hhost hvalue (fun _ => hrole) rfl, entryStore_acted hrequest rfl rfl (fun _ => rfl) hact,
      if_pos rfl]
    rfl
  obtain ⟨l, a, hlink, hpdu, hexec⟩ := hostWrite_answered h (i := 0x2200) (x := 0x45) (by decide) rfl (fun _ => rfl) hwrite tid
  exact ⟨l, a, hlink, hpdu, congrArg Host.Outcome.next hexec⟩

end Sys2Proof.Machine

namespace Sys2Proof.Proofs
open Sys2Proof.Machine

/-- Settles O37: a grant is `grantFor` with nothing frozen; the end of a fit is one of its verdicts, read through the band's register and its set; a
save copies band by band, and a load touches each of bands 1 to 3 once. -/
theorem transmitGrants : Obligations.TransmitGrants := by
  intro s src tid v lnk multi fit aclr b d p n band capped
  refine ⟨fun hsource hepa hmatch hair => ?_, fun howns => ?_, fun hdistorts hair hadapt => ?_, fun hplain => ?_, fun hfit hb => ?_,
    fun hasks hnew hidle hlen => ?_, fun hasks hrole hd => ?_⟩
  · obtain ⟨g, hn, hband, hpower, honly⟩ := grantRequest_onChip hsource hepa hmatch hair v
    obtain ⟨r, hr⟩ := honly.exists_eq
    have hband' : g.band = band := hband.trans (bandOf_onChip hepa _)
    rw [hn, hband'] at hpower
    exact ⟨_, g, congrArg Host.Outcome.next hr, rfl, hn, hband', hpower, rfl⟩
  · exact congrArg Host.Outcome.next (grantRequest_ignored howns v)
  · refine ⟨_, congrArg Host.Outcome.next (dpdWindow_opens hdistorts hair hadapt), rfl, ?_, rfl⟩
    rw [regB_setRegF (by decide) (by decide), if_pos (by decide)]
    rfl
  · exact congrArg Host.Outcome.next (dpdWindow_undistorted hplain)
  · intro done same moved
    refine ⟨?_, fun hmulti => ?_, fun hmulti hpass => ?_, fun hmulti hnot hfail => ?_⟩
    · obtain ⟨⟨hnone, hshown, hframe⟩, hcoefs, hceiling⟩ := dpdFitDone_discarded hfit fit aclr
      exact ⟨_, rfl, ⟨hnone, hshown, hframe⟩, fun i _ => hcoefs i, hceiling⟩
    · obtain ⟨⟨hnone, hshown, hframe⟩, hcoefs, hceiling⟩ := dpdFitDone_single hfit fit aclr hmulti
      exact ⟨_, rfl, ⟨hnone, hshown, hframe⟩, hcoefs, hceiling⟩
    · obtain ⟨⟨hnone, hshown, hframe⟩, hcoefs, hband⟩ := dpdFitDone_pass hfit fit aclr hb hmulti hpass
      exact ⟨_, rfl, ⟨hnone, hshown, hframe⟩, hcoefs, hband⟩
    · obtain ⟨⟨hnone, hshown, hframe⟩, hcoefs, hband⟩ := dpdFitDone_fail hfit fit aclr hb hmulti hnot hfail
      exact ⟨_, rfl, ⟨hnone, hshown, hframe⟩, hcoefs, hband⟩
  · obtain ⟨l, a, hlink, hpdu, hexec⟩ := execDpdSave_push hasks hnew hidle tid
    obtain ⟨x, hframe⟩ := saveWritten_frame v s
    have hentry : (saveWritten v s).dGet 0x2200 0x46 = leBytes 4 v.toNat := dGet_dSet_self ..
    have hblock := saveWritten_block hlen v
    rw [hframe] at hexec hentry hblock
    exact ⟨_, hexec, rfl, saveBegun_pending s, hentry, hblock, spoke_of_push hlink hpdu rfl, rfl⟩
  · obtain ⟨l, a, hlink, hpdu, hexec⟩ := execDpdCoefWrite_taken hasks hrole hd tid
    obtain ⟨hceiling1, hceiling2, hceiling0⟩ := bandsLoaded_ceilings d (s.dSet 0x2200 0x45 d)
    have hreg := fun a => reg_coefWritten d s a
    have hentry : (coefWritten d s).dGet 0x2200 0x45 = d := dGet_dSet_self ..
    obtain ⟨x, r, hframe⟩ := coefWritten_frame d s
    rw [hframe] at hexec hentry hreg
    refine ⟨_, hexec, hentry, (ceiling_congr (hreg _)).trans hceiling1, (ceiling_congr (hreg _)).trans hceiling2,
      (ceiling_congr (hreg _)).trans hceiling0, fun c hc i hi => (hreg _).trans (bandsLoaded_coefs d _ hc hi),
      fun i hi => (hreg _).trans ((bandKept_bandsLoaded d _).coefs i hi), spoke_of_push hlink hpdu rfl, rfl⟩

end Sys2Proof.Proofs
end

section
/-! SUPPORT. What an activation restart makes of PARENT, and a sync point with a deferred activation (R22, R245, R451, R470). -/

namespace Sys2Proof.Machine

/-! ### An activation restart and PARENT -/

theorem alGet_filter_dropped {α : Type} {p : Nat × α → Bool} {k : Nat} (h : ∀ v, p (k, v) = false) (m : List (Nat × α)) :
    alGet (m.filter p) k = none := by
  induction m with
  | nil => rfl
  | cons x r ih =>
    obtain ⟨a, v⟩ := x
    by_cases hp : p (a, v) = true
    · have hne : a ≠ k := by
        rintro rfl
        simp [h v] at hp
      simpa [List.filter_cons_of_pos hp, alGet, hne] using ih
    · rw [List.filter_cons_of_neg hp, ih]

theorem dict_putMap (a none_ : Nat) (l : List (Option Nat)) (s : State) : (putMap a none_ l s).dict = s.dict := by
  unfold putMap
  induction List.range (l.length / 4) generalizing s with
  | nil => rfl
  | cons i r ih => exact ih _

theorem parent_dPut {s : State} {x y : Nat} (h : key 0x2300 0x0B ≠ key x y) (v : Nat) : (s.dPut x y v).parent = s.parent :=
  congrArg leNat (dGet_dPut_ne s v h)

/-- PARENT is no register, so only the entries decide it. -/
theorem parent_congr {s t : State} (h : t.dict = s.dict) : t.parent = s.parent := by
  simp only [State.parent, State.dU, State.dGet, h]

theorem parent_resetShow (s : State) : (resetShow s).parent = s.parent := by
  have hkz : (resetShow s).parent = (syncRx s).parent := parent_congr rfl
  rw [hkz]
  unfold syncRx
  rw [parent_dPut (by decide), parent_dPut (by decide), parent_dPut (by decide)]
  refine parent_congr ?_
  simp only [State.setRegN_dict, dict_putMap]

theorem deviceReset_activate (s : State) : deviceReset rcActivate s = activateReset s := if_pos rfl

/-- An activation restart keeps no entry that a host writes, PARENT among them: it reads its default until it is restored (R22, R451). -/
theorem parent_activation (s : State) : (activation s).parent = 0 := by
  unfold activation
  rw [deviceReset_activate]
  unfold activateReset
  rw [parent_dPut (by decide), parent_resetShow]
  simp only [State.parent, State.dU, State.dGet]
  have hdropped : activateKeeps (key 0x2300 0x0B) = false := by decide
  rw [alGet_filter_dropped fun _ => hdropped]
  rfl

/-! ### A sync point with a deferred activation (R470) -/

/-- An activation is armed and deferred, and a node that has found its mesh again holds it back no longer. -/
def ActDeferred (s : State) : Prop :=
  s.actArmed = true ∧ bit (s.bootN 29 1) 1 = true ∧ s.nodeLost = false ∧ s.boot.stage = .main

theorem actAtSync_of_deferred {s : State} (h : ActDeferred s) : actAtSync s = activation s := by
  obtain ⟨harmed, hdeferred, hfound, hmain⟩ := h
  simp [actAtSync, harmed, hdeferred, hfound, hmain]

theorem keyRearm_awake {s : State} (h : s.sec.asleep = false) : keyRearm s = s := if_neg (by simp [h])

/-- A beacon that announces nothing leaves a node's own deferred activation to act. -/
theorem beaconActs_of_deferred {s : State} {f : MeshFrame} (hact : (beaconFields f).act = false) (hawake : s.sec.asleep = false)
    (h : ActDeferred s) : beaconActs f s = activation s := by
  have hplain : beaconActs f s = actAtSync s := by simp [beaconActs, keyRearm_awake hawake, hact]
  rw [hplain, actAtSync_of_deferred h]

theorem execAnchorAccept_of_deferred {s u : State} {f : MeshFrame} {err : Int} (haccepted : anchorAccepted err s = some (f, u))
    (hact : (beaconFields f).act = false) (hawake : u.sec.asleep = false) (h : ActDeferred u) :
    exec (.anchorAccept err) s = .next (activation u) := by
  change execAnchorAccept err s = _
  unfold execAnchorAccept
  rw [haccepted]
  exact congrArg Host.Outcome.next (beaconActs_of_deferred hact hawake h)

end Sys2Proof.Machine

namespace Sys2Proof.Proofs
open Sys2Proof.Machine

/-! ### A store slot in the boot ring (R237, R276, R461) -/

/-- An anchor beacon of node 0x55 that announces no activation. -/
def anchorHeard : MeshFrame :=
  { hdr := ({ type := 1, net := 0, tx := 0x55, rx := 0x3FFFF, slotLow := 0 } : Hdr).bytes, lh := beaconHeader 0 true {}, payload := beaconBody {}, slot := 0 }

/-- The frame of a lost-sync message with SEQ 1 of node 0, which was LOST in slot 3. -/
def lostSyncFrame : List Byte := linkHeader 1 0 0 15 0 ++ ([1] ++ beBytes 5 3 ++ beBytes 2 0)

/-- A boot record with a frame in its bytes 16 to 31. With `lostSyncFrame` there, ACT_FLAGS (byte 29) is the last byte of the slot: 3, armed and
deferred. -/
def recordWith (frame : List Byte) : List Byte := .replicate 16 0 ++ frame ++ .replicate 32 0

/-- Sector 0 of the ring: a header with the CRC of the record that the frame completes, before a record that lacks the frame. -/
def ringBefore : List Byte :=
  [0x42, 0x52, 0x45, 0x43] ++ leBytes 4 0 ++ leBytes 4 64 ++ leBytes 4 (crc32 (recordWith lostSyncFrame)) ++ recordWith (.replicate 16 0)

/-- A lost leaf under main firmware that owes its message and has heard the anchor; its store begins in record byte 16 of that sector. -/
def storeInRing : State :=
  let s := (State.reset.dPut 0x1200 1 1).setRegN 0x40160048 0x10000020
  { s with
    mem := { s.mem with cells := Memory.writeN s.mem.cells 0x10000000 ringBefore }, boot := { s.boot with stage := .main }
    lnk := { s.lnk with sync := .lost, heard := [anchorHeard], lostSlot := 3, lostOwed := true } }

/-- No valid boot record stands before the message is stored, so nothing is armed. -/
theorem storeInRing_plain : PlainBeacon storeInRing anchorHeard :=
  ⟨rfl, by decide +kernel, rfl, by decide +kernel, .inl (by decide +kernel)⟩

/-- With the message stored the record is valid, and its activation is armed and deferred. -/
theorem storeInRing_accepted :
    ∃ p ∈ anchorAccepted 0 storeInRing, (beaconFields p.1).act = false ∧ p.2.sec.asleep = false ∧ ActDeferred p.2 := by
  unfold ActDeferred
  decide +kernel

/-- Refutes O38: a lost leaf whose store lies in the boot ring completes there, by the lost-sync message it stores, a boot record with a deferred
activation; the same sync point restarts it, and PARENT is not the anchor's sender but 0. -/
theorem not_linkSynchronisation : ¬ Obligations.LinkSynchronisation := by
  unfold Obligations.LinkSynchronisation
  intro h
  obtain ⟨-, -, -, -, -, -, -, -, -, -, -, hanchor⟩ := h storeInRing anchorHeard 0
  obtain ⟨t, hexec, -, -, -, -, hparent, -⟩ := hanchor storeInRing_plain (.inl rfl) (by decide +kernel) (by decide +kernel)
  obtain ⟨⟨f, u⟩, haccepted, hact, hawake, hdeferred⟩ := storeInRing_accepted
  have hrestart : t = activation u :=
    Host.Outcome.next.inj (hexec.symm.trans (execAnchorAccept_of_deferred haccepted hact hawake hdeferred))
  rw [hrestart, parent_activation] at hparent
  exact absurd hparent (by decide +kernel)

end Sys2Proof.Proofs
end

section
/-! SUPPORT. What a device that holds no roster does with a frame (R246, R250, R260 to R264), and frames put into Sluice's queues (R268, R276). -/

namespace Sys2Proof.Machine

/-! ### A device without a roster -/

theorem rosterOn_relay {s : State} (h : s.role = 2) : s.rosterOn = false := by
  simp [State.rosterOn, State.bigRole, h]

section
variable {s : State} (h : s.rosterOn = false)
include h

theorem goodRecord_rosterOff (n : Nat) : s.goodRecord n = none := by
  simp [State.goodRecord, State.recordOf, h]

theorem dlLimitReached_rosterOff (n : Nat) : dlLimitReached n s = false := by
  simp only [dlLimitReached, goodRecord_rosterOff h]

theorem strangerSeen_rosterOff (f : MeshFrame) : strangerSeen f s = s := by
  simp [strangerSeen, State.stranger, h]

/-- A delivered frame waits for the dictionary when it carries a PDU, and nothing else happens. -/
theorem deliver_rosterOff (f : MeshFrame) :
    deliver f s = { s with cwy := { s.cwy with inbox := if lhPort f.lh = 1 then s.cwy.inbox ++ [f] else s.cwy.inbox } } := by
  unfold deliver
  rw [h]
  dsimp only
  split <;> rfl

/-! ### The decision (R246, R262) -/

theorem decideFrame_own {f : MeshFrame} (hown : lhDest f.lh = s.ownNode) : decideFrame f s = deliver f s := by
  unfold decideFrame
  rw [strangerSeen_rosterOff h]
  cases s.isOn dCWY <;> simp [hown]

omit h in
theorem decideFrame_off {f : MeshFrame} (hother : lhDest f.lh ≠ s.ownNode) (hall : lhDest f.lh ≠ 0x3FFFF) (hoff : s.isOn dCWY = false) :
    decideFrame f s = s := by
  simp [decideFrame, hoff, hother, hall]

section
variable {f : MeshFrame} (hother : lhDest f.lh ≠ s.ownNode) (hall : lhDest f.lh ≠ 0x3FFFF) (hon : s.isOn dCWY = true)
include hother hall hon

theorem decideFrame_noRoute (hnone : lookup (lhDest f.lh) s.routes = none) : decideFrame f s = cwyCount 0x40160064 0x11 2 s := by
  unfold decideFrame
  rw [strangerSeen_rosterOff h]
  simp [hon, hother, hall, State.stranger, h, hnone]

/-- With Causeway on, the table decides a frame for another node. -/
theorem decideFrame_routed {r : Route} (hsome : lookup (lhDest f.lh) s.routes = some r) : decideFrame f s = routed f r s := by
  unfold decideFrame
  rw [strangerSeen_rosterOff h]
  simp [hon, hother, hall, State.stranger, h, hsome]

end

end

/-! ### What an entry does (R262, R263) -/

theorem routed_drop {f : MeshFrame} {r : Route} {s : State} (haction : r.action = 5) : routed f r s = (s.bump 0x40160078).dBump 0x2400 0x15 := by
  simp [routed, haction]

theorem routed_hopless {f : MeshFrame} {r : Route} {s : State} (haction : r.action = 2) (hhops : lhHops f.lh = 0) :
    routed f r s = cwyCount 0x40160068 0x12 4 s := by
  simp [routed, haction, hhops]

theorem routed_down {f : MeshFrame} {r : Route} {s : State} (h : s.rosterOn = false) (haction : r.action = 2) (hhops : lhHops f.lh ≠ 0) :
    routed f r s = (forward f r.next false (Fin.ofNat 20 r.queue) s).getD (hold f s) := by
  simp [routed, haction, hhops, dlLimitReached_rosterOff h]

/-! ### Counting -/

/-- A counter of Causeway, shown by a register and an entry, has counted up by one; nothing but registers and entries has changed. -/
structure CountedUp (s t : State) (reg sub : Nat) : Prop where
  register : t.regN reg = min (s.regN reg + 1) 0xFFFFFFFF
  entry : t.dU 0x2400 sub = min (s.dU 0x2400 sub + 1) 0xFFFFFFFF
  frame : { t with regs := s.regs, dict := s.dict } = s

theorem countedUp_dBump {reg sub : Nat} (hwidth : entryWidth 0x2400 sub = 4) (s : State) :
    CountedUp s ((s.bump reg).dBump 0x2400 sub) reg sub :=
  ⟨regN_bump_self s reg, dU_dBump hwidth (s.bump reg), rfl⟩

theorem countedUp_cwyCount {reg sub : Nat} (hreg : reg ≠ cwyStat) (hwidth : entryWidth 0x2400 sub = 4) (n : Nat) (s : State) :
    CountedUp s (cwyCount reg sub n s) reg sub := by
  have hflag : (s.flag cwyStat n).regN reg = s.regN reg := congrArg BitVec.toNat (reg_flag_ne s n hreg)
  obtain ⟨hregister, hentry, -⟩ := countedUp_dBump (reg := reg) hwidth (s.flag cwyStat n)
  exact ⟨hflag ▸ hregister, hentry, rfl⟩

/-! ### A frame behind a queue -/

theorem MemoryOnly.slu {s t : State} (h : MemoryOnly s t) : t.slu = s.slu := (congrArg State.slu h.frame :)

/-- Besides Sluice only memory and reservations change, and Sluice has one more frame behind the queue. -/
theorem enqueueFrame_back (q : Fin 20) (f : QFrame) (s : State) :
    ∃ h, (enqueueFrame q false f s).slu.queues = vset s.slu.queues q (vget s.slu.queues q ++ [h]) ∧ (enqueueFrame q false f s).slu.used = s.slu.used ∧
      h = { f with id := s.slu.nextId, finish := h.finish } ∧ { enqueueFrame q false f s with slu := s.slu, mem := s.mem, kz := s.kz } = s := by
  unfold enqueueFrame
  extract_lets start fin h
  refine ⟨h, ?_, ?_, rfl, ?_⟩
  · rw [(memoryOnly_syncDownlinks ..).slu]
    rfl
  · rw [(memoryOnly_syncDownlinks ..).slu]
    rfl
  · exact congrArg (fun w : State => { w with slu := s.slu, mem := s.mem, kz := s.kz }) (memoryOnly_syncDownlinks h.node _).frame

/-- A frame on its way to a next hop waits behind the queue in a store slot of its own, its HOPS lowered by one (R263). -/
structure Forwarded (s t : State) (f : MeshFrame) (node k : Nat) (q : Fin 20) (h : QFrame) : Prop where
  queued : t.slu.queues = vset s.slu.queues q (vget s.slu.queues q ++ [h])
  used : t.slu.used = s.slu.used ++ [k]
  node : h.node = node
  fwd : h.fwd = true
  slot : h.slot = k
  header : h.lh = lhHop f.lh
  payload : h.payload = f.payload
  frame : { t with slu := s.slu, regs := s.regs, dict := s.dict, mem := s.mem, kz := s.kz } = s

/-- The frame that Sluice is given for a frame to forward, and the state in which its bytes lie in store slot `k`. -/
def forwardFrame (f : MeshFrame) (node k : Nat) (up : Bool) (s : State) : QFrame :=
  { forwardOf f node k s with plan := if up then plannedSend (forwardOf f node k s) s else 0 }

def forwardStored (g : QFrame) (k : Nat) (s : State) : State := (slotTake k s).dmaWrite (s.storeAddr k) (g.lh ++ g.payload)

theorem forward_room {s : State} {k : Nat} {q : Fin 20} (hslot : s.freeSlot = some k) (hroom : s.qFull q = false) (f : MeshFrame) (node : Nat)
    (up : Bool) : forward f node up q s =
      some (forwarded (enqueueFrame q false (forwardFrame f node k up s) (forwardStored (forwardFrame f node k up s) k s))) := by
  unfold forward
  rw [hslot]
  dsimp only
  rw [hroom, if_neg nofun]
  rfl

theorem forwarded_frame (s : State) : ∃ r d, forwarded s = { s with regs := r, dict := d } := ⟨_, _, rfl⟩

theorem forward_queued {s : State} {k : Nat} {q : Fin 20} (hslot : s.freeSlot = some k) (hroom : s.qFull q = false) (f : MeshFrame) (node : Nat)
    (up : Bool) : ∃ t h, forward f node up q s = some t ∧ Forwarded s t f node k q h := by
  have hmem : MemoryOnly (slotTake k s) (forwardStored (forwardFrame f node k up s) k s) := memoryOnly_dmaWrite ..
  rw [forward_room hslot hroom]
  generalize forwardStored (forwardFrame f node k up s) k s = v at hmem
  obtain ⟨h, hqueues, hused, hh, hframe⟩ := enqueueFrame_back q (forwardFrame f node k up s) v
  rw [hmem.slu] at hqueues hused
  generalize enqueueFrame q false (forwardFrame f node k up s) v = u at hqueues hused hframe
  obtain ⟨r, d, hcounted⟩ := forwarded_frame u
  rw [hcounted]
  have hlast := congrArg (fun w : State => { w with slu := s.slu, regs := s.regs, dict := s.dict, mem := s.mem, kz := s.kz }) hframe
  have hfirst := congrArg (fun w : State => { w with slu := s.slu, regs := s.regs, dict := s.dict }) hmem.frame
  exact ⟨_, h, rfl, hqueues, hused, congrArg QFrame.node hh, congrArg QFrame.fwd hh, congrArg QFrame.slot hh, congrArg QFrame.lh hh,
    congrArg QFrame.payload hh, hlast.trans hfirst⟩

theorem forward_none {s : State} {q : Fin 20} (h : s.freeSlot = none ∨ s.qFull q = true) (f : MeshFrame) (node : Nat) (up : Bool) :
    forward f node up q s = none := by
  unfold forward
  rcases h with h | h
  · rw [h]
  · cases s.freeSlot with
    | none => rfl
    | some k => exact if_pos h

/-- The frame is marked as held back from the acknowledgement set. -/
def tagsHeld (f : MeshFrame) (s : State) : State :=
  lnkMod (fun l => { l with tagged := l.tagged.map (fun t => if t.id = f.id then { t with held := true } else t) }) s

theorem countedUp_hold (f : MeshFrame) (s : State) : CountedUp (tagsHeld f s) (hold f s) 0x4016006C 0x13 :=
  countedUp_cwyCount (by decide) rfl 3 (tagsHeld f s)

theorem hold_frame (f : MeshFrame) (s : State) : { hold f s with lnk := s.lnk, regs := s.regs, dict := s.dict } = s :=
  congrArg (fun w : State => { w with lnk := s.lnk }) (countedUp_hold f s).frame

theorem hold_lnk (f : MeshFrame) (s : State) : (hold f s).lnk = (tagsHeld f s).lnk := (congrArg State.lnk (countedUp_hold f s).frame :)

/-! ### The frame that waits longest -/

theorem relayDecision_oldest {s : State} {f : MeshFrame} {rest : List MeshFrame} (hwaits : s.cwy.todo = f :: rest)
    (hruns : s.isOn dCWY = false ∨ s.regB 0x40160000 1 = true) :
    relayDecision s = decideFrame f { s with cwy := { s.cwy with todo := rest } } := by
  unfold relayDecision
  rw [hwaits]
  refine if_neg ?_
  rcases hruns with h | h <;> simp [h]

/-! ### Enqueueing (R276) -/

/-- Where SLU_ENQ sends the frame of SLU_ENQ_SLOT, and behind which queue. -/
def enqNode (v : Nat) (s : State) : Option Nat :=
  if bit v 6 then routedNode (lhDest (s.rdBytes (s.storeAddr (s.regN 0x40170034)) 8)) s else some (s.regF 0x40170038 17 0)

def enqQueue (v n : Nat) (s : State) : Fin 20 := Fin.ofNat 20 (if bit v 6 then routedQueue n (field v 4 0) s else field v 4 0)

section
variable {v : Nat} {s : State}

theorem sluEnq_bad (h : enqOk v (s.regN 0x40170034) (s.regF 0x40170038 17 0) s = false) : sluEnq v s = (stRange, s) := by
  simp [sluEnq, h]

variable (hok : enqOk v (s.regN 0x40170034) (s.regF 0x40170038 17 0) s = true)
include hok

theorem sluEnq_noNode (hnode : enqNode v s = none) : sluEnq v s = (stNoRoute, s) := by
  unfold enqNode at hnode
  simp [sluEnq, hok, hnode]

theorem sluEnq_node {n : Nat} (hnode : enqNode v s = some n) :
    sluEnq v s = if s.qFull (enqQueue v n s) then (stBusy, (s.flag sluStat 1).bump 0x40170068)
      else (stOk, enqueueFrame (enqQueue v n s) false (enqFrame v (s.regN 0x40170034) n s) s) := by
  unfold enqNode at hnode
  unfold sluEnq
  dsimp only
  rw [hok, hnode]
  rfl

end

/-- The result that SLU_ENQ leaves. -/
theorem regN_enqResult (st : Status) (s : State) : (s.setRegN 0x40170040 st.toNat).regN 0x40170040 = st.toNat :=
  regN_setRegN_self (by have := st.isLt; omega) s _

theorem execSluEnq_of {v : BitVec 32} {s t : State} {st : Status} (h : sluEnq v.toNat s = (st, t)) :
    exec (.sluEnq v) s = .next (t.setRegN 0x40170040 st.toNat) :=
  congrArg (fun p : Status × State => (.next (p.2.setRegN 0x40170040 p.1.toNat) : Out)) h

/-! ### Store slots (R276) -/

theorem sluAlloc_some {s : State} {k : Nat} (h : s.freeSlot = some k) : (sluAlloc s).1 = slotTake k s := by
  simp only [sluAlloc, h]

theorem sluAlloc_none {s : State} (h : s.freeSlot = none) : (sluAlloc s).1 = s := by
  simp only [sluAlloc, h]

end Sys2Proof.Machine

namespace Sys2Proof.Proofs
open Sys2Proof.Machine

/-- Settles O41: without a roster only the lookup of DEST decides a frame for another node; a DOWN entry's frame is `Forwarded` or held, and SLU_ENQ
has one of four results. -/
theorem relayAndQueues : Obligations.RelayAndQueues := by
  intro s hdr lh payload slot m g rest r v k counted decided
  have hcounted : ∀ {u t : State} {a sub : Nat}, CountedUp u t a sub → counted u t a sub := fun h => ⟨h.register, h.entry, h.frame⟩
  have hdecided : ∀ c u f, u.role = 2 → exec c s = .next (decideFrame f u) → decided c u f := by
    intro c u f hrole hexec
    have hroster := rosterOn_relay hrole
    refine ⟨fun hown => ?_, fun hother hall hoff => ?_, fun hother hall hon => ?_⟩
    · rw [hexec, decideFrame_own hroster hown, deliver_rosterOff hroster]
    · rw [hexec, decideFrame_off hother hall hoff]
    · refine ⟨fun hnone => ?_, fun hsome => ?_⟩
      · rw [decideFrame_noRoute hroster hother hall hon hnone] at hexec
        exact ⟨_, hexec, hcounted (countedUp_cwyCount (by decide) rfl 2 u)⟩
      · rw [decideFrame_routed hroster hother hall hon hsome] at hexec
        refine ⟨fun hdrop => ?_, fun hdown hhops => ?_, fun hdown hhops => ?_⟩
        · exact ⟨_, hexec.trans (congrArg Host.Outcome.next (routed_drop hdrop)), hcounted (countedUp_dBump rfl u)⟩
        · exact ⟨_, hexec.trans (congrArg Host.Outcome.next (routed_hopless hdown hhops)), hcounted (countedUp_cwyCount (by decide) rfl 4 u)⟩
        · replace hexec := hexec.trans (congrArg Host.Outcome.next (routed_down hroster hdown hhops))
          refine ⟨fun hslot hroom => ?_, fun hfull => ?_⟩
          · obtain ⟨t, h, hforward, ht⟩ := forward_queued hslot hroom f r.next false
            rw [hforward] at hexec
            exact ⟨t, h, hexec, ht.queued, ht.used, ht.node, ht.fwd, ht.slot, ht.header, ht.payload, ht.frame⟩
          · rw [forward_none hfull] at hexec
            exact ⟨_, hexec, hold_lnk f u, (countedUp_hold f u).register, hold_frame f u⟩
  refine ⟨fun hrole => ⟨fun hwaits hruns => ?_, ?_⟩, fun hslot => ?_, fun hslot => ?_, ?_⟩
  · exact hdecided _ _ _ hrole (congrArg Host.Outcome.next (relayDecision_oldest hwaits hruns))
  · exact hdecided _ _ _ hrole rfl
  · exact congrArg Host.Outcome.next (sluAlloc_some hslot)
  · exact congrArg Host.Outcome.next (sluAlloc_none hslot)
  · intro store own dest node fails
    have hfails : ∀ st u, sluEnq v.toNat s = (st, u) → OnlyRegs s u → fails st.toNat :=
      fun st u henq honly => ⟨_, execSluEnq_of henq, regN_enqResult st u, honly⟩
    refine ⟨fun hbad => hfails _ _ (sluEnq_bad hbad) rfl, fun hok => ⟨fun hnone => hfails _ _ (sluEnq_noNode hok hnone) rfl, fun n hnode => ?_⟩⟩
    have henq : sluEnq v.toNat s = _ := sluEnq_node hok hnode
    refine ⟨fun hfull => hfails _ _ (henq.trans (if_pos hfull)) ((onlyRegs_flag s _ _).trans (onlyRegs_bump _ _)), fun hroom => ?_⟩
    have hroom' : s.qFull (enqQueue v.toNat n s) = false := hroom
    rw [hroom', if_neg nofun] at henq
    obtain ⟨h, hqueues, hused, hh, hframe⟩ := enqueueFrame_back (enqQueue v.toNat n s) (enqFrame v.toNat store n s) s
    exact ⟨_, h, execSluEnq_of henq, regN_enqResult stOk _, hqueues, hused, hh, congrArg (fun w : State => { w with regs := s.regs }) hframe⟩

end Sys2Proof.Proofs
end

section
/-! SUPPORT. Request numbers whose action comes before they are stored (R24), and route tables from commit to switch (R249 to R251). -/

namespace Sys2Proof.Machine

/-! ### A request number -/

/-- An entry whose new number starts its action, then stands, with nothing behind the response (R24). -/
structure RequestEntry (i : BitVec 16) (x : Byte) : Prop where
  takes : ∀ n, ∃ r, Takes i.toNat x.toNat r (leBytes 4 n)
  first : storedFirst i.toNat x.toNat = false
  stored : notStored i.toNat x.toNat = false
  effect : ∀ v s, storedEffect i.toNat x.toNat v s = s
  reset : ∀ v s, resetsDevice i.toNat x.toNat v s = false
  after : ∀ src v s, afterResponse src i.toNat x.toNat v s = s

section
variable {i : BitVec 16} {x : Byte} (hentry : RequestEntry i x) {s t : State} {src : Src} (h : Asks s src) {n : Nat}
  (hnew : leBytes 4 n ≠ s.dGet i.toNat x.toNat)
include hentry h hnew

theorem RequestEntry.write {st : Status} (hact : entryAct {} i.toNat x.toNat (leBytes 4 n) s = (st, t)) :
    writeEntry src {} i.toNat x.toNat (leBytes 4 n) s = if st ≠ stOk then (st, t) else (stOk, t.dSet i.toNat x.toNat (leBytes 4 n)) := by
  obtain ⟨r, htakes⟩ := hentry.takes n
  rw [htakes.write h, entryStore_act (fun _ => hnew) hentry.first hact, hentry.stored, hentry.effect]
  rfl

omit hnew in
theorem RequestEntry.answered {u : State} {st : Status} (hwrite : writeEntry src {} i.toNat x.toNat (leBytes 4 n) s = (st, u)) (tid : Byte) :
    ∃ l a, linkNum src = some l ∧ a.pdu = writeResp tid i x st ∧ hostWrite {} src tid i x (leBytes 4 n) s = u.push l a := by
  obtain ⟨r, htakes⟩ := hentry.takes n
  exact hostWrite_answered h htakes.low (hentry.reset _ s) (hentry.after src _) hwrite tid

/-- A new number whose action says OK stands, and is answered OK. -/
theorem RequestEntry.taken (hact : entryAct {} i.toNat x.toNat (leBytes 4 n) s = (stOk, t)) (tid : Byte) :
    ∃ l a, linkNum src = some l ∧ a.pdu = writeResp tid i x stOk ∧
      hostWrite {} src tid i x (leBytes 4 n) s = (t.dSet i.toNat x.toNat (leBytes 4 n)).push l a :=
  hentry.answered h (hentry.write h hnew hact) tid

/-- A new number whose action refuses is answered so and not stored. -/
theorem RequestEntry.refused {st : Status} (hst : st ≠ stOk) (hact : entryAct {} i.toNat x.toNat (leBytes 4 n) s = (st, t)) (tid : Byte) :
    ∃ l a, linkNum src = some l ∧ a.pdu = writeResp tid i x st ∧ hostWrite {} src tid i x (leBytes 4 n) s = t.push l a :=
  hentry.answered h ((hentry.write h hnew hact).trans (if_pos hst)) tid

end

theorem requestEntry_routeCommit : RequestEntry 0x2400 2 where
  takes n := ⟨_, by decide, by decide, by decide, rfl, rfl, valueCheck_number rfl rfl n, rfl, fun _ => rfl⟩
  first := rfl
  stored := rfl
  effect _ _ := rfl
  reset _ _ := rfl
  after _ _ _ := rfl

/-! ### A commit (R251) -/

/-- A build of the shadow table has begun. -/
def buildBegun (s : State) : State :=
  (cwyMod (fun c => { c with build := some (s.tableAt shadowBase) }) (s.setRegF 0x40160010 8 8 1)).resPend 0x2400 3

theorem routeCommit_idle {s : State} (h : s.cwy.build = none) : routeCommit s = (stOk, buildBegun s) := by
  unfold routeCommit
  rw [h]
  rfl

theorem routeCommit_busy {s : State} {tb : List (Nat × List Byte)} (h : s.cwy.build = some tb) :
    routeCommit s = (stBusy, s.produceSt 0x2400 3 stBusy) := by
  unfold routeCommit
  rw [h]
  rfl

theorem buildBegun_pending (s : State) : ((buildBegun s).resOf 0x2400 3).pending = true := by
  rw [buildBegun, resOf_resPend_self]

theorem buildBegun_shown (s : State) : (buildBegun s).regB 0x40160010 8 = true :=
  regB_flag_self s 0x40160010 (n := 8) (by decide)

theorem buildBegun_frame (s : State) :
    ∃ r x, buildBegun s = { s with cwy := { s.cwy with build := some (s.tableAt shadowBase) }, regs := r, results := x } := ⟨_, _, rfl⟩

/-- A write of CWY_COMMIT. -/
theorem execRouteCommit_register {s : State} {v : BitVec 32} (hon : s.isOn dCWY = true) (hbit : v.getLsbD 0 = true) (tid : Byte) :
    exec (.routeCommit none tid v) s = .next (routeCommit s).2 := by
  have hrun : (s.isOn dCWY && bit v.toNat 0) = true := by
    rw [hon]
    exact hbit
  exact congrArg Host.Outcome.next (if_pos hrun)

/-! ### The end of a build -/

theorem produceSt_frame (s : State) (x y : Nat) (st : Status) : ∃ d z, s.produceSt x y st = { s with dict := d, results := z } := ⟨_, _, rfl⟩

theorem routeBuildDone_failed {s : State} {tb : List (Nat × List Byte)} {i : Nat} (hbuild : s.cwy.build = some tb)
    (hfails : failingEntry s.bigRole (routesOf tb) = some i) : routeBuildDone s = (buildEnd stRange i s).flag cwyStat 1 := by
  unfold routeBuildDone
  rw [hbuild]
  dsimp only
  rw [hfails]

theorem routeBuildDone_passed {s : State} {tb : List (Nat × List Byte)} (hbuild : s.cwy.build = some tb)
    (hpasses : failingEntry s.bigRole (routesOf tb) = none) : routeBuildDone s = cwyMod (fun c => { c with built := some tb }) (buildEnd stOk 0 s) := by
  unfold routeBuildDone
  rw [hbuild]
  dsimp only
  rw [hpasses]

theorem buildEnd_status (st : Status) (entry : Nat) (s : State) : (buildEnd st entry s).dGet 0x2400 3 = [st] := dGet_produce_self ..

theorem buildEnd_entry (st : Status) {entry : Nat} (h : entry < 65536) (s : State) : (buildEnd st entry s).dU 0x2400 4 = entry := by
  unfold buildEnd State.produceSt State.dU
  rw [dGet_produce_ne _ _ (by decide), dGet_dPut_self, leNat_leBytes]
  exact Nat.mod_eq_of_lt h

theorem buildEnd_frame (st : Status) (entry : Nat) (s : State) :
    ∃ r d x, buildEnd st entry s = { s with cwy := { s.cwy with build := none }, regs := r, dict := d, results := x } := ⟨_, _, _, rfl⟩

/-! ### The switch -/

theorem alGet_filter {α : Type} (p : Nat → Bool) (m : List (Nat × α)) (a : Nat) :
    alGet (m.filter fun c => p c.1) a = if p a then alGet m a else none := by
  induction m with
  | nil => simp [alGet]
  | cons c m ih =>
    obtain ⟨k, v⟩ := c
    by_cases hk : k = a
    · subst hk
      by_cases hp : p k = true <;> simp [hp, alGet, ih]
    · by_cases hp : p k = true <;> simp [hp, alGet, ih, hk]

/-- A cleared range reads as if nothing had written it. -/
theorem read_clear (m : List Host.Cell) (lo hi a : Nat) :
    Memory.read (Memory.clear m lo hi) a = if lo ≤ a ∧ a < hi then memDefault a else Memory.read m a := by
  unfold Memory.read Memory.clear
  rw [alGet_filter (fun k => !(decide (lo ≤ k) && decide (k < hi)))]
  by_cases h : lo ≤ a ∧ a < hi
  · simp [h]
  · have hkept : (!(decide (lo ≤ a) && decide (a < hi))) = true := by
      simp
      omega
    rw [if_pos hkept, if_neg h]

theorem memDefault_force {a : Nat} (h : forceBase ≤ a) : memDefault a = 0 := by
  unfold forceBase at h
  unfold memDefault
  rw [if_neg (by omega)]

/-- The table in force, when it is of one entry. -/
def oneInForce (i : Nat) (b : List Byte) (s : State) : State :=
  (s.setCells (Memory.clear s.mem.cells forceBase (forceBase + 192000))).wrBytes (forceBase + 16 * i) b

theorem oneInForce_entry {i : Nat} {b : List Byte} (hb : b.length = 16) (s : State) : (oneInForce i b s).rdBytes (forceBase + 16 * i) 16 = b := by
  have hread := readN_writeN_self (Memory.clear s.mem.cells forceBase (forceBase + 192000)) (forceBase + 16 * i) b
  rw [hb] at hread
  exact hread

theorem oneInForce_rest {i : Nat} {b : List Byte} (hb : b.length = 16) (s : State) {a : Nat}
    (ha : a < forceBase + 16 * i ∨ forceBase + 16 * i + 16 ≤ a) : Memory.read (oneInForce i b s).mem.cells a =
      if forceBase ≤ a ∧ a < forceBase + 192000 then 0 else Memory.read s.mem.cells a := by
  refine (read_writeN b _ _ a).trans ((if_neg (by omega)).trans ((read_clear s.mem.cells _ _ a).trans ?_))
  by_cases h : forceBase ≤ a ∧ a < forceBase + 192000
  · rw [if_pos h, if_pos h, memDefault_force h.1]
  · rw [if_neg h, if_neg h]

/-- The built table of one entry has come into force, and CWY_STAT says so. -/
def switched (i : Nat) (b : List Byte) (s : State) : State := oneInForce i b (cwyMod (fun c => { c with built := none }) (s.flag cwyStat 0))

theorem regB_oneInForce (i : Nat) (b : List Byte) (s : State) (a j : Nat) : (oneInForce i b s).regB a j = s.regB a j := rfl

theorem regB_cwyMod (g : Cwy → Cwy) (s : State) (a j : Nat) : (cwyMod g s).regB a j = s.regB a j := rfl

theorem switched_flag (i : Nat) (b : List Byte) (s : State) : (switched i b s).regB 0x40160020 0 = true := by
  rw [switched, regB_oneInForce, regB_cwyMod]
  exact regB_flag_self s cwyStat (by decide)

theorem switched_frame (i : Nat) (b : List Byte) (s : State) :
    ∃ r m, switched i b s = { s with cwy := { s.cwy with built := none }, regs := r, mem := m } := ⟨_, _, rfl⟩

/-- The count of entries shown behind the switch. -/
def switchShown (n : Nat) (s : State) : State := (s.setRegN 0x40160008 n).dPut 0x2400 5 n

theorem routeSwitch_one {s : State} {i : Nat} {b : List Byte} (h : s.cwy.built = some [(i, b)]) :
    routeSwitch s = switchShown (routesOf [(i, b)]).length (switched i b s) := by
  unfold routeSwitch
  rw [h]
  rfl

theorem switchShown_count {n : Nat} (h : n < 65536) (s : State) : (switchShown n s).dU 0x2400 5 = n :=
  (dU_dPut_self (s.setRegN 0x40160008 n) 0x2400 5 n).trans (Nat.mod_eq_of_lt h)

theorem switchShown_regB {a : Nat} (ha : a ≠ 0x40160008) (n j : Nat) (s : State) : (switchShown n s).regB a j = s.regB a j :=
  regB_setRegN_ne s n j ha

theorem switchShown_frame (n : Nat) (s : State) : ∃ r d, switchShown n s = { s with regs := r, dict := d } := ⟨_, _, rfl⟩

theorem routesOf_length_le (tb : List (Nat × List Byte)) : (routesOf tb).length ≤ tb.length := List.length_filterMap_le ..

/-! ### What else changes in Causeway's memory -/

/-- Beside registers, entries, results and what the links hold, only memory, reservations and three of Causeway's lists have changed. -/
def MeshOnly (s t : State) : Prop :=
  { t with
    cwy := { t.cwy with live := s.cwy.live, op := s.cwy.op, built := s.cwy.built }, regs := s.regs, dict := s.dict, results := s.results
    links := s.links, mem := s.mem, kz := s.kz } = s

theorem MeshOnly.trans {s t u : State} (h : MeshOnly s t) (h' : MeshOnly t u) : MeshOnly s u := by
  have hlast := congrArg (fun w : State => { w with
    cwy := { w.cwy with live := s.cwy.live, op := s.cwy.op, built := s.cwy.built }, regs := s.regs, dict := s.dict, results := s.results
    links := s.links, mem := s.mem, kz := s.kz }) h'
  exact hlast.trans h

/-! ### The commands -/

/-- A build of the shadow table runs, its result is asked for, and CWY_BUILD shows it. -/
structure BuildStarted (s t : State) : Prop where
  cwy : t.cwy = { s.cwy with build := some (s.tableAt shadowBase) }
  pending : (t.resOf 0x2400 3).pending = true
  shown : t.regB 0x40160010 8 = true

theorem buildStarted_begun (s : State) : BuildStarted s (buildBegun s) := ⟨rfl, buildBegun_pending s, buildBegun_shown s⟩

theorem execRouteCommit_begins {s : State} {v : BitVec 32} (hon : s.isOn dCWY = true) (hbit : v.getLsbD 0 = true) (hidle : s.cwy.build = none)
    (tid : Byte) : ∃ t, exec (.routeCommit none tid v) s = .next t ∧ BuildStarted s t ∧
      { t with cwy := s.cwy, regs := s.regs, results := s.results } = s := by
  have hexec := execRouteCommit_register hon hbit tid
  rw [routeCommit_idle hidle] at hexec
  have hstarted := buildStarted_begun s
  obtain ⟨r, x, hframe⟩ := buildBegun_frame s
  rw [hframe] at hexec hstarted
  exact ⟨_, hexec, hstarted, rfl⟩

theorem execRouteCommit_host {s : State} {src : Src} (h : Asks s src) {v : BitVec 32} (hnew : leBytes 4 v.toNat ≠ s.dGet 0x2400 2)
    (hidle : s.cwy.build = none) (tid : Byte) : ∃ t, exec (.routeCommit (some src) tid v) s = .next t ∧ BuildStarted s t ∧
      t.dGet 0x2400 2 = leBytes 4 v.toNat ∧ Spoke s t src (writeResp tid 0x2400 2 0) ∧
      { t with cwy := s.cwy, regs := s.regs, results := s.results, links := s.links, dict := s.dict } = s := by
  obtain ⟨l, a, hlink, hpdu, hwrite⟩ := requestEntry_routeCommit.taken h hnew (routeCommit_idle hidle) tid
  obtain ⟨hcwy, hpending, hshown⟩ := buildStarted_begun s
  obtain ⟨r, x, hframe⟩ := buildBegun_frame s
  rw [hframe] at hwrite hcwy hpending hshown
  exact ⟨_, congrArg Host.Outcome.next hwrite, ⟨hcwy, hpending, hshown⟩, dGet_dSet_self .., spoke_of_push hlink hpdu rfl, rfl⟩

section
variable {s : State} {tb : List (Nat × List Byte)} (hbuild : s.cwy.build = some tb)
include hbuild

theorem execRouteBuildDone_failed {i : Nat} (hfails : failingEntry s.bigRole (routesOf tb) = some i) (hi : i < 65536) :
    ∃ t, exec .routeBuildDone s = .next t ∧ t.cwy = { s.cwy with build := none } ∧ t.dGet 0x2400 3 = [0x0E] ∧ t.dU 0x2400 4 = i ∧
      t.regB 0x40160020 1 = true ∧ { t with cwy := s.cwy, regs := s.regs, dict := s.dict, results := s.results } = s := by
  have hexec : exec .routeBuildDone s = _ := congrArg Host.Outcome.next (routeBuildDone_failed hbuild hfails)
  have hstatus := buildEnd_status stRange i s
  have hentry := buildEnd_entry stRange hi s
  obtain ⟨r, d, x, hframe⟩ := buildEnd_frame stRange i s
  rw [hframe] at hexec hstatus hentry
  exact ⟨_, hexec, rfl, hstatus, hentry, regB_flag_self _ cwyStat (by decide), rfl⟩

theorem execRouteBuildDone_passed (hpasses : failingEntry s.bigRole (routesOf tb) = none) :
    ∃ t, exec .routeBuildDone s = .next t ∧ t.cwy = { s.cwy with build := none, built := some tb } ∧ t.dGet 0x2400 3 = [0] ∧
      { t with cwy := s.cwy, regs := s.regs, dict := s.dict, results := s.results } = s := by
  have hexec : exec .routeBuildDone s = _ := congrArg Host.Outcome.next (routeBuildDone_passed hbuild hpasses)
  have hstatus := buildEnd_status stOk 0 s
  obtain ⟨r, d, x, hframe⟩ := buildEnd_frame stOk 0 s
  rw [hframe] at hexec hstatus
  exact ⟨_, hexec, rfl, hstatus, rfl⟩

end

theorem execRouteTableSwitch_one {s : State} {i : Nat} {b : List Byte} (hbuilt : s.cwy.built = some [(i, b)]) (hb : b.length = 16) :
    ∃ t, exec .routeTableSwitch s = .next t ∧ t.cwy.built = none ∧ t.rdBytes (forceBase + 16 * i) 16 = b ∧
      t.regB 0x40160020 0 = true ∧ t.dU 0x2400 5 = (routesOf [(i, b)]).length ∧
      (∀ a, a < forceBase + 16 * i ∨ forceBase + 16 * i + 16 ≤ a →
        Memory.read t.mem.cells a = if forceBase ≤ a ∧ a < forceBase + 192000 then 0 else Memory.read s.mem.cells a) ∧ MeshOnly s t := by
  have hexec : exec .routeTableSwitch s = _ := congrArg Host.Outcome.next (routeSwitch_one hbuilt)
  have hlength : (routesOf [(i, b)]).length < 65536 := (routesOf_length_le _).trans_lt (by simp)
  have hcount := switchShown_count hlength (switched i b s)
  have hflag := (switchShown_regB (a := 0x40160020) (by decide) (routesOf [(i, b)]).length 0 (switched i b s)).trans (switched_flag i b s)
  have hentry : (switched i b s).rdBytes (forceBase + 16 * i) 16 = b := oneInForce_entry hb _
  have hrest : ∀ a, _ → Memory.read (switched i b s).mem.cells a = _ := fun a => oneInForce_rest hb (cwyMod _ (s.flag cwyStat 0))
  obtain ⟨r, m, hswitched⟩ := switched_frame i b s
  obtain ⟨r', d, hframe⟩ := switchShown_frame (routesOf [(i, b)]).length (switched i b s)
  rw [hframe, hswitched] at hexec hcount hflag
  rw [hswitched] at hentry hrest
  exact ⟨_, hexec, rfl, hentry, hflag, hcount, hrest, rfl⟩

end Sys2Proof.Machine
end

section
/-! SUPPORT. The roster's index and records in memory (R252, R253), and what roster operations, live updates and restores leave (R255, R257 to R259). -/

namespace Sys2Proof.Machine

/-! ### Writes of memory -/

theorem MemoryOnly.meshOnly {s t : State} (h : MemoryOnly s t) : MeshOnly s t := by
  have hall := congrArg (fun w : State => { w with
    cwy := { w.cwy with live := s.cwy.live, op := s.cwy.op, built := s.cwy.built }, regs := s.regs, dict := s.dict, results := s.results
    links := s.links }) h.frame
  exact hall

theorem MemoryOnly.exists_eq {s t : State} (h : MemoryOnly s t) : ∃ m z, t = { s with mem := m, kz := z } := by
  have hback := congrArg (fun w : State => { w with mem := t.mem, kz := t.kz }) h.frame
  exact ⟨t.mem, t.kz, hback⟩

theorem meshOnly_shown (s : State) (r : List (Nat × BitVec 32)) (d : List (Nat × List Byte)) (x : List (Nat × ResultRec)) :
    MeshOnly s { s with regs := r, dict := d, results := x } := rfl

/-! ### Bytes read behind a write -/

theorem rdBytes_shown (s : State) (r : List (Nat × BitVec 32)) (d : List (Nat × List Byte)) (x : List (Nat × ResultRec)) (a n : Nat) :
    ({ s with regs := r, dict := d, results := x } : State).rdBytes a n = s.rdBytes a n := rfl

theorem rdBytes_dmaWrite_apart {s : State} {a x n : Nat} {bs : List Byte} (h : x + n ≤ a ∨ a + bs.length ≤ x) :
    (s.dmaWrite a bs).rdBytes x n = s.rdBytes x n := by
  rw [State.rdBytes, cells_dmaWrite, readN_writeN_other _ _ h]
  rfl

theorem rdBytes_dmaWrite_within (s : State) (a : Nat) {bs : List Byte} {i n : Nat} (h : i + n ≤ bs.length) :
    (s.dmaWrite a bs).rdBytes (a + i) n = (bs.drop i).take n := by
  have hwhole := rdBytes_dmaWrite s a bs
  unfold State.rdBytes at hwhole ⊢
  rw [readN_sub _ h, hwhole]

theorem leNat_lt (bs : List Byte) : leNat bs < 256 ^ bs.length := by
  induction bs with
  | nil => simp [leNat]
  | cons b bs ih =>
    have hb := b.isLt
    rw [leNat, List.length_cons, Nat.pow_succ]
    omega

theorem rdN_lt (s : State) (a n : Nat) : s.rdN a n < 256 ^ n := by
  have h := leNat_lt (Memory.readN s.mem.cells a n)
  rwa [readN_length] at h

/-! ### The same roster -/

/-- The roster is held, and lies, where it did. -/
structure SameRoster (s t : State) : Prop where
  on : t.rosterOn = s.rosterOn
  index : t.indexBase = s.indexBase
  records : t.rosterBase = s.rosterBase

theorem SameRoster.trans {s t u : State} (h : SameRoster s t) (h' : SameRoster t u) : SameRoster s u :=
  ⟨h'.on.trans h.on, h'.index.trans h.index, h'.records.trans h.records⟩

theorem rosterOn_congr {s t : State} (hrole : t.role = s.role) (hpcc : t.pcc = s.pcc) : t.rosterOn = s.rosterOn := by
  unfold State.rosterOn State.bigRole State.isOn
  rw [hrole, hpcc]

theorem MemoryOnly.sameRoster {s t : State} (h : MemoryOnly s t) : SameRoster s t := by
  have hdict := (congrArg State.dict h.frame :)
  have hpcc := (congrArg State.pcc h.frame :)
  have hregs := (congrArg State.regs h.frame :)
  refine ⟨rosterOn_congr (role_congr hdict) hpcc, ?_, ?_⟩
  · unfold State.indexBase State.regN State.reg
    rw [hregs]
  · unfold State.rosterBase State.regN State.reg
    rw [hregs]

section
variable {s t : State} (h : SameRoster s t)
include h

theorem SameRoster.recAddr (k : Nat) : t.recAddr k = s.recAddr k := by
  rw [State.recAddr, h.records]
  rfl

theorem SameRoster.recordOf {n : Nat} (hword : t.rdN (s.indexBase + 4 * n) 4 = s.rdN (s.indexBase + 4 * n) 4) : t.recordOf n = s.recordOf n := by
  unfold State.recordOf
  rw [h.on, h.index, hword]

end

theorem sameRoster_setRegN {a : Nat} (ha : a ≠ 0x40160030) (hb : a ≠ 0x40160034) (v : Nat) (s : State) : SameRoster s (s.setRegN a v) :=
  ⟨rfl, regN_setRegN_ne s v hb.symm, regN_setRegN_ne s v ha.symm⟩

theorem sameRoster_dSet {x y : Nat} (hkey : key 0x1200 1 ≠ key x y) (v : List Byte) (s : State) : SameRoster s (s.dSet x y v) :=
  ⟨rosterOn_congr (role_dSet_ne hkey v s) rfl, rfl, rfl⟩

/-! ### The index (R252) -/

theorem nodeNumber_of_recordOf {s : State} {n k : Nat} (h : s.recordOf n = some k) : nodeNumber n = true := by
  unfold State.recordOf at h
  split at h
  · cases h
  · rename_i hn
    simp only [Bool.or_eq_true, Bool.not_eq_true', not_or, Bool.not_eq_false] at hn
    exact hn.2

theorem nodeNumber_le {n : Nat} (h : nodeNumber n = true) : n ≤ 0x3FFFE := by
  simp only [nodeNumber, Bool.and_eq_true, decide_eq_true_eq] at h
  exact h.2

/-- The index word of a node written. -/
def indexWritten (n w : Nat) (s : State) : State := s.dmaWrite (s.indexBase + 4 * n) (leBytes 4 w)

theorem memoryOnly_indexWritten (n w : Nat) (s : State) : MemoryOnly s (indexWritten n w s) := memoryOnly_dmaWrite ..

theorem recordOf_indexWritten {s : State} {n w : Nat} (hon : s.rosterOn = true) (hn : nodeNumber n = true) (hw : w < 2 ^ 32) :
    (indexWritten n w s).recordOf n = if bit w 31 then some (field w 17 0) else none := by
  have hsame := (memoryOnly_indexWritten n w s).sameRoster
  have hword : (indexWritten n w s).rdN (s.indexBase + 4 * n) 4 = w := by
    have hbytes := rdBytes_dmaWrite s (s.indexBase + 4 * n) (leBytes 4 w)
    rw [leBytes_length] at hbytes
    rw [State.rdN, ← State.rdBytes, indexWritten, hbytes, leNat_leBytes]
    exact Nat.mod_eq_of_lt hw
  unfold State.recordOf
  rw [hsame.on, hsame.index, hword, hon, hn]
  rfl

/-- The index lies apart from a record that lies apart from it. -/
theorem index_apart {s : State} {n k : Nat} (hn : nodeNumber n = true) (hapart : RecordApart s k) :
    s.recAddr k + 192 ≤ s.indexBase + 4 * n ∨ s.indexBase + 4 * n + 4 ≤ s.recAddr k := by
  have hle := nodeNumber_le hn
  unfold RecordApart at hapart
  omega

/-! ### Records added and removed (R258) -/

theorem newRecord_length (n : Nat) : (newRecord n).length = 192 := by
  simp only [newRecord, List.length_append, leBytes_length, List.length_replicate, List.length_cons, List.length_nil]

/-- A new record in slot `k`, with the index word that says so. -/
def recordMade (n k : Nat) (s : State) : State := indexWritten n (2 ^ 31 + k) (s.dmaWrite (s.recAddr k) (newRecord n))

theorem memoryOnly_recordMade (n k : Nat) (s : State) : MemoryOnly s (recordMade n k s) :=
  (memoryOnly_dmaWrite ..).trans (memoryOnly_indexWritten ..)

theorem addRecord_some {s : State} {n k : Nat} (hroom : s.slotsUsed.length < s.dU 0x2500 1)
    (hfree : leastFree s.slotsUsed (s.slotsUsed.length + 1) 0 = some k) :
    addRecord n s = some (setRosterCount (s.slotsUsed.length + 1) (recordMade n k s)) := by
  unfold addRecord
  dsimp only
  rw [if_neg (by omega), hfree]
  rfl

theorem field_indexWord {k : Nat} (h : k < 2 ^ 18) : bit (2 ^ 31 + k) 31 = true ∧ field (2 ^ 31 + k) 17 0 = k := by
  constructor
  · rw [bit, Nat.testBit_eq_decide_div_mod_eq]
    have : (2 ^ 31 + k) / 2 ^ 31 % 2 = 1 := by omega
    simpa using this
  · unfold field
    omega

theorem recordOf_recordMade {s : State} {n k : Nat} (hon : s.rosterOn = true) (hn : nodeNumber n = true) (hk : k < 2 ^ 18) :
    (recordMade n k s).recordOf n = some k := by
  have hon' : (s.dmaWrite (s.recAddr k) (newRecord n)).rosterOn = true := (memoryOnly_dmaWrite ..).sameRoster.on.trans hon
  obtain ⟨hpresent, hslot⟩ := field_indexWord hk
  rw [recordMade, recordOf_indexWritten hon' hn (by omega), hpresent, hslot]
  rfl

theorem rdBytes_recordMade {s : State} {n k : Nat} (hn : nodeNumber n = true) (hapart : RecordApart s k) :
    (recordMade n k s).rdBytes (s.recAddr k) 192 = newRecord n := by
  have hrecord := rdBytes_dmaWrite s (s.recAddr k) (newRecord n)
  rw [newRecord_length] at hrecord
  have hindex := (memoryOnly_dmaWrite (s.recAddr k) (newRecord n) s).sameRoster.index
  rw [recordMade, indexWritten, rdBytes_dmaWrite_apart, hrecord]
  rw [hindex, leBytes_length]
  exact index_apart hn hapart

theorem removeRecord_eq (n : Nat) (s : State) : removeRecord n s = setRosterCount (s.dU 0x2500 4 - 1) (indexWritten n 0 s) := rfl

theorem removeNode_quiet {s : State} {n : Nat} (h : s.queued.filter (fun f => f.node == n) = []) : removeNode n s = removeRecord n s := by
  unfold removeNode
  rw [h]
  rfl

theorem recordOf_removed {s : State} {n : Nat} (hon : s.rosterOn = true) (hn : nodeNumber n = true) : (indexWritten n 0 s).recordOf n = none :=
  recordOf_indexWritten hon hn (by decide)

/-! ### The roster's count -/

theorem sameRoster_setRosterCount (c : Nat) (s : State) : SameRoster s (setRosterCount c s) :=
  (sameRoster_setRegN (by decide) (by decide) c s).trans (sameRoster_dSet (by decide) _ _)

theorem setRosterCount_count (c : Nat) (s : State) : (setRosterCount c s).dU 0x2500 4 = c % 2 ^ 32 := dU_dPut_self _ 0x2500 4 c

theorem setRosterCount_frame (c : Nat) (s : State) : ∃ r d, setRosterCount c s = { s with regs := r, dict := d } := ⟨_, _, rfl⟩

theorem setRosterCount_mem (c : Nat) (s : State) : (setRosterCount c s).mem = s.mem := rfl

theorem meshOnly_setRosterCount (c : Nat) (s : State) : MeshOnly s (setRosterCount c s) := by
  obtain ⟨r, d, h⟩ := setRosterCount_frame c s
  rw [h]
  exact meshOnly_shown s r d s.results

/-! ### The end of an operation (R258) -/

theorem sameRoster_opEnd (st : Status) (d : Nat) (s : State) : SameRoster s (opEnd st d s) := by
  have hflag : SameRoster s (s.flag cwyStat 8) := sameRoster_setRegN (by decide) (by decide) _ s
  have hdone := sameRoster_dSet (x := 0x2500) (y := 0x0A) (by decide) (leBytes (entryWidth 0x2500 0x0A) d) (s.flag cwyStat 8)
  have hstatus := sameRoster_dSet (x := 0x2500) (y := 9) (by decide) [st] ((s.flag cwyStat 8).dPut 0x2500 0x0A d)
  obtain ⟨hon, hindex, hrecords⟩ := (hflag.trans hdone).trans hstatus
  exact ⟨hon, hindex, hrecords⟩

theorem opEnd_frame (st : Status) (d : Nat) (s : State) :
    ∃ r e x, opEnd st d s = { s with cwy := { s.cwy with op := none }, regs := r, dict := e, results := x } := by
  obtain ⟨r, hflag⟩ := flag_frame s cwyStat 8
  obtain ⟨d', x, hstatus⟩ := produceSt_frame ((cwyMod (fun c => { c with op := none }) (s.flag cwyStat 8)).dPut 0x2500 0x0A d) 0x2500 9 st
  refine ⟨r, d', x, hstatus.trans ?_⟩
  rw [hflag]
  rfl

/-- The operation is over with OK, its count of records is shown, and CWY_STAT says so. -/
structure OpEnded (s t : State) (d : Nat) : Prop where
  op : t.cwy.op = none
  status : t.dGet 0x2500 9 = [0]
  done : t.dU 0x2500 0x0A = d
  flag : t.regB 0x40160020 8 = true
  frame : MeshOnly s t

theorem opEnded {s u : State} {d : Nat} (hd : d < 2 ^ 32) (h : MeshOnly s u) : OpEnded s (opEnd stOk d u) d := by
  obtain ⟨r, e, x, hframe⟩ := opEnd_frame stOk d u
  refine ⟨?_, dGet_produce_self .., ?_, ?_, h.trans ?_⟩
  · rw [hframe]
  · unfold opEnd State.produceSt State.dU
    rw [dGet_produce_ne _ _ (by decide), dGet_dPut_self, leNat_leBytes]
    exact Nat.mod_eq_of_lt hd
  · exact regB_flag_self u cwyStat (by decide)
  · rw [hframe]
    rfl

theorem opEnd_count (st : Status) (d : Nat) (s : State) : (opEnd st d s).dU 0x2500 4 = s.dU 0x2500 4 := by
  unfold opEnd State.produceSt State.dU
  rw [dGet_produce_ne _ _ (by decide), dGet_dPut_ne _ _ (by decide)]
  rfl

/-- What memory holds at the end is what it held before. -/
theorem opEnd_mem (st : Status) (d : Nat) (s : State) : (opEnd st d s).mem = s.mem := by
  obtain ⟨r, e, x, hframe⟩ := opEnd_frame st d s
  rw [hframe]

/-- An operation that has left `c` records is over, having changed `d` of them. -/
def opCounted (c d : Nat) (s : State) : State := opEnd stOk d (setRosterCount c s)

section
variable (c d : Nat) (s : State)

theorem opCounted_ended {r : State} (h : MemoryOnly r s) {d : Nat} (hd : d < 2 ^ 32) : OpEnded r (opCounted c d s) d :=
  opEnded hd (h.meshOnly.trans (meshOnly_setRosterCount c s))

theorem opCounted_mem : (opCounted c d s).mem = s.mem := (opEnd_mem ..).trans (setRosterCount_mem ..)

theorem opCounted_recordOf (n : Nat) : (opCounted c d s).recordOf n = s.recordOf n := by
  refine ((sameRoster_setRosterCount c s).trans (sameRoster_opEnd stOk d _)).recordOf ?_
  unfold State.rdN
  rw [← opCounted, opCounted_mem]

theorem opCounted_rdBytes (a n : Nat) : (opCounted c d s).rdBytes a n = s.rdBytes a n := by
  unfold State.rdBytes
  rw [opCounted_mem]

theorem opCounted_count : (opCounted c d s).dU 0x2500 4 = c % 2 ^ 32 := (opEnd_count ..).trans (setRosterCount_count c s)

end

end Sys2Proof.Machine
end

section
/-! SUPPORT. Roster operations over one number, live updates of a sender's record, and records restored (R255, R257 to R259). -/

namespace Sys2Proof.Machine

/-! ### OP_REQUEST (R258) -/

theorem dU_dSet_ne (s : State) {x y i j : Nat} (v : List Byte) (h : key i j ≠ key x y) : (s.dSet x y v).dU i j = s.dU i j :=
  congrArg leNat (dGet_dSet_ne s v h)

theorem requestEntry_rosterOp : RequestEntry 0x2500 8 where
  takes n := ⟨_, by decide, by decide, by decide, rfl, rfl, valueCheck_number rfl rfl n, rfl, fun _ => rfl⟩
  first := rfl
  stored := rfl
  effect _ _ := rfl
  reset _ _ := rfl
  after _ _ _ := rfl

/-- A range that leaves the device's own is refused, with no record touched (R258). -/
def rangeRefused (s : State) : State := (s.dPut 0x2500 0x0A 0).produceSt 0x2500 9 stRange

theorem rangeRefused_status (s : State) : (rangeRefused s).dGet 0x2500 9 = [0x0E] := dGet_produce_self ..

theorem rangeRefused_done (s : State) : (rangeRefused s).dU 0x2500 0x0A = 0 := by
  unfold rangeRefused State.produceSt State.dU
  rw [dGet_produce_ne _ _ (by decide), dGet_dPut_self]
  rfl

/-- An operation begun over the numbers that OP_LO and OP_HI name. -/
def opBegun (s : State) : State :=
  (cwyMod (fun c => { c with op := some { remove := s.dU 0x2500 5 == 2, lo := s.dU 0x2500 6, hi := s.dU 0x2500 7 } }) s).resPend 0x2500 9

section
variable {s : State} (hidle : s.cwy.op = none)
include hidle

theorem frame_withoutOp : { s with cwy := { s.cwy with op := none } } = s := by
  rw [← hidle]

theorem rosterOpRequest_off (hon : s.rosterOn = false) : rosterOpRequest s = (stNotReady, s.produceSt 0x2500 9 stNotReady) := by
  unfold rosterOpRequest
  rw [hidle, hon]
  rfl

theorem rosterOpRequest_range (hon : s.rosterOn = true) (hbad : s.rosterRange (s.dU 0x2500 6) = false ∨ s.rosterRange (s.dU 0x2500 7) = false) :
    rosterOpRequest s = (stOk, rangeRefused s) := by
  have hout : (!s.rosterRange (s.dU 0x2500 6) || !s.rosterRange (s.dU 0x2500 7)) = true := by
    rcases hbad with h | h <;> simp [h]
  unfold rosterOpRequest
  dsimp only
  rw [hidle, hon, hout]
  rfl

theorem rosterOpRequest_begins (hon : s.rosterOn = true) (hlo : s.rosterRange (s.dU 0x2500 6) = true) (hhi : s.rosterRange (s.dU 0x2500 7) = true) :
    rosterOpRequest s = (stOk, opBegun s) := by
  unfold rosterOpRequest
  dsimp only
  rw [hidle, hon, hlo, hhi]
  rfl

end

theorem opBegun_pending (s : State) : ((opBegun s).resOf 0x2500 9).pending = true := by
  rw [opBegun, resOf_resPend_self]

/-! ### ROSTER_OP_DONE over one number -/

section
variable {s : State} {n : Nat}

theorem rosterOpDone_add {c : Nat} {u : State} (hop : s.cwy.op = some { remove := false, lo := n, hi := n }) (hadd : addFrom 1 n 0 s = (stOk, c, u)) :
    rosterOpDone s = opEnd stOk c u := by
  have hone : n + 1 - n = 1 := by omega
  unfold rosterOpDone
  rw [hop]
  dsimp only
  rw [hone, hadd]
  rfl

theorem addFrom_present {k : Nat} (h : s.recordOf n = some k) : addFrom 1 n 0 s = (stOk, 0, s) := by
  unfold addFrom
  rw [h]
  rfl

theorem addFrom_new {u : State} (h : s.recordOf n = none) (hadd : addRecord n s = some u) : addFrom 1 n 0 s = (stOk, 1, u) := by
  unfold addFrom
  rw [h, hadd]
  rfl

theorem rosterOpDone_remove {k : Nat} (hop : s.cwy.op = some { remove := true, lo := n, hi := n }) (h : s.recordOf n = some k) :
    rosterOpDone s = opEnd stOk 1 (removeNode n s) := by
  have hone : n + 1 - n = 1 := by omega
  have hremove : removeFrom 1 n 0 s = (1, removeNode n s) := by
    unfold removeFrom
    rw [h]
    rfl
  unfold rosterOpDone
  rw [hop]
  dsimp only
  rw [hone, hremove]
  rfl

end

/-! ### Fields of records -/

theorem SameRoster.recGet {s t : State} (h : SameRoster s t) {k o w : Nat} (hbytes : t.rdBytes (s.recAddr k + o) w = s.rdBytes (s.recAddr k + o) w) :
    t.recGet k o w = s.recGet k o w := by
  unfold State.recGet
  rw [h.recAddr]
  exact congrArg leNat hbytes

/-- A field of a record within bytes that have been written into it. -/
theorem recGet_written (s : State) (k o : Nat) {bs : List Byte} {i w : Nat} (h : i + w ≤ bs.length) :
    (s.dmaWrite (s.recAddr k + o) bs).recGet k (o + i) w = leNat ((bs.drop i).take w) := by
  have haddr := (memoryOnly_dmaWrite (s.recAddr k + o) bs s).sameRoster.recAddr k
  unfold State.recGet
  rw [haddr, ← Nat.add_assoc]
  exact congrArg leNat (rdBytes_dmaWrite_within s _ h)

theorem memoryOnly_recPut (k o w v : Nat) (s : State) : MemoryOnly s (recPut k o w v s) := memoryOnly_dmaWrite ..

theorem recGet_recPut (k o w v : Nat) (s : State) : (recPut k o w v s).recGet k o w = v % 256 ^ w := by
  have hfield := recGet_written s k o (bs := leBytes w v) (i := 0) (w := w) (by rw [leBytes_length, Nat.zero_add])
  rw [List.drop_zero, List.take_of_length_le (by rw [leBytes_length]), leNat_leBytes] at hfield
  exact hfield

theorem rdBytes_recPut_apart {k o w v : Nat} {s : State} {x m : Nat} (h : x + m ≤ s.recAddr k + o ∨ s.recAddr k + o + w ≤ x) :
    (recPut k o w v s).rdBytes x m = s.rdBytes x m :=
  rdBytes_dmaWrite_apart (by rwa [leBytes_length])

theorem recGet_recPut_apart {k o w o' w' : Nat} (h : o' + w' ≤ o ∨ o + w ≤ o') (v : Nat) (s : State) :
    (recPut k o w v s).recGet k o' w' = s.recGet k o' w' :=
  (memoryOnly_recPut k o w v s).sameRoster.recGet (rdBytes_recPut_apart (by omega))

/-! ### The record of a frame's sender (R253, R255) -/

/-- The live fields after a frame has been delivered, from byte 0x20 of its sender's record. -/
def liveBytes (k : Nat) (f : MeshFrame) (s : State) : List Byte :=
  leBytes 8 f.slot ++ leBytes 4 ((s.recGet k 0x28 4 + 1) % 2 ^ 32) ++ leBytes 4 (s.recGet k 0x2C 4) ++
    leBytes 2 (unsigned 16 f.rssi) ++ leBytes 2 (unsigned 16 f.snr) ++ leBytes 4 (unsigned 32 f.freq) ++ leBytes 2 (unsigned 16 f.endErr) ++
    [BitVec.ofNat 8 f.chan, BitVec.ofNat 8 f.m, BitVec.ofNat 8 (unsigned 8 (Hdr.ofBytes f.hdr).powerDbm), BitVec.ofNat 8 (Hdr.ofBytes f.hdr).fb,
      BitVec.ofNat 8 (Hdr.ofBytes f.hdr).epochLow]

theorem liveUpdate_eq (k : Nat) (f : MeshFrame) (s : State) : liveUpdate k f s = s.dmaWrite (s.recAddr k + 0x20) (liveBytes k f s) := rfl

theorem liveBytes_length (k : Nat) (f : MeshFrame) (s : State) : (liveBytes k f s).length = 31 := by
  simp only [liveBytes, List.length_append, leBytes_length, List.length_cons, List.length_nil]

section
variable (k : Nat) (f : MeshFrame) (s : State)

theorem recGet_liveUpdate {i w : Nat} (h : i + w ≤ 31) : (liveUpdate k f s).recGet k (0x20 + i) w = leNat (((liveBytes k f s).drop i).take w) := by
  rw [liveUpdate_eq, recGet_written s k 0x20]
  rwa [liveBytes_length]

theorem liveUpdate_slot : (liveUpdate k f s).recGet k 0x20 8 = f.slot % 2 ^ 64 :=
  (recGet_liveUpdate k f s (i := 0) (by decide)).trans (leNat_leBytes 8 f.slot)

theorem liveUpdate_delivered : (liveUpdate k f s).recGet k 0x28 4 = (s.recGet k 0x28 4 + 1) % 2 ^ 32 :=
  (recGet_liveUpdate k f s (i := 8) (by decide)).trans ((leNat_leBytes 4 _).trans (Nat.mod_mod ..))

theorem liveUpdate_failed : (liveUpdate k f s).recGet k 0x2C 4 = s.recGet k 0x2C 4 :=
  (recGet_liveUpdate k f s (i := 12) (by decide)).trans ((leNat_leBytes 4 _).trans (Nat.mod_eq_of_lt (rdN_lt ..)))

theorem liveUpdate_chan : (liveUpdate k f s).recGet k 0x3A 1 = f.chan % 256 :=
  (recGet_liveUpdate k f s (i := 26) (by decide)).trans ((leNat_byte _).trans (BitVec.toNat_ofNat ..))

theorem liveUpdate_sf : (liveUpdate k f s).recGet k 0x3B 1 = f.m % 256 :=
  (recGet_liveUpdate k f s (i := 27) (by decide)).trans ((leNat_byte _).trans (BitVec.toNat_ofNat ..))

/-- A failed tag counted in the record of the node that the frame names as its sender. -/
def failCountedIn (k : Nat) (s : State) : State := recPut k 0x2C 4 ((s.recGet k 0x2C 4 + 1) % 2 ^ 32) s

theorem failCountedIn_count : (failCountedIn k s).recGet k 0x2C 4 = (s.recGet k 0x2C 4 + 1) % 2 ^ 32 := by
  rw [failCountedIn, recGet_recPut]
  exact Nat.mod_mod ..

theorem failCountedIn_rest {o : Nat} (ho : o < 0x2C ∨ 0x30 ≤ o) : (failCountedIn k s).recGet k o 1 = s.recGet k o 1 :=
  recGet_recPut_apart (by omega) _ s

end

/-! ### ROSTER_LIVE_UPDATE (R255, R257) -/

/-- The oldest tag result taken. -/
def liveTaken (rest : List MeshFrame) (s : State) : State := cwyMod (fun c => { c with live := rest }) s

section
variable {s : State} {f : MeshFrame} {rest : List MeshFrame} (hlive : s.cwy.live = f :: rest)
include hlive

theorem rosterLiveUpdate_unknown (hnone : s.recordOf (Hdr.ofBytes f.hdr).tx = none) : rosterLiveUpdate s = liveTaken rest s := by
  have hnone' : (liveTaken rest s).recordOf (Hdr.ofBytes f.hdr).tx = none := hnone
  unfold liveTaken cwyMod at hnone' ⊢
  unfold rosterLiveUpdate
  rw [hlive]
  dsimp only
  rw [hnone']

variable {k : Nat} (hsome : s.recordOf (Hdr.ofBytes f.hdr).tx = some k) (hpoison : s.recPoisoned k = false)
include hsome hpoison

theorem rosterLiveUpdate_known : rosterLiveUpdate s =
    if f.outcome = 0 ∨ f.outcome = 4 then liveUpdate k f (liveTaken rest s)
    else if f.outcome = 2 ∨ f.outcome = 3 ∨ f.outcome = 7 then failCountedIn k (liveTaken rest s)
    else liveTaken rest s := by
  have hsome' : (liveTaken rest s).recordOf (Hdr.ofBytes f.hdr).tx = some k := hsome
  have hpoison' : (liveTaken rest s).recPoisoned k = false := hpoison
  unfold failCountedIn
  unfold liveTaken cwyMod at hsome' hpoison' ⊢
  unfold rosterLiveUpdate
  rw [hlive]
  dsimp only
  rw [hsome']
  dsimp only
  rw [hpoison', if_neg nofun]

end

/-- Nothing of Causeway but the list of tag results has changed, whatever has been written to memory since. -/
theorem liveTaken_written {s t : State} {rest : List MeshFrame} (h : MemoryOnly (liveTaken rest s) t) :
    t.cwy = { s.cwy with live := rest } ∧ MeshOnly s t :=
  ⟨(congrArg State.cwy h.frame :), MeshOnly.trans (t := liveTaken rest s) rfl h.meshOnly⟩

/-! ### Downlink groups -/

theorem goodRecord_of {s : State} {n k : Nat} (h : s.recordOf n = some k) : s.goodRecord n = if s.recPoisoned k then none else some k := by
  simp only [State.goodRecord, h]

/-- Bytes outside the downlink group of a node's record are as they were. -/
theorem rdBytes_syncDownlinks {n k : Nat} {s : State} (hrecord : s.recordOf n = some k) {x m : Nat}
    (h : x + m ≤ s.recAddr k + 0x70 ∨ s.recAddr k + 0x80 ≤ x) : (syncDownlinks n s).rdBytes x m = s.rdBytes x m := by
  have haddr : ∀ o w v u, (recPut k o w v u).recAddr k = u.recAddr k := fun o w v u => (memoryOnly_recPut k o w v u).sameRoster.recAddr k
  unfold syncDownlinks
  rw [goodRecord_of hrecord]
  cases s.recPoisoned k with
  | true => rfl
  | false =>
    refine (rdBytes_recPut_apart ?_).trans ((rdBytes_recPut_apart ?_).trans (rdBytes_recPut_apart ?_))
    · rw [haddr, haddr]
      omega
    · rw [haddr]
      omega
    · omega

/-! ### RESTORE_REQUEST (R259) -/

theorem requestEntry_restore : RequestEntry 0x2500 0x12 where
  takes n := ⟨_, by decide, by decide, by decide, rfl, rfl, valueCheck_number rfl rfl n, rfl, fun _ => rfl⟩
  first := rfl
  stored := rfl
  effect _ _ := rfl
  reset _ _ := rfl
  after _ _ _ := rfl

/-- The image that a restored record takes: RESTORE_IMAGE, present and not poisoned. -/
def imageBytes (img : List Byte) : List Byte := leBytes 4 (putField (putField (leNat (img.take 4)) 18 18 1) 19 19 0) ++ img.drop 4

/-- A record's bytes replaced by the image. -/
def imageWritten (k : Nat) (img : List Byte) (s : State) : State := s.dmaWrite (s.recAddr k) (imageBytes img)

theorem memoryOnly_imageWritten (k : Nat) (img : List Byte) (s : State) : MemoryOnly s (imageWritten k img s) := memoryOnly_dmaWrite ..

/-- What follows the image: the downlink group, the counts of poisoned records, and the result. -/
def restoreEnded (n : Nat) (s : State) : State := ((syncRecords (syncDownlinks n s)).flag cwyStat 8).produceSt 0x2500 0x13 stOk

section
variable {s : State} (hon : s.rosterOn = true) (hlen : (s.dGet 0x2500 0x11).length = 192)
  (hnode : leNat ((s.dGet 0x2500 0x11).take 4) % 2 ^ 18 = s.dU 0x2500 0x10)
include hon hlen hnode

theorem restoreRecord_missing (hnone : s.recordOf (s.dU 0x2500 0x10) = none) : restoreRecord s = (stOk, s.produceSt 0x2500 0x13 stNoEntry) := by
  have hfield : field (leNat ((s.dGet 0x2500 0x11).take 4)) 17 0 = s.dU 0x2500 0x10 := by simpa [field] using hnode
  unfold restoreRecord
  dsimp only
  rw [hnone, if_neg (by simp [hlen, hfield]), hon]
  rfl

theorem restoreRecord_found {k : Nat} (hsome : s.recordOf (s.dU 0x2500 0x10) = some k) :
    restoreRecord s = (stOk, restoreEnded (s.dU 0x2500 0x10) (imageWritten k (s.dGet 0x2500 0x11) s)) := by
  have hfield : field (leNat ((s.dGet 0x2500 0x11).take 4)) 17 0 = s.dU 0x2500 0x10 := by simpa [field] using hnode
  unfold restoreRecord
  dsimp only
  rw [hsome, if_neg (by simp [hlen, hfield]), hon]
  rfl

end

theorem syncRecords_frame (s : State) : ∃ r d, syncRecords s = { s with regs := r, dict := d } := ⟨_, _, rfl⟩

theorem restoreEnded_frame (n : Nat) (s : State) :
    ∃ r d x, restoreEnded n s = { syncDownlinks n s with regs := r, dict := d, results := x } := by
  obtain ⟨r, d, hrecords⟩ := syncRecords_frame (syncDownlinks n s)
  obtain ⟨r', hflag⟩ := flag_frame (syncRecords (syncDownlinks n s)) cwyStat 8
  obtain ⟨d', x, hstatus⟩ := produceSt_frame ((syncRecords (syncDownlinks n s)).flag cwyStat 8) 0x2500 0x13 stOk
  refine ⟨r', d', x, hstatus.trans ?_⟩
  rw [hflag, hrecords]

theorem imageBytes_length {img : List Byte} (hlen : img.length = 192) : (imageBytes img).length = 192 := by
  rw [imageBytes, List.length_append, leBytes_length, List.length_drop, hlen]

/-- Behind its ID the image is taken as it is. -/
theorem imageBytes_byte {img : List Byte} (hlen : img.length = 192) {o : Nat} (hlow : 4 ≤ o) (hhigh : o < 192) :
    ((imageBytes img).drop o).take 1 = [img.getD o 0] := by
  have hdrop : (imageBytes img).drop o = img.drop o := by
    rw [imageBytes, List.drop_append, List.drop_eq_nil_of_le (by rwa [leBytes_length]), leBytes_length, List.drop_drop, Nat.add_sub_of_le hlow]
    rfl
  have ho : o < img.length := by omega
  rw [hdrop, List.drop_eq_getElem_cons ho, List.getD_eq_getElem _ _ ho]
  rfl

/-- The image's bytes stand in the record, but for its ID and the downlink group. -/
theorem rdBytes_restored {s : State} {n k : Nat} (hsome : s.recordOf n = some k) (hapart : RecordApart s k) {img : List Byte} (hlen : img.length = 192)
    {o : Nat} (hlow : 4 ≤ o) (hhigh : o < 192) (hgroup : o < 0x70 ∨ 0x80 ≤ o) :
    (restoreEnded n (imageWritten k img s)).rdBytes (s.recAddr k + o) 1 = [img.getD o 0] := by
  have hsame := (memoryOnly_imageWritten k img s).sameRoster
  have hlength := imageBytes_length hlen
  have hindex := index_apart (nodeNumber_of_recordOf hsome) hapart
  have hword : (imageWritten k img s).rdBytes (s.indexBase + 4 * n) 4 = s.rdBytes (s.indexBase + 4 * n) 4 := by
    refine rdBytes_dmaWrite_apart ?_
    rw [hlength]
    omega
  have hrecord : (imageWritten k img s).recordOf n = some k := (hsame.recordOf (congrArg leNat hword)).trans hsome
  have hbyte : (imageWritten k img s).rdBytes (s.recAddr k + o) 1 = [img.getD o 0] :=
    (rdBytes_dmaWrite_within s (s.recAddr k) (by omega)).trans (imageBytes_byte hlen hlow hhigh)
  have hgroups := rdBytes_syncDownlinks hrecord (x := s.recAddr k + o) (m := 1) (by rw [hsame.recAddr]; omega)
  obtain ⟨r, d, x, hframe⟩ := restoreEnded_frame n (imageWritten k img s)
  rw [hframe, rdBytes_shown, hgroups, hbyte]

theorem restored_frame (n k : Nat) (img : List Byte) (s : State) : ∃ m z r d x,
    restoreEnded n (imageWritten k img s) = { s with mem := m, kz := z, regs := r, dict := d, results := x } := by
  obtain ⟨m, z, hmemory⟩ := ((memoryOnly_imageWritten k img s).trans (memoryOnly_syncDownlinks n _)).exists_eq
  obtain ⟨r, d, x, hframe⟩ := restoreEnded_frame n (imageWritten k img s)
  rw [hmemory] at hframe
  exact ⟨m, z, r, d, x, hframe⟩

theorem restored_status (n : Nat) (s : State) : (restoreEnded n s).dGet 0x2500 0x13 = [0] := dGet_produce_self ..

/-! ### The commands -/

/-- Beside the operation that runs, only results, entries and what the links hold have changed. -/
def OnlyAsked (s t : State) : Prop :=
  { t with links := s.links, results := s.results, dict := s.dict, cwy := { t.cwy with op := none } } = s

section
variable {s : State} {src : Src} (h : Asks s src) {v : BitVec 32}
include h

section
variable (hnew : leBytes 4 v.toNat ≠ s.dGet 0x2500 8) (hidle : s.cwy.op = none) (tid : Byte)
include hnew hidle

theorem execRosterOpRequest_off (hon : s.rosterOn = false) : ∃ t, exec (.rosterOpRequest src tid v) s = .next t ∧ t.dGet 0x2500 9 = [2] ∧
    Spoke s t src (writeResp tid 0x2500 8 2) ∧ OnlyAsked s t ∧ t.cwy = s.cwy := by
  obtain ⟨l, a, hlink, hpdu, hwrite⟩ := requestEntry_rosterOp.refused h hnew (by decide) (rosterOpRequest_off hidle hon) tid
  have hstatus : (s.produceSt 0x2500 9 stNotReady).dGet 0x2500 9 = [2] := dGet_produce_self ..
  exact ⟨_, congrArg Host.Outcome.next hwrite, hstatus, spoke_of_push hlink hpdu rfl, frame_withoutOp hidle, rfl⟩

theorem execRosterOpRequest_range (hon : s.rosterOn = true) (hbad : s.rosterRange (s.dU 0x2500 6) = false ∨ s.rosterRange (s.dU 0x2500 7) = false) :
    ∃ t, exec (.rosterOpRequest src tid v) s = .next t ∧ t.dGet 0x2500 9 = [0x0E] ∧ t.dU 0x2500 0x0A = 0 ∧
      Spoke s t src (writeResp tid 0x2500 8 0) ∧ OnlyAsked s t ∧ t.cwy = s.cwy := by
  obtain ⟨l, a, hlink, hpdu, hwrite⟩ := requestEntry_rosterOp.taken h hnew (rosterOpRequest_range hidle hon hbad) tid
  have hstatus := (dGet_dSet_ne (x := 0x2500) (y := 8) (rangeRefused s) (leBytes 4 v.toNat) (by decide)).trans (rangeRefused_status s)
  have hdone := (dU_dSet_ne (x := 0x2500) (y := 8) (rangeRefused s) (leBytes 4 v.toNat) (by decide)).trans (rangeRefused_done s)
  exact ⟨_, congrArg Host.Outcome.next hwrite, hstatus, hdone, spoke_of_push hlink hpdu rfl,
    frame_withoutOp hidle, rfl⟩

theorem execRosterOpRequest_begins (hon : s.rosterOn = true) (hlo : s.rosterRange (s.dU 0x2500 6) = true)
    (hhi : s.rosterRange (s.dU 0x2500 7) = true) : ∃ t, exec (.rosterOpRequest src tid v) s = .next t ∧ (t.resOf 0x2500 9).pending = true ∧
      Spoke s t src (writeResp tid 0x2500 8 0) ∧ OnlyAsked s t ∧
      t.cwy.op = some { remove := s.dU 0x2500 5 == 2, lo := s.dU 0x2500 6, hi := s.dU 0x2500 7 } := by
  obtain ⟨l, a, hlink, hpdu, hwrite⟩ := requestEntry_rosterOp.taken h hnew (rosterOpRequest_begins hidle hon hlo hhi) tid
  exact ⟨_, congrArg Host.Outcome.next hwrite, opBegun_pending s, spoke_of_push hlink hpdu rfl,
    frame_withoutOp hidle, rfl⟩

end

section
variable (hnew : leBytes 4 v.toNat ≠ s.dGet 0x2500 0x12) (hon : s.rosterOn = true) (hlen : (s.dGet 0x2500 0x11).length = 192)
  (hnode : leNat ((s.dGet 0x2500 0x11).take 4) % 2 ^ 18 = s.dU 0x2500 0x10) (tid : Byte)
include hnew hon hlen hnode

theorem execRestoreRequest_missing (hnone : s.recordOf (s.dU 0x2500 0x10) = none) : ∃ t, exec (.restoreRequest src tid v) s = .next t ∧
    t.dGet 0x2500 0x13 = [0x10] ∧ Spoke s t src (writeResp tid 0x2500 0x12 0) ∧ t.mem = s.mem ∧ MeshOnly s t := by
  obtain ⟨l, a, hlink, hpdu, hwrite⟩ := requestEntry_restore.taken h hnew (restoreRecord_missing hon hlen hnode hnone) tid
  have hstatus := (dGet_dSet_ne (x := 0x2500) (y := 0x12) (s.produceSt 0x2500 0x13 stNoEntry) (leBytes 4 v.toNat) (by decide)).trans
    (dGet_produce_self s 0x2500 0x13 [stNoEntry])
  exact ⟨_, congrArg Host.Outcome.next hwrite, hstatus, spoke_of_push hlink hpdu rfl, rfl, rfl⟩

theorem execRestoreRequest_found {k : Nat} (hsome : s.recordOf (s.dU 0x2500 0x10) = some k) (hapart : RecordApart s k) :
    ∃ t, exec (.restoreRequest src tid v) s = .next t ∧ t.dGet 0x2500 0x13 = [0] ∧ Spoke s t src (writeResp tid 0x2500 0x12 0) ∧ MeshOnly s t ∧
      ∀ o, 4 ≤ o → o < 192 → o < 0x70 ∨ 0x80 ≤ o → t.rdBytes (s.recAddr k + o) 1 = [(s.dGet 0x2500 0x11).getD o 0] := by
  obtain ⟨l, a, hlink, hpdu, hwrite⟩ := requestEntry_restore.taken h hnew (restoreRecord_found hon hlen hnode hsome) tid
  have hstatus := restored_status (s.dU 0x2500 0x10) (imageWritten k (s.dGet 0x2500 0x11) s)
  have hbytes : ∀ o, 4 ≤ o → o < 192 → _ → _ := fun o => rdBytes_restored hsome hapart hlen (o := o)
  obtain ⟨m, z, r, d, x, hframe⟩ := restored_frame (s.dU 0x2500 0x10) k (s.dGet 0x2500 0x11) s
  rw [hframe] at hwrite hstatus hbytes
  exact ⟨_, congrArg Host.Outcome.next hwrite, (dGet_dSet_ne (x := 0x2500) (y := 0x12) _ _ (by decide)).trans hstatus,
    spoke_of_push hlink hpdu rfl, rfl, hbytes⟩

end

end

section
variable {s : State} {n k : Nat} (hon : s.rosterOn = true) (hnode : nodeNumber n = true)
include hon hnode

theorem execRosterOpDone_added (hop : s.cwy.op = some { remove := false, lo := n, hi := n }) (hnone : s.recordOf n = none)
    (hroom : s.slotsUsed.length < s.dU 0x2500 1) (hfree : leastFree s.slotsUsed (s.slotsUsed.length + 1) 0 = some k) (hk : k < 2 ^ 18)
    (hapart : RecordApart s k) : ∃ t, exec .rosterOpDone s = .next t ∧ OpEnded s t 1 ∧ t.recordOf n = some k ∧
      t.rdBytes (s.recAddr k) 192 = newRecord n ∧ t.dU 0x2500 4 = (s.slotsUsed.length + 1) % 2 ^ 32 := by
  have hexec := rosterOpDone_add hop (addFrom_new hnone (addRecord_some hroom hfree))
  refine ⟨opCounted (s.slotsUsed.length + 1) 1 (recordMade n k s), congrArg Host.Outcome.next hexec,
    opCounted_ended _ _ (memoryOnly_recordMade n k s) (by decide), ?_, ?_, opCounted_count ..⟩
  · rw [opCounted_recordOf, recordOf_recordMade hon hnode hk]
  · rw [opCounted_rdBytes, rdBytes_recordMade hnode hapart]

theorem execRosterOpDone_removed (hop : s.cwy.op = some { remove := true, lo := n, hi := n }) (hsome : s.recordOf n = some k)
    (hqueued : s.queued.filter (fun f => f.node == n) = []) : ∃ t, exec .rosterOpDone s = .next t ∧ OpEnded s t 1 ∧ t.recordOf n = none ∧
      t.dU 0x2500 4 = (s.dU 0x2500 4 - 1) % 2 ^ 32 := by
  have hexec := rosterOpDone_remove hop hsome
  rw [removeNode_quiet hqueued, removeRecord_eq] at hexec
  refine ⟨opCounted (s.dU 0x2500 4 - 1) 1 (indexWritten n 0 s), congrArg Host.Outcome.next hexec,
    opCounted_ended _ _ (memoryOnly_indexWritten n 0 s) (by decide), ?_, opCounted_count ..⟩
  rw [opCounted_recordOf, recordOf_removed hon hnode]

end

end Sys2Proof.Machine

namespace Sys2Proof.Proofs
open Sys2Proof.Machine

/-- Settles O42: each command leaves a state that a definition of its own writes out, and the memory it has written reads back. -/
theorem tablesAndRecords : Obligations.TablesAndRecords := by
  intro s src tid v tb i k n b f rest area begins mems
  have hbegins : ∀ {t}, BuildStarted s t → begins t := fun h => ⟨h.cwy, h.pending, h.shown⟩
  refine ⟨fun hon hbit => ⟨fun hidle => ?_, fun hbuild => ?_⟩, fun hasks hnew hidle => ?_,
    fun hbuild => ⟨execRouteBuildDone_failed hbuild, execRouteBuildDone_passed hbuild⟩, fun hbuilt hlen _ => execRouteTableSwitch_one hbuilt hlen,
    fun hasks hnew hidle => ⟨execRosterOpRequest_off hasks hnew hidle tid, execRosterOpRequest_range hasks hnew hidle tid,
      execRosterOpRequest_begins hasks hnew hidle tid⟩, fun hon hnode => ?_, fun hasks hnew hn hon => ?_⟩
  · obtain ⟨t, hexec, hstarted, hframe⟩ := execRouteCommit_begins hon hbit hidle tid
    exact ⟨t, hexec, hbegins hstarted, hframe⟩
  · have hexec := execRouteCommit_register hon hbit tid
    rw [routeCommit_busy hbuild] at hexec
    exact ⟨_, hexec, dGet_produce_self .., rfl⟩
  · obtain ⟨t, hexec, hstarted, hrest⟩ := execRouteCommit_host hasks hnew hidle tid
    exact ⟨t, hexec, hbegins hstarted, hrest⟩
  · intro ends
    have hends : ∀ {t d}, OpEnded s t d → ends t d := fun h => ⟨h.op, h.status, h.done, h.flag, h.frame⟩
    refine ⟨fun hop => ⟨fun hsome => ?_, fun hnone hroom hfree hk hapart => ?_⟩, fun hop hsome hqueued => ?_, fun hlive htx => ?_⟩
    · exact ⟨_, congrArg Host.Outcome.next (rosterOpDone_add hop (addFrom_present hsome)), hends (opEnded (by decide) rfl), opEnd_mem ..⟩
    · obtain ⟨t, hexec, hended, hrest⟩ := execRosterOpDone_added hon hnode hop hnone hroom hfree hk hapart
      exact ⟨t, hexec, hends hended, hrest⟩
    · obtain ⟨t, hexec, hended, hrest⟩ := execRosterOpDone_removed hon hnode hop hsome hqueued
      exact ⟨t, hexec, hends hended, hrest⟩
    · subst htx
      intro live
      refine ⟨fun hnone => congrArg Host.Outcome.next (rosterLiveUpdate_unknown hlive hnone), fun hsome hpoison hout => ?_, fun hsome hpoison hout => ?_⟩
      · have hexec := (rosterLiveUpdate_known hlive hsome hpoison).trans (if_pos hout)
        exact ⟨_, congrArg Host.Outcome.next hexec, liveTaken_written (memoryOnly_dmaWrite ..), liveUpdate_slot .., liveUpdate_delivered ..,
          liveUpdate_failed .., liveUpdate_chan .., liveUpdate_sf ..⟩
      · have hexec := (rosterLiveUpdate_known hlive hsome hpoison).trans ((if_neg (by omega)).trans (if_pos hout))
        exact ⟨_, congrArg Host.Outcome.next hexec, liveTaken_written (memoryOnly_recPut ..), failCountedIn_count ..,
          fun o ho => failCountedIn_rest _ _ ho⟩
  · subst hn
    exact ⟨fun hlen hnode => execRestoreRequest_missing hasks hnew hon hlen hnode tid,
      fun hlen hnode => execRestoreRequest_found hasks hnew hon hlen hnode tid⟩

end Sys2Proof.Proofs
end

section
/-! SUPPORT. A background page of the CMAC engine: how a command begins a job, ends it or refuses it, and what a block and the end of a job do
(R300 to R303). -/

namespace Sys2Proof.Machine

theorem reg_congr {s t : State} (h : t.regs = s.regs) (a : Nat) : t.reg a = s.reg a := by
  unfold State.reg
  rw [h]

theorem regN_congr {s t : State} (h : t.regs = s.regs) (a : Nat) : t.regN a = s.regN a := congrArg BitVec.toNat (reg_congr h a)

/-! ### What a page's command may change -/

/-- Only the pages' jobs, the turn among them and registers have changed. -/
def JobsOnly (s t : State) : Prop :=
  { t with sec := { t.sec with jobs := s.sec.jobs, turn := s.sec.turn, turnCnt := s.sec.turnCnt }, regs := s.regs } = s

/-- A job has begun on page `p`. -/
structure JobBegun (s t : State) (p : Fin 8) (j : CmcJob) : Prop where
  jobs : t.sec.jobs = vset s.sec.jobs p (some j)
  stat : t.regN (page p + 4) = 0x100
  blocks : t.regN (page p + 0x64) = 0
  frame : JobsOnly s t

/-- Page `p` has no job, and shows a status. -/
structure JobEnded (s t : State) (p : Fin 8) (st : Status) : Prop where
  jobs : t.sec.jobs = vset s.sec.jobs p none
  stat : t.regN (page p + 4) = 0x400 + st.toNat

theorem onlyRegs_pstatBusy (p : Fin 8) (s : State) : OnlyRegs s (pstatBusy p s) := ((OnlyRegs.refl s).setRegN _ _).setRegN _ _

theorem regN_pstatBusy_stat (p : Fin 8) (s : State) : (pstatBusy p s).regN (page p + 4) = 0x100 :=
  (regN_setRegN_ne _ _ (by omega)).trans (regN_setRegN_self (by decide) ..)

theorem regN_pstatBusy_blocks (p : Fin 8) (s : State) : (pstatBusy p s).regN (page p + 0x64) = 0 := regN_setRegN_self (by decide) ..

theorem jobBegun_jobStart (p : Fin 8) (j : CmcJob) (s : State) : JobBegun s (jobStart p j s) p j := by
  have hstat := regN_pstatBusy_stat p s
  have hblocks := regN_pstatBusy_blocks p s
  obtain ⟨r, hbusy⟩ := (onlyRegs_pstatBusy p s).exists_eq
  unfold jobStart
  dsimp only
  rw [hbusy] at hstat hblocks ⊢
  split
  · exact ⟨rfl, hstat, hblocks, rfl⟩
  · exact ⟨rfl, hstat, hblocks, rfl⟩

theorem jobEnded_pstatEnd (p : Fin 8) (st : Status) (s : State) : JobEnded s (pstatEnd p st s) p st := by
  have hlt : 0x400 + st.toNat < 2 ^ 32 := by have := st.isLt; omega
  exact ⟨rfl, (regN_congr rfl _).trans (regN_setRegN_self hlt s (page p + 4))⟩

theorem jobsOnly_pstatEnd (p : Fin 8) (st : Status) (s : State) : JobsOnly s (pstatEnd p st s) := rfl

/-! ### A command by a master (R300) -/

theorem dU_violation (reg info : Nat) (s : State) : (violation reg info s).dU 0x3000 0x40 = min (s.dU 0x3000 0x40 + 1) 0xFFFFFFFF :=
  dU_dBump rfl (s.setRegN reg _)

theorem violated_violation {reg info : Nat} (hinfo : info < 0x10000) (s : State) : Violated s (violation reg info s) reg info := by
  have hlt : info % 0x10000 + 0x10000 * min (s.regF reg 31 16 + 1) 0xFFFF < 2 ^ 32 := by omega
  have hword : (violation reg info s).regN reg = info + 0x10000 * min (s.regF reg 31 16 + 1) 0xFFFF := by
    have h := regN_setRegN_self hlt s reg
    rw [← satAdd_eq_min] at h
    rw [← satAdd_eq_min]
    exact h.trans (by rw [Nat.mod_eq_of_lt hinfo])
  refine ⟨?_, ?_, dU_violation .., rfl⟩
  · simp only [State.regF, hword, field]
    omega
  · simp only [State.regF, hword, field]
    omega

theorem masterId_lt (m : Master) : masterId m < 8 := by
  cases m with
  | core c _ => exact Nat.lt_of_lt_of_le c.isLt (by decide)
  | engine => decide
  | block => decide

/-- The commands of page `p` by master `m`. -/
def pageCommands (m : Master) (p : Fin 8) : List Instr := [.cmcAbort m p, .cmcGen m p, .cmcVerify m p, .cmcWrap m p, .cmcTest m p]

theorem exec_pageCommand {m : Master} {p : Fin 8} {i : Instr} (h : i ∈ pageCommands m p) (s : State) : ∃ cmd, exec i s = .next (cmcWrite m p cmd s) := by
  simp only [pageCommands, List.mem_cons, List.not_mem_nil, or_false] at h
  rcases h with rfl | rfl | rfl | rfl | rfl
  exacts [⟨0, rfl⟩, ⟨1, rfl⟩, ⟨2, rfl⟩, ⟨3, rfl⟩, ⟨4, rfl⟩]

theorem exec_pageCommand_tail {m : Master} {p : Fin 8} {i : Instr} (h : i ∈ (pageCommands m p).tail) (s : State) :
    ∃ cmd, cmd ≠ 0 ∧ exec i s = .next (cmcWrite m p cmd s) := by
  simp only [pageCommands, List.tail_cons, List.mem_cons, List.not_mem_nil, or_false] at h
  rcases h with rfl | rfl | rfl | rfl
  exacts [⟨1, by decide, rfl⟩, ⟨2, by decide, rfl⟩, ⟨3, by decide, rfl⟩, ⟨4, by decide, rfl⟩]

theorem cmcWrite_off {s : State} (h : s.isOn dSEC = false) (m : Master) (p cmd : Fin 8) : cmcWrite m p cmd s = s := by
  unfold cmcWrite
  rw [h]
  rfl

section
variable {s : State} (hon : s.isOn dSEC = true) {m : Master} {p : Fin 8}
include hon

theorem cmcWrite_foreign (hm : ownsPage m p = false) (cmd : Fin 8) : cmcWrite m p cmd s = cmcViol m p s := by
  unfold cmcWrite
  rw [hon, hm]
  rfl

theorem cmcWrite_own (hm : ownsPage m p = true) (cmd : Fin 8) : cmcWrite m p cmd s = cmcCommand p cmd s := by
  unfold cmcWrite
  rw [hon, hm]
  rfl

theorem violated_cmcWrite (hm : ownsPage m p = false) (cmd : Fin 8) : Violated s (cmcWrite m p cmd s) 0x40084890 (p.1 + 256 * masterId m) := by
  rw [cmcWrite_foreign hon hm]
  exact violated_violation (by have := masterId_lt m; omega) s

end

/-! ### The commands of a page's owner (R301) -/

section
variable {s : State} {p : Fin 8}

theorem cmcCommand_abort_idle (h : vget s.sec.jobs p = none) : cmcCommand p 0 s = s := by
  simp [cmcCommand, h]

section
variable {j : CmcJob} (h : vget s.sec.jobs p = some j)
include h

theorem cmcCommand_abort : cmcCommand p 0 s = pstatEnd p stAborted s := by
  simp [cmcCommand, h]

theorem cmcCommand_busy {cmd : Fin 8} (hcmd : cmd ≠ 0) : cmcCommand p cmd s = s.setRegF (page p + 4) 7 0 stBusy.toNat := by
  simp [cmcCommand, h, hcmd]

end

section
variable (hidle : vget s.sec.jobs p = none)
include hidle

section
variable {cmd : Fin 8} (hcmd : cmd = 1 ∨ cmd = 2)
include hcmd

theorem cmcCommand_mac {k : List Byte} (hkey : pageJobKey p s = .ok k)
    (hmsg : messageOk (s.regN (page p + 0x10)) (s.regF (page p + 0x14) 23 0) s = true) : cmcCommand p cmd s =
      jobStart p { cmd := cmd, key := k, addr := s.regN (page p + 0x10), len := s.regF (page p + 0x14) 23 0
                   total := cmacBlocks (s.regF (page p + 0x14) 23 0) } s := by
  rcases hcmd with rfl | rfl <;> simp [cmcCommand, hidle, hkey, hmsg]

theorem cmcCommand_mac_range {k : List Byte} (hkey : pageJobKey p s = .ok k)
    (hmsg : messageOk (s.regN (page p + 0x10)) (s.regF (page p + 0x14) 23 0) s = false) : cmcCommand p cmd s = pstatEnd p stRange s := by
  rcases hcmd with rfl | rfl <;> simp [cmcCommand, hidle, hkey, hmsg]

theorem cmcCommand_mac_key {st : Status} (hkey : pageJobKey p s = .error st) : cmcCommand p cmd s = pstatEnd p st s := by
  rcases hcmd with rfl | rfl <;> simp [cmcCommand, hidle, hkey]

end

theorem cmcCommand_wrap_denied (hp : 4 < p.1) : cmcCommand p 3 s = pstatEnd p stDenied s := by
  simp [cmcCommand, hidle, hp]

theorem cmcCommand_wrap (hlo : 2 ≤ p.1) (hhi : p.1 ≤ 4) : cmcCommand p 3 s =
    if (wrapImage p.1 (s.regB (page p) 6) (s.regN (page p + 8)) s).1 ≠ stOk then
      pstatEnd p (wrapImage p.1 (s.regB (page p) 6) (s.regN (page p + 8)) s).1 s
    else jobStart p { cmd := 3, key := [], addr := s.regN (page p + 0x10)
                      total := if s.regB (page p) 6 then (if s.keyBytes = 32 then 10 else 8) else if s.keyBytes = 32 then 30 else 22
                      out := (wrapImage p.1 (s.regB (page p) 6) (s.regN (page p + 8)) s).2 } s := by
  have hpage : ¬(p.1 < 2 ∨ 4 < p.1) := by omega
  simp only [cmcCommand, hidle, hpage]
  rfl

theorem cmcCommand_test_derive (hderive : s.regB (page p) 5 = true) : cmcCommand p 4 s =
    jobStart p { cmd := 4, key := s.pageKey p, total := (s.pageKey p).length / 16
                 out := kdf (s.pageKey p) false (s.regN (page p + 8)) (s.regN (page p + 0xC)) 0 } s := by
  simp [cmcCommand, hidle, hderive]

theorem cmcCommand_test (hderive : s.regB (page p) 5 = false)
    (hmsg : messageOk (s.regN (page p + 0x10)) (s.regF (page p + 0x14) 23 0) s = true) : cmcCommand p 4 s =
      jobStart p { cmd := 4, key := s.pageKey p, addr := s.regN (page p + 0x10), len := s.regF (page p + 0x14) 23 0
                   total := cmacBlocks (s.regF (page p + 0x14) 23 0) } s := by
  simp [cmcCommand, hidle, hderive, hmsg]

end

end

/-! ### Blocks (R302) -/

theorem running_of {s : State} {p : Fin 8} {j : CmcJob} (h : vget s.sec.jobs p = some j) (hsusp : j.susp = false) (hleft : j.done < j.total) :
    s.sec.running p = true := by
  simp [Sec.running, h, hsusp, hleft]

/-- The background job whose turn it is has done one more block. -/
def blockDone (p : Fin 8) (j : CmcJob) (s : State) : State :=
  (secMod (fun x => { x with turnCnt := x.turnCnt + 1 }) (jobSet p (some (j.step s)) s)).setRegN (page p + 0x64) (j.done + 1)

section
variable {s : State} {p : Fin 8} {j : CmcJob} (hturn : s.sec.turn = p) (hjob : vget s.sec.jobs p = some j) (hsusp : j.susp = false)
  (hleft : j.done + 1 < j.total)
include hturn hjob hsusp hleft

theorem blockEnds_background : blockEnds s = blockDone p j s := by
  unfold blockEnds
  rw [hturn, if_pos (running_of hjob hsusp (by omega)), hjob]
  rfl

/-- With no urgent job, the same page goes on within its 64 blocks. -/
theorem cmcBlockDone_background (hurgent : s.sec.urgent = []) (hcnt : s.sec.turnCnt + 1 < 64) :
    cmcBlockDone s = (blockDone p j s).setRegF (page p + 4) 9 9 0 := by
  obtain ⟨r, hregs⟩ : ∃ r, blockDone p j s =
      { s with regs := r, sec := { s.sec with jobs := vset s.sec.jobs p (some (j.step s)), turnCnt := s.sec.turnCnt + 1 } } := ⟨_, rfl⟩
  have hstep : { j.step s with susp := false } = j.step s := by rw [← hsusp]; rfl
  have hmore : (j.step s).done < (j.step s).total := hleft
  unfold cmcBlockDone
  rw [blockEnds_background hturn hjob hsusp hleft, hregs]
  simp [hurgent, hturn, hcnt, hmore, suspend, jobSet, secMod, hstep, b2n]

end

theorem regN_blockDone (p : Fin 8) {j : CmcJob} (h : j.done < 2 ^ 31) (s : State) : (blockDone p j s).regN (page p + 0x64) = j.done + 1 :=
  regN_setRegN_self (by omega) ..

theorem regN_blockDone_shown (p : Fin 8) {j : CmcJob} (h : j.done < 2 ^ 31) (s : State) :
    ((blockDone p j s).setRegF (page p + 4) 9 9 0).regN (page p + 0x64) = j.done + 1 :=
  (regN_setRegN_ne (blockDone p j s) _ (show page p + 0x64 ≠ page p + 4 by omega)).trans (regN_blockDone p h s)

theorem blockDone_frame (p : Fin 8) (j : CmcJob) (s : State) : ∃ r, (blockDone p j s).setRegF (page p + 4) 9 9 0 =
    { s with regs := r, sec := { s.sec with jobs := vset s.sec.jobs p (some (j.step s)), turnCnt := s.sec.turnCnt + 1 } } := ⟨_, rfl⟩

theorem nextPage_idle {x : Sec} (h : x.jobs = .replicate 8 none) (p : Fin 8) : nextPage x p = none := by
  simp [nextPage, h, vget]

theorem running_idle {x : Sec} (h : x.jobs = .replicate 8 none) (p : Fin 8) : x.running p = false := by
  simp [Sec.running, h, vget]

/-- With no background job the engine has nothing else to turn to. -/
theorem cmcBlockDone_jobless {s : State} (h : (blockEnds s).sec.jobs = .replicate 8 none) : cmcBlockDone s = blockEnds s := by
  have hnone : vget (blockEnds s).sec.jobs (blockEnds s).sec.turn = none := by simp [h, vget]
  unfold cmcBlockDone
  dsimp only
  rw [running_idle h, hnone, Bool.and_false, nextPage_idle h]
  simp

theorem blockEnds_urgent {s : State} {u : Urgent} (hjobs : s.sec.jobs = .replicate 8 none) (hurgent : s.sec.urgent = [u]) : blockEnds s =
    { s with sec := { s.sec with urgent := if u.left ≤ 1 then [] else [{ u with left := u.left - 1 }] } } := by
  unfold blockEnds
  rw [if_neg (by rw [running_idle hjobs]; nofun), hurgent]
  rfl

/-! ### The end of a job (R301, R303) -/

theorem onlyRegs_putMac (p : Fin 8) (mac : List Byte) (s : State) : OnlyRegs s (putMac p mac s) :=
  foldS_keeps OnlyRegs.refl OnlyRegs.trans (fun _ _ => onlyRegs_setReg ..) _ _

theorem regN_putMac (p : Fin 8) (mac : List Byte) (s : State) {n : Nat} (h : n < 4) :
    (putMac p mac s).regN (page p + 0x20 + 4 * n) = beNat (mac.take 16) / 2 ^ (32 * n) % 2 ^ 32 := by
  have hword := reg_foldS_setReg (f := fun i => page p + 0x20 + 4 * i) (fun i => BitVec.ofNat 32 (beNat (mac.take 16) / 2 ^ (32 * i) % 2 ^ 32)) (List.range 4)
    s (fun i k hik => by simp only at hik; omega) n
  rw [if_pos (List.mem_range.2 h)] at hword
  refine (congrArg BitVec.toNat hword).trans ?_
  rw [BitVec.toNat_ofNat, Nat.mod_mod]

theorem regN_pstatEnd_ne {p : Fin 8} {a : Nat} (h : a ≠ page p + 4) (st : Status) (s : State) : (pstatEnd p st s).regN a = s.regN a :=
  (regN_congr rfl a).trans (regN_setRegN_ne s _ h)

section
variable {s : State} {p : Fin 8} {j : CmcJob} (hjob : vget s.sec.jobs p = some j)
include hjob

theorem cmcJobDone_running (h : j.done < j.total) : cmcJobDone p s = s := by
  unfold cmcJobDone
  rw [hjob]
  exact if_pos h

section
variable (h : j.total ≤ j.done)
include h

theorem cmcJobDone_mac (hcmd : j.cmd = 1 ∨ j.cmd = 4) : cmcJobDone p s = pstatEnd p stOk (putMac p (if j.out = [] then j.chain else j.out) s) := by
  unfold cmcJobDone
  rw [hjob]
  rcases hcmd with hc | hc <;> simp [hc, Nat.not_lt.2 h]

theorem cmcJobDone_verify (hcmd : j.cmd = 2) : cmcJobDone p s =
    pstatEnd p (if beNat (j.chain.take 8) = s.regN (page p + 0x30) + s.regN (page p + 0x34) * 2 ^ 32 then stOk else stAuthFail)
      (putMac p (List.replicate 16 0) s) := by
  unfold cmcJobDone
  rw [hjob]
  simp [hcmd, Nat.not_lt.2 h]

theorem cmcJobDone_wrap (hcmd : j.cmd = 3) (hok : messageOk j.addr j.out.length s = true) :
    cmcJobDone p s = pstatEnd p stOk (s.dmaWrite j.addr j.out) := by
  unfold cmcJobDone
  rw [hjob]
  simp [hcmd, hok, Nat.not_lt.2 h]

end

end

/-- A job that leaves a MAC: its status, its words, and nothing else. -/
theorem macDone (p : Fin 8) (st : Status) (mac : List Byte) (s : State) :
    (JobEnded s (pstatEnd p st (putMac p mac s)) p st ∧ JobsOnly s (pstatEnd p st (putMac p mac s))) ∧
      ∀ n, n < 4 → (pstatEnd p st (putMac p mac s)).regN (page p + 0x20 + 4 * n) = beNat (mac.take 16) / 2 ^ (32 * n) % 2 ^ 32 := by
  have hmac : ∀ n, n < 4 → _ := fun n hn => (regN_pstatEnd_ne (p := p) (by omega) st _).trans (regN_putMac p mac s hn)
  have hended := jobEnded_pstatEnd p st (putMac p mac s)
  obtain ⟨r, hput⟩ := (onlyRegs_putMac p mac s).exists_eq
  rw [hput] at hmac hended ⊢
  exact ⟨⟨⟨hended.jobs, hended.stat⟩, rfl⟩, hmac⟩

theorem sec_dmaWrite (a : Nat) (bs : List Byte) (s : State) : (s.dmaWrite a bs).sec = s.sec := by
  obtain ⟨m, z, hwritten⟩ := (memoryOnly_dmaWrite a bs s).exists_eq
  rw [hwritten]

theorem rdBytes_pstatEnd (p : Fin 8) (st : Status) (s : State) (a n : Nat) : (pstatEnd p st s).rdBytes a n = s.rdBytes a n := rfl

end Sys2Proof.Machine
end

section
/-! SUPPORT. The hash unit and the point unit of the public-key engine, attestation and the security tests (R306, R307, R317, R320, R322). -/

namespace Sys2Proof.Machine

/-! ### Commands of the public-key engine (R307) -/

theorem violated_pkeViol (m : Master) (s : State) : Violated s (pkeViol m s) 0x40090200 (256 * masterId m) :=
  violated_violation (by have := masterId_lt m; omega) s

section
variable {s : State} (hon : s.isOn dSEC = true) {m : Master}
include hon

theorem pkeCommand_foreign (hm : pkeUser m = false) (cmd : Nat) : pkeCommand m false cmd s = pkeViol m s := by
  simp [pkeCommand, hon, hm]

theorem pkeCommand_sign_foreign (hm : masterId m ≠ 4) : pkeCommand m true 1 s = pkeViol m s := by
  simp [pkeCommand, hon, hm]

theorem pkeCommand_hash (hm : pkeUser m = true) {cmd : Nat} (hlo : 1 ≤ cmd) (hhi : cmd ≤ 3) : pkeCommand m false cmd s = hashJob cmd s := by
  simp [pkeCommand, hon, hm, hlo, hhi]

theorem pkeCommand_verify (hm : pkeUser m = true) : pkeCommand m false 4 s = pointJob .verify s := by
  simp [pkeCommand, hon, hm]

theorem pkeCommand_sign (hm : masterId m = 4) : pkeCommand m true 1 s = pointJob .sign s := by
  simp [pkeCommand, hon, hm]

end

/-- A job of the hash unit runs over `msg`. -/
def hashBegun (msg : List Byte) (fin : Bool) (s : State) : State :=
  pkeStat (pke + 4) 0x100 (secMod (fun x => { x with hashMsg := msg, hashRun := some fin }) s)

theorem hashBegun_stat (msg : List Byte) (fin : Bool) (s : State) : (hashBegun msg fin s).regN 0x40090004 = 0x100 := regN_setRegN_self (by decide) ..

theorem hashJob_free {s : State} (h : s.sec.hashRun = none) (cmd : Nat) : hashJob cmd s = hashBegun
    (if cmd = 1 then s.rdBytes (s.regN 0x40090008) (s.regN 0x4009000C)
      else if cmd = 2 then s.sec.hashMsg ++ s.rdBytes (s.regN 0x40090008) (s.regN 0x4009000C) else s.sec.hashMsg) (cmd == 3) s := by
  unfold hashJob
  rw [h]
  rfl

/-- A job of the point unit has joined its queue, and the register `a` shows it. -/
def pointJoined (j : PointJob) (a : Nat) (s : State) : State :=
  pkeStat a (if s.sec.points = [] then 0x100 else 0x500) (secMod (fun x => { x with points := x.points ++ [j] }) s)

theorem pointJoined_stat (j : PointJob) (a : Nat) (s : State) : (pointJoined j a s).regN a = if s.sec.points = [] then 0x100 else 0x500 :=
  regN_setRegN_self (by split <;> decide) ..

theorem queuedStat (s : State) : 0x100 + 0x400 * b2n (!s.sec.points.isEmpty) = if s.sec.points = [] then 0x100 else 0x500 := by
  cases s.sec.points <;> rfl

theorem pointJob_verify (s : State) : pointJob .verify s = pointJoined .verify 0x40090004 s :=
  congrArg (fun n => pkeStat (pke + 4) n (secMod (fun x => { x with points := x.points ++ [.verify] }) s)) (queuedStat s)

theorem pointJob_sign (s : State) : pointJob .sign s = pointJoined .sign 0x40090804 s :=
  congrArg (fun n => pkeStat (pke + 0x804) n (secMod (fun x => { x with points := x.points ++ [.sign] }) s)) (queuedStat s)

/-! ### Jobs that complete (R306, R307) -/

theorem onlyRegs_putRegBytes (a : Nat) (bs : List Byte) (s : State) : OnlyRegs s (putRegBytes a bs s) :=
  foldS_keeps OnlyRegs.refl OnlyRegs.trans (fun _ _ => onlyRegs_setReg ..) _ _

theorem reg_putRegBytes (a : Nat) (bs : List Byte) (s : State) {n : Nat} (h : n < bs.length / 4) :
    (putRegBytes a bs s).reg (a + 4 * n) = wordOf (bs.drop (4 * n)) := by
  have hword := reg_foldS_setReg (f := fun i => a + 4 * i) (fun i => wordOf (bs.drop (4 * i))) (List.range (bs.length / 4)) s
    (fun i k hik => by simp only at hik; omega) n
  rwa [if_pos (List.mem_range.2 h)] at hword

/-- The unit has ended a job of the public-key engine: `f` has gone from its state, and the register `a` shows DONE with a status. -/
def pkeEnded (f : Sec → Sec) (a st : Nat) (s : State) : State := pkeStat a (0x200 + st) (secMod f s)

theorem pkeEnded_stat (f : Sec → Sec) (a : Nat) {st : Nat} (h : st < 0x100) (s : State) : (pkeEnded f a st s).regN a = 0x200 + st :=
  regN_setRegN_self (by omega) ..

theorem pkeEnded_reg_ne (f : Sec → Sec) {a b : Nat} (h : b ≠ a) (st : Nat) (s : State) : (pkeEnded f a st s).reg b = s.reg b :=
  reg_setReg_ne (secMod f s) _ h

theorem pkeEnded_frame (f : Sec → Sec) (a st : Nat) (s : State) : ∃ r, pkeEnded f a st s = { s with regs := r, sec := f s.sec } := ⟨_, rfl⟩

/-- What the hash unit's end takes from its state. -/
def hashFreed (x : Sec) : Sec := { x with hashRun := none }

theorem hashDone_of {s : State} {fin : Bool} (h : s.sec.hashRun = some fin) :
    hashDone s = pkeEnded hashFreed 0x40090004 0 (if fin then putRegBytes 0x40090010 (sha384 s.sec.hashMsg) s else s) := by
  unfold hashDone
  rw [h]
  rfl

/-- The end of a hash job: the unit is free, a final one's digest stands, and nothing else has changed. -/
theorem hashDone_spec {s : State} {fin : Bool} (h : s.sec.hashRun = some fin) :
    (hashDone s).sec = { s.sec with hashRun := none } ∧ (hashDone s).regN 0x40090004 = 0x200 ∧
      (fin = true → ∀ n, n < (sha384 s.sec.hashMsg).length / 4 → (hashDone s).reg (0x40090010 + 4 * n) = wordOf ((sha384 s.sec.hashMsg).drop (4 * n))) ∧
      { hashDone s with sec := s.sec, regs := s.regs } = s := by
  rw [hashDone_of h]
  cases fin with
  | false => exact ⟨rfl, pkeEnded_stat _ _ (by decide) _, nofun, rfl⟩
  | true =>
    have hstat := pkeEnded_stat hashFreed 0x40090004 (st := 0) (by decide) (putRegBytes 0x40090010 (sha384 s.sec.hashMsg) s)
    have hdigest : ∀ n, n < (sha384 s.sec.hashMsg).length / 4 → _ := fun n hn =>
      (pkeEnded_reg_ne hashFreed (a := 0x40090004) (by omega) 0 _).trans (reg_putRegBytes 0x40090010 (sha384 s.sec.hashMsg) s hn)
    rw [if_pos rfl]
    obtain ⟨r, hput⟩ := (onlyRegs_putRegBytes 0x40090010 (sha384 s.sec.hashMsg) s).exists_eq
    rw [hput] at hstat hdigest ⊢
    exact ⟨rfl, hstat, fun _ => hdigest, rfl⟩

/-- A signature stands in its registers, and the signing job has ended. -/
def pointSigned (sig : List Byte) (s : State) : State := pkeStat 0x40090804 0x200 (putRegBytes 0x40090840 sig s)

theorem onlyRegs_pointSigned (sig : List Byte) (s : State) : OnlyRegs s (pointSigned sig s) := (onlyRegs_putRegBytes ..).setRegN _ _

theorem pointSigned_stat (sig : List Byte) (s : State) : (pointSigned sig s).regN 0x40090804 = 0x200 := regN_setRegN_self (by decide) ..

theorem pointSigned_word (sig : List Byte) (s : State) {n : Nat} (h : n < sig.length / 4) :
    (pointSigned sig s).reg (0x40090840 + 4 * n) = wordOf (sig.drop (4 * n)) :=
  (reg_setReg_ne _ _ (by omega)).trans (reg_putRegBytes _ sig s h)

section
variable {s : State} {rest : List PointJob}

/-- What the point unit's end leaves of its queue. -/
def pointsLeft (rest : List PointJob) (x : Sec) : Sec := { x with points := rest }

theorem verifyStatus_lt (good : Bool) : (if good then 0 else 0x0A) < 0x100 := by
  cases good <;> decide

theorem pointDone_verify (h : s.sec.points = .verify :: rest) : pointDone s = pkeEnded (pointsLeft rest) 0x40090004
    (if ecdsaVerify (s.regBytes 0x40090010 48) (s.regBytes 0x40090040 96) (s.regBytes 0x400900A0 96) then 0 else 0x0A) s := by
  have hst : ∀ b : Bool, (if b then stOk else stSigBad).toNat = if b then 0 else 0x0A := by decide
  unfold pointDone
  rw [h]
  dsimp only
  rw [hst]
  rfl

theorem pointDone_sign (h : s.sec.points = .sign :: rest) :
    pointDone s = pointSigned (ecdsaSign (s.regBytes 0x40090810 48) s.identityKey) (secMod (pointsLeft rest) s) := by
  unfold pointDone
  rw [h]
  rfl

end

/-! ### Attestation (R317) -/

theorem requestEntry_att : RequestEntry 0x1001 2 where
  takes n := ⟨_, by decide, by decide, by decide, rfl, rfl, valueCheck_number rfl rfl n, rfl, fun _ => rfl⟩
  first := rfl
  stored := rfl
  effect _ _ := rfl
  reset _ _ := rfl
  after _ _ _ := rfl

theorem attRequest_busy {s : State} {nonce : List Byte} (h : s.sec.att = some nonce) : attRequest s = (stBusy, s) := by
  unfold attRequest
  rw [h]
  rfl

/-- A report in production: the nonce copied, the point unit asked to sign, both results pending. -/
def attBegun (s : State) : State :=
  secMod (fun x => { x with att := some (s.dGet 0x1001 1), points := x.points ++ [.attest] }) ((s.resPend 0x1001 3).resPend 0x1001 4)

theorem attRequest_free {s : State} (h : s.sec.att = none) (hcore : s.core4 = true) : attRequest s = (stOk, attBegun s) := by
  unfold attRequest
  rw [h, hcore]
  rfl

theorem attBegun_pending (s : State) : ((attBegun s).resOf 0x1001 3).pending = true ∧ ((attBegun s).resOf 0x1001 4).pending = true := by
  have hreport : ((s.resPend 0x1001 3).resPend 0x1001 4).resOf 0x1001 3 = { s.resOf 0x1001 3 with pending := true } :=
    (resOf_resPend_ne _ (by decide)).trans (resOf_resPend_self ..)
  have hstatus : ((s.resPend 0x1001 3).resPend 0x1001 4).resOf 0x1001 4 = { (s.resPend 0x1001 3).resOf 0x1001 4 with pending := true } :=
    resOf_resPend_self ..
  exact ⟨congrArg ResultRec.pending hreport, congrArg ResultRec.pending hstatus⟩

/-- A report delivered: the bytes and their status, with nothing in production. -/
def attDelivered (report : List Byte) (s : State) : State :=
  ((secMod (fun x => { x with att := none, points := x.points.filter (fun j => j != .attest) }) s).produce 0x1001 3 report).produceSt 0x1001 4 stOk

theorem attReportDone_of {s : State} {nonce : List Byte} (h : s.sec.att = some nonce) :
    attReportDone s = attDelivered (attBody nonce s ++ ecdsaSign (sha384 (attBody nonce s)) s.identityKey) s := by
  unfold attReportDone
  rw [h]
  rfl

/-! ### Security tests (R322) -/

theorem requestEntry_secTest : RequestEntry 0x3000 0x34 where
  takes n := ⟨_, by decide, by decide, by decide, rfl, rfl, valueCheck_number rfl rfl n, rfl, fun _ => rfl⟩
  first := rfl
  stored := rfl
  effect _ _ := rfl
  reset _ _ := rfl
  after _ _ _ := rfl

/-- The test that the settings describe. -/
def State.testSet (s : State) : SecTest :=
  { cmac := s.dU 0x3000 0x30 == 1, key := s.dGet 0x3000 0x31, param := s.dU 0x3000 0x32, msg := s.dGet 0x3000 0x33 }

/-- A test has begun with the settings as they stand. -/
def testBegun (s : State) : State := (secMod (fun x => { x with test := some s.testSet }) (s.resPend 0x3000 0x35)).resPend 0x3000 0x36

theorem secTestSet_busy {s : State} {x : SecTest} (h : s.sec.test = some x) : secTestSet s = (stBusy, s) := by
  unfold secTestSet
  rw [h]
  rfl

theorem secTestSet_free {s : State} (h : s.sec.test = none) (hkey : s.dGet 0x3000 0x31 ≠ []) : secTestSet s = (stOk, testBegun s) := by
  unfold secTestSet
  rw [h, if_neg nofun, if_neg hkey]
  rfl

/-- A test completed with its output. -/
def testDelivered (out : List Byte) (s : State) : State :=
  ((secMod (fun x => { x with test := none }) s).produce 0x3000 0x35 out).produceSt 0x3000 0x36 stOk

theorem secTestDone_of {s : State} {x : SecTest} (h : s.sec.test = some x) : secTestDone s = testDelivered x.output s := by
  unfold secTestDone
  rw [h]
  rfl

theorem SecTest.output_eq (x : SecTest) : x.output = if x.cmac then Machine.cmac x.key x.msg
    else kdf x.key (bit x.param 42) (x.param % 2 ^ 18) (x.param / 2 ^ 18 % 2 ^ 16) (x.param / 2 ^ 34 % 2 ^ 8) := by
  simp [SecTest.output, field]

end Sys2Proof.Machine
end

section
/-! SUPPORT. The commands of a page's owner as the obligation lists them. -/

namespace Sys2Proof.Machine

theorem exec_pageBusy {s : State} (hon : s.isOn dSEC = true) {m : Master} {p : Fin 8} (hown : ownsPage m p = true) {j : CmcJob}
    (hjob : vget s.sec.jobs p = some j) {i : Instr} (hi : i ∈ (pageCommands m p).tail) :
    ∃ t, exec i s = .next t ∧ t.regF (page p + 4) 7 0 = 1 ∧ { t with regs := s.regs } = s := by
  obtain ⟨cmd, hcmd, hexec⟩ := exec_pageCommand_tail hi s
  rw [cmcWrite_own hon hown, cmcCommand_busy hjob hcmd] at hexec
  exact ⟨_, hexec, regF_setRegF_self (by decide) (by decide) s (page p + 4) stBusy.toNat, rfl⟩

/-- A command refused with a status leaves the page without a job. -/
theorem cmcRefused (p : Fin 8) (st : Status) (s : State) : ∃ t, Host.Outcome.next (pstatEnd p st s) = (.next t : Out) ∧
    (t.sec.jobs = vset s.sec.jobs p none ∧ t.regN (page p + 4) = 0x400 + st.toNat) ∧ JobsOnly s t :=
  ⟨_, rfl, ⟨(jobEnded_pstatEnd p st s).jobs, (jobEnded_pstatEnd p st s).stat⟩, jobsOnly_pstatEnd p st s⟩

theorem cmcBegins (p : Fin 8) (j : CmcJob) (s : State) : ∃ t, Host.Outcome.next (jobStart p j s) = (.next t : Out) ∧
    t.sec.jobs = vset s.sec.jobs p (some j) ∧ t.regN (page p + 4) = 0x100 ∧ t.regN (page p + 0x64) = 0 ∧ JobsOnly s t := by
  obtain ⟨hjobs, hstat, hblocks, hframe⟩ := jobBegun_jobStart p j s
  exact ⟨_, rfl, hjobs, hstat, hblocks, hframe⟩

end Sys2Proof.Machine

namespace Sys2Proof.Proofs
open Sys2Proof.Machine

/-- Settles O44: each command of a page and of the public-key engine equals a state that a definition of its own writes out. -/
theorem cryptoEngines : Obligations.CryptoEngines := by
  intro s src tid v m p j k st u rest fin nonce test b addr len blocks frame begins ends refused macIs hashing joins cmds
  have hrefused : ∀ {i : Instr} {x : Status}, exec i s = .next (pstatEnd p x s) → refused i x := fun {i x} h => by
    obtain ⟨t, ht, hended⟩ := cmcRefused p x s
    exact ⟨t, h.trans ht, hended⟩
  have hbegins : ∀ {i : Instr} {q : CmcJob}, exec i s = .next (jobStart p q s) → begins i q := fun {i q} h => by
    obtain ⟨t, ht, hbegun⟩ := cmcBegins p q s
    exact ⟨t, h.trans ht, hbegun⟩
  refine ⟨fun hon hown i hi => ?_, fun hoff i hi => ?_, fun hon hown => ⟨fun hidle => ?_, fun hjob => ⟨?_, fun i hi => exec_pageBusy hon hown hjob hi⟩,
      fun hidle => ?_⟩, fun hturn hjob hsusp hleft hurgent hcnt => ?_, fun hjobs hurgent => ?_, fun hjob => ⟨fun hleft => ?_, fun hdone => ?_⟩,
    fun hon huser i hi => ?_, fun hon hm => ?_, fun hon huser => ?_, fun hrun => ?_, fun hpoints => ?_, fun hpoints => ?_, fun hasks hnew => ?_,
    fun hatt => ?_, fun hasks hnew => ?_, fun htest => ?_⟩
  · obtain ⟨cmd, hexec⟩ := exec_pageCommand hi s
    exact ⟨_, hexec, violated_cmcWrite hon hown cmd⟩
  · obtain ⟨cmd, hexec⟩ := exec_pageCommand hi s
    rw [hexec, cmcWrite_off hoff]
  · exact congrArg Host.Outcome.next ((cmcWrite_own hon hown 0).trans (cmcCommand_abort_idle hidle))
  · exact hrefused (congrArg Host.Outcome.next ((cmcWrite_own hon hown 0).trans (cmcCommand_abort hjob)))
  · have hgen : ∀ {t}, cmcCommand p 1 s = t → exec (.cmcGen m p) s = .next t := fun h =>
      congrArg Host.Outcome.next ((cmcWrite_own hon hown 1).trans h)
    have hverify : ∀ {t}, cmcCommand p 2 s = t → exec (.cmcVerify m p) s = .next t := fun h =>
      congrArg Host.Outcome.next ((cmcWrite_own hon hown 2).trans h)
    have hwrap : ∀ {t}, cmcCommand p 3 s = t → exec (.cmcWrap m p) s = .next t := fun h =>
      congrArg Host.Outcome.next ((cmcWrite_own hon hown 3).trans h)
    have htest : ∀ {t}, cmcCommand p 4 s = t → exec (.cmcTest m p) s = .next t := fun h =>
      congrArg Host.Outcome.next ((cmcWrite_own hon hown 4).trans h)
    refine ⟨fun hkey hmsg => ⟨hbegins (hgen (cmcCommand_mac hidle (.inl rfl) hkey hmsg)), hbegins (hverify (cmcCommand_mac hidle (.inr rfl) hkey hmsg))⟩,
      fun hkey hmsg => ⟨hrefused (hgen (cmcCommand_mac_range hidle (.inl rfl) hkey hmsg)), hrefused (hverify (cmcCommand_mac_range hidle (.inr rfl) hkey hmsg))⟩,
      fun hkey => ⟨hrefused (hgen (cmcCommand_mac_key hidle (.inl rfl) hkey)), hrefused (hverify (cmcCommand_mac_key hidle (.inr rfl) hkey))⟩,
      fun hp => hrefused (hwrap (cmcCommand_wrap_denied hidle hp)), fun hlo hhi => ?_,
      fun hderive => hbegins (htest (cmcCommand_test_derive hidle hderive)), fun hderive hmsg => hbegins (htest (cmcCommand_test hidle hderive hmsg))⟩
    have himage := cmcCommand_wrap hidle hlo hhi
    exact ⟨fun hok => hbegins (hwrap (himage.trans (if_neg (not_not.2 hok)))), fun hbad => hrefused (hwrap (himage.trans (if_pos hbad)))⟩
  · have hexec := cmcBlockDone_background hturn hjob hsusp hleft hurgent hcnt
    have hblocks : j.done < 2 ^ 31 → _ := fun hlow => regN_blockDone_shown p hlow s
    obtain ⟨r, hdone⟩ := blockDone_frame p j s
    rw [hdone] at hexec hblocks
    exact ⟨_, congrArg Host.Outcome.next hexec, rfl, rfl, hblocks, rfl⟩
  · have hends := blockEnds_urgent hjobs hurgent
    have hstill : (blockEnds s).sec.jobs = .replicate 8 none := by rw [hends]; exact hjobs
    exact congrArg Host.Outcome.next ((cmcBlockDone_jobless hstill).trans hends)
  · exact congrArg Host.Outcome.next (cmcJobDone_running hjob hleft)
  · refine ⟨fun hcmd => ?_, fun hcmd => ?_, fun hcmd hmsg => ?_⟩
    · obtain ⟨⟨hended, hframe⟩, hmac⟩ := macDone p stOk (if j.out = [] then j.chain else j.out) s
      exact ⟨_, congrArg Host.Outcome.next (cmcJobDone_mac hjob hdone hcmd), ⟨hended.jobs, hended.stat⟩, hmac, hframe⟩
    · obtain ⟨⟨hended, hframe⟩, _⟩ := macDone p
        (if beNat (j.chain.take 8) = s.regN (page p + 0x30) + s.regN (page p + 0x34) * 2 ^ 32 then stOk else stAuthFail) (List.replicate 16 0) s
      exact ⟨_, congrArg Host.Outcome.next (cmcJobDone_verify hjob hdone hcmd), hframe, hended.jobs, hended.stat⟩
    · have hended := jobEnded_pstatEnd p stOk (s.dmaWrite j.addr j.out)
      refine ⟨_, congrArg Host.Outcome.next (cmcJobDone_wrap hjob hdone hcmd hmsg), ⟨?_, hended.stat⟩, ?_, fun a ha => ?_⟩
      · rw [hended.jobs, sec_dmaWrite]
      · rw [rdBytes_pstatEnd, rdBytes_dmaWrite]
      · rw [rdBytes_pstatEnd, rdBytes_dmaWrite_apart (by omega)]
  · simp only [List.mem_cons, List.not_mem_nil, or_false] at hi
    rcases hi with rfl | rfl | rfl | rfl <;>
      exact ⟨_, congrArg Host.Outcome.next (pkeCommand_foreign hon huser _), violated_pkeViol m s⟩
  · exact ⟨_, congrArg Host.Outcome.next (pkeCommand_sign_foreign hon hm), violated_pkeViol m s⟩
  · intro bs
    refine ⟨fun hrun => ⟨?_, ?_, ?_⟩, ?_, fun hm => ?_⟩
    · exact ⟨_, congrArg Host.Outcome.next ((pkeCommand_hash hon huser (by decide) (by decide)).trans (hashJob_free hrun 1)), ⟨rfl, hashBegun_stat .., rfl⟩⟩
    · exact ⟨_, congrArg Host.Outcome.next ((pkeCommand_hash hon huser (by decide) (by decide)).trans (hashJob_free hrun 2)), ⟨rfl, hashBegun_stat .., rfl⟩⟩
    · exact ⟨_, congrArg Host.Outcome.next ((pkeCommand_hash hon huser (by decide) (by decide)).trans (hashJob_free hrun 3)), ⟨rfl, hashBegun_stat .., rfl⟩⟩
    · exact ⟨_, congrArg Host.Outcome.next ((pkeCommand_verify hon huser).trans (pointJob_verify s)), rfl, pointJoined_stat .., rfl⟩
    · exact ⟨_, congrArg Host.Outcome.next ((pkeCommand_sign hon hm).trans (pointJob_sign s)), rfl, pointJoined_stat .., rfl⟩
  · exact ⟨hashDone s, rfl, hashDone_spec hrun⟩
  · intro good
    have hexec := pointDone_verify hpoints
    have hstat := pkeEnded_stat (pointsLeft rest) 0x40090004 (verifyStatus_lt good) s
    obtain ⟨r, hended⟩ := pkeEnded_frame (pointsLeft rest) 0x40090004 (if good then 0 else 0x0A) s
    rw [hended] at hexec hstat
    exact ⟨_, congrArg Host.Outcome.next hexec, rfl, hstat, rfl⟩
  · intro sig
    have hstat := pointSigned_stat sig (secMod (pointsLeft rest) s)
    have hwords : ∀ n, n < sig.length / 4 → _ := fun n hn => pointSigned_word sig (secMod (pointsLeft rest) s) hn
    have hexec : pointDone s = pointSigned sig (secMod (pointsLeft rest) s) := pointDone_sign hpoints
    obtain ⟨r, hsigned⟩ := (onlyRegs_pointSigned sig (secMod (pointsLeft rest) s)).exists_eq
    rw [hsigned] at hstat hwords hexec
    exact ⟨_, congrArg Host.Outcome.next hexec, rfl, hstat, hwords, rfl⟩
  · refine ⟨fun hatt => ?_, fun hatt hcore => ?_⟩
    · obtain ⟨l, a, hlink, hpdu, hwrite⟩ := requestEntry_att.refused hasks hnew (by decide) (attRequest_busy hatt) tid
      exact ⟨_, congrArg Host.Outcome.next hwrite, spoke_of_push hlink hpdu rfl, rfl⟩
    · obtain ⟨l, a, hlink, hpdu, hwrite⟩ := requestEntry_att.taken hasks hnew (attRequest_free hatt hcore) tid
      obtain ⟨hreport, hstatus⟩ := attBegun_pending s
      exact ⟨_, congrArg Host.Outcome.next hwrite, rfl, hreport, hstatus, spoke_of_push hlink hpdu rfl, rfl⟩
  · intro body
    refine ⟨_, congrArg Host.Outcome.next (attReportDone_of hatt), ?_, dGet_produce_self .., ?_, rfl, rfl⟩
    · exact (dGet_produce_ne _ _ (by decide)).trans (dGet_produce_self ..)
    · exact congrArg ResultRec.pending ((resOf_produce_ne _ _ (by decide)).trans (resOf_produce_self ..))
  · refine ⟨fun htest => ?_, fun htest hkey => ?_⟩
    · obtain ⟨l, a, hlink, hpdu, hwrite⟩ := requestEntry_secTest.refused hasks hnew (by decide) (secTestSet_busy htest) tid
      exact ⟨_, congrArg Host.Outcome.next hwrite, spoke_of_push hlink hpdu rfl, rfl⟩
    · obtain ⟨l, a, hlink, hpdu, hwrite⟩ := requestEntry_secTest.taken hasks hnew (secTestSet_free htest hkey) tid
      exact ⟨_, congrArg Host.Outcome.next hwrite, congrArg ResultRec.pending (resOf_resPend_self ..), spoke_of_push hlink hpdu rfl, rfl, rfl⟩
  · refine ⟨_, congrArg Host.Outcome.next (secTestDone_of htest), rfl, dGet_produce_self .., ?_, rfl⟩
    exact (dGet_produce_ne _ _ (by decide)).trans ((dGet_produce_self ..).trans test.output_eq)

end Sys2Proof.Proofs
end

section
/-! SUPPORT. Writes of entries whose value lives elsewhere, and the one-time words: bits that core 4 burns, and the entries that ask for them
(R310 to R315, R322). -/

namespace Sys2Proof.Machine

/-! ### An entry whose value lives elsewhere -/

/-- An entry that takes `v` from any host and keeps it elsewhere, with nothing behind the response. -/
structure ElsewhereEntry (i : BitVec 16) (x : Byte) (v : List Byte) : Prop where
  takes : ∃ r, r.request = false ∧ Takes i.toNat x.toNat r v
  first : storedFirst i.toNat x.toNat = false
  stored : notStored i.toNat x.toNat = true
  reset : ∀ s, resetsDevice i.toNat x.toNat v s = false
  after : ∀ src s, afterResponse src i.toNat x.toNat v s = s

/-- What the action says is the answer, and what it leaves is what the write leaves. -/
theorem ElsewhereEntry.answered {i : BitVec 16} {x : Byte} {v : List Byte} (hentry : ElsewhereEntry i x v) {s t : State} {src : Src} (h : Asks s src)
    {e : Ext} {st : Status} (hact : entryAct e i.toNat x.toNat v s = (st, t)) (tid : Byte) :
    ∃ l a, linkNum src = some l ∧ a.pdu = writeResp tid i x st ∧ hostWrite e src tid i x v s = t.push l a := by
  obtain ⟨r, hrequest, htakes⟩ := hentry.takes
  have hwrite : writeEntry src e i.toNat x.toNat v s = (st, t) := by
    rw [htakes.write h, entryStore_act (fun hr => absurd hr (by rw [hrequest]; nofun)) hentry.first hact, hentry.stored]
    split
    · rfl
    · next hok => rw [not_not.1 hok]; rfl
  have hpush := hostWrite_push h htakes.low (hentry.reset s) (hentry.after src) e tid
  rw [hwrite] at hpush
  exact hpush

/-- An action that changes nothing leaves only its answer. -/
theorem ElsewhereEntry.refused {i : BitVec 16} {x : Byte} {v : List Byte} (hentry : ElsewhereEntry i x v) {s : State} {src : Src} (h : Asks s src)
    {e : Ext} {st : Status} (hact : entryAct e i.toNat x.toNat v s = (st, s)) (tid : Byte) : Refused s (hostWrite e src tid i x v s) src tid i x st := by
  obtain ⟨l, a, hlink, hpdu, hwrite⟩ := hentry.answered h hact tid
  rw [hwrite]
  exact ⟨spoke_of_push hlink hpdu rfl, rfl⟩

/-! ### Words burnt (R310, R311) -/

theorem otpWord_congr {s t : State} (h : t.sec.otp = s.sec.otp) (i : Nat) : t.otpWord i = s.otpWord i := by
  unfold State.otpWord
  rw [h]

theorem otpBytes_congr {s t : State} (h : t.sec.otp = s.sec.otp) (o n : Nat) : t.otpBytes o n = s.otpBytes o n := by
  simp only [State.otpBytes, otpWord_congr h]

theorem custProgrammed_congr {s t : State} (h : t.sec.otp = s.sec.otp) (k : Nat) : t.custProgrammed k = s.custProgrammed k := by
  rw [State.custProgrammed, otpWord_congr h]
  rfl

theorem custRevoked_congr {s t : State} (h : t.sec.otp = s.sec.otp) (k : Nat) : t.custRevoked k = s.custRevoked k := by
  rw [State.custRevoked, otpWord_congr h]
  rfl

/-- The bits of `v` burnt into word `i`. -/
def burned (i : Nat) (v : BitVec 32) (s : State) : State := secMod (fun x => { x with otp := alPut x.otp i ((alGet x.otp i).getD 0 ||| v) }) s

theorem otpWord_burned_self (i : Nat) (v : BitVec 32) (s : State) : (burned i v s).otpWord i = s.otpWord i ||| v := by
  simp [State.otpWord, burned, alGet_alPut_self, BitVec.or_assoc]

theorem otpWord_burned_ne {i j : Nat} (h : j ≠ i) (v : BitVec 32) (s : State) : (burned i v s).otpWord j = s.otpWord j := by
  simp [State.otpWord, burned, alGet_alPut_ne _ _ h]

theorem otpBurn_low {s : State} (h : s.otpSupply = false) (i : Nat) (v got : BitVec 32) : otpBurn i v got s = (stNotReady, s) := by
  unfold otpBurn
  rw [h]
  rfl

section
variable {s : State} (hsupply : s.otpSupply = true) (hcore : s.core4 = true)
include hsupply hcore

theorem otpBurn_state (i : Nat) (v got : BitVec 32) : (otpBurn i v got s).2 = burned i (v &&& got) s := by
  unfold otpBurn
  rw [hsupply, hcore]
  rfl

/-- Every bit takes: the readback shows the word burnt. -/
theorem otpBurn_full (i : Nat) (v : BitVec 32) : otpBurn i v 0xFFFFFFFF s = (stOk, burned i v s) := by
  have hall : v &&& 0xFFFFFFFF = v := BitVec.and_allOnes
  have hread : (burned i v s).otpWord i &&& v = v := by
    rw [otpWord_burned_self]
    ext b
    simpa using Or.inr
  have hstate := otpBurn_state hsupply hcore i v 0xFFFFFFFF
  rw [hall] at hstate
  have hstatus : (otpBurn i v 0xFFFFFFFF s).1 = if (otpBurn i v 0xFFFFFFFF s).2.otpWord i &&& v = v then stOk else stBusy := by
    unfold otpBurn
    rw [hsupply, hcore]
    rfl
  rw [hstate, if_pos hread] at hstatus
  exact Prod.ext hstatus hstate

end

/-- Words burnt in turn. -/
def burnedAll (l : List (Nat × BitVec 32)) (s : State) : State := l.foldl (fun s w => burned w.1 w.2 s) s

theorem otpBurnList_full (l : List (Nat × BitVec 32)) {s : State} (hsupply : s.otpSupply = true) (hcore : s.core4 = true) :
    otpBurnList 0xFFFFFFFF l s = (stOk, burnedAll l s) := by
  induction l generalizing s with
  | nil => rfl
  | cons w l ih =>
    obtain ⟨i, v⟩ := w
    rw [otpBurnList, otpBurn_full hsupply hcore]
    exact ih hsupply hcore

theorem otpWord_burnedAll_ne {l : List (Nat × BitVec 32)} {j : Nat} (h : ∀ w ∈ l, j ≠ w.1) (s : State) : (burnedAll l s).otpWord j = s.otpWord j := by
  induction l generalizing s with
  | nil => rfl
  | cons w l ih =>
    exact (ih (fun y hy => h y (List.mem_cons_of_mem _ hy)) _).trans (otpWord_burned_ne (h w List.mem_cons_self) ..)

theorem burnedAll_append (l l' : List (Nat × BitVec 32)) (s : State) : burnedAll (l ++ l') s = burnedAll l' (burnedAll l s) := List.foldl_append

/-- Words at places of their own each take their bits. -/
theorem otpWord_burnedAll_map {f : Nat → Nat} (hf : Function.Injective f) (v : Nat → BitVec 32) {n j : Nat} (h : j < n) (s : State) :
    (burnedAll ((List.range n).map (fun i => (f i, v i))) s).otpWord (f j) = s.otpWord (f j) ||| v j := by
  induction n with
  | zero => omega
  | succ n ih =>
    rw [List.range_succ, List.map_append, burnedAll_append]
    rcases Nat.lt_succ_iff_lt_or_eq.1 h with hlt | rfl
    · exact (otpWord_burned_ne (hf.ne (Nat.ne_of_lt hlt)) ..).trans (ih hlt)
    · refine (otpWord_burned_self ..).trans (congrArg (· ||| v j) (otpWord_burnedAll_ne (fun w hw => ?_) s))
      obtain ⟨i, hi, rfl⟩ := List.mem_map.1 hw
      exact hf.ne (Nat.ne_of_gt (List.mem_range.1 hi))

theorem burnedAll_frame (l : List (Nat × BitVec 32)) (s : State) : ∃ o, burnedAll l s = { s with sec := { s.sec with otp := o } } := by
  induction l generalizing s with
  | nil => exact ⟨s.sec.otp, rfl⟩
  | cons w l ih =>
    obtain ⟨o, ho⟩ := ih (burned w.1 w.2 s)
    exact ⟨o, ho⟩

/-! ### Bytes of words -/

theorem leNat_getD {l : List Byte} {i : Nat} (h : i < l.length) : BitVec.ofNat 8 (leNat l / 2 ^ (8 * i)) = l.getD i 0 := by
  induction l generalizing i with
  | nil => simp at h
  | cons b l ih =>
    have hb := b.isLt
    cases i with
    | zero => apply BitVec.eq_of_toNat_eq; simp [leNat]; omega
    | succ i =>
      have hdiv : leNat (b :: l) / 2 ^ (8 * (i + 1)) = leNat l / 2 ^ (8 * i) := by
        rw [Nat.mul_succ, Nat.add_comm (8 * i) 8, Nat.pow_add, ← Nat.div_div_eq_div_mul]
        congr 1
        simp only [leNat]
        omega
      rw [hdiv, ih (by simpa using h)]
      rfl

/-- The bytes of words that hold the bytes of a list are the list. -/
theorem otpBytes_words {s : State} {o : Nat} {v : List Byte} (ho : o % 4 = 0) (hlen : v.length % 4 = 0)
    (h : ∀ j, 4 * j < v.length → s.otpWord (o / 4 + j) = wordOf (v.drop (4 * j))) : s.otpBytes o v.length = v := by
  refine List.ext_getElem (by simp [State.otpBytes]) (fun n hn hv => ?_)
  have hword := h (n / 4) (by omega)
  have hindex : (o + n) / 4 = o / 4 + n / 4 := by omega
  have hbyte : (o + n) % 4 = n % 4 := by omega
  have htake : n % 4 < ((v.drop (4 * (n / 4))).take 4).length := by simp; omega
  have hlt : leNat ((v.drop (4 * (n / 4))).take 4) < 2 ^ 32 := by
    refine Nat.lt_of_lt_of_le (leNat_lt _) ?_
    exact (Nat.pow_le_pow_right (by decide) (List.length_take_le 4 _)).trans (by decide)
  simp only [State.otpBytes, List.getElem_map, List.getElem_range]
  rw [hindex, hbyte, hword, wordOf, BitVec.toNat_ofNat, Nat.mod_eq_of_lt hlt, leNat_getD htake]
  have hat : 4 * (n / 4) + n % 4 = n := by omega
  rw [List.getD_eq_getElem _ _ htake]
  simp [hat]

end Sys2Proof.Machine
end

section
/-! SUPPORT. Customer key hashes, their revocation, rollback levels and the debug lock (R312 to R315, R322). -/

namespace Sys2Proof.Machine

/-! ### Customer key hashes (R312) -/

/-- The words of a hash, and behind them the slot's programmed bit. -/
def hashWords (k : Nat) (v : List Byte) : List (Nat × BitVec 32) :=
  (List.range 12).map (fun j => (0x20 + 12 * k + j, wordOf (v.drop (4 * j)))) ++ [(0x50, 1#32 <<< (2 * k))]

theorem custHashSet_programmed {s : State} {k : Nat} (h : s.custProgrammed k = true) {v : List Byte} (hv : v ≠ s.custHash k) (got : BitVec 32) :
    custHashSet k v got s = (stRange, s) := by
  unfold custHashSet
  rw [h, if_pos rfl, if_neg hv]

section
variable {s : State} (hsupply : s.otpSupply = true) (hcore : s.core4 = true) {k : Nat}
include hsupply hcore

theorem custHashSet_empty (h : s.custProgrammed k = false) (v : List Byte) :
    custHashSet k v 0xFFFFFFFF s = (stOk, burnedAll (hashWords k v) s) := by
  unfold custHashSet
  rw [h, if_neg nofun]
  exact otpBurnList_full (hashWords k v) hsupply hcore

end

theorem otpWord_hashWords {k : Nat} (hk : k < 4) (v : List Byte) (s : State) {j : Nat} (hj : j < 12) :
    (burnedAll (hashWords k v) s).otpWord (0x20 + 12 * k + j) = s.otpWord (0x20 + 12 * k + j) ||| wordOf (v.drop (4 * j)) := by
  rw [hashWords, burnedAll_append]
  refine (otpWord_burned_ne (by omega) ..).trans (otpWord_burnedAll_map (f := fun j => 0x20 + 12 * k + j) (fun a b hab => ?_) _ hj s)
  simp only at hab
  omega

theorem custHash_hashWords {s : State} {k : Nat} (hk : k < 4) (hempty : ∀ j, j < 12 → s.otpWord (0x20 + 12 * k + j) = 0) {v : List Byte}
    (hv : v.length = 48) : (burnedAll (hashWords k v) s).custHash k = v := by
  have hbytes : (burnedAll (hashWords k v) s).otpBytes (0x80 + 0x30 * k) v.length = v := by
    refine otpBytes_words (by omega) (by omega) (fun j hj => ?_)
    have hindex : (0x80 + 0x30 * k) / 4 + j = 0x20 + 12 * k + j := by omega
    rw [hindex, otpWord_hashWords hk v s (by omega), hempty j (by omega)]
    exact BitVec.zero_or
  rwa [hv] at hbytes

theorem custProgrammed_hashWords {k : Nat} (hk : k < 4) (v : List Byte) (s : State) : (burnedAll (hashWords k v) s).custProgrammed k = true := by
  have hword : ∃ w, (burnedAll (hashWords k v) s).otpWord 0x50 = w ||| 1#32 <<< (2 * k) := by
    rw [hashWords, burnedAll_append]
    exact ⟨_, otpWord_burned_self ..⟩
  obtain ⟨w, hword⟩ := hword
  have hbit : (1#32 <<< (2 * k)).getLsbD (2 * k) = true := by
    simp; omega
  rw [State.custProgrammed, hword, BitVec.getLsbD_or, hbit, Bool.or_true]

/-! ### Revocation (R313) -/

theorem bit_byte (n : Byte) (j : Nat) : bit (leNat [n]) j = n.getLsbD j := by
  rw [leNat_byte]
  rfl

/-- Bits 2j + 1 for the slots j that `f` names. -/
def slotBits (f : Nat → Bool) : Nat := (List.range 4).foldl (fun a j => a + b2n (f j) * 2 ^ (2 * j + 1)) 0

theorem slotBits_eq (f : Nat → Bool) : slotBits f = 0 + b2n (f 0) * 2 + b2n (f 1) * 8 + b2n (f 2) * 32 + b2n (f 3) * 128 := rfl

theorem slotBits_bits (a b c d : Bool) : let w := BitVec.ofNat 32 (0 + b2n a * 2 + b2n b * 8 + b2n c * 32 + b2n d * 128)
    (w.getLsbD 1 = a ∧ w.getLsbD 3 = b ∧ w.getLsbD 5 = c ∧ w.getLsbD 7 = d) ∧
      w.getLsbD 0 = false ∧ w.getLsbD 2 = false ∧ w.getLsbD 4 = false ∧ w.getLsbD 6 = false := by
  revert a b c d
  decide

theorem slotBits_odd (f : Nat → Bool) {j : Nat} (h : j < 4) : (BitVec.ofNat 32 (slotBits f)).getLsbD (2 * j + 1) = f j := by
  obtain ⟨⟨h0, h1, h2, h3⟩, -⟩ := slotBits_bits (f 0) (f 1) (f 2) (f 3)
  rw [slotBits_eq]
  interval_cases j
  exacts [h0, h1, h2, h3]

theorem slotBits_even (f : Nat → Bool) {j : Nat} (h : j < 4) : (BitVec.ofNat 32 (slotBits f)).getLsbD (2 * j) = false := by
  obtain ⟨-, h0, h1, h2, h3⟩ := slotBits_bits (f 0) (f 1) (f 2) (f 3)
  rw [slotBits_eq]
  interval_cases j
  exacts [h0, h1, h2, h3]

/-- The slots that a value revokes and that are not yet revoked. -/
def State.newRevoked (s : State) (v j : Nat) : Bool := bit v j && !s.custRevoked j

theorem anyOf4_iff (f : Nat → Bool) : (List.range 4).any f = true ↔ ∃ j, j < 4 ∧ f j = true := by
  simp [List.any_eq_true]

/-- A value that takes back a revocation. -/
theorem revokeSet_back {s : State} {v j : Nat} (hj : j < 4) (hrevoked : s.custRevoked j = true) (hv : bit v j = false) (got : BitVec 32) :
    revokeSet v got s = (stRange, s) := by
  have hback : (List.range 4).any (fun k => s.custRevoked k && !bit v k) = true := (anyOf4_iff _).2 ⟨j, hj, by simp [hrevoked, hv]⟩
  unfold revokeSet
  dsimp only
  rw [if_pos hback]

section
variable {s : State} {v : Nat} (hkeeps : ∀ j, j < 4 → s.custRevoked j = true → bit v j = true)
  (hstays : ∃ j, j < 4 ∧ s.custProgrammed j = true ∧ s.custRevoked j = false ∧ bit v j = false)
include hkeeps hstays

/-- A value that keeps every revocation and leaves a programmed slot burns the new ones. -/
theorem revokeSet_legal (got : BitVec 32) : revokeSet v got s =
    if (List.range 4).any (s.newRevoked v) = false then (stOk, s) else otpBurn 0x50 (BitVec.ofNat 32 (slotBits (s.newRevoked v))) got s := by
  have hback : (List.range 4).any (fun k => s.custRevoked k && !bit v k) = false := by
    refine Bool.eq_false_iff.2 (fun h => ?_)
    obtain ⟨j, hj, hbad⟩ := (anyOf4_iff _).1 h
    simp only [Bool.and_eq_true, Bool.not_eq_true'] at hbad
    exact absurd (hkeeps j hj hbad.1) (by rw [hbad.2]; nofun)
  have hlast : (List.range 4).any (fun k => s.custProgrammed k && !s.custRevoked k && !s.newRevoked v k) = true := by
    obtain ⟨j, hj, hprog, hrev, hbit⟩ := hstays
    exact (anyOf4_iff _).2 ⟨j, hj, by simp [State.newRevoked, hprog, hrev, hbit]⟩
  unfold revokeSet
  change (if _ = true then _ else if ((List.range 4).any (fun k => s.custProgrammed k && s.newRevoked v k) &&
    !(List.range 4).any (fun k => s.custProgrammed k && !s.custRevoked k && !s.newRevoked v k)) = true then _
    else if (!(List.range 4).any (s.newRevoked v)) = true then _ else _) = _
  rw [hback, hlast, if_neg nofun, Bool.not_true, Bool.and_false, if_neg nofun]
  cases (List.range 4).any (s.newRevoked v) <;> rfl

/-- The write leaves exactly the slots of the value revoked, and every slot's programmed bit. -/
theorem revokeSet_full (hsupply : s.otpSupply = true) (hcore : s.core4 = true) : ∃ t, revokeSet v 0xFFFFFFFF s = (stOk, t) ∧
    (∀ j, j < 4 → t.custRevoked j = bit v j) ∧ (∀ j, j < 4 → t.custProgrammed j = s.custProgrammed j) ∧
    { t with sec := { t.sec with otp := s.sec.otp } } = s := by
  have hset := revokeSet_legal hkeeps hstays 0xFFFFFFFF
  split at hset
  case isTrue hnone =>
    refine ⟨s, hset, fun j hj => ?_, fun _ _ => rfl, rfl⟩
    cases hbit : bit v j with
    | true =>
      have hold : s.custRevoked j = true := by
        by_contra hno
        exact absurd ((anyOf4_iff _).2 ⟨j, hj, show s.newRevoked v j = true by simp [State.newRevoked, hbit, hno]⟩) (by rw [hnone]; nofun)
      exact hold
    | false =>
      by_contra hyes
      exact absurd (hkeeps j hj (by simpa using hyes)) (by rw [hbit]; nofun)
  case isFalse =>
    refine ⟨_, hset.trans (otpBurn_full hsupply hcore ..), fun j hj => ?_, fun j hj => ?_, rfl⟩
    · rw [State.custRevoked, otpWord_burned_self, BitVec.getLsbD_or, slotBits_odd _ hj]
      change (s.custRevoked j || (bit v j && !s.custRevoked j)) = bit v j
      cases hold : s.custRevoked j with
      | true => rw [hkeeps j hj hold]; rfl
      | false => simp
    · rw [State.custProgrammed, otpWord_burned_self, BitVec.getLsbD_or, slotBits_even _ hj, Bool.or_false]
      rfl

end

/-! ### Rollback levels (R314) -/

theorem thermo_le (n v : Nat) : thermo n v ≤ n := by
  induction n generalizing v with
  | zero => exact Nat.le_refl 0
  | succ n ih =>
    unfold thermo
    split
    · exact Nat.succ_le_succ (ih _)
    · exact Nat.zero_le _

theorem thermo_ones {n m : Nat} (h : m ≤ n) : thermo n (2 ^ m - 1) = m := by
  induction n generalizing m with
  | zero => rw [Nat.le_zero.1 h]; rfl
  | succ n ih =>
    cases m with
    | zero => rfl
    | succ m =>
      have hpos : 0 < 2 ^ m := Nat.two_pow_pos m
      have hodd : (2 ^ (m + 1) - 1) % 2 = 1 := by rw [Nat.pow_succ]; omega
      have hhalf : (2 ^ (m + 1) - 1) / 2 = 2 ^ m - 1 := by rw [Nat.pow_succ]; omega
      rw [thermo, if_pos hodd, hhalf, ih (Nat.le_of_succ_le_succ h)]

theorem rollbackMin_le (s : State) (c : Nat) : s.rollbackMin c ≤ 64 := thermo_le 64 _

theorem rollbackSet_lower {s : State} {c level : Nat} (h : level < s.rollbackMin c) (got : BitVec 32) : rollbackSet c level got s = (stVersionLow, s) :=
  if_pos h

/-- The words that hold a level of a class. -/
def levelWords (c level : Nat) : List (Nat × BitVec 32) :=
  [(0x54 + 2 * c, BitVec.ofNat 32 (2 ^ level - 1)), (0x55 + 2 * c, BitVec.ofNat 32 ((2 ^ level - 1) / 2 ^ 32))]

theorem rollbackSet_full {s : State} (hsupply : s.otpSupply = true) (hcore : s.core4 = true) {c level : Nat} (h : s.rollbackMin c < level)
    (hmax : level ≤ 64) : rollbackSet c level 0xFFFFFFFF s = (stOk, burnedAll (levelWords c level) s) := by
  unfold rollbackSet
  rw [if_neg (by omega), if_neg (by omega), Nat.min_eq_right hmax]
  exact otpBurnList_full (levelWords c level) hsupply hcore

theorem wordOf_leBytes (w : BitVec 32) (rest : List Byte) : wordOf (leBytes 4 w.toNat ++ rest) = w := by
  rw [wordOf, List.take_left' (leBytes_length ..), leNat_word, BitVec.ofNat_toNat, BitVec.setWidth_eq]

theorem leNat_append (l r : List Byte) : leNat (l ++ r) = leNat l + 256 ^ l.length * leNat r := by
  induction l with
  | nil => simp [leNat]
  | cons b l ih =>
    simp only [List.cons_append, leNat, ih, List.length_cons, Nat.pow_succ]
    ring

/-- The bytes of two words. -/
def pairBytes (w u : BitVec 32) : List Byte := leBytes 4 w.toNat ++ leBytes 4 u.toNat

theorem pairBytes_length (w u : BitVec 32) : (pairBytes w u).length = 8 := by
  simp [pairBytes, leBytes_length]

theorem wordOf_pairBytes_drop (w u : BitVec 32) : wordOf ((pairBytes w u).drop 4) = u := by
  rw [pairBytes, List.drop_left' (leBytes_length ..), ← List.append_nil (leBytes 4 u.toNat), wordOf_leBytes]

theorem leNat_pairBytes (w u : BitVec 32) : leNat (pairBytes w u) = w.toNat + 2 ^ 32 * u.toNat := by
  rw [pairBytes, leNat_append, leNat_word, leNat_word, leBytes_length]
  norm_num

/-- Eight bytes from a word on are its word and the next one. -/
theorem leNat_otpBytes8 (s : State) {o : Nat} (h : o % 4 = 0) :
    leNat (s.otpBytes o 8) = (s.otpWord (o / 4)).toNat + 2 ^ 32 * (s.otpWord (o / 4 + 1)).toNat := by
  have hlen := pairBytes_length (s.otpWord (o / 4)) (s.otpWord (o / 4 + 1))
  have hbytes := otpBytes_words (s := s) (v := pairBytes (s.otpWord (o / 4)) (s.otpWord (o / 4 + 1))) h (by rw [hlen]) (fun j hj => by
    have hj2 : j < 2 := by omega
    interval_cases j
    exacts [(wordOf_leBytes ..).symm, (wordOf_pairBytes_drop ..).symm])
  rw [hlen] at hbytes
  rw [hbytes, leNat_pairBytes]

theorem ones_or {r n : Nat} (h : r ≤ n) : (2 ^ r - 1) ||| (2 ^ n - 1) = 2 ^ n - 1 := by
  refine Nat.eq_of_testBit_eq (fun i => ?_)
  rw [Nat.testBit_or, Nat.testBit_two_pow_sub_one, Nat.testBit_two_pow_sub_one]
  by_cases hi : i < r <;> simp [hi]
  omega

/-- The thermometer code of a level, in the two words that hold it. -/
theorem split_ones {a b x y n : Nat} (ha : a < 2 ^ 32) (hold : a + 2 ^ 32 * b = x) (hor : x ||| y = n) :
    (a ||| y % 2 ^ 32) + 2 ^ 32 * (b ||| y / 2 ^ 32) = n := by
  have hlow : x % 2 ^ 32 = a := by omega
  have hhigh : x / 2 ^ 32 = b := by omega
  have hl : n % 2 ^ 32 = a ||| y % 2 ^ 32 := by rw [← hor, Nat.or_mod_two_pow, hlow]
  have hh : n / 2 ^ 32 = b ||| y / 2 ^ 32 := by rw [← hor, Nat.or_div_two_pow, hhigh]
  omega

theorem rollbackMin_levelWords {s : State} {c level : Nat} (h : s.rollbackMin c < level) (hmax : level ≤ 64)
    (hold : leNat (s.otpBytes (0x150 + 8 * c) 8) = 2 ^ s.rollbackMin c - 1) : (burnedAll (levelWords c level) s).rollbackMin c = level := by
  have hindex : (0x150 + 8 * c) / 4 = 0x54 + 2 * c := by omega
  have hlow : (burnedAll (levelWords c level) s).otpWord (0x54 + 2 * c) = s.otpWord (0x54 + 2 * c) ||| BitVec.ofNat 32 (2 ^ level - 1) :=
    (otpWord_burned_ne (by omega) ..).trans (otpWord_burned_self ..)
  have hhigh : (burnedAll (levelWords c level) s).otpWord (0x54 + 2 * c + 1) =
      s.otpWord (0x54 + 2 * c + 1) ||| BitVec.ofNat 32 ((2 ^ level - 1) / 2 ^ 32) := by
    have hat : 0x54 + 2 * c + 1 = 0x55 + 2 * c := by omega
    rw [hat]
    exact (otpWord_burned_self ..).trans (congrArg (· ||| _) (otpWord_burned_ne (by omega) ..))
  have hlt : (2 ^ level - 1) / 2 ^ 32 < 2 ^ 32 := by
    have hle : 2 ^ level ≤ 2 ^ 64 := Nat.pow_le_pow_right (by decide) hmax
    omega
  rw [leNat_otpBytes8 s (by omega), hindex] at hold
  rw [State.rollbackMin, leNat_otpBytes8 _ (by omega), hindex, hlow, hhigh, BitVec.toNat_or, BitVec.toNat_or, BitVec.toNat_ofNat, BitVec.toNat_ofNat,
    Nat.mod_eq_of_lt hlt, split_ones (BitVec.isLt _) hold (ones_or (Nat.le_of_lt h)), thermo_ones hmax]

/-! ### The debug lock (R315) -/

theorem debugLockSet_set {s : State} (hsupply : s.otpSupply = true) (hcore : s.core4 = true) : ∃ t, debugLockSet true 0xFFFFFFFF s = (stOk, t) ∧
    t.debugLock = true ∧ { t with sec := { t.sec with otp := s.sec.otp } } = s := by
  cases hlock : s.debugLock with
  | true => exact ⟨s, by simp [debugLockSet, hlock], hlock, rfl⟩
  | false =>
    refine ⟨burned 0x5C 1 s, ?_, ?_, rfl⟩
    · simp only [debugLockSet, hlock, if_true]
      exact otpBurn_full hsupply hcore 0x5C 1
    · rw [State.debugLock, otpWord_burned_self, BitVec.getLsbD_or]
      exact Bool.or_true _

theorem debugLockSet_clear {s : State} (h : s.debugLock = true) (got : BitVec 32) : debugLockSet false got s = (stRange, s) := by
  simp [debugLockSet, h]

theorem debugLockSet_same (s : State) (got : BitVec 32) : debugLockSet s.debugLock got s = (stOk, s) := by
  cases hlock : s.debugLock <;> simp [debugLockSet, hlock]

/-! ### The entries (R322) -/

theorem elsewhere_custHash (k : Fin 4) {v : List Byte} (hv : v.length = 48) : ElsewhereEntry 0x3001 (BitVec.ofNat 8 (k.1 + 1)) v where
  takes := by
    have hrow : ∀ k : Fin 4, ∃ r, dictRow 0x3001 (BitVec.ofNat 8 (k.1 + 1)).toNat = some r ∧ r.request = false ∧ r.host.writes = true ∧
        r.role0 = false ∧ r.ty.segmented = true ∧ r.range = .len 48 48 := by
      intro k
      fin_cases k <;> exact ⟨_, rfl, rfl, rfl, rfl, rfl, rfl⟩
    obtain ⟨r, hfound, hrequest, hhost, hrole, hty, hrange⟩ := hrow k
    have hsub : ∀ k : Fin 4, (BitVec.ofNat 8 (k.1 + 1)).toNat ≠ 0 := by decide
    have hvalue : valueCheck r v = stOk := by
      rw [valueCheck_segmented hty, hrange, hv]
      rfl
    exact ⟨r, hrequest, by decide, hsub k, by decide, hfound, hhost, hvalue, hrole, fun _ => rfl⟩
  first := rfl
  stored := rfl
  reset _ := rfl
  after _ _ := rfl

theorem elsewhere_revoked {n : Byte} (h : n.toNat < 16) : ElsewhereEntry 0x3001 5 [n] where
  takes := by
    have hvalue : valueCheck (dict3001[1]) [n] = stOk := by
      have hlt : leNat [n] < 16 := by rw [leNat_byte]; exact h
      rw [valueCheck_scalar rfl]
      simp [dict3001, Ty.width, encodingOk, scalarOk, Ty.isSigned]
      omega
    exact ⟨_, rfl, by decide, by decide, by decide, rfl, rfl, hvalue, rfl, fun _ => rfl⟩
  first := rfl
  stored := rfl
  reset _ := rfl
  after _ _ := rfl

theorem elsewhere_rollback (k : Fin 4) {n : Byte} (h : n.toNat ≤ 64) : ElsewhereEntry 0x3002 (BitVec.ofNat 8 (k.1 + 1)) [n] where
  takes := by
    have hrow : ∀ k : Fin 4, dictRow 0x3002 (BitVec.ofNat 8 (k.1 + 1)).toNat = some (dict3002[0]) := by decide
    have hvalue : valueCheck (dict3002[0]) [n] = stOk := by
      have hlt : leNat [n] ≤ 64 := by rw [leNat_byte]; exact h
      rw [valueCheck_scalar rfl]
      simp [dict3002, Ty.width, encodingOk, scalarOk, Ty.isSigned]
      omega
    exact ⟨_, rfl, by decide, by revert k; decide, by decide, hrow k, rfl, hvalue, rfl, fun _ => rfl⟩
  first := rfl
  stored := rfl
  reset _ := rfl
  after _ _ := rfl

theorem elsewhere_debugLock (b : Bool) : ElsewhereEntry 0x3003 1 [BitVec.ofNat 8 (b2n b)] where
  takes := ⟨_, rfl, by decide, by decide, by decide, rfl, rfl, by cases b <;> decide, rfl, fun _ => rfl⟩
  first := rfl
  stored := rfl
  reset _ := rfl
  after _ _ := rfl

end Sys2Proof.Machine
end

section
/-! SUPPORT. The key store: slots and their thirds, the key area behind them, epochs armed, in force and erased (R283, R284, R288 to R290). -/

namespace Sys2Proof.Machine

/-! ### The store and its area (R284, R319, R322) -/

/-- The store with its area rewritten. -/
def Sec.withArea (x : Sec) : Sec := { x with area := some { slots := Vector.ofFn (fun i => vget x.slots (Fin.ofNat 16 i.1)), epochs := x.ep } }

/-- The key area holds slots 0 to 14 and the epochs as the store does. -/
def AreaStands (x : Sec) : Prop := ∃ a, x.area = some a ∧ a.epochs = x.ep ∧ ∀ j : Fin 15, vget a.slots j = vget x.slots (Fin.ofNat 16 j.1)

theorem areaStands_withArea (x : Sec) : AreaStands x.withArea := ⟨_, rfl, rfl, fun j => by simp [vget, Sec.withArea]⟩

/-- Beside registers, the store shows in KEY_EPOCH and EPOCHS_HELD alone. -/
theorem syncKeys_eq (s : State) : ∃ r, syncKeys s = (({ s with regs := r } : State).dPut 0x3000 2 (s.sec.ep.cur.getD 0).toNat).dPut 0x3000 3
    (b2n s.sec.ep.cur.isSome + 2 * b2n s.sec.ep.prev.isSome + 4 * b2n s.sec.ep.next.isSome) := by
  unfold syncKeys
  extract_lets e s₁ c s₂ s₃
  have h₁ : OnlyRegs s s₁ := foldS_keeps OnlyRegs.refl OnlyRegs.trans (fun _ _ => onlyRegs_setReg ..) _ _
  obtain ⟨r, h₃⟩ : ∃ r, s₃ = { s with regs := r } := ((h₁.setRegN _ _).setRegN _ _).exists_eq
  exact ⟨r, by rw [h₃]⟩

theorem storeArea_eq (s : State) : ∃ r d, storeArea s = { s with regs := r, dict := d, sec := s.sec.withArea } := by
  obtain ⟨r, h⟩ := syncKeys_eq { s with sec := s.sec.withArea }
  exact ⟨r, _, h⟩

theorem dGet_storeArea {i j : Nat} (h2 : key i j ≠ key 0x3000 2) (h3 : key i j ≠ key 0x3000 3) (s : State) : (storeArea s).dGet i j = s.dGet i j := by
  obtain ⟨r, h⟩ := syncKeys_eq { s with sec := s.sec.withArea }
  have hstore : (storeArea s).dGet i j = _ := congrArg (fun t : State => t.dGet i j) h
  exact hstore.trans ((dGet_dPut_ne _ _ h3).trans (dGet_dPut_ne _ _ h2))

/-! ### Thirds of the groups (R283) -/

theorem keyIdx_val (s : State) (g : Fin 4) (w : Nat) : (keyIdx s g w).1 = 3 * g.1 + (s.sec.ep.rot.1 + w) % 3 := by
  have hg := g.isLt
  exact Nat.mod_eq_of_lt (by omega)

theorem keyIdx_ne {s : State} {g g' : Fin 4} {w w' : Nat} (hw : w < 3) (hw' : w' < 3) (h : g ≠ g' ∨ w ≠ w') : keyIdx s g w ≠ keyIdx s g' w' := by
  intro heq
  have hval := congrArg Fin.val heq
  rw [keyIdx_val, keyIdx_val] at hval
  rcases h with hg | hw
  · exact hg (Fin.ext (by omega))
  · omega

/-- The slots with a third of every group empty. -/
def slotsWithout (s : State) (w : Nat) : Vector KeySlot 16 :=
  vset (vset (vset (vset s.sec.slots (keyIdx s 0 w) {}) (keyIdx s 1 w) {}) (keyIdx s 2 w) {}) (keyIdx s 3 w) {}

theorem eraseThird_eq (s : State) (w : Nat) : eraseThird w s = { s with sec := { s.sec with slots := slotsWithout s w } } := rfl

theorem slotsWithout_same (s : State) (g : Fin 4) (w : Nat) : vget (slotsWithout s w) (keyIdx s g w) = {} := by
  unfold slotsWithout
  fin_cases g <;> simp [vget_vset]

theorem slotsWithout_other (s : State) (g : Fin 4) {w w' : Nat} (hw : w < 3) (hw' : w' < 3) (h : w' ≠ w) :
    vget (slotsWithout s w) (keyIdx s g w') = vget s.sec.slots (keyIdx s g w') := by
  have hne : ∀ g' : Fin 4, keyIdx s g' w ≠ keyIdx s g w' := fun g' => keyIdx_ne hw hw' (.inr h.symm)
  simp [slotsWithout, hne]

/-! ### Epochs in force (R288 to R290) -/

/-- An epoch and its keys one step on: next is current, current previous, the former previous third empty. -/
def rotated (e : BitVec 16) (erase : Option (BitVec 28)) (s : State) : Sec :=
  { s.sec with slots := slotsWithout s 1
               ep := { rot := Fin.ofNat 3 (s.sec.ep.rot.1 + 2), cur := some e, prev := s.sec.ep.cur, next := none, at_ := none, eraseAt := erase } }

/-- The cycle at which a change at `c` lets the epoch before it go. -/
def graceEnd (c : BitVec 28) (s : State) : BitVec 28 := c + BitVec.ofNat 28 (s.dU 0x3000 8)

/-- A previous epoch whose time is over goes. -/
def eraseDue (t : State) : State := match t.sec.ep.eraseAt with
  | some c => if begun t c then erasePrev t else t
  | none => t

theorem eraseDue_none {t : State} (h : t.sec.ep.eraseAt = none) : eraseDue t = t := by
  unfold eraseDue
  rw [h]

theorem eraseDue_later {t : State} {c : BitVec 28} (h : t.sec.ep.eraseAt = some c) (hlater : begun t c = false) : eraseDue t = t := by
  unfold eraseDue
  rw [h]
  exact if_neg (by rw [hlater]; nofun)

section
variable {s : State} {e : BitVec 16} {c : BitVec 28} (hnext : s.sec.ep.next = some e) (hat : s.sec.ep.at_ = some c)
  (hnet : s.hasKey 0 2 = true ∨ s.hasKey 0 0 = false)
include hnext hat hnet

theorem rotate_stored : rotate s = eraseDue (storeArea
    (({ s with sec := rotated e (if s.sec.ep.cur.isSome then some (graceEnd c s) else none) s } : State).dPut 0x3000 0x0A 0)) := by
  have hcarry : (s.hasKey 0 2 || !s.hasKey 0 0) = true := by
    rcases hnet with h | h <;> simp [h]
  unfold rotate
  rw [hnext]
  dsimp only
  rw [if_pos hcarry, hat, eraseThird_eq]
  rfl

theorem rotate_eq (hgrace : s.sec.ep.cur = none ∨ begun s (graceEnd c s) = false) : ∃ r d, rotate s =
    { s with regs := r, dict := d, sec := (rotated e (if s.sec.ep.cur.isSome then some (graceEnd c s) else none) s).withArea } := by
  obtain ⟨r, d, hstore⟩ := storeArea_eq
    (({ s with sec := rotated e (if s.sec.ep.cur.isSome then some (graceEnd c s) else none) s } : State).dPut 0x3000 0x0A 0)
  refine ⟨r, d, ?_⟩
  rw [rotate_stored hnext hat hnet, hstore]
  cases hcur : s.sec.ep.cur with
  | none => exact eraseDue_none rfl
  | some f => exact eraseDue_later rfl (hgrace.resolve_left (by rw [hcur]; nofun))

end

theorem keyRotation_due {s : State} {c : BitVec 28} (hat : s.sec.ep.at_ = some c) (hbegun : begun s c = true) (hawake : s.sec.asleep = false) :
    keyRotation s = rotate s := by
  unfold keyRotation
  rw [hat]
  exact if_pos (by rw [hbegun, hawake]; rfl)

theorem keyRotation_none {s : State} (hat : s.sec.ep.at_ = none) : keyRotation s = s := by
  unfold keyRotation
  rw [hat]

theorem previousEpochErase_due {s : State} {c : BitVec 28} (hat : s.sec.ep.eraseAt = some c) (hbegun : begun s c = true)
    (hawake : s.sec.asleep = false) : previousEpochErase s = erasePrev s := by
  unfold previousEpochErase
  rw [hat]
  exact if_pos (by rw [hbegun, hawake]; rfl)

theorem previousEpochErase_none {s : State} (hat : s.sec.ep.eraseAt = none) : previousEpochErase s = s := by
  unfold previousEpochErase
  rw [hat]

theorem erasePrev_eq (s : State) : ∃ r d, erasePrev s =
    { s with regs := r, dict := d
             sec := Sec.withArea { s.sec with slots := slotsWithout s 1, ep := { s.sec.ep with prev := none, eraseAt := none } } } := by
  unfold erasePrev
  rw [eraseThird_eq]
  exact storeArea_eq (epMod (fun e => { e with prev := none, eraseAt := none }) { s with sec := { s.sec with slots := slotsWithout s 1 } })

/-- Where the groups' thirds stand after a rotation. -/
theorem keyIdx_rotated (s : State) {t : State} {e : BitVec 16} {erase : Option (BitVec 28)} (h : t.sec.ep.rot = (rotated e erase s).ep.rot) (g : Fin 4) :
    keyIdx t g 0 = keyIdx s g 2 ∧ keyIdx t g 1 = keyIdx s g 0 ∧ keyIdx t g 2 = keyIdx s g 1 := by
  have hrot : t.sec.ep.rot.1 = (s.sec.ep.rot.1 + 2) % 3 := congrArg Fin.val h
  have hlt := s.sec.ep.rot.isLt
  refine ⟨?_, ?_, ?_⟩ <;> apply Fin.ext <;> rw [keyIdx_val, keyIdx_val, hrot] <;> omega

theorem thirds_rotated (s : State) {t : State} {e : BitVec 16} {erase : Option (BitVec 28)} (h : t.sec.ep.rot = (rotated e erase s).ep.rot)
    (hslots : t.sec.slots = slotsWithout s 1) (g : Fin 4) :
    thirdSlot t t g 0 = thirdSlot s s g 2 ∧ thirdSlot t t g 1 = thirdSlot s s g 0 ∧ thirdSlot t t g 2 = {} := by
  obtain ⟨h0, h1, h2⟩ := keyIdx_rotated s h g
  simp only [thirdSlot, h0, h1, h2, hslots]
  exact ⟨slotsWithout_other s g (by decide) (by decide) (by decide), slotsWithout_other s g (by decide) (by decide) (by decide), slotsWithout_same s g 1⟩

/-! ### A change armed (R289) -/

/-- The store with a change armed for cycle `c`. -/
def Sec.armed (e : BitVec 16) (c : BitVec 28) (x : Sec) : Sec := { x with ep := { x.ep with next := some e, at_ := some c } }

theorem armChange_inForce {s : State} (hcur : s.sec.ep.cur.isSome = true) (e : BitVec 16) (c : BitVec 28) :
    armChange e c s = storeArea { s with sec := s.sec.armed e c } := by
  obtain ⟨f, hf⟩ := Option.isSome_iff_exists.1 hcur
  unfold armChange
  exact if_neg (by simp [epMod, secMod, hf])

/-- Armed, stored, and KEY_STATUS OK. -/
def changeArmed (e : BitVec 16) (c : BitVec 28) (s : State) : State := (storeArea { s with sec := s.sec.armed e c }).produceSt 0x3000 7 stOk

theorem changeArmed_eq (e : BitVec 16) (c : BitVec 28) (s : State) :
    ∃ r d x, changeArmed e c s = { s with regs := r, dict := d, results := x, sec := (s.sec.armed e c).withArea } := by
  obtain ⟨r, d, h⟩ := storeArea_eq { s with sec := s.sec.armed e c }
  unfold changeArmed
  rw [h]
  exact ⟨_, _, _, rfl⟩

theorem changeArmed_status (e : BitVec 16) (c : BitVec 28) (s : State) : (changeArmed e c s).dGet 0x3000 7 = [0] := dGet_produce_self ..

theorem changeArmed_role (e : BitVec 16) (c : BitVec 28) (s : State) : (changeArmed e c s).role = s.role :=
  congrArg leNat ((dGet_produce_ne _ _ (by decide)).trans (dGet_storeArea (by decide) (by decide) _))

/-! ### KEY_CHANGE_REQUEST (R289) -/

/-- The change that the entries ask for. -/
def State.epochWanted (s : State) : BitVec 16 := BitVec.ofNat 16 (s.dU 0x3000 4)
def State.cycleWanted (s : State) : BitVec 28 := BitVec.ofNat 28 (s.dU 0x3000 5)

section
variable {s : State}

theorem keyChangeRequest_range (hok : epochOk s.epochWanted (s.role != 1 && s.hasKey 0 2) s = false) :
    keyChangeRequest s = (stRange, s.produceSt 0x3000 7 stRange) := by
  have hbad : (!epochOk (BitVec.ofNat 16 (s.dU 0x3000 4)) (s.role != 1 && s.hasKey 0 2) s) = true := congrArg not hok
  unfold keyChangeRequest
  dsimp only
  rw [if_pos hbad]
  rfl

variable (hok : epochOk s.epochWanted (s.role != 1 && s.hasKey 0 2) s = true)
include hok

theorem epochWanted_legal : ¬(!epochOk (BitVec.ofNat 16 (s.dU 0x3000 4)) (s.role != 1 && s.hasKey 0 2) s) = true := by
  have h : epochOk (BitVec.ofNat 16 (s.dU 0x3000 4)) (s.role != 1 && s.hasKey 0 2) s = true := hok
  rw [h]
  nofun

theorem keyChangeRequest_notReady (hready : keysReady s = false) : keyChangeRequest s = (stNotReady, s.produceSt 0x3000 7 stNotReady) := by
  unfold keyChangeRequest
  dsimp only
  rw [if_neg (epochWanted_legal hok), hready]
  rfl

variable (hready : keysReady s = true) (hcur : s.sec.ep.cur.isSome = true)
include hready hcur

theorem keyChangeRequest_late (hbegun : begun s s.cycleWanted = true) : keyChangeRequest s = (stLate, s.produceSt 0x3000 7 stLate) := by
  have hlate : begun s (BitVec.ofNat 28 (s.dU 0x3000 5)) = true := hbegun
  unfold keyChangeRequest
  dsimp only
  rw [if_neg (epochWanted_legal hok), hready, hcur, hlate]
  rfl

theorem keyChangeRequest_armed (hbegun : begun s s.cycleWanted = false) : keyChangeRequest s = (stOk, changeArmed s.epochWanted s.cycleWanted s) := by
  have hahead : begun s (BitVec.ofNat 28 (s.dU 0x3000 5)) = false := hbegun
  have harm := armChange_inForce hcur s.epochWanted s.cycleWanted
  unfold keyChangeRequest
  dsimp only
  rw [if_neg (epochWanted_legal hok), hready, hcur, hahead]
  exact congrArg (fun t : State => (stOk, t.produceSt 0x3000 7 stOk)) harm

end

theorem tellWorkers_other {s : State} (h : s.role ≠ 3) (t : Fin 64) : tellWorkers t s = s := if_pos h

theorem requestEntry_keyChange : RequestEntry 0x3000 6 where
  takes n := ⟨_, by decide, by decide, by decide, rfl, rfl, valueCheck_number rfl rfl n, rfl, fun _ => rfl⟩
  first := rfl
  stored := rfl
  effect _ _ := rfl
  reset _ _ := rfl
  after _ _ _ := rfl

theorem actSecurity_change {s t : State} {st : Status} (h : keyChangeRequest s = (st, t)) (v : List Byte) :
    actSecurity 6 v s = (st, if st = stOk then tellWorkers tKeys t else t) := by
  unfold actSecurity
  rw [h]
  rfl

end Sys2Proof.Machine
end

section
/-! SUPPORT. Keys written, transported, wrapped and erased (R283, R284, R294 to R298, R322). -/

namespace Sys2Proof.Machine

/-! ### KEY_WRITE (R284) -/

theorem keyEntry_sub (sub : Fin 7) : (BitVec.ofNat 8 (0x10 + sub.1)).toNat = 0x10 + sub.1 := by
  revert sub
  decide

theorem elsewhere_key (sub : Fin 7) {v : List Byte} (hv : v.length = 16 ∨ v.length = 32) : ElsewhereEntry 0x3000 (BitVec.ofNat 8 (0x10 + sub.1)) v where
  takes := by
    have hrow : ∀ sub : Fin 7, ∃ r, dictRow 0x3000 (0x10 + sub.1) = some r ∧ r.request = false ∧ r.host.writes = true ∧ r.role0 = false ∧
        r.ty.segmented = true ∧ r.range = .lens 16 32 := by
      intro sub
      fin_cases sub <;> exact ⟨_, rfl, rfl, rfl, rfl, rfl, rfl⟩
    obtain ⟨r, hfound, hrequest, hhost, hrole, hty, hrange⟩ := hrow sub
    have hvalue : valueCheck r v = stOk := by
      rw [valueCheck_segmented hty, hrange]
      rcases hv with h | h <;> rw [h] <;> rfl
    rw [keyEntry_sub]
    exact ⟨r, hrequest, by decide, by omega, by decide, hfound, hhost, hvalue, hrole, fun _ => rfl⟩
  first := rfl
  stored := by
    rw [keyEntry_sub]
    revert sub
    decide
  reset _ := rfl
  after _ _ := rfl

theorem actSecurity_key (sub : Fin 7) (v : List Byte) (s : State) : actSecurity (0x10 + sub.1) v s = keyWrite (0x10 + sub.1) v s := by
  fin_cases sub <;> rfl

theorem entryAct_key (sub : Fin 7) (v : List Byte) (s : State) :
    entryAct {} (0x3000 : BitVec 16).toNat (BitVec.ofNat 8 (0x10 + sub.1)).toNat v s = keyWrite (0x10 + sub.1) v s := by
  rw [keyEntry_sub]
  exact actSecurity_key sub v s

theorem keyWrite_denied {sub : Nat} {s : State} (h : keyEntryRole sub s = false) (v : List Byte) : keyWrite sub v s = (stDenied, s) := by
  unfold keyWrite
  rw [h]
  rfl

section
variable {s : State} {sub : Fin 7} {v : List Byte} (hcore : s.core4 = true)
include hcore

theorem keyWrite_group (hsub : sub.1 < 4) (hrole : keyEntryRole (0x10 + sub.1) s = true) (hlen : v.length = s.keyBytes)
    (hv : v.length = 16 ∨ v.length = 32) : keyWrite (0x10 + sub.1) v s = (stOk, storeArea (loadNext (Fin.ofNat 4 sub.1) v s)) := by
  have hlow : 0x10 + sub.1 ≤ 0x13 := by omega
  have hplain : ¬(v.length ≠ 16 ∧ v.length ≠ 32) := by omega
  have hat : 0x10 + sub.1 - 0x10 = sub.1 := by omega
  unfold keyWrite
  rw [hrole, if_neg nofun, if_neg (fun h => h.2 hlen), if_neg hplain, hcore, if_neg nofun, if_pos hlow, hat]

theorem keyWrite_firmware (hsub : 4 ≤ sub.1) (hv : v.length = 16 ∨ v.length = 32) : keyWrite (0x10 + sub.1) v s =
    (stOk, storeArea (loadSlot (Fin.ofNat 16 (8 + sub.1))
      { key := v, mask := BitVec.ofNat 8 (s.dU 0x3000 0x17 / 2 ^ (8 * (sub.1 - 4))), valid := true, aes256 := v.length == 32 } s)) := by
  have hhigh : ¬0x10 + sub.1 ≤ 0x13 := by omega
  have hzero : ¬0x10 + sub.1 = 0x10 := by omega
  have hrole : keyEntryRole (0x10 + sub.1) s = true := by
    unfold keyEntryRole
    rw [if_neg hzero, if_neg hhigh]
  have hplain : ¬(v.length ≠ 16 ∧ v.length ≠ 32) := by omega
  have hslot : 0x10 + sub.1 - 8 = 8 + sub.1 := by omega
  have hmask : 0x10 + sub.1 - 0x14 = sub.1 - 4 := by omega
  unfold keyWrite
  rw [hrole, if_neg nofun, if_neg (fun h => hhigh h.1), if_neg hplain, hcore, if_neg nofun, if_neg hhigh, hslot, hmask]

end

/-! ### Transports (R294 to R297) -/

theorem elsewhere_keyNext {v : List Byte} (hv : v.length = 103) : ElsewhereEntry 0x1010 1 v where
  takes := ⟨_, rfl, by decide, by decide, by decide, rfl, rfl, (valueCheck_segmented rfl v).trans (by rw [hv]; rfl), rfl, fun _ => rfl⟩
  first := rfl
  stored := rfl
  reset _ := rfl
  after _ _ := rfl

theorem elsewhere_netNext {v : List Byte} (hv : v.length = 39) : ElsewhereEntry 0x1010 2 v where
  takes := ⟨_, rfl, by decide, by decide, by decide, rfl, rfl, (valueCheck_segmented rfl v).trans (by rw [hv]; rfl), rfl, fun _ => rfl⟩
  first := rfl
  stored := rfl
  reset _ := rfl
  after _ _ := rfl

/-- The epoch, the cycle and the key i that a transport brings. -/
def transportEpoch (v : List Byte) : BitVec 16 := BitVec.ofNat 16 (leNat (v.take 2))
def transportAt (v : List Byte) (s : State) : BitVec 28 := transportCycle (BitVec.ofNat 28 (leNat ((v.drop 2).take 4))) s
def unwrapped (own v : List Byte) (i : Nat) (s : State) : List Byte :=
  xorBytes ((v.drop (7 + 32 * i)).take s.keyBytes) (wrapMask own s.ownNode (transportEpoch v) i)

/-- A key as it is loaded into a next slot. -/
def nextSlot (g : Fin 4) (k : List Byte) : KeySlot := { key := k, mask := 0xFF, valid := true, aes256 := k.length == 32, deriveOnly := g == 0 }

theorem loadNext_eq (g : Fin 4) (k : List Byte) (s : State) :
    loadNext g k s = { s with sec := { s.sec with slots := vset s.sec.slots (keyIdx s g 2) (nextSlot g k) } } := rfl

/-- The store before a transport's keys: the next third is kept only for the epoch it is for. -/
def nextCleared (e : BitVec 16) (s : State) : State := if s.sec.ep.next = some e then s else epMod (fun x => { x with at_ := none }) (eraseThird 2 s)

theorem nextCleared_eq (e : BitVec 16) (s : State) :
    ∃ v a, nextCleared e s = { s with sec := { s.sec with slots := v, ep := { s.sec.ep with at_ := a } } } := by
  unfold nextCleared
  split
  · exact ⟨s.sec.slots, s.sec.ep.at_, rfl⟩
  · rw [eraseThird_eq]
    exact ⟨slotsWithout s 2, none, rfl⟩

/-- The slots `v` with the keys of a KEY_NEXT in the next slots of their groups. -/
def keysNext (own w : List Byte) (s : State) (v : Vector KeySlot 16) : Vector KeySlot 16 :=
  vset (vset (vset v (keyIdx s 1 2) (nextSlot 1 (unwrapped own w 0 s))) (keyIdx s 2 2) (nextSlot 2 (unwrapped own w 1 s))) (keyIdx s 3 2)
    (nextSlot 3 (unwrapped own w 2 s))

theorem keysNext_get (own w : List Byte) (s : State) (v : Vector KeySlot 16) :
    vget (keysNext own w s v) (keyIdx s 1 2) = nextSlot 1 (unwrapped own w 0 s) ∧
      vget (keysNext own w s v) (keyIdx s 2 2) = nextSlot 2 (unwrapped own w 1 s) ∧
      vget (keysNext own w s v) (keyIdx s 3 2) = nextSlot 3 (unwrapped own w 2 s) := by
  have hne : ∀ g g' : Fin 4, g ≠ g' → keyIdx s g 2 ≠ keyIdx s g' 2 := fun g g' h => keyIdx_ne (by decide) (by decide) (.inl h)
  have h21 := hne 2 1 (by decide)
  have h31 := hne 3 1 (by decide)
  have h32 := hne 3 2 (by decide)
  simp [keysNext, h21, h31, h32]

theorem keyNextLoads {flags : Nat} (h0 : bit flags 0 = true) (h1 : bit flags 1 = true) (h2 : bit flags 2 = true) (own w : List Byte) (s : State) :
    foldS (keyNextLoad own (transportEpoch w) flags w) (List.range 3) s = { s with sec := { s.sec with slots := keysNext own w s s.sec.slots } } := by
  simp only [show List.range 3 = [0, 1, 2] from rfl, foldS, keyNextLoad, h0, h1, h2, if_true]
  rfl

theorem flags_next {flags : Nat} (h : field flags 6 0 = 7) :
    field flags 6 3 = 0 ∧ bit flags 0 = true ∧ bit flags 1 = true ∧ bit flags 2 = true := by
  have hlow : flags % 128 = 7 := by simpa [field] using h
  have hbit : ∀ i, i < 7 → bit flags i = (flags % 128).testBit i := fun i hi => by
    rw [show (128 : Nat) = 2 ^ 7 from rfl, Nat.testBit_mod_two_pow]
    simp [bit, hi]
  refine ⟨?_, ?_, ?_, ?_⟩
  · simp only [field]
    omega
  · rw [hbit 0 (by decide), hlow]; rfl
  · rw [hbit 1 (by decide), hlow]; rfl
  · rw [hbit 2 (by decide), hlow]; rfl

theorem flags_net {flags : Nat} (h : field flags 6 0 = 1) : field flags 6 1 = 0 ∧ bit flags 0 = true := by
  have hlow : flags % 128 = 1 := by simpa [field] using h
  refine ⟨?_, ?_⟩
  · simp only [field]
    omega
  · simp [bit, Nat.testBit_zero]
    omega

theorem keysReady_keysNext {own w : List Byte} {s t : State} {v : Vector KeySlot 16} (hrole : t.role = 1) (hrot : t.sec.ep.rot = s.sec.ep.rot)
    (hslots : t.sec.slots = keysNext own w s v) : keysReady t = true := by
  obtain ⟨h1, h2, h3⟩ := keysNext_get own w s v
  have hidx : ∀ g, keyIdx t g 2 = keyIdx s g 2 := fun g => by unfold keyIdx; rw [hrot]
  have hkey : t.hasKey 1 2 = true ∧ t.hasKey 2 2 = true ∧ t.hasKey 3 2 = true := by
    simp only [State.hasKey, hidx, hslots, h1, h2, h3]
    exact ⟨rfl, rfl, rfl⟩
  simp [keysReady, hrole, hkey.1, hkey.2.1, hkey.2.2]

theorem keyNextWrite_denied {s : State} (h : s.role ≠ 1) (v : List Byte) : keyNextWrite v s = (stDenied, s) := if_pos h

theorem netNextWrite_denied {s : State} (h : s.role ≠ 2) (v : List Byte) : netNextWrite v s = (stDenied, s) := if_pos h

/-- The state with the keys of a KEY_NEXT loaded, and the transport taken. -/
def keyNextLoaded (own w : List Byte) (s : State) : State :=
  secMod (fun x => { x with keyTaken := w }) (foldS (keyNextLoad own (transportEpoch w) (w.getD 6 0).toNat w) (List.range 3)
    (epMod (fun x => { x with next := some (transportEpoch w) }) (nextCleared (transportEpoch w) s)))

theorem keyNextLoaded_eq {w : List Byte} (hflags : field (w.getD 6 0).toNat 6 0 = 7) (own : List Byte) (s : State) : ∃ v a, keyNextLoaded own w s =
    { s with sec := { s.sec with slots := keysNext own w s v, ep := { s.sec.ep with next := some (transportEpoch w), at_ := a }, keyTaken := w } } := by
  obtain ⟨-, h0, h1, h2⟩ := flags_next hflags
  obtain ⟨v, a, hcleared⟩ := nextCleared_eq (transportEpoch w) s
  refine ⟨v, a, ?_⟩
  rw [keyNextLoaded, keyNextLoads h0 h1 h2, hcleared]
  rfl

section
variable {s : State} {w own : List Byte}

theorem keyNextWrite_legal (hrole : s.role = 1) (hown : s.keyOf 2 1 0 = some own) (hlen : w.length = 103) (hnew : w ≠ s.sec.keyTaken)
    (hflags : field (w.getD 6 0).toNat 6 0 = 7) (hsize : bit (w.getD 6 0).toNat 7 = (s.keyBytes == 32))
    (hepoch : epochOk (transportEpoch w) false s = true) (hready : keysReady (keyNextLoaded own w s) = true) : keyNextWrite w s =
      (stOk, (armChange (transportEpoch w) (transportAt w (keyNextLoaded own w s)) (keyNextLoaded own w s)).produceSt 0x3000 7 stOk) := by
  have hlegal : ¬(w.length ≠ 103 ∨ field (w.getD 6 0).toNat 6 3 ≠ 0 ∨ bit (w.getD 6 0).toNat 7 ≠ (s.keyBytes == 32) ∨
      (!epochOk (BitVec.ofNat 16 (leNat (w.take 2))) false s) = true) := by
    have hok : epochOk (BitVec.ofNat 16 (leNat (w.take 2))) false s = true := hepoch
    rw [hlen, (flags_next hflags).1, hsize, hok]
    simp
  unfold keyNextWrite
  dsimp only
  rw [if_neg (not_not.2 hrole), if_neg hnew, if_neg hlegal, hown]
  exact if_pos hready

/-- KEY_NEXT at a leaf that holds its own key: the three keys loaded, the change armed. -/
theorem keyNextWrite_taken (hrole : s.role = 1) (hown : s.keyOf 2 1 0 = some own) (hlen : w.length = 103) (hnew : w ≠ s.sec.keyTaken)
    (hflags : field (w.getD 6 0).toNat 6 0 = 7) (hsize : bit (w.getD 6 0).toNat 7 = (s.keyBytes == 32))
    (hepoch : epochOk (transportEpoch w) false s = true) (hcur : s.sec.ep.cur.isSome = true) :
    ∃ v a, keyNextWrite w s = (stOk, changeArmed (transportEpoch w) (transportAt w s)
      { s with sec := { s.sec with slots := keysNext own w s v, ep := { s.sec.ep with next := some (transportEpoch w), at_ := a }, keyTaken := w } }) := by
  obtain ⟨v, a, hloaded⟩ := keyNextLoaded_eq hflags own s
  have hwrite := keyNextWrite_legal hrole hown hlen hnew hflags hsize hepoch
  rw [hloaded] at hwrite
  refine ⟨v, a, (hwrite (keysReady_keysNext hrole rfl rfl)).trans ?_⟩
  rw [armChange_inForce (by exact hcur)]
  rfl

/-- The state with the key of a NET_NEXT loaded, and the transport taken. -/
theorem netNextWrite_taken (hrole : s.role = 2) (hown : s.nodeKey 2 s.ownNode 0 = some own) (hlen : w.length = 39) (hnew : w ≠ s.sec.netTaken)
    (hflags : field (w.getD 6 0).toNat 6 0 = 1) (hsize : bit (w.getD 6 0).toNat 7 = (s.keyBytes == 32))
    (hepoch : epochOk (transportEpoch w) true s = true) (hcur : s.sec.ep.cur.isSome = true) : netNextWrite w s =
      (stOk, changeArmed (transportEpoch w) (transportAt w s)
        { s with sec := { s.sec with
            slots := vset (slotsWithout s 2) (keyIdx s 0 2) (nextSlot 0 (xorBytes ((w.drop 7).take s.keyBytes) (wrapMask own s.ownNode (transportEpoch w) 3)))
            netTaken := w } }) := by
  obtain ⟨hhigh, h0⟩ := flags_net hflags
  have hlegal : ¬(w.length ≠ 39 ∨ field (w.getD 6 0).toNat 6 1 ≠ 0 ∨ bit (w.getD 6 0).toNat 7 ≠ (s.keyBytes == 32) ∨
      (!epochOk (BitVec.ofNat 16 (leNat (w.take 2))) (bit (w.getD 6 0).toNat 0) s) = true) := by
    have hok : epochOk (BitVec.ofNat 16 (leNat (w.take 2))) true s = true := hepoch
    rw [hlen, hhigh, hsize, h0, hok]
    simp
  unfold netNextWrite
  dsimp only
  rw [if_neg (not_not.2 hrole), if_neg hnew, if_neg hlegal, hown]
  dsimp only
  rw [if_pos h0, eraseThird_eq, loadNext_eq]
  rw [armChange_inForce (by exact hcur)]
  rfl

end

/-! ### WRAP_REQUEST (R298) -/

theorem requestEntry_wrap : RequestEntry 0x3000 0x21 where
  takes n := ⟨_, by decide, by decide, by decide, rfl, rfl, valueCheck_number rfl rfl n, rfl, fun _ => rfl⟩
  first := rfl
  stored := rfl
  effect _ _ := rfl
  reset _ _ := rfl
  after _ _ _ := rfl

/-- The image and the status that a WRAP_REQUEST leaves. -/
def State.wrapOut (s : State) : Status × List Byte :=
  if s.bigRole then wrapImage 2 (s.dU 0x3000 0x24 == 1) (s.dU 0x3000 0x20) s else (stNotReady, [])

theorem wrapRequest_eq (s : State) : wrapRequest s = (stOk, (s.produce 0x3000 0x22 s.wrapOut.2).produceSt 0x3000 0x23 s.wrapOut.1) := rfl

/-! ### KEY_ERASE, KS_LOAD and KS_ERASE (R283, R319, R322) -/

/-- The store with slots 0 to 14 empty and no epoch in force. -/
def Sec.emptied (x : Sec) : Sec := { x with slots := Vector.ofFn (fun i => if i.1 = 15 then vget x.slots i else {}), ep := {}, area := none
                                            keyTaken := [], netTaken := [], asleep := false }

theorem keyErase_eq (s : State) : ∃ r, keyErase s = ((({ s with regs := r, sec := s.sec.emptied } : State).dPut 0x3000 2 0).dPut 0x3000 3 0) :=
  syncKeys_eq { s with sec := s.sec.emptied }

theorem emptied_slots (x : Sec) (j : Fin 16) : vget x.emptied.slots j = if j = 15 then vget x.slots j else {} := by
  have hval : (j.1 = 15) = (j = 15) := by
    rw [Fin.ext_iff]
    rfl
  simp only [Sec.emptied, vget, Vector.getElem_ofFn, hval]

/-- A new KEY_ERASE number in role 0. -/
theorem writeEntry_keyErase {s : State} {src : Src} (h : Asks s src) (hrole : s.role = 0) {n : Nat} (hnew : leBytes 4 n ≠ s.dGet 0x3000 9) :
    writeEntry src {} 0x3000 9 (leBytes 4 n) s = (stOk, (keyErase s).dSet 0x3000 9 (leBytes 4 n)) := by
  have hfound := findEntry_own (i := 0x3000) (x := 9) (by decide) rfl src s
  refine (writeEntry_passed (by decide) (by decide) hfound ?_ (valueCheck_number rfl rfl n) (fun _ => hrole) rfl).trans ?_
  · rw [asks_classAcc h]
    rfl
  · exact entryStore_act (st := stOk) (fun _ => hnew) rfl rfl

theorem ownsPage_four {m : Master} : ownsPage m 4 = true ↔ masterId m = 4 := by
  rw [ownsPage, beq_iff_eq, show pageOwner 4 = some 4 from rfl, Option.some_inj, eq_comm]

theorem forCore4_own {s : State} (hon : s.isOn dSEC = true) {m : Master} (hm : masterId m = 4) (f : State → State) : forCore4 m f s = f s := by
  unfold forCore4
  rw [hon, ownsPage_four.2 hm]
  rfl

theorem forCore4_foreign {s : State} (hon : s.isOn dSEC = true) {m : Master} (hm : masterId m ≠ 4) (f : State → State) : forCore4 m f s = cmcViol m 4 s := by
  have hown : ownsPage m 4 = false := Bool.eq_false_iff.2 (fun h => hm (ownsPage_four.1 h))
  unfold forCore4
  rw [hon, hown]
  rfl

/-- The staged key as KS_LOAD loads it with KEY_SIZE 256. -/
def stagedKey (x : BitVec 32) (s : State) : KeySlot where
  key := (s.sec.stage.toList.flatMap (fun w => leBytes 4 w.toNat)).take 32
  mask := BitVec.ofNat 8 (x.toNat / 256)
  valid := true
  aes256 := true
  deriveOnly := x.getLsbD 5

theorem ksLoad_big {x : BitVec 32} (hslot : x.toNat % 16 ≠ 15) (hbig : x.getLsbD 4 = true) (s : State) :
    ksLoad x s = storeArea (loadSlot (Fin.ofNat 16 (x.toNat % 16)) (stagedKey x s) s) := by
  have hfield : field x.toNat 3 0 = x.toNat % 16 := by simp [field]
  have hmask : BitVec.ofNat 8 (field x.toNat 15 8) = BitVec.ofNat 8 (x.toNat / 256) := by
    apply BitVec.eq_of_toNat_eq
    simp [field]
  have hbit : bit x.toNat 4 = true := hbig
  unfold ksLoad
  dsimp only
  rw [hfield, if_neg hslot, hmask, hbit]
  rfl

/-- The slots that `x` names emptied, of those that `l` lists. -/
theorem slotsErased (x : BitVec 32) (l : List Nat) (s : State) :
    ∃ v, foldS (fun i s => if x.getLsbD i then loadSlot (Fin.ofNat 16 i) {} s else s) l s = { s with sec := { s.sec with slots := v } } ∧
      ∀ j : Fin 16, vget v j = if ∃ i ∈ l, Fin.ofNat 16 i = j ∧ x.getLsbD i = true then {} else vget s.sec.slots j := by
  induction l generalizing s with
  | nil => exact ⟨s.sec.slots, rfl, fun j => by simp⟩
  | cons i l ih =>
    cases hx : x.getLsbD i with
    | false =>
      obtain ⟨v, hfold, hv⟩ := ih s
      refine ⟨v, ?_, fun j => ?_⟩
      · rw [foldS, hx]
        exact hfold
      · rw [hv]
        simp [hx]
    | true =>
      obtain ⟨v, hfold, hv⟩ := ih (loadSlot (Fin.ofNat 16 i) {} s)
      refine ⟨v, ?_, fun j => ?_⟩
      · rw [foldS, hx]
        exact hfold
      · rw [hv]
        by_cases hrest : ∃ i ∈ l, Fin.ofNat 16 i = j ∧ x.getLsbD i = true
        · have hcons : ∃ k ∈ i :: l, Fin.ofNat 16 k = j ∧ x.getLsbD k = true := by
            obtain ⟨k, hk, h⟩ := hrest
            exact ⟨k, List.mem_cons_of_mem i hk, h⟩
          rw [if_pos hrest, if_pos hcons]
        · have hcons : (∃ k ∈ i :: l, Fin.ofNat 16 k = j ∧ x.getLsbD k = true) ↔ Fin.ofNat 16 i = j := by
            refine ⟨fun ⟨k, hk, h⟩ => ?_, fun h => ⟨i, List.mem_cons_self, h, hx⟩⟩
            rcases List.mem_cons.1 hk with rfl | hk
            · exact h.1
            · exact absurd ⟨k, hk, h⟩ hrest
          rw [if_neg hrest]
          simp only [hcons]
          exact vget_vset ..

theorem ksErase_eq (x : BitVec 32) (s : State) : ∃ r d v, ksErase x s = { s with regs := r, dict := d, sec := Sec.withArea { s.sec with slots := v } } ∧
    ∀ j : Fin 16, vget v j = if j ≠ 15 ∧ x.getLsbD j.1 then {} else vget s.sec.slots j := by
  obtain ⟨v, hfold, hv⟩ := slotsErased x (List.range 15) s
  obtain ⟨r, d, hstore⟩ := storeArea_eq { s with sec := { s.sec with slots := v } }
  refine ⟨r, d, v, ?_, fun j => ?_⟩
  · rw [ksErase, hfold, hstore]
  · have hnamed : (∃ i ∈ List.range 15, Fin.ofNat 16 i = j ∧ x.getLsbD i = true) ↔ j ≠ 15 ∧ x.getLsbD j.1 = true := by
      constructor
      · rintro ⟨i, hi, rfl, hx⟩
        have hlt := List.mem_range.1 hi
        have hval : (Fin.ofNat 16 i).1 = i := Nat.mod_eq_of_lt (by omega)
        exact ⟨fun h => by have := congrArg Fin.val h; rw [hval] at this; exact absurd this (by change i ≠ 15; omega), by rwa [hval]⟩
      · rintro ⟨hj, hx⟩
        have hlt := j.isLt
        have hne : j.1 ≠ 15 := fun h => hj (Fin.ext h)
        exact ⟨j.1, List.mem_range.2 (by omega), Fin.ext (Nat.mod_eq_of_lt hlt), hx⟩
    rw [hv]
    simp only [hnamed]

end Sys2Proof.Machine
end

section
/-! SUPPORT. The key store's commands and the one-time words' commands, each with what it leaves (R283 to R315). -/

namespace Sys2Proof.Machine

/-! ### Keys (R284, R289) -/

section
variable {s : State} {src : Src} (h : Asks s src) (tid : Byte)
include h

/-- A slot and the area have changed, and the answer is OK. -/
theorem slotWritten {i : BitVec 16} {x : Byte} {v : List Byte} (hentry : ElsewhereEntry i x v) {j : Fin 16} {q : KeySlot}
    (hact : entryAct {} i.toNat x.toNat v s = (stOk, storeArea (loadSlot j q s))) : ∃ t, hostWrite {} src tid i x v s = t ∧
      (t.sec.slots = vset s.sec.slots j q ∧ t.sec.ep = s.sec.ep ∧ AreaStands t.sec ∧ OnlyKeys s t) ∧ Spoke s t src (writeResp tid i x 0) := by
  obtain ⟨l, a, hlink, hpdu, hwrite⟩ := hentry.answered h hact tid
  obtain ⟨r, d, hstore⟩ := storeArea_eq (loadSlot j q s)
  rw [hstore] at hwrite
  exact ⟨_, hwrite, ⟨rfl, rfl, areaStands_withArea _, rfl⟩, spoke_of_push hlink hpdu rfl⟩

theorem execKeyChange_armed {x : BitVec 32} (hnew : leBytes 4 x.toNat ≠ s.dGet 0x3000 6) (hrole : s.role ≠ 3)
    (hok : epochOk s.epochWanted (s.role != 1 && s.hasKey 0 2) s = true) (hready : keysReady s = true) (hcur : s.sec.ep.cur.isSome = true)
    (hbegun : begun s s.cycleWanted = false) : ∃ t, exec (.keyChangeRequest src tid x) s = .next t ∧
      t.sec.ep = { s.sec.ep with next := some s.epochWanted, at_ := some s.cycleWanted } ∧ t.sec.slots = s.sec.slots ∧ AreaStands t.sec ∧
      t.dGet 0x3000 7 = [0] ∧ Spoke s t src (writeResp tid 0x3000 6 0) ∧ OnlyKeys s t := by
  have hact := actSecurity_change (keyChangeRequest_armed hok hready hcur hbegun) (leBytes 4 x.toNat)
  rw [if_pos rfl, tellWorkers_other (by rwa [changeArmed_role])] at hact
  obtain ⟨l, a, hlink, hpdu, hwrite⟩ := requestEntry_keyChange.taken h hnew hact tid
  have hstatus := changeArmed_status s.epochWanted s.cycleWanted s
  obtain ⟨r, d, y, harmed⟩ := changeArmed_eq s.epochWanted s.cycleWanted s
  rw [harmed] at hwrite hstatus
  exact ⟨_, congrArg Host.Outcome.next hwrite, rfl, rfl, areaStands_withArea _, (dGet_dSet_ne _ _ (by decide)).trans hstatus,
    spoke_of_push hlink hpdu rfl, rfl⟩

theorem execKeyChange_refused {x : BitVec 32} (hnew : leBytes 4 x.toNat ≠ s.dGet 0x3000 6) {st : Status} (hst : st ≠ stOk)
    (hrequest : keyChangeRequest s = (st, s.produceSt 0x3000 7 st)) : ∃ t, exec (.keyChangeRequest src tid x) s = .next t ∧
      t.dGet 0x3000 7 = [st] ∧ Spoke s t src (writeResp tid 0x3000 6 st) ∧ t.sec = s.sec ∧ OnlyKeys s t := by
  have hact := actSecurity_change hrequest (leBytes 4 x.toNat)
  rw [if_neg hst] at hact
  obtain ⟨l, a, hlink, hpdu, hwrite⟩ := requestEntry_keyChange.refused h hnew hst hact tid
  have hstatus : (s.produceSt 0x3000 7 st).dGet 0x3000 7 = [st] := dGet_produce_self ..
  exact ⟨_, congrArg Host.Outcome.next hwrite, hstatus, spoke_of_push hlink hpdu rfl, rfl, rfl⟩

/-- A transport taken: its keys and what it arms, and the answer. -/
theorem transportTaken {i : BitVec 16} {x : Byte} {v : List Byte} (hentry : ElsewhereEntry i x v) {e : BitVec 16} {c : BitVec 28} {y : Sec}
    (hact : entryAct {} i.toNat x.toNat v s = (stOk, changeArmed e c { s with sec := y })) (honly : OnlyKeys s { s with sec := y }) :
    ∃ t, hostWrite {} src tid i x v s = t ∧ t.sec = (y.armed e c).withArea ∧ t.dGet 0x3000 7 = [0] ∧ Spoke s t src (writeResp tid i x 0) ∧ OnlyKeys s t := by
  obtain ⟨l, a, hlink, hpdu, hwrite⟩ := hentry.answered h hact tid
  have hstatus := changeArmed_status e c { s with sec := y }
  obtain ⟨r, d, z, harmed⟩ := changeArmed_eq e c { s with sec := y }
  rw [harmed] at hwrite hstatus
  exact ⟨_, hwrite, rfl, hstatus, spoke_of_push hlink hpdu rfl, honly⟩

theorem execWrap {x : BitVec 32} (hnew : leBytes 4 x.toNat ≠ s.dGet 0x3000 0x21) : ∃ t, exec (.wrapRequest src tid x) s = .next t ∧
    t.dGet 0x3000 0x22 = s.wrapOut.2 ∧ t.dGet 0x3000 0x23 = [s.wrapOut.1] ∧ t.sec = s.sec ∧ Spoke s t src (writeResp tid 0x3000 0x21 0) ∧ OnlyKeys s t := by
  obtain ⟨l, a, hlink, hpdu, hwrite⟩ := requestEntry_wrap.taken h hnew (wrapRequest_eq s) tid
  refine ⟨_, congrArg Host.Outcome.next hwrite, ?_, ?_, rfl, spoke_of_push hlink hpdu rfl, rfl⟩
  · exact (dGet_dSet_ne _ _ (by decide)).trans ((dGet_produce_ne _ _ (by decide)).trans (dGet_produce_self ..))
  · exact (dGet_dSet_ne _ _ (by decide)).trans (dGet_produce_self ..)

theorem execKeyErase_roleZero {x : BitVec 32} (hrole : s.role = 0) (hnew : leBytes 4 x.toNat ≠ s.dGet 0x3000 9) :
    ∃ t, exec (.keyErase src tid x) s = .next t ∧ t.sec = s.sec.emptied ∧ t.dU 0x3000 2 = 0 ∧ t.dU 0x3000 3 = 0 ∧ t.pcc = s.pcc ∧ t.kz = s.kz ∧
      t.mem = s.mem ∧ Spoke s t src (writeResp tid 0x3000 9 0) := by
  obtain ⟨l, a, hlink, hpdu, hwrite⟩ := hostWrite_answered (i := 0x3000) (x := 9) h (by decide) rfl (fun _ => rfl) (writeEntry_keyErase h hrole hnew) tid
  obtain ⟨r, herase⟩ := keyErase_eq s
  rw [herase] at hwrite
  refine ⟨_, congrArg Host.Outcome.next hwrite, rfl, ?_, ?_, rfl, rfl, rfl, spoke_of_push hlink hpdu rfl⟩
  · exact congrArg leNat ((dGet_dSet_ne _ _ (by decide)).trans ((dGet_dPut_ne _ _ (by decide)).trans (dGet_dPut_self ..)))
  · exact congrArg leNat ((dGet_dSet_ne _ _ (by decide)).trans (dGet_dPut_self ..))

/-! ### One-time words (R312 to R315) -/

/-- An entry of the one-time words whose action has burnt bits alone. -/
theorem otpWritten {i : BitVec 16} {x : Byte} {v : List Byte} (hentry : ElsewhereEntry i x v) {e : Ext} {t : State}
    (hact : entryAct e i.toNat x.toNat v s = (stOk, t)) (honly : { t with sec := { t.sec with otp := s.sec.otp } } = s) :
    ∃ u, hostWrite e src tid i x v s = u ∧ u.sec.otp = t.sec.otp ∧ OnlyOtp s u ∧ Spoke s u src (writeResp tid i x 0) := by
  obtain ⟨l, a, hlink, hpdu, hwrite⟩ := hentry.answered h hact tid
  have hbox : t.links.outbox = s.links.outbox := (congrArg (fun w : State => w.links.outbox) honly :)
  refine ⟨_, hwrite, rfl, ?_, spoke_of_push hlink hpdu hbox⟩
  exact (congrArg (fun w : State => { w with links := s.links }) honly :)

end

theorem entryAct_custHash (k : Fin 4) (v : List Byte) (got : BitVec 32) (s : State) :
    entryAct { got := some got } (0x3001 : BitVec 16).toNat (BitVec.ofNat 8 (k.1 + 1)).toNat v s = custHashSet k.1 v got s := by
  fin_cases k <;> rfl

theorem actOtp_rollback (sub : Nat) (v : List Byte) (got : BitVec 32) (s : State) :
    actOtp { got := some got } 0x3002 sub v s = rollbackSet (sub - 1) (leNat v) got s := by
  simp [actOtp, Ext.bits]

theorem entryAct_rollback (k : Fin 4) (n : Byte) (got : BitVec 32) (s : State) :
    entryAct { got := some got } (0x3002 : BitVec 16).toNat (BitVec.ofNat 8 (k.1 + 1)).toNat [n] s = rollbackSet k.1 n.toNat got s := by
  have hclass : ∀ k : Fin 4, (BitVec.ofNat 8 (k.1 + 1)).toNat - 1 = k.1 := by decide
  have hentry : ∀ sub v, entryAct { got := some got } (0x3002 : BitVec 16).toNat sub v s = actOtp { got := some got } 0x3002 sub v s := fun _ _ => rfl
  rw [hentry, actOtp_rollback, hclass, leNat_byte]

theorem entryAct_revoked (n : Byte) (got : BitVec 32) (s : State) :
    entryAct { got := some got } (0x3001 : BitVec 16).toNat (5 : Byte).toNat [n] s = revokeSet (leNat [n]) got s := rfl

theorem entryAct_debugLock (b : Bool) (got : BitVec 32) (s : State) :
    entryAct { got := some got } (0x3003 : BitVec 16).toNat (1 : Byte).toNat [BitVec.ofNat 8 (b2n b)] s = debugLockSet b got s := by
  cases b <;> rfl

end Sys2Proof.Machine

namespace Sys2Proof.Proofs
open Sys2Proof.Machine

/-- Settles O43: each command equals a state with an explicit store behind it, and the words burnt are read bit by bit. -/
theorem keyStore : Obligations.KeyStore := by
  intro s src tid x v sub m e c own i k got b n e1 c1 flags ev cv fresh stored slotted index entry
  refine ⟨fun hasks hcore hv => ⟨fun hsub hrole hlen => ?_, fun hsub => ?_, fun hrole => ?_⟩, fun hasks hnew => ?_, fun hat hnext hbegun hawake => ?_,
    fun hat => ?_, fun hat hbegun hawake => ?_, fun hat => ?_, fun hasks hrole hown hlen hnew hflags hsize hepoch hcur => ?_,
    fun hasks hrole hown hlen hnew hflags hsize hepoch hcur => ?_, fun hasks hrole hlen => ?_, fun hasks hrole hlen => ?_, fun hasks hnew => ?_,
    fun hasks hrole hnew => ?_, fun hon => ⟨fun hm hslot hbig => ?_, fun hm => ?_, fun hm => ⟨?_, ?_⟩⟩, fun hsupply hcore => ⟨?_, fun hasks => ?_⟩,
    fun hsupply => ?_, fun hasks => ?_⟩
  · have hderive : ∀ sub : Fin 7, sub.1 < 4 → (Fin.ofNat 4 sub.1 == 0) = (sub.1 == 0) := by decide
    obtain ⟨t, hwrite, hslot, hspoke⟩ := slotWritten hasks tid (elsewhere_key sub hv)
      ((entryAct_key sub v s).trans (keyWrite_group hcore hsub hrole hlen hv))
    rw [hderive sub hsub] at hslot
    exact ⟨t, congrArg Host.Outcome.next hwrite, hslot, hspoke⟩
  · obtain ⟨t, hwrite, hslot, hspoke⟩ := slotWritten hasks tid (elsewhere_key sub hv) ((entryAct_key sub v s).trans (keyWrite_firmware hcore hsub hv))
    exact ⟨t, congrArg Host.Outcome.next hwrite, hspoke, hslot⟩
  · exact ⟨_, rfl, (elsewhere_key sub hv).refused hasks ((entryAct_key sub v s).trans (keyWrite_denied hrole v)) tid⟩
  · refine ⟨fun hrole hok hready hcur hbegun => execKeyChange_armed hasks tid hnew hrole hok hready hcur hbegun, fun st hwhy => ?_⟩
    rcases hwhy with ⟨hok, rfl⟩ | ⟨hok, hready, rfl⟩ | ⟨hok, hready, hcur, hbegun, rfl⟩
    · exact execKeyChange_refused hasks tid hnew (by decide) (keyChangeRequest_range hok)
    · exact execKeyChange_refused hasks tid hnew (by decide) (keyChangeRequest_notReady hok hready)
    · exact execKeyChange_refused hasks tid hnew (by decide) (keyChangeRequest_late hok hready hcur hbegun)
  · intro grace hgrace hnet
    obtain ⟨r, d, hrotate⟩ := rotate_eq hnext hat hnet hgrace
    refine ⟨_, congrArg Host.Outcome.next ((keyRotation_due hat hbegun hawake).trans hrotate), rfl, rfl, rfl, rfl, rfl, areaStands_withArea _, rfl, ?_⟩
    exact thirds_rotated s rfl rfl
  · exact congrArg Host.Outcome.next (keyRotation_none hat)
  · obtain ⟨r, d, herase⟩ := erasePrev_eq s
    refine ⟨_, congrArg Host.Outcome.next ((previousEpochErase_due hat hbegun hawake).trans herase), rfl, areaStands_withArea _, rfl, fun g => ?_⟩
    exact ⟨slotsWithout_same s g 1, slotsWithout_other s g (by decide) (by decide) (by decide), slotsWithout_other s g (by decide) (by decide) (by decide)⟩
  · exact congrArg Host.Outcome.next (previousEpochErase_none hat)
  · obtain ⟨w, a, htaken⟩ := keyNextWrite_taken hrole hown hlen hnew hflags hsize hepoch hcur
    obtain ⟨t, hwrite, hsec, hstatus, hspoke, honly⟩ := transportTaken hasks tid (elsewhere_keyNext hlen) htaken rfl
    obtain ⟨h1, h2, h3⟩ := keysNext_get own v s w
    have hslots : t.sec.slots = keysNext own v s w := congrArg Sec.slots hsec
    refine ⟨t, congrArg Host.Outcome.next hwrite, congrArg Sec.keyTaken hsec, hstatus, hspoke, ?_, honly, congrArg Sec.ep hsec, fun j hj => ?_⟩
    · exact (congrArg AreaStands hsec).mpr (areaStands_withArea _)
    · rw [thirdSlot, hslots]
      interval_cases j
      exacts [h1, h2, h3]
  · have htaken := netNextWrite_taken hrole hown hlen hnew hflags hsize hepoch hcur
    obtain ⟨t, hwrite, hsec, hstatus, hspoke, honly⟩ := transportTaken hasks tid (elsewhere_netNext hlen) htaken rfl
    have hslots : t.sec.slots = _ := congrArg Sec.slots hsec
    refine ⟨t, congrArg Host.Outcome.next hwrite, congrArg Sec.netTaken hsec, hstatus, hspoke, ?_, honly, congrArg Sec.ep hsec, ?_⟩
    · exact (congrArg AreaStands hsec).mpr (areaStands_withArea _)
    · rw [thirdSlot, hslots]
      exact vget_vset_self ..
  · exact ⟨_, rfl, (elsewhere_keyNext hlen).refused hasks (keyNextWrite_denied hrole v) tid⟩
  · exact ⟨_, rfl, (elsewhere_netNext hlen).refused hasks (netNextWrite_denied hrole v) tid⟩
  · exact execWrap hasks tid hnew
  · obtain ⟨t, hexec, hsec, hrest⟩ := execKeyErase_roleZero hasks tid hrole hnew
    refine ⟨t, hexec, fun j => ?_, congrArg Sec.ep hsec, congrArg Sec.area hsec, hrest⟩
    rw [hsec, emptied_slots]
  · obtain ⟨r, d, hstore⟩ := storeArea_eq (loadSlot (Fin.ofNat 16 (x.toNat % 16)) (stagedKey x s) s)
    refine ⟨_, congrArg Host.Outcome.next ((forCore4_own hon hm _).trans ((ksLoad_big hslot hbig s).trans hstore)), rfl, rfl, areaStands_withArea _, rfl⟩
  · obtain ⟨r, d, w, herase, hslots⟩ := ksErase_eq x s
    exact ⟨_, congrArg Host.Outcome.next ((forCore4_own hon hm _).trans herase), rfl, areaStands_withArea _, rfl, hslots⟩
  · exact ⟨_, congrArg Host.Outcome.next (forCore4_foreign hon hm _), violated_violation (by have := masterId_lt m; omega) s⟩
  · exact ⟨_, congrArg Host.Outcome.next (forCore4_foreign hon hm _), violated_violation (by have := masterId_lt m; omega) s⟩
  · exact ⟨_, congrArg Host.Outcome.next (otpBurn_state hsupply hcore i.1 x got), otpWord_burned_self .., fun j hj => otpWord_burned_ne hj .., rfl⟩
  · refine ⟨fun hlen hfree hempty => ?_, fun hn hkeeps hstays => ?_, fun hlow hmax hold => ?_, ?_⟩
    · obtain ⟨o, hframe⟩ := burnedAll_frame (hashWords k.1 v) s
      obtain ⟨t, hwrite, hotp, honly, hspoke⟩ := otpWritten hasks tid (elsewhere_custHash k hlen)
        ((entryAct_custHash k v _ s).trans (custHashSet_empty hsupply hcore hfree v)) (by rw [hframe])
      refine ⟨t, congrArg Host.Outcome.next hwrite, ?_, ?_, honly, hspoke⟩
      · exact (otpBytes_congr hotp ..).trans (custHash_hashWords k.2 hempty hlen)
      · exact (custProgrammed_congr hotp _).trans (custProgrammed_hashWords k.2 v s)
    · obtain ⟨j, hj, hprog, hrev, hbit⟩ := hstays
      obtain ⟨u, hset, hrevoked, hprogrammed, hburnt⟩ := revokeSet_full (v := leNat [n]) (fun j hj h => (bit_byte n j).trans (hkeeps j hj h))
        ⟨j, hj, hprog, hrev, (bit_byte n j).trans hbit⟩ hsupply hcore
      obtain ⟨t, hwrite, hotp, honly, hspoke⟩ := otpWritten hasks tid (elsewhere_revoked hn) ((entryAct_revoked n _ s).trans hset) hburnt
      exact ⟨t, congrArg Host.Outcome.next hwrite, fun j hj => (custRevoked_congr hotp j).trans ((hrevoked j hj).trans (bit_byte n j)),
        fun j hj => (custProgrammed_congr hotp j).trans (hprogrammed j hj), honly, hspoke⟩
    · obtain ⟨o, hframe⟩ := burnedAll_frame (levelWords k.1 n.toNat) s
      obtain ⟨t, hwrite, hotp, honly, hspoke⟩ := otpWritten hasks tid (elsewhere_rollback k hmax)
        ((entryAct_rollback k n _ s).trans (rollbackSet_full hsupply hcore hlow hmax)) (by rw [hframe])
      refine ⟨t, congrArg Host.Outcome.next hwrite, ?_, honly, hspoke⟩
      exact (congrArg (fun bs => thermo 64 (leNat bs)) (otpBytes_congr hotp ..)).trans (rollbackMin_levelWords hlow hmax hold)
    · obtain ⟨u, hset, hlock, hburnt⟩ := debugLockSet_set hsupply hcore
      obtain ⟨t, hwrite, hotp, honly, hspoke⟩ := otpWritten hasks tid (elsewhere_debugLock true) ((entryAct_debugLock true _ s).trans hset) hburnt
      refine ⟨t, congrArg Host.Outcome.next hwrite, ?_, honly, hspoke⟩
      rwa [State.debugLock, otpWord_congr hotp]
  · exact congrArg Host.Outcome.next (congrArg Prod.snd (otpBurn_low hsupply i.1 x got))
  · refine ⟨fun hprog hlen hother => ?_, fun hn j hj hrevoked hbit => ?_, fun hlow => ?_, fun hlock => ?_, fun hsame => ?_⟩
    · exact ⟨_, rfl, (elsewhere_custHash k hlen).refused hasks ((entryAct_custHash k v got s).trans (custHashSet_programmed hprog hother got)) tid⟩
    · exact ⟨_, rfl, (elsewhere_revoked hn).refused hasks ((entryAct_revoked n got s).trans (revokeSet_back hj hrevoked ((bit_byte n j).trans hbit) got)) tid⟩
    · have hmax := rollbackMin_le s k.1
      exact ⟨_, rfl, (elsewhere_rollback k (by omega)).refused hasks ((entryAct_rollback k n got s).trans (rollbackSet_lower hlow got)) tid⟩
    · exact ⟨_, rfl, (elsewhere_debugLock false).refused hasks ((entryAct_debugLock false got s).trans (debugLockSet_clear hlock got)) tid⟩
    · subst hsame
      obtain ⟨l, a, hlink, hpdu, hwrite⟩ := (elsewhere_debugLock _).answered hasks ((entryAct_debugLock _ got s).trans (debugLockSet_same s got)) tid
      exact ⟨_, congrArg Host.Outcome.next hwrite, spoke_of_push hlink hpdu rfl, rfl⟩

end Sys2Proof.Proofs
end

section
/-! SUPPORT. What a start has brought up and no unit of the device takes away: the boot ROM's choice, the subset of the dictionary that is
served, and the state of every power domain. One lemma for each operation that the loss, the return and the retirement of a unit use. -/

namespace Sys2Proof.Machine

/-! ### The relation -/

/-- The boot state, what the links serve and the state of every domain stand as they were. -/
structure Stands (s t : State) : Prop where
  boot : t.boot = s.boot
  serving : t.links.serving = s.links.serving
  dom : t.pcc.dom = s.pcc.dom

theorem Stands.refl (s : State) : Stands s s := ⟨rfl, rfl, rfl⟩

theorem Stands.trans {s t u : State} (h : Stands s t) (h' : Stands t u) : Stands s u :=
  ⟨h'.boot.trans h.boot, h'.serving.trans h.serving, h'.dom.trans h.dom⟩

theorem Stands.of_eq {s t : State} (hb : t.boot = s.boot) (hl : t.links = s.links) (hp : t.pcc = s.pcc) : Stands s t :=
  ⟨hb, by rw [hl], by rw [hp]⟩

theorem stands_ite {c : Prop} [Decidable c] {s t u : State} (ht : Stands s t) (hu : Stands s u) : Stands s (if c then t else u) := by
  split
  · exact ht
  · exact hu

theorem stands_foldl {α : Type} {f : State → α → State} (step : ∀ s x, Stands s (f s x)) (l : List α) (s : State) : Stands s (l.foldl f s) :=
  foldl_keeps Stands.refl Stands.trans step l s

theorem stands_foldS {α : Type} {f : α → State → State} (step : ∀ x s, Stands s (f x s)) (l : List α) (s : State) : Stands s (foldS f l s) :=
  foldS_keeps Stands.refl Stands.trans step l s

/-! ### The parts of the state -/

theorem stands_dSet (x y : Nat) (v : List Byte) (s : State) : Stands s (s.dSet x y v) := ⟨rfl, rfl, rfl⟩
theorem stands_dPut (x y v : Nat) (s : State) : Stands s (s.dPut x y v) := ⟨rfl, rfl, rfl⟩
theorem stands_produce (x y : Nat) (v : List Byte) (s : State) : Stands s (s.produce x y v) := ⟨rfl, rfl, rfl⟩
theorem stands_produceSt (x y : Nat) (st : Status) (s : State) : Stands s (s.produceSt x y st) := ⟨rfl, rfl, rfl⟩
theorem stands_setReg (a : Nat) (v : BitVec 32) (s : State) : Stands s (s.setReg a v) := ⟨rfl, rfl, rfl⟩
theorem stands_setRegN (a v : Nat) (s : State) : Stands s (s.setRegN a v) := ⟨rfl, rfl, rfl⟩
theorem stands_setRegF (a hi lo v : Nat) (s : State) : Stands s (s.setRegF a hi lo v) := ⟨rfl, rfl, rfl⟩
theorem stands_flag (a i : Nat) (s : State) : Stands s (s.flag a i) := ⟨rfl, rfl, rfl⟩
theorem stands_bump (a : Nat) (s : State) : Stands s (s.bump a) := ⟨rfl, rfl, rfl⟩
theorem stands_wrBytes (a : Nat) (bs : List Byte) (s : State) : Stands s (s.wrBytes a bs) := ⟨rfl, rfl, rfl⟩
theorem stands_mmod (f : Mem → Mem) (s : State) : Stands s (mmod f s) := ⟨rfl, rfl, rfl⟩
theorem stands_waveMod (f : Wave → Wave) (s : State) : Stands s (waveMod f s) := ⟨rfl, rfl, rfl⟩
theorem stands_bktMod (f : Buckets → Buckets) (s : State) : Stands s (bktMod f s) := ⟨rfl, rfl, rfl⟩
theorem stands_secMod (f : Sec → Sec) (s : State) : Stands s (secMod f s) := ⟨rfl, rfl, rfl⟩
theorem stands_txmMod (f : Txm → Txm) (s : State) : Stands s (txmMod f s) := ⟨rfl, rfl, rfl⟩
theorem stands_rxMod (f : Rx → Rx) (s : State) : Stands s (rxMod f s) := ⟨rfl, rfl, rfl⟩
theorem stands_rfMod (f : Rf → Rf) (s : State) : Stands s (rfMod f s) := ⟨rfl, rfl, rfl⟩
theorem stands_lnkMod (f : Lnk → Lnk) (s : State) : Stands s (lnkMod f s) := ⟨rfl, rfl, rfl⟩
theorem stands_sluMod (f : Slu → Slu) (s : State) : Stands s (sluMod f s) := ⟨rfl, rfl, rfl⟩
theorem stands_cwyMod (f : Cwy → Cwy) (s : State) : Stands s (cwyMod f s) := ⟨rfl, rfl, rfl⟩
theorem stands_kmod (p : Fin 6) (f : Core → Core) (s : State) : Stands s (kmod p f s) := ⟨rfl, rfl, rfl⟩
theorem stands_regsLost (lo hi : Nat) (s : State) : Stands s (regsLost lo hi s) := ⟨rfl, rfl, rfl⟩
theorem stands_cellsLost (lo hi : Nat) (s : State) : Stands s (cellsLost lo hi s) := ⟨rfl, rfl, rfl⟩

theorem stands_linksMod {f : Links → Links} {s : State} (h : (f s.links).serving = s.links.serving) : Stands s (linksMod f s) := ⟨rfl, h, rfl⟩

/-! ### The fabric, the links and the health log -/

theorem stands_notifyAt (x y : Nat) (node : BitVec 18) (st : Status) (d : List Byte) (s : State) : Stands s (s.notifyAt x y node st d) := by
  obtain ⟨o, h⟩ := notifyAt_frame s x y node st d
  rw [h]
  exact ⟨rfl, rfl, rfl⟩

theorem stands_notify (x y : Nat) (st : Status) (d : List Byte) (s : State) : Stands s (s.notify x y st d) := stands_notifyAt x y 0 st d s

theorem stands_setFn (n : Fin 20) (v : Byte) (s : State) : Stands s (s.setFn n v) := by
  obtain ⟨o, h⟩ := setFn_frame s n v
  rw [h]
  exact ⟨rfl, rfl, rfl⟩

theorem stands_fire (p : Nat) (s : State) : Stands s (fire p s) := by
  obtain ⟨e, h⟩ := fire_frame p s
  rw [h]
  exact ⟨rfl, rfl, rfl⟩

theorem stands_healthEvent (id unit act : Nat) (inj : Bool) (s : State) : Stands s (healthEvent id unit act inj s) := by
  obtain ⟨d, r, e, h⟩ := healthEvent_frame id unit act inj s
  rw [h]
  exact ⟨rfl, rfl, rfl⟩

theorem stands_raiseGrade (k g : Nat) (s : State) : Stands s (raiseGrade k g s) := by
  unfold raiseGrade
  refine stands_ite (stands_setRegN ..) ?_
  exact ((stands_dPut 0x3600 k g s).trans (stands_setRegN ..)).trans (stands_notify ..)

theorem stands_spareTaken (k : Nat) (s : State) : Stands s (spareTaken k s) :=
  ((stands_dPut _ _ _ s).trans (stands_dPut ..)).trans (stands_raiseGrade ..)

theorem stands_spareMissing (k g : Nat) (s : State) : Stands s (spareMissing k g s) := stands_raiseGrade k g s

theorem stands_degraded (k : Nat) (n : Fin 20) (s : State) : Stands s (degraded k n s) := (stands_spareMissing k 4 s).trans (stands_setFn n 2 _)

theorem stands_fnNotices (before : Vector Byte 20) (s : State) : Stands s (fnNotices before s) := by
  refine stands_foldS (fun _ s => ?_) _ s
  exact stands_ite (.refl s) (stands_notify ..)

/-! ### Memory -/

theorem stands_mendOnWrite (a n : Nat) (s : State) : Stands s (mendOnWrite a n s) := by
  unfold mendOnWrite
  extract_lets s₁
  have h₁ : Stands s s₁ := stands_ite (stands_mmod ..) (.refl s)
  exact stands_ite (h₁.trans (stands_mmod ..)) h₁

theorem stands_breakReservations (b a n : Nat) (s : State) : Stands s (breakReservations b a n s) := by
  refine stands_foldS (fun i s => ?_) _ s
  split
  · exact stands_ite ⟨rfl, rfl, rfl⟩ (.refl s)
  · exact .refl s

theorem stands_dmaWrite (a : Nat) (bs : List Byte) (s : State) : Stands s (s.dmaWrite a bs) :=
  ((stands_wrBytes a bs s).trans (stands_mendOnWrite ..)).trans (stands_breakReservations ..)

theorem stands_recPut (k off n v : Nat) (s : State) : Stands s (recPut k off n v s) := stands_dmaWrite ..

theorem stands_syncPoison (s : State) : Stands s (syncPoison s) := ⟨rfl, rfl, rfl⟩

theorem stands_syncRecords (s : State) : Stands s (syncRecords s) := ⟨rfl, rfl, rfl⟩

theorem stands_poisonHit (s : State) : Stands s (poisonHit s) := ⟨rfl, rfl, rfl⟩

theorem stands_erased (a : Nat) (s : State) : Stands s (erased a s) := ⟨rfl, rfl, rfl⟩

theorem stands_moveWindow (s : State) : Stands s (moveWindow s) := by
  unfold moveWindow
  split <;> exact ⟨rfl, rfl, rfl⟩

theorem stands_bootRewrite (r : List Byte) (s : State) : Stands s (bootRewrite r s) :=
  ((stands_erased _ s).trans (stands_wrBytes ..)).trans (stands_moveWindow _)

theorem stands_bootPut (l : List (Nat × Nat × Nat)) (s : State) : Stands s (bootPut l s) := stands_bootRewrite _ s

theorem stands_flcEnd (st : Status) (s : State) : Stands s (flcEnd st s) := ⟨rfl, rfl, rfl⟩

theorem stands_flashWork (op : FlashOp) (s : State) : Stands s (flashWork op s) := by
  unfold flashWork
  extract_lets s₁
  have h₁ : Stands s s₁ := stands_ite (stands_wrBytes ..) (stands_erased ..)
  exact stands_ite (h₁.trans (stands_moveWindow _)) h₁

theorem stands_flashLeave (s : State) : Stands s (flashLeave s) := by
  unfold flashLeave
  extract_lets s₁
  have h₁ : Stands s s₁ := stands_mmod ..
  split
  · exact h₁
  · exact h₁.trans ((stands_ite (stands_flashWork ..) (.refl _)).trans (stands_flcEnd ..))

theorem stands_takeRow (a : Nat) (s : State) : Stands s (takeRow a s) :=
  (((stands_mmod _ s).trans (stands_dPut ..)).trans (stands_dPut ..)).trans (stands_spareTaken ..)

/-! ### The key store and its engines -/

theorem KeyStoreOnly.stands {s t : State} (h : KeyStoreOnly s t) : Stands s t := by
  have hboot := congrArg State.boot h.eq
  have hlinks := congrArg State.links h.eq
  have hpcc := congrArg State.pcc h.eq
  exact .of_eq hboot hlinks hpcc

theorem stands_otpBurn (i : Nat) (v got : BitVec 32) (s : State) : Stands s (otpBurn i v got s).2 := by
  unfold otpBurn
  split
  · exact .refl s
  · exact ⟨rfl, rfl, rfl⟩

theorem stands_otpBurnList (got : BitVec 32) (l : List (Nat × BitVec 32)) (s : State) : Stands s (otpBurnList got l s).2 := by
  induction l generalizing s with
  | nil => exact .refl s
  | cons p l ih =>
    unfold otpBurnList
    have h := stands_otpBurn p.1 p.2 got s
    dsimp only
    split
    · exact h.trans (ih _)
    · exact h

theorem stands_rollbackSet (c level : Nat) (got : BitVec 32) (s : State) : Stands s (rollbackSet c level got s).2 := by
  unfold rollbackSet
  split
  · exact .refl s
  · split
    · exact .refl s
    · exact stands_otpBurnList ..

theorem stands_keyErase (s : State) : Stands s (keyErase s) := (stands_secMod _ s).trans (keyStoreOnly_syncKeys _).stands

theorem stands_keyAreaCheck (good : Bool) (s : State) : Stands s (keyAreaCheck good s) := by
  unfold keyAreaCheck
  split
  · exact .refl s
  · split
    · exact (stands_secMod _ s).trans (keyStoreOnly_syncKeys _).stands
    · exact (stands_keyErase s).trans (stands_produceSt ..)

theorem stands_pstatEnd (p : Fin 8) (st : Status) (s : State) : Stands s (pstatEnd p st s) := ⟨rfl, rfl, rfl⟩

theorem stands_cmcReinit (s : State) : Stands s (cmcReinit s) := by
  unfold cmcReinit
  extract_lets s₁ s₂
  have h₂ : Stands s s₂ := (stands_foldS (fun _ s => stands_ite (stands_pstatEnd ..) (.refl s)) _ s).trans (stands_secMod _ s₁)
  clear_value s₂
  split
  · exact h₂.trans ((stands_secMod _ s₂).trans (stands_produceSt ..))
  · exact h₂

theorem stands_pkeReinit (s : State) : Stands s (pkeReinit s) := by
  unfold pkeReinit
  extract_lets s₁ s₂ s₃
  have h₁ : Stands s s₁ := stands_ite (stands_setRegN ..) (.refl s)
  have h₂ : Stands s s₂ := h₁.trans (stands_ite (stands_setRegN ..) (.refl s₁))
  have h₃ : Stands s s₃ := h₂.trans (stands_ite (stands_produceSt ..) (.refl s₂))
  exact h₃.trans (stands_secMod _ s₃)

/-! ### Frames on reception -/

theorem stands_frameMod (id : Nat) (g : RxFrame → RxFrame) (s : State) : Stands s (frameMod id g s) := stands_rxMod ..

theorem stands_laneFree (id : Nat) (s : State) : Stands s (laneFree id s) := stands_rxMod ..

theorem stands_frameGone (id : Nat) (s : State) : Stands s (frameGone id s) := (stands_rxMod _ s).trans (stands_laneFree id _)

theorem stands_shadowsLost (id : Nat) (s : State) : Stands s (shadowsLost id s) := by
  refine stands_foldl (fun s f => ?_) _ s
  exact (stands_frameGone f.id s).trans (stands_bump ..)

theorem stands_frameEnd (id outcome : Nat) (s : State) : Stands s (frameEnd id outcome s) := by
  unfold frameEnd
  split
  · exact .refl s
  · extract_lets s₁ s₂
    have h₁ : Stands s s₁ := stands_laneFree id s
    have h₂ : Stands s s₂ := h₁.trans (stands_ite (.refl s₁) (stands_shadowsLost id s₁))
    clear_value s₂ s₁
    exact stands_ite (h₁.trans ((stands_frameGone id s₁).trans (stands_shadowsLost id _))) (h₂.trans ((stands_frameMod _ _ s₂).trans (stands_rxMod ..)))

theorem stands_rxDiscard (s : State) : Stands s (rxDiscard s) := by
  refine stands_foldl (fun s f => ?_) _ s
  exact (stands_frameGone f.id s).trans (stands_shadowsLost f.id _)

theorem stands_regenDrop (p : RxFrame → Bool) (s : State) : Stands s (regenDrop p s) := by
  refine stands_foldl (fun s f => ?_) _ s
  exact ((stands_frameMod f.id _ s).trans (stands_rxMod ..)).trans (stands_shadowsLost f.id _)

theorem stands_framesForget (p : RxFrame → Bool) (s : State) : Stands s (framesForget p s) := by
  refine stands_foldl (fun s f => ?_) _ s
  exact stands_frameGone f.id s

/-! ### The radio and its sequencer -/

theorem stands_autoReturn (ret : Fin 4) (s : State) : Stands s (autoReturn ret s) := stands_rfMod ..

theorem stands_rfDone (s : State) : Stands s (rfDone s) := ((stands_rfMod _ s).trans (stands_flag ..)).trans (stands_fire ..)

theorem stands_rxFrameEnd (s : State) : Stands s (rxFrameEnd s) := by
  unfold rxFrameEnd
  refine stands_ite (.refl s) ?_
  split
  · extract_lets s₁
    have h₁ : Stands s s₁ := (stands_rfMod _ s).trans (stands_rfDone _)
    exact stands_ite h₁ (h₁.trans (stands_autoReturn _ s₁))
  · exact stands_rfMod ..

theorem stands_listenEnd (s : State) : Stands s (listenEnd s) := stands_ite (.refl s) (stands_rxFrameEnd s)

theorem stands_framesReset (p : RxFrame → Bool) (s : State) : Stands s (framesReset p s) := by
  refine stands_foldl (fun s f => ?_) _ s
  exact ((stands_rxMod _ s).trans (stands_frameEnd f.id 6 _)).trans (stands_listenEnd _)

theorem stands_urgentReset (s : State) : Stands s (urgentReset s) := stands_framesReset _ s

theorem stands_acqReinit (s : State) : Stands s (acqReinit s) := by
  unfold acqReinit
  extract_lets s₁ s₂
  have h₂ : Stands s s₂ := (stands_framesForget _ s).trans (stands_framesReset _ s₁)
  exact (h₂.trans (stands_regenDrop _ s₂)).trans (stands_rxMod ..)

theorem stands_clearValid (s : State) : Stands s (clearValid s) := by
  refine stands_foldS (fun _ s => ?_) _ s
  exact stands_setRegF _ _ _ _ s

theorem stands_burstOver (s : State) : Stands s (burstOver s) := ((stands_txmMod _ s).trans (stands_setRegF ..)).trans (stands_clearValid _)

theorem stands_burstCut (st : Status) (s : State) : Stands s (burstCut st s) := by
  unfold burstCut
  refine stands_ite (stands_burstOver s) ?_
  extract_lets st' s₁
  have h₁ : Stands s s₁ := by
    refine stands_foldl (fun s k => ?_) _ s
    exact stands_setRegF ..
  exact h₁.trans (((stands_txmMod _ s₁).trans (stands_flag ..)).trans (stands_burstOver _))

theorem stands_rfAbort (ret : Fin 4) (s : State) : Stands s (rfAbort ret s) := by
  unfold rfAbort
  extract_lets s₁ s₂
  have h₁ : Stands s s₁ := stands_ite (.refl s) (stands_burstCut _ s)
  have h₂ : Stands s s₂ := h₁.trans (stands_ite (stands_rxDiscard s₁) (.refl s₁))
  exact (h₂.trans (stands_rfMod _ s₂)).trans (stands_autoReturn ..)

theorem stands_setTune (a b : Nat) (s : State) : Stands s (setTune a b s) := ⟨rfl, rfl, rfl⟩

theorem stands_calEnd (st : Status) (s : State) : Stands s (calEnd st s) := ⟨rfl, rfl, rfl⟩

theorem stands_calAsk (set : Nat) (s : State) : Stands s (calAsk set s) := by
  unfold calAsk
  refine stands_ite (stands_calEnd ..) ?_
  extract_lets s₁ live now want s₂ s₃
  have h₃ : Stands s s₃ := ⟨rfl, rfl, rfl⟩
  exact stands_ite (h₃.trans (stands_calEnd ..)) h₃

theorem stands_putCoefs (b : Fin 4) (l : List (BitVec 32)) (s : State) : Stands s (putCoefs b l s) := by
  refine stands_foldS (fun i s => ?_) _ s
  exact stands_setReg ..

theorem stands_syncBands (s : State) : Stands s (syncBands s) := (stands_dPut _ _ _ s).trans (stands_dPut ..)

theorem stands_dpdLoad (v : List Byte) (s : State) : Stands s (dpdLoad v s) := by
  unfold dpdLoad
  extract_lets s₁
  have h₁ : Stands s s₁ := stands_dSet ..
  refine (h₁.trans (stands_foldS (fun b s => ?_) _ s₁)).trans (stands_syncBands _)
  exact stands_ite (.refl s) ((stands_putCoefs b _ s).trans (stands_setRegF ..))

theorem stands_waveTestReset (s : State) : Stands s (waveTestReset s) := by
  unfold waveTestReset
  split
  · exact .refl s
  · exact (stands_waveMod _ s).trans (stands_produceSt ..)

/-! ### Sluice, the proxy and Causeway -/

theorem stands_bucketsReturn (ch air : Nat) (s : State) : Stands s (bucketsReturn ch air s) := stands_bktMod ..

theorem stands_shaperReturn (q : Fin 20) (n : Nat) (s : State) : Stands s (shaperReturn q n s) := stands_bktMod ..

theorem stands_syncDownlinks (n : Nat) (s : State) : Stands s (syncDownlinks n s) := by
  unfold syncDownlinks
  split
  · exact .refl s
  · exact ((stands_recPut ..).trans (stands_recPut ..)).trans (stands_recPut ..)

theorem stands_completion (f : QFrame) (st : Status) (q : Fin 20) (renewed : Bool) (s : State) : Stands s (completion f st q renewed s) := by
  unfold completion
  refine stands_ite (.refl s) ?_
  extract_lets wr next s₁
  have h₁ : Stands s s₁ := stands_dmaWrite ..
  clear_value s₁
  exact stands_ite (stands_flag ..) (h₁.trans (((stands_setRegN _ _ s₁).trans (stands_flag ..)).trans (stands_fire ..)))

theorem stands_unqueue (id : Nat) (s : State) : Stands s (unqueue id s) := by
  unfold unqueue
  split
  · exact .refl s
  · exact (stands_sluMod _ s).trans (stands_syncDownlinks ..)

theorem stands_frameOut (id : Nat) (st : Status) (s : State) : Stands s (frameOut id st s) := by
  unfold frameOut
  split
  · exact .refl s
  · exact (stands_unqueue id s).trans (stands_completion ..)

theorem stands_sluReinit (s : State) : Stands s (sluReinit s) := by
  unfold sluReinit
  extract_lets s₁
  have h₁ : Stands s s₁ := by
    refine stands_foldl (fun s f => ?_) _ s
    exact stands_frameOut f.id _ s
  exact h₁.trans (stands_sluMod ..)

theorem stands_airOutcome (r : ProxyReq) (p : Pdu) (s : State) : Stands s (airOutcome r p s) := by
  unfold airOutcome
  extract_lets s₁
  have h₁ : Stands s s₁ := stands_linksMod rfl
  exact (h₁.trans (stands_produce _ _ _ s₁)).trans (stands_notify ..)

theorem stands_proxyFail (r : ProxyReq) (st : Status) (s : State) : Stands s (proxyFail r st s) := by
  unfold proxyFail
  refine stands_ite (stands_airOutcome ..) ?_
  exact (stands_ite (.refl s) (stands_linksMod rfl)).trans (stands_notifyAt ..)

theorem stands_proxyLeft (id : Nat) (s : State) : Stands s (proxyLeft id s) := by
  unfold proxyLeft
  split
  · exact .refl s
  · extract_lets rest s₁
    have h₁ : Stands s s₁ := stands_linksMod rfl
    clear_value s₁
    exact stands_ite (h₁.trans (stands_ite (stands_airOutcome ..) (stands_notifyAt ..))) (stands_linksMod rfl)

theorem stands_proxiesReset (s : State) : Stands s (proxiesReset s) := by
  have h : Stands s (linksMod (fun l => { l with proxies := [] }) s) := stands_linksMod rfl
  refine h.trans (stands_foldl (fun s r => ?_) _ _)
  exact stands_proxyFail r _ s

theorem stands_routeCommit (s : State) : Stands s (routeCommit s).2 := by
  unfold routeCommit
  split <;> exact ⟨rfl, rfl, rfl⟩

theorem stands_opEnd (st : Status) (k : Nat) (s : State) : Stands s (opEnd st k s) := ⟨rfl, rfl, rfl⟩

theorem stands_rosterReinit (s : State) : Stands s (rosterReinit s) := stands_ite (stands_opEnd ..) (.refl s)

theorem stands_originUpdate (f : MeshFrame) (s : State) : Stands s (originUpdate f s) := by
  unfold originUpdate
  split
  · exact .refl s
  · refine stands_ite (stands_poisonHit s) ?_
    extract_lets retry s₁
    have h₁ : Stands s s₁ := stands_dmaWrite ..
    clear_value s₁
    exact stands_ite (h₁.trans (stands_dmaWrite ..)) h₁

theorem stands_deliver (f : MeshFrame) (s : State) : Stands s (deliver f s) := by
  unfold deliver
  extract_lets s₁
  have h₁ : Stands s s₁ := stands_ite (stands_originUpdate f s) (.refl s)
  exact stands_ite (h₁.trans (stands_cwyMod ..)) h₁

theorem stands_cwyReinit (s : State) : Stands s (cwyReinit s) := by
  unfold cwyReinit
  extract_lets s₁ s₂
  have h₁ : Stands s s₁ := by
    refine stands_foldl (fun s f => ?_) _ s
    exact stands_deliver f s
  have h₂ : Stands s s₂ := h₁.trans (stands_ite ⟨rfl, rfl, rfl⟩ (.refl s₁))
  exact h₂.trans (stands_cwyMod _ s₂)

/-! ### The link controller -/

theorem stands_markLeft (s : State) : Stands s (markLeft s) := stands_ite (stands_lnkMod ..) (.refl s)

theorem stands_frameSent (c : LnkCarrier) (s : State) : Stands s (frameSent c s) := by
  unfold frameSent
  split
  · exact .refl s
  · extract_lets s₁ s₂
    have h₁ : Stands s s₁ := stands_ite ⟨rfl, rfl, rfl⟩ (.refl s)
    have h₂ : Stands s s₂ := h₁.trans ((stands_sluMod _ s₁).trans (stands_proxyLeft ..))
    clear_value s₂
    exact stands_ite h₂ (h₂.trans (stands_frameOut ..))

theorem stands_carrierSettle (c : LnkCarrier) (s : State) : Stands s (carrierSettle c s) := by
  unfold carrierSettle
  extract_lets st s₁ s₂
  have h₂ : Stands s s₂ := by
    refine stands_ite (.refl s) ?_
    split
    · exact (stands_bucketsReturn _ _ s).trans (stands_shaperReturn ..)
    · exact stands_bucketsReturn _ _ s
  clear_value s₂
  refine stands_ite h₂ (stands_ite (h₂.trans (stands_frameSent c s₂)) ?_)
  split
  · exact stands_ite (h₂.trans (stands_lnkMod ..)) h₂
  · exact h₂

theorem stands_settle (s : State) : Stands s (settle s) := by
  unfold settle
  extract_lets s₁
  have h₁ : Stands s s₁ := stands_markLeft s
  refine stands_ite h₁ ((h₁.trans (stands_lnkMod _ s₁)).trans (stands_foldl (fun s c => ?_) _ _))
  exact stands_carrierSettle c s

theorem stands_lnkReinit (s : State) : Stands s (lnkReinit s) := by
  unfold lnkReinit
  extract_lets s₁
  have h₁ : Stands s s₁ := by
    refine stands_foldl (fun s c => stands_ite (.refl s) ?_) _ s
    split
    · exact (stands_shaperReturn _ _ s).trans (stands_bucketsReturn ..)
    · exact stands_bucketsReturn ..
  exact (h₁.trans (stands_rfMod _ s₁)).trans (stands_lnkMod ..)

theorem stands_txmReinit (s : State) : Stands s (txmReinit s) := by
  unfold txmReinit
  extract_lets s₁
  have h₁ : Stands s s₁ := stands_ite (.refl s) (stands_rfAbort 3 s)
  exact (h₁.trans (stands_txmMod _ s₁)).trans (stands_settle _)

theorem stands_syncEnter (x : Sync) (s : State) : Stands s (syncEnter x s) := by
  unfold syncEnter
  extract_lets was s₁ s₂ st
  have h₁ : Stands s s₁ := ⟨rfl, rfl, rfl⟩
  have h₂ : Stands s s₂ := h₁.trans (stands_ite (stands_flag ..) (.refl s₁))
  exact stands_ite h₂ (h₂.trans ((stands_dSet _ _ _ s₂).trans (stands_notify ..)))

theorem OnlyRegs.stands {s t : State} (h : OnlyRegs s t) : Stands s t := by
  obtain ⟨r, h⟩ := h.exists_eq
  rw [h]
  exact ⟨rfl, rfl, rfl⟩

theorem NumberKept.stands {s t : State} (h : NumberKept s t) : Stands s t := by
  have hboot := congrArg State.boot h.frame
  have hlinks := congrArg State.links h.frame
  have hpcc := congrArg State.pcc h.frame
  exact .of_eq hboot hlinks hpcc

end Sys2Proof.Machine
end

section
/-! SUPPORT. What stands through the retirement of a unit and through a change of a power domain: the domain alone changes its state (R425, R430,
R484, R494). -/

namespace Sys2Proof.Machine

/-! ### Lanes, slices and engines -/

theorem stands_syncRx (s : State) : Stands s (syncRx s) := (numberKept_syncRx s).stands

theorem stands_laneLost (l : Fin 32) (now : Nat) (s : State) : Stands s (laneLost l now s) := by
  unfold laneLost
  split
  · exact .refl s
  · rename_i f _
    refine stands_ite ?_ ((stands_frameEnd f.id 5 s).trans (stands_listenEnd _))
    extract_lets s₁
    have h₁ : Stands s s₁ := stands_rxMod ..
    exact (h₁.trans (stands_laneFree f.id s₁)).trans (stands_frameMod ..)

theorem stands_coreStart (c : Fin 6) (cause : Fin 4) (pc : BitVec 32) (s : State) : Stands s (coreStart c cause pc s) := by
  unfold coreStart
  split
  · exact .refl s
  · exact ⟨rfl, rfl, rfl⟩

theorem stands_rollReturn (k : Nat) (s : State) : Stands s (rollReturn k s) := by
  unfold rollReturn
  split
  · exact .refl s
  · extract_lets _ done
    have hd : Stands s done := ⟨rfl, rfl, rfl⟩
    clear_value done
    split
    · exact (hd.trans (stands_rxMod _ done)).trans (stands_syncRx _)
    · exact (hd.trans (stands_rxMod _ done)).trans (stands_syncRx _)
    · exact (hd.trans (stands_rxMod _ done)).trans (stands_syncRx _)
    · extract_lets t
      have ht : Stands s t := by
        dsimp only [t]
        split
        · exact hd.trans (stands_kmod ..)
        · exact hd
      clear_value t
      refine Stands.trans ?_ (stands_coreStart ..)
      exact ht.trans ⟨rfl, rfl, rfl⟩
    · exact .refl s

/-- A map gives its place to the spare, or drops the highest place of the map. -/
theorem stands_spareIn (k id unit : Nat) (inj : Bool) (s : State) : Stands s (syncRx (spareTaken k (healthEvent id unit 2 inj s))) :=
  ((stands_healthEvent id unit 2 inj s).trans (stands_spareTaken ..)).trans (stands_syncRx _)

theorem stands_noSpare (k : Nat) (fn : Fin 20) (id unit : Nat) (inj : Bool) (s : State) :
    Stands s (syncRx (degraded k fn (healthEvent id unit 3 inj s))) :=
  ((stands_healthEvent id unit 3 inj s).trans (stands_degraded ..)).trans (stands_syncRx _)

theorem stands_retireLane (l : Fin 32) (residue regen inj : Bool) (now : Nat) (s : State) : Stands s (retireLane l residue regen inj now s) := by
  unfold retireLane
  extract_lets s₁
  have h₁ : Stands s s₁ := stands_rollReturn 6 s
  clear_value s₁
  split
  · exact h₁
  · rename_i p _
    extract_lets s₂ s₃ s₄ s₅ s₆
    have h₂ : Stands s s₂ := h₁.trans (stands_setRegN ..)
    have h₃ : Stands s s₃ := h₂.trans (stands_ite (stands_regenDrop ..) (.refl s₂))
    have h₅ : Stands s s₅ := (h₃.trans (stands_laneLost l now s₃)).trans (stands_rxMod _ s₄)
    have h₆ : Stands s s₆ := by
      dsimp only [s₆]
      split
      · refine stands_ite (h₅.trans (stands_rxMod ..)) ?_
        exact (h₅.trans (stands_laneLost ..)).trans (stands_rxMod ..)
      · exact h₅
    clear_value s₅ s₆
    split
    · exact (h₅.trans (stands_rxMod ..)).trans (stands_spareIn ..)
    · exact h₆.trans (stands_noSpare ..)

theorem stands_deafen (l : List Nat) (s : State) : Stands s (deafen l s) := stands_dSet ..

theorem stands_retireSlice (l : Fin 32) (inj : Bool) (s : State) : Stands s (retireSlice l inj s) := by
  unfold retireSlice
  extract_lets s₁
  have h₁ : Stands s s₁ := stands_rollReturn 8 s
  clear_value s₁
  split
  · exact h₁
  · rename_i p _
    extract_lets s₂ s₃
    have h₂ : Stands s s₂ := (h₁.trans (stands_rxMod _ s₁)).trans (stands_flag ..)
    have h₃ : Stands s s₃ := h₂.trans (stands_rxMod _ s₂)
    clear_value s₂ s₃
    split
    · extract_lets s₄ s₅
      have h₄ : Stands s s₄ := h₂.trans (stands_rxMod _ s₂)
      have h₅ : Stands s s₅ := h₄.trans (stands_ite (stands_rxMod ..) (.refl s₄))
      exact h₅.trans (stands_spareIn ..)
    · exact (h₃.trans ((stands_flag _ _ s₃).trans (stands_deafen ..))).trans (stands_noSpare ..)

theorem stands_engineLost (e : Fin 4) (s : State) : Stands s (engineLost e s) := by
  unfold engineLost
  split
  · exact .refl s
  · exact stands_rxMod ..

theorem stands_retireEngine (id : Nat) (e : Fin 4) (inj : Bool) (s : State) : Stands s (retireEngine id e inj s) := by
  unfold retireEngine
  extract_lets s₁
  have h₁ : Stands s s₁ := stands_rollReturn 7 s
  clear_value s₁
  split
  · exact h₁
  · rename_i p _
    extract_lets s₂ s₃
    have h₂ : Stands s s₂ := ((h₁.trans (stands_rxMod _ s₁)).trans (stands_flag ..)).trans (stands_engineLost ..)
    have h₃ : Stands s s₃ := by
      dsimp only [s₃]
      split
      · refine stands_ite (h₂.trans (stands_rxMod ..)) ?_
        exact (h₂.trans (stands_engineLost ..)).trans (stands_rxMod ..)
      · exact h₂
    clear_value s₂ s₃
    split
    · exact (h₂.trans (stands_rxMod ..)).trans (stands_spareIn ..)
    · exact (h₃.trans (stands_flag ..)).trans (stands_noSpare ..)

/-! ### DRAM -/

theorem stands_syncMap (s : State) : Stands s (syncMap s) := ⟨rfl, rfl, rfl⟩

theorem stands_syncMig (s : State) : Stands s (syncMig s) := ⟨rfl, rfl, rfl⟩

theorem stands_slotLost (k : Fin 2) (s : State) : Stands s (slotLost k s) := (stands_mmod _ s).trans (stands_syncRecords _)

theorem stands_rankFails (r : Fin 3) (s : State) : Stands s (rankFails r s) := by
  unfold rankFails
  refine stands_ite (.refl s) ?_
  split
  · exact stands_ite ((stands_mmod _ s).trans (stands_spareTaken ..)) (.refl s)
  · refine stands_ite (((stands_mmod _ s).trans (stands_slotLost ..)).trans (stands_spareTaken ..)) ?_
    exact (stands_flag _ _ s).trans (stands_spareMissing ..)

theorem stands_dramTrain (trained : BitVec 3) (s : State) : Stands s (dramTrain trained s) := by
  unfold dramTrain
  extract_lets s₁ s₂ ok
  have h₁ : Stands s s₁ := stands_foldl (fun s r => stands_ite (.refl s) (stands_rankFails r s)) _ s
  have h₂ : Stands s s₂ := (h₁.trans (stands_mmod _ s₁)).trans (stands_syncMap _)
  exact (h₂.trans (stands_dPut _ _ _ s₂)).trans (stands_dPut ..)

/-! ### Cores -/

theorem stands_coreStop (c p : Fin 6) (s : State) : Stands s (coreStop c p s) := ⟨rfl, rfl, rfl⟩

theorem stands_loadMicrocode (p : Fin 6) (h : Nat) (s : State) : Stands s (loadMicrocode p h s) := by
  unfold loadMicrocode
  exact stands_ite (stands_kmod ..) (stands_kmod ..)

theorem stands_coreLoad (c : Fin 6) (cause : Fin 4) (s : State) : Stands s (coreLoad c cause s) := by
  unfold coreLoad
  split
  · exact .refl s
  · rename_i p _
    refine stands_ite (.refl s) (stands_ite ((stands_ite (.refl s) (stands_loadMicrocode ..)).trans (stands_coreStart ..)) ?_)
    refine stands_ite (.refl s) ?_
    extract_lets load body s₁ s₂ entry boot _ s₃
    have h₁ : Stands s s₁ := stands_loadMicrocode ..
    have h₂ : Stands s s₂ := h₁.trans (stands_ite (.refl s₁) (stands_wrBytes ..))
    have h₃ : Stands s s₃ := h₂.trans ⟨rfl, rfl, rfl⟩
    exact (h₃.trans (stands_coreStart _ _ _ s₃)).trans (stands_kmod ..)

theorem stands_coreRequestsReset (c : Fin 6) (s : State) : Stands s (coreRequestsReset c s) := by
  unfold coreRequestsReset
  refine stands_ite ((stands_rosterReinit s).trans (stands_proxiesReset _)) (stands_ite (stands_pkeReinit s) (.refl s))

theorem stands_spareStop (s : State) : Stands s (spareStop s) := by
  unfold spareStop
  extract_lets s₁
  have h₁ : Stands s s₁ := stands_ite (stands_pstatEnd ..) (.refl s)
  clear_value s₁
  split
  · exact h₁.trans ⟨rfl, rfl, rfl⟩
  · exact h₁

theorem stands_substitute (c q : Fin 6) (s : State) : Stands s (substitute c q s) := by
  unfold substitute
  extract_lets s₁ _ s₂ h s₃ s₄
  have h₂ : Stands s s₂ := (stands_spareStop s).trans ⟨rfl, rfl, rfl⟩
  have h₃ : Stands s s₃ := h₂.trans (stands_ite (.refl s₂) (stands_loadMicrocode ..))
  have h₄ : Stands s s₄ := h₃.trans (stands_ite (stands_coreStart ..) (.refl s₃))
  exact h₄.trans (stands_coreRequestsReset c s₄)

theorem stands_setFns (l : List (Fin 20)) (s : State) : Stands s (coreMissing.setFns l s) :=
  stands_foldS (fun n s => stands_setFn n 2 s) l s

theorem stands_coreMissing (c : Fin 6) (s : State) : Stands s (coreMissing c s) := by
  unfold coreMissing
  split
  · exact (stands_setFns _ s).trans (stands_coreRequestsReset 1 _)
  · exact (stands_setFn 10 3 s).trans (stands_pkeReinit _)
  · exact .refl s
  · exact stands_setFn 0 2 s

theorem stands_syncKz (s : State) : Stands s (syncKz s) := by
  unfold syncKz
  exact (stands_setRegN _ _ s).trans (stands_setRegN ..)

theorem stands_retireCore (p : Fin 6) (det id : Nat) (inj : Bool) (s : State) : Stands s (retireCore p det id inj s).1 := by
  unfold retireCore
  split
  · exact .refl s
  · extract_lets s₁ _ s₂
    have h₂ : Stands s s₂ := (stands_rollReturn 9 s).trans ⟨rfl, rfl, rfl⟩
    clear_value s₂
    split
    · exact h₂.trans (stands_syncKz s₂)
    · rename_i c _
      extract_lets s₃ s₄ _ s₅ s₆ s₇
      have h₃ : Stands s s₃ := (h₂.trans (stands_coreStop c p s₂)).trans (stands_flag ..)
      clear_value s₃
      have h₄ : Stands s s₄ := (h₃.trans (stands_setRegN _ _ s₃)).trans (stands_fire ..)
      clear_value s₄
      have h₅ : Stands s s₅ := h₄.trans ⟨rfl, rfl, rfl⟩
      have h₆ : Stands s s₆ := h₅.trans (stands_ite (stands_flag ..) (.refl s₅))
      have h₇ : Stands s s₇ :=
        (((h₅.trans (stands_flag _ _ s₅)).trans (stands_syncKz _)).trans (stands_healthEvent ..)).trans (stands_spareMissing ..)
      clear_value s₅ s₆ s₇
      split
      · dsimp only
        exact ((h₅.trans (stands_coreMissing 4 s₅)).trans (stands_syncKz _)).trans (stands_healthEvent ..)
      · split
        · dsimp only
          exact ((h₅.trans (stands_spareTaken 9 s₅)).trans (stands_syncKz _)).trans (stands_healthEvent ..)
        · split
          · rename_i q _
            dsimp only
            exact (((h₆.trans (stands_substitute c q s₆)).trans (stands_syncKz _)).trans (stands_spareTaken ..)).trans (stands_healthEvent ..)
          · split
            · exact h₇
            · exact h₇.trans (stands_coreMissing ..)

/-! ### The units that the last test found failing (R494) -/

theorem stands_retireUnit (u : TestUnit) (s : State) : Stands s (retireUnit u s) := by
  unfold retireUnit
  split
  · exact stands_retireLane ..
  · exact stands_retireEngine ..
  · exact stands_retireSlice ..
  · exact stands_rankFails ..
  · exact stands_ite (stands_takeRow ..) (.refl s)
  · split
    · exact stands_retireCore ..
    · exact .refl s
  · exact .refl s

theorem stands_retireUnits (s : State) : Stands s (retireUnits s) := by
  unfold retireUnits
  refine Stands.trans ?_ (stands_foldl (fun s u => stands_retireUnit u s) _ _)
  exact ⟨rfl, rfl, rfl⟩

/-! ### A domain that leaves ON, goes OFF or comes back (R425, R430) -/

theorem stands_linksConfigure (s : State) : Stands s (linksConfigure s) := ⟨rfl, rfl, rfl⟩

theorem stands_syncBegin (s : State) : Stands s (syncBegin s) := stands_syncEnter _ s

theorem stands_layout (s : State) : Stands s (roleEnable (layoutSet s)) :=
  (onlyRegs_layoutSet s).stands.trans (onlyRegs_roleEnable _).stands

theorem stands_domLeave (d : Fin 24) (s : State) : Stands s (domLeave d s) := by
  unfold domLeave
  split
  · exact stands_flashLeave s
  · exact stands_rosterReinit s
  · extract_lets s₁ s₂ s₃
    have h₁ : Stands s s₁ :=
      ((((stands_rxDiscard s).trans (stands_rfAbort 0 _)).trans (stands_settle _)).trans (stands_txmReinit _)).trans (stands_lnkReinit _)
    have h₂ : Stands s s₂ := h₁.trans (stands_ite (stands_sluReinit s₁) (.refl s₁))
    have h₃ : Stands s s₃ := h₂.trans (stands_ite ((stands_lnkMod _ s₂).trans (stands_produceSt ..)) (.refl s₂))
    exact h₃.trans (stands_rfMod _ s₃)
  · exact stands_acqReinit s
  · exact stands_framesReset _ s
  · exact stands_framesReset _ s
  · exact (stands_framesReset _ s).trans (stands_waveTestReset _)
  · exact stands_txmReinit s
  · exact (stands_cwyReinit s).trans (stands_rosterReinit _)
  · exact stands_sluReinit s
  · exact ((stands_urgentReset s).trans (stands_cmcReinit _)).trans (stands_pkeReinit _)
  · exact ⟨rfl, rfl, rfl⟩
  · exact ⟨rfl, rfl, rfl⟩
  · exact .refl s

theorem stands_coreOff (c : Fin 6) (s : State) : Stands s (coreOff c s) := by
  unfold coreOff
  extract_lets s₁ _ s₂ lo
  have h₁ : Stands s s₁ := by
    dsimp only [s₁]
    split
    · exact stands_kmod ..
    · exact .refl s
  have h₂ : Stands s s₂ := h₁.trans ⟨rfl, rfl, rfl⟩
  exact h₂.trans (stands_cellsLost _ _ s₂)

theorem stands_domLose (d : Fin 24) (s : State) : Stands s (domLose d s) := by
  unfold domLose
  split
  · exact stands_cellsLost ..
  · exact stands_cellsLost ..
  · exact stands_cellsLost ..
  · exact (stands_regsLost _ _ s).trans (stands_regsLost ..)
  · extract_lets s₁
    have h₁ : Stands s s₁ := ((stands_regsLost _ _ s).trans (stands_cellsLost ..)).trans (stands_mmod ..)
    have h₂ : Stands s (syncMig (syncMap (s₁.dPut 0x3200 0x2D 2))) := h₁.trans (((stands_dPut _ _ _ s₁).trans (stands_syncMap _)).trans (stands_syncMig _))
    exact (h₂.trans (stands_syncPoison _)).trans (stands_syncRecords _)
  · extract_lets s₁
    have h₁ : Stands s s₁ := (stands_regsLost _ _ s).trans (stands_regsLost ..)
    exact h₁.trans ⟨rfl, rfl, rfl⟩
  · exact ((stands_regsLost _ _ s).trans (stands_rxMod ..)).trans (stands_syncRx _)
  · exact (stands_regsLost _ _ s).trans (stands_syncRx _)
  · exact (stands_regsLost _ _ s).trans (stands_syncRx _)
  · exact (stands_txmMod _ s).trans (stands_regsLost ..)
  · exact ((stands_cwyMod _ s).trans (stands_regsLost ..)).trans (stands_cellsLost ..)
  · exact (stands_sluMod _ s).trans (stands_regsLost ..)
  · exact (stands_secMod _ s).trans (stands_regsLost ..)
  · exact stands_regsLost ..
  · split
    · exact stands_coreOff ..
    · exact .refl s

theorem stands_domRetain (d : Fin 24) (s : State) : Stands s (domRetain d s) := (numberKept_domRetain d s).stands

theorem stands_domStart (d : Fin 24) (trained : BitVec 3) (s : State) : Stands s (domStart d trained s) := by
  unfold domStart
  split
  · exact stands_moveWindow s
  · exact stands_dramTrain trained s
  · extract_lets s₁
    have h₁ : Stands s s₁ := ((stands_rfMod _ s).trans (stands_layout _)).trans (stands_syncBegin _)
    exact (h₁.trans (stands_setTune _ _ s₁)).trans (stands_calAsk ..)
  · exact stands_layout s
  · exact (onlyRegs_layoutSet s).stands
  · exact stands_dpdLoad _ s
  · extract_lets s₁ t
    have h₁ : Stands s s₁ := stands_layout s
    exact stands_ite h₁ ((h₁.trans (stands_wrBytes _ _ s₁)).trans (stands_routeCommit _))
  · exact stands_layout s
  · exact stands_keyAreaCheck true s
  · exact stands_linksConfigure s
  · split
    · exact stands_ite (stands_coreLoad ..) (.refl s)
    · exact .refl s

theorem stands_coreResume (d : Fin 24) (s : State) : Stands s (coreResume d s) := by
  unfold coreResume
  split
  · split
    · exact stands_kmod ..
    · exact .refl s
  · exact .refl s

theorem stands_clockUpdate (s : State) : Stands s (clockUpdate s) := ⟨rfl, rfl, rfl⟩

/-! ### A domain takes a state -/

/-- The domain's own state changed, and nothing else that stands. -/
structure DomainTaken (d : Fin 24) (w : DomState) (s t : State) : Prop where
  boot : t.boot = s.boot
  serving : t.links.serving = s.links.serving
  dom : t.pcc.dom = if d.1 < 2 then s.pcc.dom else vset s.pcc.dom d w

theorem domSet_taken (d : Fin 24) (w : DomState) (trained : BitVec 3) (s : State) : DomainTaken d w s (domSet d w trained s) := by
  unfold domSet
  extract_lets was before s₁ s₂ s₃
  split
  · rename_i hsame
    refine ⟨rfl, rfl, ?_⟩
    split
    · rfl
    · rename_i hlow
      have hw : vget s.pcc.dom d = w := hsame.resolve_right hlow
      rw [← hw, vset_vget]
  · rename_i hchange
    obtain ⟨-, hlow⟩ := not_or.1 hchange
    have h₁ : Stands s s₁ := stands_ite (stands_domLeave d s) (.refl s)
    have hdom : s₂.pcc.dom = vset s₁.pcc.dom d w := rfl
    have hboot : s₂.boot = s₁.boot := rfl
    have hserving : s₂.links.serving = s₁.links.serving := rfl
    have h₃ : Stands s₂ s₃ := by
      dsimp only [s₃]
      split
      · exact stands_domLose ..
      · exact stands_domRetain ..
      · exact stands_ite (stands_domStart ..) (stands_coreResume ..)
    have hend := (h₃.trans (stands_clockUpdate s₃)).trans (stands_fnNotices before _)
    refine ⟨hend.boot.trans (hboot.trans h₁.boot), hend.serving.trans (hserving.trans h₁.serving), ?_⟩
    rw [if_neg hlow, hend.dom, hdom, h₁.dom]

theorem domSet_isOn (d e : Fin 24) (w : DomState) (trained : BitVec 3) (s : State) :
    (domSet d w trained s).isOn e = if d = e ∧ 2 ≤ d.1 then decide (w = .on) else s.isOn e := by
  unfold State.isOn
  rw [(domSet_taken d w trained s).dom]
  by_cases hlow : d.1 < 2
  · rw [if_pos hlow, if_neg (by omega)]
  · rw [if_neg hlow, vget_vset]
    by_cases hde : d = e
    · rw [if_pos hde, if_pos ⟨hde, by omega⟩]
      cases w <;> rfl
    · rw [if_neg hde, if_neg (fun h => hde h.1)]

end Sys2Proof.Machine
end

section
/-! SUPPORT. The heartbeat's entry through what main firmware does after it has set it to 0: the domains it turns ON, the role and what it takes
back after an activation restart (R49, R456, R465). -/

namespace Sys2Proof.Machine

/-- The heartbeat's entry stands as it was. -/
structure Beat (s t : State) : Prop where
  entry : t.dGet 0x1200 3 = s.dGet 0x1200 3

theorem Beat.refl (s : State) : Beat s s := ⟨rfl⟩

theorem Beat.trans {s t u : State} (h : Beat s t) (h' : Beat t u) : Beat s u := ⟨h'.entry.trans h.entry⟩

theorem Beat.of_dict {s t : State} (h : t.dict = s.dict) : Beat s t := by
  refine ⟨?_⟩
  unfold State.dGet
  rw [h]

theorem Beat.after {s t u : State} (h : Beat t u) (hd : t.dict = s.dict) : Beat s u := (Beat.of_dict hd).trans h

theorem beat_ite {c : Prop} [Decidable c] {s t u : State} (ht : Beat s t) (hu : Beat s u) : Beat s (if c then t else u) := by
  split
  · exact ht
  · exact hu

theorem beat_foldl {α : Type} {f : State → α → State} (step : ∀ s x, Beat s (f s x)) (l : List α) (s : State) : Beat s (l.foldl f s) :=
  foldl_keeps Beat.refl Beat.trans step l s

theorem beat_foldS {α : Type} {f : α → State → State} (step : ∀ x s, Beat s (f x s)) (l : List α) (s : State) : Beat s (foldS f l s) :=
  foldS_keeps Beat.refl Beat.trans step l s

/-! ### Entries beside it -/

theorem beat_dSet {x y : Nat} (h : 0x1200 < x) (v : List Byte) (s : State) : Beat s (s.dSet x y v) := by
  refine ⟨dGet_dSet_ne s v ?_⟩
  unfold key
  omega

theorem beat_dPut {x y : Nat} (h : 0x1200 < x) (v : Nat) (s : State) : Beat s (s.dPut x y v) := beat_dSet h _ s

theorem beat_produceSt {x y : Nat} (h : 0x1200 < x) (st : Status) (s : State) : Beat s (s.produceSt x y st) :=
  (beat_dSet h [st] s).trans (.of_dict rfl)

theorem OnlyRegs.beat {s t : State} (h : OnlyRegs s t) : Beat s t := .of_dict h.dict

theorem beat_notify (x y : Nat) (st : Status) (d : List Byte) (s : State) : Beat s (s.notify x y st d) := by
  obtain ⟨o, h⟩ := notifyAt_frame s x y 0 st d
  unfold State.notify
  rw [h]
  exact .of_dict rfl

theorem beat_fnNotices (before : Vector Byte 20) (s : State) : Beat s (fnNotices before s) :=
  beat_foldS (fun _ s => beat_ite (.refl s) (beat_notify ..)) _ s

theorem beat_raiseGrade (k g : Nat) (s : State) : Beat s (raiseGrade k g s) := by
  unfold raiseGrade
  refine beat_ite (.of_dict rfl) ?_
  exact (beat_dPut (by decide) g s).trans ((beat_notify ..).after rfl)

theorem beat_spareTaken (k : Nat) (s : State) : Beat s (spareTaken k s) :=
  ((beat_dPut (by decide) _ s).trans (beat_dPut (by decide) _ _)).trans (beat_raiseGrade ..)

/-! ### What a domain's return restores -/

theorem beat_syncPoison (s : State) : Beat s (syncPoison s) := (beat_dPut (by decide) ..).after rfl

theorem beat_syncRecords (s : State) : Beat s (syncRecords s) := by
  unfold syncRecords
  extract_lets s₁ l
  have h₁ : Beat s s₁ := beat_syncPoison s
  exact (h₁.trans (beat_dPut (by decide) _ s₁)).trans (beat_dPut (by decide) _ _)

theorem beat_syncMap (s : State) : Beat s (syncMap s) := (beat_dPut (by decide) ..).after rfl

theorem beat_slotLost (k : Fin 2) (s : State) : Beat s (slotLost k s) := by
  unfold slotLost
  extract_lets lo
  exact (beat_syncRecords _).after rfl

theorem beat_rankFails (r : Fin 3) (s : State) : Beat s (rankFails r s) := by
  unfold rankFails
  refine beat_ite (.refl s) ?_
  split
  · refine beat_ite ?_ (.refl s)
    exact (beat_spareTaken ..).after rfl
  · refine beat_ite ?_ ?_
    · refine Beat.trans ?_ (beat_spareTaken ..)
      exact (beat_slotLost ..).after rfl
    · exact (beat_raiseGrade ..).after rfl

theorem beat_dramTrain (trained : BitVec 3) (s : State) : Beat s (dramTrain trained s) := by
  unfold dramTrain
  extract_lets s₁ s₂ ok
  have h₁ : Beat s s₁ := beat_foldl (fun s r => beat_ite (.refl s) (beat_rankFails r s)) _ s
  have h₂ : Beat s₁ s₂ := (beat_syncMap _).after rfl
  exact ((h₁.trans h₂).trans (beat_dPut (by decide) _ s₂)).trans (beat_dPut (by decide) _ _)

theorem beat_moveWindow (s : State) : Beat s (moveWindow s) := by
  unfold moveWindow
  split
  · exact (beat_dPut (by decide) ..).after rfl
  · exact .of_dict rfl

theorem beat_setTune (a b : Nat) (s : State) : Beat s (setTune a b s) := (beat_dPut (by decide) ..).after rfl

theorem beat_calEnd (st : Status) (s : State) : Beat s (calEnd st s) := (beat_produceSt (by decide) ..).after rfl

theorem beat_calAsk (set : Nat) (s : State) : Beat s (calAsk set s) := by
  unfold calAsk
  refine beat_ite (beat_calEnd ..) ?_
  extract_lets s₁ live now want s₂ s₃
  have h₃ : Beat s s₃ := .of_dict rfl
  exact beat_ite (h₃.trans (beat_calEnd ..)) h₃

theorem beat_syncEnter (x : Sync) (s : State) : Beat s (syncEnter x s) := by
  unfold syncEnter
  extract_lets was s₁ s₂ st
  have h₁ : Beat s s₁ := (beat_dPut (by decide) ..).after rfl
  have h₂ : Beat s s₂ := h₁.trans (beat_ite (.of_dict rfl) (.refl s₁))
  exact beat_ite h₂ (h₂.trans ((beat_dSet (by decide) _ s₂).trans (beat_notify ..)))

theorem beat_setReg (a : Nat) (v : BitVec 32) (s : State) : Beat s (s.setReg a v) := .of_dict rfl

theorem beat_wrBytes (a : Nat) (bs : List Byte) (s : State) : Beat s (s.wrBytes a bs) := .of_dict rfl

theorem beat_rfMod (f : Rf → Rf) (s : State) : Beat s (rfMod f s) := .of_dict rfl

theorem beat_putCoefs (b : Fin 4) (l : List (BitVec 32)) (s : State) : Beat s (putCoefs b l s) := by
  refine beat_foldS (fun i s => ?_) _ s
  exact beat_setReg ..

/-- A band takes its coefficients and its ceiling. -/
theorem beat_bandLoaded (b : Fin 4) (l : List (BitVec 32)) (v : Int) (s : State) : Beat s (setCeiling b v (putCoefs b l s)) :=
  (beat_putCoefs b l s).trans (beat_setReg ..)

theorem beat_syncBands (s : State) : Beat s (syncBands s) := (beat_dPut (by decide) _ s).trans (beat_dPut (by decide) ..)

theorem beat_dpdLoad (v : List Byte) (s : State) : Beat s (dpdLoad v s) := by
  unfold dpdLoad
  extract_lets s₁
  have h₁ : Beat s s₁ := beat_dSet (by decide) v s
  refine (h₁.trans (beat_foldS (fun b s => ?_) _ s₁)).trans (beat_syncBands _)
  exact beat_ite (.refl s) (beat_bandLoaded ..)

theorem beat_routeCommit (s : State) : Beat s (routeCommit s).2 := by
  unfold routeCommit
  split
  · exact beat_produceSt (by decide) ..
  · exact .of_dict rfl

theorem beat_syncKeys (s : State) : Beat s (syncKeys s) := by
  unfold syncKeys
  extract_lets e s₁ c s₂ s₃
  have h₁ : Beat s s₁ := by
    refine beat_foldS (fun i s => ?_) _ s
    exact beat_setReg ..
  have h₃ : Beat s s₃ := (h₁.trans (beat_setReg _ _ s₁)).trans (beat_setReg _ _ s₂)
  exact (h₃.trans (beat_dPut (by decide) _ s₃)).trans (beat_dPut (by decide) _ _)

theorem beat_keyArea (s : State) : Beat s (keyAreaCheck true s) := by
  unfold keyAreaCheck
  split
  · exact .refl s
  · rw [if_pos rfl]
    exact (beat_syncKeys _).after rfl

theorem beat_layout (s : State) : Beat s (roleEnable (layoutSet s)) := (onlyRegs_layoutSet s).beat.trans (onlyRegs_roleEnable _).beat

theorem beat_syncBegin (s : State) : Beat s (syncBegin s) := beat_syncEnter _ s

theorem coreStart_dict (c : Fin 6) (cause : Fin 4) (pc : BitVec 32) (s : State) : (coreStart c cause pc s).dict = s.dict := by
  unfold coreStart
  split <;> rfl

theorem loadMicrocode_dict (p : Fin 6) (h : Nat) (s : State) : (loadMicrocode p h s).dict = s.dict := by
  unfold loadMicrocode
  dsimp only
  split <;> rfl

theorem coreLoad_dict (c : Fin 6) (cause : Fin 4) (s : State) : (coreLoad c cause s).dict = s.dict := by
  unfold coreLoad
  split
  · rfl
  · rename_i p _
    split
    · rfl
    · split
      · dsimp only
        rw [coreStart_dict]
        split
        · rfl
        · exact loadMicrocode_dict ..
      · extract_lets k h load body s₁ s₂ entry boot _ s₃
        split
        · rfl
        · have h₁ : s₁.dict = s.dict := loadMicrocode_dict ..
          clear_value s₁
          have h₂ : s₂.dict = s₁.dict := by
            dsimp only [s₂]
            split <;> rfl
          clear_value s₂
          have h₃ : s₃.dict = s₂.dict := rfl
          have h₄ : (coreStart c cause (s₃.bootPc c) s₃).dict = s₃.dict := coreStart_dict ..
          exact h₄.trans (h₃.trans (h₂.trans h₁))

theorem beat_domStart (d : Fin 24) (trained : BitVec 3) (s : State) : Beat s (domStart d trained s) := by
  unfold domStart
  split
  · exact beat_moveWindow s
  · exact beat_dramTrain trained s
  · extract_lets s₁
    have h₁ : Beat s s₁ := ((beat_layout _).trans (beat_syncBegin _)).after rfl
    exact (h₁.trans (beat_setTune _ _ s₁)).trans (beat_calAsk ..)
  · exact beat_layout s
  · exact (onlyRegs_layoutSet s).beat
  · exact beat_dpdLoad _ s
  · extract_lets s₁ t
    have h₁ : Beat s s₁ := beat_layout s
    exact beat_ite h₁ ((h₁.trans (beat_wrBytes _ _ s₁)).trans (beat_routeCommit _))
  · exact beat_layout s
  · exact beat_keyArea s
  · exact .of_dict rfl
  · split
    · exact beat_ite (.of_dict (coreLoad_dict ..)) (.refl s)
    · exact .refl s

theorem coreResume_dict (d : Fin 24) (s : State) : (coreResume d s).dict = s.dict := by
  unfold coreResume
  split
  · split <;> rfl
  · rfl

/-! ### A domain turned ON, and the domains that an activation restart turned OFF -/

/-- HOSTIO and the domains of the cores but core 0: what an activation restart turns OFF. -/
def OffAtRestart (d : Fin 24) : Prop := d = dHOSTIO ∨ (3 ≤ d.1 ∧ d.1 ≤ 7)

theorem domLeave_dict {d : Fin 24} (h : OffAtRestart d) (s : State) : (domLeave d s).dict = s.dict := by
  obtain rfl | ⟨hlo, hhi⟩ := h
  · rfl
  · obtain h | h | h | h | h : d = 3 ∨ d = 4 ∨ d = 5 ∨ d = 6 ∨ d = 7 := by omega
    all_goals rw [h]; rfl

theorem coreOff_dict (c : Fin 6) (s : State) : (coreOff c s).dict = s.dict := by
  unfold coreOff
  dsimp only
  split <;> rfl

theorem domLose_dict {d : Fin 24} (h : OffAtRestart d) (s : State) : (domLose d s).dict = s.dict := by
  obtain rfl | ⟨hlo, hhi⟩ := h
  · rfl
  · obtain h | h | h | h | h : d = 3 ∨ d = 4 ∨ d = 5 ∨ d = 6 ∨ d = 7 := by omega
    all_goals rw [h]; exact coreOff_dict _ s

theorem domRetain_plain {d : Fin 24} (h : OffAtRestart d) (s : State) : domRetain d s = s := by
  unfold domRetain
  obtain rfl | ⟨hlo, hhi⟩ := h
  · rfl
  · rw [if_neg, if_neg]
    · exact fun h => absurd (congrArg Fin.val h) (Nat.ne_of_lt (Nat.lt_of_le_of_lt hhi (by decide)))
    · exact fun h => absurd (congrArg Fin.val h) (Nat.ne_of_lt (Nat.lt_of_le_of_lt hhi (by decide)))

theorem beat_domSet {d : Fin 24} {w : DomState} (h : w = .on ∨ OffAtRestart d) (trained : BitVec 3) (s : State) :
    Beat s (domSet d w trained s) := by
  unfold domSet
  extract_lets was before s₁ s₂ s₃
  split
  · exact .refl s
  · rename_i hchange
    obtain ⟨hwas, -⟩ := not_or.1 hchange
    have h₁ : Beat s s₁ := by
      dsimp only [s₁]
      split
      · rename_i hon
        have hd : OffAtRestart d := h.resolve_left (fun hw => hwas (hon.trans hw.symm))
        exact .of_dict (domLeave_dict hd s)
      · exact .refl s
    have h₂ : Beat s s₂ := h₁.trans (.of_dict rfl)
    have h₃ : Beat s s₃ := by
      refine h₂.trans ?_
      dsimp only [s₃]
      split
      · exact .of_dict (domLose_dict (h.resolve_left (by decide)) s₂)
      · rw [domRetain_plain (h.resolve_left (by decide))]
        exact .refl s₂
      · exact beat_ite (beat_domStart ..) (.of_dict (coreResume_dict d s₂))
    refine (h₃.trans ?_).trans (beat_fnNotices before _)
    exact .of_dict rfl

/-! ### The role -/

theorem beat_loadSlot (i : Fin 16) (k : KeySlot) (s : State) : Beat s (loadSlot i k s) := .of_dict rfl

theorem beat_eraseThird (w : Nat) (s : State) : Beat s (eraseThird w s) := beat_foldS (fun _ s => beat_loadSlot _ _ s) _ s

theorem beat_storeArea (s : State) : Beat s (storeArea s) := by
  exact (beat_syncKeys _).after rfl

theorem beat_erasePrev (s : State) : Beat s (erasePrev s) := by
  refine Beat.trans ?_ (beat_storeArea _)
  exact (beat_eraseThird 1 s).trans (.of_dict rfl)

theorem beat_rotate (s : State) : Beat s (rotate s) := by
  unfold rotate
  split
  · exact .refl s
  · extract_lets at_ s₁ s₂ was s₃ s₄
    have h₁ : Beat s s₁ := beat_ite (.refl s) (beat_loadSlot ..)
    have h₃ : Beat s s₃ := (h₁.trans (beat_eraseThird 1 s₁)).trans (.of_dict rfl)
    have h₄ : Beat s s₄ := (h₃.trans (beat_dPut (by decide) 0 s₃)).trans (beat_storeArea _)
    clear_value s₄
    split
    · exact beat_ite (h₄.trans (beat_erasePrev s₄)) h₄
    · exact h₄

theorem beat_keyRotation (s : State) : Beat s (keyRotation s) := by
  unfold keyRotation
  split
  · exact beat_ite (beat_rotate s) (.refl s)
  · exact .refl s

theorem beat_previousEpochErase (s : State) : Beat s (previousEpochErase s) := by
  unfold previousEpochErase
  split
  · exact beat_ite (beat_erasePrev s) (.refl s)
  · exact .refl s

theorem beat_keyRearm (s : State) : Beat s (keyRearm s) := by
  unfold keyRearm
  refine beat_ite ?_ (.refl s)
  refine (Beat.trans ?_ (beat_keyRotation _)).trans (beat_previousEpochErase _)
  exact .of_dict rfl

theorem stands_pd1SourceChanged (s : State) : Stands s (pd1SourceChanged s) := by
  obtain ⟨p, e, h⟩ := pd1SourceChanged_frame s
  rw [h]
  exact ⟨rfl, rfl, rfl⟩

theorem stands_roleTake (r : Nat) (s : State) : Stands s (roleTake r s) := by
  unfold roleTake
  extract_lets before s₁ s₂ s₃
  have h₂ : Stands s s₂ := (((stands_dPut _ _ r s).trans (stands_pd1SourceChanged _)).trans (stands_layout s₁)).trans (stands_syncBegin _)
  have h₃ : Stands s s₃ := h₂.trans (stands_ite (stands_rfMod ..) (.refl s₂))
  exact h₃.trans (stands_fnNotices before s₃)

theorem beat_role (r : Nat) (s : State) : Beat s (s.dPut 0x1200 1 r) := ⟨dGet_dPut_ne s r (by decide)⟩

theorem beat_roleTake (r : Nat) (s : State) : Beat s (roleTake r s) := by
  unfold roleTake
  extract_lets before s₁ s₂ s₃
  have h₁ : Beat s s₁ := (beat_role r s).trans (.of_dict (pd1SourceChanged_dict (s.dPut 0x1200 1 r)))
  have h₂ : Beat s s₂ := (h₁.trans (beat_layout s₁)).trans (beat_syncBegin _)
  have h₃ : Beat s s₃ := h₂.trans (beat_ite (beat_rfMod ..) (.refl s₂))
  exact h₃.trans (beat_fnNotices before s₃)

/-- A role that begins leaves what stands and the heartbeat alone. -/
theorem roleStart_keeps (r : Nat) (s : State) : Stands s (roleStart r s) ∧ Beat s (roleStart r s) := by
  unfold roleStart
  extract_lets s₁
  have hroot : Stands s (if r = 3 then rootRoleStart s else s) ∧ Beat s (if r = 3 then rootRoleStart s else s) := by
    obtain ⟨p, b, h⟩ := rootRoleStart_frame s
    rw [h]
    exact ⟨stands_ite ⟨rfl, rfl, rfl⟩ (.refl s), beat_ite (.of_dict rfl) (.refl s)⟩
  have hs : Stands s s₁ := hroot.1.trans (stands_roleTake r _)
  have hb : Beat s s₁ := hroot.2.trans (beat_roleTake r _)
  exact ⟨stands_ite (hs.trans (keyStoreOnly_keyRearm s₁).stands) hs, beat_ite (hb.trans (beat_keyRearm s₁)) hb⟩

theorem roleSet_keeps {r : Nat} (h : r ≠ 0) (s : State) : Stands s (roleSet r s).2 ∧ Beat s (roleSet r s).2 := by
  unfold roleSet
  rw [if_neg h]
  split
  · exact ⟨.refl s, .refl s⟩
  · split
    · exact ⟨.refl s, .refl s⟩
    · split
      · exact ⟨.refl s, .refl s⟩
      · split
        · exact ⟨stands_dPut .., ⟨dGet_dPut_ne s _ (by decide)⟩⟩
        · exact roleStart_keeps r s

end Sys2Proof.Machine
end

section
/-! SUPPORT. MAIN_FIRMWARE_START: what it leaves of the start's stage, of the dictionary served and of the heartbeat, and the domains it turns ON
(R49, R456, R462 to R465, R494). -/

namespace Sys2Proof.Machine

/-- Main firmware runs and the dictionary is served. -/
structure MainUp (t : State) : Prop where
  stage : t.boot.stage = .main
  serving : t.links.serving = .main

theorem MainUp.stands {s t : State} (hs : MainUp s) (h : Stands s t) : MainUp t :=
  ⟨by rw [h.boot, hs.stage], by rw [h.serving, hs.serving]⟩

theorem MainUp.domSet {s : State} (hs : MainUp s) (d : Fin 24) (w : DomState) (trained : BitVec 3) : MainUp (domSet d w trained s) := by
  have h := domSet_taken d w trained s
  exact ⟨by rw [h.boot, hs.stage], by rw [h.serving, hs.serving]⟩

theorem Stands.isOn {s t : State} (h : Stands s t) (d : Fin 24) : t.isOn d = s.isOn d := by
  unfold State.isOn
  rw [h.dom]

theorem isOn_domSet_on {s : State} {e : Fin 24} (h : s.isOn e = true) (d : Fin 24) (trained : BitVec 3) :
    (domSet d .on trained s).isOn e = true := by
  rw [domSet_isOn]
  split
  · rfl
  · exact h

theorem Beat.zero {s t : State} (h : Beat s t) (hs : s.dU 0x1200 3 = 0) : t.dU 0x1200 3 = 0 := by
  unfold State.dU at hs ⊢
  rw [h.entry, hs]

/-! ### The settings, the units to retire and the formats -/

theorem stands_loadSaved (kept : Bool) (s : State) : Stands s (loadSaved kept s) := by
  refine stands_foldl (fun s p => ?_) _ s
  exact stands_ite (.refl s) (stands_dSet ..)

theorem stands_startEntries (s : State) : Stands s (startEntries s) := by
  unfold startEntries
  extract_lets b s₁
  have h₁ : Stands s s₁ := stands_dPut ..
  refine h₁.trans (stands_foldl (fun s c => ?_) _ s₁)
  exact stands_dPut ..

theorem stands_lifeLoad (s : State) : Stands s (lifeLoad s) := by
  unfold lifeLoad
  refine Stands.trans ?_ (stands_dPut ..)
  refine stands_foldl (fun s k => ?_) _ s
  exact stands_dPut ..

theorem mainUp_foldS {α : Type} {f : α → State → State} (step : ∀ x s, MainUp s → MainUp (f x s)) (l : List α) {s : State} (h : MainUp s) :
    MainUp (foldS f l s) := by
  induction l generalizing s with
  | nil => exact h
  | cons x l ih => exact ih (step x s h)

theorem mainUp_keepFormat (trained : BitVec 3) {s : State} (hs : MainUp s) : MainUp (keepFormat trained s) := by
  unfold keepFormat
  extract_lets f c back s₁ s₂ s₃
  split
  · exact hs
  · have h₁ : MainUp s₁ := by
      refine mainUp_foldS (fun d s h => ?_) _ hs
      split
      · exact h
      · exact h.domSet d .off 7
    have h₂ : MainUp s₂ := h₁.stands (stands_cellsLost ..)
    have h₃ : MainUp s₃ := by
      refine mainUp_foldS (fun d s h => ?_) _ h₂
      split
      · exact h
      · exact h.domSet d .on trained
    exact h₃.stands (stands_bootPut ..)

/-! ### The domains and the role (R456) -/

/-- Main firmware runs with the heartbeat at 0. -/
structure BeatsFromZero (t : State) : Prop extends MainUp t where
  zero : t.dU 0x1200 3 = 0

theorem BeatsFromZero.keep {s t : State} (hs : BeatsFromZero s) (h : Stands s t) (hb : Beat s t) : BeatsFromZero t :=
  ⟨hs.toMainUp.stands h, hb.zero hs.zero⟩

theorem BeatsFromZero.domSet {s : State} (hs : BeatsFromZero s) {d : Fin 24} {w : DomState} (h : w = .on ∨ OffAtRestart d) (trained : BitVec 3) :
    BeatsFromZero (domSet d w trained s) :=
  ⟨hs.toMainUp.domSet d w trained, (beat_domSet h trained s).zero hs.zero⟩

/-- Domains turned ON one after the other: those that were ON stay ON. -/
theorem domainsOn_keeps (l : List (Fin 24)) (trained : BitVec 3) {s : State} (hs : BeatsFromZero s) :
    BeatsFromZero (l.foldl (fun s d => domSet d .on trained s) s) ∧
    ∀ e, s.isOn e = true → (l.foldl (fun s d => domSet d .on trained s) s).isOn e = true := by
  induction l generalizing s with
  | nil => exact ⟨hs, fun _ h => h⟩
  | cons d l ih =>
    obtain ⟨hzero, hon⟩ := ih (hs.domSet (d := d) (Or.inl rfl) trained)
    exact ⟨hzero, fun e h => hon e (isOn_domSet_on h d trained)⟩

theorem startRole_keeps (trained : BitVec 3) {s : State} (hs : BeatsFromZero s) :
    BeatsFromZero (startRole trained s) ∧ ∀ e, s.isOn e = true → (startRole trained s).isOn e = true := by
  unfold startRole
  extract_lets r s₁
  split
  · exact ⟨hs, fun _ h => h⟩
  · rename_i hr
    obtain ⟨h₁, hon⟩ : BeatsFromZero s₁ ∧ ∀ e, s.isOn e = true → s₁.isOn e = true := domainsOn_keeps _ trained hs
    clear_value s₁
    split
    · exact ⟨h₁.keep ⟨rfl, rfl, rfl⟩ (.of_dict rfl), hon⟩
    · obtain ⟨hst, hb⟩ := roleSet_keeps hr s₁
      exact ⟨h₁.keep hst hb, fun e h => by rw [hst.isOn]; exact hon e h⟩

/-! ### What an activation restart gives back (R465) -/

theorem startRestored_keeps (before : Vector DomState 6) (role : Nat) {s : State} (hs : BeatsFromZero s) :
    BeatsFromZero (startRestored before role s) := by
  unfold startRestored
  extract_lets s₁ s₂ r
  have h₁ : BeatsFromZero s₁ := hs.domSet (Or.inr (Or.inl rfl)) 7
  have hstep : ∀ (i : Fin 5) (t : State), BeatsFromZero t → BeatsFromZero (domSet (Fin.ofNat 24 (3 + i.1)) (vget before (Fin.ofNat 6 i.1)) 7 t) := by
    intro i t ht
    have hi : (Fin.ofNat 24 (3 + i.1)).1 = 3 + i.1 := Nat.mod_eq_of_lt (by omega)
    exact ht.domSet (Or.inr (Or.inr (by omega))) 7
  have h₂ : BeatsFromZero s₂ := by
    dsimp only [s₂]
    clear_value s₁
    generalize fins 5 = l
    induction l generalizing s₁ with
    | nil => exact h₁
    | cons i l ih => exact ih _ (hstep i s₁ h₁)
  exact h₂.keep (stands_dPut ..) (beat_role ..)

/-! ### Versions raised in OTP (R311, R462) -/

theorem otpBurn_dict (i : Nat) (v got : BitVec 32) (s : State) : (otpBurn i v got s).2.dict = s.dict := by
  unfold otpBurn
  split <;> rfl

theorem otpBurnList_dict (got : BitVec 32) (l : List (Nat × BitVec 32)) (s : State) : (otpBurnList got l s).2.dict = s.dict := by
  induction l generalizing s with
  | nil => rfl
  | cons p l ih =>
    unfold otpBurnList
    dsimp only
    split
    · exact (ih _).trans (otpBurn_dict ..)
    · exact otpBurn_dict ..

theorem rollbackSet_dict (c level : Nat) (got : BitVec 32) (s : State) : (rollbackSet c level got s).2.dict = s.dict := by
  unfold rollbackSet
  split
  · rfl
  · split
    · rfl
    · exact otpBurnList_dict ..

/-- A step of the raise leaves what stands and the heartbeat alone. -/
def RaiseKeeps (a b : Status × State) : Prop := Stands a.2 b.2 ∧ Beat a.2 b.2

theorem RaiseKeeps.refl (a : Status × State) : RaiseKeeps a a := ⟨.refl _, .refl _⟩

theorem RaiseKeeps.trans {a b c : Status × State} (h : RaiseKeeps a b) (h' : RaiseKeeps b c) : RaiseKeeps a c :=
  ⟨h.1.trans h'.1, h.2.trans h'.2⟩

theorem raiseRollback_keeps (got : BitVec 32) (s : State) : Stands s (raiseRollback got s) ∧ Beat s (raiseRollback got s) := by
  unfold raiseRollback
  generalize hr : (fins 4).foldl _ (stOk, s) = r
  have hfold : RaiseKeeps (stOk, s) r := by
    rw [← hr]
    refine foldl_keeps RaiseKeeps.refl RaiseKeeps.trans (fun acc c => ?_) (fins 4) (stOk, s)
    extract_lets h lvl
    clear_value lvl
    split
    · exact .refl acc
    · split
      · exact .refl acc
      · have hs := stands_rollbackSet c.1 lvl got acc.2
        have hd := rollbackSet_dict c.1 lvl got acc.2
        rcases hset : rollbackSet c.1 lvl got acc.2 with ⟨st, t⟩
        rw [hset] at hs hd
        exact ⟨hs, .of_dict hd⟩
  clear hr
  obtain ⟨st, t⟩ := r
  obtain ⟨hs, hb⟩ := hfold
  exact ⟨hs.trans (stands_dPut ..), hb.trans (beat_dPut (by decide) ..)⟩

/-! ### The whole start -/

/-- What main firmware has loaded before the links serve the dictionary's users: settings, units and formats (R456, R464, R494). -/
def mainLoaded (trained : BitVec 3) (s : State) : State :=
  keepFormat trained (retireUnits (lifeLoad (startEntries (loadSaved s.boot.before.isSome { s with
    boot := { s.boot with stage := .main, before := none, kept := false }, links := { s.links with serving := .main } }))))

/-- The heartbeat from 0, with the health block counting. -/
def beatZero (s : State) : State := (s.setRegF 0x400A0000 0 0 1).dPut 0x1200 3 0

/-- The domains and the role, taken up or taken back. -/
def mainRoles (trained : BitVec 3) (before : Option (Vector DomState 6 × Nat)) (s : State) : State :=
  match before with
  | some (b, r) => startRestored b r s
  | none => startRole trained (domSet dSEC .on trained (domSet dHOSTIO .on trained s))

/-- The links' settings, a pending raise, the boot counter's entry and the Peer Link's enable. -/
def mainEnd (got : BitVec 32) (s : State) : State :=
  let s := linksConfigure s
  let s := if s.dU 0x3500 0x14 = 1 then raiseRollback got s else s
  let s := (s.dPut 0x3100 4 (s.fresh 16).toNat).draw
  if s.isOn dPLK then s.setRegF 0x40240000 0 0 1 else s

theorem mainFirmwareStart_eq {s : State} (hstage : s.boot.stage = .entered) (hidle : s.coreIdle 0 = false) (trained : BitVec 3) (got : BitVec 32) :
    mainFirmwareStart trained got s = mainEnd got (mainRoles trained s.boot.before (beatZero (mainLoaded trained s))) := by
  unfold mainFirmwareStart
  rw [if_neg (by simp [hstage, hidle])]
  rfl

theorem mainLoaded_up (trained : BitVec 3) (s : State) : MainUp (mainLoaded trained s) := by
  unfold mainLoaded
  refine mainUp_keepFormat trained ?_
  refine MainUp.stands ?_ (((stands_loadSaved ..).trans (stands_startEntries _)).trans ((stands_lifeLoad _).trans (stands_retireUnits _)))
  exact ⟨rfl, rfl⟩

theorem beatZero_zero {s : State} (h : MainUp s) : BeatsFromZero (beatZero s) :=
  ⟨h.stands ⟨rfl, rfl, rfl⟩, by rw [beatZero, dU_dPut_self]; rfl⟩

theorem mainRoles_keeps (trained : BitVec 3) (before : Option (Vector DomState 6 × Nat)) {s : State} (hs : BeatsFromZero s) :
    BeatsFromZero (mainRoles trained before s) := by
  unfold mainRoles
  split
  · exact startRestored_keeps _ _ hs
  · exact (startRole_keeps trained ((hs.domSet (Or.inl rfl) trained).domSet (Or.inl rfl) trained)).1

theorem mainRoles_on (trained : BitVec 3) {s : State} (hs : BeatsFromZero s) :
    (mainRoles trained none s).isOn dHOSTIO = true ∧ (mainRoles trained none s).isOn dSEC = true := by
  have hhost : (domSet dHOSTIO .on trained s).isOn dHOSTIO = true := by
    rw [domSet_isOn]
    rfl
  have hsec : (domSet dSEC .on trained (domSet dHOSTIO .on trained s)).isOn dSEC = true := by
    rw [domSet_isOn]
    rfl
  have hkeep := (startRole_keeps trained ((hs.domSet (d := dHOSTIO) (Or.inl rfl) trained).domSet (d := dSEC) (Or.inl rfl) trained)).2
  exact ⟨hkeep _ (isOn_domSet_on hhost dSEC trained), hkeep _ hsec⟩

theorem mainEnd_keeps (got : BitVec 32) (s : State) : Stands s (mainEnd got s) ∧ Beat s (mainEnd got s) := by
  unfold mainEnd
  extract_lets s₁ s₂ s₃
  have h₁ : Stands s s₁ ∧ Beat s s₁ := ⟨stands_linksConfigure s, .of_dict rfl⟩
  clear_value s₁
  have h₂ : Stands s s₂ ∧ Beat s s₂ := by
    obtain ⟨hs, hb⟩ := raiseRollback_keeps got s₁
    exact ⟨h₁.1.trans (stands_ite hs (.refl s₁)), h₁.2.trans (beat_ite hb (.refl s₁))⟩
  clear_value s₂
  have h₃ : Stands s s₃ ∧ Beat s s₃ :=
    ⟨h₂.1.trans ⟨rfl, rfl, rfl⟩, h₂.2.trans ((beat_dPut (x := 0x3100) (y := 4) (by decide) (s₂.fresh 16).toNat s₂).trans (.of_dict rfl))⟩
  clear_value s₃
  exact ⟨stands_ite (h₃.1.trans (stands_setRegF ..)) h₃.1, beat_ite (h₃.2.trans (.of_dict rfl)) h₃.2⟩

theorem mainFirmwareStart_serves {s : State} (hstage : s.boot.stage = .entered) (hidle : s.coreIdle 0 = false) (trained : BitVec 3) (got : BitVec 32) :
    ∃ t, exec (.mainFirmwareStart trained got) s = .next t ∧ t.boot.stage = .main ∧ t.links.serving = .main ∧ t.dU 0x1200 3 = 0 ∧
      (s.boot.before = none → t.isOn dHOSTIO = true ∧ t.isOn dSEC = true) := by
  have hzero := beatZero_zero (mainLoaded_up trained s)
  have hroles := mainRoles_keeps trained s.boot.before hzero
  obtain ⟨hstands, hbeat⟩ := mainEnd_keeps got (mainRoles trained s.boot.before (beatZero (mainLoaded trained s)))
  have hend := hroles.keep hstands hbeat
  refine ⟨_, congrArg Host.Outcome.next (mainFirmwareStart_eq hstage hidle trained got), hend.stage, hend.serving, hend.zero, fun hnone => ?_⟩
  rw [hstands.isOn, hstands.isOn, hnone]
  exact mainRoles_on trained hzero

end Sys2Proof.Machine
end

section
/-! SUPPORT. The boot record in the flash ring: what a rewrite of it leaves alone (R377, R461), and the bytes that sets and images are read from
(R457 to R460). -/

namespace Sys2Proof.Machine

/-! ### Bytes read -/

/-- Bytes and numbers read the same where two states agree on every byte of the range. -/
theorem readN_congr {m m' : List Host.Cell} {a n : Nat} (h : ∀ x, a ≤ x → x < a + n → Memory.read m x = Memory.read m' x) :
    Memory.readN m a n = Memory.readN m' a n := by
  refine List.ext_getElem (by rw [readN_length, readN_length]) (fun k h₁ h₂ => ?_)
  rw [readN_length] at h₁
  rw [getElem_readN, getElem_readN]
  exact h _ (by omega) (by omega)

theorem rdBytes_getElem (s : State) {a n k : Nat} (h : k < n) : (s.rdBytes a n).getD k 0 = s.rd8 (a + k) := by
  have hlen : k < (s.rdBytes a n).length := by rwa [State.rdBytes, readN_length]
  rw [List.getD_eq_getElem _ _ hlen]
  exact getElem_readN s.mem.cells a n k hlen

theorem rdBytes_length (s : State) (a n : Nat) : (s.rdBytes a n).length = n := readN_length ..

theorem rd8_wrBytes (s : State) (a x : Nat) (bs : List Byte) :
    (s.wrBytes a bs).rd8 x = if a ≤ x ∧ x < a + bs.length then bs.getD (x - a) 0 else s.rd8 x := read_writeN bs s.mem.cells a x

/-- A byte of a copied range, and a byte outside it. -/
theorem rd8_copied (s : State) {a b n k : Nat} (h : k < n) : (s.wrBytes a (s.rdBytes b n)).rd8 (a + k) = s.rd8 (b + k) := by
  rw [rd8_wrBytes, rdBytes_length, if_pos (by omega), show a + k - a = k by omega, rdBytes_getElem s h]

theorem rd8_wrBytes_below (s : State) {a x : Nat} (bs : List Byte) (h : x < a) : (s.wrBytes a bs).rd8 x = s.rd8 x := by
  rw [rd8_wrBytes, if_neg (by omega)]

/-! ### A rewrite of the record -/

theorem moveWindow_frame (s : State) : ∃ r d, moveWindow s = { s with regs := r, dict := d } := by
  unfold moveWindow
  split <;> exact ⟨_, _, rfl⟩

theorem moveWindow_mem (s : State) : (moveWindow s).mem = s.mem := by
  obtain ⟨r, d, h⟩ := moveWindow_frame s
  rw [h]

theorem moveWindow_dGet {i j : Nat} (h : key i j ≠ key 0x3200 6) (s : State) : (moveWindow s).dGet i j = s.dGet i j := by
  unfold moveWindow
  split
  · exact dGet_dPut_ne _ _ h
  · rfl

theorem rd8_moveWindow (s : State) (x : Nat) : (moveWindow s).rd8 x = s.rd8 x := congrArg (fun m : Mem => Memory.read m.cells x) (moveWindow_mem s)

theorem rd8_erased_apart {a x : Nat} (h : x < sectorOf a ∨ sectorOf a + 0x2000 ≤ x) (s : State) : (erased a s).rd8 x = s.rd8 x := by
  have hclear := read_clear s.mem.cells (sectorOf a) (sectorOf a + 0x2000) x
  rw [if_neg (by omega)] at hclear
  exact hclear

theorem ringSector_range (i : Nat) : 0x10000000 ≤ ringSector i ∧ ringSector i + 0x2000 ≤ 0x10020000 ∧ sectorOf (ringSector i) = ringSector i := by
  unfold ringSector sectorOf
  omega

theorem journalEntry_length (t n : Nat) : (journalEntry t n).length = 16 := by
  unfold journalEntry
  simp [leBytes_length]

/-- A rewrite changes memory within the ring alone. -/
theorem rd8_bootRewrite {x : Nat} (h : x < 0x10000000 ∨ 0x10020000 ≤ x) (r : List Byte) (s : State) : (bootRewrite r s).rd8 x = s.rd8 x := by
  unfold bootRewrite
  split
  rename_i i q _
  extract_lets j a head
  obtain ⟨hlow, hhigh, hsector⟩ : 0x10000000 ≤ a ∧ a + 0x2000 ≤ 0x10020000 ∧ sectorOf a = a := ringSector_range i
  have hj : j.length ≤ 16 := by
    dsimp only [j]
    split
    · exact Nat.le_of_eq (journalEntry_length ..)
    · exact Nat.zero_le _
  have hhead : head.length = 16 := by simp [head, leBytes_length]
  have hlen : (head ++ r.take 64 ++ j).length ≤ 96 := by
    have := List.length_take_le 64 r
    simp only [List.length_append]
    omega
  rw [rd8_moveWindow, rd8_wrBytes, if_neg (by omega), rd8_erased_apart (by omega)]

theorem rd8_bootPut {x : Nat} (h : x < 0x10000000 ∨ 0x10020000 ≤ x) (l : List (Nat × Nat × Nat)) (s : State) : (bootPut l s).rd8 x = s.rd8 x :=
  rd8_bootRewrite h _ s

/-- A rewrite changes memory and what shows the boot record alone. -/
theorem bootPut_frame (l : List (Nat × Nat × Nat)) (s : State) : ∃ m r d, bootPut l s = { s with mem := m, regs := r, dict := d } := by
  obtain ⟨r, d, h⟩ := moveWindow_frame _
  exact ⟨_, r, d, h⟩

theorem bootPut_dGet {i j : Nat} (h : key i j ≠ key 0x3200 6) (l : List (Nat × Nat × Nat)) (s : State) : (bootPut l s).dGet i j = s.dGet i j :=
  moveWindow_dGet h _

theorem bootPut_dU {i j : Nat} (h : key i j ≠ key 0x3200 6) (l : List (Nat × Nat × Nat)) (s : State) : (bootPut l s).dU i j = s.dU i j :=
  congrArg leNat (bootPut_dGet h l s)

theorem onlyRecord_bootPut (l : List (Nat × Nat × Nat)) (s : State) : OnlyRecord s (bootPut l s) := by
  obtain ⟨m, r, d, h⟩ := bootPut_frame l s
  unfold OnlyRecord
  rw [h]

/-! ### What a set is read from -/

/-- Two states read the same bytes from an address on, up to another. -/
def SameBytes (lo hi : Nat) (s t : State) : Prop := ∀ x, lo ≤ x → x < hi → t.rd8 x = s.rd8 x

theorem SameBytes.rdBytes {lo hi : Nat} {s t : State} (h : SameBytes lo hi s t) {a n : Nat} (hlo : lo ≤ a) (hhi : a + n ≤ hi) :
    t.rdBytes a n = s.rdBytes a n :=
  readN_congr fun x h₁ h₂ => h x (by omega) (by omega)

theorem SameBytes.rdN {lo hi : Nat} {s t : State} (h : SameBytes lo hi s t) {a n : Nat} (hlo : lo ≤ a) (hhi : a + n ≤ hi) : t.rdN a n = s.rdN a n :=
  congrArg leNat (h.rdBytes hlo hhi)

theorem SameBytes.trans {lo hi : Nat} {s t u : State} (h : SameBytes lo hi s t) (h' : SameBytes lo hi t u) : SameBytes lo hi s u :=
  fun x h₁ h₂ => (h' x h₁ h₂).trans (h x h₁ h₂)

theorem SameBytes.of_mem {s t : State} (h : t.mem = s.mem) (lo hi : Nat) : SameBytes lo hi s t := by
  intro x _ _
  unfold State.rd8
  rw [h]

theorem SameBytes.mono {lo hi lo' hi' : Nat} {s t : State} (h : SameBytes lo hi s t) (hlo : lo ≤ lo') (hhi : hi' ≤ hi) : SameBytes lo' hi' s t :=
  fun x h₁ h₂ => h x (by omega) (by omega)

theorem sameBytes_bootPut (l : List (Nat × Nat × Nat)) (s : State) (hi : Nat) : SameBytes 0x10020000 hi s (bootPut l s) :=
  fun _ h _ => rd8_bootPut (Or.inr h) l s

theorem sameBytes_wrBytes {a : Nat} (bs : List Byte) (s : State) (lo : Nat) : SameBytes lo a s (s.wrBytes a bs) :=
  fun _ _ h => rd8_wrBytes_below s bs h

section
variable {lo hi : Nat} {s t : State} (h : SameBytes lo hi s t)
include h

theorem SameBytes.hasClass {b c : Nat} (hlo : lo ≤ b) (hhi : b + 9 ≤ hi) : hasClass b c t = hasClass b c s := by
  unfold Machine.hasClass
  rw [h.rdN (by omega) (by omega)]

theorem SameBytes.imgOffset {b c : Nat} (hlo : lo ≤ b) (hhi : b + 16 + 8 * c ≤ hi) : imgOffset b c t = imgOffset b c s :=
  h.rdN (by omega) (by omega)

theorem SameBytes.imgLoad {x : Nat} (hlo : lo ≤ x) (hhi : x + 24 ≤ hi) : imgLoad x t = imgLoad x s := h.rdN (by omega) (by omega)

theorem SameBytes.imgBody {x : Nat} (hlo : lo ≤ x) (hhi : x + 20 ≤ hi) : imgBody x t = imgBody x s := h.rdN (by omega) (by omega)

theorem SameBytes.imgEntry {x : Nat} (hlo : lo ≤ x) (hhi : x + 28 ≤ hi) : imgEntry x t = imgEntry x s := h.rdN (by omega) (by omega)

end

end Sys2Proof.Machine
end

section
/-! SUPPORT. A device whose cores all fail, core 4's entry, and an activation that is put off (R308, R454, R470, R490). -/

namespace Sys2Proof.Machine

/-! ### No core passes (R490) -/

theorem bootCore_none {s : State} {cores : BitVec 6} (h : ∀ x : Fin 6, cores.getLsbD x.1 = false ∨ s.kz.retired.getLsbD x.1 = true) :
    bootCore cores s = none := by
  have hnone : (fins 6).find? (fun p => cores.getLsbD p.1 && !s.kz.retired.getLsbD p.1) = none := by
    rw [List.find?_eq_none]
    intro p _
    rcases h p with hp | hp
    · rw [hp]
      exact Bool.false_ne_true
    · rw [hp, Bool.not_true, Bool.and_false]
      exact Bool.false_ne_true
  unfold bootCore
  rw [hnone]

theorem bootRomStart_dead {s : State} {cores : BitVec 6} (hstage : s.boot.stage = .rom) (hdead : s.boot.dead = false) (hscan : s.boot.scan = false)
    (h : ∀ x : Fin 6, cores.getLsbD x.1 = false ∨ s.kz.retired.getLsbD x.1 = true) (fails : List TestUnit) (ms : List (BitVec 16)) :
    exec (.bootRomStart cores fails ms) s = .next { s with boot := { s.boot with dead := true }, kz := { s.kz with phys := .replicate 6 {} } } := by
  refine congrArg Host.Outcome.next (?_ : bootRomStart cores fails ms s = _)
  unfold bootRomStart
  rw [if_neg (by simp [hstage, hdead, hscan]), bootCore_none h]

/-! ### Core 4 at the security entry (R454) -/

theorem closed_congr {s t : State} (h : t.sec.otp = s.sec.otp) : t.closed = s.closed := by
  have hsame : t.custProgrammed = s.custProgrammed := funext (custProgrammed_congr h)
  unfold State.closed
  rw [hsame]

/-- An image that stands below what has changed measures the same. -/
theorem SameBytes.measureOf {lo hi : Nat} {s t : State} (h : SameBytes lo hi s t) (hotp : t.sec.otp = s.sec.otp) {x : Nat} (hlo : lo ≤ x)
    (hhi : x + 256 + Machine.imgBody x s ≤ hi) :
    Machine.measureOf x t = Machine.measureOf x s := by
  unfold Machine.measureOf imgDigest imgVersion State.u16
  rw [closed_congr hotp, h.imgBody hlo (by omega), h.rdN (by omega) (by omega), h.rdN (by omega) (by omega), h.rdBytes hlo (by omega),
    h.rdBytes (by omega) hhi]

/-- Core 4's image stands measured in its memory and is entered. -/
def securityEntered (p : Fin 6) (h : Nat) (s : State) : State :=
  kmod p (fun k => { (k.setGr 1 0x21100000) with pc := BitVec.ofNat 32 (0x21100000 + imgEntry h s) })
    (secMod (fun x => { x with measures := vset x.measures 3 (measureOf h s) }) s)

theorem core_securityEntered (p : Fin 6) (h : Nat) (s : State) : vget (securityEntered p h s).kz.phys p =
    { ((vget s.kz.phys p).setGr 1 0x21100000) with pc := BitVec.ofNat 32 (0x21100000 + imgEntry h s) } := by
  unfold securityEntered kmod
  dsimp only
  rw [vget_vmod_self]
  rfl

theorem gr_setGr_one (k : Core) (v : BitVec 32) : (k.setGr 1 v).gr 1 = v := by
  rw [gr_setGr, if_pos rfl, if_neg (by decide)]

section
variable {s : State} {p : Fin 6} (hp : s.physOf 4 = some p) (hrun : (vget s.kz.phys p).halted = false) (hpc : (vget s.kz.phys p).pc = securityEntry)
  (hon : s.isOn (coreDomain 4) = true)
include hp hrun hpc hon

/-- An image that verifies is copied, measured and entered. -/
theorem securityEntry_verified {h : Nat} (hh : vget s.boot.hdrAt 3 = h) (hne : h ≠ 0) (hok : imageVerify 3 h s = stOk)
    (hlow : h + 256 + imgBody h s ≤ 0x20000000) :
    ∃ t, exec .securityEntry s = .next t ∧ (∀ k, k < imgBody h s → t.rd8 (0x21100000 + k) = s.rd8 (h + 256 + k)) ∧
      vget t.sec.measures 3 = measureOf h s ∧ (vget t.kz.phys p).gr 1 = 0x21100000 ∧
      (vget t.kz.phys p).pc = BitVec.ofNat 32 (0x21100000 + imgEntry h s) ∧ { t with mem := s.mem, sec := s.sec, kz := s.kz } = s := by
  have hstart : securityStart s = securityEntered p h (s.wrBytes 0x21100000 (s.rdBytes (h + 256) (imgBody h s))) := by
    unfold securityStart
    rw [hp]
    dsimp only
    rw [if_neg (by simp [hrun, hpc, hon]), hh, if_neg (by simp [hne, hok])]
    rfl
  have hbytes := sameBytes_wrBytes (a := 0x21100000) (s.rdBytes (h + 256) (imgBody h s)) s 0
  have hmeasure := hbytes.measureOf rfl (Nat.zero_le h) (by omega)
  have hentry := hbytes.imgEntry (Nat.zero_le h) (by omega)
  have hcopied : ∀ k, k < imgBody h s → (s.wrBytes 0x21100000 (s.rdBytes (h + 256) (imgBody h s))).rd8 (0x21100000 + k) = s.rd8 (h + 256 + k) :=
    fun k hk => rd8_copied s hk
  obtain ⟨m, hm⟩ : ∃ m, s.wrBytes 0x21100000 (s.rdBytes (h + 256) (imgBody h s)) = { s with mem := m } := ⟨_, rfl⟩
  rw [hm] at hstart hmeasure hentry hcopied
  refine ⟨_, congrArg Host.Outcome.next hstart, hcopied, ?_, ?_, ?_, rfl⟩
  · rw [← hmeasure]
    exact vget_vset_self ..
  · exact (congrArg (Core.gr · 1) (core_securityEntered p h _)).trans (gr_setGr_one ..)
  · rw [← hentry]
    exact congrArg Core.pc (core_securityEntered p h _)

/-- Without an image that verifies core 4 stays halted, with its function failed. -/
theorem securityEntry_failed {h : Nat} (hh : vget s.boot.hdrAt 3 = h) (hbad : h = 0 ∨ imageVerify 3 h s ≠ stOk) :
    ∃ t, exec .securityEntry s = .next t ∧ (vget t.kz.phys p).halted = true ∧ vget t.links.fn 10 = 3 ∧ { t with kz := s.kz, links := s.links } = s := by
  have hstart : securityStart s = (coreStop 4 p s).setFn 10 3 := by
    unfold securityStart
    rw [hp]
    dsimp only
    rw [if_neg (by simp [hrun, hpc, hon]), hh, if_pos (by simpa using hbad)]
  obtain ⟨o, hfn⟩ := setFn_frame (coreStop 4 p s) 10 3
  rw [hfn] at hstart
  refine ⟨_, congrArg Host.Outcome.next hstart, ?_, vget_vset_self .., rfl⟩
  simp [coreStop, kmod]

end

/-! ### An activation put off (R470) -/

theorem actDefer_lost {s : State} (hstage : s.boot.stage = .main) (harmed : s.actArmed = true) (hslot : slotBegun (s.bootN 24 5) s = true)
    (hlost : s.nodeLost = true) :
    ∃ t, exec .actDefer s = .next t ∧ Rewritten s t [(29, 1, s.bootN 29 1 / 4 * 4 + 3)] ∧ OnlyRecord s t := by
  have hdefer : (if actDue s && s.nodeLost && s.boot.stage == .main then bootPut [(29, 1, s.bootN 29 1 / 4 * 4 + 3)] s else s) =
      bootPut [(29, 1, s.bootN 29 1 / 4 * 4 + 3)] s := if_pos (by simp [actDue, harmed, hslot, hlost, hstage])
  exact ⟨_, congrArg Host.Outcome.next hdefer, fun _ => rfl, onlyRecord_bootPut ..⟩

end Sys2Proof.Machine
end

section
/-! SUPPORT. An activation restart: the cores but core 0 and the host links go OFF, everything else of the power controller and the timebase runs on, and
the flash holds the boot record in TRIAL (R451, R465). -/

namespace Sys2Proof.Machine

/-! ### Registers and entries -/

/-- Nothing but registers and entries has changed. -/
structure OnlyShows (s t : State) : Prop where
  frame : { t with regs := s.regs, dict := s.dict } = s

theorem OnlyShows.refl (s : State) : OnlyShows s s := ⟨rfl⟩

theorem OnlyShows.trans {s t u : State} (h : OnlyShows s t) (h' : OnlyShows t u) : OnlyShows s u := by
  have htwice := congrArg (fun w : State => { w with regs := s.regs, dict := s.dict }) h'.frame
  exact ⟨htwice.trans h.frame⟩

theorem OnlyShows.exists_eq {s t : State} (h : OnlyShows s t) : ∃ r d, t = { s with regs := r, dict := d } := by
  have hagain := congrArg (fun w : State => { w with regs := t.regs, dict := t.dict }) h.frame
  exact ⟨t.regs, t.dict, hagain⟩

theorem OnlyShows.setRegN {s t : State} (h : OnlyShows s t) (a v : Nat) : OnlyShows s (t.setRegN a v) := h.trans ⟨rfl⟩

theorem OnlyShows.dPut {s t : State} (h : OnlyShows s t) (x y v : Nat) : OnlyShows s (t.dPut x y v) := h.trans ⟨rfl⟩

theorem onlyShows_putMap (a none_ : Nat) (l : List (Option Nat)) (s : State) : OnlyShows s (putMap a none_ l s) := by
  refine foldS_keeps OnlyShows.refl OnlyShows.trans (fun i s => ?_) _ s
  exact (OnlyShows.refl s).setRegN _ _

theorem onlyShows_syncRx (s : State) : OnlyShows s (syncRx s) := by
  unfold syncRx
  extract_lets r lr sr s₁ s₂ s₃ s₄ s₅ s₆ n
  have h₂ : OnlyShows s s₂ := (((onlyShows_putMap _ _ _ s).setRegN _ _).setRegN _ _).setRegN _ _
  have h₃ : OnlyShows s s₃ := h₂.trans (onlyShows_putMap ..)
  have h₄ : OnlyShows s s₄ := ((h₃.setRegN _ _).setRegN _ _).setRegN _ _
  have h₅ : OnlyShows s s₅ := h₄.trans (onlyShows_putMap ..)
  have h₆ : OnlyShows s s₆ := h₅.setRegN _ _
  exact ((h₆.dPut _ _ _).dPut _ _ _).dPut _ _ _

theorem onlyShows_syncKz (s : State) : OnlyShows s (syncKz s) := ((OnlyShows.refl s).setRegN _ _).setRegN _ _

theorem onlyShows_resetShow (s : State) : OnlyShows s (resetShow s) := (onlyShows_syncRx s).trans (onlyShows_syncKz _)

/-! ### What a restart leaves of power, the timebase and the flash -/

/-- Power and the timebase stand, and so does every byte below the RAM. -/
structure RunsOn (s t : State) : Prop where
  power : t.pcc = s.pcc
  timebase : t.ptb = s.ptb
  flash : SameBytes 0 0x20000000 s t

theorem RunsOn.refl (s : State) : RunsOn s s := ⟨rfl, rfl, fun _ _ _ => rfl⟩

theorem RunsOn.trans {s t u : State} (h : RunsOn s t) (h' : RunsOn t u) : RunsOn s u :=
  ⟨h'.power.trans h.power, h'.timebase.trans h.timebase, h.flash.trans h'.flash⟩

theorem RunsOn.of_eq {s t : State} (hp : t.pcc = s.pcc) (ht : t.ptb = s.ptb) (hm : t.mem = s.mem) : RunsOn s t := ⟨hp, ht, .of_mem hm _ _⟩

theorem runsOn_coreRunWrite (l : Fin 6) (run : Bool) (s : State) : RunsOn s (coreRunWrite l run s) := by
  unfold coreRunWrite
  split
  · exact .refl s
  · split
    · exact .refl s
    · split
      · split
        · unfold coreStart
          split
          · exact .refl s
          · exact .of_eq rfl rfl rfl
        · exact .refl s
      · exact .of_eq rfl rfl rfl

theorem runsOn_waveTestReset (s : State) : RunsOn s (waveTestReset s) := by
  unfold waveTestReset
  split
  · exact .refl s
  · exact .of_eq rfl rfl rfl

theorem runsOn_rosterReinit (s : State) : RunsOn s (rosterReinit s) := by
  unfold rosterReinit
  split
  · exact .of_eq rfl rfl rfl
  · exact .refl s

/-! ### The domains that go OFF -/

/-- A domain of a core, or HOSTIO: what an activation restart turns OFF first. -/
def GoesOff (d : Fin 24) : Prop := d = dHOSTIO ∨ (2 ≤ d.1 ∧ d.1 ≤ 7)

theorem rd8_cellsLost_below {x lo hi : Nat} (h : x < lo) (s : State) : (cellsLost lo hi s).rd8 x = s.rd8 x := by
  have hclear := read_clear s.mem.cells lo hi x
  rw [if_neg (by omega)] at hclear
  exact hclear

theorem runsOn_coreOff (c : Fin 6) (s : State) : RunsOn s (coreOff c s) := by
  unfold coreOff
  extract_lets s₁ _ s₂ lo
  have h₁ : RunsOn s s₁ := by
    dsimp only [s₁]
    split
    · exact .of_eq rfl rfl rfl
    · exact .refl s
  clear_value s₁
  have h₂ : RunsOn s s₂ := h₁.trans (.of_eq rfl rfl rfl)
  clear_value s₂
  exact h₂.trans ⟨rfl, rfl, fun x _ hx => rd8_cellsLost_below (by omega) s₂⟩

theorem runsOn_domLose {d : Fin 24} (h : GoesOff d) (s : State) : RunsOn s (domLose d s) := by
  obtain rfl | ⟨hlo, hhi⟩ := h
  · exact .refl s
  · obtain h | h | h | h | h | h : d = 2 ∨ d = 3 ∨ d = 4 ∨ d = 5 ∨ d = 6 ∨ d = 7 := by omega
    all_goals rw [h]; exact runsOn_coreOff _ s

/-- A domain turned OFF without its functions' end. -/
def turnedOff (s : State) (d : Fin 24) : State := domLose d (pccMod (fun p => { p with dom := vset p.dom d .off }) s)

/-- After some domains went OFF: those are OFF, the others as they were. -/
structure WentOff (l : List (Fin 24)) (s t : State) : Prop where
  dom : ∀ d, vget t.pcc.dom d = if d ∈ l then .off else vget s.pcc.dom d
  timebase : t.ptb = s.ptb
  flash : SameBytes 0 0x20000000 s t

theorem wentOff_turnedOff {l : List (Fin 24)} (h : ∀ d ∈ l, GoesOff d) (s : State) : WentOff l s (l.foldl turnedOff s) := by
  induction l generalizing s with
  | nil => exact ⟨fun d => by simp, rfl, fun _ _ _ => rfl⟩
  | cons e l ih =>
    obtain ⟨hdom, htime, hflash⟩ := ih (fun d hd => h d (List.mem_cons_of_mem e hd)) (turnedOff s e)
    obtain ⟨hp, ht, hf⟩ := runsOn_domLose (h e List.mem_cons_self) (pccMod (fun p => { p with dom := vset p.dom e .off }) s)
    refine ⟨fun d => ?_, htime.trans ht, SameBytes.trans hf hflash⟩
    have he : vget (turnedOff s e).pcc.dom d = if e = d then .off else vget s.pcc.dom d := by
      rw [turnedOff, hp]
      exact vget_vset ..
    rw [List.foldl_cons, hdom, he]
    by_cases hmem : d ∈ l
    · rw [if_pos hmem, if_pos (List.mem_cons_of_mem e hmem)]
    · rw [if_neg hmem]
      by_cases hde : e = d
      · rw [if_pos hde, if_pos (by simp [hde])]
      · rw [if_neg hde, if_neg (by simp [hmem, Ne.symm hde])]

/-! ### The restart -/

/-- The domains that an activation restart turns OFF. -/
def restartList : List (Fin 24) := [2, 3, 4, 5, 6, 7, dHOSTIO]

theorem goesOff_restartList : ∀ d ∈ restartList, GoesOff d := by
  unfold GoesOff
  decide

/-- What an activation restart leaves, seen from before it. -/
structure ResetToTrial (s t : State) : Prop where
  cause : t.dU 0x1200 5 = 7
  stage : t.boot.stage = .rom
  serving : t.links.serving = .none
  dom : ∀ d, vget t.pcc.dom d = if d = dCORE0 then .on else if d ∈ restartList then .off else vget s.pcc.dom d
  timebase : t.ptb = s.ptb
  flash : SameBytes 0 0x20000000 s t

theorem activateReset_leaves (s : State) : ResetToTrial s (activateReset s) := by
  unfold activateReset
  extract_lets before role s₁ s₂ s₃ _ _ s₄
  have h₁ : RunsOn s s₁ := by
    have hreset : RunsOn s (rosterReinit (waveTestReset s)) := (runsOn_waveTestReset s).trans (runsOn_rosterReinit _)
    exact hreset.trans (.of_eq rfl rfl rfl)
  clear_value s₁
  have h₂ : WentOff restartList s₁ s₂ := wentOff_turnedOff goesOff_restartList s₁
  clear_value s₂
  obtain ⟨r, d, hshow⟩ := (onlyShows_resetShow s₄).exists_eq
  rw [hshow]
  refine ⟨dU_dPut_self .., rfl, rfl, fun d => ?_, h₂.timebase.trans h₁.timebase, h₁.flash.trans h₂.flash⟩
  have hdom : vget (vset s₂.pcc.dom dCORE0 .on) d = if d = dCORE0 then .on else if d ∈ restartList then .off else vget s.pcc.dom d := by
    rw [vget_vset, h₂.dom, h₁.power]
    simp only [eq_comm]
  exact hdom

/-! ### The activation (R465) -/

theorem stopped_runsOn (s : State) : RunsOn s ([1, 2, 3, 4, 5].foldl (fun s (c : Fin 6) => coreRunWrite c false s) s) := by
  refine foldl_keeps RunsOn.refl RunsOn.trans (fun s c => ?_) _ s
  exact runsOn_coreRunWrite c false s

theorem activation_restarted (s : State) : Restarted s (activation s) := by
  unfold activation
  extract_lets s₁ s₂
  have h₂ : RunsOn s₁ s₂ := stopped_runsOn s₁
  clear_value s₂
  rw [deviceReset_activate]
  have ht := activateReset_leaves s₂
  obtain ⟨m, r, d, hput⟩ := bootPut_frame [(2, 1, 2), (3, 1, 0), (29, 1, 0)] s
  have hpower : s₁.pcc = s.pcc := (congrArg State.pcc hput :)
  have htime : s₁.ptb = s.ptb := (congrArg State.ptb hput :)
  have hdom : ∀ d, vget (activateReset s₂).pcc.dom d = if d = dCORE0 then .on else if d ∈ restartList then .off else vget s.pcc.dom d := by
    intro d
    rw [ht.dom, h₂.power, hpower]
  refine ⟨ht.cause, ht.stage, ht.serving, ?_, fun d hd => ?_, fun d hd hne => ?_, ht.timebase.trans (h₂.timebase.trans htime), fun a ha => ?_⟩
  · unfold State.isOn
    rw [hdom]
    rfl
  · rw [hdom]
    obtain ⟨hcore, hmem⟩ : d ≠ dCORE0 ∧ d ∈ restartList := by
      revert d
      decide
    rw [if_neg hcore, if_pos hmem]
  · rw [hdom]
    obtain ⟨hcore, hmem⟩ : d ≠ dCORE0 ∧ d ∉ restartList := by
      revert d
      decide
    rw [if_neg hcore, if_neg hmem]
  · exact (h₂.flash.trans ht.flash) a (Nat.zero_le a) ha

theorem activationRestart_due {s : State} (hstage : s.boot.stage = .main) (harmed : s.actArmed = true) (hslot : slotBegun (s.bootN 24 5) s = true)
    (hfound : s.nodeLost = false) : ∃ t, exec .activationRestart s = .next t ∧ Restarted s t := by
  have hgo : (if actDue s && !s.nodeLost && s.boot.stage == .main then activation s else s) = activation s :=
    if_pos (by simp [actDue, harmed, hslot, hfound, hstage])
  exact ⟨_, congrArg Host.Outcome.next hgo, activation_restarted s⟩

end Sys2Proof.Machine
end

section
/-! SUPPORT. The boot record, the sets and their verification are read from memory and OTP alone, and the requests of the update engine (R24, R312, R377,
R463, R465). -/

namespace Sys2Proof.Machine

/-! ### States with the same memory -/

section
variable {s t : State} (h : t.mem = s.mem)
include h

theorem rdN_congr (a n : Nat) : t.rdN a n = s.rdN a n := by
  unfold State.rdN
  rw [h]

theorem rdBytes_congr (a n : Nat) : t.rdBytes a n = s.rdBytes a n := by
  unfold State.rdBytes
  rw [h]

theorem ringRecord_congr (i : Nat) : ringRecord i t = ringRecord i s := by
  unfold ringRecord
  simp only [rdN_congr h, rdBytes_congr h]

theorem newestRing_congr : t.newestRing = s.newestRing := by
  unfold State.newestRing
  simp only [ringRecord_congr h]

theorem bootBytes_congr : t.bootBytes = s.bootBytes := by
  unfold State.bootBytes
  rw [newestRing_congr h]
  simp only [rdBytes_congr h]

theorem bootN_congr (o n : Nat) : t.bootN o n = s.bootN o n := by
  unfold State.bootN
  rw [bootBytes_congr h]

theorem bootState_congr : t.bootState = s.bootState := bootN_congr h 2 1

theorem journalFrom_congr (a n : Nat) : journalFrom t a n = journalFrom s a n := by
  induction n generalizing a with
  | zero => rfl
  | succ n ih =>
    unfold journalFrom
    rw [rdBytes_congr h, ih]

theorem bootJournal_congr : t.bootJournal = s.bootJournal := by
  unfold State.bootJournal
  rw [newestRing_congr h]
  simp only [journalFrom_congr h]

/-- A rewrite of the record makes the same memory of the same memory. -/
theorem bootPut_mem_congr (l : List (Nat × Nat × Nat)) : (bootPut l t).mem = (bootPut l s).mem := by
  unfold bootPut bootRewrite
  rw [newestRing_congr h, bootJournal_congr h, bootBytes_congr h]
  split
  rw [moveWindow_mem, moveWindow_mem]
  simp only [State.wrBytes, State.setCells, erased, mmod, h]

theorem rd8_bootPut_congr (l : List (Nat × Nat × Nat)) (a : Nat) : (bootPut l t).rd8 a = (bootPut l s).rd8 a := by
  unfold State.rd8
  rw [bootPut_mem_congr h]

theorem hasClass_congr (b c : Nat) : hasClass b c t = hasClass b c s := by
  unfold hasClass
  rw [rdN_congr h]

theorem imgOffset_congr (b c : Nat) : imgOffset b c t = imgOffset b c s := rdN_congr h ..

theorem imgLength_congr (b c : Nat) : imgLength b c t = imgLength b c s := rdN_congr h ..

theorem imageHeaderOk_congr (c x len : Nat) : imageHeaderOk c x len t = imageHeaderOk c x len s := by
  unfold imageHeaderOk imgBody imgLoad imgEntry imgRollback imgHitless State.u16 State.u32
  simp only [rdN_congr h, rdBytes_congr h]

theorem setHeaderOk_congr (b : Nat) : setHeaderOk b t = setHeaderOk b s := by
  unfold setHeaderOk State.u16 State.u32
  simp only [rdN_congr h, rdBytes_congr h, hasClass_congr h]

theorem setPlacesOk_congr (b : Nat) : setPlacesOk b t = setPlacesOk b s := by
  unfold setPlacesOk
  simp only [imgOffset_congr h, imgLength_congr h, hasClass_congr h]

variable (ho : t.sec.otp = s.sec.otp)
include ho

theorem imageVerify_congr (c x : Nat) : imageVerify c x t = imageVerify c x s := by
  unfold imageVerify imageSigOk imgDigest imgRollback imgBody State.u32 State.custHash State.rollbackMin
  simp only [rdN_congr h, rdBytes_congr h, closed_congr ho, custProgrammed_congr ho, custRevoked_congr ho, otpBytes_congr ho]

theorem setVerify_congr (b : Nat) (l : List Nat) : setVerify b l t = setVerify b l s := by
  unfold setVerify
  simp only [setHeaderOk_congr h, setPlacesOk_congr h, hasClass_congr h, imgOffset_congr h, imgLength_congr h, imageHeaderOk_congr h,
    imageVerify_congr h ho]

end

/-! ### ACTIVATE_NOW (R465) -/

theorem takes_activateNow (n : Nat) : ∃ r, r.request = true ∧ Takes 0x3500 0x16 r (leBytes 4 n) :=
  ⟨_, rfl, by decide, by decide, by decide, rfl, rfl, valueCheck_number rfl rfl n, rfl, fun _ => rfl⟩

theorem Restarted.push {s t : State} (h : Restarted s t) (l : Fin 5) (p : Sent) : Restarted s (t.push l p) := by
  obtain ⟨hcause, hstage, hserving, hon, hoff, hkept, htime, hflash⟩ := h
  have hmem : (t.push l p).mem = t.mem := rfl
  refine ⟨hcause, hstage, hserving, hon, hoff, hkept, htime, fun a ha => ?_⟩
  rw [← hflash a ha]
  unfold State.rd8
  rw [hmem]

/-- A restart seen from a state with other entries. -/
theorem Restarted.of_dSet {s t : State} {x y : Nat} {v : List Byte} (h : Restarted (s.dSet x y v) t) : Restarted s t := by
  obtain ⟨hcause, hstage, hserving, hon, hoff, hkept, htime, hflash⟩ := h
  refine ⟨hcause, hstage, hserving, hon, hoff, hkept, htime, fun a ha => ?_⟩
  have hmem : (s.dSet x y v).mem = s.mem := rfl
  rw [hflash a ha, rd8_bootPut_congr hmem]

section
variable {s : State} {src : Src} (h : Asks s src) {v : BitVec 32} (hnew : leBytes 4 v.toNat ≠ s.dGet 0x3500 0x16) (tid : Byte)
include h hnew

theorem execActivateNow_staged (hstaged : s.bootState = 1) : ∃ t, exec (.activateNow src tid v) s = .next t ∧ Restarted s t := by
  obtain ⟨r, -, htakes⟩ := takes_activateNow v.toNat
  have hact : entryAct {} 0x3500 0x16 (leBytes 4 v.toNat) (s.dSet 0x3500 0x16 (leBytes 4 v.toNat)) =
      (stOk, activation (s.dSet 0x3500 0x16 (leBytes 4 v.toNat))) := if_pos ((bootState_congr rfl).trans hstaged)
  have hstore := entryStore_first (r := r) (fun _ => hnew) rfl hact
  rw [if_pos rfl] at hstore
  obtain ⟨l, y, -, -, hexec⟩ := hostWrite_answered h (i := 0x3500) (x := 0x16) (by decide) rfl (fun _ => rfl) ((htakes.write h {}).trans hstore) tid
  exact ⟨_, congrArg Host.Outcome.next hexec, (activation_restarted _).of_dSet.push l y⟩

/-- Outside STAGED nothing is to activate: the number falls back. -/
theorem execActivateNow_unstaged (hnone : s.bootState ≠ 1) :
    ∃ t, exec (.activateNow src tid v) s = .next t ∧ Spoke s t src (writeResp tid 0x3500 0x16 2) ∧
      (∀ i j, j < 256 → t.dGet i j = s.dGet i j) ∧ { t with links := s.links, dict := s.dict } = s := by
  obtain ⟨r, -, htakes⟩ := takes_activateNow v.toNat
  have hserving : s.links.serving = .main := h.2.1
  have hnow : activateNow (s.dSet 0x3500 0x16 (leBytes 4 v.toNat)) = (stNotReady, s.dSet 0x3500 0x16 (leBytes 4 v.toNat)) := by
    have hstate : (s.dSet 0x3500 0x16 (leBytes 4 v.toNat)).bootState = s.bootState := bootState_congr rfl
    unfold activateNow
    rw [if_neg (by rw [hstate]; exact hnone), if_neg (by simp [hserving])]
  have hact : entryAct {} 0x3500 0x16 (leBytes 4 v.toNat) (s.dSet 0x3500 0x16 (leBytes 4 v.toNat)) =
      (stNotReady, s.dSet 0x3500 0x16 (leBytes 4 v.toNat)) := hnow
  have hstore := entryStore_first (r := r) (fun _ => hnew) rfl hact
  rw [if_neg (by decide)] at hstore
  obtain ⟨l, y, hlink, hpdu, hexec⟩ := hostWrite_answered h (i := 0x3500) (x := 0x16) (by decide) rfl (fun _ => rfl) ((htakes.write h {}).trans hstore) tid
  exact ⟨_, congrArg Host.Outcome.next hexec, spoke_of_push hlink hpdu rfl, fun i j hj => dGet_dSet_back s _ (by decide) hj i, rfl⟩

end

end Sys2Proof.Machine
end

section
/-! SUPPORT. ACT_REQUEST and ACT_CANCEL: what arms an activation, what refuses it, and what disarms it (R468, R470). -/

namespace Sys2Proof.Machine

/-! ### The requests of the update engine (R24) -/

theorem requestEntry_actRequest : RequestEntry 0x3500 0x32 where
  takes n := ⟨_, by decide, by decide, by decide, rfl, rfl, valueCheck_number rfl rfl n, rfl, fun _ => rfl⟩
  first := rfl
  stored := rfl
  effect _ _ := rfl
  reset _ _ := rfl
  after _ _ _ := rfl

theorem requestEntry_actCancel : RequestEntry 0x3500 0x35 where
  takes n := ⟨_, by decide, by decide, by decide, rfl, rfl, valueCheck_number rfl rfl n, rfl, fun _ => rfl⟩
  first := rfl
  stored := rfl
  effect _ _ := rfl
  reset _ _ := rfl
  after _ _ _ := rfl

theorem requestEntry_hoRequest : RequestEntry 0x3500 0x23 where
  takes n := ⟨_, by decide, by decide, by decide, rfl, rfl, valueCheck_number rfl rfl n, rfl, fun _ => rfl⟩
  first := rfl
  stored := rfl
  effect _ _ := rfl
  reset _ _ := rfl
  after _ _ _ := rfl

/-- A request refused with its status in its result entry as well. -/
theorem shown_refused {s : State} {src : Src} {tid : Byte} {x : Byte} {r : Nat} {st : Status} {l : Fin 5} {a : Sent} (hlink : linkNum src = some l)
    (hpdu : a.pdu = writeResp tid 0x3500 x st) : Shown s ((s.produceSt 0x3500 r st).push l a) src tid x r st st :=
  ⟨dGet_produce_self s 0x3500 r [st], resOf_produce_self s 0x3500 r [st], spoke_of_push hlink hpdu rfl⟩

/-- A request that only shows its status changes links, entries and results. -/
theorem frame_refused (s : State) (r : Nat) (st : Status) (l : Fin 5) (a : Sent) :
    { (s.produceSt 0x3500 r st).push l a with links := s.links, dict := s.dict, results := s.results } = s := rfl

/-! ### What the workers are told -/

theorem tellWorkers_silent {s : State} (h : s.plkRuns = false) (t : Fin 64) : tellWorkers t s = s := by
  unfold tellWorkers plkSend
  rw [h]
  split
  · rfl
  · exact if_pos rfl

theorem plkRuns_congr {s t : State} (hp : t.pcc = s.pcc) (hd : t.dGet 0x3700 1 = s.dGet 0x3700 1) : t.plkRuns = s.plkRuns := by
  unfold State.plkRuns State.isOn State.dU
  rw [hp, hd]

theorem bigRole_bootPut (l : List (Nat × Nat × Nat)) (s : State) : (bootPut l s).bigRole = s.bigRole := by
  unfold State.bigRole State.role
  rw [bootPut_dU (by decide)]

/-- The activation's slot and set in the beacons of a root, or nothing elsewhere. -/
def announced (act : Bool) (slot id : Nat) (s : State) : State := if s.bigRole then actAnnounce act slot id s else s

theorem announced_frame (act : Bool) (slot id : Nat) (s : State) : ∃ b, announced act slot id s = { s with lnk := { s.lnk with beacon := b } } ∧
    (s.bigRole = true → b = { s.lnk.beacon with act := act, actSlot := BitVec.ofNat 40 slot, actId := BitVec.ofNat 16 id }) := by
  unfold announced
  split
  · exact ⟨_, rfl, fun _ => rfl⟩
  · next hsmall => exact ⟨s.lnk.beacon, rfl, fun hbig => absurd hbig hsmall⟩

theorem entryAct_update (e : Ext) (sub : Nat) (v : List Byte) (s : State) : entryAct e 0x3500 sub v s = actUpdate e sub v s := rfl

theorem actUpdate_actRequest {s t : State} {st : Status} (h : actRequest s = (st, t)) (v : List Byte) :
    actUpdate {} 0x32 v s = (st, if st = stOk then tellWorkers tAct t else t) := by
  unfold actUpdate
  rw [h]
  rfl

theorem actUpdate_actCancel {s t : State} {st : Status} (h : actCancel s = (st, t)) (v : List Byte) :
    actUpdate {} 0x35 v s = (st, if st = stOk ∧ s.actArmed then tellWorkers tAct t else t) := by
  unfold actUpdate
  rw [h]
  rfl

theorem plkRuns_announced (act : Bool) (slot id : Nat) (s : State) : (announced act slot id s).plkRuns = s.plkRuns := by
  obtain ⟨b, hb, -⟩ := announced_frame act slot id s
  rw [hb]
  exact plkRuns_congr rfl rfl

theorem plkRuns_bootPut (l : List (Nat × Nat × Nat)) (s : State) : (bootPut l s).plkRuns = s.plkRuns := by
  obtain ⟨m, r, d, hput⟩ := bootPut_frame l s
  have hpower : (bootPut l s).pcc = s.pcc := by rw [hput]
  exact plkRuns_congr hpower (bootPut_dGet (by decide) l s)

theorem plkRuns_produceSt {x y : Nat} (h : key 0x3700 1 ≠ key x y) (st : Status) (s : State) : (s.produceSt x y st).plkRuns = s.plkRuns :=
  plkRuns_congr rfl (dGet_produce_ne s [st] h)

/-! ### ACT_REQUEST -/

section
variable {s : State} {slot id : Nat} {st : Status}

theorem actCheck_late (h : slotBegun slot s = true) : actCheck slot id s = stLate := if_pos h

theorem actCheck_range (hslot : slotBegun slot s = false)
    (h : id = 0 ∨ (s.bigRole = true ∧ (slot + 2 ^ 40 - s.absSlot) % 2 ^ 40 < 4096 * s.dU 0x3500 0x34)) : actCheck slot id s = stRange := by
  unfold actCheck
  rw [if_neg (by simp [hslot])]
  by_cases hid : id = 0
  · rw [if_pos hid]
  · rw [if_neg hid, if_pos (h.resolve_left hid)]

theorem stagedIs_iff : stagedIs id s = true ↔ (s.bootState = 1 ∧ s.bootN 6 2 = id) ∧ id ≠ 0 := by
  simp [stagedIs]

theorem actCheck_ahead (hslot : slotBegun slot s = false) (hid : id ≠ 0)
    (hlead : ¬(s.bigRole = true ∧ (slot + 2 ^ 40 - s.absSlot) % 2 ^ 40 < 4096 * s.dU 0x3500 0x34)) :
    actCheck slot id s = if s.bootState = 1 ∧ s.bootN 6 2 = id then stOk else stNotReady := by
  unfold actCheck
  rw [if_neg (by simp [hslot]), if_neg hid, if_neg hlead]
  by_cases hready : s.bootState = 1 ∧ s.bootN 6 2 = id
  · rw [if_pos hready, if_neg (by simp [stagedIs_iff.2 ⟨hready, hid⟩])]
  · rw [if_neg hready, if_pos]
    simpa using fun h => hready (stagedIs_iff.1 h).1

end

/-- An activation armed, announced and shown. -/
def actArmedShown (slot id : Nat) (s : State) : State :=
  (announced true slot id (bootPut [(24, 5, slot), (29, 1, 1), (30, 2, id)] s)).produceSt 0x3500 0x33 stOk

theorem announcedShown_frame (slot id : Nat) (u : State) :
    ∃ d z b, (announced true slot id u).produceSt 0x3500 0x33 stOk = { u with dict := d, results := z, lnk := { u.lnk with beacon := b } } ∧
      (u.bigRole = true → b = { u.lnk.beacon with act := true, actSlot := BitVec.ofNat 40 slot, actId := BitVec.ofNat 16 id }) := by
  obtain ⟨b, hb, hbeacon⟩ := announced_frame true slot id u
  rw [hb]
  exact ⟨_, _, b, rfl, hbeacon⟩

theorem actRequest_refused {s : State} {st : Status} (h : actCheck (s.dU 0x3500 0x31 % 2 ^ 40) (s.dU 0x3500 0x30) s = st) (hst : st ≠ stOk) :
    actRequest s = (st, s.produceSt 0x3500 0x33 st) := by
  unfold actRequest
  dsimp only
  rw [h, if_pos hst]

theorem actRequest_armed {s : State} (h : actCheck (s.dU 0x3500 0x31 % 2 ^ 40) (s.dU 0x3500 0x30) s = stOk) (hroll : s.dU 0x3600 0x53 = 0) :
    actRequest s = (stOk, actArmedShown (s.dU 0x3500 0x31 % 2 ^ 40) (s.dU 0x3500 0x30) s) := by
  have harm : ∀ slot id, actArm slot id s = bootPut [(24, 5, slot), (29, 1, 1), (30, 2, id)] s := by
    intro slot id
    unfold actArm rollOnArm
    rw [bootPut_dU (by decide), hroll, if_neg (by decide)]
  unfold actRequest
  dsimp only
  rw [h, if_neg (by simp), harm]
  rfl

section
variable {s : State} {src : Src} (h : Asks s src) {v : BitVec 32} (hnew : leBytes 4 v.toNat ≠ s.dGet 0x3500 0x32) (tid : Byte)
include h hnew

theorem execActRequest_refused {st : Status} (hcheck : actCheck (s.dU 0x3500 0x31 % 2 ^ 40) (s.dU 0x3500 0x30) s = st) (hst : st ≠ stOk) :
    ∃ t, exec (.actRequest src tid v) s = .next t ∧ Shown s t src tid 0x32 0x33 st st ∧
      { t with links := s.links, dict := s.dict, results := s.results } = s := by
  have hact := actUpdate_actRequest (actRequest_refused hcheck hst) (leBytes 4 v.toNat)
  rw [if_neg hst] at hact
  obtain ⟨l, a, hlink, hpdu, hexec⟩ := requestEntry_actRequest.refused h hnew hst ((entryAct_update ..).trans hact) tid
  exact ⟨_, congrArg Host.Outcome.next hexec, shown_refused hlink hpdu, frame_refused ..⟩

theorem execActRequest_armed (hcheck : actCheck (s.dU 0x3500 0x31 % 2 ^ 40) (s.dU 0x3500 0x30) s = stOk) (hroll : s.dU 0x3600 0x53 = 0)
    (hplk : s.plkRuns = false) :
    ∃ t, exec (.actRequest src tid v) s = .next t ∧ Shown s t src tid 0x32 0x33 0 0 ∧
      Rewritten s t [(24, 5, s.dU 0x3500 0x31 % 2 ^ 40), (29, 1, 1), (30, 2, s.dU 0x3500 0x30)] ∧
      (s.bigRole = true → t.lnk.beacon = { s.lnk.beacon with
        act := true, actSlot := BitVec.ofNat 40 (s.dU 0x3500 0x31 % 2 ^ 40), actId := BitVec.ofNat 16 (s.dU 0x3500 0x30) }) ∧
      OnlyRecord { s with lnk := { s.lnk with beacon := t.lnk.beacon }, results := t.results, links := t.links } t := by
  have hrequest := actRequest_armed hcheck hroll
  clear hcheck
  generalize s.dU 0x3500 0x31 % 2 ^ 40 = slot, s.dU 0x3500 0x30 = id at hrequest ⊢
  have hact := actUpdate_actRequest hrequest (leBytes 4 v.toNat)
  have hsilent : (actArmedShown slot id s).plkRuns = false := by
    rw [actArmedShown, plkRuns_produceSt (by decide), plkRuns_announced, plkRuns_bootPut, hplk]
  rw [if_pos rfl, tellWorkers_silent hsilent] at hact
  obtain ⟨l, a, hlink, hpdu, hexec⟩ := requestEntry_actRequest.taken h hnew ((entryAct_update ..).trans hact) tid
  have hresult : (actArmedShown slot id s).dGet 0x3500 0x33 = [0] := dGet_produce_self ..
  have hstands : (actArmedShown slot id s).resOf 0x3500 0x33 = { produced := true, pending := false, fresh := 0x7F } := resOf_produce_self ..
  obtain ⟨d, z, b, hframe, hbeacon⟩ := announcedShown_frame slot id (bootPut [(24, 5, slot), (29, 1, 1), (30, 2, id)] s)
  rw [bigRole_bootPut] at hbeacon
  obtain ⟨m, r, e, hput⟩ := bootPut_frame [(24, 5, slot), (29, 1, 1), (30, 2, id)] s
  have hbytes : ∀ a, (bootPut [(24, 5, slot), (29, 1, 1), (30, 2, id)] s).rd8 a = Memory.read m.cells a := by
    rw [hput]
    exact fun _ => rfl
  rw [hput] at hframe hbeacon
  unfold actArmedShown at hexec hresult hstands
  rw [hput, hframe] at hexec hresult hstands
  exact ⟨_, congrArg Host.Outcome.next hexec, ⟨(dGet_dSet_ne _ _ (by decide)).trans hresult, hstands, spoke_of_push hlink hpdu rfl⟩,
    fun a => (hbytes a).symm, hbeacon, rfl⟩

end

/-! ### ACT_CANCEL -/

theorem actCancel_armed {s : State} (h : s.actArmed = true) :
    actCancel s = (stOk, announced true (s.bootN 24 5) 0 (bootPut [(24, 5, 0), (29, 1, s.bootN 29 1 / 4 * 4), (30, 2, 0)] s)) := by
  unfold actCancel
  rw [if_neg (by simp [h])]
  rfl

theorem execActCancel_armed {s : State} {src : Src} (h : Asks s src) {v : BitVec 32} (hnew : leBytes 4 v.toNat ≠ s.dGet 0x3500 0x35) (tid : Byte)
    (harmed : s.actArmed = true) (hplk : s.plkRuns = false) :
    ∃ t, exec (.actCancel src tid v) s = .next t ∧ Rewritten s t [(24, 5, 0), (29, 1, s.bootN 29 1 / 4 * 4), (30, 2, 0)] ∧
      (s.bigRole = true → t.lnk.beacon = { s.lnk.beacon with act := true, actSlot := BitVec.ofNat 40 (s.bootN 24 5), actId := 0 }) ∧
      Spoke s t src (writeResp tid 0x3500 0x35 0) := by
  have hrequest := actCancel_armed harmed
  generalize s.bootN 24 5 = slot at hrequest ⊢
  generalize [(24, 5, 0), (29, 1, s.bootN 29 1 / 4 * 4), (30, 2, 0)] = l at hrequest ⊢
  have hact := actUpdate_actCancel hrequest (leBytes 4 v.toNat)
  have hsilent : (announced true slot 0 (bootPut l s)).plkRuns = false := by rw [plkRuns_announced, plkRuns_bootPut, hplk]
  rw [if_pos ⟨rfl, harmed⟩, tellWorkers_silent hsilent] at hact
  obtain ⟨link, a, hlink, hpdu, hexec⟩ := requestEntry_actCancel.taken h hnew ((entryAct_update ..).trans hact) tid
  obtain ⟨b, hframe, hbeacon⟩ := announced_frame true slot 0 (bootPut l s)
  rw [bigRole_bootPut] at hbeacon
  obtain ⟨m, r, e, hput⟩ := bootPut_frame l s
  have hbytes : ∀ a, (bootPut l s).rd8 a = Memory.read m.cells a := by
    rw [hput]
    exact fun _ => rfl
  rw [hput] at hframe hbeacon
  rw [hput, hframe] at hexec
  exact ⟨_, congrArg Host.Outcome.next hexec, fun a => (hbytes a).symm, hbeacon, spoke_of_push hlink hpdu rfl⟩

end Sys2Proof.Machine
end

section
/-! SUPPORT. The hitless hand-over: what the request prepares and what refuses it, and the swap that completes it (R362, R466). -/

namespace Sys2Proof.Machine

/-! ### Cores loaded and started -/

theorem coreStart_running {s : State} {c p : Fin 6} (h : s.physOf c = some p) (cause : Fin 4) (pc : BitVec 32) :
    coreStart c cause pc s = kmod p (·.started pc) { s with kz := { s.kz with
      cause := vset s.kz.cause c cause, ipend := vset s.kz.ipend c 0, run := vset s.kz.run c true } } := by
  unfold coreStart
  rw [h]

theorem loadMicrocode_frame (p : Fin 6) (h : Nat) (s : State) : ∃ f : Core → Core, loadMicrocode p h s = kmod p f s := by
  unfold loadMicrocode
  extract_lets uc w
  split
  · exact ⟨_, rfl⟩
  · exact ⟨_, rfl⟩

/-- What the load of a core leaves alone: the map, power, the timebase and every byte below the RAM. -/
structure LoadsCore (s t : State) : Prop extends RunsOn s t where
  map : t.kz.map = s.kz.map

theorem LoadsCore.refl (s : State) : LoadsCore s s := ⟨.refl s, rfl⟩

theorem LoadsCore.trans {s t u : State} (h : LoadsCore s t) (h' : LoadsCore t u) : LoadsCore s u :=
  ⟨h.toRunsOn.trans h'.toRunsOn, h'.map.trans h.map⟩

theorem loadsCore_kmod (p : Fin 6) (f : Core → Core) (s : State) : LoadsCore s (kmod p f s) := ⟨.of_eq rfl rfl rfl, rfl⟩

theorem loadsCore_loadMicrocode (p : Fin 6) (h : Nat) (s : State) : LoadsCore s (loadMicrocode p h s) := by
  obtain ⟨f, hf⟩ := loadMicrocode_frame p h s
  rw [hf]
  exact loadsCore_kmod ..

theorem loadsCore_coreStart (c : Fin 6) (cause : Fin 4) (pc : BitVec 32) (s : State) : LoadsCore s (coreStart c cause pc s) := by
  unfold coreStart
  split
  · exact .refl s
  · exact ⟨.of_eq rfl rfl rfl, rfl⟩

theorem loadsCore_wrBytes {a : Nat} (h : 0x20000000 ≤ a) (bs : List Byte) (s : State) : LoadsCore s (s.wrBytes a bs) :=
  ⟨⟨rfl, rfl, (sameBytes_wrBytes bs s 0).mono (Nat.le_refl 0) h⟩, rfl⟩

theorem loadsCore_coreLoad (c : Fin 6) (cause : Fin 4) (s : State) : LoadsCore s (coreLoad c cause s) := by
  unfold coreLoad
  split
  · exact .refl s
  · rename_i p _
    split
    · exact .refl s
    · split
      · dsimp only
        refine LoadsCore.trans ?_ (loadsCore_coreStart ..)
        split
        · exact .refl s
        · exact loadsCore_loadMicrocode ..
      · extract_lets k h load body s₁ s₂ entry boot _ s₃
        split
        · exact .refl s
        · have h₁ : LoadsCore s s₁ := loadsCore_loadMicrocode ..
          clear_value s₁
          have h₂ : LoadsCore s₁ s₂ := by
            dsimp only [s₂]
            split
            · exact .refl s₁
            · rename_i hload
              refine loadsCore_wrBytes ?_ _ s₁
              dsimp only [body]
              rw [if_neg hload]
              omega
          clear_value s₂
          have h₃ : LoadsCore s₂ s₃ := ⟨.of_eq rfl rfl rfl, rfl⟩
          clear_value s₃
          exact (((h₁.trans h₂).trans h₃).trans (loadsCore_coreStart ..)).trans (loadsCore_kmod ..)

/-! ### The swap that completes a hand-over (R362, R466) -/

/-- What a swap leaves: the two numbers exchanged, and nothing of memory, the boot state or the entries. -/
structure Swapped (c p q : Fin 6) (s t : State) : Prop where
  map : t.kz.map = vset (vset s.kz.map c (some q)) 5 (some p)
  result : t.kz.swapResult = stOk
  boot : t.boot = s.boot
  mem : t.mem = s.mem

/-- The two cores and their numbers exchanged, before the map is shown. -/
def exchanged (c p q : Fin 6) (s : State) : State :=
  let s := kmod q (fun k => { k with waiting := false }) (coreStop 5 p s)
  { s with kz := { s.kz with
    map := vset (vset s.kz.map c (some q)) 5 (some p), cause := vset s.kz.cause c 3, run := vset (vset s.kz.run c true) 5 false
    swapArm := false, swapResult := stOk } }.flag kzcStat 2

theorem coreSwap_eq {s : State} {c p q : Fin 6} (harm : s.kz.swapArm = true) (hcore : s.kz.swapCore = BitVec.ofNat 3 c.1) (hp : s.physOf c = some p)
    (hq : s.physOf 5 = some q) (hrun : (vget s.kz.phys q).halted = false) (hwait : (vget s.kz.phys q).waiting = true) :
    coreSwap s = syncKz (exchanged c p q s) := by
  have hnumber : ∀ c : Fin 6, (Fin.ofNat 6 (BitVec.ofNat 3 c.1).toNat : Fin 6) = c := by decide
  have hc : (Fin.ofNat 6 s.kz.swapCore.toNat : Fin 6) = c := by rw [hcore, hnumber]
  unfold coreSwap
  dsimp only
  rw [hc, if_neg (by simp [harm]), hp, hq]
  dsimp only
  rw [if_neg (by simp [hrun, hwait])]
  rfl

theorem swapped_exchanged (c p q : Fin 6) (s : State) : Swapped c p q s (syncKz (exchanged c p q s)) := by
  obtain ⟨r, d, h⟩ := (onlyShows_syncKz (exchanged c p q s)).exists_eq
  rw [h]
  exact ⟨rfl, rfl, rfl, rfl⟩

/-- The set in TRIAL with the class's new header and body, in memory, the boot state and the result entry. -/
structure HandedOver (s t : State) : Prop where
  map : t.kz.map = s.kz.map
  none : t.boot.handOver = none
  result : t.dGet 0x3500 0x24 = [0]
  flash : ∀ a, a < 0x20000000 → t.rd8 a = (bootPut [(2, 1, 2), (3, 1, 0), (29, 1, 4)] s).rd8 a

theorem rd8_produceSt (x y : Nat) (st : Status) (s : State) (a : Nat) : (s.produceSt x y st).rd8 a = s.rd8 a := rfl

theorem handedOver_produced {u : State} (s : State) (hmap : u.kz.map = s.kz.map) (hnone : u.boot.handOver = none)
    (hflash : ∀ a, u.rd8 a = (bootPut [(2, 1, 2), (3, 1, 0), (29, 1, 4)] s).rd8 a) : HandedOver s (u.produceSt 0x3500 0x24 stOk) := by
  refine ⟨hmap, hnone, dGet_produce_self .., fun a _ => ?_⟩
  rw [rd8_produceSt]
  exact hflash a

theorem handOverDone_done (h : HandOver) (s : State) : HandedOver s (handOverDone h stOk s) := by
  unfold handOverDone
  extract_lets hd _ s₁ s₂
  have hmem : s₂.mem = s.mem := rfl
  have hmap : s₂.kz.map = s.kz.map := rfl
  have hnone : s₂.boot.handOver = none := rfl
  clear_value s₂
  have hflash := rd8_bootPut_congr hmem [(2, 1, 2), (3, 1, 0), (29, 1, 4)]
  refine handedOver_produced s ?_ ?_ hflash
  · obtain ⟨m, r, d, hput⟩ := bootPut_frame [(2, 1, 2), (3, 1, 0), (29, 1, 4)] s₂
    rw [hput]
    exact hmap
  · rw [(stands_bootPut _ s₂).boot]
    exact hnone

theorem handedOver_coreLoad {s t : State} (h : HandedOver s t) (c : Fin 6) (cause : Fin 4) : HandedOver s (coreLoad c cause t) := by
  have hload := loadsCore_coreLoad c cause t
  refine ⟨hload.map.trans h.map, ?_, ?_, fun a ha => ?_⟩
  · rw [(stands_coreLoad c cause t).boot]
    exact h.none
  · unfold State.dGet
    rw [coreLoad_dict]
    exact h.result
  · rw [hload.flash a (Nat.zero_le a) ha]
    exact h.flash a ha

theorem execCoreSwap_handOver {s : State} {o : HandOver} {p q : Fin 6} (ho : s.boot.handOver = some o) (hslot : slotBegun o.slot s = true)
    (harm : s.kz.swapArm = true) (hcore : s.kz.swapCore = BitVec.ofNat 3 o.core.1) (hne : o.core ≠ 5) (hp : s.physOf o.core = some p)
    (hq : s.physOf 5 = some q) (hrun : (vget s.kz.phys q).halted = false) (hwait : (vget s.kz.phys q).waiting = true) :
    ∃ t, exec .coreSwap s = .next t ∧ t.physOf o.core = some q ∧ t.physOf 5 = some p ∧ t.boot.handOver = none ∧ t.dGet 0x3500 0x24 = [0] ∧
      ∀ a, a < 0x20000000 → t.rd8 a = (bootPut [(2, 1, 2), (3, 1, 0), (29, 1, 4)] s).rd8 a := by
  have hswapped : Swapped o.core p q s (coreSwap s) := by
    rw [coreSwap_eq harm hcore hp hq hrun hwait]
    exact swapped_exchanged ..
  have htrigger : swapTrigger s = coreLoad 5 0 (handOverDone o stOk (coreSwap s)) := by
    unfold swapTrigger
    rw [ho]
    dsimp only
    rw [if_neg (by simp [hslot]), if_pos (by simp [harm, hswapped.result])]
  have hdone := handedOver_coreLoad (handOverDone_done o (coreSwap s)) 5 0
  refine ⟨_, congrArg Host.Outcome.next htrigger, ?_, ?_, hdone.none, hdone.result, fun a ha => ?_⟩
  · unfold State.physOf
    rw [hdone.map, hswapped.map, vget_vset_ne (Ne.symm hne), vget_vset_self]
  · unfold State.physOf
    rw [hdone.map, hswapped.map, vget_vset_self]
  · rw [hdone.flash a ha, rd8_bootPut_congr hswapped.mem]

end Sys2Proof.Machine
end

section
/-! SUPPORT. HO_REQUEST: the body in the RAM window, the spare core started as logical core 5, and the swap armed for its slot (R466, R467). -/

namespace Sys2Proof.Machine

theorem actUpdate_hoRequest (v : List Byte) (s : State) : actUpdate {} 0x23 v s = hoRequest s := rfl

/-- No hand-over is under way and a set is staged, not armed. -/
def HandOverFree (s : State) : Prop := s.bootState = 1 ∧ s.actArmed = false ∧ s.boot.handOver = none

/-! ### What refuses the request -/

section
variable {s : State}

theorem hoRequest_busy (h : ¬HandOverFree s) : hoRequest s = (stNotReady, s.produceSt 0x3500 0x24 stNotReady) := by
  have hcond : (s.bootState ≠ 1 || s.actArmed || s.boot.handOver.isSome) = true := by
    unfold HandOverFree at h
    by_contra hn
    simp only [Bool.or_eq_true, decide_eq_true_eq, not_or, ne_eq, not_not, Bool.not_eq_true, Option.isSome_eq_false_iff,
      Option.isNone_iff_eq_none] at hn
    exact h ⟨hn.1.1, hn.1.2, hn.2⟩
  unfold hoRequest
  exact if_pos hcond

theorem handOverFree_condition (h : HandOverFree s) : ¬(s.bootState ≠ 1 || s.actArmed || s.boot.handOver.isSome) = true := by
  obtain ⟨hstate, harmed, hnone⟩ := h
  simp [hstate, harmed, hnone]

theorem hoRequest_unfit (h : HandOverFree s) (hok : handOverOk (s.dU 0x3500 0x20) s = false) :
    hoRequest s = (stRange, s.produceSt 0x3500 0x24 stRange) := by
  unfold hoRequest
  dsimp only
  rw [if_neg (handOverFree_condition h), if_pos (by simp [hok])]

theorem hoRequest_late (h : HandOverFree s) (hok : handOverOk (s.dU 0x3500 0x20) s = true)
    (hlate : s.dU 0x3500 0x21 % 2 ^ 40 ≠ 0 ∧ slotBegun (s.dU 0x3500 0x21 % 2 ^ 40) s = true) :
    hoRequest s = (stLate, s.produceSt 0x3500 0x24 stLate) := by
  unfold hoRequest
  dsimp only
  rw [if_neg (handOverFree_condition h), if_neg (by simp [hok]), if_pos hlate]

end

/-! ### What it prepares -/

/-- A physical core runs from an address, with g1 at its image's body; nothing but the cores has changed, and not their map. -/
structure CoreRuns (p : Fin 6) (pc base : BitVec 32) (s t : State) : Prop where
  running : (vget t.kz.phys p).halted = false
  entry : (vget t.kz.phys p).pc = pc
  base : (vget t.kz.phys p).gr 1 = base
  map : t.kz.map = s.kz.map
  frame : { t with kz := s.kz } = s

theorem coreRuns_started {s : State} {c p : Fin 6} (h : s.physOf c = some p) (cause : Fin 4) (pc base : BitVec 32) :
    CoreRuns p pc base s (kmod p (fun k => k.setGr 1 base) (coreStart c cause pc s)) := by
  rw [coreStart_running h]
  refine ⟨?_, ?_, ?_, rfl, rfl⟩
  · simp only [kmod, vget_vmod_self]
    rfl
  · simp only [kmod, vget_vmod_self]
    rfl
  · simp only [kmod, vget_vmod_self]
    exact gr_setGr_one ..

/-- The spare core's new image: its body in the RAM window, its microcode, and the core started as logical core 5. -/
def spareStarted (q : Fin 6) (h : Nat) (s : State) : State :=
  let s := loadMicrocode q h (s.wrBytes 0x20300000 (s.rdBytes (h + 256) (imgBody h s)))
  let pc := BitVec.ofNat 32 (0x20300000 + imgEntry h s)
  kmod q (fun k => k.setGr 1 0x20300000) (coreStart 5 0 pc { s with kz := { s.kz with boot := vset s.kz.boot 5 pc } })

/-- A hand-over noted, with its result asked for. -/
def handOverNoted (c want : Nat) (s : State) : State :=
  { s with boot := { s.boot with handOver := some { cls := Fin.ofNat 4 c, core := handOverCore c, slot := want } } }.resPend 0x3500 0x24

/-- A hand-over waits for its slot, with the swap armed. -/
def handOverSet (c want : Nat) (s : State) : State := handOverNoted c want (swapArm (BitVec.ofNat 32 ((handOverCore c).1 + 2 ^ 31)) s)

theorem hoRequest_prepared {s : State} {q : Fin 6} (h : HandOverFree s) (hok : handOverOk (s.dU 0x3500 0x20) s = true)
    (hwant : s.dU 0x3500 0x21 % 2 ^ 40 ≠ 0) (hahead : slotBegun (s.dU 0x3500 0x21 % 2 ^ 40) s = false) (hq : s.physOf 5 = some q)
    (hon : s.isOn 10 = true) :
    hoRequest s = (stOk, handOverSet (s.dU 0x3500 0x20) (s.dU 0x3500 0x21 % 2 ^ 40)
      (spareStarted q ((imgAt stagingSlot (s.dU 0x3500 0x20) s).getD 0) s)) := by
  have hsame : domSet 10 .on 7 s = s := by
    have hdom : vget s.pcc.dom 10 = .on := by simpa [State.isOn] using hon
    unfold domSet
    rw [hdom]
    rfl
  have hphys : ∀ bs, (s.wrBytes 0x20300000 bs).physOf 5 = some q := fun _ => hq
  have hslot : ¬(s.dU 0x3500 0x21 % 2 ^ 40 ≠ 0 ∧ slotBegun (s.dU 0x3500 0x21 % 2 ^ 40) s = true) :=
    not_and_of_not_right _ (by rw [hahead]; exact Bool.false_ne_true)
  unfold hoRequest
  dsimp only
  rw [if_neg (handOverFree_condition h), if_neg (by simp [hok]), if_neg hslot, if_neg (by simp [hq]), hsame, hphys, if_neg hwant]
  rfl

/-- What the start of the spare leaves: the core at the image's entry, the body in the window, and nothing else but memory and cores. -/
structure SpareReady (q : Fin 6) (h : Nat) (s t : State) : Prop where
  running : (vget t.kz.phys q).halted = false
  entry : (vget t.kz.phys q).pc = BitVec.ofNat 32 (0x20300000 + imgEntry h s)
  base : (vget t.kz.phys q).gr 1 = 0x20300000
  map : t.kz.map = s.kz.map
  body : ∀ k, k < imgBody h s → t.rd8 (0x20300000 + k) = s.rd8 (h + 256 + k)
  frame : { t with mem := s.mem, kz := s.kz } = s

theorem spareReady_spareStarted {q : Fin 6} {h : Nat} {s : State} (hq : s.physOf 5 = some q) (hlow : h + 256 + imgBody h s ≤ 0x20000000) :
    SpareReady q h s (spareStarted q h s) := by
  have hbytes := sameBytes_wrBytes (a := 0x20300000) (s.rdBytes (h + 256) (imgBody h s)) s 0
  have hcopied : ∀ k, k < imgBody h s → (s.wrBytes 0x20300000 (s.rdBytes (h + 256) (imgBody h s))).rd8 (0x20300000 + k) = s.rd8 (h + 256 + k) :=
    fun k hk => rd8_copied s hk
  have hentry : imgEntry h (s.wrBytes 0x20300000 (s.rdBytes (h + 256) (imgBody h s))) = imgEntry h s := hbytes.imgEntry (Nat.zero_le h) (by omega)
  unfold spareStarted
  obtain ⟨m, hm⟩ : ∃ m, s.wrBytes 0x20300000 (s.rdBytes (h + 256) (imgBody h s)) = { s with mem := m } := ⟨_, rfl⟩
  rw [hm] at hcopied hentry ⊢
  obtain ⟨f, hf⟩ := loadMicrocode_frame q h { s with mem := m }
  have hentry' : imgEntry h (kmod q f { s with mem := m }) = imgEntry h s := hentry
  rw [hf]
  dsimp only
  rw [hentry']
  obtain ⟨hrun, hpc, hbase, hmap, hframe⟩ := coreRuns_started (s := { kmod q f { s with mem := m } with
    kz := { (kmod q f { s with mem := m }).kz with boot := vset s.kz.boot 5 (BitVec.ofNat 32 (0x20300000 + imgEntry h s)) } }) hq 0
    (BitVec.ofNat 32 (0x20300000 + imgEntry h s)) 0x20300000
  have hmem := congrArg (fun w : State => { w with mem := s.mem, kz := s.kz }) hframe
  have hcells : ∀ x, Memory.read m.cells x = _ := fun x => (congrArg (fun w : State => w.rd8 x) hframe).symm
  exact ⟨hrun, hpc, hbase, hmap, fun k hk => (hcells _).symm.trans (hcopied k hk), hmem⟩

/-- What the swap's arming leaves. -/
structure SwapSet (c : Nat) (s t : State) : Prop where
  arm : t.kz.swapArm = true
  core : t.kz.swapCore = BitVec.ofNat 3 c
  phys : t.kz.phys = s.kz.phys
  frame : { t with kz := s.kz } = s

/-- A swap of core 1, 2 or 3 armed, with a spare to take its place. -/
theorem swapSet_armed {s : State} {v : BitVec 32} {c : Nat} (hfield : field v.toNat 2 0 = c) (hbit : bit v.toNat 31 = true) (hc : 1 ≤ c ∧ c < 4)
    {q : Fin 6} (hq : s.physOf 5 = some q) : SwapSet c s (swapArm v s) := by
  have hspare : ¬(vget s.kz.map 5).isNone = true := by
    rw [show vget s.kz.map 5 = some q from hq]
    exact Bool.false_ne_true
  have hrange : ¬(c = 0 ∨ 4 ≤ c) := by omega
  have harmed : swapArm v s = { s with kz := { s.kz with
      swapCore := BitVec.ofNat 3 c, swapChan := chan (field v.toNat 13 8), swapArm := true } } := by
    unfold swapArm
    dsimp only
    rw [hbit, hfield, if_neg hrange]
    exact if_neg hspare
  rw [harmed]
  exact ⟨rfl, rfl, rfl, rfl⟩

/-- The word that arms the swap of core 1 or 2. -/
theorem swapWord_core {c : Nat} (hc : c = 1 ∨ c = 2) :
    field (BitVec.ofNat 32 ((handOverCore c).1 + 2 ^ 31)).toNat 2 0 = c ∧ bit (BitVec.ofNat 32 ((handOverCore c).1 + 2 ^ 31)).toNat 31 = true := by
  rcases hc with rfl | rfl <;> decide

theorem SpareReady.exists_eq {q : Fin 6} {h : Nat} {s t : State} (ht : SpareReady q h s t) : ∃ m k, t = { s with mem := m, kz := k } := by
  have hagain := congrArg (fun w : State => { w with mem := t.mem, kz := t.kz }) ht.frame
  exact ⟨t.mem, t.kz, hagain⟩

theorem SwapSet.exists_eq {c : Nat} {s t : State} (ht : SwapSet c s t) : t = { s with kz := t.kz } := by
  have hagain := congrArg (fun w : State => { w with kz := t.kz }) ht.frame
  exact hagain

/-- A hand-over is set over a spare that stands ready. -/
structure Prepared (c want : Nat) (q : Fin 6) (x : Nat) (s t : State) : Prop where
  handOver : t.boot.handOver = some { cls := Fin.ofNat 4 c, core := if c = 1 then 1 else 2, slot := want }
  arm : t.kz.swapArm = true
  core : t.kz.swapCore = BitVec.ofNat 3 c
  pending : (t.resOf 0x3500 0x24).pending = true
  links : t.links = s.links
  running : (vget t.kz.phys q).halted = false
  entry : (vget t.kz.phys q).pc = BitVec.ofNat 32 (0x20300000 + imgEntry x s)
  base : (vget t.kz.phys q).gr 1 = 0x20300000
  body : ∀ k, k < imgBody x s → t.rd8 (0x20300000 + k) = s.rd8 (x + 256 + k)

theorem handOverNoted_pending (c want : Nat) (s : State) : ((handOverNoted c want s).resOf 0x3500 0x24).pending = true := by
  simp [handOverNoted, State.resPend, State.resOf, alGet_alPut_self]

theorem handOverNoted_frame (c want : Nat) (s : State) : ∃ r, handOverNoted c want s = { s with
    boot := { s.boot with handOver := some { cls := Fin.ofNat 4 c, core := handOverCore c, slot := want } }, results := r } := ⟨_, rfl⟩

theorem prepared_noted {c want x : Nat} {q : Fin 6} {s u w : State} (hready : SpareReady q x s u) (hswap : SwapSet c u w) :
    Prepared c want q x s (handOverNoted c want w) := by
  have hpending := handOverNoted_pending c want w
  obtain ⟨r, hnoted⟩ := handOverNoted_frame c want w
  obtain ⟨m, k, hu⟩ := hready.exists_eq
  have hw := hswap.exists_eq
  obtain ⟨harm, hcore, hphys, -⟩ := hswap
  obtain ⟨hrun, hpc, hbase, -, hbody, -⟩ := hready
  rw [← hphys] at hrun hpc hbase
  generalize w.kz = k' at harm hcore hrun hpc hbase hw
  rw [hnoted] at hpending ⊢
  subst hw hu
  exact ⟨rfl, harm, hcore, hpending, rfl, hrun, hpc, hbase, hbody⟩

theorem prepared_handOverSet {c : Nat} (want : Nat) {x : Nat} {q : Fin 6} {s : State} (hq : s.physOf 5 = some q) (hc : c = 1 ∨ c = 2)
    (hlow : x + 256 + imgBody x s ≤ 0x20000000) : Prepared c want q x s (handOverSet c want (spareStarted q x s)) := by
  have hready := spareReady_spareStarted hq hlow
  have hqu : (spareStarted q x s).physOf 5 = some q := by
    unfold State.physOf
    rw [hready.map]
    exact hq
  obtain ⟨hfield, hbit⟩ := swapWord_core hc
  have hswap := swapSet_armed hfield hbit (by omega) hqu
  unfold handOverSet
  generalize spareStarted q x s = u at hready hswap
  generalize swapArm (BitVec.ofNat 32 ((handOverCore c).1 + 2 ^ 31)) u = w at hswap
  exact prepared_noted hready hswap

/-! ### The request -/

/-- A request whose action says OK changes the dictionary and the links beside what its action does, and speaks. -/
theorem RequestEntry.taken_frame {i : BitVec 16} {x : Byte} (hentry : RequestEntry i x) {s t : State} {src : Src} (h : Asks s src) {n : Nat}
    (hnew : leBytes 4 n ≠ s.dGet i.toNat x.toNat) (hact : entryAct {} i.toNat x.toNat (leBytes 4 n) s = (stOk, t))
    (hlinks : t.links = s.links) (tid : Byte) :
    ∃ d k, hostWrite {} src tid i x (leBytes 4 n) s = { t with dict := d, links := k } ∧
      Spoke s { t with dict := d, links := k } src (writeResp tid i x stOk) := by
  obtain ⟨l, a, hlink, hpdu, hexec⟩ := hentry.taken h hnew hact tid
  have hout : (t.dSet i.toNat x.toNat (leBytes 4 n)).links.outbox = s.links.outbox := by rw [State.dSet_links, hlinks]
  exact ⟨_, _, hexec, spoke_of_push hlink hpdu hout⟩

section
variable {s : State} {src : Src} (h : Asks s src) {v : BitVec 32} (hnew : leBytes 4 v.toNat ≠ s.dGet 0x3500 0x23) (tid : Byte)
include h hnew

theorem execHoRequest_refused {st : Status} (hrequest : hoRequest s = (st, s.produceSt 0x3500 0x24 st)) (hst : st ≠ stOk) :
    ∃ t, exec (.hoRequest src tid v) s = .next t ∧ Shown s t src tid 0x23 0x24 st st ∧
      { t with links := s.links, dict := s.dict, results := s.results } = s := by
  have hact := (entryAct_update {} 0x23 (leBytes 4 v.toNat) s).trans ((actUpdate_hoRequest ..).trans hrequest)
  obtain ⟨l, a, hlink, hpdu, hexec⟩ := requestEntry_hoRequest.refused h hnew hst hact tid
  exact ⟨_, congrArg Host.Outcome.next hexec, shown_refused hlink hpdu, frame_refused ..⟩

theorem execHoRequest_taken {t : State} (hlinks : t.links = s.links) (hrequest : hoRequest s = (stOk, t)) :
    ∃ d k, exec (.hoRequest src tid v) s = .next { t with dict := d, links := k } ∧
      Spoke s { t with dict := d, links := k } src (writeResp tid 0x3500 0x23 0) := by
  have hact := (entryAct_update {} 0x23 (leBytes 4 v.toNat) s).trans ((actUpdate_hoRequest ..).trans hrequest)
  obtain ⟨d, k, hexec, hspoke⟩ := requestEntry_hoRequest.taken_frame h hnew hact hlinks tid
  exact ⟨d, k, congrArg Host.Outcome.next hexec, hspoke⟩

theorem execHoRequest_prepared {c want x : Nat} {q : Fin 6} {u : State} (hready : Prepared c want q x s u) (hrequest : hoRequest s = (stOk, u)) :
    ∃ t, exec (.hoRequest src tid v) s = .next t ∧ t.boot.handOver = some { cls := Fin.ofNat 4 c, core := if c = 1 then 1 else 2, slot := want } ∧
      t.kz.swapArm = true ∧ t.kz.swapCore = BitVec.ofNat 3 c ∧ (t.resOf 0x3500 0x24).pending = true ∧ (vget t.kz.phys q).halted = false ∧
      (vget t.kz.phys q).pc = BitVec.ofNat 32 (0x20300000 + imgEntry x s) ∧ (vget t.kz.phys q).gr 1 = 0x20300000 ∧
      (∀ k, k < imgBody x s → t.rd8 (0x20300000 + k) = s.rd8 (x + 256 + k)) ∧ Spoke s t src (writeResp tid 0x3500 0x23 0) := by
  obtain ⟨d, k, hexec, hspoke⟩ := execHoRequest_taken h hnew tid hready.links hrequest
  obtain ⟨hset, harm, hcore, hpending, -, hrun, hpc, hbase, hbody⟩ := hready
  exact ⟨_, hexec, hset, harm, hcore, hpending, hrun, hpc, hbase, hbody, hspoke⟩

end

end Sys2Proof.Machine
end

section
/-! SUPPORT. What BOOT_ROM_START does before it chooses a set: the core that runs the boot ROM, FLC_INTR and the record's window, and the start-up
self-test (R375, R378, R455, R490, R494). -/

namespace Sys2Proof.Machine

/-! ### What the choice of a set reads -/

/-- Memory, OTP, the saved entries, the boot state, the cores and RESET_CAUSE stand as they were. -/
structure ChoiceStands (s t : State) : Prop where
  mem : t.mem = s.mem
  sec : t.sec = s.sec
  saved : t.saved = s.saved
  boot : t.boot = s.boot
  kz : t.kz = s.kz
  cause : t.dGet 0x1200 5 = s.dGet 0x1200 5

theorem ChoiceStands.refl (s : State) : ChoiceStands s s := ⟨rfl, rfl, rfl, rfl, rfl, rfl⟩

theorem ChoiceStands.trans {s t u : State} (h : ChoiceStands s t) (h' : ChoiceStands t u) : ChoiceStands s u :=
  ⟨h'.mem.trans h.mem, h'.sec.trans h.sec, h'.saved.trans h.saved, h'.boot.trans h.boot, h'.kz.trans h.kz, h'.cause.trans h.cause⟩

theorem choiceStands_setRegN (a v : Nat) (s : State) : ChoiceStands s (s.setRegN a v) := ⟨rfl, rfl, rfl, rfl, rfl, rfl⟩

theorem choiceStands_draw (s : State) : ChoiceStands s s.draw := ⟨rfl, rfl, rfl, rfl, rfl, rfl⟩

theorem choiceStands_produce {x y : Nat} (h : key 0x1200 5 ≠ key x y) (v : List Byte) (s : State) : ChoiceStands s (s.produce x y v) :=
  ⟨rfl, rfl, rfl, rfl, rfl, dGet_produce_ne s v h⟩

theorem choiceStands_dPut {x y : Nat} (h : key 0x1200 5 ≠ key x y) (v : Nat) (s : State) : ChoiceStands s (s.dPut x y v) :=
  ⟨rfl, rfl, rfl, rfl, rfl, dGet_dPut_ne s v h⟩

theorem choiceStands_fire (p : Nat) (s : State) : ChoiceStands s (fire p s) := by
  obtain ⟨e, h⟩ := fire_frame p s
  rw [h]
  exact ⟨rfl, rfl, rfl, rfl, rfl, rfl⟩

theorem choiceStands_setFn (n : Fin 20) (v : Byte) (s : State) : ChoiceStands s (s.setFn n v) := by
  obtain ⟨o, h⟩ := setFn_frame s n v
  rw [h]
  exact ⟨rfl, rfl, rfl, rfl, rfl, rfl⟩

theorem choiceStands_moveWindow (s : State) : ChoiceStands s (moveWindow s) := by
  have hcause : (moveWindow s).dGet 0x1200 5 = s.dGet 0x1200 5 := moveWindow_dGet (by decide) s
  obtain ⟨r, d, h⟩ := moveWindow_frame s
  rw [h] at hcause ⊢
  exact ⟨rfl, rfl, rfl, rfl, rfl, hcause⟩

/-! ### The start-up self-test (R491, R494) -/

theorem choiceStands_bistResults (fails : List TestUnit) (ms : List (BitVec 16)) (s : State) : ChoiceStands s (bistResults fails ms s) := by
  unfold bistResults
  extract_lets cover total words s₁ s₂ s₃ s₄
  have h₁ : ChoiceStands s s₁ := by
    refine ChoiceStands.trans ?_ (choiceStands_draw _)
    refine foldl_keeps ChoiceStands.refl ChoiceStands.trans (fun s p => ?_) _ s
    exact choiceStands_setRegN ..
  have h₂ : ChoiceStands s s₂ := (h₁.trans (choiceStands_setRegN _ _ s₁)).trans (choiceStands_setRegN ..)
  have h₃ : ChoiceStands s s₃ := (h₂.trans (choiceStands_dPut (by decide) _ s₂)).trans (choiceStands_dPut (by decide) ..)
  have h₄ : ChoiceStands s s₄ := (h₃.trans (choiceStands_produce (by decide) _ s₃)).trans (choiceStands_produce (by decide) ..)
  exact h₄.trans (choiceStands_fire ..)

theorem choiceStands_bistFailed (fails : List TestUnit) (s : State) : ChoiceStands s (bistFailed fails s) := by
  refine foldl_keeps ChoiceStands.refl ChoiceStands.trans (fun s n => ?_) _ s
  exact choiceStands_setFn ..

theorem choiceStands_bistRecord (fails : List TestUnit) (s : State) : ChoiceStands s (bistRecord fails s).1 := ⟨rfl, rfl, rfl, rfl, rfl, rfl⟩

/-! ### The core that runs the boot ROM (R490) -/

/-- Core 0 stands on a physical core, and what the choice of a set reads, FLC_INTR with it, as it was. -/
structure CoreZeroStarted (p : Fin 6) (s t : State) : Prop where
  mem : t.mem = s.mem
  sec : t.sec = s.sec
  saved : t.saved = s.saved
  boot : t.boot = s.boot
  cause : t.dGet 0x1200 5 = s.dGet 0x1200 5
  core : t.physOf 0 = some p
  intr : t.regB 0x40060050 31 = s.regB 0x40060050 31

/-- The lowest physical core that passes. -/
def Lowest (cores retired : BitVec 6) (p : Fin 6) : Prop :=
  cores.getLsbD p.1 = true ∧ retired.getLsbD p.1 = false ∧ ∀ x, x < p → cores.getLsbD x.1 = false ∨ retired.getLsbD x.1 = true

theorem Lowest.find {cores retired : BitVec 6} {p : Fin 6} (h : Lowest cores retired p) :
    (fins 6).find? (fun x => cores.getLsbD x.1 && !retired.getLsbD x.1) = some p := by
  obtain ⟨hpass, hgood, hlow⟩ := h
  have hlen : p.1 < (fins 6).length := by simp [fins]
  refine List.find?_eq_some_iff_getElem.2 ⟨by rw [hpass, hgood]; rfl, p.1, hlen, by simp [fins], fun j hj => ?_⟩
  have hx : (fins 6)[j] = ⟨j, by omega⟩ := by simp [fins]
  rw [hx]
  rcases hlow ⟨j, by omega⟩ hj with h | h <;> simp [h]

/-- The core as the boot ROM's check leaves it. -/
def bootCoreZero (p : Fin 6) (s : State) : State :=
  coreStart 0 0 0 (syncKz { s with kz := { s.kz with map := vset s.kz.map 0 (some p), phys := .replicate 6 {} } })

theorem bootCore_same {s : State} {cores : BitVec 6} {p : Fin 6} (hp : s.physOf 0 = some p) (h : Lowest cores s.kz.retired p) :
    bootCore cores s = some (bootCoreZero p s) := by
  have hfirst : (fins 6).find? (fun c => vget s.kz.map c == some p) = some 0 := by
    have hzero : (vget s.kz.map 0 == some p) = true := beq_iff_eq.2 hp
    exact List.find?_cons_of_pos (p := fun c => vget s.kz.map c == some p) (l := [1, 2, 3, 4, 5]) hzero
  unfold bootCore
  rw [h.find]
  dsimp only
  rw [hfirst]
  rfl

theorem regB_syncKz {a : Nat} (h : a ≠ 0x21180000 ∧ a ≠ 0x21180004) (i : Nat) (s : State) : (syncKz s).regB a i = s.regB a i := by
  unfold State.regB State.regN syncKz
  rw [reg_setRegN_ne _ _ h.2, reg_setRegN_ne _ _ h.1]

theorem setRegN_setRegN_frame (s : State) (a b v w : Nat) : ∃ r, (s.setRegN a v).setRegN b w = { s with regs := r } := ⟨_, rfl⟩

theorem syncKz_frame (s : State) : ∃ r, syncKz s = { s with regs := r } := setRegN_setRegN_frame ..

theorem coreZeroStarted_bootCoreZero (p : Fin 6) (s : State) : CoreZeroStarted p s (bootCoreZero p s) := by
  unfold bootCoreZero
  generalize hk : ({ s.kz with map := vset s.kz.map 0 (some p), phys := .replicate 6 {} } : Kz) = k
  have hphys : vget k.map 0 = some p := by
    rw [← hk]
    exact vget_vset_self ..
  have hintr := regB_syncKz (a := 0x40060050) (by decide) 31 { s with kz := k }
  obtain ⟨r, hsync⟩ := syncKz_frame { s with kz := k }
  rw [hsync] at hintr ⊢
  rw [coreStart_running (show State.physOf { s with regs := r, kz := k } 0 = some p from hphys)]
  exact ⟨rfl, rfl, rfl, rfl, rfl, hphys, hintr⟩

/-! ### The start up to the choice -/

/-- The state in which the boot ROM chooses a set, when no repair is open. -/
def testedAtStart (fails : List TestUnit) (ms : List (BitVec 16)) (s : State) : State :=
  let t := (moveWindow s).dPut 0x3100 7 (b2n (!testSkipped (moveWindow s)))
  if testSkipped (moveWindow s) then t else (bistRecord fails (bistFailed fails (bistResults fails ms t))).1

theorem choiceStands_testedAtStart (fails : List TestUnit) (ms : List (BitVec 16)) (s : State) : ChoiceStands s (testedAtStart fails ms s) := by
  unfold testedAtStart
  extract_lets t
  have ht : ChoiceStands s t := (choiceStands_moveWindow s).trans (choiceStands_dPut (by decide) ..)
  split
  · exact ht
  · exact ((ht.trans (choiceStands_bistResults fails ms t)).trans (choiceStands_bistFailed ..)).trans (choiceStands_bistRecord ..)

theorem bootIntr_clear {s : State} (h : s.regB 0x40060050 31 = false) : bootIntr s = s := by
  have hclear : (!bit (s.regN 0x40060050) 31) = true := by rw [show bit (s.regN 0x40060050) 31 = false from h]; rfl
  exact if_pos hclear

theorem bootJournalFinish_closed {s : State} (h : openSector s.bootJournal = none) : bootJournalFinish s = s := by
  unfold bootJournalFinish
  rw [h]

/-- What the boot ROM chooses in: the choice's memory, entries and core 0. -/
structure ReadyToChoose (p : Fin 6) (s t : State) : Prop where
  mem : t.mem = s.mem
  sec : t.sec = s.sec
  saved : t.saved = s.saved
  cause : t.dGet 0x1200 5 = s.dGet 0x1200 5
  core : t.physOf 0 = some p

section
variable {s : State} {cores : BitVec 6} {p : Fin 6} (hstage : s.boot.stage = .rom) (hdead : s.boot.dead = false) (hscan : s.boot.scan = false)
  (hintr : s.regB 0x40060050 31 = false) (hclosed : openSector s.bootJournal = none) (hp : s.physOf 0 = some p) (h : Lowest cores s.kz.retired p)
include hstage hdead hscan hintr hclosed hp h

/-- A clean start comes to the choice of a set. -/
theorem bootRomStart_chooses (fails : List TestUnit) (ms : List (BitVec 16)) :
    ∃ t, ReadyToChoose p s t ∧ exec (.bootRomStart cores fails ms) s = .next (startChoose t) := by
  have hstarted := coreZeroStarted_bootCoreZero p s
  have hboot := bootCore_same hp h
  generalize bootCoreZero p s = u at hstarted hboot
  have htested := choiceStands_testedAtStart fails ms u
  have hwindow : openSector (moveWindow u).bootJournal = none := by
    rw [bootJournal_congr ((moveWindow_mem u).trans hstarted.mem), hclosed]
  refine ⟨testedAtStart fails ms u, ⟨htested.mem.trans hstarted.mem, htested.sec.trans hstarted.sec, htested.saved.trans hstarted.saved,
    htested.cause.trans hstarted.cause, ?_⟩, congrArg Host.Outcome.next (?_ : bootRomStart cores fails ms s = _)⟩
  · unfold State.physOf
    rw [htested.kz]
    exact hstarted.core
  · unfold bootRomStart
    rw [if_neg (by simp [hstage, hdead, hscan]), hboot]
    dsimp only
    rw [bootIntr_clear (hstarted.intr.trans hintr), bootJournalFinish_closed hwindow]
    rfl

end

end Sys2Proof.Machine
end

section
/-! SUPPORT. A set that is entered: what its verification says of class 0, the RAM window, and core 0 at the class 0 image's ENTRY (R456 to R460). -/

namespace Sys2Proof.Machine

/-! ### What a verified set says (R457, R458, R463) -/

/-- One class of a set, verified after the ones before it. -/
def classVerified (b : Nat) (s : State) (st : Status) (c : Nat) : Status :=
  if st ≠ stOk then st
  else if !imageHeaderOk c (b + imgOffset b c s) (imgLength b c s) s then stSigBad
  else imageVerify c (b + imgOffset b c s) s

theorem classVerified_foldl_bad (b : Nat) (s : State) {st : Status} (h : st ≠ stOk) (l : List Nat) : l.foldl (classVerified b s) st = st := by
  induction l with
  | nil => rfl
  | cons c l ih =>
    have hstep : classVerified b s st c = st := if_pos h
    rw [List.foldl_cons, hstep, ih]

/-- Class 0 of a verified set: its place and its header. -/
structure ClassZero (b : Nat) (s : State) : Prop where
  has : hasClass b 0 s = true
  place : imgOffset b 0 s + 256 ≤ slotSize
  load : imgLoad (b + imgOffset b 0 s) s = inPlace ∨ 0x21000000 ≤ imgLoad (b + imgOffset b 0 s) s

theorem place_of_setPlacesOk {b : Nat} {s : State} (h : setPlacesOk b s = true) (hhas : hasClass b 0 s = true) :
    imgOffset b 0 s + 256 ≤ slotSize := by
  unfold setPlacesOk at h
  extract_lets l at h
  obtain ⟨hall, -⟩ := Bool.and_eq_true_iff.1 h
  have hmem : (imgOffset b 0 s, imgLength b 0 s) ∈ l := List.mem_filterMap.2 ⟨0, by decide, if_pos hhas⟩
  have hplace := List.all_eq_true.1 hall _ hmem
  simp only [Bool.and_eq_true, decide_eq_true_eq] at hplace
  omega

theorem load_of_imageHeaderOk {x len : Nat} {s : State} (h : imageHeaderOk 0 x len s = true) : imgLoad x s = inPlace ∨ 0x21000000 ≤ imgLoad x s := by
  have hload : (imgLoad x s == inPlace || loadOk 0 (imgLoad x s) (imgBody x s)) = true := by
    unfold imageHeaderOk at h
    simp only [Bool.and_eq_true] at h
    exact h.1.1.2
  refine (Bool.or_eq_true_iff.1 hload).imp beq_iff_eq.1 fun hok => ?_
  unfold loadOk at hok
  simp only [List.any_cons, List.any_nil, Bool.or_false, Bool.and_eq_true, decide_eq_true_eq] at hok
  exact hok.1

theorem classZero_of_setVerify {b : Nat} {s : State} (h : setVerify b [0, 1, 2] s = stOk) : ClassZero b s := by
  have hform : setHeaderOk b s = true ∧ setPlacesOk b s = true := by
    by_contra hn
    have hbad : (!setHeaderOk b s || !setPlacesOk b s) = true := by
      simp only [Bool.or_eq_true, Bool.not_eq_true', ← Bool.not_eq_true]
      exact not_and_or.1 hn
    have hsig : setVerify b [0, 1, 2] s = stSigBad := if_pos hbad
    exact absurd (hsig.symm.trans h) (by decide)
  obtain ⟨hheader, hplaces⟩ := hform
  have hhas : hasClass b 0 s = true := by
    unfold setHeaderOk at hheader
    simp only [Bool.and_eq_true] at hheader
    obtain ⟨⟨⟨⟨⟨⟨-, hhas⟩, -⟩, -⟩, -⟩, -⟩, -⟩ := hheader
    exact hhas
  have himage : imageHeaderOk 0 (b + imgOffset b 0 s) (imgLength b 0 s) s = true := by
    by_contra hn
    have hbad : classVerified b s stOk 0 = stSigBad := by
      unfold classVerified
      rw [if_neg (by simp), if_pos (by simpa using hn)]
    have hclasses : setVerify b [0, 1, 2] s = (0 :: [1, 2].filter (fun c => hasClass b c s)).foldl (classVerified b s) stOk := by
      unfold setVerify
      rw [if_neg (by simp [hheader, hplaces]), List.filter_cons_of_pos (by exact hhas)]
      rfl
    rw [List.foldl_cons, hbad, classVerified_foldl_bad b s (by decide)] at hclasses
    exact absurd (hclasses.symm.trans h) (by decide)
  exact ⟨hhas, place_of_setPlacesOk hplaces hhas, load_of_imageHeaderOk himage⟩

/-! ### The RAM window (R460) -/

/-- Nothing but what the links have to send has changed. -/
def OnlyLinks (s t : State) : Prop := ∃ l, t = { s with links := l }

theorem OnlyLinks.refl (s : State) : OnlyLinks s s := ⟨s.links, rfl⟩

theorem OnlyLinks.trans {s t u : State} (h : OnlyLinks s t) (h' : OnlyLinks t u) : OnlyLinks s u := by
  obtain ⟨l, rfl⟩ := h
  obtain ⟨l', rfl⟩ := h'
  exact ⟨l', rfl⟩

theorem onlyLinks_notify (x y : Nat) (st : Status) (d : List Byte) (s : State) : OnlyLinks s (s.notify x y st d) := by
  obtain ⟨o, h⟩ := notifyAt_frame s x y 0 st d
  exact ⟨_, h⟩

theorem onlyLinks_fnNotices (before : Vector Byte 20) (s : State) : OnlyLinks s (fnNotices before s) := by
  refine foldS_keeps OnlyLinks.refl OnlyLinks.trans (fun n s => ?_) _ s
  split
  · exact .refl s
  · exact onlyLinks_notify ..

/-- A domain without a core and with nothing but links to restore changes power and links alone when it turns ON. -/
theorem domSet_on_frame {d : Fin 24} (h : d = 10 ∨ d = dHOSTIO) (trained : BitVec 3) (s : State) :
    ∃ p l, domSet d .on trained s = { s with pcc := p, links := l } := by
  unfold domSet
  extract_lets was before s₁ s₂ s₃
  split
  · exact ⟨s.pcc, s.links, rfl⟩
  · rename_i hchange
    have h₁ : s₁ = s := if_neg (fun hw => hchange (.inl hw))
    have h₃ : OnlyLinks s₂ s₃ := by
      dsimp only [s₃]
      generalize s₂ = t
      rcases h with rfl | rfl
      · split <;> exact .refl t
      · split
        · exact ⟨_, rfl⟩
        · exact .refl t
    obtain ⟨l, h₃⟩ := h₃
    obtain ⟨l', hend⟩ := onlyLinks_fnNotices before (clockUpdate s₃)
    rw [hend, h₃]
    dsimp only [s₂]
    rw [h₁]
    exact ⟨_, _, rfl⟩

/-- Power, the links and memory from the RAM window on have changed, and nothing else. -/
structure WindowFilled (s t : State) : Prop where
  frame : { t with pcc := s.pcc, links := s.links, mem := s.mem } = s
  below : SameBytes 0 0x20300000 s t

theorem WindowFilled.refl (s : State) : WindowFilled s s := ⟨rfl, fun _ _ _ => rfl⟩

theorem WindowFilled.trans {s t u : State} (h : WindowFilled s t) (h' : WindowFilled t u) : WindowFilled s u :=
  ⟨(congrArg (fun w : State => { w with pcc := s.pcc, links := s.links, mem := s.mem }) h'.frame).trans h.frame, h.below.trans h'.below⟩

theorem windowFilled_windowFill (b : Nat) (s : State) : WindowFilled s (windowFill b s) := by
  unfold windowFill
  extract_lets s₁
  have h₁ : WindowFilled s s₁ := by
    obtain ⟨p, l, h⟩ := domSet_on_frame (d := 10) (.inl rfl) 7 s
    dsimp only [s₁]
    rw [h]
    exact ⟨rfl, fun _ _ _ => rfl⟩
  refine h₁.trans ?_
  refine foldl_keeps WindowFilled.refl WindowFilled.trans (fun s p => ?_) _ s₁
  exact ⟨rfl, (sameBytes_wrBytes _ s 0).mono (Nat.le_refl 0) (Nat.le_add_right ..)⟩

end Sys2Proof.Machine
end

section
/-! SUPPORT. A set that is entered: its headers and bodies, the measurements, and core 0 at the class 0 image's ENTRY (R453, R456, R459, R461). -/

namespace Sys2Proof.Machine

/-! ### The parts of the entry -/

/-- The headers of a set's images. -/
def setHeads (b : Nat) (s : State) : Vector Nat 4 := Vector.ofFn (fun c => if hasClass b c.1 s then b + imgOffset b c.1 s else 0)

/-- The bodies of a set's images, from the bodies that the RAM window holds. -/
def setBodies (plan : List (Nat × Nat)) (staged : Bool) (heads : Vector Nat 4) : Vector Nat 4 := Vector.ofFn (fun c =>
  match plan.find? (fun p => p.1 == c.1) with
  | some p => if staged then 0x20300000 + p.2 else vget heads c + 256
  | none => vget heads c + 256)

/-- The measurements of classes 0 to 2. -/
def setMeasured (heads : Vector Nat 4) (s : State) : State := (fins 3).foldl (fun s c =>
  let h := vget heads (Fin.ofNat 4 c.1)
  if h = 0 then s else secMod (fun x => { x with measures := vset x.measures (Fin.ofNat 4 c.1) (measureOf h s) }) s) s

/-- A set stands with its headers and bodies, measured. -/
def setStands (heads bodies : Vector Nat 4) (staged : Bool) (s : State) : State :=
  setMeasured heads { s with boot := { s.boot with stage := .entered, window := staged, hdrAt := heads, bodyAt := bodies } }

/-- Core 0 at the ENTRY of the image whose header is `h`, with g1 at its body. -/
def coreZeroEntered (h body : Nat) (s : State) : State :=
  match s.physOf 0 with
  | some p => kmod p (fun k => (k.setGr 1 (BitVec.ofNat 32 body))) (coreStart 0 0 (BitVec.ofNat 32 (body + imgEntry h s)) s)
  | none => s

/-- Core 0 enters class 0, whose header is `h`: its body stands where it is, or is loaded first. -/
def classZeroEntered (h body : Nat) (s : State) : State :=
  if imgLoad h s = inPlace then coreZeroEntered h body s
  else coreZeroEntered h (imgLoad h s) (s.wrBytes (imgLoad h s) (s.rdBytes (h + 256) (imgBody h s)))

/-- What is entered once the RAM window holds what it is to hold. -/
def setEntered (b : Nat) (staged : Bool) (plan : List (Nat × Nat)) (s : State) : State :=
  classZeroEntered (vget (setHeads b s) 0) (vget (setBodies plan staged (setHeads b s)) 0)
    (setStands (setHeads b s) (setBodies plan staged (setHeads b s)) staged s)

theorem enterSet_eq (b : Nat) (staged : Bool) (s : State) :
    enterSet b staged s = setEntered b staged (windowPlan b s).1 (if staged then windowFill b s else s) := by
  unfold enterSet
  extract_lets plan t heads bodies _ v w h load
  have hheads : heads = setHeads b t := rfl
  have hbodies : bodies = setBodies plan staged heads := rfl
  have hw : w = setStands heads bodies staged t := rfl
  have hset : setEntered b staged plan t = classZeroEntered h (vget bodies 0) w := rfl
  change _ = setEntered b staged plan t
  rw [hset]
  dsimp only [load]
  clear_value h w bodies
  unfold classZeroEntered
  by_cases hload : imgLoad h w = inPlace
  · rw [if_pos hload, if_pos hload]
    rfl
  · rw [if_neg hload, if_neg hload]
    rfl

theorem setMeasured_frame (heads : Vector Nat 4) (s : State) : ∃ x, setMeasured heads s = { s with sec := x } := by
  refine foldl_keeps (R := fun s t : State => ∃ x, t = { s with sec := x }) (fun s => ⟨s.sec, rfl⟩) ?_ (fun s c => ?_) _ s
  · rintro s t u ⟨x, rfl⟩ ⟨y, rfl⟩
    exact ⟨y, rfl⟩
  · dsimp only
    split
    · exact ⟨s.sec, rfl⟩
    · exact ⟨_, rfl⟩

/-- What a set that stands has changed: the security block and the boot state, with its headers and bodies. -/
theorem setStands_frame (heads bodies : Vector Nat 4) (staged : Bool) (s : State) : ∃ x, setStands heads bodies staged s =
    { s with sec := x, boot := { s.boot with stage := .entered, window := staged, hdrAt := heads, bodyAt := bodies } } := by
  obtain ⟨x, h⟩ := setMeasured_frame heads { s with boot := { s.boot with stage := .entered, window := staged, hdrAt := heads, bodyAt := bodies } }
  exact ⟨x, h⟩

/-! ### Core 0 -/

/-- Core 0 runs at an address with g1 at its body; the boot state and the entries stand as they were. -/
structure EntersCoreZero (p : Fin 6) (pc body : Nat) (s t : State) : Prop where
  entry : (vget t.kz.phys p).pc = BitVec.ofNat 32 pc
  base : (vget t.kz.phys p).gr 1 = BitVec.ofNat 32 body
  running : (vget t.kz.phys p).halted = false
  boot : t.boot = s.boot
  dict : t.dict = s.dict

theorem CoreRuns.entersCoreZero {p : Fin 6} {pc body : Nat} {s t : State} (h : CoreRuns p (BitVec.ofNat 32 pc) (BitVec.ofNat 32 body) s t) :
    EntersCoreZero p pc body s t := by
  obtain ⟨hrun, hpc, hbase, -, hframe⟩ := h
  have hboot := congrArg State.boot hframe
  have hdict := congrArg State.dict hframe
  exact ⟨hpc, hbase, hrun, hboot, hdict⟩

theorem entersCoreZero {p : Fin 6} {s : State} (hp : s.physOf 0 = some p) (h body : Nat) :
    EntersCoreZero p (body + imgEntry h s) body s (coreZeroEntered h body s) := by
  unfold coreZeroEntered
  rw [hp]
  exact (coreRuns_started hp 0 _ _).entersCoreZero

/-- Where class 0 runs: in place, or where it is loaded, above its header. -/
theorem entersCoreZero_classZero {p : Fin 6} {s : State} (hp : s.physOf 0 = some p) {h : Nat} (body : Nat)
    (hload : imgLoad h s = inPlace ∨ h + 28 ≤ imgLoad h s) :
    EntersCoreZero p ((if imgLoad h s = inPlace then body else imgLoad h s) + imgEntry h s) (if imgLoad h s = inPlace then body else imgLoad h s) s
      (classZeroEntered h body s) := by
  unfold classZeroEntered
  by_cases hplace : imgLoad h s = inPlace
  · rw [if_pos hplace, if_pos hplace]
    exact entersCoreZero hp h body
  · rw [if_neg hplace, if_neg hplace]
    have hentry : imgEntry h (s.wrBytes (imgLoad h s) (s.rdBytes (h + 256) (imgBody h s))) = imgEntry h s :=
      (sameBytes_wrBytes _ s 0).imgEntry (Nat.zero_le h) (hload.resolve_left hplace)
    have henters := entersCoreZero (s := s.wrBytes (imgLoad h s) (s.rdBytes (h + 256) (imgBody h s))) hp h (imgLoad h s)
    rw [hentry] at henters
    obtain ⟨hpc, hbase, hrun, hboot, hdict⟩ := henters
    exact ⟨hpc, hbase, hrun, hboot, hdict⟩

end Sys2Proof.Machine
end

section
/-! SUPPORT. The choice of a set at a start: the active one, the staged one of a trial, or the recovery subset (R453, R461). -/

namespace Sys2Proof.Machine

/-! ### A set entered -/

theorem vget_ofFn {α : Type} {n : Nat} (f : Fin n → α) (i : Fin n) : vget (Vector.ofFn f) i = f i := by
  unfold vget
  exact Vector.getElem_ofFn i.2

theorem setHeads_zero {b : Nat} {s : State} (h : hasClass b 0 s = true) : vget (setHeads b s) 0 = b + imgOffset b 0 s := by
  unfold setHeads
  rw [vget_ofFn]
  exact if_pos h

theorem setBodies_unstaged_zero (plan : List (Nat × Nat)) (heads : Vector Nat 4) : vget (setBodies plan false heads) 0 = vget heads 0 + 256 := by
  unfold setBodies
  rw [vget_ofFn]
  split
  · exact if_neg Bool.false_ne_true
  · rfl

/-- A set has been entered on physical core `p`, its class 0 header at `h`, with the body in place at `body`. -/
structure SetRuns (p : Fin 6) (staged : Bool) (h body : Nat) (s t : State) : Prop where
  stage : t.boot.stage = .entered
  window : t.boot.window = staged
  head : vget t.boot.hdrAt 0 = h
  dict : t.dict = s.dict
  entry : (vget t.kz.phys p).pc = BitVec.ofNat 32 ((if imgLoad h s = inPlace then body else imgLoad h s) + imgEntry h s)
  base : (vget t.kz.phys p).gr 1 = BitVec.ofNat 32 (if imgLoad h s = inPlace then body else imgLoad h s)
  running : (vget t.kz.phys p).halted = false

theorem setRuns_setEntered {p : Fin 6} {b : Nat} {s : State} (hp : s.physOf 0 = some p) (hhas : hasClass b 0 s = true)
    (hload : imgLoad (b + imgOffset b 0 s) s = inPlace ∨ b + imgOffset b 0 s + 28 ≤ imgLoad (b + imgOffset b 0 s) s) (staged : Bool)
    (plan : List (Nat × Nat)) :
    SetRuns p staged (b + imgOffset b 0 s) (vget (setBodies plan staged (setHeads b s)) 0) s (setEntered b staged plan s) := by
  have hhead := setHeads_zero hhas
  unfold setEntered
  rw [hhead]
  generalize vget (setBodies plan staged (setHeads b s)) 0 = body
  obtain ⟨x, hstands⟩ := setStands_frame (setHeads b s) (setBodies plan staged (setHeads b s)) staged s
  generalize setHeads b s = heads at hhead hstands
  generalize b + imgOffset b 0 s = h at hhead hload
  generalize setStands heads _ staged s = w at hstands
  have hmem : w.mem = s.mem := by rw [hstands]
  have hsame : imgLoad h w = imgLoad h s := rdN_congr hmem ..
  have hentry : imgEntry h w = imgEntry h s := rdN_congr hmem ..
  have hpw : w.physOf 0 = some p := by
    rw [hstands]
    exact hp
  obtain ⟨hpc, hbase, hrun, hboot, hdict⟩ := entersCoreZero_classZero hpw (h := h) body (by rw [hsame]; exact hload)
  rw [hsame, hentry] at hpc
  rw [hsame] at hbase
  have hset := congrArg State.boot hstands
  have hkept := congrArg State.dict hstands
  rw [hset] at hboot
  exact ⟨by rw [hboot], by rw [hboot], by rw [hboot]; exact hhead, hdict.trans hkept, hpc, hbase, hrun⟩

/-! ### A set started -/

/-- What a rewrite of the record and the entries of R461 leave for the entry of the set. -/
structure SetChosen (p : Fin 6) (outcome : Nat) (s t : State) : Prop where
  core : t.physOf 0 = some p
  flash : SameBytes 0x10020000 0x20300000 s t
  outcome : t.dU 0x3100 3 = outcome

/-- The record and the entries of R461 before a set is entered. -/
def outcomeShown (outcome : Nat) (puts : List (Nat × Nat × Nat)) (s : State) : State :=
  let s := bootPut (puts ++ [(36, 4, (s.bootN 36 4 + 1) % 2 ^ 32), (45, 1, 0)]) s
  (s.dPut 0x3100 3 outcome).dPut 0x3100 6 (s.bootN 36 4)

theorem startSet_eq (b : Nat) (staged : Bool) (outcome : Nat) (puts : List (Nat × Nat × Nat)) (s : State) :
    startSet b staged outcome puts s = enterSet b staged (outcomeShown outcome puts s) := rfl

theorem dU_dPut_outcome {outcome : Nat} (h : outcome < 256) (s : State) : (s.dPut 0x3100 3 outcome).dU 0x3100 3 = outcome := by
  have hself : (s.dPut 0x3100 3 outcome).dU 0x3100 3 = outcome % 256 ^ entryWidth 0x3100 3 := dU_dPut_self ..
  rwa [show entryWidth 0x3100 3 = 1 from rfl, Nat.pow_one, Nat.mod_eq_of_lt h] at hself

theorem dU_outcome {outcome : Nat} (h : outcome < 256) (n : Nat) (s : State) : ((s.dPut 0x3100 3 outcome).dPut 0x3100 6 n).dU 0x3100 3 = outcome :=
  (congrArg leNat (dGet_dPut_ne _ n (by decide))).trans (dU_dPut_outcome h s)

theorem dPut_dPut_frame (s : State) (x y a n m : Nat) : ∃ d, (s.dPut x y n).dPut x a m = { s with dict := d } := ⟨_, rfl⟩

theorem setChosen_outcomeShown {p : Fin 6} {outcome : Nat} {s : State} (hp : s.physOf 0 = some p) (h : outcome < 256) (puts : List (Nat × Nat × Nat)) :
    SetChosen p outcome s (outcomeShown outcome puts s) := by
  unfold outcomeShown
  extract_lets u
  have hflash : SameBytes 0x10020000 0x20300000 s u := sameBytes_bootPut _ s _
  have hu : u.physOf 0 = some p := by
    obtain ⟨m, r, d, hput⟩ := bootPut_frame (puts ++ [(36, 4, (s.bootN 36 4 + 1) % 2 ^ 32), (45, 1, 0)]) s
    dsimp only [u]
    rw [hput]
    exact hp
  clear_value u
  have houtcome := dU_outcome h (u.bootN 36 4) u
  obtain ⟨d, hframe⟩ := dPut_dPut_frame u 0x3100 3 6 outcome (u.bootN 36 4)
  rw [hframe] at houtcome ⊢
  exact ⟨hu, hflash, houtcome⟩

theorem ClassZero.congr {b : Nat} {s t : State} (h : ClassZero b s) (hsame : SameBytes 0x10020000 0x20300000 s t) (hlo : 0x10020000 ≤ b)
    (hhi : b + slotSize ≤ 0x20300000) : ClassZero b t ∧ imgOffset b 0 t = imgOffset b 0 s ∧
      imgLoad (b + imgOffset b 0 s) t = imgLoad (b + imgOffset b 0 s) s ∧ imgEntry (b + imgOffset b 0 s) t = imgEntry (b + imgOffset b 0 s) s := by
  obtain ⟨hhas, hplace, hload⟩ := h
  unfold slotSize at hplace hhi
  have hoffset : imgOffset b 0 t = imgOffset b 0 s := hsame.imgOffset hlo (by omega)
  have hload' : imgLoad (b + imgOffset b 0 s) t = imgLoad (b + imgOffset b 0 s) s := hsame.imgLoad (by omega) (by omega)
  refine ⟨⟨(hsame.hasClass hlo (by omega)).trans hhas, ?_, ?_⟩, hoffset, hload', hsame.imgEntry (by omega) (by omega)⟩
  · unfold slotSize
    rw [hoffset]
    exact hplace
  · rw [hoffset, hload']
    exact hload

/-- A verified set that is started: what it shows, and where core 0 is. -/
structure SetStarted (b : Nat) (staged : Bool) (outcome : Nat) (s t : State) : Prop where
  stage : t.boot.stage = .entered
  window : t.boot.window = staged
  outcome : t.dU 0x3100 3 = outcome
  head : vget t.boot.hdrAt 0 = b + imgOffset b 0 s

/-- Where core 0 is when the set runs where it lies. -/
structure RunsInPlace (p : Fin 6) (h body : Nat) (s t : State) : Prop where
  entry : (vget t.kz.phys p).pc = BitVec.ofNat 32 (body + imgEntry h s)
  base : (vget t.kz.phys p).gr 1 = BitVec.ofNat 32 body
  running : (vget t.kz.phys p).halted = false

theorem windowFilled_ite (b : Nat) (staged : Bool) (s : State) : WindowFilled s (if staged then windowFill b s else s) := by
  split
  · exact windowFilled_windowFill b s
  · exact .refl s

theorem startSet_started {p : Fin 6} {b outcome : Nat} {s : State} (hp : s.physOf 0 = some p) (h : ClassZero b s) (hlo : 0x10020000 ≤ b)
    (hhi : b + slotSize ≤ 0x20300000) (hout : outcome < 256) (staged : Bool) (puts : List (Nat × Nat × Nat)) :
    SetStarted b staged outcome s (startSet b staged outcome puts s) ∧
      (staged = false → RunsInPlace p (b + imgOffset b 0 s)
        (if imgLoad (b + imgOffset b 0 s) s = inPlace then b + imgOffset b 0 s + 256 else imgLoad (b + imgOffset b 0 s) s) s
        (startSet b staged outcome puts s)) := by
  obtain ⟨hpt, hflash, houtcome⟩ := setChosen_outcomeShown hp hout puts
  rw [startSet_eq, enterSet_eq]
  generalize outcomeShown outcome puts s = t at hpt hflash houtcome
  obtain ⟨hframe, hbelow⟩ := windowFilled_ite b staged t
  generalize (windowPlan b t).1 = plan
  generalize (if staged then windowFill b t else t) = u at hframe hbelow
  have hkz := congrArg State.kz hframe
  have hdict := congrArg State.dict hframe
  have hpu : u.physOf 0 = some p := by
    unfold State.physOf
    rw [show u.kz = t.kz from hkz]
    exact hpt
  obtain ⟨hzero, hoffset, hload, hentry⟩ := h.congr (hflash.trans (hbelow.mono (Nat.zero_le _) (Nat.le_refl _))) hlo hhi
  have hfits : imgLoad (b + imgOffset b 0 u) u = inPlace ∨ b + imgOffset b 0 u + 28 ≤ imgLoad (b + imgOffset b 0 u) u := by
    refine hzero.load.imp_right fun hhigh => ?_
    have hplace := hzero.place
    unfold slotSize at hplace hhi
    omega
  obtain ⟨hstage, hwindow, hhead, hd, hpc, hbase, hrun⟩ := setRuns_setEntered hpu hzero.has hfits staged plan
  rw [hoffset] at hhead hpc hbase
  rw [hload] at hpc hbase
  rw [hentry] at hpc
  refine ⟨⟨hstage, hwindow, ?_, hhead⟩, fun hplain => ?_⟩
  · unfold State.dU State.dGet
    rw [hd.trans hdict]
    exact houtcome
  · subst hplain
    rw [setBodies_unstaged_zero, setHeads_zero hzero.has, hoffset] at hpc hbase
    exact ⟨hpc, hbase, hrun⟩

/-! ### The recovery subset (R42, R453) -/

/-- The recovery subset is served, with HOSTIO ON and outcome 3. -/
structure Recovers (t : State) : Prop where
  stage : t.boot.stage = .recovery
  serving : t.links.serving = .rom
  on : t.isOn dHOSTIO = true
  outcome : t.dU 0x3100 3 = 3

/-- The boot ROM serves the recovery subset. -/
def recoveryServed (s : State) : State := { s with boot := { s.boot with stage := .recovery }, links := { s.links with serving := .rom } }

theorem startRecovery_eq (st : Status) (s : State) : startRecovery st s =
    recoveryServed (domSet dHOSTIO .on 7 ((recoveryLog (failingClass activeSlot s) st s).dPut 0x3100 3 3)) := rfl

theorem isOn_hostio (trained : BitVec 3) (s : State) : (domSet dHOSTIO .on trained s).isOn dHOSTIO = true := by
  rw [domSet_isOn, if_pos ⟨rfl, by decide⟩]
  rfl

theorem recovers_startRecovery (st : Status) (s : State) : Recovers (startRecovery st s) := by
  rw [startRecovery_eq]
  have hu := dU_dPut_outcome (outcome := 3) (by decide) (recoveryLog (failingClass activeSlot s) st s)
  generalize (recoveryLog (failingClass activeSlot s) st s).dPut 0x3100 3 3 = u at hu
  have hon := isOn_hostio 7 u
  obtain ⟨p, l, hframe⟩ := domSet_on_frame (.inr rfl) 7 u
  rw [hframe] at hon ⊢
  exact ⟨rfl, rfl, hon, hu⟩

/-! ### The choice (R461) -/

theorem startActive_verified {s : State} (h : setVerify activeSlot [0, 1, 2] s = stOk) : startActive false s = startSet activeSlot false 0 [] s := by
  unfold startActive
  exact if_pos h

theorem startActive_failed {s : State} (h : setVerify activeSlot [0, 1, 2] s ≠ stOk) (fallback : Bool) :
    startActive fallback s = startRecovery (setVerify activeSlot [0, 1, 2] s) s := by
  unfold startActive
  exact if_neg h

theorem startChoose_active {s : State} (h : s.bootState < 2) : startChoose s = startActive false s := by
  have hnone : ¬((s.bootState = 2 ∧ s.bootN 3 1 < max 1 (s.savedU 0x3500 0x13)) ∨ s.bootState = 3) := by omega
  have hfalse : (s.bootState == 2) = false := beq_false_of_ne (by omega)
  unfold startChoose
  extract_lets st trial
  rw [if_neg hnone, hfalse]

theorem startChoose_trial {s : State} (htrial : s.bootState = 2) (hleft : s.bootN 3 1 < s.savedU 0x3500 0x13)
    (h : setVerify stagingSlot [0, 1, 2] s = stOk) :
    ∃ puts, startChoose s = startSet stagingSlot true (if s.dU 0x1200 5 = 7 then 4 else 1) puts s := by
  have hstarts : (s.bootState = 2 ∧ s.bootN 3 1 < max 1 (s.savedU 0x3500 0x13)) ∨ s.bootState = 3 := by omega
  unfold startChoose
  extract_lets st trial out
  rw [if_pos hstarts, if_pos h]
  exact ⟨_, rfl⟩

/-! ### A clean start -/

theorem ReadyToChoose.setVerify {p : Fin 6} {s t : State} (h : ReadyToChoose p s t) (b : Nat) : setVerify b [0, 1, 2] t = Machine.setVerify b [0, 1, 2] s :=
  setVerify_congr h.mem (by rw [h.sec]) ..

section
variable {s t : State} {p : Fin 6} (h : ReadyToChoose p s t)
include h

/-- With no set staged, a verified active set is started with outcome 0. -/
theorem ReadyToChoose.empty (hstate : s.bootState = 0) (hok : Machine.setVerify activeSlot [0, 1, 2] s = stOk) :
    SetStarted activeSlot false 0 t (startChoose t) ∧ RunsInPlace p (activeSlot + imgOffset activeSlot 0 t)
      (if imgLoad (activeSlot + imgOffset activeSlot 0 t) t = inPlace then activeSlot + imgOffset activeSlot 0 t + 256
        else imgLoad (activeSlot + imgOffset activeSlot 0 t) t) t (startChoose t) := by
  have hok' := (h.setVerify activeSlot).trans hok
  rw [startChoose_active (by rw [bootState_congr h.mem]; omega), startActive_verified hok']
  obtain ⟨hstarted, hruns⟩ := startSet_started h.core (classZero_of_setVerify hok') (by decide) (by decide) (outcome := 0) (by decide) false []
  exact ⟨hstarted, hruns rfl⟩

/-- In TRIAL with starts left a verified staged set is started in the RAM window. -/
theorem ReadyToChoose.trial (hstate : s.bootState = 2) (hleft : s.bootN 3 1 < s.savedU 0x3500 0x13)
    (hok : Machine.setVerify stagingSlot [0, 1, 2] s = stOk) :
    SetStarted stagingSlot true (if s.dU 0x1200 5 = 7 then 4 else 1) t (startChoose t) := by
  have hok' := (h.setVerify stagingSlot).trans hok
  have hsaved : t.savedU 0x3500 0x13 = s.savedU 0x3500 0x13 := by
    unfold State.savedU
    rw [h.saved]
  have hcause : t.dU 0x1200 5 = s.dU 0x1200 5 := congrArg leNat h.cause
  obtain ⟨puts, hchoose⟩ := startChoose_trial ((bootState_congr h.mem).trans hstate) (by rw [bootN_congr h.mem, hsaved]; exact hleft) hok'
  rw [hchoose, hcause]
  exact (startSet_started h.core (classZero_of_setVerify hok') (by decide) (by decide) (by split <;> decide) true puts).1

/-- An active set that fails leaves the recovery subset. -/
theorem ReadyToChoose.recovers (hstate : s.bootState < 2) (hbad : Machine.setVerify activeSlot [0, 1, 2] s ≠ stOk) : Recovers (startChoose t) := by
  rw [startChoose_active (by rw [bootState_congr h.mem]; exact hstate), startActive_failed (by rw [h.setVerify]; exact hbad)]
  exact recovers_startRecovery ..

end

end Sys2Proof.Machine
end

section
/-! SUPPORT. A clean start, from BOOT_ROM_START to the set that runs (R453, R456, R459, R461), and the requests of an activation and of a hand-over, refused. -/

namespace Sys2Proof.Machine

/-! ### A clean start -/

section
variable {s : State} {cores : BitVec 6} {p : Fin 6} (hstage : s.boot.stage = .rom) (hdead : s.boot.dead = false) (hscan : s.boot.scan = false)
  (hintr : s.regB 0x40060050 31 = false) (hclosed : openSector s.bootJournal = none) (hp : s.physOf 0 = some p) (h : Lowest cores s.kz.retired p)
  (fails : List TestUnit) (ms : List (BitVec 16))
include hstage hdead hscan hintr hclosed hp h

theorem bootRomStart_empty (hstate : s.bootState = 0) (hok : setVerify activeSlot [0, 1, 2] s = stOk) {head body : Nat}
    (hhead : activeSlot + imgOffset activeSlot 0 s = head) (hbody : (if imgLoad head s = inPlace then head + 256 else imgLoad head s) = body) :
    ∃ t, exec (.bootRomStart cores fails ms) s = .next t ∧ t.boot.stage = .entered ∧ t.boot.window = false ∧ t.dU 0x3100 3 = 0 ∧
      vget t.boot.hdrAt 0 = head ∧ (vget t.kz.phys p).pc = BitVec.ofNat 32 (body + imgEntry head s) ∧
      (vget t.kz.phys p).gr 1 = BitVec.ofNat 32 body ∧ (vget t.kz.phys p).halted = false := by
  obtain ⟨t, hready, hexec⟩ := bootRomStart_chooses hstage hdead hscan hintr hclosed hp h fails ms
  obtain ⟨⟨hentered, hwindow, houtcome, hhdr⟩, ⟨hpc, hbase, hrun⟩⟩ := hready.empty hstate hok
  have hload : imgLoad head t = imgLoad head s := rdN_congr hready.mem ..
  have hentry : imgEntry head t = imgEntry head s := rdN_congr hready.mem ..
  rw [imgOffset_congr hready.mem, hhead] at hhdr hpc hbase
  rw [hload, hbody] at hpc hbase
  rw [hentry] at hpc
  exact ⟨_, hexec, hentered, hwindow, houtcome, hhdr, hpc, hbase, hrun⟩

theorem bootRomStart_trial (hstate : s.bootState = 2) (hleft : s.bootN 3 1 < s.savedU 0x3500 0x13)
    (hok : setVerify stagingSlot [0, 1, 2] s = stOk) :
    ∃ t, exec (.bootRomStart cores fails ms) s = .next t ∧ t.boot.stage = .entered ∧ t.boot.window = true ∧
      t.dU 0x3100 3 = (if s.dU 0x1200 5 = 7 then 4 else 1) ∧ vget t.boot.hdrAt 0 = stagingSlot + imgOffset stagingSlot 0 s := by
  obtain ⟨t, hready, hexec⟩ := bootRomStart_chooses hstage hdead hscan hintr hclosed hp h fails ms
  obtain ⟨hentered, hwindow, houtcome, hhdr⟩ := hready.trial hstate hleft hok
  rw [imgOffset_congr hready.mem] at hhdr
  exact ⟨_, hexec, hentered, hwindow, houtcome, hhdr⟩

theorem bootRomStart_recovery (hstate : s.bootState < 2) (hbad : setVerify activeSlot [0, 1, 2] s ≠ stOk) :
    ∃ t, exec (.bootRomStart cores fails ms) s = .next t ∧ t.boot.stage = .recovery ∧ t.links.serving = .rom ∧ t.isOn dHOSTIO = true ∧
      t.dU 0x3100 3 = 3 := by
  obtain ⟨t, hready, hexec⟩ := bootRomStart_chooses hstage hdead hscan hintr hclosed hp h fails ms
  obtain ⟨hrecovery, hserving, hon, houtcome⟩ := hready.recovers hstate hbad
  exact ⟨_, hexec, hrecovery, hserving, hon, houtcome⟩

end

/-! ### Refusals -/

/-- The status of an activation request that R465 refuses. -/
theorem actCheck_refused {slot id : Nat} {s : State} {st : Status}
    (h : (st = 3 ∧ slotBegun slot s = true) ∨
      (st = 0x0E ∧ slotBegun slot s = false ∧ (id = 0 ∨ (s.bigRole = true ∧ (slot + 2 ^ 40 - s.absSlot) % 2 ^ 40 < 4096 * s.dU 0x3500 0x34))) ∨
      (st = 2 ∧ slotBegun slot s = false ∧ id ≠ 0 ∧ ¬(s.bigRole = true ∧ (slot + 2 ^ 40 - s.absSlot) % 2 ^ 40 < 4096 * s.dU 0x3500 0x34) ∧
        ¬(s.bootState = 1 ∧ s.bootN 6 2 = id))) : actCheck slot id s = st ∧ st ≠ stOk := by
  rcases h with ⟨rfl, hbegun⟩ | ⟨rfl, hahead, hrange⟩ | ⟨rfl, hahead, hid, hlead, hready⟩
  · exact ⟨actCheck_late hbegun, by decide⟩
  · exact ⟨actCheck_range hahead hrange, by decide⟩
  · exact ⟨(actCheck_ahead hahead hid hlead).trans (if_neg hready), by decide⟩

/-- The status of a hand-over request that R466 refuses. -/
theorem hoRequest_refused {s : State} {st : Status}
    (h : (st = 2 ∧ ¬HandOverFree s) ∨ (st = 0x0E ∧ HandOverFree s ∧ handOverOk (s.dU 0x3500 0x20) s = false) ∨
      (st = 3 ∧ HandOverFree s ∧ handOverOk (s.dU 0x3500 0x20) s = true ∧ s.dU 0x3500 0x21 % 2 ^ 40 ≠ 0 ∧
        slotBegun (s.dU 0x3500 0x21 % 2 ^ 40) s = true)) : hoRequest s = (st, s.produceSt 0x3500 0x24 st) ∧ st ≠ stOk := by
  rcases h with ⟨rfl, hbusy⟩ | ⟨rfl, hfree, hunfit⟩ | ⟨rfl, hfree, hok, hlate⟩
  · exact ⟨hoRequest_busy hbusy, by decide⟩
  · exact ⟨hoRequest_unfit hfree hunfit, by decide⟩
  · exact ⟨hoRequest_late hfree hok hlate, by decide⟩

end Sys2Proof.Machine
end

section
/-! PROOFS. O50: the start of the device, core 4's entry, main firmware, activations and hand-overs. -/

namespace Sys2Proof.Proofs

open Sys2Proof.Machine

/-- Settles O50: each instruction's own rule, from BOOT_ROM_START to CORE_SWAP. -/
theorem startAndActivation : Obligations.StartAndActivation := by
  unfold Obligations.StartAndActivation
  intro s cores fails ms trained got v src tid p q o act stage b h0 body slot id cleanStart starts
  refine ⟨fun hrom hdead hscan hnone => bootRomStart_dead hrom hdead hscan hnone fails ms, ?_, ?_,
    fun hentered hbusy => mainFirmwareStart_serves hentered hbusy trained got, ?_, ?_, ?_,
    fun hasks hnew harmed hplk => execActCancel_armed hasks hnew tid harmed hplk, ?_, ?_⟩
  · rintro ⟨hrom, hdead, hscan, hintr, hclosed, hp, hpass, hgood, hlow⟩
    have hlowest : Lowest cores s.kz.retired p := ⟨hpass, hgood, hlow⟩
    refine ⟨fun hstate hok => ?_, fun hstate hleft hok => ?_, fun hstate hbad => ?_⟩
    · exact bootRomStart_empty hrom hdead hscan hintr hclosed hp hlowest fails ms hstate hok rfl rfl
    · exact bootRomStart_trial hrom hdead hscan hintr hclosed hp hlowest fails ms hstate hleft hok
    · exact bootRomStart_recovery hrom hdead hscan hintr hclosed hp hlowest fails ms hstate hbad
  · intro hp hrun hpc hon h
    exact ⟨fun hne hok hlow => securityEntry_verified hp hrun hpc hon rfl hne hok hlow, fun hbad => securityEntry_failed hp hrun hpc hon rfl hbad⟩
  · intro hasks hnew
    exact ⟨execActivateNow_staged hasks hnew tid, execActivateNow_unstaged hasks hnew tid⟩
  · intro hmain harmed hslot
    exact ⟨activationRestart_due hmain harmed hslot, actDefer_lost hmain harmed hslot⟩
  · intro hasks hnew lead ready
    refine ⟨fun st hst => ?_, fun hahead hid hlead hready hplk hroll => ?_⟩
    · obtain ⟨hcheck, hne⟩ := actCheck_refused hst
      exact execActRequest_refused hasks hnew tid hcheck hne
    · exact execActRequest_armed hasks hnew tid ((actCheck_ahead hahead hid hlead).trans (if_pos hready)) hroll hplk
  · intro hasks hnew c want free h
    refine ⟨fun st hst => ?_, fun hfree hok hahead hq hon hlow hc => ?_⟩
    · obtain ⟨hrequest, hne⟩ := hoRequest_refused hst
      exact execHoRequest_refused hasks hnew tid hrequest hne
    · obtain ⟨hwant, hslot⟩ := hahead
      exact execHoRequest_prepared hasks hnew tid (prepared_handOverSet want hq hc hlow) (hoRequest_prepared hfree hok hwant hslot hq hon)
  · intro ho hslot harm hcore hne hp hq _ hrun hwait
    exact execCoreSwap_handOver ho hslot harm hcore hne hp hq hrun hwait

end Sys2Proof.Proofs
end
